-- ==== Sys2Proof/Word.lean ====
section
/-! DEFINITION. The word types of the HJ6416 and the type of a sparse table. -/

namespace Sys2Proof

/-- R8: every register is 32 bits wide; table entries, descriptors and records are sequences of
such words. -/
abbrev Word := BitVec 32

/-- One byte of a frame, of host memory or of DRAM. -/
abbrev Byte := BitVec 8

/-- A sparse table: pairs of a key and a value, keys strictly rising, no pair holding what an
unlisted key reads as (`Machine/Tab.lean` has its operations and says the form). -/
abbrev Tab (α : Type) := List (Nat × α)

end Sys2Proof
end

