-- ==== Sys2Proof/Syntax.lean ====
section
/-! DEFINITION. The commands of the HJ6416: one constructor for each row of the table of operations
and events, with the operands the outside world gives it. What the spec leaves to the surroundings
(a frame's bytes, what host memory or a module returns, a memory upset, which of several free units
is chosen) is an operand, so a statement about a command holds for every such value. -/

namespace Sys2Proof

/-- R175, R212: the requesters whose private copies, ownership and latches the device keeps apart. -/
inductive Req where
  | host0 | host1 | chain
  deriving DecidableEq, Repr

/-- How a register access reaches the device: through a window of a host's BAR0 (R275), or by its
internal address (R7) from a requester; `config` is a configuration access to a host's function
(R270-R272), and `subsystem` the chain's access to the subsystem word of its header (R271). -/
inductive Path where
  | bar0 (h : Fin 2) (off : Nat)
  | config (h : Fin 2) (off : Nat)
  | internal (r : Req) (addr : Nat)
  | bar2 (h : Fin 2) (off : Nat)
  | subsystem (h : Fin 2)
  deriving DecidableEq, Repr

/-- R57, R225: what a flush engine empties. -/
inductive FlushUnit where
  | port (lp : Fin 256)
  | host (h : Fin 2)
  deriving DecidableEq, Repr

/-- R64: how a transaction on a cage bus ends: acknowledged, not acknowledged, or with the bus held low. -/
inductive BusEnd where
  | ack | nack | heldLow
  deriving DecidableEq, Repr

/-- R63, R64: what the poll of an expander brings: its two input bytes, or how it failed. -/
inductive ExpRead where
  | data (w : BitVec 16)
  | failed (e : BusEnd)
  deriving DecidableEq, Repr

/-- R428, R429: a supply that fails: a rail below its minimum for more than 1 µs (`below`), VDDQ_DDR among them
(`ddrRail`), the supply of a DRAM channel's devices (`ddrDevices`), or VDD_AON or VDDIO_1V8 so low that a power-on reset
follows, at whose end the straps are sampled and the fuses sensed (`por`). -/
inductive RailLoss where
  | below | ddrRail
  | ddrDevices (c : Fin 4)
  | por (straps : BitVec 4) (senseFault : Bool)
  deriving DecidableEq, Repr

/-- R273: the requests that receive an Unsupported Request completion. -/
inductive BadTlp where
  | io | lockedRead | atomic
  deriving DecidableEq, Repr

/-- R341: who asks for a DRAM access. -/
inductive DramUser where
  | telemetry | host (h : Fin 2) | dma (ch : Fin 16) | scrub | migration | freezeCopy | chain
  deriving DecidableEq, Repr

/-- R334, R353: what the code of a protected word says about a read. -/
inductive EccResult where
  | good | corrected | uncorrectable
  deriving DecidableEq, Repr

/-- R353: the protected memories. `station`, `neighbour` and `treeMem`, `copyTab` are read at a
replica or a port group. -/
inductive Sram where
  | buffer (quadrant : Fin 4) | holding (pg : Fin 8) | descriptor | station (k : Fin 4)
  | neighbour (k : Fin 4) | treeMem (c : Fin 64) | copyTab (pg : Fin 8) | repList | masters
  | scratch (c : Fin 64) | queueState (pg : Fin 8) | history
  | pipeState (pg : Fin 8) | ringMem | telemetryMem | hostIf (h : Fin 2)
  deriving DecidableEq, Repr

/-- R348, source 28: what the die-to-die bridge reports. -/
inductive BridgeEvent where
  | retry | lane | uncorrectable
  deriving DecidableEq, Repr

/-- R192: one sub-descriptor of a BULK_STAGE with the data words read for it, none where that read
failed. -/
structure BulkSub where
  desc : List Word
  data : Option (List Word)
  deriving DecidableEq, Repr

/-- The commands, in the order of the table. -/
inductive Instr where
  /-- RECEIVE_FRAME, R47: The MAC finishes receiving a frame, runs its alignment, runt, length and FCS checks, and hands a surviving frame to the dealer (`bytes` is the frame from destination address to FCS, `aligned` is false when loss of alignment cut it short, `sof` the device time its start-of-frame delimiter was sampled with, `slots` the pipes of the group that have a free header slot). -/
  | receiveFrame (lp : Fin 256) (bytes : List Byte) (aligned : Bool) (sof : Nat) (slots : BitVec 6)
  /-- OVERFLOW_SEARCH, R92: A queued exact-key search of the overflow store is served, or it is refused as overflow busy when its queue is full (the head of the group's search queue). -/
  | overflowSearch (pg : Fin 8)
  /-- DISPATCH, R112: A waiting frame is given to an eligible cluster's free thread by smooth weighted round robin, or dropped with NO_ELIGIBLE_CLUSTER. -/
  | dispatch (pg : Fin 8)
  /-- MICROWORD_ISSUE, R123: A thread issues one microword, whose ALU, memory, verdict, lock and next-address fields all take effect together (`slot` is the slot-table slot of the engine's cycle, `upset` the bits of the fetched word that an upset flips (0: none)). -/
  | microwordIssue (c : Fin 64) (e : Fin 17) (t : Fin 8) (slot : Fin 16) (upset : BitVec 144)
  /-- TREE_READ_RETURN, R121: A tree node read returns into N0 to N7 and satisfies the TREE event (`ecc`: the read is uncorrectable). -/
  | treeReadReturn (c : Fin 64) (e : Fin 17) (t : Fin 8) (ecc : Bool)
  /-- SCRATCH_LOAD_RETURN, R121: A scratch load returns into SCR and satisfies the LOAD event (`ecc`: the read is uncorrectable). -/
  | scratchLoadReturn (c : Fin 64) (e : Fin 17) (t : Fin 8) (ecc : Bool)
  /-- COUNTER_ADD_RETURN, R121: A counter add returns the old value into CNT and satisfies the COUNT event. -/
  | counterAddReturn (c : Fin 64) (e : Fin 17) (t : Fin 8)
  /-- STORE_BUFFER_DRAIN, R130: One store-buffer entry reaches scratch, in program order (`ecc`: what a counter add reads there is uncorrectable). -/
  | storeBufferDrain (c : Fin 64) (e : Fin 17) (t : Fin 8) (ecc : Bool)
  /-- LOCK_GRANT, R131: A lock line is granted to the next requester in order of request. -/
  | lockGrant (c : Fin 64) (line : Fin 64)
  /-- BACKGROUND_START, R137: An engine starts background work from BG_ENTRY in an idle thread while background credit remains. -/
  | backgroundStart (c : Fin 64) (e : Fin 17) (t : Fin 8)
  /-- RESEQUENCE, R26: The resequencer releases a logical port's next verdict or marker in sequence order. -/
  | resequence (lp : Fin 256)
  /-- POLICE, R232: The policer unit applies the class, total and port policers to a frame, and passes and debits it or drops it (the group's next released frame; `busy`: its home's operation queue is full, `holdEcc`: its holding-store read is uncorrectable, `buf`: the device's choice of a buffer within the block). -/
  | police (pg : Fin 8) (holdEcc : Bool) (buf : Nat)
  /-- REPLICA_ENQUEUE, R221: A pending replica queue enqueues up to six descriptors per cycle into their target queues (pending replica queue 0-7 of a port group, 8 of the host queues; `n` descriptors). -/
  | replicaEnqueue (q : Fin 9) (n : Fin 7)
  /-- SCHEDULER_PICK, R238: A logical port's scheduler picks a head frame by strict level and deficit round robin, and the shapers are debited. -/
  | schedulerPick (lp : Fin 256)
  /-- EGRESS_READ_START, R242: The egress pipe begins reading and rewriting a picked frame once cut-through or store-and-forward allows it (`delay` (ns) to the hand-over of the first byte to the MAC, `ecc`: the buffer read is uncorrectable). -/
  | egressReadStart (lp : Fin 256) (delay : Nat) (ecc : Bool)
  /-- TRANSMIT_END, R248: The MAC sends a frame to its end, the frame is counted OUT, and its sojourn is binned. -/
  | transmitEnd (lp : Fin 256)
  /-- HOST_QUEUE_PICK, R304: A host's scheduler picks a host queue whose punt ring has prefetched buffers long enough for its head frame. -/
  | hostQueuePick (h : Fin 2)
  /-- PUNT_WRITE, R306: A punted frame has been written into punt buffers and its descriptors written back, and it is counted OUT. -/
  | puntWrite (h : Fin 2)
  /-- PORT_DOWN_FLUSH, R57: The flush engine discards queued descriptors of a down sub-port or absent host at up to 750 M per second (up to `n` descriptors). -/
  | portDownFlush (u : FlushUnit) (n : Nat)
  /-- AGE_CHECK, R224: An age checker visits a queue head and discards heads older than LIMIT with AGE_LIMIT (one visit, up to `n` discards). -/
  | ageCheck (q : Fin 2592) (n : Nat)
  /-- PORT_CFG_WRITE, R49: A write of PG_PORT_CFGp sets its fields, leaving MODE or MEDIA unchanged where it is reserved or MODE is not permitted. -/
  | portCfgWrite (r : Req) (pg : Fin 8) (p : Fin 8) (v : Word)
  /-- SUB_PORT_ENABLE, R55: Setting MAC_LP_CTL.EN reads the lane fields and moves the sub-port to TRAINING or ALIGNING, or sets CFG_ERR (a write of MAC_LP_CTL with EN 1). -/
  | subPortEnable (r : Req) (lp : Fin 256) (v : Word)
  /-- SUB_PORT_DISABLE, R55: Clearing MAC_LP_CTL.EN forces the sub-port down to DISABLED (a write of MAC_LP_CTL with EN 0). -/
  | subPortDisable (r : Req) (lp : Fin 256) (v : Word)
  /-- TRAINING_COMPLETE, R55: Auto-negotiation and link training complete, and the sub-port moves to ALIGNING. -/
  | trainingComplete (lp : Fin 256)
  /-- UP_HOLD_EXPIRY, R55: Link conditions have stayed clear for UP_HOLD ms, and the sub-port enters UP. -/
  | upHoldExpiry (lp : Fin 256)
  /-- LINK_FAULT, R55: AM_LOCK falls, or a local fault, remote fault or high SER rises, moving an UP sub-port to HOLD (the receiver's conditions as they now stand). -/
  | linkFault (lp : Fin 256) (am lf rf hs : Bool)
  /-- DOWN_HOLD_EXPIRY, R55: At the end of DOWN_HOLD, the sub-port returns to UP or goes down. -/
  | downHoldExpiry (lp : Fin 256)
  /-- SUB_PORT_AUTO_RESUME, R55: A sub-port forced down by its cage or SX domain leaves DISABLED on its own once both are ready again. -/
  | subPortAutoResume (lp : Fin 256)
  /-- EXPANDER_INIT, R63: Setting POLL_EN writes every expander's safe outputs and then its direction registers (a write of CAGE_BUS_CFG with POLL_EN 1). -/
  | expanderInit (r : Req) (pg : Fin 8) (v : Word)
  /-- CAGE_POLL, R63: Once per PERIOD, the expanders' inputs are read and presence, buttons, interrupts and failures to answer drive the cage states (what the read of each of the four expanders brought). -/
  | cagePoll (pg : Fin 8) (inputs : List ExpRead)
  /-- EXPANDER_OUTPUT_WRITE, R63: An output write caused by a poll or a cage transition is issued to an expander. -/
  | expanderOutputWrite (pg : Fin 8) (e : BusEnd)
  /-- MODULE_TRANSFER, R65: Writing GO of CAGE_XFER_CTL starts a module transfer, or sets ERR at once if it is refused (a write of CAGE_XFER_CTL). -/
  | moduleTransfer (r : Req) (pg : Fin 8) (v : Word)
  /-- TRANSFER_SEGMENT, R63: One segment of up to 16 bytes of a module transfer completes through the I2C switch, and the last one clears GO (`data`: what the module returned, for a read). -/
  | transferSegment (pg : Fin 8) (e : BusEnd) (data : List Byte)
  /-- STRETCH_TIMEOUT, R437: A target stretching the clock beyond 2.5 ms ends its transfer with ERR, or counts as an unanswering expander (none: the module of the transfer in progress). -/
  | stretchTimeout (pg : Fin 8) (expander : Option (Fin 4))
  /-- PWR_SETTLE_EXPIRY, R66: PWR_SETTLE ms pass in POWERING, RELEASING or a reset pulse, and the cage moves to its next state. -/
  | pwrSettleExpiry (cg : Fin 64)
  /-- RELEASE_TIMEOUT, R66: BTN_TMO expires in RELEASE_REQ, leading to RELEASING or back to the earlier state. -/
  | releaseTimeout (cg : Fin 64)
  /-- POWER_ON, R68: The cage command POWER_ON moves a SAFE cage to POWERING. -/
  | powerOn (r : Req) (cg : Fin 64)
  /-- HIGH_POWER, R68: The cage command HIGH_POWER moves a LOW_POWER cage to HIGH_POWER. -/
  | highPower (r : Req) (cg : Fin 64)
  /-- LOW_POWER, R68: The cage command LOW_POWER moves a HIGH_POWER cage to LOW_POWER. -/
  | lowPower (r : Req) (cg : Fin 64)
  /-- RELEASE, R68: The cage command RELEASE forces the port's sub-ports down and begins RELEASING. -/
  | release (r : Req) (cg : Fin 64)
  /-- RESET_PULSE, R68: The cage command RESET_PULSE holds RST_N low for PWR_SETTLE ms. -/
  | resetPulse (r : Req) (cg : Fin 64)
  /-- CANCEL, R68: The cage command CANCEL returns a cage in RELEASE_REQ to its earlier state. -/
  | cancel (r : Req) (cg : Fin 64)
  /-- ASC_COPY_WRITE, R77: A pipe takes an associative entry write from the fan-out in one search slot. -/
  | ascCopyWrite (pipe : Fin 48)
  /-- ASC_COMPARE, R80: Every 200 ns, one master unit per bank is broadcast and compared in every pipe copy (`upsets`: (pipe, bank) pairs whose copy an upset has changed). -/
  | ascCompare (unit : Fin 512) (upsets : List (Nat × Nat))
  /-- ASC_REPAIR, R80: A differing associative copy is rewritten from the master in its pipe's next search slot. -/
  | ascRepair (pipe : Fin 48)
  /-- LEARN_INSERT, R98: The command unit serves a learning or move notice by inserting, moving or discarding the entry, or counts a failed insertion. -/
  | learnInsert
  /-- AGEING_VISIT, R101: The ageing sweep visits an entry, clearing hit bits, setting AGE1 or removing it, and clears SPILL where due. -/
  | ageingVisit
  /-- READ, R191: The table command READ returns an entry of a named copy, replica or master (`data`: what the read of DATA_ADDR returned, for a keyed table; `ok`: DATA_ADDR could be written). -/
  | read (data : Option (List Word)) (ok : Bool)
  /-- WRITE_INDEX, R191: The table command WRITE_INDEX writes an indexed entry, staged or unstaged (what the read of DATA_ADDR returned; not used for a direct bank). -/
  | writeIndex (data : Option (List Word))
  /-- INSERT, R191: The table command INSERT places a keyed or replication entry, staged or unstaged (as for WRITE_INDEX). -/
  | insert (data : Option (List Word))
  /-- DELETE, R191: The table command DELETE removes an entry, or marks it for removal when staged (as for WRITE_INDEX). -/
  | delete (data : Option (List Word))
  /-- SEARCH, R191: The table command SEARCH looks up a key for a given parity (as for READ). -/
  | search (data : Option (List Word)) (ok : Bool)
  /-- TREE_WRITE, R191: The table command TREE_WRITE writes a checked node into a FREE node, making it STAGED (as for WRITE_INDEX). -/
  | treeWrite (data : Option (List Word))
  /-- TREE_RETIRE, R191: The table command TREE_RETIRE marks a LIVE node RETIRING. -/
  | treeRetire
  /-- SET_ROOT, R191: The table command SET_ROOT writes the tree root of the staging parity. -/
  | setRoot
  /-- BEGIN_STAGE, R176: The table command BEGIN_STAGE opens staging and sets the staging parity's schema, root and seed, or waits, or is refused. -/
  | beginStage
  /-- WAITING_BEGIN_STAGE, R176: A BEGIN_STAGE that waited executes once STATE becomes IDLE, in order of arrival. -/
  | waitingBeginStage
  /-- COMMIT, R180: The table command COMMIT waits for earlier writes, checks the schema, makes STAGED nodes LIVE and sends the flip. -/
  | commit
  /-- PIPE_FLIP, R181: An ingress pipe takes the flip at its next header-slot acceptance and acknowledges it (pipe 6n + p of group n). -/
  | pipeFlip (pipe : Fin 48)
  /-- COMMIT_COMPLETE, R181: Every pipe of an Active group has acknowledged the flip, C takes the new parity, and STATE becomes DRAINING. -/
  | commitComplete
  /-- FLIP_TIMEOUT, R181: A pipe that has not acknowledged 1 µs after the flip raises a Crimson event, and its group's ingress is isolated. -/
  | flipTimeout
  /-- DRAIN_COMPLETE, R183: The ledger's count of old-parity frames reaches zero, and the settle moves to its sweep. -/
  | drainComplete
  /-- DRAIN_TIMEOUT, R183: DRAIN_MAX × 10 µs pass in DRAINING, and the settle enters FLUSHING. -/
  | drainTimeout
  /-- EPOCH_FLUSH, R184: Held frames of the old parity are discarded with EPOCH_STALE until none is left (up to `n` held frames of the old parity). -/
  | epochFlush (n : Nat)
  /-- SETTLE_SWEEP, R184: The settle sweep visits entries of the touched tables at 64 M per second, finalising or removing staged state (the next `n` entries). -/
  | settleSweep (n : Nat)
  /-- ABORT_STAGE, R189: The table command ABORT_STAGE starts undoing the open staging. -/
  | abortStage
  /-- FORCE_ABORT, R173: Writing EPC_CFG.FORCE_ABORT aborts the open staging as ABORT_STAGE does (a write of EPC_CFG). -/
  | forceAbort (r : Req) (v : Word)
  /-- ABORT_SWEEP, R189: The abort sweep undoes staged entries, nodes, copies, root and seed, and releases ownership when it ends (the next `n` entries). -/
  | abortSweep (n : Nat)
  /-- BULK_STAGE, R192: The table command BULK_STAGE executes its staging sub-descriptors in order until one fails (the sub-descriptors and their data as fetched, none for a failed fetch). -/
  | bulkStage (subs : Option (List BulkSub))
  /-- FLUSH_LEARNED, R191: The table command FLUSH_LEARNED removes matching learned entries at the sweep rate. -/
  | flushLearned
  /-- SETTLE_WAIT, R183: The table command SETTLE_WAIT completes at once when the epoch is settled, or waits for the settle or abort to end. -/
  | settleWait
  /-- AGE_NOW, R191: The table command AGE_NOW runs one ageing pass at the sweep rate. -/
  | ageNow
  /-- SET_WIDTH, R191: The table command SET_WIDTH sets an empty associative bank's width in the master and every pipe copy. -/
  | setWidth
  /-- TBL_CMD_GO, R198: Writing TBL_CMD_GO submits the descriptor of a direct command bank to the command unit. -/
  | tblCmdGo (r : Req) (bank : Fin 3) (v : Word)
  /-- CLUSTER_RESET, R136: Writing NEC_CTL.RESET drops every held packet with CLUSTER_RESET, discards store buffers and clears thread state (a write of NEC_CTL). -/
  | clusterReset (r : Req) (c : Fin 64) (v : Word)
  /-- CLUSTER_RESET_COMPLETE, R136: The cluster reset completes after 100 ns, and RESET reads 0. -/
  | clusterResetComplete (c : Fin 64)
  /-- SLOT_INVALIDATE, R138: Writing an NEC_CTL.INVAL bit marks an image slot invalid, unless it is the active slot while ADMIT is 1 (a write of NEC_CTL). -/
  | slotInvalidate (r : Req) (c : Fin 64) (v : Word)
  /-- ACTIVE_SLOT, R146: A write of NEC_CTL.ACTIVE_SLOT changes the executing slot only while the cluster is drained (a write of NEC_CTL). -/
  | activeSlot (r : Req) (c : Fin 64) (v : Word)
  /-- ADMIT, R138: A write of NEC_CTL.ADMIT admits the cluster, if its slot is valid and its group is not stale, or withdraws it from dispatch and discards sentinel samples (a write of NEC_CTL). -/
  | admitWrite (r : Req) (c : Fin 64) (v : Word)
  /-- SLOT_TABLE_SWITCH, R119: A committed slot table takes effect at the first rotation boundary after the commit. -/
  | slotTableSwitch (c : Fin 64)
  /-- IMAGE_LOAD_START, R144: Writing TBL_IMG_CTL.START begins a load into the selected clusters, abandoning any load in progress (a write of TBL_IMG_CTL). -/
  | imageLoadStart (r : Req) (v : Word)
  /-- IMAGE_LOAD_ABORT, R144: Writing TBL_IMG_CTL.ABORT fails the load in progress with ABORTED (a write of TBL_IMG_CTL). -/
  | imageLoadAbort (r : Req) (v : Word)
  /-- IMAGE_DATA, R145: A write of TBL_IMG_DATA appends four container bytes, which are checked as header, written as microwords or checked as CRC. -/
  | imageData (r : Req) (v : Word)
  /-- IMAGE_FILL_COMPLETE, R145: The zero fill of the target slots beyond CS_WORDS finishes, letting the load end DONE. -/
  | imageFillComplete
  /-- DIGEST_COMPARE, R356: The comparator compares the sentinel's digest with the primary's delivered digest. -/
  | digestCompare (c : Fin 64) (set : Fin 8)
  /-- DIGEST_RECHECK, R357: The rechecks of the primary and the sentinel complete, and the four digests decide a transient, a retirement or a checker fault. -/
  | digestRecheck (c : Fin 64) (set : Fin 8)
  /-- SPARE_TAKEN, R358: Once a retired engine's threads are done, the spare becomes active and HEALTHY is restored. -/
  | spareTaken (c : Fin 64)
  /-- KNOWN_ANSWER_SELF_TEST, R359: Once per second, the sentinel runs its ROM self-test, and a failure stops it as a checker fault (the step that failed, if one did). -/
  | knownAnswerSelfTest (c : Fin 64) (fail : Option (Fin 16))
  /-- REARM, R359: Writing NEC_SENT_CFG.REARM runs the self-test at once and resumes the sentinel if it passes (a write of NEC_SENT_CFG, and the step of the self-test that failed). -/
  | rearm (r : Req) (c : Fin 64) (v : Word) (fail : Option (Fin 16))
  /-- SENTINEL_ROTATION, R360: At the cluster's daily time, the next engine stops taking dispatch and drains, to become sentinel. -/
  | sentinelRotation (c : Fin 64)
  /-- ROTATION_COMPLETE, R360: The drained engine becomes sentinel, and the old sentinel becomes active. -/
  | rotationComplete (c : Fin 64)
  /-- RETIRE_WRITE, R363: Writing a bit of FLT_RETIREc retires the engine with cause 4. -/
  | retireWrite (r : Req) (c : Fin 64) (v : Word)
  /-- CHIP_COMMIT, R291: Writing CHIP_COMMIT commits the writer's staging copy of a 64-bit configuration register, with that register's checks. -/
  | chipCommit (r : Req) (v : Word)
  /-- INTERVAL_CLOSE, R251: At an interval boundary, each counting point latches its counts and flips its tag. -/
  | intervalClose
  /-- LEDGER_CHECK, R252: The TEL domain evaluates every account, raises LEDGER_IMBALANCE and files records, and exports the ledger records. -/
  | ledgerCheck
  /-- HISTOGRAM_PERIOD_END, R258: At the end of a histogram period, each queue's HISTOGRAM record is emitted and its bins restart. -/
  | histogramPeriodEnd
  /-- DIGEST_BATCH_EMIT, R263: A DIGEST batch is emitted when it is full or 10 µs after its first entry. -/
  | digestBatchEmit
  /-- BANDWIDTH_WINDOW_END, R259: At each window boundary, LAST and PEAK of every port are updated. -/
  | bandwidthWindowEnd
  /-- PEAK_CLEAR_PORT, R259: Writing TEL_BW_CLR bit 0 clears both PEAKs of the indexed port (a write of TEL_BW_CLR). -/
  | peakClearPort (r : Req) (v : Word)
  /-- PEAK_CLEAR_ALL, R259: Writing TEL_BW_CLR bit 1 clears every port's PEAKs (a write of TEL_BW_CLR). -/
  | peakClearAll (r : Req) (v : Word)
  /-- COUNTER_GROUP_CLEAR, R260: Writing a bit of PMC_CLR clears a group of 16 event counters (a write of PMC_CLR_LO or PMC_CLR_HI). -/
  | counterGroupClear (r : Req) (hi : Bool) (v : Word)
  /-- IMBALANCE_POP, R255: A read of LED_IMB_HEAD returns the head imbalance record and pops it. -/
  | imbalancePop (r : Req)
  /-- MC_LOG_POP, R141: A read of NEC_MC_LOG returns the head machine-check record and pops it. -/
  | mcLogPop (r : Req) (c : Fin 64)
  /-- HISTORY_POP, R350: A read of FLT_HIST_HEAD returns the oldest fault record and pops it (`ecc`: the read of the history memory is uncorrectable). -/
  | historyPop (r : Req) (ecc : Bool)
  /-- COUNTER_READ_CLEAR, R10: An ordinary read of an RC counter returns its value and clears it. -/
  | counterReadClear (p : Path)
  /-- LOW_WORD_LATCH, R9: Reading a 64-bit counter's low word latches the high word for the same requester. -/
  | lowWordLatch (p : Path)
  /-- REGISTER_WRITE, R10: A write to a register without a row of its own sets RW fields, clears RW1C bits and ignores the rest. -/
  | registerWrite (p : Path) (v : Word)
  /-- MISALIGNED_ACCESS, R8: A misaligned or wrong-size register access completes, reads zero, writes nothing and logs HOST_ACCESS (an access of another size or alignment than R8's). -/
  | misalignedAccess (h : Fin 2) (addr : Nat) (write : Bool)
  /-- UNSUPPORTED_REQUEST, R273: An I/O request, locked read or atomic operation receives an Unsupported Request completion. -/
  | unsupportedRequest (h : Fin 2) (kind : BadTlp)
  /-- BAR4_ACCESS, R280: A host access through a BAR4 window reads table memory, or reads and writes DRAM, or is refused (`len` bytes, and for a write those bytes). -/
  | bar4Access (h : Fin 2) (off : Nat) (len : Nat) (write : Option (List Byte))
  /-- VECTOR_UNMASK, R284: Unmasking a pending MSI-X vector sends its message and clears the pending bit. -/
  | vectorUnmask (h : Fin 2) (vec : Fin 128)
  /-- L0S_ENTRY, R286: The transmitter enters L0s after L0S_IDLE × 64 ns without traffic. -/
  | l0sEntry (h : Fin 2)
  /-- L1_ENTRY, R286: The function requests L1 after L1_IDLE µs without TLPs. -/
  | l1Entry (h : Fin 2)
  /-- LINK_UP, R269: A PCIe link trains after PERST release and accepts configuration requests (lanes and rate code that both ends support). -/
  | linkUp (h : Fin 2) (width : Nat) (speed : Nat)
  /-- LINK_DOWN, R288: The host's link leaves DL_Active, and the host is lost with LOSS 1. -/
  | linkDown (h : Fin 2)
  /-- HOT_RESET, R288: A hot reset makes the host lost with LOSS 2. -/
  | hotReset (h : Fin 2)
  /-- FUNCTION_LEVEL_RESET, R288: A function-level reset makes the host lost with LOSS 3. -/
  | functionLevelReset (h : Fin 2)
  /-- PERST_ASSERT, R288: The assertion of PERSTh_N makes the host lost with LOSS 4. -/
  | perstAssert (h : Fin 2)
  /-- BUS_MASTER_DISABLE, R288: Clearing Bus Master Enable or moving to D3hot makes the host lost with LOSS 5. -/
  | busMasterDisable (h : Fin 2)
  /-- LEAVE, R290: Writing PCI_HOST_CTL.LEAVE makes the host lost with LOSS 6 (a write of PCI_HOST_CTL). -/
  | leave (r : Req) (h : Fin 2) (v : Word)
  /-- PRESENT, R290: Writing PCI_HOST_CTL.PRESENT ends the host's absence, unless Bus Master Enable is 0 (a write of PCI_HOST_CTL). -/
  | present (r : Req) (h : Fin 2) (v : Word)
  /-- PALE_RETURN, R374: A domain woken from Pale returns to Pale after 10 µs without an access. -/
  | paleReturn (k : Fin 26)
  /-- RNG_NUDGE, R295: Writing RNG_NUDGE starts a doorbell fetch, or schedules one after the fetch in progress. -/
  | rngNudge (r : Req) (h : Fin 2) (v : Word)
  /-- DOORBELL_POLL, R295: With NUDGE_EN 0, a doorbell fetch starts every POLL µs. -/
  | doorbellPoll (h : Fin 2)
  /-- DOORBELL_FETCH_COMPLETE, R295: The doorbell record arrives and updates host counts, with range checks, or the failed fetch sets DB_FAULT (the record as read, none for a failed fetch). -/
  | doorbellFetchComplete (h : Fin 2) (words : Option (List Word))
  /-- DESCRIPTOR_FETCH, R297: The device reads up to 16 descriptors from an enabled host-filled ring in round robin. -/
  | descriptorFetch (h : Fin 2) (t : Fin 52)
  /-- DESCRIPTOR_FETCH_COMPLETE, R297: Fetched descriptors arrive and are acted on in ring order, or a failure stops the ring (the descriptors as read, none for a failed fetch). -/
  | descriptorFetchComplete (h : Fin 2) (t : Fin 52) (descs : Option (List (List Word)))
  /-- WRITE_BACK, R296: The device writes a ring's device count to its write-back word after the entries it covers. -/
  | writeBack (h : Fin 2) (t : Fin 52)
  /-- RING_ENABLE, R294: Setting RNG_CFGt.EN resets the device count and reads the ring settings, once the ring is idle (`count`: the ring's word of the doorbell record as read). -/
  | ringEnable (r : Req) (h : Fin 2) (t : Fin 52) (v : Word) (count : Word)
  /-- RING_DISABLE, R299: Clearing RNG_CFGt.EN stops fetching from the ring, and work already fetched completes. -/
  | ringDisable (r : Req) (h : Fin 2) (t : Fin 52) (v : Word)
  /-- INJECT_PIPELINE_ENTRY, R309: A pipeline-entry inject frame is dealt in a cycle with no MAC frame waiting, or dropped as ISOLATED or INJECT_INVALID (`late`: the rest of the frame's data read fails after it has been dealt). -/
  | injectPipelineEntry (h : Fin 2) (j : Fin 16) (slots : BitVec 6) (macWaiting : Bool) (late : Bool)
  /-- INJECT_DIRECT_ENTRY, R29: A direct-entry inject frame goes to admission for its named port and queue. -/
  | injectDirectEntry (h : Fin 2) (j : Fin 16) (buf : Nat)
  /-- INJECT_DATA_READ, R308: An inject frame's data read completes or fails, and word 7 and the device count are written (the frame without FCS, none for a failed read). -/
  | injectDataRead (h : Fin 2) (j : Fin 16) (data : Option (List Byte))
  /-- DMA_GO, R318: Writing DMA_CTL.GO increments RUN and starts the channel's program at index 0. -/
  | dmaGo (r : Req) (ch : Fin 16) (v : Word)
  /-- DMA_ABORT, R318: Writing DMA_CTL.ABORT stops a running channel in ABORTED after the current burst. -/
  | dmaAbort (r : Req) (ch : Fin 16) (v : Word)
  /-- PROGRAM_FETCH, R312: A channel's read of up to 16 program instructions completes, or a failure stops it in STOPPED (the instructions as read, none for a failed fetch). -/
  | programFetch (ch : Fin 16) (prog : Option (List (List Word)))
  /-- MOVE, R314: The DMA instruction MOVE copies LEN bytes between host and internal space (the bytes host memory returned, and whether the whole read succeeded). -/
  | move (ch : Fin 16) (src : List Byte) (srcOk : Bool)
  /-- LOOP, R314: The DMA instruction LOOP repeats a range of instructions COUNT + 1 times. -/
  | loop (ch : Fin 16)
  /-- WAIT, R314: The DMA instruction WAIT delays for TIME µs or polls an internal word. -/
  | wait (ch : Fin 16)
  /-- WAIT_POLL, R314: Once per microsecond, a polling WAIT peeks its word and ends on a match. -/
  | waitPoll (ch : Fin 16)
  /-- WAIT_EXPIRY, R314: A WAIT's TIME passes, ending a delay, or failing a poll with TIMEOUT. -/
  | waitExpiry (ch : Fin 16)
  /-- SIGNAL, R314: The DMA instruction SIGNAL writes VALUE and with INT sets SIGNALED. -/
  | signal (ch : Fin 16)
  /-- FENCE, R314: The DMA instruction FENCE waits for all earlier writes of the channel to be acknowledged. -/
  | fence (ch : Fin 16)
  /-- NOP, R313: The DMA instruction NOP does nothing. -/
  | nop (ch : Fin 16)
  /-- DMA_END, R314: The DMA instruction END stops the channel in DONE and sets ENDED. -/
  | dmaEnd (ch : Fin 16)
  /-- WRITE_ACKNOWLEDGE, R315: A channel's write is acknowledged by its target, or confirmed by a flushing read, releasing a BAR or FENCE wait. -/
  | writeAcknowledge (ch : Fin 16) (host : Bool) (ok : Bool)
  /-- TRAIN, R323: Writing DRC_CFG.TRAIN starts bring-up of the enabled channels, or sets CFG_ERR for a refused configuration (a write of DRC_CFG). -/
  | train (r : Req) (v : Word)
  /-- TRAINING_DONE, R326: A channel's training ends, in SERVICE or in FAILED. -/
  | trainingDone (c : Fin 4) (ok : Bool)
  /-- REFRESH, R328: Each rank receives an all-bank refresh every tREFI, unless it is postponed. -/
  | refresh (c : Fin 4) (rank : Fin 4) (postpone : Bool)
  /-- TEMPERATURE_READ, R328: Every 256 µs the refresh-rate register of every device is read to choose tREFI (`hot`: some device reports more than 85 °C). -/
  | temperatureRead (c : Fin 4) (hot : Bool)
  /-- ZQ_CALIBRATION, R327: Every 128 ms a channel runs ZQ calibration. -/
  | zqCalibration (c : Fin 4) (ok : Bool)
  /-- DQS_OSCILLATOR_CHECK, R327: Every 100 ms a channel runs a DQS oscillator check. -/
  | dqsOscillatorCheck (c : Fin 4) (ok : Bool)
  /-- DRAM_REQUEST, R329: A read or write request arrives at a channel's queue, split at 64-byte boundaries. -/
  | dramRequest (who : DramUser) (addr : Nat) (len : Nat) (write : Option (List Byte))
  /-- DRAM_READ, R334: A queued read is served, corrected or found uncorrectable, with its error handling (queue position `pick`). -/
  | dramRead (c : Fin 4) (pick : Nat) (ecc : EccResult)
  /-- DRAM_WRITE, R329: A queued write is issued to the devices (queue position `pick`). -/
  | dramWrite (c : Fin 4) (pick : Nat)
  /-- WRITE_DRAIN, R329: A write queue reaching 48 entries or a write waiting 20 µs starts a drain of writes. -/
  | writeDrain (c : Fin 4)
  /-- SELF_REFRESH_ENTRY, R332: A channel idle for SR_IDLE µs, or whose domain sleeps, enters self-refresh. -/
  | selfRefreshEntry (c : Fin 4)
  /-- SELF_REFRESH_EXIT, R332: A request or the domain's return brings a channel out of self-refresh. -/
  | selfRefreshExit (c : Fin 4)
  /-- PATROL_SCRUB, R334: The patrol scrub reads the next usable address and rewrites corrected data. -/
  | patrolScrub (c : Fin 4) (ecc : EccResult)
  /-- MIGRATION_CHUNK, R336: One 256-byte chunk of the failing rank is copied to the spare, and the last one completes the migration. -/
  | migrationChunk (c : Fin 4) (eccs : List EccResult)
  /-- OFFLINE, R338: The ACTION OFFLINE takes a channel out of service into self-refresh and moves its regions (a write of DRC_CHn_CTL). -/
  | offline (r : Req) (c : Fin 4) (v : Word)
  /-- DRAM_RESUME, R335: The ACTION RESUME returns a FROZEN channel to SERVICE (a write of DRC_CHn_CTL). -/
  | dramResume (r : Req) (c : Fin 4) (v : Word)
  /-- MIGRATE, R337: The ACTION MIGRATE starts a migration of the named rank to the spare (a write of DRC_CHn_CTL). -/
  | migrate (r : Req) (c : Fin 4) (v : Word)
  /-- FAULT_WINDOW_END, R347: At each WINDOW boundary, every source's Blue count restarts. -/
  | faultWindowEnd
  /-- HISTORY_LOST, R352: Writing 1 to HISTORY_LOST empties and rewrites the history memory and returns to it (a write of FLT_STATUS3). -/
  | historyLost (r : Req) (v : Word)
  /-- SRAM_SCRUB, R353: The scrub reads one ECC word of a memory, rewriting or repairing it. -/
  | sramScrub (m : Sram) (idx : Nat) (ecc : EccResult)
  /-- CONTROL_STORE_SCRUB, R354: The parity of a microword is checked, and a bad one is rewritten from a partner cluster. -/
  | controlStoreScrub (c : Fin 64) (slot : Fin 2) (addr : Fin 16384) (upset : BitVec 144)
  /-- AGEING_MEASURE, R365: Every 60 s an ageing monitor measures its drift and raises AGE_WARN or AGE_ALARM. -/
  | ageingMeasure (m : Fin 20) (drift : BitVec 16)
  /-- ONLINE_TEST_START, R367: Writing FLT_TEST.GO starts a cluster, port group or quadrant test, or refuses it. -/
  | onlineTestStart (r : Req) (v : Word)
  /-- ONLINE_TEST_END, R367: A test ends with pass or fail, and a failure retires, isolates or keeps the unit offline. -/
  | onlineTestEnd (failed : Bool) (engines : BitVec 17) (checker : Bool)
  /-- QUADRANT_OFFLINE, R226: A write of BUF_QUAD_CTL.OFFLINE stops or resumes allocation from quadrants, refusing a second OFFLINE bit. -/
  | quadrantOffline (r : Req) (v : Word)
  /-- SHADE_REQUEST, R373: A write of PWR_DOMk.TARGET requests a shade and is refused if the domain may not leave Active (a write of PWR_DOMk). -/
  | shadeRequest (r : Req) (k : Fin 26) (v : Word)
  /-- SHADE_STEP, R370: A domain completes one step of its move on the shade ladder, and the next step is checked. -/
  | shadeStep (k : Fin 26)
  /-- DOMAIN_RESET, R382: A domain reset returns the domain to reset as if it had been in Black (a write of PWR_DOMk). -/
  | domainReset (r : Req) (k : Fin 26) (v : Word)
  /-- RELOAD_START, R375: Writing PWR_RELOAD.GO starts copying the master copies into a stale port group. -/
  | reloadStart (r : Req) (v : Word)
  /-- RELOAD_COMPLETE, R375: A group's reload ends, and its STALE bit clears. -/
  | reloadComplete (pg : Fin 8)
  /-- PPS_EDGE, R379: An accepted PPS edge records TIME_ERR, trims or steps device time, or applies an armed set. -/
  | ppsEdge
  /-- PPS_FAULT, R379: No PPS edge within 1.1 s raises PPS_FAULT. -/
  | ppsFault
  /-- TIME_SET_SEC, R380: Writing TIME_SET_SEC arms a set of device time, or steps it at once while PPS_EN is 0. -/
  | timeSetSec (r : Req) (v : Word)
  /-- POWER_ON_RESET, R382: POR_N low resets everything, and its release samples the straps and senses the fuses (the strap pins: bit 0 PCIE_MODE, 1 REFSEL, 2 CHN_TERM, 3 TEST_MODE). -/
  | powerOnReset (straps : BitVec 4) (senseFault : Bool)
  /-- CHIP_RESET, R382: A chip reset returns every domain except AON to the inert state, ending any freeze (a write of CHIP_CTL). -/
  | chipReset (r : Req) (v : Word)
  /-- FWD_EN, R383: Setting CHIP_CTL.FWD_EN enables forwarding for good, and FORCE_START clears once the first COMMIT has completed (a write of CHIP_CTL). -/
  | fwdEn (r : Req) (v : Word)
  /-- PLL_LOCK, R378: A PLL that loses lock stops its clock domains and raises PLL_LOCK (the clock domain whose PLL lost lock). -/
  | pllLock (k : Fin 156)
  /-- RAIL, R429: A rail below its minimum for more than 1 µs raises the Crimson RAIL event, or forces a power-on reset (VDD_AON fell below 0.60 V or VDDIO_1V8 below 1.50 V). -/
  | rail (loss : RailLoss) (detail : Word)
  /-- THERMAL_EVENT, R438: Junction temperature reaching TJ_MAX or TJ_MAX + 10 °C raises THERMAL_WARN or THERMAL_CRIT (junction temperature (°C)). -/
  | thermalEvent (temp : Int)
  /-- CHAIN_FRAME, R388: A chain frame is received whole and forwarded, consumed or updated, and a bad CRC is counted (the words of the frame, the CRC word last). -/
  | chainFrame (words : List Word)
  /-- ENUM, R393: The chain command ENUM assigns each unit its address from the broadcast count. -/
  | enum
  /-- IDENT, R392: The chain command IDENT returns eight identity words. -/
  | ident
  /-- PEEK, R395: The chain command PEEK returns words without side effects. -/
  | peek
  /-- CHAIN_READ, R395: The chain command READ performs ordinary register reads by the chain. -/
  | chainRead
  /-- CHAIN_WRITE, R390: The chain command WRITE writes register words. -/
  | chainWrite
  /-- FREEZE, R402: The chain command FREEZE makes the device originate a freeze. -/
  | freeze
  /-- CHAIN_RESET, R390: The chain command RESET with its key responds and then performs a chip reset. -/
  | chainReset
  /-- READOUT, R407: The chain command READOUT starts streaming the directory and the selected frozen sections, or with mask 0 ends one. -/
  | readout
  /-- READOUT_BURST, R407: The next 4 KiB burst of a read-out is sent as a response frame. -/
  | readoutBurst
  /-- IMAGE, R408: The chain command IMAGE starts copying the frozen state into the freeze image area, or returns NO_AREA. -/
  | image
  /-- IMAGE_COPY_DONE, R408: The freeze image copy ends, and its response is sent. -/
  | imageCopyDone
  /-- BLOW, R409: The chain command BLOW with its key starts blowing FZ_PAYLOAD or FZ_DEBUG. -/
  | blow
  /-- FUSE_BLOWN, R409: The blow completes, the fuse reads 1, and the response is sent. -/
  | fuseBlown
  /-- ASSERT, R404: Writing CHN_FRZ_CTL.ASSERT with KEY 0xF2 originates a freeze (a write of CHN_FRZ_CTL). -/
  | assert (r : Req) (v : Word)
  /-- FREEZE_N_LOW, R402: FREEZE_N seen low with IN_EN set freezes the device without driving the line. -/
  | freezeNLow
  /-- CLOCK_STOP, R403: 2.56 µs after the freeze, every device-generated clock stops, device time stops and the PCIe links go down. -/
  | clockStop
  /-- HALT, R398: The debug operation HALT stops threads before their next microword, after any locked sequence (a write of DBG_CMD). -/
  | halt (r : Req) (v : Word)
  /-- FORCE_HALT, R398: The debug operation FORCE_HALT stops threads at the next cycle and breaks any lock (a write of DBG_CMD). -/
  | forceHalt (r : Req) (v : Word)
  /-- RESUME, R398: The debug operation RESUME returns halted threads to the state they left (a write of DBG_CMD). -/
  | resume (r : Req) (v : Word)
  /-- STEP, R398: The debug operation STEP issues one microword of a halted thread and halts it again (a write of DBG_CMD). -/
  | step (r : Req) (v : Word)
  /-- ABORT_PKT, R398: The debug operation ABORT_PKT drops a halted thread's packet with DEBUG_ABORT and idles the thread (a write of DBG_CMD). -/
  | abortPkt (r : Req) (v : Word)
  /-- HALT_MAX_EXPIRY, R399: A thread halted with a packet for HALT_MAX µs is treated as if ABORT_PKT had been issued. -/
  | haltMaxExpiry (c : Fin 64) (e : Fin 17) (t : Fin 8)
  /-- ALIGNMENT_MARKER_LOCK, R55: In ALIGNING, AM_LOCK rises with LOCAL_FAULT, REMOTE_FAULT and HI_SER clear, which starts the UP_HOLD count, or enters UP at once when UP_HOLD is 0. -/
  | alignmentMarkerLock (lp : Fin 256)
  /-- SERDES_CAL, R431: A SerDes reference that stops while its chiplet is Active, or a failed SerDes calibration, raises the Orange SERDES_CAL event and forces down every sub-port of the affected chiplets. -/
  | serdesCal (sx : Fin 8) (refLost : Bool)
  /-- BRIDGE_LANE, R348: The die-to-die bridge retries a transfer, loses a lane, or finds an uncorrectable error, and raises BRIDGE_RETRY, BRIDGE_LANE or the Crimson UNCORRECTABLE event of source 28 with its reactions. -/
  | bridgeLane (ev : BridgeEvent) (detail : Word)
  /-- COALESCING_TIME_EXPIRY, R300: The oldest unconsumed entry of a completion, punt or telemetry ring reaches COAL_US µs of age, so the ring's interrupt source becomes active and rises. -/
  | coalescingTimeExpiry (h : Fin 2) (t : Fin 52)
  /-- FREEZE_N_HIGH, R402: After a reset, the device has seen FREEZE_N high for 1 µs and begins to honour the line again. -/
  | freezeNHigh
  /-- BUFFER_WRITE_END, R113: The buffer write of an admitted frame, paced at its ingress rate, ends with its last cell written, which releases its holding-store occupancy and permits a store-and-forward read (the buffer, by its address in cells). -/
  | bufferWriteEnd (b : Nat)
  deriving DecidableEq, Repr

end Sys2Proof
end

