-- ==== Sys2Proof/Config.lean ====
section
/-! DEFINITION. What the spec leaves open as a value, as constants with no body, and the figures that
the spec fixes for every part. -/

namespace Sys2Proof

/-- A fresh value for each request: the value of a result that the spec leaves undefined. `State.free`
counts the requests (log entry 4). -/
opaque Config.freeWord : Nat → Word

/-- R326: what an address of a DRAM channel reads as when its bring-up has left its contents undefined;
the first argument counts such bring-ups (log entry 5). -/
opaque Config.dramByte : Nat → Nat → Byte

end Sys2Proof
end

