-- ==== Sys2Proof/Machine/Bits.lean ====
section
/-! DEFINITION. Bit fields, byte order and the checksums that the spec names: CRC-32C (R88, R159,
R443), the frame and container CRC-32 (R47, R143) and the chain's CRC-16 (R445). -/

namespace Sys2Proof.Machine

open Sys2Proof

/-- Bits `hi:lo` of a word, as a number. -/
def fld (w : Word) (hi lo : Nat) : Nat := (w.toNat >>> lo) % 2 ^ (hi + 1 - lo)

/-- Bit `i` of a word. -/
def bit (w : Word) (i : Nat) : Bool := w.getLsbD i

/-- The number `v` placed in bits `hi:lo` of an otherwise zero word. -/
def put (hi lo v : Nat) : Word := BitVec.ofNat 32 ((v % 2 ^ (hi + 1 - lo)) <<< lo)

/-- A word with bits `hi:lo` replaced by `v`. -/
def setFld (w : Word) (hi lo v : Nat) : Word :=
  (w &&& ~~~ put hi lo (2 ^ (hi + 1 - lo) - 1)) ||| put hi lo v

/-- One bit as a word's bit `i`. -/
def flag (i : Nat) (b : Bool) : Word := if b then put i i 1 else 0

/-- A Boolean as a number. -/
def b2n (b : Bool) : Nat := if b then 1 else 0

/-- A number as a word, modulo 2^32. -/
def wd (n : Nat) : Word := BitVec.ofNat 32 n

/-- A word with a low and a high address half (R8). -/
def wide64 (lo hi : Word) : BitVec 64 := hi ++ lo

/-- The low word of 64 bits. -/
def lo32 (v : BitVec 64) : Word := v.setWidth 32

/-- The high word of 64 bits. -/
def hi32 (v : BitVec 64) : Word := (v >>> 32).setWidth 32

/-- A number limited to what `bits` bits hold, for a counter that saturates. -/
def sat (bits n : Nat) : Nat := min n (2 ^ bits - 1)

/-- The two's complement of a limited integer, for a field that saturates. -/
def satInt (bits : Nat) (i : Int) : Nat :=
  let l : Int := 2 ^ (bits - 1)
  (Int.toNat ((max (-l) (min (l - 1) i)) % (2 ^ bits : Int)))

/-- The word at position `i` of a list of words; words beyond the list are zero. -/
def wAt (l : List Word) (i : Nat) : Word := (l[i]?).getD 0

/-- A list padded with zero words, or cut, to `n` words. -/
def padTo (n : Nat) (l : List Word) : List Word := (List.range n).map (wAt l)

/-- A list with position `i` replaced, padded with zero words as far as that. -/
def setAt (l : List Word) (i : Nat) (w : Word) : List Word :=
  (List.range (max l.length (i + 1))).map fun k => if k = i then w else wAt l k

/-- Byte `i` of a frame; bytes beyond its end are zero. -/
def bAt (l : List Byte) (i : Nat) : Byte := (l[i]?).getD 0

/-- Bytes `off` to `off + n - 1`, zero beyond the end. -/
def slice (l : List Byte) (off n : Nat) : List Byte := (List.range n).map fun k => bAt l (off + k)

/-- The 16-bit value at a byte offset, network byte order (R83). -/
def be16 (l : List Byte) (off : Nat) : Nat := (bAt l off).toNat * 256 + (bAt l (off + 1)).toNat

/-- The number that bytes spell, most significant first. -/
def beNat (l : List Byte) : Nat := l.foldl (fun a b => a * 256 + b.toNat) 0

/-- The `n` bytes of a number, most significant first. -/
def beBytes (n v : Nat) : List Byte :=
  (List.range n).map fun k => BitVec.ofNat 8 (v >>> (8 * (n - 1 - k)))

/-- The four bytes of a word, least significant first. -/
def leBytes (w : Word) : List Byte :=
  (List.range 4).map fun k => BitVec.ofNat 8 (w.toNat >>> (8 * k))

/-- The word that four bytes spell, least significant first. -/
def leWord (l : List Byte) (off : Nat) : Word :=
  BitVec.ofNat 32 ((bAt l off).toNat + (bAt l (off + 1)).toNat * 2 ^ 8 +
    (bAt l (off + 2)).toNat * 2 ^ 16 + (bAt l (off + 3)).toNat * 2 ^ 24)

/-- The words of a byte sequence, least significant byte first. -/
def leWords (n : Nat) (l : List Byte) : List Word := (List.range n).map fun k => leWord l (4 * k)

/-- The bytes of words, least significant byte first. -/
def wordBytes (l : List Word) : List Byte := l.flatMap leBytes

/-- `n` bytes of value zero. -/
def zeros (n : Nat) : List Byte := List.replicate n 0

/-- One bit step of a reflected CRC of 32 bits. -/
def crcStep (poly r : BitVec 32) : BitVec 32 :=
  if r.getLsbD 0 then (r >>> 1) ^^^ poly else r >>> 1

/-- One byte into a reflected CRC of 32 bits. -/
def crcByte (poly r : BitVec 32) (b : Byte) : BitVec 32 :=
  (List.range 8).foldl (fun a _ => crcStep poly a) (r ^^^ b.setWidth 32)

/-- R443: CRC-32C's register after the bytes, from a given initial value, without inversion. -/
def crc32c (init : Word) (l : List Byte) : Word := l.foldl (crcByte 0x82F63B78) init

/-- The register of the IEEE 802.3 CRC-32 after the bytes, without inversion. -/
def crc32 (init : Word) (l : List Byte) : Word := l.foldl (crcByte 0xEDB88320) init

/-- R143, R47: the IEEE 802.3 CRC-32, with its initial value and final inversion. -/
def crcEth (l : List Byte) : Word := ~~~ crc32 0xFFFFFFFF l

/-- One byte into the chain's CRC, most significant bit first (R445). -/
def crc16Byte (r : BitVec 16) (b : Byte) : BitVec 16 :=
  (List.range 8).foldl
    (fun a _ => if a.getLsbD 15 then (a <<< 1) ^^^ 0x1021 else a <<< 1)
    (r ^^^ (b.setWidth 16 <<< 8))

/-- R387, R445: the chain's CRC. -/
def crc16 (l : List Byte) : BitVec 16 := l.foldl crc16Byte 0xFFFF

end Sys2Proof.Machine
end

