-- ==== Sys2Proof/Machine/Tab.lean ====
section
/-! DEFINITION. The operations of a sparse table, and its canonical form: keys strictly rising, no
entry holding what an unlisted key reads as. Equal contents are therefore equal data. -/

namespace Sys2Proof.Machine

open Sys2Proof

variable {α : Type}

/-- What a key reads as. -/
def tget (d : Nat → α) : Tab α → Nat → α
  | [], k => d k
  | (a, v) :: t, k => if k = a then v else tget d t k

/-- The table with the pair of a key left out. -/
def tdel : Tab α → Nat → Tab α
  | [], _ => []
  | (a, v) :: t, k => if k = a then tdel t k else (a, v) :: tdel t k

/-- The table with a pair put in its place. -/
def tins : Tab α → Nat → α → Tab α
  | [], k, x => [(k, x)]
  | (a, v) :: t, k, x =>
    if k < a then (k, x) :: (a, v) :: t
    else if k = a then (k, x) :: t
    else (a, v) :: tins t k x

/-- The table after a key is written; a value that an unlisted key reads as is not listed. -/
def tset [DecidableEq α] (d : Nat → α) (t : Tab α) (k : Nat) (x : α) : Tab α :=
  if x = d k then tdel t k else tins t k x

/-- One entry changed by a function. -/
def tmod [DecidableEq α] (d : Nat → α) (t : Tab α) (k : Nat) (f : α → α) : Tab α :=
  tset d t k (f (tget d t k))

/-- The table without the entries whose keys satisfy a test: they read as their defaults. -/
def tdrop (p : Nat → Bool) (t : Tab α) : Tab α := t.filter fun e => ! p e.1

/-- The keys in use. -/
def tkeys (t : Tab α) : List Nat := t.map Prod.fst

/-- Keys strictly rising. -/
def rising : Tab α → Bool
  | [] => true
  | [_] => true
  | (a, _) :: (b, v) :: t => decide (a < b) && rising ((b, v) :: t)

/-- The canonical form. -/
def twf [DecidableEq α] (d : Nat → α) (t : Tab α) : Bool :=
  rising t && t.all fun e => ! decide (e.2 = d e.1)

end Sys2Proof.Machine
end

