-- ==== Sys2Proof/Machine/RegMap.lean ====
section
/-! DEFINITION. The register map: the blocks of R411, and for every register its place, its reset
value and what a write and a read do to its bits (R10). The field maps are those of the chapters that
R411 names. -/

namespace Sys2Proof.Machine

open Sys2Proof

/-- R411: the register blocks. -/
inductive Blk where
  | chip | flt | pwr | clk | time | fuse | win | pci | int | rng | dma | tbl | epc | pg | mac | sxl | cage | prs | asc | nec | buf | mcr | sch | shp | pol | led | tel | pmc | drc | chn | dbg
  deriving DecidableEq, Repr

/-- The registers by name; a numbered register has one name. -/
inductive RegName where
  | chipId | chipRev | chipCap | chipStrap | chipCtl | chipCommit
  | fltStatus | fltStatus3 | fltCfg | histTlo | histThi | histInfo | histHead | histDropped | histLostcnt | fltTest | fltInj | fltReact | fltPgh | fltRetire | fltAge | fltAgeCfg
  | pwrDom | pwrReload
  | clkRefStat | clkDom
  | timeNowLo | timeNowHi | timeCtl | timeSetSec | timeErr
  | fuseStat | fuseSnLo | fuseSnHi | fuseAgeBase
  | winB0 | winB4
  | pciHostCtl | pciHostStat | pciPmCfg | pciUsrEn | pciUnmapped | pciSleepAcc
  | intPend | intMap
  | rngCtl | rngDbLo | rngDbHi | rngWbLo | rngWbHi | rngNudge | rngErr | rngCfg | rngBaseLo | rngBaseHi | rngStat
  | dmaCtl | dmaStat | dmaProgLo | dmaProgHi | dmaSbaseLo | dmaSbaseHi | dmaRun | dmaBad
  | tblDesc | tblGo | tblCpl | tblData | tblStaCfg | tblStaSeed | tblAscRate | tblStaInsFail | tblAscMismatch | tblLagSeed | tblImgCtl | tblImgData | tblImgStat
  | epcCur | epcStat | epcCfg | epcRoots | epcSchema | epcFlipLo | epcFlipHi | epcStale | epcSeedC | epcSeedA
  | pgPortCfg
  | macCtl | macStat | macRxOkLo | macRxOkHi | macTxOkLo | macTxOkHi | macRxFcs | macRxRunt | macRxLong | macRxAlign | macRxFwdOff | macTxErrEof | macFecCorrLo | macFecCorrHi | macFecUncorrLo | macFecUncorrHi
  | sxlLaneCfg | sxlTxEq | sxlRxStat | sxlPrbsErr | sxlFecSymLo | sxlFecSymHi
  | cageBusCfg | cageExpCfg | cageXferCtl | cageXferData | cageCtl | cageCmd | cageStat
  | prsLrnCfg | prsLrnStat | prsOvfBusy | prsLrnQfull | prsDispCfg
  | ascSearchesLost | ascBank
  | necCtl | necStat | necSlotClass | necSlotPolicy | necImgInfo | necHoldMean | necMcLog | necMcCount | necMcLost | necOverruns | necSbDiscard | necLockTorn | necSentCfg | necSentStat | necSentSkipped
  | bufCarveLo | bufCarveHi | bufCarveStat | bufPoolRsv | bufPoolThr | bufPoolStat | bufDescRsv | bufDescFree | bufAgeCtl | bufQuadCtl | bufQIdx | bufQCfg | bufQUse | bufMcapIdx | bufMcapCfg | bufMcapUse | bufMcr
  | mcrListFree
  | schQIdx | schQCfg | schQStat | schPortCfg
  | shpIdx | shpCfgLo | shpCfgHi | shpTokens
  | polIdx | polCfgLo | polCfgHi | polTokens | polDrops | polBusyCnt | polUnhomedCnt | polHome
  | ledCfg | ledIntvLo | ledIntvHi | ledHeldC | ledHeldA | ledImbCount | ledImbIntv | ledImbDiff | ledImbHead | ledImbLost
  | telCfg | telRoute | telRgnBase | telRgnSize | telRgnWr | telLost | telCapCfg | telCapReason | telCapPort | telCapRd | telDigCfg | telBwCfg | telBwIdx | telBwIn | telBwOut | telBwPeakIn | telBwPeakOut | telBwClr | telHIdx | telHBin
  | pmcCntLo | pmcCntHi | pmcSel | pmcClrLo | pmcClrHi | pmcUsrPerm | pmcProfCfg
  | drcCfg | drcMap | drcPwr | drcAlt | drcChCtl | drcChStat | drcChCe | drcChUe | drcChPoisoned | drcChEaddrLo | drcChEaddrHi | drcChEinfo | drcChClogIdx | drcChClogLo | drcChClogHi
  | chnStat | chnCrcErr | chnFrzCtl | chnFrzStat | chnFrzTimeLo | chnFrzTimeHi
  | dbgCmd | dbgStat | dbgCfg | dbgThrIdx | dbgThrD
  deriving DecidableEq, Repr

/-- How a register is read: an ordinary word, the low or high word of a 64-bit counter (R9), or a word
with a copy for each requester (R212, R234, R237, R241, R258, R259). -/
inductive RegKind where
  | plain | ctrLo | ctrHi | priv
  deriving DecidableEq, Repr

/-- One row of the map: `mi` × `mj` registers of one name from `off`, `si` and `sj` apart; the reset
value and the masks of the bits that a write sets (RW), that a 1 clears (RW1C), and that an ordinary
read clears (RC), for the bits the register itself stores. -/
structure RegRow where
  name : RegName
  off : Nat
  mi : Nat := 1
  si : Nat := 0
  mj : Nat := 1
  sj : Nat := 0
  rst : Word := 0
  rw : Word := 0
  w1c : Word := 0
  rc : Word := 0
  kind : RegKind := .plain

/-- R411: base address, number of instances and stride of a block. -/
def Blk.place : Blk → Nat × Nat × Nat
  | .chip => (0, 1, 0)
  | .flt => (0x20000, 1, 0)
  | .pwr => (0x40000, 1, 0)
  | .clk => (0x60000, 1, 0)
  | .time => (0x80000, 1, 0)
  | .fuse => (0xC0000, 1, 0)
  | .win => (0xE0000, 1, 0)
  | .pci => (0x1000000, 2, 0x10000)
  | .int => (0x1040000, 2, 0x10000)
  | .rng => (0x2000000, 2, 0x10000)
  | .dma => (0x2020000, 16, 0x40)
  | .tbl => (0x3000000, 1, 0)
  | .epc => (0x3010000, 1, 0)
  | .pg => (0x4000000, 8, 0x100000)
  | .mac => (0x4010000, 8, 0x100000)
  | .sxl => (0x4020000, 8, 0x100000)
  | .cage => (0x4030000, 8, 0x100000)
  | .prs => (0x4040000, 8, 0x100000)
  | .asc => (0x4050000, 8, 0x100000)
  | .nec => (0x10000000, 64, 0x40000)
  | .buf => (0x11000000, 1, 0)
  | .mcr => (0x11080000, 1, 0)
  | .sch => (0x12000000, 1, 0)
  | .shp => (0x12040000, 1, 0)
  | .pol => (0x12080000, 1, 0)
  | .led => (0x13000000, 1, 0)
  | .tel => (0x13010000, 1, 0)
  | .pmc => (0x13020000, 1, 0)
  | .drc => (0x14000000, 1, 0)
  | .chn => (0x15000000, 1, 0)
  | .dbg => (0x15010000, 1, 0)

/-- The registers of one instance of a block. -/
def Blk.rows : Blk → List RegRow
  | .chip => [
      { name := .chipId, off := 0 },
      { name := .chipRev, off := 4 },
      { name := .chipCap, off := 8 },
      { name := .chipStrap, off := 0xC },
      { name := .chipCtl, off := 0x10, rw := 0x100 },
      { name := .chipCommit, off := 0x100 }]
  | .flt => [
      { name := .fltStatus, off := 0, mj := 3, sj := 4, w1c := 0xFFFFFFFF },
      { name := .fltStatus3, off := 0xC, w1c := 0x80070000 },
      { name := .fltCfg, off := 0x10, rst := 0xE10, rw := 0xFFFF },
      { name := .histTlo, off := 0x20 },
      { name := .histThi, off := 0x24 },
      { name := .histInfo, off := 0x28 },
      { name := .histHead, off := 0x2C },
      { name := .histDropped, off := 0x30, rc := 0xFFFFFFFF },
      { name := .histLostcnt, off := 0x34, rc := 0xFFFFFFFF },
      { name := .fltTest, off := 0x40, rw := 0x300003F },
      { name := .fltInj, off := 0x44 },
      { name := .fltReact, off := 0x100, mj := 96, sj := 4, rw := 0xFF007FFF },
      { name := .fltPgh, off := 0x300, mj := 8, sj := 4 },
      { name := .fltRetire, off := 0x400, mj := 64, sj := 4 },
      { name := .fltAge, off := 0x500, mj := 20, sj := 4 },
      { name := .fltAgeCfg, off := 0x580, rst := 0x1F40320, rw := 0xFFFFFFFF }]
  | .pwr => [
      { name := .pwrDom, off := 0, mj := 26, sj := 4 },
      { name := .pwrReload, off := 0x80 }]
  | .clk => [
      { name := .clkRefStat, off := 0 },
      { name := .clkDom, off := 0x100, mj := 156, sj := 4 }]
  | .time => [
      { name := .timeNowLo, off := 0, kind := .ctrLo },
      { name := .timeNowHi, off := 4, kind := .ctrHi },
      { name := .timeCtl, off := 8, rst := 0x64, rw := 0x8000FFFF },
      { name := .timeSetSec, off := 0xC, rw := 0xFFFFFFFF },
      { name := .timeErr, off := 0x10 }]
  | .fuse => [
      { name := .fuseStat, off := 0 },
      { name := .fuseSnLo, off := 4 },
      { name := .fuseSnHi, off := 8 },
      { name := .fuseAgeBase, off := 0x40, mj := 20, sj := 4 }]
  | .win => [
      { name := .winB0, off := 0, mi := 2, si := 0x100, mj := 64, sj := 4, rw := 0xC00FFFFF },
      { name := .winB4, off := 0x200, mi := 2, si := 0x40, mj := 16, sj := 4, rw := 0x80000FFF }]
  | .pci => [
      { name := .pciHostCtl, off := 0 },
      { name := .pciHostStat, off := 4 },
      { name := .pciPmCfg, off := 0x10, rst := 0x641000, rw := 0xFFFFFFFF },
      { name := .pciUsrEn, off := 0x20, rw := 1 },
      { name := .pciUnmapped, off := 0x30, rc := 0xFFFFFFFF },
      { name := .pciSleepAcc, off := 0x34, rc := 0xFFFFFFFF }]
  | .int => [
      { name := .intPend, off := 0, mj := 3, sj := 4 },
      { name := .intMap, off := 0x100, mj := 96, sj := 4, rw := 0x8000007F }]
  | .rng => [
      { name := .rngCtl, off := 0, rst := 0x80000064, rw := 0x8000FFFF },
      { name := .rngDbLo, off := 8, rw := 0xFFFFFF00 },
      { name := .rngDbHi, off := 0xC, rw := 0xFFFFFFFF },
      { name := .rngWbLo, off := 0x10, rw := 0xFFFFFF00 },
      { name := .rngWbHi, off := 0x14, rw := 0xFFFFFFFF },
      { name := .rngNudge, off := 0x20 },
      { name := .rngErr, off := 0x24, w1c := 0x80000000 },
      { name := .rngCfg, off := 0x100, mj := 52, sj := 0x10, rst := 0x6020000, rw := 0x8FFE7FFF },
      { name := .rngBaseLo, off := 0x104, mj := 52, sj := 0x10, rw := 0xFFFFFFC0 },
      { name := .rngBaseHi, off := 0x108, mj := 52, sj := 0x10, rw := 0xFFFFFFFF },
      { name := .rngStat, off := 0x10C, mj := 52, sj := 0x10 }]
  | .dma => [
      { name := .dmaCtl, off := 0 },
      { name := .dmaStat, off := 4 },
      { name := .dmaProgLo, off := 8, rw := 0xFFFFFFF0 },
      { name := .dmaProgHi, off := 0xC, rw := 0xFFFF },
      { name := .dmaSbaseLo, off := 0x10, rw := 0xFFFFFFF8 },
      { name := .dmaSbaseHi, off := 0x14, rw := 0xFFFF },
      { name := .dmaRun, off := 0x18 },
      { name := .dmaBad, off := 0x1C, rc := 0xFFFFFFFF }]
  | .tbl => [
      { name := .tblDesc, off := 0, mi := 3, si := 0x100, mj := 8, sj := 4, rw := 0xFFFFFFFF },
      { name := .tblGo, off := 0x20, mi := 3, si := 0x100 },
      { name := .tblCpl, off := 0x24, mi := 3, si := 0x100, mj := 4, sj := 4 },
      { name := .tblData, off := 0x40, mi := 3, si := 0x100, mj := 48, sj := 4, rw := 0xFFFFFFFF },
      { name := .tblStaCfg, off := 0x400, rst := 0x12C0000, rw := 0xFFFF0001 },
      { name := .tblStaSeed, off := 0x404, rst := 0xFFFFFFFF, rw := 0xFFFFFFFF },
      { name := .tblAscRate, off := 0x408, rst := 1, rw := 7 },
      { name := .tblStaInsFail, off := 0x410, rc := 0xFFFFFFFF },
      { name := .tblAscMismatch, off := 0x414, rc := 0xFFFFFFFF },
      { name := .tblLagSeed, off := 0x418, rst := 0x5A5A5A5A, rw := 0xFFFFFFFF },
      { name := .tblImgCtl, off := 0x500, rw := 0x1FFFF },
      { name := .tblImgData, off := 0x504 },
      { name := .tblImgStat, off := 0x508 }]
  | .epc => [
      { name := .epcCur, off := 0 },
      { name := .epcStat, off := 4 },
      { name := .epcCfg, off := 8, rst := 0x3E8, rw := 0xFFFF },
      { name := .epcRoots, off := 0xC },
      { name := .epcSchema, off := 0x10 },
      { name := .epcFlipLo, off := 0x18, kind := .ctrLo },
      { name := .epcFlipHi, off := 0x1C, kind := .ctrHi },
      { name := .epcStale, off := 0x20, rc := 0xFFFFFFFF },
      { name := .epcSeedC, off := 0x24 },
      { name := .epcSeedA, off := 0x28 }]
  | .pg => [
      { name := .pgPortCfg, off := 0x100, mj := 8, sj := 4, rst := 0xC0, rw := 0xF7 }]
  | .mac => [
      { name := .macCtl, off := 0, mj := 32, sj := 0x40, rst := 0x2800, rw := 0xFFFFBFFF },
      { name := .macStat, off := 4, mj := 32, sj := 0x40, w1c := 0x100, rc := 0xFFFF0000 },
      { name := .macRxOkLo, off := 8, mj := 32, sj := 0x40, kind := .ctrLo },
      { name := .macRxOkHi, off := 0xC, mj := 32, sj := 0x40, kind := .ctrHi },
      { name := .macTxOkLo, off := 0x10, mj := 32, sj := 0x40, kind := .ctrLo },
      { name := .macTxOkHi, off := 0x14, mj := 32, sj := 0x40, kind := .ctrHi },
      { name := .macRxFcs, off := 0x18, mj := 32, sj := 0x40, rc := 0xFFFFFFFF },
      { name := .macRxRunt, off := 0x1C, mj := 32, sj := 0x40, rc := 0xFFFFFFFF },
      { name := .macRxLong, off := 0x20, mj := 32, sj := 0x40, rc := 0xFFFFFFFF },
      { name := .macRxAlign, off := 0x24, mj := 32, sj := 0x40, rc := 0xFFFFFFFF },
      { name := .macRxFwdOff, off := 0x28, mj := 32, sj := 0x40, rc := 0xFFFFFFFF },
      { name := .macTxErrEof, off := 0x2C, mj := 32, sj := 0x40, rc := 0xFFFFFFFF },
      { name := .macFecCorrLo, off := 0x30, mj := 32, sj := 0x40, kind := .ctrLo },
      { name := .macFecCorrHi, off := 0x34, mj := 32, sj := 0x40, kind := .ctrHi },
      { name := .macFecUncorrLo, off := 0x38, mj := 32, sj := 0x40, kind := .ctrLo },
      { name := .macFecUncorrHi, off := 0x3C, mj := 32, sj := 0x40, kind := .ctrHi }]
  | .sxl => [
      { name := .sxlLaneCfg, off := 0, mj := 64, sj := 0x20, rw := 0x1FFF },
      { name := .sxlTxEq, off := 4, mj := 64, sj := 0x20, rst := 0xFC0000, rw := 0x3FFFFFFF },
      { name := .sxlRxStat, off := 8, mj := 64, sj := 0x20 },
      { name := .sxlPrbsErr, off := 0xC, mj := 64, sj := 0x20, rc := 0xFFFFFFFF },
      { name := .sxlFecSymLo, off := 0x10, mj := 64, sj := 0x20, kind := .ctrLo },
      { name := .sxlFecSymHi, off := 0x14, mj := 64, sj := 0x20, kind := .ctrHi }]
  | .cage => [
      { name := .cageBusCfg, off := 0, rst := 0x50, rw := 0x17F7FF3 },
      { name := .cageExpCfg, off := 4, rst := 1, rw := 0xFFFFFF01 },
      { name := .cageXferCtl, off := 0x40, rst := 0x14000000, rw := 0x5FFFFFF0 },
      { name := .cageXferData, off := 0x80, mj := 32, sj := 4, rw := 0xFFFFFFFF },
      { name := .cageCtl, off := 0x100, mj := 8, sj := 0x10, rst := 0x320079, rw := 0x7FFFFF },
      { name := .cageCmd, off := 0x104, mj := 8, sj := 0x10 },
      { name := .cageStat, off := 0x108, mj := 8, sj := 0x10, w1c := 0x1F00 }]
  | .prs => [
      { name := .prsLrnCfg, off := 0x100, mj := 32, sj := 4, rw := 0x3FFFF },
      { name := .prsLrnStat, off := 0x180, mj := 32, sj := 4, rc := 0xFFFF0000 },
      { name := .prsOvfBusy, off := 0x300, rc := 0xFFFFFFFF },
      { name := .prsLrnQfull, off := 0x304, rc := 0xFFFFFFFF },
      { name := .prsDispCfg, off := 0x400, rw := 0xFFFFFFFF }]
  | .asc => [
      { name := .ascSearchesLost, off := 0x10, rc := 0xFFFFFFFF },
      { name := .ascBank, off := 0x20, mj := 8, sj := 4 }]
  | .nec => [
      { name := .necCtl, off := 0, rw := 0x1F810001 },
      { name := .necStat, off := 4 },
      { name := .necSlotClass, off := 0x10 },
      { name := .necSlotPolicy, off := 0x14 },
      { name := .necImgInfo, off := 0x20, mj := 2, sj := 4 },
      { name := .necHoldMean, off := 0x30 },
      { name := .necMcLog, off := 0x40 },
      { name := .necMcCount, off := 0x44, rc := 0xFFFFFFFF },
      { name := .necMcLost, off := 0x48, rc := 0xFFFFFFFF },
      { name := .necOverruns, off := 0x4C, rc := 0xFFFFFFFF },
      { name := .necSbDiscard, off := 0x50, rc := 0xFFFFFFFF },
      { name := .necLockTorn, off := 0x60, mj := 2, sj := 4, w1c := 0xFFFFFFFF },
      { name := .necSentCfg, off := 0x80, rst := 0x8004000A, rw := 0x800F001F },
      { name := .necSentStat, off := 0x84 },
      { name := .necSentSkipped, off := 0x88, rc := 0xFFFFFFFF }]
  | .buf => [
      { name := .bufCarveLo, off := 0 },
      { name := .bufCarveHi, off := 4 },
      { name := .bufCarveStat, off := 8 },
      { name := .bufPoolRsv, off := 0x10, mj := 4, sj := 4, rw := 0x1FFFFF },
      { name := .bufPoolThr, off := 0x20, mj := 4, sj := 4, rst := 0x625A4B, rw := 0x7F7F7F },
      { name := .bufPoolStat, off := 0x30, mj := 4, sj := 4, w1c := 0x400000 },
      { name := .bufDescRsv, off := 0x40, rw := 0x1FFFFF },
      { name := .bufDescFree, off := 0x44 },
      { name := .bufAgeCtl, off := 0x50, rst := 0x3E8, rw := 0x1FFFF, w1c := 0x40000000 },
      { name := .bufQuadCtl, off := 0x60 },
      { name := .bufQIdx, off := 0x100, rw := 0xFFF, kind := .priv },
      { name := .bufQCfg, off := 0x104 },
      { name := .bufQUse, off := 0x108 },
      { name := .bufMcapIdx, off := 0x110, rw := 0xFFF, kind := .priv },
      { name := .bufMcapCfg, off := 0x114 },
      { name := .bufMcapUse, off := 0x118 },
      { name := .bufMcr, off := 0x200, mj := 6, sj := 4, rc := 0xFFFFFFFF }]
  | .mcr => [
      { name := .mcrListFree, off := 0 }]
  | .sch => [
      { name := .schQIdx, off := 0, rw := 0xFFF, kind := .priv },
      { name := .schQCfg, off := 4 },
      { name := .schQStat, off := 8 },
      { name := .schPortCfg, off := 0x100, mj := 256, sj := 4, rst := 1, rw := 1 }]
  | .shp => [
      { name := .shpIdx, off := 0, rw := 0xFFF, kind := .priv },
      { name := .shpCfgLo, off := 4 },
      { name := .shpCfgHi, off := 8 },
      { name := .shpTokens, off := 0xC }]
  | .pol => [
      { name := .polIdx, off := 0, rw := 0x7FFF, kind := .priv },
      { name := .polCfgLo, off := 4 },
      { name := .polCfgHi, off := 8 },
      { name := .polTokens, off := 0xC },
      { name := .polDrops, off := 0x10 },
      { name := .polBusyCnt, off := 0x20, mj := 8, sj := 4, rc := 0xFFFFFFFF },
      { name := .polUnhomedCnt, off := 0x40, mj := 8, sj := 4, rc := 0xFFFFFFFF },
      { name := .polHome, off := 0x1000, mj := 512, sj := 4, rw := 0x77777777 }]
  | .led => [
      { name := .ledCfg, off := 0, rst := 0x800003E8, rw := 0x80FFFFFF },
      { name := .ledIntvLo, off := 8, kind := .ctrLo },
      { name := .ledIntvHi, off := 0xC, kind := .ctrHi },
      { name := .ledHeldC, off := 0x10 },
      { name := .ledHeldA, off := 0x14 },
      { name := .ledImbCount, off := 0x18, rc := 0xFFFFFFFF },
      { name := .ledImbIntv, off := 0x20 },
      { name := .ledImbDiff, off := 0x24 },
      { name := .ledImbHead, off := 0x28 },
      { name := .ledImbLost, off := 0x2C, rc := 0xFFFFFFFF }]
  | .tel => [
      { name := .telCfg, off := 0, rst := 0x21000000, rw := 0xFF000000 },
      { name := .telRoute, off := 0x44, mj := 8, sj := 4, rw := 0xF8000000 },
      { name := .telRgnBase, off := 0x88, mj := 8, sj := 8, rw := 0x3FFFF },
      { name := .telRgnSize, off := 0x8C, mj := 8, sj := 8, rw := 0xFFFF },
      { name := .telRgnWr, off := 0x104, mj := 8, sj := 4 },
      { name := .telLost, off := 0x144, mj := 8, sj := 4, rc := 0xFFFFFFFF },
      { name := .telCapCfg, off := 0x200, rst := 0x4E20, rw := 0xC1F07FFF },
      { name := .telCapReason, off := 0x210, mj := 4, sj := 4, rw := 0xFFFFFFFF },
      { name := .telCapPort, off := 0x220, mj := 8, sj := 4, rst := 0xFFFFFFFF, rw := 0xFFFFFFFF },
      { name := .telCapRd, off := 0x240, rw := 0x7FFFFFFF },
      { name := .telDigCfg, off := 0x280, rw := 0xFE000000 },
      { name := .telBwCfg, off := 0x300, rst := 0x3E8, rw := 0xFFFFF },
      { name := .telBwIdx, off := 0x304, rw := 0xFF, kind := .priv },
      { name := .telBwIn, off := 0x308 },
      { name := .telBwOut, off := 0x30C },
      { name := .telBwPeakIn, off := 0x310 },
      { name := .telBwPeakOut, off := 0x314 },
      { name := .telBwClr, off := 0x318 },
      { name := .telHIdx, off := 0x400, rw := 0xFFF, kind := .priv },
      { name := .telHBin, off := 0x480, mj := 32, sj := 4 }]
  | .pmc => [
      { name := .pmcCntLo, off := 0, mj := 1024, sj := 8, kind := .ctrLo },
      { name := .pmcCntHi, off := 4, mj := 1024, sj := 8, kind := .ctrHi },
      { name := .pmcSel, off := 0x2000, mj := 1024, sj := 4, rw := 0xFFFFC07F },
      { name := .pmcClrLo, off := 0x3000 },
      { name := .pmcClrHi, off := 0x3004 },
      { name := .pmcUsrPerm, off := 0x3010, mj := 4, sj := 4, rw := 0xFFFFFFFF },
      { name := .pmcProfCfg, off := 0x3020, rw := 0xFFE00000 }]
  | .drc => [
      { name := .drcCfg, off := 0, rst := 0x40100, rw := 0x4F0F0F07 },
      { name := .drcMap, off := 4, rw := 0x800000FF },
      { name := .drcPwr, off := 8, rw := 0xFFFF },
      { name := .drcAlt, off := 0x44, mj := 8, sj := 4, rw := 0x8003FFFF },
      { name := .drcChCtl, off := 0x1000, mj := 4, sj := 0x100, rst := 3, rw := 0xFF007B },
      { name := .drcChStat, off := 0x1004, mj := 4, sj := 0x100 },
      { name := .drcChCe, off := 0x1008, mj := 4, sj := 0x100, rc := 0xFFFFFFFF },
      { name := .drcChUe, off := 0x100C, mj := 4, sj := 0x100, rc := 0xFFFFFFFF },
      { name := .drcChPoisoned, off := 0x1010, mj := 4, sj := 0x100, rc := 0xFFFFFFFF },
      { name := .drcChEaddrLo, off := 0x1018, mj := 4, sj := 0x100 },
      { name := .drcChEaddrHi, off := 0x101C, mj := 4, sj := 0x100 },
      { name := .drcChEinfo, off := 0x1020, mj := 4, sj := 0x100 },
      { name := .drcChClogIdx, off := 0x1028, mj := 4, sj := 0x100, rw := 0x3F },
      { name := .drcChClogLo, off := 0x102C, mj := 4, sj := 0x100 },
      { name := .drcChClogHi, off := 0x1030, mj := 4, sj := 0x100 }]
  | .chn => [
      { name := .chnStat, off := 0 },
      { name := .chnCrcErr, off := 4, rc := 0xFFFFFFFF },
      { name := .chnFrzCtl, off := 0x10, rst := 0x40000000, rw := 0x40000000 },
      { name := .chnFrzStat, off := 0x14 },
      { name := .chnFrzTimeLo, off := 0x18, kind := .ctrLo },
      { name := .chnFrzTimeHi, off := 0x1C, kind := .ctrHi }]
  | .dbg => [
      { name := .dbgCmd, off := 0 },
      { name := .dbgStat, off := 4 },
      { name := .dbgCfg, off := 8, rst := 0x64, rw := 0xFFFF },
      { name := .dbgThrIdx, off := 0x10, rw := 0x03FFF000 },
      { name := .dbgThrD, off := 0x100, mj := 64, sj := 4 }]

/-- The blocks, in the order of R411. -/
def Blk.all : List Blk := [.chip, .flt, .pwr, .clk, .time, .fuse, .win, .pci, .int, .rng, .dma, .tbl, .epc, .pg, .mac, .sxl, .cage, .prs, .asc, .nec, .buf, .mcr, .sch, .shp, .pol, .led, .tel, .pmc, .drc, .chn, .dbg]

/-- R411: the register words of one instance of a block. -/
def Blk.count (b : Blk) : Nat := (b.rows.map fun r => r.mi * r.mj).sum

/-- A register of the device: its row, the block's instance, and its two numbers within the block. -/
structure RegAt where
  blk : Blk
  row : RegRow
  k : Nat
  i : Nat
  j : Nat

/-- Which register of a row stands at an offset. -/
def RegRow.at? (r : RegRow) (off : Nat) : Option (Nat × Nat) :=
  if off < r.off then none
  else
    let d := off - r.off
    let i := if r.si = 0 then 0 else d / r.si
    let e := d - i * r.si
    let j := if r.sj = 0 then 0 else e / r.sj
    if i < r.mi && j < r.mj && i * r.si + j * r.sj == d then some (i, j) else none

/-- The register of a block that stands at an internal address. -/
def Blk.at? (b : Blk) (a : Nat) : Option RegAt :=
  let p := b.place
  if a < p.1 then none
  else
    let d := a - p.1
    let k := if p.2.2 = 0 then 0 else d / p.2.2
    if k < p.2.1 then
      b.rows.findSome? fun r => (r.at? (d - k * p.2.2)).map fun ij => ⟨b, r, k, ij.1, ij.2⟩
    else none

/-- R411, R412: the register at an internal address; some aligned addresses name none. -/
def regAt (a : Nat) : Option RegAt := Blk.all.findSome? fun b => b.at? a

/-- The block and row of a register's name. -/
def RegName.find (n : RegName) : Option (Blk × RegRow) :=
  Blk.all.findSome? fun b => (b.rows.find? fun r => r.name = n).map fun r => (b, r)

/-- R411: the internal address of a register. -/
def regAddr (n : RegName) (k i j : Nat) : Nat :=
  match n.find with
  | some (b, r) => b.place.1 + k * b.place.2.2 + r.off + i * r.si + j * r.sj
  | none => 0

/-- R348: the reset value of FLT_REACTs: THR, then the CRIMSON, ORANGE and BLUE reactions. -/
def reactReset (s : Nat) : Word :=
  let mk (thr c o : Nat) : Word := put 31 24 thr ||| put 14 10 c ||| put 9 5 o
  if s = 0 then mk 16 0 1
  else if s = 1 then mk 0 0 1
  else if s = 3 then mk 0 5 0
  else if s = 4 then mk 0 17 1
  else if s = 6 then mk 0 0 1
  else if s = 8 || s = 9 then mk 0 0 1
  else if s = 10 then mk 16 0 1
  else if s = 11 then mk 16 1 0
  else if s = 12 then mk 0 1 0
  else if s = 13 then mk 16 0 1
  else if 16 ≤ s && s ≤ 19 then mk 64 0 1
  else if 20 ≤ s && s ≤ 23 then mk 16 0 3
  else if s = 24 then mk 16 5 0
  else if s = 25 then mk 16 0 1
  else if s = 26 then mk 0 0 1
  else if s = 27 then mk 16 0 1
  else if s = 28 then mk 64 17 1
  else if 32 ≤ s && s ≤ 39 then mk 16 7 1
  else if 40 ≤ s && s ≤ 47 then mk 16 0 1
  else if 48 ≤ s && s ≤ 55 then mk 0 0 1
  else if 56 ≤ s && s ≤ 63 then mk 64 0 1
  else if 64 ≤ s && s ≤ 79 then mk 16 0 3
  else if 80 ≤ s && s ≤ 84 then mk 0 0 1
  else 0

/-- R276: the standard layout of a host's BAR0 windows. -/
def winReset (j : Nat) : Word :=
  let mk (base : Nat) : Word := wd (0x80000000 + base)
  if j = 0 then mk 0
  else if j = 1 then mk 0x10
  else if j = 2 then mk 0x20
  else if j = 3 then mk 0x30
  else if j < 12 then mk (0x40 + (j - 4))
  else if j < 28 then mk (0x100 + (j - 12))
  else if j < 33 then mk (0x110 + (j - 28) * 0x10)
  else if j = 63 then 0x40000000
  else 0

/-- The reset value of a stored register word: its row's, or the one that depends on its number
(R50, R276, R299, R348). -/
def RegAt.reset (r : RegAt) : Word :=
  match r.row.name with
  | .fltReact => reactReset r.j
  | .winB0 => winReset r.j
  | .rngCfg => r.row.rst ||| put 14 12 (r.j % 8)
  | .sxlLaneCfg => put 6 4 (r.j % 8) ||| put 2 0 (r.j % 8)
  | _ => r.row.rst

/-- What a register word reads as while `held` lists nothing for its address. -/
def heldReset (a : Nat) : Word :=
  match regAt a with
  | some r => r.reset
  | none => 0

end Sys2Proof.Machine
end

