-- ==== Sys2Proof/Machine/State.lean ====
section
/-! DEFINITION. The state of the HJ6416 as plain data, and the state right after a power-on reset.
A table that is empty holds its reset value at every key; a structure's field defaults are its reset
values. Each docstring names the rule of spec/ that gives the machine that state. -/

namespace Sys2Proof.Machine

open Sys2Proof

/-! ### Closed sets of names -/

/-- R1: the variants. -/
inductive Variant where
  | hj6416c | hj6416e | hj4816c
  deriving DecidableEq, Repr

/-- R370: the shades, from the highest down. -/
inductive Shade where
  | active | pale | grey | slate | black
  deriving DecidableEq, Repr

/-- R342: the fault classes. -/
inductive FClass where
  | blue | orange | crimson
  deriving DecidableEq, Repr

/-- R55: the states of a sub-port. -/
inductive LinkState where
  | disabled | training | aligning | up | hold
  deriving DecidableEq, Repr

/-- R66: the states of a cage. -/
inductive CageState where
  | empty | detect | powering | lowPower | highPower | releaseReq | releasing | safe | busLost
  deriving DecidableEq, Repr

/-- R120: the states of a thread. -/
inductive TState where
  | idle | run | wait | halted
  deriving DecidableEq, Repr

/-- R150: the states of a tree node. -/
inductive NodeState where
  | free | staged | live | retiring
  deriving DecidableEq, Repr

/-- R169, R177: the life that the master copy keeps for an associative entry: written unstaged,
written by the open staging, or marked for removal. -/
inductive AscLife where
  | always | fromNext | untilNext
  deriving DecidableEq, Repr

/-- R172: STATE of the epoch control unit. -/
inductive EpcState where
  | idle | staging | flipping | draining | flushing | sweeping | aborting
  deriving DecidableEq, Repr

/-- R318: STATE of a DMA channel. -/
inductive ChanState where
  | idle | running | done | stopped | aborted
  deriving DecidableEq, Repr

/-- R325: STATE of a DRAM channel. -/
inductive DramState where
  | unused | training | service | selfRefresh | migrating | frozen | offline | failed
  deriving DecidableEq, Repr

/-- R286: the link's power state, as far as the device's own rules drive it. -/
inductive LinkPm where
  | l0 | l0s | l1 | l11 | l12
  deriving DecidableEq, Repr

/-- R215: the states of a pool, in the order of their codes. -/
inductive PoolState where
  | normal | warning | pressure | stop
  deriving DecidableEq, Repr

/-- R248, R265: the ledger boundaries at which a frame is dropped. -/
inductive Boundary where
  | stamping | parse | engines | policers | admission | replication | egress
  deriving DecidableEq, Repr

/-- R248: the terms of the balance, in the order of R268. -/
inductive Term where
  | inn | repl | inj | out | dStamp | dParse | dEng | dPol | dAdm | dRepl | dEgr
  deriving DecidableEq, Repr

/-- R305: SOURCE of a punt. -/
inductive PuntSrc where
  | verdict | profile | overrun | replication
  deriving DecidableEq, Repr

/-! ### AON: identity, time, power, clocks -/

/-- R381, R416: the straps as sampled at the release of POR_N. -/
structure Straps where
  pcieMode : Bool := false
  refsel : Bool := false
  chnTerm : Bool := false
  testMode : Bool := false
  deriving DecidableEq, Repr

/-- R409, R410: the fuses. FZ_FACTORY is blown on every production part (R4). -/
structure Fuses where
  factory : Bool := true
  payload : Bool := false
  debug : Bool := false
  deriving DecidableEq, Repr

/-- What the factory fixed: variant (R1), revision (R414), serial number and ageing baselines
(R417). -/
structure Ident where
  variant : Variant := .hj6416c
  revision : BitVec 8 := 0x10
  serial : BitVec 64 := 0
  ageBase : Tab (BitVec 16) := []
  deriving DecidableEq, Repr

/-- R379, R380: the time unit. `now` is device time in ns, and `shift` the sum of the steps it has taken;
`trim` is the rate in force, in ns held back per second, and `frac` what it has come to since the last
count held back or added; `ref` is the last accepted edge, or the write that set PPS_EN; `missed` says
that PPS_FAULT has been raised since `ref`. -/
structure TimeUnit where
  now : Nat := 0
  shift : Int := 0
  missed : Bool := false
  ref : Nat := 0
  edgeSeen : Bool := false
  trim : Int := 0
  frac : Nat := 0
  err : Word := 0
  armed : Option Nat := none
  deriving DecidableEq, Repr

/-- R370, R371, R373, R374: one power domain. `step` is the shade that the step under way leads to, none
while the domain stands or waits; `woken` is the time of the last access to a Pale domain that an access
has woken. -/
structure Domain where
  target : Shade := .black
  shade : Shade := .black
  moving : Bool := false
  refused : Bool := false
  resetting : Bool := false
  step : Option Shade := none
  woken : Option Nat := none
  deriving DecidableEq, Repr

/-- R375, R376: reload and staleness, one flag per port group and per replica. `replEmpty` are replicas that
a return from Black has emptied and no reload has filled, `unkept` the groups in Black whose partner has
not kept their replica in Active or Pale. -/
structure Reload where
  go : List Nat := []
  stale : List Nat := []
  replStale : List Nat := []
  replEmpty : List Nat := []
  unkept : List Nat := []
  deriving DecidableEq, Repr

/-- R378, R418, R431: the references that no consumer has lost, and the clock domains whose PLL has lost lock. -/
structure Clocks where
  sysRef : Bool := true
  pcieRef : Bool := true
  sxRef : BitVec 8 := 0xFF
  lost : List Nat := []
  deriving DecidableEq, Repr

/-! ### Ports and cages -/

/-- R51, R54, R55: one sub-port. `cfg` are the lane words read at the last enable, `taps` the transmit
taps of its port's lanes (R423): five taps and the divisor, each tap being tap × 63 / divisor units; none
where link training sets them. `byCage`, `bySx` and `byIso` say what forced it down with EN left at 1. -/
structure SubPort where
  st : LinkState := .disabled
  cfgErr : Bool := false
  amLock : Bool := false
  localFault : Bool := false
  remoteFault : Bool := false
  hiSer : Bool := false
  clearSince : Option Nat := none
  holdSince : Nat := 0
  byCage : Bool := false
  bySx : Bool := false
  byIso : Bool := false
  cfg : List Word := []
  taps : List (List Int × Nat) := []
  seqNext : Nat := 0
  seqRel : Nat := 0
  deriving DecidableEq, Repr

/-- R66, R69: one cage. `prsSeen` and `btnSeen` are the last poll, `prs` and `btn` what two polls
agree on; `outs` are PWR_EN, RST_N and LPMODE as last written. `settle` is set while PWR_SETTLE runs,
`armed` while the output write that starts it is still to be issued, and `off` once RELEASING has come to
the write of power and reset. -/
structure Cage where
  st : CageState := .empty
  earlier : CageState := .empty
  prs : Bool := false
  prsSeen : Bool := false
  btn : Bool := false
  btnSeen : Bool := false
  modInt : Bool := false
  want : Nat := 1
  outs : Nat := 1
  settle : Option Nat := none
  armed : Bool := false
  pulse : Bool := false
  off : Bool := false
  reqSince : Nat := 0
  deriving DecidableEq, Repr

/-- R63-R65: one group's cage bus. `writes` are the expanders with an output write to be issued, `retry`
those that have failed to answer and wait for the next poll slot. -/
structure CageBus where
  polling : Bool := false
  lastPoll : Nat := 0
  fails : Tab Nat := []
  lost : List Nat := []
  writes : List Nat := []
  retry : List Nat := []
  go : Bool := false
  err : Bool := false
  done : Nat := 0
  deriving DecidableEq, Repr

/-! ### Frames on their way to the buffer -/

/-- R70: the stamp. -/
structure Stamp where
  time : Nat := 0
  epoch : Bool := false
  lport : Nat := 0
  member : Nat := 0
  seq : Nat := 0
  pipe : Nat := 0
  inject : Bool := false
  deriving DecidableEq, Repr

/-- A frame between stamping and the buffer: its bytes as received (FCS included), stamp, lookup key
and record (R84, R85), verdict (R157, words 0-6), issue class (R116) and holding-store charge
(R113). `saEnt` is the station entry its source hit, `needDa` and `needSa` its overflow searches not
yet served (R92), `staOff` where its lookups find its addresses (R81, R90), and `holdEcc` that a word of it in the
holding store is uncorrectable (R353). -/
structure Pkt where
  bytes : List Byte := []
  stamp : Stamp := {}
  key : List Byte := []
  lrec : List Word := []
  verdict : List Word := []
  cls : Nat := 0
  units : Nat := 0
  capCls : Nat := 0
  l2 : Bool := false
  needDa : Bool := false
  needSa : Bool := false
  saEnt : Option (List Word) := none
  puntSrc : PuntSrc := .verdict
  holdEcc : Bool := false
  cluster : Nat := 0
  engine : Nat := 0
  thread : Nat := 0
  dig : Bool := false
  staOff : Nat := 0
  deriving DecidableEq, Repr

/-- R160: where a verdict sends its frame. An answer carries the answering frame (R105). -/
inductive Target where
  | port (lp : Nat) (queue : Nat)
  | group (g : Nat) (mcQueue : Nat)
  | host (hq : Nat)
  | answer (frame : List Byte) (queue : Nat)
  deriving DecidableEq, Repr

/-- R26: what the resequencer holds for a sequence number: a drop or its marker, or a frame that
goes on to policing. -/
inductive SeqItem where
  | gone
  | pass (pkt : Nat) (t : Target)
  deriving DecidableEq, Repr

/-- R92: one waiting search of an overflow store. -/
structure Search where
  pkt : Nat
  source : Bool
  deriving DecidableEq, Repr

/-- R96, R97, R99: a learning or move notice. -/
structure Notice where
  pg : Nat
  key : Nat
  lport : Nat
  member : Nat
  lag : Option Nat
  move : Bool
  deriving DecidableEq, Repr

/-- R221: a descriptor that waits in a pending replica queue. -/
structure Pending where
  queue : Nat
  desc : Nat
  deriving DecidableEq, Repr

/-- R25, R52, R92, R97, R112, R113, R181, R221: what one port group holds in its pipes. `par` and
`flip` are the six pipes' parity and the flip not yet taken; `cold` says that the group has not been Active since it
lost its memory (R233). -/
structure Group where
  rot : Nat := 0
  par : List Bool := [false, false, false, false, false, false]
  flip : List Bool := [false, false, false, false, false, false]
  isolated : Bool := false
  holdUnits : Nat := 0
  holdCls : List Nat := [0, 0, 0, 0]
  searches : List Search := []
  recent : List Nat := []
  waitq : Tab (List Nat) := []
  rr : Nat := 0
  polq : List (Nat × Target) := []
  polOps : Nat := 0
  polAt : Nat := 0
  absent : Bool := true
  cold : Bool := true
  deriving DecidableEq, Repr

/-! ### Nirum engines -/

/-- R125: the flags of one ALU. -/
structure AluFlags where
  z : Bool := false
  n : Bool := false
  c : Bool := false
  deriving DecidableEq, Repr

/-- R130, R131, R401: one store-buffer entry. `seq` marks an entry of a locked sequence, `held` one
that still waits for UNLOCK, and `no` is the number of the microword that buffered it. -/
structure SbEntry where
  cadd : Bool := false
  held : Bool := false
  seq : Bool := false
  no : Nat := 0
  addr : Nat := 0
  data : Word := 0
  deriving DecidableEq, Repr

/-- R120, R121, R130, R131, R133, R401: one hardware thread. `no` numbers its microwords as they issue.
`rdTree` (node), `rdLoad` (word, and the value of the thread's own buffered stores to it) and `rdCount`
(the old value, once the add has reached scratch) are its outstanding requests in order, each after the
number and the address of its microword; `await` are the events still awaited, `want` the lock line it
waits for, `full` that its store buffer was full. `pkt` names the frame it holds, `sample` the
delay-register set it re-executes; `order` is its age for issue (R118), `start` its dispatch time (R115).
`hist` are the last 13 addresses issued, newest first, and `trig` the profile triggers still to reach it,
each as the microwords left and its SKID (R262). `stepping` is 1 while a STEP has yet to issue and 2 until
its events have arrived (R398), and `opNo` numbers the debug operation that has yet to complete (R397).
`first` is the number of the first microword of its present work: a request of an earlier one is an
earlier packet's (R121, R130). -/
structure Thread where
  st : TState := .idle
  prior : TState := .idle
  g : Tab Word := []
  n : List Word := []
  scr : Word := 0
  cnt : Word := 0
  mway : Nat := 0
  fa : AluFlags := {}
  fb : AluFlags := {}
  stack : List Nat := []
  pc : Nat := 0
  budget : Nat := 0
  tsteps : Nat := 0
  sb : List SbEntry := []
  await : BitVec 4 := 0
  no : Nat := 0
  first : Nat := 0
  rdTree : List (Nat × Nat × Nat) := []
  rdLoad : List (Nat × Nat × Nat × Option Word) := []
  rdCount : List (Nat × Nat × Option Word) := []
  leaf : Bool := false
  bg : Bool := false
  bgLeft : Nat := 0
  pkt : Option Nat := none
  sample : Option Nat := none
  verdict : List Word := []
  lock : Option Nat := none
  lockPc : Nat := 0
  lockLen : Nat := 0
  lockStores : Nat := 0
  want : Option Nat := none
  full : Bool := false
  torn : Bool := false
  order : Nat := 0
  start : Nat := 0
  hist : List Nat := []
  trig : List (Nat × Nat) := []
  haltReq : Bool := false
  haltAt : Nat := 0
  stepping : Nat := 0
  opNo : Nat := 0
  deriving DecidableEq, Repr

/-- R131: one lock line: its holder, whether the holder has unlocked and its stores still drain, and
the requesters in order of request (engine × 8 + thread). -/
structure LockLine where
  owner : Option Nat := none
  releasing : Bool := false
  waiters : List Nat := []
  deriving DecidableEq, Repr

/-- R355-R357: one delay-register set of a sentinel: the sample, the digests of the primary and of the
sentinel, and once they have differed (`recheck`) those of the two re-executions, which `again` says have
begun; `prim` is then the thread in which the primary engine's runs. The program of a re-execution sees of
the stamp its EPOCH alone; the rest is what a digest entry of R268 names. -/
structure Sample where
  key : List Byte := []
  lrec : List Word := []
  stamp : Stamp := {}
  engine : Nat := 0
  thread : Nat := 0
  p1 : Option Word := none
  s1 : Option Word := none
  p2 : Option Word := none
  s2 : Option Word := none
  void : Bool := false
  recheck : Bool := false
  again : Bool := false
  prim : Option Nat := none
  deriving DecidableEq, Repr

/-- R138-R140, R145: one image slot of a cluster. `load` names the image-port load that wrote it
(R354). -/
structure Slot where
  valid : Bool := false
  vifMajor : Nat := 0
  vifMinor : Nat := 0
  mask : BitVec 16 := 0
  words : Nat := 0
  pktEntry : Nat := 0
  bgEntry : Nat := 0
  load : Nat := 0
  deriving DecidableEq, Repr

/-- R112, R117-R119, R131, R137, R141, R355-R363: one cluster. `slotTab` is the slot table in force
(NEC_SLOT_CLASS, NEC_SLOT_POLICY), `slotNew` a committed one not yet taken; `wrr` its smooth
round-robin weight; `issued` numbers the issue priorities, `micro` counts the microwords issued; `sentinel` 31 is
none, and `rearm` says that a REARM's self-test waits for a halted spare (R400). -/
structure Cluster where
  slots : List Slot := [{}, {}]
  slotTab : Word × Word := (0xE4E4E4E4, 0xFFFF)
  slotNew : Option (Word × Word) := none
  slotErr : Bool := false
  resetting : Bool := false
  resetAt : Nat := 0
  wrr : Int := 0
  dispatched : Nat := 0
  issued : Nat := 0
  micro : Nat := 0
  credit : Nat := 0
  locks : Tab LockLine := []
  scratch : Tab Word := []
  mcLog : List Word := []
  sentinel : Nat := 16
  checker : Bool := false
  selfTest : Bool := false
  rearm : Bool := false
  rotating : Option Nat := none
  spareDue : Option Nat := none
  spareUsed : Bool := false
  samples : Tab Sample := []
  pcharge : Tab Nat := []
  holdSum : Nat := 0
  holdCnt : Nat := 0
  holdMean : Nat := 0
  deriving DecidableEq, Repr

/-- R144, R145: the image port. `acc` are bytes not yet consumed, `crc` the running CRC-32 register. -/
structure ImagePort where
  state : Nat := 0
  status : Nat := 0
  bytes : Nat := 0
  slot : Nat := 0
  clusters : List Nat := []
  hdr : List Word := []
  acc : List Byte := []
  crc : Word := 0xFFFFFFFF
  word : Nat := 0
  treeFmt : Nat := 0
  filled : Bool := false
  crcOk : Bool := false
  loads : Nat := 0
  deriving DecidableEq, Repr

/-! ### Tables, the command unit and epochs -/

/-- R193, R198, R301: where a table command came from. -/
inductive CmdSrc where
  | bank (b : Req)
  | ring (h : Nat) (r : Nat)
  deriving DecidableEq, Repr

/-- R190: a table command that the command unit holds. `aborted` marks a staging command that was
queued when its staging was aborted (R194). -/
structure TCmd where
  src : CmdSrc
  handle : Word
  desc : List Word
  aborted : Bool := false
  deriving DecidableEq, Repr

/-- R193: a completion's changing part. -/
structure Cpl where
  status : Nat := 0
  other : Option Req := none
  displaced : Bool := false
  late : Bool := false
  r0 : Word := 0
  r1 : Word := 0
  deriving DecidableEq, Repr

/-- R77, R79: an associative write that the fan-out carries from `at_` on: an entry, or a bank's width;
`left` are the pipes that still have to take it, `cpl` the command that completes with the last of
them. -/
structure Fan where
  at_ : Nat := 0
  idx : Nat
  words : List Word
  width : Option Nat := none
  left : List Nat
  cpl : Option (TCmd × Cpl) := none
  deriving DecidableEq, Repr

/-- R217: one slot of a row of the replication table; the targets in list order, as 16-bit words. -/
structure RepEntry where
  valid : Bool := false
  life : Nat := 0
  targets : List Nat := []
  deriving DecidableEq, Repr

/-- R74, R169, R177: one entry of the associative master copy. -/
structure AscEntry where
  words : List Word := []
  life : AscLife := .always
  deriving DecidableEq, Repr

/-- The forwarding tables: masters of the command unit, replicas and copies of the port groups.
Keys: station slot 4 × bucket + slot, overflow entry i at 524,288 + i, replica k adds k × 2^20
(R87, R195); neighbour unit 4 × bucket + unit, replica k adds k × 2^18 (R102); associative
512 × bank + entry, pipe p adds p × 4,096 (R425, R77); tree node, group n adds n × 65,536 (R148);
copy-table entry (2 × table + parity) × 65,536 + index, group n adds n × 2^22 (R169). `tag` is the
last writer of an entry (R197), keyed table × 2^21 + index: 0, 1, 2 a requester, 3 learning.
`lrnPort` is one more than the port whose notice placed a learned station entry (R94, R101), 0 where
no notice did. -/
structure Tables where
  sta : Tab (List Word) := []
  staR : Tab (List Word) := []
  hit : Tab Bool := []
  spill : Tab Bool := []
  nbr : Tab (List Word) := []
  nbrR : Tab (List Word) := []
  asc : Tab AscEntry := []
  ascW : Tab Nat := []
  ascC : Tab (List Word) := []
  ascCW : Tab Nat := []
  tree : Tab (List Word) := []
  node : Tab NodeState := []
  treeG : Tab (List Word) := []
  cp : Tab (List Word) := []
  cpG : Tab (List Word) := []
  dirty : Tab Bool := []
  rep : Tab RepEntry := []
  listFree : Nat := 65536
  tag : Tab Nat := []
  lrnPort : Tab Nat := []
  deriving DecidableEq, Repr

/-- R196, R198: the command unit: commands in order of arrival, the direct banks' BUSY and sequence
numbers, the associative fan-out, the earliest time of its next write (R79) and the repairs (R80), the notices (R97) and the ageing cursor. -/
structure CmdUnit where
  q : List TCmd := []
  busy : List Bool := [false, false, false]
  seqs : List Nat := [0, 0, 0]
  fan : List Fan := []
  ascNext : Nat := 0
  repairs : List (Nat × Nat) := []
  notices : List Notice := []
  beginWait : List TCmd := []
  settleWait : List TCmd := []
  ageCursor : Nat := 0
  ageAt : Nat := 0
  deriving DecidableEq, Repr

/-- R169-R184, R189: the epoch control unit. `root`, `schema` and `seed` are Cobalt's, then Amber's;
`touched` the tables the staging touched; `sweepTabs` and `sweepPos` the sweep's place. -/
structure Epoch where
  num : Word := 0
  st : EpcState := .idle
  c : Bool := false
  s : Bool := true
  owner : Option Req := none
  token : BitVec 16 := 0
  rootC : BitVec 16 := 0
  rootA : BitVec 16 := 0
  schemaC : BitVec 4 := 0
  schemaA : BitVec 4 := 0
  seedC : Word := 0x5A5A5A5A
  seedA : Word := 0x5A5A5A5A
  flipTime : BitVec 64 := 0
  flipAt : Nat := 0
  late : Bool := false
  committed : Bool := false
  commitBy : Option TCmd := none
  abortBy : Option TCmd := none
  forced : Bool := false
  touched : List Nat := []
  sweepTabs : List Nat := []
  sweepPos : Nat := 0
  restored : Nat := 0
  deriving DecidableEq, Repr

/-! ### Buffer, queues, scheduling, policing -/

/-- R199, R201, R202: one 1 MiB block: the pool it serves, the pool the committed carve gives it, and
its buffers in use. -/
structure Block where
  pool : Option Nat := none
  carve : Option Nat := none
  used : List Nat := []
  deriving DecidableEq, Repr

/-- R204, R208, R210, R220: one stored frame. `pkt` is the frame as received, with its stamp, record
and verdict; `hold` the holding-store charge still to be released (R113); `ecc` that the scrub has
left an uncorrectable word in place (R353). -/
structure Buf where
  ecc : Bool := false
  bytes : List Byte := []
  refs : Nat := 0
  shared : Bool := false
  member : Nat := 0
  pool : Nat := 0
  block : Nat := 0
  written : Bool := false
  hold : Bool := false
  wrAt : Nat := 0
  pkt : Pkt := {}
  deriving DecidableEq, Repr

/-- R205: one descriptor in use. Its queue's order stands for NEXT and LAST. `flush` marks one that a
flush which has begun is to discard (R57, R225). -/
structure Desc where
  shared : Bool := false
  epoch : Bool := false
  direct : Bool := false
  lport : Nat := 0
  buf : Nat := 0
  member : Nat := 0
  time : Nat := 0
  pool : Nat := 0
  len : Nat := 0
  popAt : Nat := 0
  pushEn : Bool := false
  template : Nat := 0
  gap : Nat := 0
  set0En : Bool := false
  set1En : Bool := false
  set0Val : Word := 0
  set0Off : Nat := 0
  set1Off : Nat := 0
  set1Val : Word := 0
  answer : Bool := false
  src : PuntSrc := .verdict
  flush : Bool := false
  deriving DecidableEq, Repr

/-- R199-R226: the pool manager, the queues and the pending replica queues. `descs` holds the
descriptors in use by number; `queues` lists them per queue, in order of enqueue. -/
structure Buffer where
  blocks : Tab Block := []
  rotor : Tab Nat := []
  bufs : Tab Buf := []
  descs : Tab Desc := []
  nextDesc : Nat := 0
  descFree : Nat := 1048576
  queues : Tab (List Nat) := []
  used : Tab Nat := []
  pend : Tab (List Pending) := []
  mcap : Tab Nat := []
  state : Tab PoolState := []
  carveErr : Bool := false
  offline : List Nat := []
  forceStart : Bool := true
  deriving DecidableEq, Repr

/-- R236: a frame that a scheduler has picked. `tout` is when the egress pipe hands its first byte to
the MAC (R257). -/
structure Picked where
  desc : Nat := 0
  queue : Nat := 0
  at_ : Nat := 0
  tout : Option Nat := none
  bad : Bool := false
  frame : List Byte := []
  deriving DecidableEq, Repr

/-- R232, R240: a token bucket. Tokens are in millionths of a byte, so that RATE × 1,000 bytes per
second is RATE of them per ns; a shaper's may be negative. -/
structure Bucket where
  en : Bool := false
  rate : Nat := 0
  burst : Nat := 0
  overhead : Nat := 0
  mode : Nat := 0
  tok : Int := 0
  at_ : Nat := 0
  drops : Nat := 0
  deriving DecidableEq, Repr

/-- R236-R241: schedulers, shapers and policers. Deficits and settings are keyed by queue, `holder`
and `last` by 2 × logical port + level, shapers and policers as R241 and R231 number them; `hostRr`
is each host's round-robin place. -/
structure Sched where
  qcfg : Tab Word := []
  deficit : Tab Nat := []
  holder : Tab (Option Nat) := []
  last : Tab Nat := []
  picked : Tab (List Picked) := []
  hostPick : Tab (List Picked) := []
  hostRr : Tab Nat := []
  shp : Tab Bucket := []
  pol : Tab Bucket := []
  bufQ : Tab Word := []
  mcapCfg : Tab Word := []
  deriving DecidableEq, Repr

/-! ### Ledger and telemetry -/

/-- R255: one record of the imbalance FIFO. -/
structure ImbRec where
  intv : Word
  diff : Word
  head : Word
  deriving DecidableEq, Repr

/-- R246-R256: the accounts. `cnt` are the counts of the running interval and `lat` those of the last
closed one, keyed (2 × account + parity) × 16 + term, an account being a logical port or 256 + a
port group; `held`, `heldPrev` are the frames held (R249) at the last two closes; `latched` says that the
points have closed the running interval already (R251); `rsn` and `rsnLat` count drops by reason, keyed (2 × account + parity) × 128 + code. `len` is the interval
length in force in µs, `start` the running interval's start, `stepAt` and `stepTo` the device times of a step. -/
structure Ledger where
  cnt : Tab Nat := []
  lat : Tab Nat := []
  latched : Bool := false
  held : Tab Nat := []
  heldPrev : Tab Nat := []
  rsn : Tab Nat := []
  rsnLat : Tab Nat := []
  start : Nat := 0
  len : Nat := 1000
  stepAt : Nat := 0
  stepTo : Nat := 0
  lastLen : Nat := 0
  pmcLat : Tab (BitVec 64) := []
  memLat : Tab Nat := []
  open_ : Bool := false
  first : Bool := true
  stepped : Bool := false
  lastStepped : Bool := false
  lastShort : Bool := false
  lastUnchecked : Bool := false
  resetNow : Bool := false
  resetPrev : Bool := false
  absentLat : List Nat := []
  due : Bool := false
  imb : List ImbRec := []
  bytesLat : Tab Nat := []
  deriving DecidableEq, Repr

/-- R257-R267: telemetry: bins (queue × 32 + bin), ENQ and REFUSED per queue, line bytes per port and
direction, the intervals `div` of the period that ended last, bandwidth LAST and PEAK, the DIGEST batch, capture selection and limiter, record counts,
region write offsets and moved regions. -/
structure Telem where
  bins : Tab Nat := []
  enq : Tab Nat := []
  refused : Tab Nat := []
  period : Nat := 0
  periodDue : Bool := false
  div : Nat := 0
  bytes : Tab Nat := []
  bwWin : Tab Nat := []
  bwLast : Tab Nat := []
  bwPeak : Tab Nat := []
  bwStart : Nat := 0
  bwLen : Nat := 1000
  digs : List (List Word) := []
  digAt : Nat := 0
  digTok : Nat × Nat := (0, 0)
  digCnt : Tab Nat := []
  profTok : Nat × Nat := (0, 0)
  capCnt : Nat := 0
  capTok : Nat := 64000000000
  capAt : Nat := 0
  seq : Tab Nat := []
  wr : Tab Nat := []
  moved : List Nat := []
  deriving DecidableEq, Repr

/-! ### Hosts, rings and DMA -/

/-- R281: one completion that a function is owed: the parts of DRAM that it waits for, by the numbers of
their reads, the address of its first byte, and the bytes so far; `word` marks that of a read of registers,
and `unsup` an Unsupported Request (R273). -/
structure HostCpl where
  word : Bool := false
  need : List Nat := []
  addr : Nat := 0
  data : List Byte := []
  bad : Bool := false
  unsup : Bool := false
  deriving DecidableEq, Repr

/-- R269-R290: one host's function. `cfg` are the written words of its configuration space, `msix`
its MSI-X table's words, `pba` its pending bits, `lvl` the source levels last seen, `subsys` the subsystem
word that the chain has written while `perst` says that PERSTh_N is low (R271), `rr` the next ring in the
rotation of R297, and `cpls` the completions owed, in order (R281). -/
structure HostFn where
  present : Bool := false
  linkUp : Bool := false
  width : Nat := 0
  speed : Nat := 0
  loss : Nat := 0
  losses : Nat := 0
  cfg : Tab Word := []
  msix : Tab Word := []
  pba : BitVec 128 := 0
  lvl : BitVec 96 := 0
  intx : Bool := false
  pm : LinkPm := .l0
  lastTlp : Nat := 0
  fetching : Bool := false
  again : Bool := false
  polled : Nat := 0
  subsys : Option Word := none
  perst : Bool := true
  rr : Nat := 0
  cpls : List HostCpl := []
  deriving DecidableEq, Repr

/-- R307: an inject descriptor that has been fetched. `data` is the frame once read. -/
structure InjDesc where
  desc : List Word := []
  data : Option (List Byte) := none
  failed : Bool := false
  deriving DecidableEq, Repr

/-- R293-R305: one ring. `used` says that it has been enabled since its reset. Settings are those read when
EN went to 1; `work` counts fetched entries not
yet finished, `inFlight` entries being read, `posted` prefetched punt descriptors, `stamps` when the
entries not yet consumed were written. -/
structure Ring where
  en : Bool := false
  used : Bool := false
  err : Bool := false
  base : Nat := 0
  log2 : Nat := 6
  gen : Nat := 1
  cpl : Nat := 0
  coalUs : Nat := 0
  coalLog : Nat := 0
  host : Word := 0
  dev : Word := 0
  fetched : Word := 0
  inFlight : Nat := 0
  work : Nat := 0
  owed : Nat := 0
  posted : List (List Word) := []
  inj : List InjDesc := []
  stamps : List Nat := []
  wbDue : Bool := false
  deriving DecidableEq, Repr

/-- R316, R329: one DRAM read of a MOVE: its number and length, and what came back; fewer bytes than were
asked for mean that the access was refused. -/
structure DmaPart where
  no : Nat := 0
  len : Nat := 0
  data : Option (List Byte) := none
  bad : Bool := false
  deriving DecidableEq, Repr

/-- R312-R318: one DMA channel. `ins` are the instructions fetched (none: an empty list), `ctr` its loop
counters (one more than what is left, 0 where not loaded), `srcEnd` and `dstEnd` where its last MOVE
ended, `pollAt` the time of a WAIT's next poll, `rd` the DRAM reads of the MOVE under way, `out` its writes
to internal space not yet acknowledged, `barWait` that the instruction waits for writes, of the space `barSp` (0
host memory, 1 internal, 2 both: FENCE), and `barErr` the error that it ends with; `moved` are that
instruction's bytes, `werr` the failed confirmation that the next FENCE reports, `hostEnd` the last host address
written, `hostOut` that no zero-length read has followed it, and `flush` that such a read is under way. -/
structure Chan where
  st : ChanState := .idle
  signaled : Bool := false
  ended : Bool := false
  err : Nat := 0
  pc : Nat := 0
  run : Word := 0
  prog : Nat := 0
  sbase : Nat := 0
  ins : Tab (List Word) := []
  ctr : Tab Nat := []
  srcEnd : Nat := 0
  dstEnd : Nat := 0
  waitAt : Option Nat := none
  waiting : Bool := false
  out : Nat := 0
  barWait : Bool := false
  barSp : Nat := 0
  barErr : Nat := 0
  moved : Nat := 0
  werr : Nat := 0
  hostEnd : Nat := 0
  hostOut : Bool := false
  flush : Bool := false
  pollAt : Nat := 0
  rd : List DmaPart := []
  deriving DecidableEq, Repr

/-! ### DRAM -/

/-- R329: a queued request of at most 64 bytes. A read has a number `no` and holds what it will return (R330):
`full` says that queued writes hold all of it, `bad` that its unit held the poison pattern (R336). -/
structure DReq where
  who : DramUser
  no : Nat := 0
  full : Bool := false
  bad : Bool := false
  addr : Nat
  len : Nat
  data : List Byte := []
  at_ : Nat := 0
  deriving DecidableEq, Repr

/-- R325-R341: one DRAM channel. `undef` counts the bring-ups that left its contents undefined
(R326); `cmdlog` is newest first; `ceTimes` are the times of each rank's last 255 corrected errors. `poison`
are the 64-byte units, by the places of their first bytes, that hold the poison pattern (R336). `upSince` is when the devices last came into
service or out of self-refresh, `refAt` each rank's last refresh due, `tempAt`, `zqAt` and `oscAt` the times
of the last temperature read, calibration and oscillator check (R327, R328); `scrubFrom` is when the patrol
began its round (R334), and `exitDue` that the domain's return to Active ends self-refresh (R325). -/
structure DCh where
  st : DramState := .unused
  stateEvt : Bool := false
  ueEvt : Bool := false
  migDone : Bool := false
  cfgErr : Bool := false
  spareUsed : Bool := false
  retired : Nat := 0
  migRank : Nat := 0
  migPtr : Nat := 0
  rq : List DReq := []
  wq : List DReq := []
  drain : Bool := false
  idleSince : Nat := 0
  srSince : Nat := 0
  hot : Bool := false
  postponed : Tab Nat := []
  ceTimes : Tab (List Nat) := []
  scrubPtr : Nat := 0
  poison : List Nat := []
  cmdlog : List (Word × Word) := []
  eaddr : Nat := 0
  einfo : Word := 0
  undef : Nat := 0
  exitDue : Bool := false
  upSince : Nat := 0
  refAt : Tab Nat := []
  tempAt : Nat := 0
  zqAt : Nat := 0
  oscAt : Nat := 0
  scrubFrom : Option Nat := none
  deriving DecidableEq, Repr

/-- R319-R341: the DRAM controller. `mem` is the byte memory of the devices, by place: (4 × channel + rank) ×
2^36 + the byte of the rank. `nextRd` numbers the reads. -/
structure Dram where
  ch : Tab DCh := []
  mem : Tab Byte := []
  nextRd : Nat := 0
  deriving DecidableEq, Repr

/-! ### Faults, freeze, chain, debug -/

/-- R350: one record of the history queue. -/
structure HistRec where
  time : BitVec 64
  head : Word
  info : Word
  deriving DecidableEq, Repr

/-- R342-R368: the fault collector. `blue` counts Blue events per source in the current window;
`flop` is the flip-flop record of R352; `retired` are FLT_RETIREc. -/
structure Faults where
  hist : List HistRec := []
  flop : Option HistRec := none
  lost : Bool := false
  blue : Tab Nat := []
  winStart : Nat := 0
  retired : Tab (BitVec 17) := []
  testGo : Bool := false
  testRes : Nat := 0
  testAt : Nat := 0
  drift : Tab (BitVec 16) := []
  warned : List Nat := []
  alarmed : List Nat := []
  hotWarn : Bool := false
  hotCrit : Bool := false
  deriving DecidableEq, Repr

/-- R387-R410: the chain unit: address, its own requests in order of arrival, each without its CRC word,
and the frames to forward that wait behind a broadcast frame, as received, the broadcast first (R388); `own` are
the unit's own frames that let those pass; the
read-out in progress (word 0 of its request, the next burst of its first section left, and the sections
left with their lengths in bursts), image copy and blow in progress. -/
structure Chain where
  addr : Nat := 0
  overflow : Bool := false
  q : List (List Word) := []
  fwd : List (List Word) := []
  own : List (List Word) := []
  readout : Option (Nat × Nat × List (Nat × Nat)) := none
  imaging : Option (List Word) := none
  blowing : Option (List Word) := none
  deriving DecidableEq, Repr

/-- R402-R405: freeze. `frozen` is step 2 of R403, `stopped` step 5; `drives` says the device holds
FREEZE_N low, `honour` that it has seen the line high since its reset, and `freeAt` the counter of free values at step 5,
at which what is measured keeps its value (R419). -/
structure FreezeSt where
  frozen : Bool := false
  stopped : Bool := false
  origin : Nat := 0
  source : Nat := 0
  event : Nat := 0
  time : BitVec 64 := 0
  at_ : Nat := 0
  drives : Bool := false
  honour : Bool := false
  frzEn : Bool := false
  frzOk : Bool := false
  freeAt : Nat := 0
  deriving DecidableEq, Repr

/-- R397: one requester's debug operation: its DBG_CMD fields, the last operation it started, and the
RESULT of that operation; `no` counts its operations, and `left` are the threads that had still to complete
the last one, each with the number of the operation it was to complete. -/
structure DbgOp where
  cmd : Word := 0
  go : Option Word := none
  result : Nat := 0
  no : Nat := 0
  left : List (Nat × Nat) := []
  deriving DecidableEq, Repr

/-! ### What the device puts on its pins and links -/

/-- The outputs, as one list, newest first: frames on a line, PCIe requests and completions,
messages, chain frames, and the transactions of the cage buses: the target's address, the bytes written,
and how many bytes are then read. A poisoned write names the ranges of its bytes that are poisoned, as
offsets and lengths. -/
inductive Out where
  | tx (lp : Nat) (frame : List Byte) (ok : Bool)
  | hostWrite (h : Nat) (addr : Nat) (words : List Word)
  | hostBytes (h : Nat) (addr : Nat) (bytes : List Byte)
  | hostPoisoned (h : Nat) (addr : Nat) (bytes : List Byte) (bad : List (Nat × Nat))
  | hostRead (h : Nat) (addr : Nat) (len : Nat)
  | readData (r : Req) (v : Word)
  | barData (h : Nat) (v : Word) (poisoned : Bool)
  | barBytes (h : Nat) (bytes : List Byte) (poisoned : Bool)
  | dramData (who : DramUser) (addr : Nat) (bytes : List Byte) (poisoned : Bool)
  | msix (h : Nat) (addr : Nat) (data : Word)
  | intx (h : Nat) (on : Bool)
  | unsupported (h : Nat)
  | ltr (h : Nat) (us : Nat)
  | chain (words : List Word)
  | i2c (pg : Nat) (addr : Nat) (written : List Byte) (read : Nat)
  | busClear (pg : Nat)
  | errorEof (lp : Nat)
  deriving DecidableEq, Repr

/-- The HJ6416. `held` are the register words by internal address (their RW, RW1C and RC parts),
`wide` the 64-bit counters by low-word address, `rxAt` the instant at which the counts of a physical port's receivers
were last stored (R421, R422), `priv` the registers private to a requester, keyed
requester × 2^40 + address (indexes and staging copies, R12, R212, R237, R291), `latch` the
high-word latches (R9, R261). `free` is the model's own counter of free values. -/
structure State where
  pending : List Instr := []
  ident : Ident := {}
  straps : Straps := {}
  fuses : Fuses := {}
  time : TimeUnit := {}
  held : Tab Word := []
  wide : Tab (BitVec 64) := []
  rxAt : Tab Nat := []
  priv : Tab Word := []
  latch : Tab Word := []
  dom : Tab Domain := []
  reload : Reload := {}
  clk : Clocks := {}
  ports : Tab SubPort := []
  cages : Tab Cage := []
  buses : Tab CageBus := []
  groups : Tab Group := []
  pkts : Tab Pkt := []
  nextPkt : Nat := 0
  reseq : Tab (List (Nat × SeqItem)) := []
  clusters : Tab Cluster := []
  threads : Tab Thread := []
  cstore : Tab (BitVec 144) := []
  img : ImagePort := {}
  tbl : Tables := {}
  cu : CmdUnit := {}
  epc : Epoch := {}
  buf : Buffer := {}
  sched : Sched := {}
  led : Ledger := {}
  tel : Telem := {}
  hosts : Tab HostFn := []
  rings : Tab Ring := []
  dma : Tab Chan := []
  dram : Dram := {}
  flt : Faults := {}
  chain : Chain := {}
  frz : FreezeSt := {}
  dbg : Tab DbgOp := []
  free : Nat := 0
  out : List Out := []
  deriving DecidableEq, Repr

/-- R384: the machine right after a power-on reset: every table at its reset values, AON, PCIE and
DMAQ Active and every other domain Black, both hosts absent, staging closed, nothing waiting. -/
def State.reset : State :=
  { dom := [(0, { target := .active, shade := .active }), (1, { target := .active, shade := .active }),
            (2, { target := .active, shade := .active })] }

/-- Why the machine stops with a fault. No command of this device stops it: a fault of the hardware
is an event that the fault collector records (R343). -/
inductive Fault where
  /-- Raised by no meaning. It would be safe: the machine would stop where the hardware goes on. -/
  | none_
  deriving DecidableEq, Repr

/-- Why a command has no meaning. -/
inductive Refusal where
  /-- Raised by an arm of `exec` for a command that the model has not reached. Safe: nothing can be
  proved of such a command. -/
  | notModelled (mnemonic : String)
  deriving DecidableEq, Repr

end Sys2Proof.Machine
end

