-- ==== Sys2Proof/Machine/Ops.lean ====
section
/-! DEFINITION. The named operations over the state that every family shares: access to its tables,
register words and counters, the parts of the variant, device time, the ledger's counting and the
event counters. -/

namespace Sys2Proof.Machine

open Sys2Proof

/-! ### Parts of the variant -/

/-- R1, R2: port groups of the variant. -/
def State.nGroups (s : State) : Nat := if s.ident.variant = .hj4816c then 6 else 8

/-- R1: logical ports of the variant. -/
def State.nPorts (s : State) : Nat := 32 * s.nGroups

/-- R1: clusters of the variant. -/
def State.nClusters (s : State) : Nat := 8 * s.nGroups

/-! ### Power domains and device time -/

/-- R369: one domain. -/
def State.dmn (s : State) (k : Nat) : Domain := tget (fun _ => {}) s.dom k

/-- One domain written. -/
def State.setDmn (s : State) (k : Nat) (d : Domain) : State :=
  { s with dom := tset (fun _ => {}) s.dom k d }

/-- R370: a domain's last completed shade is Active. -/
def State.isActive (s : State) (k : Nat) : Bool := (s.dmn k).shade = .active

/-- R444: a domain's last completed shade is Active or Pale. -/
def State.isLit (s : State) (k : Nat) : Bool :=
  (s.dmn k).shade = .active || (s.dmn k).shade = .pale

/-- R370: the code of a shade. -/
def Shade.code : Shade → Nat
  | .active => 0
  | .pale => 1
  | .grey => 2
  | .slate => 3
  | .black => 4

/-- R378: a clock domain has not lost its PLL. -/
def State.clkOk (s : State) (i : Nat) : Bool := ! s.clk.lost.contains i

/-- R369, R377, R378: a domain is Active and a clock domain in it runs. -/
def State.runs (s : State) (dom clk : Nat) : Bool := s.isActive dom && s.clkOk clk

/-- R369: the domain numbers. -/
def domDram : Nat := 3
/-- R369. -/
def domTbl : Nat := 4
/-- R369. -/
def domTel : Nat := 5
/-- R369. -/
def domPg (n : Nat) : Nat := 6 + n
/-- R369. -/
def domSx (n : Nat) : Nat := 14 + n
/-- R369. -/
def domBuf (i : Nat) : Nat := 22 + i

/-- R403: the functional logic runs: no freeze is in force. -/
def State.live (s : State) : Bool := ! s.frz.frozen

/-- R403: registers are served until the clocks stop. -/
def State.regOn (s : State) : Bool := ! s.frz.stopped

/-- The pipes of a port group run. -/
def State.pgOn (s : State) (n : Nat) : Bool := s.live && s.runs (domPg n) (72 + n)

/-- A cluster runs. -/
def State.cluOn (s : State) (c : Nat) : Bool := s.live && s.runs (domPg (c / 8)) (80 + c)

/-- The command unit runs. -/
def State.tblOn (s : State) : Bool := s.live && s.runs domTbl 145

/-- The telemetry unit runs. -/
def State.telOn (s : State) : Bool := s.live && s.runs domTel 155

/-- The DRAM controller runs a channel. -/
def State.dramOn (s : State) (c : Nat) : Bool := s.live && s.runs domDram (149 + c)

/-- The host-side logic runs, and the link of a host. -/
def State.hostOn (s : State) (h : Nat) : Bool := s.live && s.clkOk 148 && s.clkOk (146 + h)

/-- R379: device time in ns. -/
def State.now (s : State) : Nat := s.time.now

/-- R379: what the time base has counted in ns, the steps of device time left out. Spans of time that the
device measures run on it (log entry 68). -/
def State.mono (s : State) : Nat := ((s.time.now : Int) - s.time.shift).toNat

/-- R71: device time modulo 2^48. -/
def State.now48 (s : State) : Nat := s.time.now % 2 ^ 48

/-- R71: a difference of two times modulo 2^48. -/
def age48 (now t : Nat) : Nat := (now + 2 ^ 48 - t % 2 ^ 48) % 2 ^ 48

/-! ### Register words and counters -/

/-- A stored register word: register `j` of a name, in instance `k` of its block. -/
def State.rg (s : State) (n : RegName) (k : Nat := 0) (j : Nat := 0) (i : Nat := 0) : Word :=
  tget heldReset s.held (regAddr n k i j)

/-- A stored register word written. -/
def State.setRg (s : State) (n : RegName) (k j : Nat) (v : Word) (i : Nat := 0) : State :=
  { s with held := tset heldReset s.held (regAddr n k i j) v }

/-- Bits set in a stored register word. -/
def State.orRg (s : State) (n : RegName) (k j : Nat) (v : Word) : State :=
  s.setRg n k j (s.rg n k j ||| v)

/-- R10: a 32-bit RC counter advances and saturates. -/
def State.bump (s : State) (n : RegName) (k j : Nat) (c : Nat := 1) : State :=
  s.setRg n k j (wd (sat 32 ((s.rg n k j).toNat + c)))

/-- A 16-bit RC count in bits 31:16 advances and saturates (R54, R94). -/
def State.bumpHigh (s : State) (n : RegName) (k j : Nat) : State :=
  let w := s.rg n k j
  s.setRg n k j (setFld w 31 16 (sat 16 (fld w 31 16 + 1)))

/-- A 64-bit counter, by its low word's register. -/
def State.ctr (s : State) (n : RegName) (k j : Nat) : BitVec 64 :=
  tget (fun _ => 0) s.wide (regAddr n k 0 j)

/-- R9: a 64-bit counter advances, modulo 2^64. -/
def State.addCtr (s : State) (n : RegName) (k j : Nat) (c : Nat := 1) : State :=
  { s with wide := tmod (fun _ => 0) s.wide (regAddr n k 0 j) fun v => v + BitVec.ofNat 64 c }

/-- R175: the number of a requester. -/
def reqNum : Req → Nat
  | .host0 => 0
  | .host1 => 1
  | .chain => 2

/-- The requester that a host is. -/
def hostReq (h : Nat) : Req := if h = 0 then .host0 else .host1

/-- R117: the reset value of a word private to a requester: that of a staging copy of a cluster's slot
table; every other such word is 0 at reset. -/
def privReset (k : Nat) : Word :=
  let a := k % 2 ^ 40
  if 0x10000000 ≤ a && a < 0x11000000 && a % 0x40000 == 0x10 then 0xE4E4E4E4
  else if 0x10000000 ≤ a && a < 0x11000000 && a % 0x40000 == 0x14 then 0xFFFF
  else 0

/-- A word private to a requester. -/
def State.pv (s : State) (r : Req) (a : Nat) : Word := tget privReset s.priv (reqNum r * 2 ^ 40 + a)

/-- A private word written. -/
def State.setPv (s : State) (r : Req) (a : Nat) (v : Word) : State :=
  { s with priv := tset privReset s.priv (reqNum r * 2 ^ 40 + a) v }

/-- An output added. -/
def State.emit (s : State) (o : Out) : State := { s with out := o :: s.out }

/-- A value that the spec leaves undefined, and the counter's advance (log entry 4). -/
def State.fresh (s : State) : Word × State := (Config.freeWord s.free, { s with free := s.free + 1 })

/-! ### Tables of parts -/

/-- One sub-port. -/
def State.port (s : State) (lp : Nat) : SubPort := tget (fun _ => {}) s.ports lp
/-- One sub-port written. -/
def State.setPort (s : State) (lp : Nat) (p : SubPort) : State :=
  { s with ports := tset (fun _ => {}) s.ports lp p }

/-- One cage, cage P of physical port P (R41). -/
def State.cage (s : State) (c : Nat) : Cage := tget (fun _ => {}) s.cages c
/-- One cage written. -/
def State.setCage (s : State) (c : Nat) (x : Cage) : State :=
  { s with cages := tset (fun _ => {}) s.cages c x }

/-- One group's cage bus. -/
def State.bus (s : State) (n : Nat) : CageBus := tget (fun _ => {}) s.buses n
/-- One cage bus written. -/
def State.setBus (s : State) (n : Nat) (x : CageBus) : State :=
  { s with buses := tset (fun _ => {}) s.buses n x }

/-- One port group. -/
def State.grp (s : State) (n : Nat) : Group := tget (fun _ => {}) s.groups n
/-- One port group written. -/
def State.setGrp (s : State) (n : Nat) (x : Group) : State :=
  { s with groups := tset (fun _ => {}) s.groups n x }

/-- A frame on its way to the buffer. -/
def State.pkt (s : State) (k : Nat) : Pkt := tget (fun _ => {}) s.pkts k
/-- A frame written. -/
def State.setPkt (s : State) (k : Nat) (x : Pkt) : State :=
  { s with pkts := tset (fun _ => {}) s.pkts k x }

/-- One cluster. -/
def State.clu (s : State) (c : Nat) : Cluster := tget (fun _ => {}) s.clusters c
/-- One cluster written. -/
def State.setClu (s : State) (c : Nat) (x : Cluster) : State :=
  { s with clusters := tset (fun _ => {}) s.clusters c x }

/-- The key of a thread. -/
def thrKey (c e t : Nat) : Nat := (c * 17 + e) * 8 + t
/-- One thread. -/
def State.thr (s : State) (k : Nat) : Thread := tget (fun _ => {}) s.threads k
/-- One thread written. -/
def State.setThr (s : State) (k : Nat) (x : Thread) : State :=
  { s with threads := tset (fun _ => {}) s.threads k x }

/-- One host's function. -/
def State.hst (s : State) (h : Nat) : HostFn := tget (fun _ => {}) s.hosts h
/-- One host's function written. -/
def State.setHst (s : State) (h : Nat) (x : HostFn) : State :=
  { s with hosts := tset (fun _ => {}) s.hosts h x }

/-- Ring `t` of host `h`. -/
def State.ring (s : State) (h t : Nat) : Ring := tget (fun _ => {}) s.rings (52 * h + t)
/-- A ring written. -/
def State.setRing (s : State) (h t : Nat) (x : Ring) : State :=
  { s with rings := tset (fun _ => {}) s.rings (52 * h + t) x }

/-- One DMA channel. -/
def State.chan (s : State) (n : Nat) : Chan := tget (fun _ => {}) s.dma n
/-- A DMA channel written. -/
def State.setChan (s : State) (n : Nat) (x : Chan) : State :=
  { s with dma := tset (fun _ => {}) s.dma n x }

/-- One DRAM channel. -/
def State.dch (s : State) (c : Nat) : DCh := tget (fun _ => {}) s.dram.ch c
/-- A DRAM channel written. -/
def State.setDch (s : State) (c : Nat) (x : DCh) : State :=
  { s with dram := { s.dram with ch := tset (fun _ => {}) s.dram.ch c x } }

/-- R26: what the resequencer holds for a port. -/
def State.held26 (s : State) (lp : Nat) : List (Nat × SeqItem) := tget (fun _ => []) s.reseq lp

/-- R206: the descriptors of a queue, in order of enqueue. -/
def State.queue (s : State) (q : Nat) : List Nat := tget (fun _ => []) s.buf.queues q

/-- One stored frame, by its address in cells. -/
def State.bufr (s : State) (b : Nat) : Buf := tget (fun _ => {}) s.buf.bufs b

/-- One descriptor. -/
def State.desc (s : State) (d : Nat) : Desc := tget (fun _ => {}) s.buf.descs d

/-! ### Event counters (R260) -/

/-- R260: every event counter whose selector word satisfies a test advances; the counters lie in the
TEL domain and count while it is Active (log entry 6). -/
def State.pmc (s : State) (hit : Word → Bool) (n : Nat) : State :=
  if s.isActive domTel then
    let base := 0x13022000
    let sel := s.held.filter fun e => base ≤ e.1 && e.1 < base + 4096 && hit e.2
    let one (w : Tab (BitVec 64)) (e : Nat × Word) : Tab (BitVec 64) :=
      tmod (fun _ => 0) w (0x13020000 + 2 * (e.1 - base)) fun v => v + BitVec.ofNat 64 n
    { s with wide := sel.foldl one s.wide }
  else s

/-- R260: PAR selects a parity. -/
def parSel (w : Word) (par : Bool) : Bool :=
  match fld w 27 26 with
  | 1 => ! par
  | 2 => par
  | _ => true

/-- R260: INSTANCE of sources 0x1 and 0x2 takes in a logical port's account; `n` ports are present, and an absent
port or group is no instance. -/
def instSel (n : Nat) (w : Word) (lp : Nat) : Bool :=
  let i := fld w 25 14
  (lp < n && (i == lp || i == 0x800 + lp / 32)) || i == 0xFFF

/-- R260: an event of a cluster (source 0x3). -/
def State.pmcCluster (s : State) (c ev : Nat) (n : Nat := 1) : State :=
  s.pmc (fun w => fld w 31 28 == 3 && fld w 25 14 == c && fld w 6 0 == ev) n

/-- R260: an event of a queue (source 0x4); one of an absent port is no instance. -/
def State.pmcQueue (s : State) (q ev : Nat) (n : Nat := 1) : State :=
  s.pmc (fun w => fld w 31 28 == 4 && fld w 25 14 == q && fld w 6 0 == ev && (q / 10 < s.nPorts || 2560 ≤ q)) n

/-! ### The ledger's counting (R246-R250) -/

/-- The number of a term, in the order of R268. -/
def Term.idx : Term → Nat
  | .inn => 0
  | .repl => 1
  | .inj => 2
  | .out => 3
  | .dStamp => 4
  | .dParse => 5
  | .dEng => 6
  | .dPol => 7
  | .dAdm => 8
  | .dRepl => 9
  | .dEgr => 10

/-- R260: EVENT of a term as source 0x1 numbers it. -/
def Term.event : Term → Nat
  | .inn => 0
  | .inj => 1
  | .dStamp => 2
  | .dParse => 3
  | .dEng => 4
  | .dPol => 5
  | .dAdm => 6
  | .repl => 7
  | .dRepl => 8
  | .out => 9
  | .dEgr => 10

/-- R247: a term on the left of the balance adds to the frames held. -/
def Term.enters : Term → Bool
  | .inn => true
  | .repl => true
  | .inj => true
  | _ => false

/-- R248: the term of a drop at a boundary. -/
def Boundary.term : Boundary → Term
  | .stamping => .dStamp
  | .parse => .dParse
  | .engines => .dEng
  | .policers => .dPol
  | .admission => .dAdm
  | .replication => .dRepl
  | .egress => .dEgr

/-- R265: BOUNDARY of a capture record. -/
def Boundary.code : Boundary → Nat
  | .stamping => 0
  | .parse => 1
  | .engines => 2
  | .policers => 3
  | .admission => 4
  | .replication => 5
  | .egress => 6

/-- The key of an account and a parity: a logical port's account. -/
def acctP (lp : Nat) (par : Bool) : Nat := 2 * lp + b2n par

/-- The key of the account of a logical port's group. -/
def acctG (lp : Nat) (par : Bool) : Nat := 2 * (256 + lp / 32) + b2n par

/-- R249: a frame of an origin port and parity belongs to an account. -/
def inAcct (acct lp : Nat) (par : Bool) : Bool := acct == acctP lp par || acct == acctG lp par

/-- R249: the frames that an account holds, counted where they are: those in the holding store that are not
yet admitted, and the descriptors, of frames in transmission too. -/
def State.heldBy (s : State) (acct : Nat) : Nat :=
  s.pkts.countP (fun e => inAcct acct e.2.stamp.lport e.2.stamp.epoch) +
    s.buf.descs.countP fun e => inAcct acct e.2.lport e.2.epoch

/-- R246-R250: `n` frames of an origin port and parity are counted under a term, in the port's account
and in its group's. -/
def State.book (s : State) (lp : Nat) (par : Bool) (t : Term) (n : Nat := 1) : State :=
  let c := tmod (fun _ => 0) s.led.cnt (acctP lp par * 16 + t.idx) (· + n)
  let c := tmod (fun _ => 0) c (acctG lp par * 16 + t.idx) (· + n)
  ({ s with led := { s.led with cnt := c } } : State).pmc
    (fun w => fld w 31 28 == 1 && instSel s.nPorts w lp && parSel w par && fld w 6 0 == t.event) n

/-- R254: the frames held device-wide with one parity. -/
def State.liveHeld (s : State) (par : Bool) : Nat :=
  s.pkts.countP (fun e => e.2.stamp.epoch == par) + s.buf.descs.countP fun e => e.2.epoch == par

/-- R256: a defined reason code; a drop with another is counted as BAD_REASON. -/
def reasonCode (c : Nat) : Nat :=
  if (1 ≤ c && c ≤ 0x30) || (0x50 ≤ c && c ≤ 0x7F) then c else 0x30

/-- R256, R260: a drop's reason is counted, in the port's account and in its group's. -/
def State.bookReason (s : State) (lp : Nat) (par : Bool) (code : Nat) : State :=
  let c := tmod (fun _ => 0) s.led.rsn (acctP lp par * 128 + code) (· + 1)
  let c := tmod (fun _ => 0) c (acctG lp par * 128 + code) (· + 1)
  ({ s with led := { s.led with rsn := c } } : State).pmc
    (fun w => fld w 31 28 == 2 && instSel s.nPorts w lp && parSel w par && fld w 6 0 == code) 1

/-- R259: a frame's line bytes. -/
def lineBytes (len : Nat) : Nat := max len 64 + 20

/-- R234: the limit of a bucket, in millionths of a byte. -/
def Bucket.limit (b : Bucket) : Int := (b.burst : Int) * 64000000

/-- R233, R353: a bucket filled to its limit. -/
def Bucket.full (b : Bucket) : Bucket := { b with tok := b.limit }

/-- R369: the telemetry unit counts while its domain is Active (log entry 6). -/
def State.telCount (s : State) (f : Telem → Telem) : State :=
  if s.isActive domTel then { s with tel := f s.tel } else s

/-- R259: line bytes of a logical port in a direction (0 in, 1 out). -/
def State.addLine (s : State) (lp dir len : Nat) : State :=
  let f (v : Nat) := v + lineBytes len
  let s : State := { s with tel := { s.tel with bytes := tmod (fun _ => 0) s.tel.bytes (2 * lp + dir) f } }
  s.telCount fun t => { t with bwWin := tmod (fun _ => 0) t.bwWin (2 * lp + dir) f }

/-- R258: ENQ of a queue. -/
def State.telEnq (s : State) (q : Nat) : State :=
  (s.telCount fun t => { t with enq := tmod (fun _ => 0) t.enq q (· + 1) }).pmcQueue q 0

/-- R258: REFUSED of a queue. -/
def State.telRefused (s : State) (q : Nat) : State :=
  (s.telCount fun t => { t with refused := tmod (fun _ => 0) t.refused q (· + 1) }).pmcQueue q 3

/-- R257, R258: a sojourn in ns enters its queue's histogram, in a bin that saturates. -/
def State.telBin (s : State) (q sojourn : Nat) : State :=
  let k := min 31 (Nat.log2 sojourn - 4)
  s.telCount fun t => { t with bins := tmod (fun _ => 0) t.bins (32 * q + k) fun v => sat 32 (v + 1) }

end Sys2Proof.Machine
end

