-- ==== Sys2Proof/Machine/Export.lean ====
section
/-! DEFINITION. DRAM space and its request queues (R319-R322, R329, R330), the export of telemetry
records (R266, R267, R310), drop capture (R264, R265) and the one operation that drops a frame. -/

namespace Sys2Proof.Machine

open Sys2Proof

/-! ### DRAM space -/

/-- R320: the first address of DRAM space. -/
def dramBase : Nat := 0x4000000000

/-- R320: the size of a channel's slot. -/
def slotSize : Nat := 0x1000000000

/-- R319, R323: device width in bits, none for a refused encoding. -/
def drcWidth (cfg : Word) : Option Nat :=
  match fld cfg 19 18 with
  | 0 => some 4
  | 1 => some 8
  | 2 => some 16
  | _ => none

/-- R323: ranks per channel, none for a refused encoding. -/
def drcRanks (cfg : Word) : Option Nat :=
  match fld cfg 17 16 with
  | 0 => some 1
  | 1 => some 2
  | 2 => some 4
  | _ => none

/-- R323: density in Gb, none for a refused encoding. -/
def drcDensity (cfg : Word) : Option Nat :=
  match fld cfg 11 8 with
  | 0 => some 8
  | 1 => some 16
  | 2 => some 24
  | 3 => some 32
  | _ => none

/-- R319: capacity per rank in bytes. -/
def rankSize (cfg : Word) : Nat :=
  match drcWidth cfg, drcDensity cfg with
  | some w, some d => (64 / w) * d / 8 * 2 ^ 30
  | _, _ => 0

/-- R323: ranks per channel, 0 for a refused encoding. -/
def rankCount (cfg : Word) : Nat := (drcRanks cfg).getD 0

/-- R323, R319: the configuration is one the device supports. -/
def drcOk (cfg : Word) : Bool :=
  (drcWidth cfg).isSome && (drcRanks cfg).isSome && (drcDensity cfg).isSome &&
    fld cfg 2 0 ≤ 4 &&
    4 * 2 ^ 30 ≤ rankSize cfg * rankCount cfg && rankSize cfg * rankCount cfg ≤ 64 * 2 ^ 30

/-- R339: a spare is designated, which needs 4 ranks. -/
def State.hasSpare (s : State) (c : Nat) : Bool :=
  bit (s.rg .drcChCtl 0 c) 3 && rankCount (s.rg .drcCfg) = 4

/-- R320: the usable capacity Q_c. -/
def State.usable (s : State) (c : Nat) : Nat :=
  let cfg := s.rg .drcCfg
  rankSize cfg * (rankCount cfg - b2n (s.hasSpare c))

/-- R320: the states in which a channel's addresses are in service. -/
def DramState.serves : DramState → Bool
  | .service => true
  | .migrating => true
  | .selfRefresh => true
  | _ => false

/-- R320: the channel and the offset of an address of DRAM space. -/
def dramChan (a : Nat) : Option (Nat × Nat) :=
  if dramBase ≤ a && a < dramBase + 4 * slotSize then
    some ((a - dramBase) / slotSize, (a - dramBase) % slotSize)
  else none

/-- R320: an address in service. -/
def State.inService (s : State) (a : Nat) : Bool :=
  match dramChan a with
  | some (c, off) => (s.dch c).st.serves && off < s.usable c
  | none => false

/-- The first place of a rank's bytes in the memory of the devices. -/
def rankPlace (c rank : Nat) : Nat := (4 * c + rank) * 2 ^ 36

/-- What an unlisted byte of DRAM reads as, by its place: zero in a channel that no bring-up has left
undefined and outside the four, and a free value after such a bring-up (R326; log entries 3 and 5). -/
def State.dramDflt (s : State) (x : Nat) : Byte :=
  let u := (s.dch (x / 2 ^ 38)).undef
  if 4 ≤ x / 2 ^ 38 || u = 0 then 0 else Config.dramByte u x

/-- The byte of DRAM at a place. -/
def State.dramGet (s : State) (x : Nat) : Byte := tget s.dramDflt s.dram.mem x

/-- The byte of DRAM at a place, written. -/
def State.dramSet (s : State) (x : Nat) (b : Byte) : State :=
  { s with dram := { s.dram with mem := tset s.dramDflt s.dram.mem x b } }

/-- Bytes written from a place up. -/
def State.dramPut (s : State) (x : Nat) : List Byte → State
  | [] => s
  | b :: l => (s.dramSet x b).dramPut (x + 1) l

/-- R320: the ranks that serve addresses, in order, the spare left out. -/
def State.ranksUsed (s : State) (c : Nat) : List Nat :=
  (List.range (rankCount (s.rg .drcCfg))).filter fun r =>
    ! s.hasSpare c || r ≠ fld (s.rg .drcChCtl 0 c) 1 0

/-- R320, R336: the rank whose range an offset lies in. -/
def State.rankOf (s : State) (c off : Nat) : Nat :=
  ((s.ranksUsed c)[off / max 1 (rankSize (s.rg .drcCfg))]?).getD 0

/-- R336: the rank that serves an offset: the spare for a retired rank's range, and for the part of a
migrating rank's range that is already copied. -/
def State.rankServing (s : State) (c off : Nat) : Nat :=
  let d := s.dch c
  let r := s.rankOf c off
  let spare := fld (s.rg .drcChCtl 0 c) 1 0
  if d.spareUsed && r == d.retired then spare
  else if (d.st = .migrating || d.st = .frozen) && r == d.migRank && off % max 1 (rankSize (s.rg .drcCfg)) < d.migPtr then spare
  else r

/-- R320, R336: the place of an offset of a channel's slot: in the rank that serves it. -/
def State.dramPlace (s : State) (c off : Nat) : Nat :=
  rankPlace c (s.rankServing c off) + off % max 1 (rankSize (s.rg .drcCfg))

/-- R336: a unit holds the poison pattern. -/
def State.poisonedAt (s : State) (c x : Nat) : Bool := (s.dch c).poison.contains (x / 64 * 64)

/-- R336: an offset of a channel's slot lies in a 64-byte unit written with the poison pattern. -/
def State.poisoned (s : State) (c off : Nat) : Bool := s.poisonedAt c (s.dramPlace c off)

/-- Bytes are written to a channel's devices from a place up; where they cover a whole 64-byte unit they replace
the poison pattern there (R336). -/
def State.dramStore (s : State) (c x : Nat) (b : List Byte) : State :=
  let d := s.dch c
  (s.setDch c { d with poison := d.poison.filter fun p => ! (x ≤ p && p + 64 ≤ x + b.length) }).dramPut x b

/-- Bytes are written to the devices from an address of DRAM space up, within one chunk of a migration. -/
def State.dramLay (s : State) (a : Nat) (b : List Byte) : State :=
  match dramChan a with
  | some (c, off) => s.dramStore c (s.dramPlace c off) b
  | none => s

/-- The byte of a queued write, where it covers the address. -/
def DReq.byteAt (r : DReq) (a : Nat) : Option Byte :=
  if r.addr ≤ a && a < r.addr + r.len then some (bAt r.data (a - r.addr)) else none

/-- R330: the byte that a read accepted now returns: the newest queued write's, else the memory's. -/
def State.dramNow (s : State) (a : Nat) : Byte :=
  match dramChan a with
  | some (c, off) => ((s.dch c).wq.reverse.findSome? fun r => r.byteAt a).getD (s.dramGet (s.dramPlace c off))
  | none => 0

/-- R329: a request split at 64-byte boundaries, as addresses and lengths. -/
def splitReq : Nat → Nat → Nat → List (Nat × Nat)
  | 0, _, _ => []
  | fuel + 1, a, len =>
    if len = 0 then []
    else
      let n := min len (64 - a % 64)
      (a, n) :: splitReq fuel (a + n) (len - n)

/-- R330: the bytes of a new write take the place of those of a queued one in the same addresses. -/
def DReq.overlay (r : DReq) (a : Nat) (bytes : List Byte) : DReq :=
  { r with data := (List.range r.len).map fun k =>
      let x := r.addr + k
      if a ≤ x && x < a + bytes.length then bAt bytes (x - a) else bAt r.data k }

/-- R330: a queued write covers a whole range. -/
def DReq.covers (r : DReq) (a n : Nat) : Bool := r.addr ≤ a && a + n ≤ r.addr + r.len

/-- R329, R330, R320: a write of at most 64 bytes reaches its channel's queue; outside service it is
discarded. -/
def State.dramWrite1 (s : State) (who : DramUser) (a : Nat) (bytes : List Byte) : State :=
  match dramChan a with
  | none => s
  | some (c, _) =>
    if s.inService a && s.isActive domDram then
      let d := s.dch c
      let q := d.wq.map fun r => r.overlay a bytes
      let r : DReq := { who := who, addr := a, len := bytes.length, data := bytes, at_ := s.mono }
      let q := if d.wq.any fun r => r.covers a bytes.length then q else q ++ [r]
      s.setDch c { d with wq := q }
    else s

/-- R336, R341: the ranks of a channel whose devices the controller still commands: a retired one is no longer
accessed. -/
def State.ranksLive (s : State) (c : Nat) : List Nat :=
  (List.range (rankCount (s.rg .drcCfg))).filter fun r => ! ((s.dch c).spareUsed && r == (s.dch c).retired)

/-- R341: one word of the command log: the bank, row and column bits follow a mapping that the spec does not
give, so they are the free value `w` (log entry 4). -/
def clogLo (cmd rank : Nat) (w : Word) : Word := put 31 28 cmd ||| put 27 26 rank ||| (w &&& 0x03FFFFFF)

/-- R341: commands enter the log of 64, the last of the list newest. A frozen channel's log stops (R335). -/
def State.dlogs (s : State) (c rank : Nat) (cmds : List Nat) : State :=
  let d := s.dch c
  if d.st = .frozen then s
  else
    let new := cmds.mapIdx fun i cmd => (clogLo cmd rank (Config.freeWord (s.free + i)), wd s.now)
    ({ s with free := s.free + cmds.length } : State).setDch c { d with cmdlog := (new.reverse ++ d.cmdlog).take 64 }

/-- R341: a command enters the log. -/
def State.dlog (s : State) (c cmd rank : Nat) : State := s.dlogs c rank [cmd]

/-- R341, R329: the row commands before an access: none where its row is open, ACT where its bank is closed,
and PRE and ACT where another row is open. Which it is follows the mapping, a free value (log entry 4). -/
def rowCmds (w : Word) : List Nat := if bit w 0 then [] else if bit w 1 then [1] else [4, 1]

/-- R341: a read or write (command 2 or 3) of a rank enters the log after its row commands. -/
def State.dlogAcc (s : State) (c cmd rank : Nat) : State :=
  let w := Config.freeWord s.free
  let d := s.dch c
  if d.st = .frozen then s
  else
    let new := (rowCmds w ++ [cmd]).mapIdx fun i cmd => (clogLo cmd rank (Config.freeWord (s.free + 1 + i)), wd s.now)
    ({ s with free := s.free + 4 } : State).setDch c { d with cmdlog := (new.reverse ++ d.cmdlog).take 64 }

/-- R341: commands that go to every rank of a channel enter the log, rank by rank (log entry 78). -/
def State.dlogAll (s : State) (c : Nat) (cmds : List Nat) : State :=
  (s.ranksLive c).foldl (fun st r => st.dlogs c r cmds) s

/-- R332, R341: the commands that enter self-refresh: the banks of each rank are closed where any is open, a
free value, and the entry command follows. -/
def State.dlogSre (s : State) (c : Nat) : State :=
  (s.ranksLive c).foldl (fun st r =>
    ({ st with free := st.free + 1 } : State).dlogs c r (if bit (Config.freeWord st.free) 0 then [6] else [4, 6])) s

/-- R329: a write request, split. -/
def State.dramWrite (s : State) (who : DramUser) (a : Nat) (bytes : List Byte) : State :=
  (splitReq (bytes.length + 1) a bytes.length).foldl
    (fun st p => st.dramWrite1 who p.1 (slice bytes (p.1 - a) p.2)) s

/-! ### Who waits for a read -/

/-- R286, R287: a TLP on a host's link. -/
def State.tlp (s : State) (h : Nat) : State := s.setHst h { s.hst h with lastTlp := s.mono, pm := .l0 }

/-- What a completion brings its function: a word of registers, or the bytes of a BAR4 read. -/
def HostCpl.out (c : HostCpl) (h : Nat) : Out :=
  if c.unsup then .unsupported h else if c.word then .barData h (leWord c.data 0) c.bad else .barBytes h c.data c.bad

/-- R281: completions leave in order of arrival, as far as their data is there; each is a TLP (R287). -/
def State.cplSend (s : State) (h : Nat) : List HostCpl → State
  | [] => s.setHst h { s.hst h with cpls := [] }
  | c :: t => if c.need = [] then ((s.tlp h).emit (c.out h)).cplSend h t else s.setHst h { s.hst h with cpls := c :: t }

/-- R281: a completion joins those that a function is owed. -/
def State.cplPut (s : State) (h : Nat) (c : HostCpl) : State := s.cplSend h ((s.hst h).cpls ++ [c])

/-- R281: the word of a register, configuration or counter read. -/
def State.hostWordOut (s : State) (h : Nat) (v : Word) : State := s.cplPut h { word := true, data := leBytes v }

/-- Bytes put over others from an offset. -/
def overlayAt (l : List Byte) (k : Nat) (b : List Byte) : List Byte := l.take k ++ b ++ l.drop (k + b.length)

/-- The DRAM read of a number comes back to the completion that waits for it. -/
def HostCpl.part (c : HostCpl) (no a : Nat) (b : List Byte) (bad : Bool) : HostCpl :=
  if c.need.contains no then
    { c with need := c.need.erase no, data := overlayAt c.data (a - c.addr) b, bad := c.bad || bad }
  else c

/-- The DRAM read of a number comes back to the MOVE that waits for it. -/
def DmaPart.part (p : DmaPart) (no : Nat) (b : List Byte) (bad : Bool) : DmaPart :=
  if p.no = no && p.data.isNone then { p with data := some b, bad := bad } else p

/-- A read of DRAM is answered, by its number: to the completion of a host's BAR4 read (R280), to the MOVE of
a channel (R316), or to the unit that asked. -/
def State.dramAnswer (s : State) (who : DramUser) (no a : Nat) (b : List Byte) (bad : Bool) : State :=
  match who with
  | .host h =>
    if (s.hst h).cpls.any fun c => c.need.contains no then s.cplSend h ((s.hst h).cpls.map fun c => c.part no a b bad)
    else (s.tlp h).emit (.dramData who a b bad)
  | .dma ch =>
    if (s.chan ch).rd.any fun p => p.no == no && p.data.isNone then
      s.setChan ch { s.chan ch with rd := (s.chan ch).rd.map fun p => p.part no b bad }
    else s.emit (.dramData who a b bad)
  | _ => s.emit (.dramData who a b bad)

/-- R330: queued writes hold every byte of a range. -/
def State.heldByWrites (s : State) (c a n : Nat) : Bool :=
  (List.range n).all fun k => (s.dch c).wq.any fun r => (r.byteAt (a + k)).isSome

/-- R329, R330, R320: a read of at most 64 bytes reaches its channel's queue with what it will return; outside
service it returns zeros at once. -/
def State.dramRead1 (s : State) (who : DramUser) (a n : Nat) : State :=
  let no := s.dram.nextRd
  let s : State := { s with dram := { s.dram with nextRd := no + 1 } }
  match dramChan a with
  | none => s.dramAnswer who no a (zeros n) false
  | some (c, off) =>
    if s.inService a && s.isActive domDram then
      let d := s.dch c
      let bytes := (List.range n).map fun k => s.dramNow (a + k)
      s.setDch c { d with rq := d.rq ++ [{ who := who, no := no, full := s.heldByWrites c a n, bad := s.poisoned c off, addr := a, len := n, data := bytes, at_ := s.mono }] }
    else s.dramAnswer who no a (zeros n) false

/-- R329: a read request, split. -/
def State.dramRead (s : State) (who : DramUser) (a len : Nat) : State :=
  (splitReq (len + 1) a len).foldl (fun st p => st.dramRead1 who p.1 p.2) s

/-- R277: an access refused for a domain's shade or for a DRAM channel. -/
def State.sleepAcc (s : State) (r : Req) : State :=
  match r with
  | .host0 => s.bump .pciSleepAcc 0 0
  | .host1 => s.bump .pciSleepAcc 1 0
  | .chain => s

/-- R280, R316, R333, R338: a queued read is discarded: a host's BAR4 read returns zero and is counted, and the
access of a DMA channel is refused. -/
def State.dropRead (s : State) (r : DReq) : State :=
  match r.who with
  | .host h => (s.sleepAcc (hostReq h)).dramAnswer r.who r.no r.addr (zeros r.len) false
  | .dma _ => s.dramAnswer r.who r.no r.addr [] false
  | _ => s

/-- R332: the reads of a channel's queue that stay; where that empties both its queues, the idle time starts. -/
def State.keepReads (s : State) (c : Nat) (keep : DReq → Bool) : State :=
  let d := s.dch c
  let l := d.rq.filter keep
  s.setDch c { d with rq := l, idleSince := if l.isEmpty && d.wq.isEmpty && ! d.rq.isEmpty then s.mono else d.idleSince }

/-- R333, R338: a channel's read queue is discarded; in a frozen device nobody learns of it (R403). -/
def State.dropReads (s : State) (c : Nat) : State :=
  let l := (s.dch c).rq
  let s := s.setDch c { s.dch c with rq := [] }
  if s.live then l.foldl State.dropRead s else s

/-- R329: a write is issued to the devices. -/
def State.issueWrite (s : State) (c : Nat) (r : DReq) : State :=
  let off := r.addr % slotSize
  (s.dlogAcc c 3 (s.rankServing c off)).dramStore c (s.dramPlace c off) r.data

/-- R329: every queued write of a channel is issued. -/
def State.dramFlush (s : State) (c : Nat) : State :=
  let s := (s.dch c).wq.foldl (fun st r => st.issueWrite c r) s
  s.setDch c { s.dch c with wq := [], drain := false }

/-- R321: the freeze image area, where FRZ_EN counts. -/
def State.frzArea (s : State) : Option (Nat × Nat) :=
  let m := s.rg .drcMap
  let c := fld m 7 6
  let off := fld m 5 0 * 2 ^ 30
  if bit m 31 && off + 2 ^ 30 ≤ s.usable c then some (c, dramBase + c * slotSize + off) else none

/-- R321: a range that lies in telemetry space and in one channel's slot, in service. -/
def State.telSpace (s : State) (a len : Nat) : Bool :=
  match dramChan a with
  | none => false
  | some (c, off) =>
    (s.dch c).st.serves && off + len ≤ s.usable c && s.isActive domDram &&
      (match s.frzArea with
       | some (_, f) => a + len ≤ f || f + 2 ^ 30 ≤ a
       | none => true)

/-! ### Host memory -/

/-- R289, R290: the device may write to a host's memory. -/
def State.hostOk (s : State) (h : Nat) : Bool := (s.hst h).present

/-- The address that a low and a high word give. -/
def addr64 (lo hi : Word) : Nat := lo.toNat + hi.toNat * 2 ^ 32

/-- A posted write to host memory; it carries a TLP (R286). -/
def State.toHost (s : State) (h a : Nat) (bytes : List Byte) : State :=
  (s.setHst h { s.hst h with lastTlp := s.mono, pm := .l0 }).emit (.hostBytes h a bytes)

/-- R294: the entries of a ring. -/
def Ring.size (r : Ring) : Nat := 2 ^ r.log2

/-- R294: a ring that may be written or fetched. -/
def Ring.runs (r : Ring) : Bool := r.en && ! r.err

/-- R294: the room of a ring that the device fills. -/
def Ring.room (r : Ring) : Nat := r.size - (r.dev - r.host).toNat

/-- The device writes `n` entries into a ring that it fills: the count advances, and each is stamped
for coalescing (R296, R300). -/
def Ring.advance (r : Ring) (n now : Nat) : Ring :=
  { r with dev := r.dev + wd n, stamps := r.stamps ++ List.replicate n now, wbDue := true }

/-! ### Records -/

/-- R267: the record format's major version. -/
def State.recMajor (s : State) : Nat := if fld (s.rg .telCfg) 31 28 = 1 then 1 else 2

/-- R267: word 0 of a record. -/
def State.recWord0 (s : State) (kind len : Nat) : Word :=
  put 31 24 kind ||| put 23 20 s.recMajor ||| put 13 0 len

/-- R267: words 0-3 of a record. -/
def State.recHead (s : State) (kind len : Nat) (stamp : BitVec 64) : List Word :=
  [s.recWord0 kind len,
   put 31 26 (if s.recMajor = 1 then 0 else s.chain.addr) |||
     put 23 0 (tget (fun _ => 0) s.tel.seq kind),
   lo32 stamp, hi32 stamp]

/-- R322: where region k stands: its base, or its standby base once it has moved. -/
def State.rgnBase (s : State) (k : Nat) : Option Nat :=
  if s.tel.moved.contains k then
    let a := s.rg .drcAlt 0 (k - 1)
    if bit a 31 then some (dramBase + fld a 17 0 * 2 ^ 20) else none
  else some (dramBase + fld (s.rg .telRgnBase 0 (k - 1)) 17 0 * 2 ^ 20)

/-- R266: the units of 32 bytes in region k. -/
def State.rgnUnits (s : State) (k : Nat) : Nat := fld (s.rg .telRgnSize 0 (k - 1)) 15 0 * 32768

/-- R266, R321, R322: region k may be written. -/
def State.rgnOk (s : State) (k : Nat) : Bool :=
  match s.rgnBase k with
  | some b => 0 < s.rgnUnits k && s.telSpace b (s.rgnUnits k * 32)
  | none => false

/-- R266: the write offset of region k. -/
def State.rgnWr (s : State) (k : Nat) : Nat := tget (fun _ => 0) s.tel.wr k

/-- R266: TEL_LOSTk. -/
def State.telLost (s : State) (k n : Nat) : State := s.bump .telLost 0 (k - 1) n

/-- R266: region 7 under STOP_FULL is full when four more units written would reach TEL_CAP_RD. -/
def State.capFull (s : State) : Bool :=
  let total := s.rgnUnits 7
  let rd := fld (s.rg .telCapRd) 30 0
  let gap := (rd + total - s.rgnWr 7 % total) % total
  bit (s.rg .telCapCfg) 30 && 1 ≤ gap && gap ≤ 4

/-- R266: a record into its region, by units of 32 bytes that wrap at the region's end; `n` is what a
loss counts. -/
def State.toRegion (s : State) (k : Nat) (rec : List Byte) (n : Nat) : State :=
  let total := s.rgnUnits k
  let units := rec.length / 32
  if s.rgnOk k && units ≤ total then
    let wr := s.rgnWr k
    let b := (s.rgnBase k).getD 0
    let s := (List.range units).foldl
      (fun st i => st.dramWrite .telemetry (b + (wr + i) % total * 32) (slice rec (32 * i) 32)) s
    { s with tel := { s.tel with wr := tset (fun _ => 0) s.tel.wr k ((wr + units) % total) } }
  else s.telLost k n

/-- R267: SEQ of a kind advances. -/
def State.seqStep (s : State) (kind : Nat) : State :=
  { s with tel := { s.tel with seq := tmod (fun _ => 0) s.tel.seq kind fun v => (v + 1) % 2 ^ 24 } }

/-- R310: a record into a telemetry ring, after a PAD record where it would cross the ring's end. -/
def State.toRing (s : State) (k h t : Nat) (rec : List Byte) (n : Nat) : State :=
  let r := s.ring h t
  let units := rec.length / 32
  let pos := r.dev.toNat % r.size
  let pad := if pos + units > r.size then r.size - pos else 0
  if s.hostOk h && r.runs && units ≤ r.size && pad + units ≤ r.room then
    let padRec := wordBytes (s.recHead 0x0F (pad * 32) 0)
    let s := if pad = 0 then s
      else (s.toHost h (r.base + pos * 32) (padRec ++ zeros (pad * 32 - 16))).seqStep 0x0F
    let at_ := (pos + pad) % r.size
    let s := s.toHost h (r.base + at_ * 32) rec
    s.setRing h t (r.advance (pad + units) s.mono)
  else s.telLost k n

/-- R266: one record of a kind, routed by TEL_ROUTEk; `n` is what a loss counts (R263: entries for
kind 6). The words after the header are `body`, which zeros fill up to `len` bytes. -/
def State.export (s : State) (kind len : Nat) (stamp : BitVec 64) (body : List Word) (n : Nat := 1) :
    State :=
  let words := s.recHead kind len stamp ++ padTo (len / 4 - 4) body
  let rec_ := wordBytes words
  let route := s.rg .telRoute 0 (kind - 1)
  let s := s.seqStep kind
  let s := if bit route 31 then s.toRegion kind rec_ n else s
  if bit route 30 then s.toRing kind (b2n (bit route 29)) (48 + fld route 28 27) rec_ n else s

/-! ### Digests (R263, R268) -/

/-- R263: the waiting batch is emitted as one DIGEST record. -/
def State.digestEmit (s : State) : State :=
  let l := s.tel.digs
  if l.isEmpty then s
  else
    let body := [wd l.length, 0, 0, 0] ++ l.flatten
    let s : State := { s with tel := { s.tel with digs := [] } }
    s.export 6 288 (BitVec.ofNat 64 s.tel.digAt) body l.length

/-- R263: one digest entry; 112 million per second are written at most, and a full batch is emitted. -/
def State.digestEntry (s : State) (digest sent : Word) (kind : Nat) (st : Stamp) (c e t : Nat) : State :=
  if ! s.telOn then s
  else
    let sec := s.now / 1000000000
    let used := if s.tel.digTok.1 = sec then s.tel.digTok.2 else 0
    if 112000000 ≤ used then s.telLost 6 1
    else
      let id := put 31 30 kind ||| flag 29 st.epoch ||| put 28 21 st.lport ||| put 20 15 c ||| put 14 10 e ||| put 9 7 t
      let at_ := if s.tel.digs.isEmpty then s.now else s.tel.digAt
      let s : State := { s with tel := { s.tel with digs := s.tel.digs ++ [[digest, sent, wd st.time, id]], digAt := at_, digTok := (sec, used + 1) } }
      if 16 ≤ s.tel.digs.length then s.digestEmit else s

/-! ### Drop capture and drops -/

/-- What a drop says of its frame (R265): origin port, parity, stamp member, ingress time, received
length, the bytes the record shows, and the lookup record. -/
structure DropInfo where
  lp : Nat
  par : Bool
  member : Nat := 0
  time : Nat := 0
  flen : Nat := 0
  bytes : List Byte := []
  lrec : List Word := []

/-- R265: the capture record's 32 words. -/
def State.capRecord (s : State) (b : Boundary) (code : Nat) (d : DropInfo) : List Word :=
  let hide := s.fuses.payload
  let w1 := put 31 25 code ||| put 24 22 b.code ||| flag 21 d.par ||| flag 20 hide |||
    put 19 12 d.lp ||| put 11 0 d.member
  let w3 := put 31 16 (d.time / 2 ^ 32) ||| put 13 0 d.flen
  let pre := b = .stamping
  let data := if hide then (if pre then [] else padTo 8 d.lrec) else leWords 28 (slice d.bytes 0 112)
  [s.recWord0 7 128, w1, wd d.time, w3] ++ padTo 28 data

/-- R264: the limiter's content with what has accrued, in units of 10^-9 records. -/
def State.capTokens (s : State) : Nat :=
  let r := fld (s.rg .telCapCfg) 14 0
  let rate := if r = 0 || 20000 < r then 20000 else r
  min 64000000000 (s.tel.capTok + (s.mono - s.tel.capAt) * (rate * 1000))

/-- R264: the limiter settled: what has accrued at the RATE in force so far is in it. -/
def State.settleCap (s : State) : State := { s with tel := { s.tel with capTok := s.capTokens, capAt := s.mono } }

/-- R264: a drop is captured, counted as lost, or not selected. -/
def State.capture (s : State) (b : Boundary) (code : Nat) (d : DropInfo) : State :=
  let cfg := s.rg .telCapCfg
  if s.isActive domTel && bit cfg 31 && bit (s.rg .telCapReason 0 (code / 32)) (code % 32) &&
      bit (s.rg .telCapPort 0 (d.lp / 32)) (d.lp % 32) then
    let k := min 20 (fld cfg 24 20)
    let cnt := s.tel.capCnt + 1
    let s : State := { s with tel := { s.tel with capCnt := cnt % 2 ^ k } }
    if cnt % 2 ^ k = 0 then
      let tok := s.capTokens
      if tok < 1000000000 then s.telLost 7 1
      else
        let s : State := { s with tel := { s.tel with capTok := tok - 1000000000, capAt := s.mono } }
        if ! bit (s.rg .telRoute 0 6) 31 || ! s.rgnOk 7 || s.capFull then s.telLost 7 1
        else s.toRegion 7 (wordBytes (s.capRecord b code d)) 1
    else s
  else s

/-- R21, R248, R256, R264: one frame (or refused replica) is dropped at a boundary with a reason: it
is counted in its accounts and by reason, and a selected drop is captured. -/
def State.drop (s : State) (b : Boundary) (reason : Nat) (d : DropInfo) : State :=
  let code := reasonCode reason
  ((s.book d.lp d.par b.term).bookReason d.lp d.par code).capture b code d

/-- R265: what a drop before the egress boundary says of its frame. -/
def Pkt.info (p : Pkt) : DropInfo :=
  { lp := p.stamp.lport, par := p.stamp.epoch, member := p.stamp.member, time := p.stamp.time,
    flen := p.bytes.length, bytes := p.bytes, lrec := p.lrec }

end Sys2Proof.Machine
end

