-- ==== Sys2Proof/Machine/Interrupts.lean ====
section
/-! DEFINITION. Interrupt sources and their levels (R282, R300), rises, MSI-X messages and the emulated
INTA (R283-R285), and the shape of a meaning: after a command's effect the levels are looked at. -/

namespace Sys2Proof.Machine

open Sys2Proof

/-- R312: the host that owns a DMA channel. -/
def State.chanOwner (s : State) (n : Nat) : Nat := if s.straps.pcieMode then n / 8 else 0

/-- R312: the channel with a host's local number. -/
def State.localChan (s : State) (h n : Nat) : Option Nat :=
  if s.straps.pcieMode then (if n < 8 then some (8 * h + n) else none)
  else if h = 0 then some n else none

/-! ### Levels -/

/-- R300: the entries of a ring that the host has not consumed; for a punt ring its consumption is taken
to be P − S. -/
def Ring.unread (r : Ring) (punt : Bool) : Nat :=
  (r.dev - r.host + (if punt then wd r.size else 0)).toNat

/-- R300: the level of a completion, punt or telemetry ring. A ring that has not been enabled since its reset
has none (R283, log entry 49). -/
def Ring.level (r : Ring) (punt : Bool) (now : Nat) : Bool :=
  let u := r.unread punt
  r.used && (2 ^ r.coalLog ≤ u ||
    (0 < u && (r.stamps.head?).any fun t => decide (t + r.coalUs * 1000 ≤ now)))

/-- R300: the level of an inject ring: its free room. -/
def Ring.roomLevel (r : Ring) : Bool := r.used && 2 ^ r.coalLog ≤ r.size - (r.host - r.dev).toNat

/-- R282: some word of a register range has a bit of a mask set. -/
def State.anySet (s : State) (base size : Nat) (m : Word) : Bool :=
  s.held.any fun e => base ≤ e.1 && e.1 < base + size && e.2 &&& m != 0

/-- R282: an RW1C bit of some CAGE_STAT of a group is set. -/
def State.cageInt (s : State) (n : Nat) : Bool := (List.range 8).any fun c => s.rg .cageStat n c &&& 0x1F00 != 0

/-- R282: CHANGED of some sub-port of a group is set: bit 8 of MAC_LP_STAT. -/
def State.portInt (s : State) (n : Nat) : Bool :=
  let base := 0x4010000 + n * 0x100000
  s.held.any fun e => base ≤ e.1 && e.1 < base + 0x800 && (e.1 - base) % 0x40 == 4 && bit e.2 8

/-- R340: a channel has STATE_EVT, UE_EVT or MIG_DONE set. -/
def State.dramInt (s : State) : Bool := s.dram.ch.any fun e => e.2.stateEvt || e.2.ueEvt || e.2.migDone

/-- R282, R300: a source's level for a host. -/
def State.srcLevel (s : State) (h src : Nat) : Bool :=
  if src < 8 then (s.ring h (8 + src)).level false s.mono
  else if src < 24 then (s.ring h (8 + src)).level true s.mono
  else if src < 40 then (s.ring h (8 + src)).roomLevel
  else if src < 44 then (s.ring h (8 + src)).level false s.mono
  else if src < 60 then (s.localChan h (src - 44)).any fun n => (s.chan n).signaled || (s.chan n).ended
  else if src = 60 then s.rings.any fun e => e.1 / 52 == h && e.2.err
  else if src = 61 then bit (s.rg .rngErr h) 31
  else if src < 64 then false
  else if src < 72 then s.portInt (src - 64)
  else if src < 80 then s.cageInt (src - 72)
  else if src = 80 then s.anySet 0x11000030 16 0x400000
  else if src = 81 then 3 ≤ s.img.state
  else if src < 85 then bit (s.rg .fltStatus3) (src - 66)
  else src = 85 && s.dramInt

/-- R283: a host's 96 levels. -/
def State.levels (s : State) (h : Nat) : BitVec 96 :=
  BitVec.ofNat 96 ((List.range 86).foldl (fun a i => if s.srcLevel h i then a + 2 ^ i else a) 0)

/-! ### Messages -/

/-- The reset value of a word of an MSI-X table: each entry's vector is masked (log entry 22). -/
def msixReset (k : Nat) : Word := if k % 4 = 3 then 1 else 0

/-- R272: the reset value of what a host writes in a word of configuration space: Device Control, the target
link speed, and the masks and severities of advanced error reporting (log entry 25). -/
def cfgReset (off : Nat) : Word :=
  match off with
  | 0x58 => 0x2810
  | 0x80 => 5
  | 0x10C => 0x00462030
  | 0x114 => 0x2000
  | _ => 0

/-- R272: a word of a host's configuration space as written. -/
def HostFn.cfgW (f : HostFn) (off : Nat) : Word := tget cfgReset f.cfg off

/-- R271: Memory Space Enable. -/
def HostFn.mse (f : HostFn) : Bool := bit (f.cfgW 4) 1

/-- R272, R288: Bus Master Enable. -/
def HostFn.bme (f : HostFn) : Bool := bit (f.cfgW 4) 2

/-- R284: MSI-X is enabled. -/
def HostFn.msixOn (f : HostFn) : Bool := bit (f.cfgW 0x90) 31

/-- R284: the function is masked. -/
def HostFn.fnMask (f : HostFn) : Bool := bit (f.cfgW 0x90) 30

/-- R278: a word of the MSI-X table. -/
def HostFn.msixW (f : HostFn) (k : Nat) : Word := tget msixReset f.msix k

/-- R284: a vector may send its message. -/
def HostFn.open_ (f : HostFn) (v : Nat) : Bool := f.linkUp && f.bme && ! f.fnMask && ! bit (f.msixW (4 * v + 3)) 0

/-- R284: the message of a vector. -/
def HostFn.message (f : HostFn) (h v : Nat) : Out :=
  .msix h (addr64 (f.msixW (4 * v)) (f.msixW (4 * v + 1))) (f.msixW (4 * v + 2))

/-- A pending bit written. -/
def HostFn.setPba (f : HostFn) (v : Nat) (b : Bool) : HostFn :=
  { f with pba := if b then f.pba ||| BitVec.ofNat 128 (2 ^ v) else f.pba &&& ~~~ BitVec.ofNat 128 (2 ^ v) }

/-- What the interrupts of a host are looked at with: its function, and the outputs. -/
structure IntAcc where
  f : HostFn
  out : List Out

/-- R284: a rise on a vector: a message, or a pending bit. -/
def IntAcc.rise (a : IntAcc) (h now v : Nat) : IntAcc :=
  if a.f.open_ v then { f := { a.f with lastTlp := now, pm := .l0 }, out := a.f.message h v :: a.out }
  else { a with f := a.f.setPba v true }

/-- R284: a vector that is no longer masked sends what is pending. -/
def IntAcc.unpend (a : IntAcc) (h now v : Nat) : IntAcc :=
  if a.f.pba.getLsbD v && a.f.open_ v then (IntAcc.mk (a.f.setPba v false) a.out).rise h now v else a

/-- R283: VECTOR of a source that is enabled. -/
def State.vecOf (s : State) (h src : Nat) : Option Nat :=
  let m := s.rg .intMap h src
  if bit m 31 then some (fld m 6 0) else none

/-- R284: the vectors some mapped source of which is active. -/
def State.liveVecs (s : State) (h : Nat) (lvl : BitVec 96) : List Nat :=
  (List.range 86).filterMap fun i => if lvl.getLsbD i then s.vecOf h i else none

/-- R284, R285: a host's interrupts follow the levels. -/
def State.sweepHost (s : State) (h : Nat) (out : List Out) : IntAcc :=
  let f := s.hst h
  let lvl := s.levels h
  let up := lvl &&& ~~~ f.lvl
  let f := { f with lvl := lvl }
  if f.msixOn then
    let vs := s.liveVecs h lvl
    let f := if f.pba = 0 then f
      else (List.range 128).foldl (fun g v => if g.pba.getLsbD v && ! vs.contains v then g.setPba v false else g) f
    let a : IntAcc := ⟨f, if f.intx then .intx h false :: out else out⟩
    let a : IntAcc := { a with f := { a.f with intx := false } }
    let a := if a.f.pba = 0 then a else (List.range 128).foldl (fun a v => a.unpend h s.mono v) a
    if up = 0 then a
    else
      (List.range 86).foldl (fun a i =>
        if up.getLsbD i then
          (match s.vecOf h i with
          | some v => a.rise h s.mono v
          | none => a)
        else a) a
  else
    let on := f.linkUp && lvl != 0 && ! bit (f.cfgW 4) 10 && ! (s.liveVecs h lvl).isEmpty
    if on = f.intx then ⟨f, out⟩ else ⟨{ f with intx := on, lastTlp := s.mono, pm := .l0 }, .intx h on :: out⟩

/-- R284, R285: both hosts' functions and the outputs after the interrupts have followed the levels;
nothing follows while the device is frozen (R403). -/
def State.swept (s : State) : Tab HostFn × List Out :=
  if s.live then
    let a := s.sweepHost 0 s.out
    let b := s.sweepHost 1 a.out
    (tset (fun _ => {}) (tset (fun _ => {}) s.hosts 0 a.f) 1 b.f, b.out)
  else (s.hosts, s.out)

/-- R284, R285: the interrupts follow the levels. -/
def State.intSweep (s : State) : State := { s with hosts := s.swept.1, out := s.swept.2 }

/-- R284: a write to a cause register of a source makes it rise where it leaves it active. -/
def State.reRise (s : State) (src : Nat) : State :=
  let one (st : State) (h : Nat) : State :=
    let f := st.hst h
    st.setHst h { f with lvl := f.lvl &&& ~~~ BitVec.ofNat 96 (2 ^ src) }
  [0, 1].foldl one s

/-- The shape of a meaning: a command whose condition holds in the state has its effect, and the
interrupts follow; one whose condition does not hold is no event there and changes nothing (log entry
2). -/
def act (c : Bool) (f : State → State) (s : State) : Host.Outcome State Fault Refusal :=
  .next (if c then (f s).intSweep else s)

end Sys2Proof.Machine
end

