-- ==== Sys2Proof/Machine/Pools.lean ====
section
/-! DEFINITION. The pool manager's operations (R199-R216, R223-R226): pools, buffers, descriptors,
admission of one target, release and discard; and the link state of a sub-port as far as leaving UP
touches the queues (R55-R58). -/

namespace Sys2Proof.Machine

open Sys2Proof

/-! ### Pools -/

/-- R199: the buffer size of a pool. -/
def poolSize (k : Nat) : Nat :=
  match k with
  | 0 => 256
  | 1 => 1024
  | 2 => 2560
  | _ => 10240

/-- R199: cells per buffer. -/
def poolCells (k : Nat) : Nat := poolSize k / 256

/-- R199: buffers per block. -/
def poolPerBlock (k : Nat) : Nat := 1048576 / poolSize k

/-- R28: the smallest pool whose buffer holds a length, if any. -/
def poolFor (len : Nat) : Option Nat := (List.range 4).find? fun k => len ≤ poolSize k

/-- R199: one block. -/
def State.blk (s : State) (b : Nat) : Block := tget (fun _ => {}) s.buf.blocks b

/-- R199: a block written. -/
def State.setBlk (s : State) (b : Nat) (x : Block) : State :=
  { s with buf := { s.buf with blocks := tset (fun _ => {}) s.buf.blocks b x } }

/-- R203, R226: a quadrant that serves allocation: not offline, and its domain Active. -/
def State.quadOn (s : State) (i : Nat) : Bool := ! s.buf.offline.contains i && s.isActive (domBuf i)

/-- R202: the blocks that serve a pool and stay with it, as the listed ones. -/
def State.poolBlocks (s : State) (k : Nat) : List (Nat × Block) :=
  s.buf.blocks.filter fun e => e.2.pool = some k && e.2.carve = some k && s.quadOn (e.1 / 64)

/-- R215: the buffers of a pool, counted as FREE is. -/
def State.poolTotal (s : State) (k : Nat) : Nat := (s.poolBlocks k).length * poolPerBlock k

/-- R215, R226: the free buffers of a pool, excluding offline quadrants. -/
def State.poolFree (s : State) (k : Nat) : Nat :=
  (s.poolBlocks k).foldl (fun a e => a + (poolPerBlock k - e.2.used.length)) 0

/-- R211: RESERVE of a pool. -/
def State.poolRsv (s : State) (k : Nat) : Nat := fld (s.rg .bufPoolRsv 0 k) 20 0

/-- R215, R216: a pool has a shared part. -/
def State.poolShared (s : State) (k : Nat) : Bool := s.poolRsv k < s.poolTotal k

/-- R215: the number of a state, in the order of the codes. -/
def PoolState.code : PoolState → Nat
  | .normal => 0
  | .warning => 1
  | .pressure => 2
  | .stop => 3

/-- R215: the state of a code. -/
def PoolState.ofCode : Nat → PoolState
  | 0 => .normal
  | 1 => .warning
  | 2 => .pressure
  | _ => .stop

/-- R215, R216: the state of a pool; without a shared part it is STOP by configuration. -/
def State.poolState (s : State) (k : Nat) : PoolState :=
  if s.poolShared k then tget (fun _ => .normal) s.buf.state k else .stop

/-- R216: the thresholds of a pool for WARNING, PRESSURE and STOP: none above 100, and a lower state is
entered with a higher one. -/
def State.poolThr (s : State) (k : Nat) : Nat × Nat × Nat :=
  let w := s.rg .bufPoolThr 0 k
  let stop := min 100 (fld w 22 16)
  let press := min stop (min 100 (fld w 14 8))
  (min press (min 100 (fld w 6 0)), press, stop)

/-- R215: a level is held: entered when the fill reaches the threshold, left when the fill falls 2
points below it. `used` of `total` shared buffers are in use. -/
def levelOn (was : Bool) (used total thr : Nat) : Bool :=
  if was then (100 * used : Int) > ((thr : Int) - 2) * total else thr * total ≤ 100 * used

/-- R215: a pool's state follows its fill; a rise by fill sets WARN_EVT. -/
def State.poolStep (s : State) (k : Nat) : State :=
  if s.poolShared k then
    let total := s.poolTotal k - s.poolRsv k
    let used := total - (s.poolFree k - s.poolRsv k)
    let was := (tget (fun _ => PoolState.normal) s.buf.state k).code
    let t := s.poolThr k
    let now_ := if levelOn (3 ≤ was) used total t.2.2 then 3
      else if levelOn (2 ≤ was) used total t.2.1 then 2
      else if levelOn (1 ≤ was) used total t.1 then 1 else 0
    let s : State := { s with buf := { s.buf with
      state := tset (fun _ => .normal) s.buf.state k (PoolState.ofCode now_) } }
    if was < now_ then s.orRg .bufPoolStat 0 k (flag 22 true) else s
  else { s with buf := { s.buf with state := tset (fun _ => .normal) s.buf.state k .normal } }

/-- R215: every pool's state after a change of what it counts. -/
def State.poolSteps (s : State) : State := (List.range 4).foldl State.poolStep s

/-- R216: inject fetching is held back. -/
def State.injectHeld (s : State) : Bool :=
  (List.range 4).any fun k => s.poolShared k && 2 ≤ (s.poolState k).code

/-- R202: a block whose last buffer has been released joins the pool that the carve gives it. -/
def Block.settle (x : Block) : Block := if x.used.isEmpty then { x with pool := x.carve } else x

/-- R202: blocks waiting to join their new pool. -/
def State.carvePending (s : State) : Nat :=
  (s.buf.blocks.filter fun e => e.2.pool != e.2.carve).length

/-- R201: the k-th block in assignment order. -/
def carveBlock (k : Nat) : Nat := 64 * (k % 4) + k / 4

/-- R201: the pool of the k-th block under four block counts. -/
def carvePool (n : List Nat) (k : Nat) : Option Nat :=
  let a := (n[0]?).getD 0
  let b := a + (n[1]?).getD 0
  let c := b + (n[2]?).getD 0
  let d := c + (n[3]?).getD 0
  if k < a then some 0 else if k < b then some 1 else if k < c then some 2
  else if k < d then some 3 else none

/-- R200-R202: a committed carve. -/
def State.carve (s : State) (n : List Nat) : State :=
  ((List.range 256).foldl (fun st k =>
    let b := carveBlock k
    st.setBlk b (({ st.blk b with carve := carvePool n k } : Block).settle)) s).poolSteps

/-! ### Buffers and descriptors -/

/-- R203: the free buffers of a block, by number. -/
def freeIn (x : Block) (k : Nat) : List Nat :=
  (List.range (poolPerBlock k)).filter fun i => ! x.used.contains i

/-- R203: the block that a buffer of pool k is taken from: the next quadrant in the pool's rotation (log
entry 62) with a free buffer of the pool, and in it the lowest-numbered such block. -/
def State.pickBlock (s : State) (k : Nat) : Option Nat :=
  let ok := (s.poolBlocks k).filter fun e => e.2.used.length < poolPerBlock k
  (List.range 4).findSome? fun d =>
    let q := (tget (fun _ => 0) s.buf.rotor k + d) % 4
    (ok.find? fun e => e.1 / 64 == q).map Prod.fst

/-- R203: a buffer of pool k is taken; `choice` is the device's choice within the block, which falls
back to the lowest free buffer. The answer is the buffer's address in cells and its block. -/
def State.takeBuf (s : State) (k choice : Nat) : Option (Nat × Nat × State) :=
  (s.pickBlock k).map fun b =>
    let x := s.blk b
    let i := if choice < poolPerBlock k && ! x.used.contains choice then choice
      else ((freeIn x k).head?).getD 0
    let s := s.setBlk b { x with used := i :: x.used }
    (b * 4096 + i * poolCells k, b, { s with buf := { s.buf with
      rotor := tset (fun _ => 0) s.buf.rotor k ((b / 64 + 1) % 4) } })

/-- R206: a queue is written. -/
def State.setQueue (s : State) (q : Nat) (l : List Nat) : State :=
  { s with buf := { s.buf with queues := tset (fun _ => []) s.buf.queues q l } }

/-- R208: used(q) in cells. -/
def State.usedQ (s : State) (q : Nat) : Nat := tget (fun _ => 0) s.buf.used q

/-- R208: M(m) in cells. -/
def State.memberUse (s : State) (m : Nat) : Nat := tget (fun _ => 0) s.buf.mcap m

/-- R208: used(q) moved. -/
def State.moveUsed (s : State) (q : Nat) (f : Nat → Nat) : State :=
  { s with buf := { s.buf with used := tmod (fun _ => 0) s.buf.used q f } }

/-- R208: M(m) moved. -/
def State.moveMember (s : State) (m : Nat) (f : Nat → Nat) : State :=
  { s with buf := { s.buf with mcap := tmod (fun _ => 0) s.buf.mcap m f } }

/-- A stored frame written. -/
def State.setBuf (s : State) (b : Nat) (x : Buf) : State :=
  { s with buf := { s.buf with bufs := tset (fun _ => {}) s.buf.bufs b x } }

/-- R113: the holding-store charge of a frame is given back. -/
def State.freeHold (s : State) (p : Pkt) : State :=
  let n := p.stamp.lport / 32
  let g := s.grp n
  let hc := (List.range 4).map fun k =>
    ((g.holdCls[k]?).getD 0) - (if k = p.capCls then p.units else 0)
  s.setGrp n { g with holdUnits := g.holdUnits - p.units, holdCls := hc }

/-- R207: one reference of a buffer is released; at zero the buffer returns to its pool, and its
member's charge ends. -/
def State.relBuf (s : State) (b : Nat) : State :=
  let x := s.bufr b
  if x.refs ≤ 1 then
    let s := if x.shared then s.moveMember x.member (· - poolCells x.pool) else s
    let s := if x.hold then s.freeHold x.pkt else s
    let y := s.blk x.block
    let i := (b - x.block * 4096) / poolCells x.pool
    let s := s.setBlk x.block (({ y with used := y.used.filter (· != i) } : Block).settle)
    (s.setBuf b {}).poolSteps
  else s.setBuf b { x with refs := x.refs - 1 }

/-- R207: a descriptor is released. -/
def State.relDesc (s : State) (d : Nat) : State :=
  let b := (s.desc d).buf
  let ds := tset (fun _ => ({} : Desc)) s.buf.descs d {}
  ({ s with buf := { s.buf with descs := ds, descFree := s.buf.descFree + 1 } } : State).relBuf b

/-- R205: the first free descriptor number from a start on (log entry 7). -/
def freeDesc (t : Tab Desc) (from_ : Nat) : Nat :=
  let ks := tkeys t
  ((List.range (ks.length + 1)).find? fun i => ! ks.contains ((from_ + i) % 1048576)).map
    (fun i => (from_ + i) % 1048576) |>.getD 0

/-- R204, R265: what an egress drop says of a descriptor's frame. -/
def State.descInfo (s : State) (d : Nat) : DropInfo :=
  let x := s.desc d
  let b := s.bufr x.buf
  { lp := x.lport, par := x.epoch, member := if x.direct then 0 else b.pkt.stamp.member,
    time := x.time, flen := b.pkt.bytes.length, bytes := b.bytes, lrec := b.pkt.lrec }

/-- R207, R248: a descriptor that has left its queue is dropped at the egress boundary. -/
def State.dropDesc (s : State) (d reason : Nat) : State :=
  (s.drop .egress reason (s.descInfo d)).relDesc d

/-- R206: the head of a queue leaves it. -/
def State.popQueue (s : State) (q : Nat) : State :=
  match s.queue q with
  | [] => s
  | d :: l => (s.setQueue q l).moveUsed q (· - poolCells (s.desc d).pool)

/-- R237: LEVEL of a queue, 0 high and 1 low. -/
def State.qLevel (s : State) (q : Nat) : Nat := b2n (bit (tget (fun _ => 0x104) s.sched.qcfg q) 8)

/-- R238: the queue that holds the grant of a port and level. -/
def State.grantOf (s : State) (lp lvl : Nat) : Option Nat := tget (fun _ => none) s.sched.holder (2 * lp + lvl)

/-- R238: the grant of a port and level, written. -/
def State.setGrant (s : State) (lp lvl : Nat) (q : Option Nat) : State :=
  { s with sched := { s.sched with holder := tset (fun _ => none) s.sched.holder (2 * lp + lvl) q } }

/-- R238: the deficit of a queue, written. -/
def State.setDeficit (s : State) (q n : Nat) : State :=
  { s with sched := { s.sched with deficit := tset (fun _ => 0) s.sched.deficit q n } }

/-- R238: a queue that a flush or a discard has emptied loses its deficit and its grant. -/
def State.queueEmptied (s : State) (q : Nat) : State :=
  if (s.queue q).isEmpty && q < 2560 then
    let lp := q / 10
    let drop_ (st : State) (lvl : Nat) : State := if st.grantOf lp lvl = some q then st.setGrant lp lvl none else st
    [0, 1].foldl drop_ (s.setDeficit q 0)
  else s

/-- R224, R225, R57: the head of a queue is discarded. -/
def State.discardHead (s : State) (q reason : Nat) : State :=
  match s.queue q with
  | [] => s
  | d :: _ => ((s.popQueue q).queueEmptied q).dropDesc d reason

/-- R223: the age-limit discard is in force on every queue: EN, FORCE_START or FORCE_CRIMSON. -/
def State.ageAll (s : State) : Bool :=
  bit (s.rg .bufAgeCtl) 16 || s.buf.forceStart || bit (s.rg .bufAgeCtl) 30

/-- R223: FORCE_TEST of a group: the online test of that group is running (R367). -/
def State.testing (s : State) (n : Nat) : Bool :=
  s.flt.testGo && fld (s.rg .fltTest) 25 24 == 1 && fld (s.rg .fltTest) 5 0 == n

/-- R223: the age-limit discard is in force for a queue. -/
def State.ageOn (s : State) (q : Nat) : Bool := s.ageAll || (q < 2560 && s.testing (q / 320))

/-! ### Admission of one target (R208-R210) -/

/-- R212: MIN of a queue. -/
def State.qMin (s : State) (q : Nat) : Nat :=
  fld (tget (fun _ => 0x60000) s.sched.bufQ q) 15 0

/-- R212: ALPHA of a queue; 12-15 act as 11. -/
def State.qAlpha (s : State) (q : Nat) : Nat :=
  min 11 (fld (tget (fun _ => 0x60000) s.sched.bufQ q) 19 16)

/-- R212: CAP of a member, in cells. -/
def State.mCap (s : State) (m : Nat) : Nat :=
  fld (tget (fun _ => 0xFFFF) s.sched.mcapCfg m) 15 0 * 16

/-- R208: F(k) in cells. -/
def State.freeShared (s : State) (k : Nat) : Nat := (s.poolFree k - s.poolRsv k) * poolCells k

/-- R209: why a target is refused, as the order of the check and the single-target reason. -/
structure Refuse where
  order : Nat
  reason : Nat

/-- R209: what admission knows of a frame: its pool, its buffer once it has one, whether that is
SHARED, and the member charged. -/
structure AdmCtx where
  pool : Nat
  has : Bool
  shared : Bool
  member : Nat

/-- R209, order 2: the target of a queue is down or absent. -/
def State.targetDown (s : State) (q : Nat) : Option Nat :=
  if q < 2560 then
    (if (s.port (q / 10)).st = .up || (s.port (q / 10)).st = .hold then none else some 0x22)
  else if (s.hst ((q - 2560) / 16)).present then none else some 0x23

/-- R221: the pending replica queue of a queue's port group, or the host's. -/
def pendOf (q : Nat) : Nat := if q < 2560 then q / 320 else 8

/-- R208, R209: orders 5 to 10 for one target, once a buffer and a descriptor are at hand. The answer
is the refusal, or whether the shared path accepts it. -/
def State.admitPaths (s : State) (q : Nat) (x : AdmCtx) : Refuse ⊕ Bool :=
  let c := poolCells x.pool
  if s.usedQ q + c ≤ s.qMin q then .inr false
  else if s.buf.descFree ≤ fld (s.rg .bufDescRsv) 20 0 then .inl ⟨6, 0x25⟩
  else if s.poolState x.pool = .stop then .inl ⟨7, 0x26⟩
  else
    let u := s.usedQ q - s.qMin q
    let half := if s.poolState x.pool = .pressure then 1 else 0
    if s.freeShared x.pool * 2 ^ s.qAlpha q < (u + c) * 2 ^ (8 + half) then .inl ⟨8, 0x27⟩
    else if ! x.shared && s.mCap x.member < s.memberUse x.member + c then .inl ⟨9, 0x28⟩
    else .inr true

/-- R209: orders 2 to 10 for one target. -/
def State.admitOne (s : State) (q : Nat) (multi : Bool) (x : AdmCtx) : Refuse ⊕ Bool :=
  match s.targetDown q with
  | some r => .inl ⟨2, r⟩
  | none =>
    if multi && 4096 ≤ (tget (fun _ => []) s.buf.pend (pendOf q)).length then .inl ⟨3, 0x2A⟩
    else if ! x.has && (s.pickBlock x.pool).isNone then .inl ⟨4, 0x24⟩
    else if s.buf.descFree = 0 then .inl ⟨4, 0x25⟩
    else s.admitPaths q x

/-! ### Link state (R55-R58) -/

/-- R55: DISABLED, TRAINING and ALIGNING are the down states. -/
def LinkState.down : LinkState → Bool
  | .up => false
  | .hold => false
  | _ => true

/-- R55: the code of a state. -/
def LinkState.code : LinkState → Nat
  | .disabled => 0
  | .training => 1
  | .aligning => 2
  | .up => 3
  | .hold => 4

/-- R57, R58: the frames picked for a port are discarded; one whose transmission has begun is ended
with an errored end-of-frame. -/
def State.dropPicked (s : State) (lp : Nat) : State :=
  let l := tget (fun _ => ([] : List Picked)) s.sched.picked lp
  let s : State := { s with sched := { s.sched with picked := tset (fun _ => []) s.sched.picked lp [] } }
  l.foldl (fun st p =>
    let begun := match p.tout with
      | some t => decide (t ≤ st.now)
      | none => false
    let st := if begun then (st.bump .macTxErrEof (lp / 32) (lp % 32)).emit (.errorEof lp) else st
    st.dropDesc p.desc 0x2C) s

/-- R57, R222, R225: a flush begins: it is to discard what stands in certain queues now, and the replicas
already decided for them. -/
def State.markFlush (s : State) (qs : Nat → Bool) : State :=
  let now_ := (s.buf.queues.filter fun e => qs e.1).flatMap Prod.snd
  let later := s.buf.pend.flatMap fun e => (e.2.filter fun p => qs p.queue).map Pending.desc
  let mark (e : Nat × Desc) := if (now_ ++ later).contains e.1 then (e.1, { e.2 with flush := true }) else e
  { s with buf := { s.buf with descs := s.buf.descs.map mark } }

/-- R57: the head of a queue is to be flushed. -/
def State.flushHead (s : State) (q : Nat) : Bool := (s.queue q).head?.any fun d => (s.desc d).flush

/-! ### Receivers (R42, R51, R421, R422) -/

/-- R49: MODE of a logical port's physical port. -/
def State.mode (s : State) (lp : Nat) : Nat := fld (s.rg .pgPortCfg (lp / 32) (lp % 32 / 4)) 2 0

/-- R42: the number of lanes of a sub-port, from lane 2s on. -/
def modeLanes (mode : Nat) : Nat :=
  match mode with
  | 1 => 8
  | 2 => 4
  | 5 => 1
  | _ => 2

/-- R50: the lane's PRBS generator and checker are on. -/
def prbsOn (w : Word) : Bool := fld w 12 10 = 1 || fld w 12 10 = 2

/-- R51, R54: the sub-port whose receiver a physical lane feeds, by the lane fields that the sub-port has read; none
where its PCS does not run (R54): the PRBS checker of R50 and R422 stops with it, the model's choice (log entry
85). -/
def State.laneOwner (s : State) (pg j : Nat) : Option Nat :=
  ((List.range 4).map fun u => 32 * pg + 4 * (j / 8) + u).find? fun lp =>
    let p := s.port lp
    let k := fld (wAt p.cfg (j % 8)) 6 4
    p.st ≠ .disabled && 2 * (lp % 4) ≤ k && k < 2 * (lp % 4) + modeLanes (s.mode lp)

/-- R51: the fields of a lane as its sub-port has read them. -/
def State.laneCfg (s : State) (pg j : Nat) : Option Word := (s.laneOwner pg j).map fun lp => wAt (s.port lp).cfg (j % 8)

/-- R54, R421, R422: a counter of the receivers, of a sub-port or lane j of a port group, counts: codewords and
symbols while the PCS runs, test bits while the checker does. -/
def State.rxRuns (s : State) (n : RegName) (pg j : Nat) : Bool :=
  match n with
  | .macFecCorrLo => (s.port (32 * pg + j)).st ≠ .disabled
  | .macFecUncorrLo => (s.port (32 * pg + j)).st ≠ .disabled
  | .sxlFecSymLo => (s.laneCfg pg j).any fun w => ! prbsOn w
  | .sxlPrbsErr => (s.laneCfg pg j).any prbsOn
  | _ => false

/-- The instant that the receivers' counts go by: time and the counter of free values, which both stand still from the
clock stop of a freeze on. -/
def State.rxNow (s : State) : Nat := s.mono + if s.frz.stopped then s.frz.freeAt else s.free

/-- What a receiver counts over `n` instants from `t`: a free number at each (log entry 77). -/
def rxSum (a t : Nat) : Nat → Nat
  | 0 => 0
  | n + 1 => rxSum a t n + (Config.freeWord (2 ^ 64 * (a + 1) + t + n)).toNat

/-- R421, R422: what such a counter has counted beyond its stored value: since the counts of its physical port were last
stored, while it runs. -/
def State.rxNew (s : State) (n : RegName) (pg j : Nat) : Nat :=
  let port := if n = .sxlFecSymLo || n = .sxlPrbsErr then 8 * pg + j / 8 else 8 * pg + j / 4
  if s.rxRuns n pg j then
    let t := tget (fun _ => 0) s.rxAt port
    rxSum (regAddr n pg 0 j) t (s.rxNow - t)
  else 0

/-- The counters of a physical port's receivers. -/
def rxCounters (port : Nat) : List (RegName × Nat) :=
  ((List.range 4).flatMap fun u => [(.macFecCorrLo, 4 * (port % 8) + u), (.macFecUncorrLo, 4 * (port % 8) + u)]) ++
    (List.range 8).flatMap fun l => [(.sxlFecSymLo, 8 * (port % 8) + l), (.sxlPrbsErr, 8 * (port % 8) + l)]

/-- R421, R422: the counts of a physical port's receivers are stored, before what they depend on changes. -/
def State.rxStore (s : State) (port : Nat) : State :=
  let pg := port / 8
  let t := (rxCounters port).foldl (fun (t : State) c =>
    if s.rxRuns c.1 pg c.2 then
      (if c.1 = .sxlPrbsErr then t.bump c.1 pg c.2 (s.rxNew c.1 pg c.2) else t.addCtr c.1 pg c.2 (s.rxNew c.1 pg c.2))
    else t) s
  { t with rxAt := tset (fun _ => 0) t.rxAt port s.rxNow }

/-- R55, R57, R58: a sub-port moves to a link state. CHANGED is set by every change; a move from UP or
HOLD to a down state counts in DOWN_COUNT, discards the frames picked, and starts the flush of the
queues unless the age-limit discard is in force. -/
def State.setLink (s : State) (lp : Nat) (st : LinkState) : State :=
  let p := s.port lp
  if p.st = st then s
  else
    let s := if p.st = .disabled || st = .disabled then s.rxStore (lp / 4) else s
    let fall := ! p.st.down && st.down
    let s := if fall && ! s.ageOn (10 * lp) then s.markFlush fun q => q < 2560 && q / 10 == lp else s
    let s := s.setPort lp { p with st := st }
    let s := s.orRg .macStat (lp / 32) (lp % 32) (flag 8 true)
    if fall then (s.bumpHigh .macStat (lp / 32) (lp % 32)).dropPicked lp else s

/-- R55: a forced down; `why` changes what the sub-port remembers of its cause. -/
def State.forceDown (s : State) (lp : Nat) (why : SubPort → SubPort) : State :=
  let s := s.setLink lp .disabled
  let p := s.port lp
  s.setPort lp (why { p with amLock := false, localFault := false, remoteFault := false, hiSer := false, clearSince := none })

/-- The logical ports of a port group (R41). -/
def groupPorts (n : Nat) : List Nat := (List.range 32).map fun i => 32 * n + i

end Sys2Proof.Machine
end

