-- ==== Sys2Proof/Machine/Collector.lean ====
section
/-! DEFINITION. What several units share when something goes wrong: the end of a frame at the engines
boundary, cluster reset (R136), the loss of a host (R289, R311), what a domain loses in Black (R375),
the chip reset (R382), the freeze (R403), and the fault collector (R342-R352). -/

namespace Sys2Proof.Machine

open Sys2Proof

/-! ### Frames and the resequencer -/

/-- R26: a verdict or marker reaches the resequencer. -/
def State.seqPut (s : State) (lp seq : Nat) (i : SeqItem) : State :=
  { s with reseq := tset (fun _ => []) s.reseq lp (s.held26 lp ++ [(seq, i)]) }

/-- A frame's record is no longer kept. -/
def State.dropPkt (s : State) (k : Nat) : State := s.setPkt k {}

/-- R26, R113, R248: a frame is dropped at the stamping, parse or engines boundary: its holding-store
charge ends, and its place in the port's order is marked. -/
def State.endPkt (s : State) (k : Nat) (b : Boundary) (reason : Nat) : State :=
  let p := s.pkt k
  let s := (s.drop b reason p.info).freeHold p
  (s.seqPut p.stamp.lport p.stamp.seq .gone).dropPkt k

/-! ### The verdict (R157-R159) -/

/-- R157: word, high bit and low bit of a verdict field, by its number. -/
def vdField : Nat → Option (Nat × Nat × Nat)
  | 0 => some (0, 31, 30)
  | 1 => some (0, 29, 23)
  | 2 => some (0, 22, 18)
  | 3 => some (0, 17, 16)
  | 4 => some (0, 15, 15)
  | 5 => some (0, 14, 0)
  | 6 => some (1, 31, 29)
  | 7 => some (1, 28, 28)
  | 8 => some (1, 27, 26)
  | 9 => some (1, 25, 25)
  | 10 => some (1, 24, 24)
  | 11 => some (1, 23, 12)
  | 12 => some (1, 11, 0)
  | 13 => some (2, 31, 24)
  | 14 => some (2, 23, 18)
  | 15 => some (2, 15, 0)
  | 16 => some (3, 31, 0)
  | 17 => some (4, 31, 24)
  | 18 => some (4, 23, 23)
  | 19 => some (4, 22, 15)
  | 20 => some (4, 14, 14)
  | 21 => some (5, 31, 0)
  | _ => none

/-- R157: a field of a verdict. -/
def vdGet (v : List Word) (n : Nat) : Nat :=
  match vdField n with
  | some (w, hi, lo) => fld (wAt v w) hi lo
  | none => 0

/-- R128, R157: a field of a verdict, written; the value is truncated to the field's width. -/
def vdSet (v : List Word) (n x : Nat) : List Word :=
  match vdField n with
  | some (w, hi, lo) => setAt v w (setFld (wAt v w) hi lo x)
  | none => v

/-- R159: DIGEST of a verdict under a parity. -/
def digestOf (v : List Word) (par : Bool) : Word :=
  crc32c 0xFFFFFFFF (wordBytes (padTo 6 v) ++ [if par then 1 else 0])

/-- R158: VD_OP drop. -/
def vdDrop (v : List Word) (reason : Nat) : List Word := vdSet (vdSet v 0 1) 1 reason

/-- R159, R263: a verdict is formed: its digest is computed, and it is sampled where the frame was
chosen. -/
def State.sealVerdict (s : State) (k : Nat) (v : List Word) (src : PuntSrc) : State :=
  let p := s.pkt k
  let v := setAt (padTo 7 v) 6 (digestOf v p.stamp.epoch)
  let s := s.setPkt k { p with verdict := v, puntSrc := src }
  if p.dig then s.digestEntry (wAt v 6) 0 0 p.stamp p.cluster p.engine p.thread else s

/-- R159, R160: a drop verdict that the device makes itself is handed off. -/
def State.handDrop (s : State) (k reason : Nat) (v : List Word) : State :=
  (s.sealVerdict k (vdDrop v reason) .verdict).endPkt k .engines reason

/-! ### Clusters -/

/-- The threads of a cluster that are not in their reset state, as keys. -/
def State.cluThreads (s : State) (c : Nat) : List Nat :=
  (tkeys s.threads).filter fun k => k / 136 == c

/-- R120: a thread becomes IDLE; its registers keep their values (log entry 15). -/
def Thread.idle (t : Thread) : Thread :=
  { t with st := .idle, bg := false, bgLeft := 0, pkt := none, sample := none, await := 0, want := none, full := false, haltReq := false, stepping := 0 }

/-- R120: a thread has a packet, a re-execution or background work; one halted in IDLE (log entry 52) has none. -/
def Thread.works (t : Thread) : Bool := t.st ≠ .idle && ! (t.st = .halted && t.prior = .idle)

/-- R397: a thread has still to complete a debug operation. -/
def Thread.pend (t : Thread) : Bool := t.haltReq || t.stepping ≠ 0

/-- R110, R130, R361: a thread whose re-execution is given up: it has taken no line and stored nothing, so what its
store buffer holds is an earlier packet's, and drains on. -/
def Thread.giveUp (t : Thread) : Thread := { t.idle with lock := none, lockLen := 0, lockStores := 0 }

/-- R361: the re-executions of some of a cluster's delay-register sets end. -/
def State.endReruns (s : State) (c : Nat) (gone : Nat → Bool) : State :=
  (s.cluThreads c).foldl (fun st k => if (st.thr k).sample.any gone then st.setThr k (st.thr k).giveUp else st) s

/-- R361: a sentinel's pending samples are discarded and count as skipped (R356). -/
def State.dropSamples (s : State) (c : Nat) (p : Sample → Bool := fun _ => true) : State :=
  let x := s.clu c
  let gone := x.samples.filter fun e => p e.2
  let s := s.setClu c { x with samples := x.samples.filter fun e => ! p e.2 }
  let s := if gone.isEmpty then s else s.bump .necSentSkipped c 0 gone.length
  s.endReruns c fun i => gone.any fun e => e.1 == i

/-- R138, R361: ADMIT of a cluster is cleared. -/
def State.clearAdmit (s : State) (c : Nat) : State :=
  (s.setRg .necCtl c 0 (s.rg .necCtl c &&& ~~~ 1)).dropSamples c

/-- R136: a cluster is reset: every packet receives a drop verdict with CLUSTER_RESET, store buffers are discarded
and counted, thread states, lock lines and torn bits are cleared, and ADMIT is cleared. -/
def State.clusterReset (s : State) (c : Nat) : State :=
  let s := s.clearAdmit c
  let ks := s.cluThreads c
  let n := ks.foldl (fun a k => a + (s.thr k).sb.length) 0
  let s := ks.foldl (fun st k =>
    match (st.thr k).pkt with
    | some p => st.handDrop p 0x0E (st.thr k).verdict
    | none => st) s
  let s : State := { s with threads := tdrop (fun k => k / 136 == c) s.threads }
  let s := if n = 0 then s else s.bump .necSbDiscard c 0 n
  let s := (s.setRg .necLockTorn c 0 0).setRg .necLockTorn c 1 0
  s.setClu c { s.clu c with locks := [], resetting := true, resetAt := s.mono }

/-- One lock line. -/
def State.lockLine (s : State) (c l : Nat) : LockLine := tget (fun _ => {}) (s.clu c).locks l

/-- One lock line written. -/
def State.setLine (s : State) (c l : Nat) (x : LockLine) : State :=
  let y := s.clu c
  s.setClu c { y with locks := tset (fun _ => {}) y.locks l x }

/-- R131, R132, R135: what a thread holds of a lock line, and its place among those that wait for one,
is given up. The answer says whether it held the line. -/
def State.leaveLine (s : State) (k : Nat) : Bool × State :=
  let t := s.thr k
  let c := k / 136
  let me := k % 136
  let s := match t.want with
    | some l =>
      let x := s.lockLine c l
      s.setLine c l { x with waiters := x.waiters.filter (· != me) }
    | none => s
  match t.lock with
  | none => (false, s)
  | some l =>
    let x := s.lockLine c l
    if x.owner = some me then (true, s.setLine c l { x with owner := none, releasing := false }) else (false, s)

/-- R132: a thread's locked sequence is broken: its held stores are discarded, the line is released
and marked torn, and the thread goes back to its LOCK microword. -/
def State.breakLock (s : State) (k : Nat) : State :=
  let t := s.thr k
  match t.lock with
  | none => s
  | some l =>
    let (held, s) := s.leaveLine k
    let s := if held then s.orRg .necLockTorn (k / 136) (l / 32) (flag (l % 32) true) else s
    s.setThr k { t with lock := none, want := none, pc := t.lockPc, lockLen := 0, lockStores := 0, sb := t.sb.filter fun e => ! e.held }

/-! ### Link, rings and channels of a host -/

/-- R193, R289: a command came from a ring of host h. -/
def CmdSrc.ofRing (c : CmdSrc) (h : Nat) : Bool :=
  match c with
  | .ring g _ => g == h
  | .bank _ => false

/-- R289: the words of a host's bank in a block. -/
def inRange (base size a : Nat) : Bool := base ≤ a && a < base + size

/-- R291: the addresses of the 64-bit configuration registers, which have staging copies. -/
def isStaging (a : Nat) : Bool :=
  a == 0x11000000 || a == 0x11000004 || a == 0x12080004 || a == 0x12080008 ||
    a == 0x12040004 || a == 0x12040008 ||
    (inRange 0x10000000 0x1000000 a && (a % 0x40000 == 0x10 || a % 0x40000 == 0x14))

/-- R289: the register words that the loss of host h returns to their reset values. -/
def State.hostWord (s : State) (h a : Nat) : Bool :=
  inRange (0xE0000 + 0x100 * h) 0x100 a || inRange (0xE0200 + 0x40 * h) 0x40 a ||
    inRange (0x1000000 + h * 0x10000) 0x10000 a || inRange (0x1040000 + h * 0x10000) 0x10000 a ||
    inRange (0x2000000 + h * 0x10000) 0x10000 a ||
    (inRange 0x2020000 0x400 a && s.chanOwner ((a - 0x2020000) / 0x40) == h) ||
    inRange (0x13023010 + 8 * h) 8 a

/-- R190: OPCODE of a command. -/
def TCmd.op (c : TCmd) : Nat := fld (wAt c.desc 0) 31 24

/-- R190: STAGED of a command. -/
def TCmd.staged (c : TCmd) : Bool := bit (wAt c.desc 0) 19

/-- R190: TOKEN of a command. -/
def TCmd.token (c : TCmd) : BitVec 16 := (wAt c.desc 0).setWidth 16

/-- R175: the requester of a command. -/
def TCmd.req (c : TCmd) : Req :=
  match c.src with
  | .bank r => r
  | .ring h _ => hostReq h

/-- R175: a staging command. -/
def TCmd.isStaging (c : TCmd) : Bool := c.op == 0x0A || c.op == 0x0B || c.op == 0x0C || (c.op ≠ 9 && c.staged)

/-- R194: the queued staging commands of a requester and token are marked, but for those that stand
behind a BEGIN_STAGE of the same source; `past` are the sources whose BEGIN_STAGE has been passed. -/
def markAborted (r : Req) (tok : BitVec 16) : List TCmd → List CmdSrc → List TCmd
  | [], _ => []
  | c :: l, past =>
    if c.op = 9 then c :: markAborted r tok l (c.src :: past)
    else if c.isStaging && c.req = r && c.token = tok && ! past.contains c.src then { c with aborted := true } :: markAborted r tok l past
    else c :: markAborted r tok l past

/-- R184: the order in which a sweep visits the touched tables. -/
def sweepOrder (touched : List Nat) : List Nat :=
  [0, 1, 10, 2, 3, 4, 5, 6, 7, 8, 9].filter touched.contains

/-- R189: the open staging of an owner is aborted. -/
def State.startAbort (s : State) (by_ : Option TCmd) (forced : Bool) : State :=
  let q := match s.epc.owner with
    | some r => markAborted r s.epc.token s.cu.q []
    | none => s.cu.q
  let s : State := { s with cu := { s.cu with q := q } }
  { s with epc := { s.epc with st := .aborting, abortBy := by_, forced := forced, commitBy := none, sweepTabs := sweepOrder s.epc.touched, sweepPos := 0, restored := 0 } }

/-- R306, R225: the frame whose writing into a punt ring is under way is flushed. -/
def State.dropHostPicks (s : State) (h : Nat) : State :=
  let l := tget (fun _ => ([] : List Picked)) s.sched.hostPick h
  let s : State := { s with sched := { s.sched with hostPick := tset (fun _ => []) s.sched.hostPick h [] } }
  l.foldl (fun st p => st.dropDesc p.desc 0x23) s

/-- R289, R302, R311: the command unit forgets what came from a host's rings; what executes stands, and
its completion is discarded. -/
def State.cuForget (s : State) (h : Nat) : State :=
  let keep (c : TCmd) := ! c.src.ofRing h
  let cpl (o : Option (TCmd × Cpl)) : Option (TCmd × Cpl) := o.filter fun x => keep x.1
  let cu := { s.cu with
    q := s.cu.q.filter keep,
    beginWait := s.cu.beginWait.filter keep,
    settleWait := s.cu.settleWait.filter keep,
    fan := s.cu.fan.map fun f => { f with cpl := cpl f.cpl } }
  let epc := { s.epc with
    commitBy := s.epc.commitBy.filter keep,
    abortBy := s.epc.abortBy.filter keep }
  { s with cu := cu, epc := epc }

/-- R281, R288, R311: a DRAM user reads for a host: its function, or a channel that it owns. -/
def State.readFor (s : State) (h : Nat) (who : DramUser) : Bool :=
  match who with
  | .host k => k.val == h
  | .dma n => s.chanOwner n == h
  | _ => false

/-- R288, R289, R311: host h is lost with a cause; `linkOff` says that its link is down. Its queued reads of DRAM are
dropped, and those of its channels. The flush of its queues begins (R225), and an INTA that it has asserted is taken back while there is a link to say so
(R285). -/
def State.hostLoss (s : State) (h cause : Nat) (linkOff : Bool) : State :=
  let f := s.hst h
  let f' : HostFn := { linkUp := if linkOff then false else f.linkUp, width := if linkOff then 0 else f.width, speed := if linkOff then 0 else f.speed, loss := cause, losses := sat 8 (f.losses + 1), perst := f.perst || cause = 4, subsys := if cause = 4 then none else f.subsys }
  let s := (s.setHst h f').markFlush fun q => 2560 ≤ q && (q - 2560) / 16 == h
  let s := if f.intx && ! linkOff then s.emit (.intx h false) else s
  let s : State := { s with
    held := tdrop (s.hostWord h) s.held,
    priv := tdrop (fun k => k / 2 ^ 40 == h && isStaging (k % 2 ^ 40)) s.priv,
    latch := tdrop (fun k => k == h || k == 3 + h) s.latch,
    rings := tdrop (fun k => k / 52 == h) s.rings,
    dma := tdrop (fun n => s.chanOwner n == h) s.dma }
  let s := (s.cuForget h).dropHostPicks h
  let s := (List.range 4).foldl (fun st c => st.keepReads c fun r => ! s.readFor h r.who) s
  if s.epc.owner = some (hostReq h) && s.epc.st = .staging then s.startAbort none false else s

/-! ### What a domain loses (R370, R375) -/

/-- R253: the frames in flight through a port group are lost without count. -/
def State.loseFlight (s : State) (n : Nat) : State :=
  let ks := (s.pkts.filter fun e => e.2.stamp.lport / 32 == n).map Prod.fst
  let s := ks.foldl State.dropPkt s
  (groupPorts n).foldl (fun st lp =>
    let l := tget (fun _ => ([] : List Picked)) st.sched.picked lp
    let st : State := { st with sched := { st.sched with picked := tset (fun _ => []) st.sched.picked lp [] } }
    l.foldl (fun u p => u.relDesc p.desc) st) s

/-- R231: the home of a member. -/
def State.home (s : State) (m : Nat) : Nat :=
  fld (s.rg .polHome 0 (m / 8)) (4 * (m % 8) + 2) (4 * (m % 8))

/-- R231: a policer held in a port group: a member's four there, or a port's. -/
def State.polIn (s : State) (n p : Nat) : Bool :=
  if p < 16384 then s.home (p / 4) == n else (p - 16384) / 32 == n

/-- R375: a replica is emptied, its hit bits too (R87). -/
def State.emptyReplica (s : State) (k : Nat) : State :=
  let tbl := { s.tbl with
    hit := tdrop (fun a => a / 2 ^ 20 == k) s.tbl.hit,
    staR := tdrop (fun a => a / 2 ^ 20 == k) s.tbl.staR,
    nbrR := tdrop (fun a => a / 2 ^ 18 == k) s.tbl.nbrR }
  let r := { s.reload with replEmpty := if s.reload.replEmpty.contains k then s.reload.replEmpty else s.reload.replEmpty ++ [k] }
  { s with tbl := tbl, reload := r }

/-- R375: the replica that a group shares as the group loses its memory: it is gone, and stale, when both
groups are in Black; a partner in Active or Pale keeps it, and one in Grey or Slate does not keep it for
this group. -/
def State.loseReplica (s : State) (n : Nat) : State :=
  let k := n / 2
  let m := if n % 2 = 0 then n + 1 else n - 1
  if (s.dmn (domPg n)).shade = .black && (s.dmn (domPg m)).shade = .black then
    let s := s.emptyReplica k
    { s with reload := { s.reload with replStale := if s.reload.replStale.contains k then s.reload.replStale else s.reload.replStale ++ [k] } }
  else if s.isLit (domPg m) || s.reload.unkept.contains n then s
  else { s with reload := { s.reload with unkept := s.reload.unkept ++ [n] } }

/-- R375: a group turns stale. -/
def State.setStale (s : State) (n : Nat) : State :=
  if s.reload.stale.contains n then s
  else { s with reload := { s.reload with stale := s.reload.stale ++ [n] } }

/-- R375: a PG domain loses its registers, control stores, tables and frames. Its sub-ports are forced
down, so that frames held in the buffer for them are flushed or kept for the age limit (R253). -/
def State.losePg (s : State) (n : Nat) : State :=
  let s := s.loseFlight n
  let s := (groupPorts n).foldl (fun st lp => st.forceDown lp id) s
  let inNec (a : Nat) := inRange (0x10000000 + n * 0x200000) 0x200000 a
  let inPg (a : Nat) := inRange (0x4000000 + n * 0x100000) 0x100000 a
  let inSch (a : Nat) := inRange (0x12000100 + n * 128) 128 a || a = 0x12080020 + 4 * n || a = 0x12080040 + 4 * n
  let pol := tdrop (s.polIn n) s.sched.pol
  let sched := { s.sched with
    qcfg := tdrop (fun q => q / 320 == n) s.sched.qcfg,
    deficit := tdrop (fun q => q / 320 == n) s.sched.deficit,
    holder := tdrop (fun k => k / 64 == n) s.sched.holder,
    last := tdrop (fun k => k / 64 == n) s.sched.last,
    shp := tdrop (fun k => if k < 2560 then k / 320 == n else (k - 2560) / 32 == n) s.sched.shp,
    pol := pol }
  let tbl := { s.tbl with
    ascC := tdrop (fun a => a / 4096 / 6 == n) s.tbl.ascC,
    ascCW := tdrop (fun a => a / 8 / 6 == n) s.tbl.ascCW,
    treeG := tdrop (fun a => a / 65536 == n) s.tbl.treeG,
    cpG := tdrop (fun a => a / 2 ^ 22 == n) s.tbl.cpG }
  let s : State := { s with
    held := tdrop (fun a => inPg a || inNec a || inSch a) s.held,
    priv := tdrop (fun a => inNec (a % 2 ^ 40)) s.priv,
    wide := tdrop inPg s.wide,
    ports := tdrop (fun lp => lp / 32 == n) s.ports,
    cages := tdrop (fun c => c / 8 == n) s.cages,
    buses := tdrop (fun g => g == n) s.buses,
    groups := tdrop (fun g => g == n) s.groups,
    reseq := tdrop (fun lp => lp / 32 == n) s.reseq,
    clusters := tdrop (fun c => c / 8 == n) s.clusters,
    threads := tdrop (fun k => k / 136 / 8 == n) s.threads,
    cstore := tdrop (fun k => k / 32768 / 8 == n) s.cstore,
    cu := { s.cu with notices := s.cu.notices.filter fun x => x.pg != n },
    sched := sched, tbl := tbl }
  let s : State := { s with reload := { s.reload with go := s.reload.go.filter (· != n) } }
  (s.setStale n).loseReplica n

/-- R369: the TBL domain loses the master copies, the command unit, epoch control, the image port and
the replication lists. The notice queues of the port groups go with the command unit, and COUNT of the
ports keeps its value, which is the model's choice (log entry 66). The hit bits lie with the replicas (R87). -/
def State.loseTbl (s : State) : State :=
  let r : State := {}
  let tbl := { s.tbl with
    sta := [], spill := [], nbr := [], asc := [], ascW := [], tree := [], node := [],
    cp := [], dirty := [], rep := [], listFree := 65536, tag := [], lrnPort := [] }
  { s with
    held := tdrop (fun a => inRange 0x3000000 0x20000 a) s.held,
    priv := tdrop (fun a => inRange 0x3000000 0x20000 (a % 2 ^ 40)) s.priv,
    tbl := tbl, cu := r.cu, epc := r.epc, img := r.img, reload := { s.reload with go := [] } }

/-- R369: the TEL domain loses the ledger's close, telemetry and the event counters. The counting
points themselves lie in the port groups and the buffer. -/
def State.loseTel (s : State) : State :=
  let r : State := {}
  { s with
    held := tdrop (fun a => inRange 0x13000000 0x30000 a) s.held,
    priv := tdrop (fun a => inRange 0x13000000 0x30000 (a % 2 ^ 40)) s.priv,
    wide := tdrop (fun a => inRange 0x13000000 0x30000 a) s.wide,
    led := { r.led with cnt := s.led.cnt, rsn := s.led.rsn },
    tel := { r.tel with bytes := s.tel.bytes } }

/-- R325: the DRAM domain loses the controller's registers; the devices keep their contents. -/
def State.loseDram (s : State) : State :=
  let ch := (List.range 4).foldl (fun t c => tset (fun _ => ({} : DCh)) t c { undef := (s.dch c).undef, poison := (s.dch c).poison })
    ([] : Tab DCh)
  { s with
    held := tdrop (fun a => inRange 0x14000000 0x2000 a) s.held,
    dram := { s.dram with ch := ch } }

/-- R326, R428: a DRAM channel's devices lose their contents. -/
def State.dramBlank (s : State) (c : Nat) : State :=
  let s : State := { s with dram := { s.dram with mem := tdrop (fun x => x / 2 ^ 38 == c) s.dram.mem } }
  s.setDch c { s.dch c with undef := (s.dch c).undef + 1, poison := [] }

/-- R344, source 24: the buffer domains and the descriptor memory lose every frame without count. -/
def State.loseBuffer (s : State) : State :=
  let s := s.buf.bufs.foldl (fun st e => if e.2.hold then st.freeHold e.2.pkt else st) s
  let blocks := s.buf.blocks.map fun e => (e.1, ({ e.2 with used := [], pool := e.2.carve } : Block))
  let buf := { s.buf with
    blocks := blocks, bufs := [], descs := [], nextDesc := 0, descFree := 1048576, queues := [],
    used := [], pend := [], mcap := [] }
  ({ s with buf := buf, sched := { s.sched with picked := [], hostPick := [] } } : State).poolSteps

/-- R370: a buffer quadrant loses its memory: the bytes of frames that it still holds, which a domain
reset alone can find there, become free values (log entry 63). -/
def State.loseQuad (s : State) (i : Nat) : State :=
  let bufs := s.buf.bufs.map fun e =>
    if e.2.block / 64 == i then
      (e.1, { e.2 with bytes := (List.range e.2.bytes.length).map fun j =>
        (Config.freeWord (s.free + e.1 * 16384 + j)).setWidth 8 })
    else e
  { s with buf := { s.buf with bufs := bufs }, free := s.free + 2 ^ 40 }

/-- R370, R375: what domain k loses in Black. -/
def State.loseDom (s : State) (k : Nat) : State :=
  if k = domDram then s.loseDram
  else if k = domTbl then s.loseTbl
  else if k = domTel then s.loseTel
  else if 6 ≤ k && k < 14 then s.losePg (k - 6)
  else if 22 ≤ k && k < 26 then s.loseQuad (k - 22)
  else s

/-- R55: an SX domain that leaves Active forces its group's sub-ports down. -/
def State.sxDown (s : State) (n : Nat) : State :=
  (groupPorts n).foldl (fun st lp =>
    if (st.port lp).st = .disabled && ! bit (st.rg .macCtl n (lp % 32)) 15 then st
    else st.forceDown lp fun p => { p with bySx := true }) s

/-- R377, R419: the power domain that the PLL of a clock domain feeds. -/
def clkDomain (k : Nat) : Nat :=
  if k < 64 then 14 + k / 8
  else if k < 72 then 14 + (k - 64)
  else if k < 80 then 6 + (k - 72)
  else if k < 144 then 6 + (k - 80) / 8
  else if k = 144 then 22
  else if k = 145 then 4
  else if k < 148 then 1
  else if k = 148 then 2
  else if k < 153 then 3
  else if k < 155 then 0
  else 5

/-! ### Moves between shades (R369-R373) -/

/-- R370: the shade of a code. -/
def Shade.ofCode : Nat → Option Shade
  | 0 => some .active
  | 1 => some .pale
  | 2 => some .grey
  | 3 => some .slate
  | 4 => some .black
  | _ => none

/-- R369: the shades that a domain accepts. -/
def accepts (k : Nat) (x : Shade) : Bool :=
  if k < 3 then x = .active
  else if 14 ≤ k && k < 22 then x = .active || x = .pale || x = .black
  else true

/-- R2: a domain that the variant fuses off. -/
def State.fusedDom (s : State) (k : Nat) : Bool :=
  s.ident.variant = .hj4816c && (k = 12 || k = 13 || k = 20 || k = 21)

/-- R370: the next accepted shade on the way from one code to another. -/
def nextShade (k from_ to_ : Nat) : Option Shade :=
  if from_ < to_ then
    (List.range 5).findSome? fun i =>
      if from_ < i && i ≤ to_ then (Shade.ofCode i).filter (accepts k) else none
  else if to_ < from_ then
    (List.range 5).reverse.findSome? fun i =>
      if i < from_ && to_ ≤ i then (Shade.ofCode i).filter (accepts k) else none
  else none

/-- R373: where a domain moves: toward TARGET, or toward Active while it is being reset. -/
def Domain.goal (d : Domain) : Shade := if d.resetting then .active else d.target

/-- R371: a domain in Black may begin to leave it: fewer than four are doing so, and none with a lower number
waits. -/
def State.mayRise (s : State) (k : Nat) : Bool :=
  let rising (i : Nat) := (s.dmn i).shade = .black && (s.dmn i).step.isSome
  let waits (i : Nat) := (s.dmn i).shade = .black && (s.dmn i).step.isNone && (s.dmn i).moving && (s.dmn i).goal ≠ .black
  ((List.range 26).filter rising).length < 4 && ! (List.range k).any waits

/-! ### DRAM channels out of service -/

/-- R325: a channel changes state, which sets STATE_EVT. -/
def State.setDramSt (s : State) (c : Nat) (st : DramState) : State :=
  let d := s.dch c
  if d.st = st then s else s.setDch c { d with st := st, stateEvt := true }

/-- R322: the regions in a channel that leaves service move to their standby bases. -/
def State.moveRegions (s : State) (c : Nat) : State :=
  (List.range 8).foldl (fun st i =>
    let k := i + 1
    match st.rgnBase k with
    | some b =>
      if 0 < st.rgnUnits k && dramChan b = some (c, (b - dramBase) % slotSize) && ! st.tel.moved.contains k then
        { st with tel := { st.tel with moved := st.tel.moved ++ [k], wr := tset (fun _ => 0) st.tel.wr k 0 } }
      else st
    | none => st) s

/-- R332: a channel's devices enter self-refresh: the entry enters the log, and its time is kept for R327. -/
def State.enterSr (s : State) (c : Nat) : State :=
  let s := s.dlogSre c
  s.setDch c { s.dch c with srSince := s.mono, exitDue := false }

/-- R338: a channel goes offline: queued writes are issued, queued reads are discarded, regions move,
and the contents are kept in self-refresh. A channel in self-refresh leaves it for writes that still wait. -/
def State.dramOffline (s : State) (c : Nat) : State :=
  if (s.dch c).st.serves then
    let stays := (s.dch c).st = .selfRefresh && (s.dch c).wq.isEmpty
    let s := if (s.dch c).st = .selfRefresh && ! stays then s.dlogAll c [7] else s
    let s := (s.dramFlush c).dropReads c
    ((if stays then s else s.enterSr c).moveRegions c).setDramSt c .offline
  else if (s.dch c).st = .frozen then ((s.enterSr c).moveRegions c).setDramSt c .offline
  else s

/-- R333: a channel in service discards its reads, issues its writes and enters self-refresh, and shows a
state from then on. -/
def State.dramQuiet (s : State) (c : Nat) (st : DramState) : State :=
  if (s.dch c).st = .service || (s.dch c).st = .migrating then
    (((s.dramFlush c).dropReads c).enterSr c).setDramSt c st
  else s

/-- R332, R325: a channel as its domain leaves Active and Pale, or before a chip reset (R382). -/
def State.dramStop (s : State) (c : Nat) : State := s.dramQuiet c .selfRefresh

/-- R333, R325: a freeze takes a channel in service to FROZEN, a migration pausing where it stands; one that is
FROZEN already enters self-refresh as well. -/
def State.dramFreeze (s : State) (c : Nat) : State :=
  if (s.dch c).st = .frozen then s.enterSr c else s.dramQuiet c .frozen

/-! ### Domain resets (R382, R344) -/

/-- R382: a domain reset: the domain is as if it had been in Black, and moves up to Active. The channels of the DRAM
domain, which leaves Active or Pale, enter self-refresh first (R332). One that the variant fuses off stays in Black
(R2). -/
def State.domReset (s : State) (k : Nat) : State :=
  if k < 3 || s.fusedDom k then s
  else
    let s := if 14 ≤ k && k < 22 then s.sxDown (k - 14) else s
    let s := if k = domDram then (List.range 4).foldl State.dramStop s else s
    let s : State := { s with clk := { s.clk with lost := s.clk.lost.filter fun i => clkDomain i != k } }
    let s := s.setDmn k { s.dmn k with shade := .black, moving := true, resetting := true, step := none, woken := none }
    let s := s.loseDom k
    let s := s.setDmn k { s.dmn k with step := if s.mayRise k then nextShade k 4 0 else none }
    if 22 ≤ k then s.poolSteps else s

/-- R344, source 24: BUF0-BUF3 are reset together. -/
def State.bufReset (s : State) : State :=
  let s := (List.range 4).foldl (fun st i => st.domReset (domBuf i)) s.loseBuffer
  { s with clk := { s.clk with lost := s.clk.lost.filter fun i => i != 144 } }

/-! ### Freeze (R402-R405) -/

/-- R403: the freeze is latched: its cause and time are recorded, frames in transmission are ended,
locked sequences are broken, and the serving DRAM channels enter self-refresh. A device that
originates it drives FREEZE_N. -/
def State.freezeLatch (s : State) (origin source event : Nat) (drives : Bool) : State :=
  if s.frz.frozen then (if drives then { s with frz := { s.frz with drives := true } } else s)
  else
    let area := s.frzArea
    let ok := match area with
      | some (c, _) => (s.dch c).st = .service || (s.dch c).st = .migrating
      | none => false
    let f : FreezeSt := { s.frz with frozen := true, stopped := false, origin := origin, source := source, event := event, time := BitVec.ofNat 64 s.now, at_ := s.mono, drives := drives, frzEn := area.isSome, frzOk := ok }
    let s : State := { s with frz := f }
    let s := s.sched.picked.foldl (fun st e =>
      e.2.foldl (fun u p =>
        match p.tout with
        | some t => if t ≤ u.now then (u.bump .macTxErrEof (e.1 / 32) (e.1 % 32)).emit (.errorEof e.1) else u
        | none => u) st) s
    let s := (tkeys s.threads).foldl State.breakLock s
    (List.range 4).foldl State.dramFreeze s

/-! ### Chip reset (R382, R384) -/

/-- R382, R342, R405: the register words that a chip reset keeps: those of the AON blocks FLT_, TIME_,
FUSE_, CHN_ and DBG_. -/
def keptWord (a : Nat) : Bool :=
  inRange 0x20000 0x20000 a || inRange 0x80000 0x20000 a || inRange 0xC0000 0x20000 a ||
    inRange 0x15000000 0x20000 a

/-- R382: a chip reset: every domain except AON returns to the inert state of R384, both links go down
with LOSS 1, and what R382 keeps is kept. The chain is in AON (R24): its requests wait to be answered (R389). -/
def State.chipReset (s : State) : State :=
  let s := (List.range 4).foldl State.dramStop s
  let r := State.reset
  let host (h : Nat) : HostFn :=
    { loss := 1, losses := sat 8 ((s.hst h).losses + 1), perst := (s.hst h).perst }
  let ch := (List.range 4).foldl (fun t c => tset (fun _ => ({} : DCh)) t c { undef := (s.dch c).undef, poison := (s.dch c).poison })
    ([] : Tab DCh)
  { r with
    pending := s.pending, ident := s.ident, straps := s.straps, fuses := s.fuses, time := s.time,
    held := s.held.filter fun e => keptWord e.1,
    priv := s.priv.filter fun e => keptWord (e.1 % 2 ^ 40),
    dbg := s.dbg,
    clk := { s.clk with lost := [] },
    hosts := tset (fun _ => {}) (tset (fun _ => {}) [] 0 (host 0)) 1 (host 1),
    dram := { r.dram with ch := ch, mem := s.dram.mem },
    flt := s.flt,
    chain := { s.chain with readout := none, imaging := none },
    frz := { s.frz with frozen := false, stopped := false, drives := false, honour := false },
    free := s.free, out := s.out }

/-! ### The fault collector -/

/-- A fault event (R343, R351). -/
structure FaultEv where
  src : Nat
  cls : FClass
  code : Nat
  info : Word := 0

/-- R350: CLASS of a record. -/
def FClass.code : FClass → Nat
  | .blue => 1
  | .orange => 2
  | .crimson => 3

/-- R346: the reaction bits of a source for a class. -/
def State.reactions (s : State) (src : Nat) (c : FClass) : Nat :=
  let w := s.rg .fltReact 0 src
  match c with
  | .blue => fld w 4 0
  | .orange => fld w 9 5
  | .crimson => fld w 14 10

/-- R344: RSTD acts as RSTC for a source. -/
def rstdIsRstc (src : Nat) (info : Word) : Bool :=
  src == 8 || src == 9 || src == 10 || src == 28 ||
    (src == 3 && ((146 ≤ fld info 7 0 && fld info 7 0 ≤ 148) || fld info 7 0 == 153))

/-- R344, R351: the cluster that an event of sources 56-79 names: RATE_REDUCED names a group and no cluster,
and TEST_FAIL gives the FLT_TEST word, with the cluster in bits 5:0 (log entry 67). -/
def evCluster (code : Nat) (info : Word) : Option Nat :=
  if code = 0x0B then none else if code = 0x12 then some (fld info 5 0) else some (fld info 29 24)

/-- R344: the ISO reaction of a source to an event. -/
def State.isoUnit (s : State) (src code : Nat) (info : Word) : State :=
  let forced (s : State) (n : Nat) : State :=
    (groupPorts n).foldl (fun st lp => st.forceDown lp fun p => { p with byIso := true }) s
  if 20 ≤ src && src ≤ 23 then
    let i := src - 20
    let off := if s.buf.offline.contains i then s.buf.offline else s.buf.offline ++ [i]
    ({ s with buf := { s.buf with offline := off } } : State).poolSteps
  else if 32 ≤ src && src ≤ 39 then s.setGrp (src - 32) { s.grp (src - 32) with isolated := true }
  else if 40 ≤ src && src ≤ 47 then forced s (src - 40)
  else if 48 ≤ src && src ≤ 55 then forced s (src - 48)
  else if (56 ≤ src && src ≤ 63) || (72 ≤ src && src ≤ 79) then
    (match evCluster code info with
    | some cl => s.clearAdmit cl
    | none => s)
  else if 64 ≤ src && src ≤ 71 then
    (match evCluster code info with
    | some cl => (s.setRg .necSentCfg cl 0 (s.rg .necSentCfg cl &&& ~~~ 0x80000000)).dropSamples cl
    | none => s)
  else if 80 ≤ src && src ≤ 83 then s.dramOffline (src - 80)
  else s

/-- R253: a fault reaction resets a port group's domain or the buffer domains. -/
def State.markReset (s : State) : State := { s with led := { s.led with resetNow := true } }

/-- R344, R16: the RSTD reaction of a source, where it does not act as RSTC. -/
def State.rstdUnit (s : State) (src code : Nat) (info : Word) : State :=
  if src = 3 then
    let k := fld info 7 0
    if k = 144 then s.markReset.bufReset
    else
      let d := clkDomain k
      let s := if 6 ≤ d && d < 14 then s.markReset else s
      s.domReset d
  else if src = 24 then s.markReset.bufReset
  else if 32 ≤ src && src ≤ 39 then s.markReset.domReset (domPg (src - 32))
  else if 40 ≤ src && src ≤ 47 then s.markReset.domReset (domPg (src - 40))
  else if 48 ≤ src && src ≤ 55 then s.domReset (domSx (src - 48))
  else if (56 ≤ src && src ≤ 63) || (72 ≤ src && src ≤ 79) then
    (match evCluster code info with
    | some cl => s.clusterReset cl
    | none => s)
  else if src = 11 || src = 12 || src = 13 then s.domReset domTbl
  else if src = 26 || src = 27 then s.domReset domTel
  else if src = 84 then s.domReset domDram
  else s

/-- R350: the record of an event. -/
def mkHist (now : Nat) (e : FaultEv) (react : Nat) : HistRec :=
  { time := BitVec.ofNat 64 now,
    head := flag 31 true ||| put 29 23 e.src ||| put 22 21 e.cls.code ||| put 20 16 react ||| put 15 8 e.code,
    info := e.info }

/-- R350, R352: an event enters the history queue, or the flip-flop record once the memory has failed. -/
def State.logHist (s : State) (r : HistRec) : State :=
  if s.flt.lost then
    let s := if s.flt.flop.isSome then s.bump .histLostcnt 0 0 else s
    { s with flt := { s.flt with flop := some r } }
  else if 32 ≤ s.flt.hist.length then
    let s := s.bump .histDropped 0 0
    { s with flt := { s.flt with hist := s.flt.hist.drop 1 ++ [r] } }
  else { s with flt := { s.flt with hist := s.flt.hist ++ [r] } }

/-- R349: the status bit of a source, and the class bit when the event has the INT reaction. -/
def State.logStatus (s : State) (e : FaultEv) (int : Bool) : State :=
  let s := s.orRg .fltStatus 0 (e.src / 32) (flag (e.src % 32) true)
  if int then s.orRg .fltStatus3 0 0 (flag (15 + e.cls.code) true) else s

/-- R343-R345: one event is logged and receives the reactions of its class. With FRZ, RSTD and RSTC are
not performed; RSTC makes RSTD moot; ISO comes before RSTD. -/
def State.raiseCore (s : State) (e : FaultEv) : State :=
  let r := s.reactions e.src e.cls
  let int := r % 2 == 1
  let iso := r / 2 % 2 == 1
  let frz := r / 8 % 2 == 1
  let rstd0 := r / 4 % 2 == 1
  let rstc := ! frz && (r / 16 % 2 == 1 || (rstd0 && rstdIsRstc e.src e.info))
  let rstd := ! frz && rstd0 && ! rstc
  let done := b2n int + 2 * b2n iso + 4 * b2n rstd + 8 * b2n frz + 16 * b2n rstc
  let s := (s.logStatus e int).logHist (mkHist s.now e done)
  let s := if (rstd || rstc) && e.cls = .crimson then s.orRg .bufAgeCtl 0 0 (flag 30 true) else s
  let s := if iso then s.isoUnit e.src e.code e.info else s
  let s := if rstd then s.rstdUnit e.src e.code e.info else s
  let s := if frz then s.freezeLatch 1 e.src e.code true else s
  if rstc then
    let s := s.chipReset
    if e.cls = .crimson then s.orRg .bufAgeCtl 0 0 (flag 30 true) else s
  else s

/-- R343, R347: an event is raised; a Blue event that brings its source's count to THR raises an Orange
THRESHOLD event with its INFO, and the count restarts. -/
def State.raise (s : State) (e : FaultEv) : State :=
  let s' := s.raiseCore e
  if e.cls = .blue then
    let n := tget (fun _ => 0) s'.flt.blue e.src + 1
    let thr := fld (s'.rg .fltReact 0 e.src) 31 24
    if thr ≠ 0 && thr ≤ n then
      let s' : State := { s' with flt := { s'.flt with blue := tset (fun _ => 0) s'.flt.blue e.src 0 } }
      s'.raiseCore { src := e.src, cls := .orange, code := 4, info := e.info }
    else { s' with flt := { s'.flt with blue := tset (fun _ => 0) s'.flt.blue e.src n } }
  else s'

/-- R351: INFO with a cluster, engine and thread. -/
def infoCET (c e t low : Nat) : Word := put 29 24 c ||| put 20 16 e ||| put 14 12 t ||| wd low

end Sys2Proof.Machine
end

