-- ==== Sys2Proof/Machine/Copies.lean ====
section
/-! DEFINITION. The copy tables as a port group reads them (R169, R170). -/

namespace Sys2Proof.Machine

open Sys2Proof

/-- R81, R86, R116, R161, R165, R170: words per entry of a copy table, by its number in R190. -/
def cpWords (table : Nat) : Nat :=
  match table with
  | 4 => 40
  | 6 => 9
  | 7 => 17
  | _ => 1

/-- R82, R86, R116, R161, R165, R170: entries of a copy table. -/
def cpSize (table : Nat) : Nat :=
  match table with
  | 4 => 64
  | 5 => 16384
  | 6 => 512
  | 7 => 4096
  | 8 => 256
  | _ => 256

/-- The key of an entry of the copy of a parity. -/
def cpKey (table : Nat) (par : Bool) (idx : Nat) : Nat := (2 * table + b2n par) * 65536 + idx

/-- R82: the reset contents of an entry: zero, but for a profile's DEF_REASON NOT_CONFIGURED. -/
def cpReset (key : Nat) : List Word :=
  let table := key % 2 ^ 22 / 65536 / 2
  padTo (cpWords table) (if table = 4 then [0x60] else [])

/-- An entry of a port group's copy. -/
def State.cpRead (s : State) (n table : Nat) (par : Bool) (idx : Nat) : List Word :=
  tget cpReset s.tbl.cpG (n * 2 ^ 22 + cpKey table par idx)

/-- R170: the member of a logical port in a parity. -/
def State.memberOf (s : State) (lp : Nat) (par : Bool) : Nat :=
  fld (wAt (s.cpRead (lp / 32) 8 par lp) 0) 11 0

end Sys2Proof.Machine
end

