-- ==== Sys2Proof/Machine/Intervals.lean ====
section
/-! DEFINITION. The frames held (R249, R254), and the end of an interval: the counting points close with
the boundary (R251), and the interval is numbered and handed to its check (R253, R255, R258). -/

namespace Sys2Proof.Machine

open Sys2Proof

/-- The next multiple of a length after a time. -/
def nextMultiple (t len : Nat) : Nat := (t / len + 1) * len

/-- R255: where the running interval ends. -/
def State.ledEnd (s : State) : Nat := nextMultiple s.led.start (s.led.len * 1000)

/-- R255: LED_CFG.INTERVAL in µs, held to 100-10,000,000. -/
def State.ledLen (s : State) : Nat := max 100 (min 10000000 (fld (s.rg .ledCfg) 23 0))

/-- R255: the running interval ends now: its points have closed, a step of device time has ended it, or its
boundary is reached. -/
def State.ledDue (s : State) : Bool :=
  s.led.open_ && (s.led.latched || s.led.stepped || decide (s.ledEnd ≤ s.now))

/-- R253: the groups not Active for the whole of the running interval. -/
def State.absentNow (s : State) : List Nat :=
  (List.range 8).filter fun n => (s.grp n).absent || ! s.isActive (domPg n)

/-- R253: for each group, whether it is Active as an interval begins. -/
def State.absentAnew (s : State) : State :=
  (List.range 8).foldl (fun st n => st.setGrp n { st.grp n with absent := ! st.isActive (domPg n) }) s

/-- R115, R140: a cluster's H of the interval, in engine cycles: the mean, rounded down, and 0 where no
packet ended: DESIGN CHOICE (log entry 66). -/
def State.closeHold (s : State) (c : Nat) : State :=
  let x := s.clu c
  s.setClu c { x with holdMean := if x.holdCnt = 0 then 0 else sat 16 (x.holdSum / x.holdCnt), holdSum := 0, holdCnt := 0 }

/-- R258: HIST_DIV. -/
def State.histDiv (s : State) : Nat := max 1 (fld (s.rg .telCfg) 27 24)

/-- R258: the intervals of a histogram period: at least 1 ms of them. -/
def State.histPeriod (s : State) : Nat := max s.histDiv ((1000 + s.led.len - 1) / s.led.len)

/-- R249: HELD of every account now. -/
def State.heldAll (s : State) : Tab Nat :=
  (List.range 528).foldl (fun t a => tset (fun _ => 0) t a (s.heldBy a)) []

/-- R249-R253: every counting point and occupancy counter latches its counts and starts the next interval.
All close with the boundary itself, so that no hand-off meets a point with another tag (log entry 72). -/
def State.closePoints (s : State) : State :=
  if s.led.latched then s
  else
    let l := s.led
    let mem := (List.range s.nPorts).foldl (fun t lp => tset (fun _ => 0) t lp (s.memberOf lp s.epc.c)) ([] : Tab Nat)
    let cnts := s.wide.filter fun e => inRange 0x13020000 0x2000 e.1
    let led := { l with
      latched := true, lat := l.cnt, cnt := [], heldPrev := l.held, held := s.heldAll, rsnLat := l.rsn, rsn := [],
      bytesLat := s.tel.bytes, pmcLat := cnts, memLat := mem, absentLat := s.absentNow,
      lastUnchecked := l.resetNow || l.resetPrev || l.first, first := false, resetPrev := l.resetNow, resetNow := false }
    let s : State := ({ s with led := led, tel := { s.tel with bytes := [] } } : State).absentAnew
    (List.range s.nClusters).foldl State.closeHold s

/-- R251: the points close as soon as device time has reached the boundary. -/
def State.closeReached (s : State) : State :=
  if s.led.open_ && s.isActive domTel && decide (s.ledEnd ≤ s.now) then s.closePoints else s

/-- R255, R258: the closed interval gets its number, its length and its flags, and awaits its check; the next
one runs. -/
def State.closeInterval (s : State) : State :=
  let s := s.closePoints
  let l := s.led
  let end_ := if l.stepped then l.stepAt else s.ledEnd
  let len := (end_ - l.start) / 1000
  let led := { l with
    latched := false, lastLen := len, lastStepped := l.stepped, lastShort := ! l.stepped && len < l.len,
    stepped := false, start := if l.stepped then l.stepTo else end_, len := s.ledLen, due := true }
  let n := s.tel.period + 1
  let ends := decide (s.histPeriod ≤ n)
  let tel := { s.tel with
    period := if ends then 0 else n, periodDue := s.tel.periodDue || ends, div := if ends then n else s.tel.div }
  ({ s with led := led, tel := tel } : State).addCtr .ledIntvLo 0 0

/-- R253, R255: the ledger begins its first interval as the TEL domain becomes Active. -/
def State.ledOpen (s : State) : State :=
  ({ s with led := { s.led with
    open_ := true, latched := false, stepped := false, first := true, start := s.now, absentLat := [],
    len := s.ledLen } } : State).absentAnew

/-- R255: a step of device time to `t` ends the running interval at once. -/
def State.ledStep (s : State) (t : Nat) : State :=
  if ! s.led.open_ || ! s.isActive domTel then s
  else
    let s := if s.led.latched then s.closeInterval else s
    let s := s.closePoints
    { s with led := { s.led with stepped := true, stepAt := s.now, stepTo := t } }

end Sys2Proof.Machine
end

