-- ==== Sys2Proof/Machine/Power.lean ====
section
/-! DEFINITION. Power shades, reload, clocks, device time and the resets (R369-R385, R429, R431, R438). -/

namespace Sys2Proof.Machine

open Sys2Proof

/-! ### Shades -/

/-- R226: a quadrant is offline and holds no frame. -/
def State.drained (s : State) (i : Nat) : Bool :=
  s.buf.offline.contains i && s.buf.blocks.all fun e => e.1 / 64 != i || e.2.used.isEmpty

/-- R138: ADMIT of a cluster. -/
def State.admits (s : State) (c : Nat) : Bool := bit (s.rg .necCtl c) 0

/-- The clusters of a port group. -/
def groupClusters (n : Nat) : List Nat := (List.range 8).map fun i => 8 * n + i

/-- R369: the condition under which a domain may leave Active. -/
def State.mayLeave (s : State) (k : Nat) : Bool :=
  if k < 3 then false
  else if k = domTbl then
    ! bit (s.rg .chipCtl) 8 && s.cu.q.isEmpty && s.cu.beginWait.isEmpty && s.cu.settleWait.isEmpty &&
      s.cu.fan.isEmpty && s.epc.commitBy.isNone && s.epc.abortBy.isNone
  else if 6 ≤ k && k < 14 then
    let n := k - 6
    (groupPorts n).all (fun lp => (s.port lp).st = .disabled) &&
      (groupClusters n).all (fun c => ! s.admits c) &&
      s.buf.used.all fun e => e.1 / 320 != n || e.1 ≥ 2560
  else if 22 ≤ k then s.drained (k - 22)
  else true

/-- R139: the threads of a cluster that are not IDLE, those of its sentinel left out. -/
def State.busy (s : State) (c : Nat) : Nat :=
  ((s.cluThreads c).filter fun k => (s.thr k).st ≠ .idle && k / 8 % 17 ≠ (s.clu c).sentinel).length

/-- R139: every store buffer of a cluster is empty. -/
def State.sbEmpty (s : State) (c : Nat) : Bool := (s.cluThreads c).all fun k => (s.thr k).sb.isEmpty

/-- R372, R444: what a PG domain waits for before it enters a shade below Active. -/
def State.stepWait (s : State) (k : Nat) (next : Shade) : Bool :=
  if 6 ≤ k && k < 14 then
    let n := k - 6
    (groupClusters n).all (fun c => s.busy c == 0) && (s.grp n).holdUnits == 0 &&
      (next = .pale || s.cu.fan.all fun f => f.left.all fun p => p / 6 != n) &&
      ((next ≠ .slate && next ≠ .black) || (groupClusters n).all s.sbEmpty)
  else true

/-- R373: MOVING while the domain is not where it goes. -/
def Domain.settleMove (d : Domain) : Domain :=
  let d := if d.shade = .active then { d with resetting := false } else d
  { d with moving := d.shade ≠ d.goal, woken := none }

/-- R363: the engines of a cluster take their roles from the number of retired ones; without one, the
cluster is verified. -/
def State.takeRoles (s : State) (c : Nat) : State :=
  let r := tget (fun _ => (0 : BitVec 17)) s.flt.retired c
  let x := { s.clu c with rotating := none, spareDue := none, checker := false, selfTest := false }
  if r = 0 then s.setClu c { x with sentinel := 16, spareUsed := false }
  else s.setClu c { x with sentinel := 31, spareUsed := true }

/-- R259: TEL_BW_CFG.WINDOW in µs, held to 10-1,000,000. -/
def State.bwWindow (s : State) : Nat := max 10 (min 1000000 (fld (s.rg .telBwCfg) 19 0))

/-- R325: the domain's return to Active ends a channel's self-refresh. -/
def State.exitDue (s : State) (c : Nat) : State :=
  if (s.dch c).st = .selfRefresh then s.setDch c { s.dch c with exitDue := true } else s

/-- R233: the enabled buckets that a group holds start full as it becomes Active for the first time since it lost its
memory: those that have found their home there meanwhile. -/
def State.fillPols (s : State) (n : Nat) : State :=
  if (s.grp n).cold then
    let pol := s.sched.pol.map fun e =>
      (e.1, if s.polIn n e.1 && e.2.en then { e.2.full with at_ := s.mono } else e.2)
    ({ s with sched := { s.sched with pol := pol } } : State).setGrp n { s.grp n with cold := false }
  else s

/-- R181, R233, R363, R255: what happens when a domain becomes Active. -/
def State.becomeActive (s : State) (k : Nat) : State :=
  if 6 ≤ k && k < 14 then
    let n := k - 6
    let g := s.grp n
    let s := s.setGrp n { g with par := List.replicate 6 (bit s.epc.num 0), flip := List.replicate 6 false, absent := true }
    let s := s.fillPols n
    let s := if s.reload.unkept.contains n then s.emptyReplica (n / 2) else s
    let s : State := { s with reload := { s.reload with unkept := s.reload.unkept.filter (· != n) } }
    (groupClusters n).foldl State.takeRoles s
  else if k = domTel then
    ({ s with tel := { s.tel with bwStart := s.now, bwLen := s.bwWindow } } : State).ledOpen
  else if k = domDram then (List.range 4).foldl State.exitDue s
  else s

/-- R375: a group that leaves Active and Pale no longer keeps its replica for a partner in Black. -/
def State.unkeep (s : State) (n : Nat) : State :=
  let m := if n % 2 = 0 then n + 1 else n - 1
  if (s.dmn (domPg m)).shade = .black && ! s.reload.unkept.contains m then
    { s with reload := { s.reload with unkept := s.reload.unkept ++ [m] } }
  else s

/-- R370: what a domain loses or closes as it enters a shade on the way down. -/
def State.enterShade (s : State) (k : Nat) (x : Shade) : State :=
  let s := if 14 ≤ k && k < 22 then s.sxDown (k - 14) else s
  let s := if k = domDram && x ≠ .pale then (List.range 4).foldl State.dramStop s else s
  let s : State := if 6 ≤ k && k < 14 then
      let n := k - 6
      let g := s.grp n
      let s := s.setGrp n { g with absent := true }
      let s := if x = .grey then s.unkeep n else s
      if x = .slate then
        let cl := (groupClusters n).foldl (fun t c =>
          let y := tget (fun _ => ({} : Cluster)) t c
          tset (fun _ => {}) t c { y with locks := [] }) s.clusters
        { s with threads := tdrop (fun t => t / 136 / 8 == n) s.threads, clusters := cl }
      else s
    else s
  if x = .black then (s.setDmn k { s.dmn k with shade := .black }).loseDom k else s

/-- R373: a step down is refused: the domain stays, TARGET takes its shade, REFUSED is set. -/
def State.refuseStep (s : State) (k : Nat) : State :=
  let d := s.dmn k
  s.setDmn k { d with target := d.shade, refused := true, moving := false, step := none, woken := none }

/-- R215, R226: the pools follow the quadrants whose domains are Active. -/
def State.quadStep (s : State) (k : Nat) : State := if 22 ≤ k then s.poolSteps else s

/-- R371-R373: a domain that is to move begins its next step: a step down once the condition of R369 has been
checked again and the waits of R372 are over, a step out of Black as R371 allows. -/
def State.stepBegin (s : State) (k : Nat) : State :=
  let d := s.dmn k
  if ! d.moving || d.step.isSome then s
  else
    match nextShade k d.shade.code d.goal.code with
    | none => s.setDmn k d.settleMove
    | some x =>
      if d.shade.code < x.code then
        if ! s.mayLeave k then s.refuseStep k
        else if ! s.stepWait k x then s
        else s.setDmn k { d with step := some x }
      else if d.shade = .black && ! s.mayRise k then s
      else s.setDmn k { d with step := some x }

/-- R371: the domains that wait to leave Black begin to, in ascending order, as far as they may. -/
def State.riseNext (s : State) : State :=
  (List.range 26).foldl (fun st k => if (st.dmn k).shade = .black then st.stepBegin k else st) s


/-- R370-R373: the step under way to shade `x` ends, and what may begin next begins. -/
def State.stepEnd (s : State) (k : Nat) (x : Shade) : State :=
  let d := s.dmn k
  let s :=
    if d.shade.code < x.code then
      let s := s.enterShade k x
      (s.setDmn k ({ s.dmn k with shade := x, step := none } : Domain).settleMove).quadStep k
    else
      let s := s.setDmn k ({ d with shade := x, step := none } : Domain).settleMove

      if x = .active then (s.becomeActive k).quadStep k else s
  (s.stepBegin k).riseNext

/-- R370-R373: one step of a domain's move: it begins, if it has only waited so far, and ends. -/
def State.shadeStep (s : State) (k : Nat) : State :=
  let s := s.stepBegin k
  match (s.dmn k).step with
  | none => s
  | some x => if (s.dmn k).shade.code < x.code && ! s.stepWait k x then s else s.stepEnd k x

/-- R373: a write of PWR_DOMk: REFUSED is cleared by 1, TARGET is checked, and RESET resets. A step that is
under way ends before a changed TARGET counts. -/
def State.writeDom (s : State) (k : Nat) (v : Word) : State :=
  if s.fusedDom k then s
  else
    let d := s.dmn k
    let d := if bit v 24 then { d with refused := false } else d
    let d : Domain := match Shade.ofCode (fld v 31 29) with
      | some x =>
        if accepts k x && (x = .active || s.mayLeave k) then
          let d := { d with target := x, woken := none }
          { d with moving := d.step.isSome || d.shade ≠ d.goal }
        else { d with refused := true }
      | none => { d with refused := true }
    let s := (s.setDmn k d).stepBegin k
    if bit v 23 then s.domReset k else s

/-- R374: a register access to a Pale domain wakes it; a further access keeps it awake. -/
def State.wake (s : State) (k : Nat) : State :=
  let d := s.dmn k
  if d.shade = .pale && ! d.moving then
    ((s.setDmn k { d with shade := .active, woken := some s.mono }).becomeActive k).quadStep k
  else if d.woken.isSome then s.setDmn k { d with woken := some s.mono }
  else s

/-- R277, R374, R396: a requester's access reaches a block of domain k: a Pale domain is woken for it,
and an access to a domain below Pale, or to one that is moving, is not served and is counted; a domain that the
variant fuses off is in Black for good (R2). A peek does not count as an access for the return to Pale. -/
def State.reach (s : State) (r : Req) (k : Nat) (peek : Bool := false) : Bool × State :=
  if s.fusedDom k || (s.dmn k).moving then (false, s.sleepAcc r)
  else
    let s := if peek && (s.dmn k).woken.isSome then s else s.wake k
    if s.isActive k then (true, s) else (false, s.sleepAcc r)

/-- R277, R374: what a requester's access to a block of domain k does. -/
def State.access (s : State) (r : Req) (k : Nat) (f : State → State) : State :=
  let a := s.reach r k
  if a.1 then f a.2 else a.2

/-- R372-R374: a woken domain returns to Pale after 10 µs without an access. -/
def State.paleBack (s : State) (k : Nat) : State :=
  if ! s.mayLeave k then s.refuseStep k
  else if ! s.stepWait k .pale then s
  else
    let s := s.enterShade k .pale
    (s.setDmn k { s.dmn k with shade := .pale, woken := none }).quadStep k

/-! ### Reload (R375, R376) -/

/-- R376: a write of PWR_RELOAD. -/
def State.writeReload (s : State) (v : Word) : State :=
  let start := (List.range s.nGroups).filter fun n =>
    bit v n && s.isActive (domPg n) && (groupClusters n).all (fun c => ! s.admits c) &&
      ! s.reload.go.contains n
  { s with reload := { s.reload with go := s.reload.go ++ start } }

/-- The entries of a table copied to keys further up. -/
def shiftTab {α : Type} (off : Nat) (t : Tab α) : Tab α := t.map fun e => (e.1 + off, e.2)

/-- The entries of a table within a range of keys replaced. -/
def replaceRange {α : Type} (lo hi : Nat) (t new : Tab α) : Tab α :=
  t.filter (fun e => e.1 < lo) ++ new ++ t.filter (fun e => hi ≤ e.1)

/-- R375: a group's trees, copy tables and associative copies become those of the masters, and its
replica where that is stale or empty. -/
def State.reloadGroup (s : State) (n : Nat) : State :=
  let t := s.tbl
  let pipes := (List.range 6).map fun p => 6 * n + p
  let asc := t.asc.map fun e => (e.1, e.2.words)
  let ascC := pipes.foldl (fun a p => replaceRange (p * 4096) ((p + 1) * 4096) a (shiftTab (p * 4096) asc)) t.ascC
  let ascCW := pipes.foldl (fun a p => replaceRange (p * 8) ((p + 1) * 8) a (shiftTab (p * 8) t.ascW)) t.ascCW
  let k := n / 2
  let both := s.reload.replStale.contains k || s.reload.replEmpty.contains k
  let tbl := { t with
    treeG := replaceRange (n * 65536) ((n + 1) * 65536) t.treeG (shiftTab (n * 65536) t.tree),
    cpG := replaceRange (n * 2 ^ 22) ((n + 1) * 2 ^ 22) t.cpG (shiftTab (n * 2 ^ 22) t.cp),
    ascC := ascC, ascCW := ascCW,
    staR := if both then replaceRange (k * 2 ^ 20) ((k + 1) * 2 ^ 20) t.staR (shiftTab (k * 2 ^ 20) t.sta) else t.staR,
    nbrR := if both then replaceRange (k * 2 ^ 18) ((k + 1) * 2 ^ 18) t.nbrR (shiftTab (k * 2 ^ 18) t.nbr) else t.nbrR }
  let r := { s.reload with
    go := s.reload.go.filter (· != n), stale := s.reload.stale.filter (· != n),
    replStale := if both then s.reload.replStale.filter (· != k) else s.reload.replStale,
    replEmpty := if both then s.reload.replEmpty.filter (· != k) else s.reload.replEmpty }
  { s with tbl := tbl, reload := r }

/-! ### Device time (R379, R380) -/

/-- R379: the trim in force has come to a whole count. -/
def TimeUnit.due (t : TimeUnit) : Bool := t.trim ≠ 0 && 1000000000 ≤ t.frac + t.trim.natAbs

/-- R379: device time advances by one count of the time base; where the trim has come to a whole count, one
is held back or added. -/
def State.count (s : State) : State :=
  let t := s.time
  if t.due then
    { s with time := { t with now := if 0 < t.trim then t.now else t.now + 2, frac := t.frac + t.trim.natAbs - 1000000000 } }
  else { s with time := { t with now := t.now + 1, frac := t.frac + t.trim.natAbs } }

/-- R379, R251: device time goes on, and the counting points close with a boundary that it reaches. -/
def State.tick (s : State) : State :=
  if s.frz.stopped || ! s.clkOk 153 then s else s.count.closeReached

/-- R379, R255: a step of device time; the running interval ends at once, and the trim stays (log entry 35). -/
def State.timeStep (s : State) (t : Nat) : State :=
  let s := s.ledStep (t % 2 ^ 64)
  { s with
    time := { s.time with now := t % 2 ^ 64, shift := s.time.shift + ((t % 2 ^ 64 : Nat) : Int) - (s.time.now : Int) },
    tel := { s.tel with bwStart := t % 2 ^ 64 } }

/-- R379: PPS_EN. -/
def State.ppsEn (s : State) : Bool := bit (s.rg .timeCtl) 31

/-- R379: device time less the nearest whole second. -/
def ppsErr (now : Nat) : Int :=
  let m := now % 1000000000
  if m < 500000000 then (m : Int) else (m : Int) - 1000000000

/-- R379, R380: an accepted edge. -/
def State.ppsAccept (s : State) : State :=
  let e := ppsErr s.now
  let t := { s.time with err := wd (satInt 32 e), edgeSeen := true, missed := false }
  let s : State := { s with time := t }
  let thr := max 1 (fld (s.rg .timeCtl) 15 0) * 1000
  let s := match t.armed with
    | some sec =>
      let s := s.timeStep (sec * 1000000000)
      { s with time := { s.time with armed := none } }
    | none =>
      if e.natAbs < thr then { s with time := { s.time with trim := max (-100000) (min 100000 e), frac := 0 } }
      else s.timeStep ((s.now : Int) - e).toNat
  { s with time := { s.time with ref := s.mono } }

/-- R380: a write of TIME_SET_SEC. -/
def State.setSec (s : State) (v : Word) : State :=
  let s := s.setRg .timeSetSec 0 0 v
  if s.ppsEn then { s with time := { s.time with armed := some v.toNat } }
  else s.timeStep (v.toNat * 1000000000)

/-- R379: a write of TIME_CTL; setting PPS_EN starts the watch for the first edge. -/
def State.writeTimeCtl (s : State) (v : Word) : State :=
  let was := s.ppsEn
  let s := s.setRg .timeCtl 0 0 (v &&& 0x8000FFFF)
  if ! was && s.ppsEn then
    { s with time := { s.time with ref := s.mono, edgeSeen := false, missed := false } }
  else s

/-! ### Resets -/

/-- R223: FORCE_START clears once FWD_EN is 1 and the first COMMIT has completed. -/
def State.startDone (s : State) : State :=
  if bit (s.rg .chipCtl) 8 && s.epc.committed then { s with buf := { s.buf with forceStart := false } } else s

/-- R383: a write of CHIP_CTL. -/
def State.writeChipCtl (s : State) (v : Word) : State :=
  if bit v 31 && fld v 7 0 = 0xC4 then s.chipReset
  else if bit v 8 then (s.orRg .chipCtl 0 0 (flag 8 true)).startDone
  else s

/-- R382: a power-on reset: everything but what the factory fixed and the blown fuses. -/
def State.powerOn (s : State) (straps : Straps) (senseFault : Bool) : State :=
  let r := State.reset
  let ch := (List.range 4).foldl (fun t c => tset (fun _ => ({} : DCh)) t c { undef := (s.dch c).undef + 1 })
    ([] : Tab DCh)
  let s' : State := { r with
    pending := s.pending, ident := s.ident, straps := straps, fuses := s.fuses,
    dram := { r.dram with ch := ch }, free := s.free, out := s.out }
  if senseFault then s'.raise { src := 1, cls := .orange, code := 0x1A } else s'

/-- R381: the straps as sampled: PCIE_MODE, REFSEL, CHN_TERM and TEST_MODE from bit 0 up. -/
def strapsOf (b : BitVec 4) : Straps :=
  { pcieMode := b.getLsbD 0, refsel := b.getLsbD 1, chnTerm := b.getLsbD 2, testMode := b.getLsbD 3 }

/-- R428, R429: a supply fails. A rail below its minimum is an event of the collector; loss of VDDQ_DDR, or of the supply
of a channel's devices, loses their contents, and with them what the reaction to the event still writes there. -/
def State.railLost (s : State) (l : RailLoss) (detail : Word) : State :=
  let ev (s : State) : State := s.raise { src := 4, cls := .crimson, code := 0x16, info := detail }
  match l with
  | .below => ev s
  | .ddrRail => (List.range 4).foldl State.dramBlank (ev s)
  | .ddrDevices c => s.dramBlank c
  | .por straps senseFault => s.powerOn (strapsOf straps) senseFault

/-- R378, R431: the power domain that a clock domain's PLL feeds runs it: Active, or Pale, which only gates its clock
(R370). -/
def State.pllRuns (s : State) (k : Nat) : Bool :=
  if k = 144 then (List.range 4).any fun i => s.isLit (domBuf i) else s.isLit (clkDomain k)

/-- R378, R418, R431: a PLL loses lock: the clock domain stops, and whether the reference that it follows is still there
is measured from then on. INFO of PLL_LOCK is the number of the clock domain (R377), the model's choice (log entry
82). -/
def State.pllLost (s : State) (k : Nat) : State :=
  let pcie := k = 146 || k = 147
  let c := s.clk
  let s : State := { s with clk := { c with
    lost := c.lost ++ [k], pcieRef := c.pcieRef && ! pcie, sysRef := c.sysRef && (pcie || k < 72) } }
  s.raise { src := 3, cls := .crimson, code := 0x15, info := wd k }

/-- R415: the highest junction temperature of the variant. -/
def Variant.tjMax : Variant → Nat
  | .hj6416e => 110
  | _ => 105

/-- R415: the lowest. -/
def Variant.tjMin : Variant → Int
  | .hj6416e => -5
  | _ => 0

/-- R438: the THERMAL events of a junction temperature, each once until it has fallen 5 °C. -/
def State.thermal (s : State) (t : Int) : State :=
  let mx : Int := s.ident.variant.tjMax
  let info := BitVec.ofInt 32 t
  let w := s.flt.hotWarn
  let c := s.flt.hotCrit
  let w' := if mx ≤ t then true else if t ≤ mx - 5 then false else w
  let c' := if mx + 10 ≤ t then true else if t ≤ mx + 5 then false else c
  let s : State := { s with flt := { s.flt with hotWarn := w', hotCrit := c' } }
  let s := if w' && ! w then s.raise { src := 4, cls := .orange, code := 0x13, info := info } else s
  if c' && ! c then s.raise { src := 4, cls := .crimson, code := 0x14, info := info } else s

/-! ### Meanings -/

/-- SHADE_REQUEST (R373). -/
def execShadeRequest (_r : Req) (k : Fin 26) (v : Word) (s : State) : Host.Outcome State Fault Refusal :=
  act s.regOn (fun s => s.writeDom k v) s

/-- SHADE_STEP (R370-R373). -/
def execShadeStep (k : Fin 26) (s : State) : Host.Outcome State Fault Refusal :=
  act s.live (fun s => s.shadeStep k) s

/-- DOMAIN_RESET (R382): a write of PWR_DOMk that sets RESET. -/
def execDomainReset (_r : Req) (k : Fin 26) (v : Word) (s : State) : Host.Outcome State Fault Refusal :=
  act s.regOn (fun s => s.writeDom k (v ||| flag 23 true)) s

/-- PALE_RETURN (R374). -/
def execPaleReturn (k : Fin 26) (s : State) : Host.Outcome State Fault Refusal :=
  let due := match (s.dmn k).woken with
    | some t => decide (t + 10000 ≤ s.mono)
    | none => false
  act (s.live && due && (s.dmn k).shade = .active) (fun s => s.paleBack k) s

/-- RELOAD_START (R375, R376). -/
def execReloadStart (_r : Req) (v : Word) (s : State) : Host.Outcome State Fault Refusal :=
  act s.regOn (fun s => s.writeReload v) s

/-- RELOAD_COMPLETE (R375). -/
def execReloadComplete (pg : Fin 8) (s : State) : Host.Outcome State Fault Refusal :=
  act (s.tblOn && s.reload.go.contains pg) (fun s => s.reloadGroup pg) s

/-- R379, R378: the time unit runs: its clock does, until the clock stop of a freeze (R24). -/
def State.timeOn (s : State) : Bool := s.regOn && s.clkOk 153

/-- PPS_EDGE (R379): an edge less than 0.9 s after the last is ignored. -/
def execPpsEdge (s : State) : Host.Outcome State Fault Refusal :=
  act (s.timeOn && s.ppsEn && (! s.time.edgeSeen || s.time.ref + 900000000 ≤ s.mono)) State.ppsAccept s

/-- PPS_FAULT (R379). -/
def execPpsFault (s : State) : Host.Outcome State Fault Refusal :=
  act (s.timeOn && s.ppsEn && ! s.time.missed && s.time.ref + 1100000000 ≤ s.mono)
    (fun s => ({ s with time := { s.time with missed := true } } : State).raise { src := 2, cls := .blue, code := 0x1B }) s

/-- TIME_SET_SEC (R380). -/
def execTimeSetSec (_r : Req) (v : Word) (s : State) : Host.Outcome State Fault Refusal :=
  act s.regOn (fun s => s.setSec v) s

/-- POWER_ON_RESET (R381, R382). -/
def execPowerOnReset (straps : BitVec 4) (senseFault : Bool) (s : State) : Host.Outcome State Fault Refusal :=
  act true (fun s => s.powerOn (strapsOf straps) senseFault) s

/-- CHIP_RESET (R382, R383): a write of CHIP_CTL. -/
def execChipReset (_r : Req) (v : Word) (s : State) : Host.Outcome State Fault Refusal :=
  act s.regOn (fun s => s.writeChipCtl v) s

/-- FWD_EN (R383): a write of CHIP_CTL. -/
def execFwdEn (_r : Req) (v : Word) (s : State) : Host.Outcome State Fault Refusal :=
  act s.regOn (fun s => s.writeChipCtl v) s

/-- PLL_LOCK (R378, R431): of a PLL that runs: not for a recovered receive clock, nor for the chain's clock input, nor in
a domain that sleeps below Pale or that the variant fuses off (R2). The collector works while the device is frozen
(R24), until the clocks stop. -/
def execPllLock (k : Fin 156) (s : State) : Host.Outcome State Fault Refusal :=
  act (s.regOn && 64 ≤ k.val && k.val ≠ 154 && s.clkOk k && ! s.fusedDom (clkDomain k) && s.pllRuns k)
    (fun s => s.pllLost k) s

/-- RAIL (R429): the collector takes the event in every state of the device (R24). -/
def execRail (loss : RailLoss) (detail : Word) (s : State) : Host.Outcome State Fault Refusal :=
  act true (fun s => s.railLost loss detail) s

/-- THERMAL_EVENT (R438): the collector takes the event while the device is frozen too (R24). -/
def execThermalEvent (temp : Int) (s : State) : Host.Outcome State Fault Refusal :=
  act true (fun s => s.thermal temp) s

end Sys2Proof.Machine
end

