-- ==== Sys2Proof/Machine/Station.lean ====
section
/-! DEFINITION. The station and neighbour tables (R87-R91, R102), their replicas and hit bits, the
Cobalt and Amber copy tables, learning (R93-R99, R186) and ageing (R100, R101). -/

namespace Sys2Proof.Machine

open Sys2Proof

/-! ### Keys -/

/-- R87: the number of bucket slots. -/
def staSlots : Nat := 524288

/-- R87: a MAC address at a place of a frame, its first byte in bits 47:40. -/
def macAt (bytes : List Byte) (off : Nat) : Nat := beNat (slice bytes off 6)

/-- R88: the bucket of a station key. -/
def staBucket (seed : Word) (bd mac : Nat) : Nat :=
  (crc32c seed (beBytes 2 bd ++ beBytes 6 mac)).toNat % 131072

/-- R102: the bucket of a neighbour key; `addr` is the target address of 4 or 16 bytes. -/
def nbrBucket (seed : Word) (bd : Nat) (addr : List Byte) : Nat :=
  (crc32c seed (beBytes 2 bd ++ slice addr 0 16)).toNat % 32768

/-- R88: TBL_STA_SEED. -/
def State.staSeed (s : State) : Word := s.rg .tblStaSeed

/-- R87: bits 31:30 of a word, LIFE. -/
def lifeOf (w : Word) : Nat := fld w 31 30

/-- R89: an entry of a life is visible to a parity, with the staging parity S. -/
def lifeSees (life : Nat) (par stg : Bool) : Bool :=
  life == 0 || (life == 1 && par == stg) || (life == 2 && par != stg)

/-- R87: BD of a station entry. -/
def staBd (e : List Word) : Nat := fld (wAt e 1) 29 16

/-- R87: MAC of a station entry. -/
def staMac (e : List Word) : Nat := (wAt e 0).toNat + fld (wAt e 1) 15 0 * 2 ^ 32

/-- R87: VALID of a station entry. -/
def staValid (e : List Word) : Bool := bit (wAt e 3) 31

/-- R87: a valid station entry of a key. -/
def staIs (bd mac : Nat) (e : List Word) : Bool := staValid e && staBd e == bd && staMac e == mac

/-! ### Reading -/

/-- A station entry of the master copy. -/
def State.sta (s : State) (key : Nat) : List Word := tget (fun _ => []) s.tbl.sta key

/-- A station entry of replica k. -/
def State.staR (s : State) (k key : Nat) : List Word := tget (fun _ => []) s.tbl.staR (k * 2 ^ 20 + key)

/-- R90: the slot of a bucket of replica k with a visible entry of the key. -/
def State.bucketHit (s : State) (k bd mac : Nat) (par : Bool) : Option Nat :=
  let b := staBucket s.staSeed bd mac
  (List.range 4).findSome? fun i =>
    let e := s.staR k (4 * b + i)
    if staIs bd mac e && lifeSees (lifeOf (wAt e 1)) par s.epc.s then some (4 * b + i) else none

/-- R90, R92: the overflow entry of replica k with a visible entry of the key. -/
def State.overflowHit (s : State) (k bd mac : Nat) (par : Bool) : Option Nat :=
  let lo := k * 2 ^ 20 + staSlots
  (s.tbl.staR.find? fun e =>
    lo ≤ e.1 && e.1 < lo + 16384 && staIs bd mac e.2 && lifeSees (lifeOf (wAt e.2 1)) par s.epc.s).map
    fun e => e.1 - k * 2 ^ 20

/-- The slots of the master copy that hold a key, with their lives. -/
def State.staFind (s : State) (bd mac : Nat) : List (Nat × Nat) :=
  (s.tbl.sta.filter fun e => staIs bd mac e.2).map fun e => (e.1, lifeOf (wAt e.2 1))

/-- R87: the first free number from `n` on, the ones in use given in rising order. -/
def firstGap : List Nat → Nat → Nat
  | [], n => n
  | k :: l, n => if k = n then firstGap l (n + 1) else if k < n then firstGap l n else n

/-- R87: the place of a new entry: the lowest free slot of its bucket, else of the overflow store. -/
def State.staRoom (s : State) (bd mac : Nat) : Option Nat :=
  let b := staBucket s.staSeed bd mac
  match (List.range 4).find? fun i => (s.sta (4 * b + i)).isEmpty with
  | some i => some (4 * b + i)
  | none =>
    let g := firstGap ((tkeys s.tbl.sta).filter fun k => staSlots ≤ k) staSlots
    if g < staSlots + 16384 then some g else none

/-! ### Writing every replica and copy (R196, R444) -/

/-- R444: a Pale group is woken for a write of the command unit. -/
def State.wakePg (s : State) (n : Nat) : State :=
  if (s.dmn (domPg n)).shade = .pale then s.wake (domPg n) else s

/-- R196, R375, R444: a change made in every replica; a replica whose groups both miss it turns stale, and
the groups with it (log entry 28). -/
def State.onReplicas (s : State) (f : Nat → Tables → Tables) : State :=
  (List.range (s.nGroups / 2)).foldl (fun st k =>
    if st.isLit (domPg (2 * k)) || st.isLit (domPg (2 * k + 1)) then
      let st := (st.wakePg (2 * k)).wakePg (2 * k + 1)
      { st with tbl := f k st.tbl }
    else
      let st := (st.setStale (2 * k)).setStale (2 * k + 1)
      if st.reload.replStale.contains k then st
      else { st with reload := { st.reload with replStale := st.reload.replStale ++ [k] } }) s

/-- R148, R196, R444: a change made in every port group; a group that misses it turns stale. -/
def State.onGroups (s : State) (f : Nat → Tables → Tables) : State :=
  (List.range s.nGroups).foldl (fun st n =>
    if st.isLit (domPg n) then
      let st := st.wakePg n
      { st with tbl := f n st.tbl }
    else st.setStale n) s

/-- R197: the last writer of an entry. -/
def State.tagOf (s : State) (table idx : Nat) : Nat := tget (fun _ => 3) s.tbl.tag (table * 2 ^ 21 + idx)

/-- R197: the last writer of an entry, written. -/
def State.setTag (s : State) (table idx who : Nat) : State :=
  { s with tbl := { s.tbl with tag := tset (fun _ => 3) s.tbl.tag (table * 2 ^ 21 + idx) who } }

/-- R87, R91, R196: a station entry written at a place of the master copy and of every replica; an
empty list removes it. An entry in the overflow store sets its bucket's SPILL flag. -/
def State.staPut (s : State) (key : Nat) (e : List Word) : State :=
  let sp := if staSlots ≤ key && ! e.isEmpty then
      tset (fun _ => false) s.tbl.spill (staBucket s.staSeed (staBd e) (staMac e)) true
    else s.tbl.spill
  let s : State := { s with tbl := { s.tbl with sta := tset (fun _ => []) s.tbl.sta key e, spill := sp } }
  s.onReplicas fun k t => { t with staR := tset (fun _ => []) t.staR (k * 2 ^ 20 + key) e }

/-- R87, R96: an entry's hit bit is set in every replica that its writing reaches. -/
def State.hitSet (s : State) (key : Nat) : State :=
  s.onReplicas fun k t => { t with hit := tset (fun _ => false) t.hit (k * 2 ^ 20 + key) true }

/-- R101: all four hit bits of an entry are cleared, a sleeping replica's too (log entry 80). -/
def State.hitClear (s : State) (key : Nat) : State :=
  { s with tbl := { s.tbl with hit := (List.range 4).foldl (fun t k => tset (fun _ => false) t (k * 2 ^ 20 + key) false) s.tbl.hit } }

/-- R101: the OR of an entry's hit bits. -/
def State.hitAny (s : State) (key : Nat) : Bool :=
  (List.range 4).any fun k => tget (fun _ => false) s.tbl.hit (k * 2 ^ 20 + key)

/-! ### Neighbour table (R102) -/

/-- A neighbour entry of the master copy, by its first unit. -/
def State.nbr (s : State) (key : Nat) : List Word := tget (fun _ => []) s.tbl.nbr key

/-- R102: an entry of 8 words is an IPv6 entry. -/
def nbrV6 (e : List Word) : Bool := e.length == 8

/-- R102: the word that holds LIFE and BD. -/
def nbrLifeWord (e : List Word) : Word := if nbrV6 e then wAt e 5 else wAt e 2

/-- R102: the address of an entry, its first byte first. -/
def nbrAddr (e : List Word) : List Byte :=
  if nbrV6 e then (List.range 4).flatMap fun i => beBytes 4 (wAt e i).toNat else beBytes 4 (wAt e 0).toNat

/-- R102: VALID of an entry. -/
def nbrValid (e : List Word) : Bool := bit (if nbrV6 e then wAt e 7 else wAt e 3) 31

/-- R102: a valid neighbour entry of a kind and key. -/
def nbrIs (v6 : Bool) (bd : Nat) (addr : List Byte) (e : List Word) : Bool :=
  nbrValid e && nbrV6 e == v6 && fld (nbrLifeWord e) 29 16 == bd && nbrAddr e == addr

/-- R102: the MAC of an entry. -/
def nbrMac (e : List Word) : Nat :=
  if nbrV6 e then (wAt e 4).toNat + fld (wAt e 5) 15 0 * 2 ^ 32
  else (wAt e 1).toNat + fld (wAt e 2) 15 0 * 2 ^ 32

/-- R102: word w of a unit: those of the entry that begins there, or the last four of the IPv6 entry that begins one
unit below. -/
def nbrUnitWord (t : Tab (List Word)) (u w : Nat) : Word :=
  let e := tget (fun _ => []) t u
  let below := tget (fun _ => []) t (u - 1)
  if e.isEmpty && u % 2 = 1 && nbrV6 below then wAt below (4 + w) else wAt e w

/-- The units of the master copy that begin an entry of a key, with their lives. -/
def State.nbrFind (s : State) (v6 : Bool) (bd : Nat) (addr : List Byte) : List (Nat × Nat) :=
  (s.tbl.nbr.filter fun e => nbrIs v6 bd addr e.2).map fun e => (e.1, lifeOf (nbrLifeWord e.2))

/-- R102: a unit of the master copy is free. -/
def State.nbrFree (s : State) (key : Nat) : Bool :=
  (s.nbr key).isEmpty && ! (key % 2 = 1 && nbrV6 (s.nbr (key - 1)))

/-- R102: the first unit of a new entry: the lowest free unit or pair of its bucket, which is the model's choice
(log entry 66). -/
def State.nbrRoom (s : State) (v6 : Bool) (bd : Nat) (addr : List Byte) : Option Nat :=
  let b := 4 * nbrBucket s.staSeed bd addr
  if v6 then
    ([b, b + 2]).find? fun k => s.nbrFree k && s.nbrFree (k + 1)
  else ((List.range 4).map fun i => b + i).find? s.nbrFree

/-- R196: a neighbour entry written in the master copy and in every replica; an empty list removes
it. -/
def State.nbrPut (s : State) (key : Nat) (e : List Word) : State :=
  let s : State := { s with tbl := { s.tbl with nbr := tset (fun _ => []) s.tbl.nbr key e } }
  s.onReplicas fun k t => { t with nbrR := tset (fun _ => []) t.nbrR (k * 2 ^ 18 + key) e }

/-- R103: the MAC that a neighbour lookup in replica k finds. -/
def State.nbrLookup (s : State) (k : Nat) (v6 : Bool) (bd : Nat) (addr : List Byte) (par : Bool) : Option Nat :=
  let b := 4 * nbrBucket s.staSeed bd addr
  (List.range 4).findSome? fun i =>
    let e := tget (fun _ => []) s.tbl.nbrR (k * 2 ^ 18 + b + i)
    if nbrIs v6 bd addr e && lifeSees (lifeOf (nbrLifeWord e)) par s.epc.s then some (nbrMac e) else none

/-! ### Copy tables (R169) -/

/-- An entry of the master copy. -/
def State.cpMaster (s : State) (table : Nat) (par : Bool) (idx : Nat) : List Word :=
  tget cpReset s.tbl.cp (cpKey table par idx)

/-- R169, R196: an entry of the copy of a parity written, in the master and in every group. -/
def State.cpPut (s : State) (table : Nat) (par : Bool) (idx : Nat) (e : List Word) : State :=
  let k := cpKey table par idx
  let e := padTo (cpWords table) e
  let s : State := { s with tbl := { s.tbl with cp := tset cpReset s.tbl.cp k e } }
  s.onGroups fun n t => { t with cpG := tset cpReset t.cpG (n * 2 ^ 22 + k) e }

/-- R161: the logical ports of a link aggregation entry, in list order. -/
def lagMembers (e : List Word) : List Nat :=
  (List.range (min 32 (fld (wAt e 0) 5 0))).map fun k => fld (wAt e (1 + k / 4)) (8 * (k % 4) + 7) (8 * (k % 4))

/-- R96: the link aggregation group of which a port is a member in a parity, as a group's copy has it. -/
def State.lagOf (s : State) (n : Nat) (par : Bool) (lp : Nat) : Option Nat :=
  let base := n * 2 ^ 22 + cpKey 6 par 0
  (s.tbl.cpG.find? fun e =>
    base ≤ e.1 && e.1 < base + 512 && bit (wAt e.2 0) 31 && (lagMembers e.2).contains lp).map
    fun e => e.1 - base

/-! ### Learning (R93-R99, R186) -/

/-- R94: COUNT of a port. -/
def State.lrnCount (s : State) (lp : Nat) : Nat := fld (s.rg .prsLrnStat (lp / 32) (lp % 32)) 15 0

/-- R94: COUNT of a port, changed. After a loss of the port group's domain it starts again at 0 while the port's
entries stay in the table, and a later removal of one lowers it no further than 0: the model's choice (log entry
85). -/
def State.lrnMove (s : State) (lp : Nat) (f : Nat → Nat) : State :=
  let w := s.rg .prsLrnStat (lp / 32) (lp % 32)
  s.setRg .prsLrnStat (lp / 32) (lp % 32) (setFld w 15 0 (f (fld w 15 0)))

/-- R94: COUNT of the port of a learned entry drops by one: the port whose notice placed it, else the
logical port it targets. -/
def State.lrnDrop (s : State) (key : Nat) (e : List Word) : State :=
  let p := tget (fun _ => 0) s.tbl.lrnPort key
  let s : State := { s with tbl := { s.tbl with lrnPort := tset (fun _ => 0) s.tbl.lrnPort key 0 } }
  if ! bit (wAt e 3) 29 then s
  else if p ≠ 0 then s.lrnMove (p - 1) (· - 1)
  else if fld (wAt e 2) 31 30 = 0 then s.lrnMove (fld (wAt e 2) 29 15 % 256) (· - 1)
  else s

/-- A station entry is removed from the master copy and every replica, with its COUNT. -/
def State.staRemove (s : State) (key : Nat) : State :=
  let e := s.sta key
  ((s.lrnDrop key e).staPut key []).hitClear key

/-- R96: word 2 of an entry learned from a port: its link aggregation group, or the port itself. -/
def lrnTarget (lport member : Nat) (lag : Option Nat) : Word :=
  (match lag with
   | some g => put 31 30 1 ||| put 29 15 g
   | none => put 29 15 lport) ||| put 11 0 member

/-- R99: the targets of two words 2 differ. -/
def tgtDiffers (a b : Word) : Bool := fld a 31 15 != fld b 31 15

/-- R97: a notice's key: bridge domain and MAC. -/
def noticeKey (bd mac : Nat) : Nat := bd * 2 ^ 48 + mac

/-- R97: a group has posted a key among its last 64 notices. A removal of the entry (R101) leaves the key
suppressed, DEDUCED from R97's plain words (log entry 66). -/
def State.suppressed (s : State) (n key : Nat) : Bool := (s.grp n).recent.contains key

/-- R97: a notice is posted, and COUNT advances, or it finds the queue full and is counted. -/
def State.postNotice (s : State) (x : Notice) : State :=
  if 256 ≤ (s.cu.notices.filter fun y => y.pg == x.pg).length then s.bump .prsLrnQfull x.pg 0
  else
    let g := s.grp x.pg
    let s := s.setGrp x.pg { g with recent := (x.key :: g.recent).take 64 }
    let s := s.lrnMove x.lport (· + 1)
    { s with cu := { s.cu with notices := s.cu.notices ++ [x] } }

/-- R98, R99: a notice meets an entry of its key: a learned one with another target is moved, else the
notice is discarded, and its COUNT with it. A notice of a new address is carried out as a move on a port
with MOVE 1 too: DEDUCED from R98 (log entry 66). -/
def State.meetEntry (s : State) (x : Notice) (key : Nat) : State :=
  let e := s.sta key
  let w2 := lrnTarget x.lport x.member x.lag
  if bit (wAt e 3) 29 && ! bit (wAt e 3) 30 && tgtDiffers (wAt e 2) w2 then
    let s := (s.lrnDrop key e).staPut key (setAt e 2 w2)
    let tbl := { s.tbl with lrnPort := tset (fun _ => 0) s.tbl.lrnPort key (x.lport + 1) }
    ({ s with tbl := tbl } : State).setTag 0 key 3
  else s.lrnMove x.lport (· - 1)

/-- R184, R189: the settle's or the abort's sweep has passed a station entry's place. -/
def State.staSwept (s : State) (key : Nat) : Bool :=
  (s.epc.st = .sweeping || s.epc.st = .aborting) && s.epc.sweepTabs.head? = some 0 && decide (key < s.epc.sweepPos)

/-- R98: a failed insertion: counted, COUNT is given back, and the key is no longer suppressed. -/
def State.learnFail (s : State) (x : Notice) : State :=
  let g := s.grp x.pg
  ((s.setGrp x.pg { g with recent := g.recent.filter (· != x.key) }).bump .tblStaInsFail 0 0).lrnMove x.lport (· - 1)

/-- R96, R98, R186, R189: a learned entry is inserted with a life, or the insertion fails. A FROM_NEXT entry
whose place a sweep has passed is at once what the sweep makes of it: ALWAYS, or removed (log entry 13). -/
def State.learnNew (s : State) (x : Notice) (life : Nat) : State :=
  let bd := x.key / 2 ^ 48
  let mac := x.key % 2 ^ 48
  match s.staRoom bd mac with
  | none => s.learnFail x
  | some key =>
    let late := life = 1 && s.staSwept key
    if late && s.epc.st = .aborting then s.lrnMove x.lport (· - 1)
    else
    let life := if late then 0 else life
    let e := [wd mac, put 31 30 life ||| put 29 16 bd ||| put 15 0 (mac / 2 ^ 32),
      lrnTarget x.lport x.member x.lag, flag 31 true ||| flag 29 true]
    let s := (s.staPut key e).hitSet key
    let tbl := { s.tbl with lrnPort := tset (fun _ => 0) s.tbl.lrnPort key (x.lport + 1) }
    ({ s with tbl := tbl } : State).setTag 0 key 3

/-- R98, R99, R186: a notice is served. A key's FROM_NEXT entry stands for the key, or the one that a
sweep made ALWAYS (log entry 13). -/
def State.serveNotice (s : State) (x : Notice) : State :=
  let l := s.staFind (x.key / 2 ^ 48) (x.key % 2 ^ 48)
  match (l.find? fun e => e.2 == 1) <|> (l.find? fun e => e.2 != 2) with
  | some e => s.meetEntry x e.1
  | none => s.learnNew x (if l.isEmpty then 0 else 1)

/-! ### Ageing (R100, R101) -/

/-- R91: a bucket's SPILL flag is cleared where no overflow entry carries the bucket's index. -/
def State.spillVisit (s : State) (b : Nat) : State :=
  if s.tbl.sta.any fun e => staSlots ≤ e.1 && staBucket s.staSeed (staBd e.2) (staMac e.2) == b then s
  else { s with tbl := { s.tbl with spill := tset (fun _ => false) s.tbl.spill b false } }

/-- R101: the sweep skips an entry. -/
def ageSkips (e : List Word) : Bool := ! staValid e || bit (wAt e 3) 30 || lifeOf (wAt e 1) != 0

/-- R101: an entry is to be removed by a visit. -/
def State.ageOut (s : State) (key : Nat) : Bool :=
  let e := s.sta key
  ! ageSkips e && ! s.hitAny key && bit (wAt e 3) 28

/-- R101: one visit of an entry. -/
def State.ageVisit (s : State) (key : Nat) : State :=
  let e := s.sta key
  if ageSkips e then s
  else if s.hitAny key then
    (if bit (wAt e 3) 28 then s.staPut key (setAt e 3 (wAt e 3 &&& ~~~ flag 28 true)) else s).hitClear key
  else if bit (wAt e 3) 28 then s.staRemove key
  else s.staPut key (setAt e 3 (wAt e 3 ||| flag 28 true))

/-- R100: AGE_PERIOD in ns. -/
def State.agePeriod (s : State) : Nat := max 1 (fld (s.rg .tblStaCfg) 31 16) * 1000000000

/-- R101: the sweep's next visit is due. -/
def State.ageDue (s : State) : Bool :=
  bit (s.rg .tblStaCfg) 0 && s.cu.ageAt + s.agePeriod / 540672 ≤ s.mono

/-- R101, R91: the sweep's next visit. -/
def State.ageStep (s : State) : State :=
  let key := s.cu.ageCursor
  let s : State := { s with cu := { s.cu with ageCursor := (key + 1) % 540672, ageAt := s.mono } }
  let s := s.ageVisit key
  if key < staSlots && key % 4 = 3 then s.spillVisit (key / 4) else s

/-! ### Meanings -/

/-- LEARN_INSERT (R96-R98, R186): the notice that arrived first is served. -/
def execLearnInsert (s : State) : Host.Outcome State Fault Refusal :=
  act (s.tblOn && ! s.cu.notices.isEmpty)
    (fun s =>
      match s.cu.notices with
      | [] => s
      | x :: l => ({ s with cu := { s.cu with notices := l } } : State).serveNotice x) s

/-- AGEING_VISIT (R101). -/
def execAgeingVisit (s : State) : Host.Outcome State Fault Refusal :=
  act (s.tblOn && s.ageDue) State.ageStep s

end Sys2Proof.Machine
end

