-- ==== Sys2Proof/Machine/Faults.lean ====
section
/-! DEFINITION. The fault collector's commands, scrubbing, sentinels, retirement, ageing and the online
tests (R342-R368). -/

namespace Sys2Proof.Machine

open Sys2Proof

/-! ### Engines and rates (R36, R358, R363, R364) -/

/-- R363: an engine has been retired. -/
def State.isRetired (s : State) (c e : Nat) : Bool :=
  (tget (fun _ => (0 : BitVec 17)) s.flt.retired c).getLsbD e

/-- R109, R358, R360: the engines of a cluster that receive dispatch: not retired, not the sentinel,
not draining for a rotation. -/
def State.activeEngines (s : State) (c : Nat) : List Nat :=
  (List.range 17).filter fun e =>
    ! s.isRetired c e && e ≠ (s.clu c).sentinel && (s.clu c).rotating ≠ some e

/-- R139: HEALTHY. -/
def State.healthy (s : State) (c : Nat) : Nat := (s.activeEngines c).length

/-- R358, R360, R364: HEALTHY as it stands once a spare that is to be taken or a rotation that is under way has
come to its end. -/
def State.settled (s : State) (c : Nat) : Nat :=
  s.healthy c + b2n (s.clu c).spareDue.isSome + b2n (s.clu c).rotating.isSome

/-- R36, R364: E of a group, over its admitted clusters. -/
def State.groupE (s : State) (n : Nat) : Nat :=
  ((groupClusters n).filter s.admits).foldl (fun a c => a + s.healthy c) 0

/-- R364: E of a group with every cluster counted as admitted, as a retirement leaves it. -/
def State.groupAll (s : State) (n : Nat) : Nat := (groupClusters n).foldl (fun a c => a + s.settled c) 0

/-- R36: the line-rate frame size for E engines; 0xFFFF when E is 0 (R364). -/
def lineRateSize (e : Nat) : Nat :=
  if e = 0 then 0xFFFF
  else if 126 ≤ e then 158
  else (22400 + e - 1) / e - 20

/-- R358, R360, R364: an engine of a cluster is retired for a cause. The loss of the sentinel itself ends a rotation, and
there is no spare left to take: every engine that is not retired is active (R363). -/
def State.retire (s : State) (c e cause : Nat) : State :=
  if s.isRetired c e then s
  else
    let n := c / 8
    let old := tget (fun _ => (0 : BitVec 17)) s.flt.retired c
    let s : State := { s with flt := { s.flt with retired := tset (fun _ => 0) s.flt.retired c (old ||| BitVec.ofNat 17 (2 ^ e)) } }
    let x := s.clu c
    let x := if x.rotating = some e then { x with rotating := none } else x
    let s := s.setClu c x
    let s := if x.sentinel = e then (s.dropSamples c).setClu c { (s.dropSamples c).clu c with sentinel := 31, rotating := none, spareDue := none }
      else if x.sentinel < 17 then s.setClu c { x with spareDue := some e }
      else s
    let s := s.raise { src := 56 + n, cls := .orange, code := 8, info := infoCET c e 0 cause }
    let sz := lineRateSize (s.groupAll n)
    if 160 < sz then s.raise { src := 56 + n, cls := .orange, code := 0x0B, info := put 26 24 n ||| put 15 0 sz }
    else s

/-- R363: a write of FLT_RETIREc. -/
def State.writeRetire (s : State) (c : Nat) (v : Word) : State :=
  (List.range 17).foldl (fun st e => if bit v e then st.retire c e 4 else st) s

/-- R358, R360: a thread of an engine still has work; one halted in IDLE (log entry 52) has none. -/
def State.engineBusy (s : State) (c e : Nat) : Bool :=
  (s.cluThreads c).any fun k => k / 8 % 17 == e && (s.thr k).works

/-- R359: a checker fault stops the sentinel; no engine is retired. -/
def State.checkerFault (s : State) (c step : Nat) : State :=
  let s := (s.dropSamples c).setClu c { (s.dropSamples c).clu c with checker := true }
  s.raise { src := 64 + c / 8, cls := .orange, code := 0x0A, info := infoCET c 0 0 (step % 16) }

/-- R362: EN of NEC_SENT_CFG. -/
def State.sentEn (s : State) (c : Nat) : Bool := bit (s.rg .necSentCfg c) 31

/-- R362: NEC_STAT.UNVERIFIED. -/
def State.unverified (s : State) (c : Nat) : Bool :=
  ! s.sentEn c || (s.clu c).checker || 17 ≤ (s.clu c).sentinel

/-- R358: the spare takes the place of a retired engine. -/
def State.takeSpare (s : State) (c : Nat) : State :=
  let s := s.dropSamples c
  let x := s.clu c
  let s := s.setClu c { x with sentinel := 31, spareUsed := true, spareDue := none, rotating := none }
  s.raise { src := 56 + c / 8, cls := .orange, code := 9, info := infoCET c x.sentinel 0 0 }

/-- R359: a self-test of the sentinel, with the step that failed, if one did. -/
def State.selfTest (s : State) (c : Nat) (fail : Option Nat) (resume : Bool) : State :=
  let s := s.setClu c { s.clu c with rearm := false }
  match fail with
  | some k => s.checkerFault c k
  | none =>
    let x := s.clu c
    s.setClu c { x with selfTest := true, checker := if resume then false else x.checker }

/-- R400: a thread of the cluster's spare is halted. -/
def State.spareHalted (s : State) (c : Nat) : Bool :=
  (s.cluThreads c).any fun k => k / 8 % 17 == (s.clu c).sentinel && (s.thr k).st = .halted

/-- R359, R362, R400: a write of NEC_SENT_CFG; the self-test of REARM waits for a halted spare. -/
def State.writeSentCfg (s : State) (c : Nat) (v : Word) (fail : Option Nat) : State :=
  let s := s.setRg .necSentCfg c 0 (v &&& 0x800F001F)
  if ! bit v 30 || 17 ≤ (s.clu c).sentinel then s
  else if s.spareHalted c then s.setClu c { s.clu c with rearm := true }
  else s.selfTest c fail true

/-- R360: the next engine in cyclic order from the sentinel that is not retired. -/
def State.nextSentinel (s : State) (c : Nat) : Option Nat :=
  let k := (s.clu c).sentinel
  (List.range 16).findSome? fun i =>
    let e := (k + 1 + i) % 17
    if s.isRetired c e then none else some e

/-! ### Digests (R263, R268) -/

/-- R263: a sentinel's entry, where TEL_DIG_CFG asks for it. -/
def State.sentEntry (s : State) (digest sent : Word) (kind : Nat) (x : Sample) (c : Nat) : State :=
  let cfg := s.rg .telDigCfg
  if bit cfg 31 && (! bit cfg 30 || kind ≠ 1) then s.digestEntry digest sent kind x.stamp c x.engine x.thread
  else s

/-- R355: a delay-register set. -/
def State.sample (s : State) (c i : Nat) : Option Sample :=
  ((s.clu c).samples.find? fun e => e.1 == i).map Prod.snd

/-- A delay-register set written, or freed. -/
def State.setSample (s : State) (c i : Nat) (x : Option Sample) : State :=
  let y := s.clu c
  let l := tdel y.samples i
  s.setClu c { y with samples := match x with | some v => tins l i v | none => l }

/-- R356: the comparator compares the two digests of a sample. -/
def State.compareDigest (s : State) (c i : Nat) (x : Sample) : State :=
  if x.void then ((s.setSample c i none).endReruns c (· == i)).bump .necSentSkipped c 0
  else
    match x.p1, x.s1 with
    | some p, some d =>
      if p = d then (s.sentEntry p d 1 x c).setSample c i none
      else ((s.sentEntry p d 2 x c).pmcCluster c 6).setSample c i (some { x with recheck := true })
    | _, _ => s

/-! ### Control stores (R122, R354) -/

/-- The key of a microword. -/
def csKey (c slot addr : Nat) : Nat := (c * 2 + slot) * 16384 + addr

/-- R122: the parity bits of a stored microword check. -/
def parityOk (w : BitVec 144) : Bool :=
  (List.range 8).all fun k =>
    let n := (List.range 17).foldl (fun a i => a + b2n (w.getLsbD (17 * k + i))) 0
    n % 2 == b2n (w.getLsbD (136 + k))

/-- A microword as stored. -/
def State.cword (s : State) (c slot addr : Nat) : BitVec 144 := tget (fun _ => 0) s.cstore (csKey c slot addr)

/-- A microword written. -/
def State.setCword (s : State) (c slot addr : Nat) (w : BitVec 144) : State :=
  { s with cstore := tset (fun _ => 0) s.cstore (csKey c slot addr) w }

/-- An image slot of a cluster. -/
def State.slot (s : State) (c i : Nat) : Slot := ((s.clu c).slots[i]?).getD {}

/-- R354: a partner: another cluster whose slot was written by the same load and is still valid, and
whose word is good. -/
def State.partner (s : State) (c slot addr : Nat) : Option Nat :=
  let l := (s.slot c slot).load
  (List.range 64).find? fun d =>
    d ≠ c && l ≠ 0 && (s.slot d slot).load == l && (s.slot d slot).valid && parityOk (s.cword d slot addr)

/-- R354: a microword found bad is rewritten from a partner, or the image must be loaded again. -/
def State.csRepair (s : State) (c slot addr : Nat) : State :=
  if parityOk (s.cword c slot addr) then s
  else
    match s.partner c slot addr with
    | some d =>
      (s.setCword c slot addr (s.cword d slot addr)).raise { src := 56 + c / 8, cls := .blue, code := 6, info := infoCET c 0 0 addr }
    | none => s.raise { src := 56 + c / 8, cls := .orange, code := 2, info := infoCET c 0 0 addr }

/-- R354, R364: after a PARITY machine check the address is reread: a bad word is repaired, an intact one
charges the engine, and MC_LIMIT charges in one window retire it. -/
def State.afterParity (s : State) (c e slot addr : Nat) : State :=
  if parityOk (s.cword c slot addr) then
    let x := s.clu c
    let n := tget (fun _ => 0) x.pcharge e + 1
    let s := s.setClu c { x with pcharge := tset (fun _ => 0) x.pcharge e n }
    let lim := fld (s.rg .necSentCfg c) 19 16
    if lim ≠ 0 && lim ≤ n then s.retire c e 2 else s
  else s.csRepair c slot addr

/-! ### History memory (R350, R352) -/

/-- R351, R352: the history memory fails at a word. -/
def State.histFail (s : State) (idx : Nat) : State :=
  if s.flt.lost then s
  else
    let s := s.orRg .fltStatus3 0 0 (flag 31 true)
    let s := s.bump .histLostcnt 0 0 s.flt.hist.length
    let s : State := { s with flt := { s.flt with lost := true, hist := [] } }
    s.raise { src := 0, cls := .orange, code := 2, info := put 23 0 idx }

/-- R350, R352: the record that the FLT_HIST_ registers show, the flip-flop record with FALLBACK 1. -/
def State.histRec (s : State) : Option HistRec :=
  if s.flt.lost then s.flt.flop.map fun r => { r with head := r.head ||| flag 30 true } else s.flt.hist.head?

/-- R350: the head record leaves. -/
def State.histPop (s : State) : State :=
  if s.flt.lost then { s with flt := { s.flt with flop := none } }
  else { s with flt := { s.flt with hist := s.flt.hist.drop 1 } }

/-- R284, R349, R352: a write of FLT_STATUS3; the class sources that it leaves active rise. -/
def State.writeStatus3 (s : State) (v : Word) : State :=
  let s := [82, 83, 84].foldl State.reRise s
  let s := s.setRg .fltStatus3 0 0 (s.rg .fltStatus3 &&& ~~~ (v &&& 0x80070000))
  if bit v 31 && s.flt.lost then
    { s with flt := { s.flt with lost := false, hist := s.flt.flop.toList, flop := none } }
  else s

/-! ### Scrubbing (R353) -/

/-- R348, R353: the fault source of a memory. -/
def sramSource (m : Sram) : Nat :=
  match m with
  | .buffer q => 20 + q
  | .holding n => 32 + n
  | .descriptor => 24
  | .station k => 16 + k
  | .neighbour k => 16 + k
  | .treeMem c => 72 + c / 8
  | .copyTab n => 32 + n
  | .repList => 25
  | .masters => 11
  | .scratch c => 72 + c / 8
  | .queueState n => 40 + n
  | .history => 0
  | .pipeState n => 32 + n
  | .ringMem => 10
  | .telemetryMem => 27
  | .hostIf h => 8 + h

/-- R351: INFO of a memory's event. -/
def sramInfo (m : Sram) (idx : Nat) : Word :=
  match m with
  | .treeMem c => put 29 24 c ||| put 15 0 idx
  | .scratch c => put 29 24 c ||| put 15 0 idx
  | _ => put 23 0 idx

/-- R369: the domain that holds a memory. -/
def sramDomain (m : Sram) : Nat :=
  match m with
  | .buffer q => 22 + q
  | .holding n => 6 + n
  | .descriptor => 22
  | .station k => 6 + 2 * k
  | .neighbour k => 6 + 2 * k
  | .treeMem c => 6 + c / 8
  | .copyTab n => 6 + n
  | .repList => 4
  | .masters => 4
  | .scratch c => 6 + c / 8
  | .queueState n => 6 + n
  | .history => 0
  | .pipeState n => 6 + n
  | .ringMem => 2
  | .telemetryMem => 5
  | .hostIf _ => 1

/-- R353: a replica's memory is scrubbed while either of its groups is Active. -/
def State.sramOn (s : State) (m : Sram) : Bool :=
  let d := sramDomain m
  match m with
  | .station _ => s.isActive d || s.isActive (d + 1)
  | .neighbour _ => s.isActive d || s.isActive (d + 1)
  | _ => s.isActive d

/-- R353: the frame in a held buffer keeps its uncorrectable word. -/
def State.markBuf (s : State) (q idx : Nat) : State :=
  let cell := q * 64 * 4096 + idx / 32
  match s.buf.bufs.find? fun e => e.1 ≤ cell && cell < e.1 + poolCells e.2.pool with
  | some (b, x) => s.setBuf b { x with ecc := true }
  | none => s

/-- R353: the frame in a held place of a group's holding store is to be dropped with HOLD_ECC at its buffer
write. Which frame a word belongs to is the device's affair: the words are taken to run through the frames
held, in order of arrival (log entry 70). -/
def State.markHold (s : State) (n idx : Nat) : State :=
  let ks := (s.pkts.filter fun e => e.2.stamp.lport / 32 == n && 0 < e.2.units).map Prod.fst
  match ks[idx % max 1 ks.length]? with
  | some k => s.setPkt k { s.pkt k with holdEcc := true }
  | none => s

/-- R353: one entry of a group's queue, shaper and policer state is reset: a queue's deficit and its grant, or
a bucket (log entry 9 numbers the entries). -/
def State.resetQueueState (s : State) (n idx : Nat) : State :=
  if idx < 320 then
    let q := 320 * n + idx
    let drop_ (st : State) (lvl : Nat) : State := if st.grantOf (q / 10) lvl = some q then st.setGrant (q / 10) lvl none else st
    [0, 1].foldl drop_ (s.setDeficit q 0)
  else if idx < 672 then
    let k := if idx < 640 then 320 * n + (idx - 320) else 2560 + 32 * n + (idx - 640)
    { s with sched := { s.sched with shp := tmod (fun _ => ({} : Bucket)) s.sched.shp k Bucket.full } }
  else if s.polIn n (idx - 672) then
    { s with sched := { s.sched with pol := tmod (fun _ => ({} : Bucket)) s.sched.pol (idx - 672) Bucket.full } }
  else s

/-- R353: an Active replica or copy holds what a word of the master copies holds. The station and neighbour
entries come first in their numbering, then what every group has a copy of (log entry 9); an Active group
that is not stale holds it, and for the former its replica must hold it too. -/
def State.masterHeld (s : State) (idx : Nat) : Bool :=
  (List.range s.nGroups).any fun n =>
    s.isActive (domPg n) &&
      (if idx < 671744 then ! s.reload.replStale.contains (n / 2) && ! s.reload.replEmpty.contains (n / 2)
       else ! s.reload.stale.contains n)

/-- R353: an uncorrectable word: what is repaired, and the event that is raised. -/
def State.sramBad (s : State) (m : Sram) (idx : Nat) : State :=
  let src := sramSource m
  let info := sramInfo m idx
  let ev (c : FClass) (code : Nat) : FaultEv := { src := src, cls := c, code := code, info := info }
  match m with
  | .buffer q => (s.markBuf q idx).raise (ev .blue 2)
  | .holding n => (s.markHold n idx).raise (ev .blue 2)
  | .descriptor => s.raise (ev .crimson 2)
  | .station k =>
    let t := { s.tbl with staR := tset (fun _ => []) s.tbl.staR (k * 2 ^ 20 + idx) (tget (fun _ => []) s.tbl.sta idx) }
    ({ s with tbl := t } : State).raise (ev .blue 3)
  | .neighbour k =>
    let t := { s.tbl with nbrR := tset (fun _ => []) s.tbl.nbrR (k * 2 ^ 18 + idx) (tget (fun _ => []) s.tbl.nbr idx) }
    ({ s with tbl := t } : State).raise (ev .blue 3)
  | .treeMem c =>
    let t := { s.tbl with treeG := tset (fun _ => []) s.tbl.treeG (c / 8 * 65536 + idx) (tget (fun _ => []) s.tbl.tree idx) }
    ({ s with tbl := t } : State).raise (ev .blue 3)
  | .copyTab n =>
    let t := { s.tbl with cpG := tset cpReset s.tbl.cpG (n * 2 ^ 22 + idx) (tget cpReset s.tbl.cp idx) }
    ({ s with tbl := t } : State).raise (ev .blue 3)
  | .repList => s.raise (ev .blue 3)
  | .masters =>
    if s.masterHeld idx then s.raise (ev .blue 3)
    else s.raise (ev .crimson 2)
  | .scratch c =>
    let x := s.clu c
    (s.setClu c { x with scratch := tset (fun _ => 0) x.scratch idx 0 }).raise (ev .orange 2)
  | .queueState n => (s.resetQueueState n idx).raise (ev .orange 2)
  | .history => s.histFail idx
  | .pipeState _ => s.raise (ev .crimson 2)
  | .ringMem => s.raise (ev .orange 2)
  | .telemetryMem => s.raise (ev .orange 2)
  | .hostIf _ => s.raise (ev .orange 2)

/-- R353: the scrub reads one ECC word. -/
def State.scrub (s : State) (m : Sram) (idx : Nat) (ecc : EccResult) : State :=
  match ecc with
  | .good => s
  | .corrected =>
    match m with
    | .hostIf _ => s
    | _ => s.raise { src := sramSource m, cls := .blue, code := 1, info := sramInfo m idx }
  | .uncorrectable => s.sramBad m idx

/-! ### Online tests, quadrants, ageing -/

/-- R139: NEC_STAT.DRAINED. -/
def State.cluDrained (s : State) (c : Nat) : Bool := ! s.admits c && s.busy c == 0 && s.sbEmpty c

/-- R367: FLT_TEST as it reads. -/
def State.testWord (s : State) : Word :=
  flag 31 s.flt.testGo ||| put 30 29 s.flt.testRes ||| (s.rg .fltTest &&& 0x0300003F)

/-- R367: the precondition of a test. -/
def State.testPre (s : State) (kind idx : Nat) : Bool :=
  match kind with
  | 0 => idx < s.nClusters && s.cluDrained idx
  | 1 => idx < s.nGroups && s.isActive (domPg idx) && (groupPorts idx).all fun lp => (s.port lp).st = .disabled
  | 2 => idx < 4 && s.drained idx
  | _ => false

/-- R367: a write of FLT_TEST. -/
def State.writeTest (s : State) (v : Word) : State :=
  if s.flt.testGo then s
  else
    let s := s.setRg .fltTest 0 0 (v &&& 0x0300003F)
    if bit v 31 then
      let kind := fld v 25 24
      let idx := fld v 5 0
      if s.testPre kind idx then
        { s with flt := { s.flt with testGo := true, testRes := 0, testAt := s.mono } }
      else { s with flt := { s.flt with testRes := 3 } }
    else s

/-- R367: the duration of a test in ns. -/
def testTime (kind : Nat) : Nat :=
  match kind with
  | 0 => 2000000
  | 1 => 40000000
  | _ => 90000000

/-- R367: a test ends. -/
def State.testEnd (s : State) (failed : Bool) (engines : BitVec 17) (checker : Bool) : State :=
  let w := s.rg .fltTest
  let kind := fld w 25 24
  let idx := fld w 5 0
  let bad := if kind = 0 then engines ≠ 0 || checker else failed
  let s : State := { s with flt := { s.flt with testGo := false, testRes := if bad then 2 else 1 } }
  if ! bad then s
  else
    let src := if kind = 0 then 56 + idx / 8 else if kind = 1 then 32 + idx else 20 + idx
    let s := s.raise { src := src, cls := .orange, code := 0x12, info := s.testWord }
    if kind = 0 then
      let s := (List.range 17).foldl (fun st e => if engines.getLsbD e then st.retire idx e 3 else st) s
      if checker then s.checkerFault idx 0 else s
    else if kind = 1 then (s.isoUnit (32 + idx) 0x12 0).isoUnit (40 + idx) 0x12 0
    else s

/-- R226: the number of bits set. -/
def popCount (n : Nat) (v : Word) : Nat := ((List.range n).filter fun i => bit v i).length

/-- R226: a write of BUF_QUAD_CTL; one that would set a second OFFLINE bit is ignored. -/
def State.writeQuad (s : State) (v : Word) : State :=
  let new := (List.range 4).filter fun i => bit v i
  let adds := new.any fun i => ! s.buf.offline.contains i
  if adds && 2 ≤ new.length then s
  else ({ s with buf := { s.buf with offline := new } } : State).poolSteps

/-- R365: a monitor's drift has been measured. -/
def State.measureAge (s : State) (m : Nat) (drift : BitVec 16) : State :=
  let cfg := s.rg .fltAgeCfg
  let f := { s.flt with drift := tset (fun _ => 0) s.flt.drift m drift }
  let warn := fld cfg 31 16 ≤ drift.toNat && ! f.warned.contains m
  let alarm := fld cfg 15 0 ≤ drift.toNat && ! f.alarmed.contains m
  let f := { f with warned := if warn then f.warned ++ [m] else f.warned, alarmed := if alarm then f.alarmed ++ [m] else f.alarmed }
  let info := put 4 0 m ||| put 31 16 drift.toNat
  let s : State := { s with flt := f }
  let s := if warn then s.raise { src := 6, cls := .blue, code := 0x0F, info := info } else s
  if alarm then s.raise { src := 6, cls := .orange, code := 0x10, info := info } else s

/-- R365: the domains that a monitor covers are Active. -/
def State.monitorOn (s : State) (m : Nat) : Bool :=
  if m < 8 then s.isActive (domPg m)
  else if m < 16 then s.isActive (domPg (m - 8))
  else if m = 16 then s.isActive 22 || s.isActive 23
  else if m = 17 then s.isActive 24 || s.isActive 25
  else true

/-! ### Meanings -/

/-- FAULT_WINDOW_END (R347, R364): at a multiple of WINDOW of device time, or once one has been passed. The collector
works while the device is frozen (R24), until the clocks stop. -/
def execFaultWindowEnd (s : State) : Host.Outcome State Fault Refusal :=
  let w := max 1 (fld (s.rg .fltCfg) 15 0) * 1000000000
  act (s.regOn && (s.now % w = 0 || s.now / w ≠ s.flt.winStart / w))
    (fun s => { s with
      flt := { s.flt with blue := [], winStart := s.now },
      clusters := s.clusters.map fun e => (e.1, { e.2 with pcharge := [] }) }) s

/-- HISTORY_LOST (R352): a write of FLT_STATUS3. -/
def execHistoryLost (_r : Req) (v : Word) (s : State) : Host.Outcome State Fault Refusal :=
  act s.regOn (fun s => s.writeStatus3 v) s

/-- HISTORY_POP (R350, R352): a read of FLT_HIST_HEAD; the value of a read that fails is a free value, and
so is the number of the memory word that its event names.
While the device is frozen a read acts as a peek (R395). -/
def execHistoryPop (r : Req) (ecc : Bool) (s : State) : Host.Outcome State Fault Refusal :=
  act true (fun s =>
    if ! s.live then s.emit (.readData r ((s.histRec.map HistRec.head).getD 0))
    else if ecc && ! s.flt.lost && ! s.flt.hist.isEmpty then
      let v := s.fresh
      let w := v.2.fresh
      (w.2.histFail w.1.toNat).emit (.readData r v.1)
    else (s.emit (.readData r ((s.histRec.map HistRec.head).getD 0))).histPop) s

/-- SRAM_SCRUB (R353): that of the collector's own memory goes on while the device is frozen (R24), until the clocks
stop. -/
def execSramScrub (m : Sram) (idx : Nat) (ecc : EccResult) (s : State) : Host.Outcome State Fault Refusal :=
  act ((if m = .history then s.regOn else s.live) && s.sramOn m) (fun s => s.scrub m idx ecc) s

/-- CONTROL_STORE_SCRUB (R354): `upset` flips bits of the stored word before the check. -/
def execControlStoreScrub (c : Fin 64) (slot : Fin 2) (addr : Fin 16384) (upset : BitVec 144) (s : State) :
    Host.Outcome State Fault Refusal :=
  act (s.cluOn c)
    (fun s => (s.setCword c slot addr (s.cword c slot addr ^^^ upset)).csRepair c slot addr) s

/-- AGEING_MEASURE (R365): the collector works while the device is frozen (R24), until the clocks stop. -/
def execAgeingMeasure (m : Fin 20) (drift : BitVec 16) (s : State) : Host.Outcome State Fault Refusal :=
  act (s.regOn && s.monitorOn m) (fun s => s.measureAge m drift) s

/-- ONLINE_TEST_START (R367): a write of FLT_TEST. The collector works while the device is frozen (R24), until the
clocks stop. -/
def execOnlineTestStart (_r : Req) (v : Word) (s : State) : Host.Outcome State Fault Refusal :=
  act s.regOn (fun s => s.writeTest v) s

/-- ONLINE_TEST_END (R367), while the device is frozen too (R24), until the clocks stop. -/
def execOnlineTestEnd (failed : Bool) (engines : BitVec 17) (checker : Bool) (s : State) :
    Host.Outcome State Fault Refusal :=
  act (s.regOn && s.flt.testGo && decide (s.flt.testAt + testTime (fld (s.rg .fltTest) 25 24) ≤ s.mono))
    (fun s => s.testEnd failed engines checker) s

/-- QUADRANT_OFFLINE (R226): a write of BUF_QUAD_CTL. -/
def execQuadrantOffline (_r : Req) (v : Word) (s : State) : Host.Outcome State Fault Refusal :=
  act s.regOn (fun s => s.writeQuad v) s

/-- DIGEST_COMPARE (R356). -/
def execDigestCompare (c : Fin 64) (set : Fin 8) (s : State) : Host.Outcome State Fault Refusal :=
  act (s.cluOn c && ((s.sample c set).any fun x => ! x.recheck && (x.void || (x.p1.isSome && x.s1.isSome))))
    (fun s =>
      match s.sample c set with
      | some x => s.compareDigest c set x
      | none => s) s

/-- SPARE_TAKEN (R358): once the retired engine's threads are done. -/
def execSpareTaken (c : Fin 64) (s : State) : Host.Outcome State Fault Refusal :=
  act (s.cluOn c && (s.clu c).sentinel < 17 && (s.clu c).spareDue.any fun e => ! s.engineBusy c e)
    (fun s => s.takeSpare c) s

/-- KNOWN_ANSWER_SELF_TEST (R359, R400): not while the spare is halted; the test that a REARM has asked for
resumes the sentinel when it passes. -/
def execKnownAnswerSelfTest (c : Fin 64) (fail : Option (Fin 16)) (s : State) : Host.Outcome State Fault Refusal :=
  let x := s.clu c
  act (s.cluOn c && x.sentinel < 17 && (x.rearm || (s.sentEn c && ! x.checker)) && ! s.spareHalted c)
    (fun s => s.selfTest c (fail.map Fin.val) (s.clu c).rearm) s

/-- REARM (R359, R362): a write of NEC_SENT_CFG. -/
def execRearm (r : Req) (c : Fin 64) (v : Word) (fail : Option (Fin 16)) (s : State) :
    Host.Outcome State Fault Refusal :=
  act s.regOn (fun s => s.access r (domPg (c / 8)) fun s => s.writeSentCfg c v (fail.map Fin.val)) s

/-- SENTINEL_ROTATION (R360): at the cluster's daily time. -/
def execSentinelRotation (c : Fin 64) (s : State) : Host.Outcome State Fault Refusal :=
  let x := s.clu c
  act (s.cluOn c && x.sentinel < 17 && ! x.spareUsed && x.spareDue.isNone && ! x.checker && x.rotating.isNone &&
      s.now % 86400000000000 = c * 1350000000000)
    (fun s =>
      match s.nextSentinel c with
      | some e => s.setClu c { s.clu c with rotating := some e }
      | none => s) s

/-- ROTATION_COMPLETE (R360): once the draining engine's threads are done. -/
def execRotationComplete (c : Fin 64) (s : State) : Host.Outcome State Fault Refusal :=
  act (s.cluOn c && (s.clu c).sentinel < 17 && (s.clu c).rotating.any fun e => ! s.engineBusy c e)
    (fun s =>
      match (s.clu c).rotating with
      | some e => s.setClu c { s.clu c with sentinel := e, rotating := none, selfTest := false }
      | none => s) s

/-- RETIRE_WRITE (R363): a write of FLT_RETIREc. -/
def execRetireWrite (_r : Req) (c : Fin 64) (v : Word) (s : State) : Host.Outcome State Fault Refusal :=
  act (s.regOn && c.val < s.nClusters) (fun s => s.writeRetire c v) s

/-- BRIDGE_LANE (R348, source 28): the collector takes the event while the device is frozen too (R24), until the clocks
stop. -/
def execBridgeLane (ev : BridgeEvent) (detail : Word) (s : State) : Host.Outcome State Fault Refusal :=
  act s.regOn (fun s =>
    match ev with
    | .retry => s.raise { src := 28, cls := .blue, code := 0x18, info := detail }
    | .lane => s.raise { src := 28, cls := .orange, code := 0x19, info := detail }
    | .uncorrectable => s.raise { src := 28, cls := .crimson, code := 2, info := detail }) s

/-- R381, R431: the chiplets that a lost SerDes reference or a failed calibration affects. -/
def State.sxAffected (s : State) (sx : Nat) (refLost : Bool) : List Nat :=
  if refLost && s.straps.refsel then (List.range s.nGroups).filter fun n => sx == 0 && s.isActive (domSx n)
  else [sx].filter fun n => s.isActive (domSx n)

/-- SERDES_CAL (R431, R348): a reference that stops is an event where it has a consumer that is Active; whether it is
present is measured from then on (R418). INFO is the lane word of the block: the chiplet's number, which is the model's
choice (log entry 82). -/
def execSerdesCal (sx : Fin 8) (refLost : Bool) (s : State) : Host.Outcome State Fault Refusal :=
  act (s.regOn && (refLost || ! (s.sxAffected sx refLost).isEmpty)) (fun s =>
    let clk := if refLost then { s.clk with sxRef := s.clk.sxRef &&& ~~~ (BitVec.ofNat 8 (2 ^ sx.val)) } else s.clk
    let l := s.sxAffected sx refLost
    let s : State := { s with clk := clk }
    let s := l.foldl (fun st n => st.raise { src := 48 + n, cls := .orange, code := 0x1D, info := wd n }) s
    l.foldl State.sxDown s) s

end Sys2Proof.Machine
end

