-- ==== Sys2Proof/Machine/Verdict.lean ====
section
/-! DEFINITION. The verdict (R156-R159), target resolution and link aggregation (R160-R162), the
rewrite of the egress pipe (R164-R166), and ARP and ND frames: their classes (R104, R168) and the
answers to them (R105). -/

namespace Sys2Proof.Machine

open Sys2Proof

/-! ### The verdict at dispatch (R156) -/

/-- R156: the default hash of a key under a seed. -/
def lagHash (seed : Word) (key : List Byte) : Nat := (crc32c seed (slice key 0 64)).toNat % 65536

/-- R163: the link aggregation seed of a parity. -/
def State.lagSeed (s : State) (par : Bool) : Word := if par then s.epc.seedA else s.epc.seedC

/-- R156: the verdict at dispatch. -/
def State.verdict0 (s : State) (p : Pkt) : List Word :=
  [put 17 16 3, put 11 0 p.stamp.member, put 15 0 (lagHash (s.lagSeed p.stamp.epoch) p.key), 0, 0, 0, 0]

/-- R158: VD_OP punt. -/
def vdPunt (v : List Word) (hq : Nat) : List Word := vdSet (vdSet v 0 2) 2 hq

/-! ### ARP and ND frames (R104, R105, R168) -/

/-- R104: what a frame of a neighbour profile is. -/
inductive NdKind where
  | request | probe | other
  deriving DecidableEq, Repr

/-- R81: NBR_MODE of a profile. -/
def prNbrMode (pr : List Word) : Nat := fld (wAt pr 0) 25 24

/-- R81: NBR_OFF of a profile. -/
def prNbrOff (pr : List Word) : Nat := fld (wAt pr 1) 7 0

/-- R104, R168: the class of a frame under a profile; `bytes` is the frame with its FCS. The parse length
covers the opcode and sender address, or the type and source; bytes beyond it are no bytes of the target
(log entry 66). -/
def ndKind (pr : List Word) (bytes : List Byte) : NdKind :=
  let off := prNbrOff pr
  let body := bytes.take (bytes.length - 4)
  let n := body.length
  if prNbrMode pr = 1 then
    if off < 18 || n + 6 < off then .other
    else if be16 body (off - 18) ≠ 1 then .other
    else if (body.drop (off - 10)).take 4 = (body.drop off).take 4 then .probe
    else .request
  else if prNbrMode pr = 2 then
    if off < 40 || n + 7 < off then .other
    else if (bAt body (off - 8)).toNat ≠ 135 then .other
    else if beNat (slice body (off - 40) 16) = 0 then .probe
    else .request
  else .other

/-- Bytes of a frame replaced from an offset on. -/
def patch (l : List Byte) (off : Nat) (new_ : List Byte) : List Byte :=
  l.take off ++ new_ ++ l.drop (off + new_.length)

/-- R47: a frame without FCS, with its FCS added. -/
def withFcs (l : List Byte) : List Byte := l ++ leBytes (crcEth l)

/-- R105: the answer to an ARP request. -/
def arpAnswer (off mac : Nat) (f : List Byte) : List Byte :=
  let m := beBytes 6 mac
  let sha := slice f (off - 16) 6
  let spa := slice f (off - 10) 4
  let tpa := slice f off 4
  let f := patch (patch f 0 (slice f 6 6)) 6 m
  patch f (off - 18) (beBytes 2 2 ++ m ++ tpa ++ sha ++ spa)

/-- R105: the place of the source link-layer option among a solicitation's options. -/
def sllaAt (f : List Byte) : Nat → Nat → Nat → Option Nat
  | 0, _, _ => none
  | fuel + 1, at_, end_ =>
    let len := 8 * (bAt f (at_ + 1)).toNat
    if end_ < at_ + 8 || len = 0 then none
    else if bAt f at_ = 1 then some at_
    else sllaAt f fuel (at_ + len) end_

/-- The Internet checksum of bytes. -/
def inetSum (l : List Byte) : Nat :=
  let t := (List.range ((l.length + 1) / 2)).foldl (fun a k => a + be16 l (2 * k)) 0
  let fold_ (x : Nat) := x % 65536 + x / 65536
  65535 - fold_ (fold_ (fold_ t))

/-- R105: the answer to a neighbour solicitation, whose IPv6 header begins 48 bytes before the target
address. The Ethernet addresses follow those of an ARP answer (log entry 14). Of a source link-layer option longer
than 8 bytes the first 8 become the target option and the rest stays: the model's choice (log entry 85). -/
def ndAnswer (off mac : Nat) (f : List Byte) : List Byte :=
  let h := off - 48
  let m := beBytes 6 mac
  let tgt := slice f off 16
  let src := slice f (h + 8) 16
  let plen := be16 f (h + 4)
  let tlla : List Byte := [2, 1] ++ m
  let f := patch (patch f 0 (slice f 6 6)) 6 m
  let opt := sllaAt f 200 (h + 64) (h + 40 + plen)
  let (f, plen) := match opt with
    | some o => (patch f o tlla, plen)
    | none => (f.take (h + 64) ++ tlla ++ f.drop (h + 64), plen + 8)
  let f := patch f (h + 4) (beBytes 2 plen)
  let f := patch f (h + 7) ([255] ++ tgt ++ src)
  let f := patch f (h + 40) [136, 0, 0, 0, 0x60, 0, 0, 0]
  let pseudo := tgt ++ src ++ beBytes 4 plen ++ [0, 0, 0, 58]
  patch f (h + 42) (beBytes 2 (inetSum (pseudo ++ slice f (h + 40) plen)))

/-- R105: the answer to a request, none where the frame is too short for its headers, or where NBR_OFF lets an
IPv6 header overlap the Ethernet header: the model's choice (log entry 85). -/
def answerFrame (pr : List Word) (mac : Nat) (bytes : List Byte) : Option (List Byte) :=
  let off := prNbrOff pr
  let body := bytes.take (bytes.length - 4)
  if prNbrMode pr = 1 then some (withFcs (arpAnswer off mac body))
  else if 62 ≤ off then some (withFcs (ndAnswer off mac body))
  else none

/-! ### Link aggregation (R161, R162) -/

/-- R162: the member that a hash selects, live link state read now; the answer is the drop reason
otherwise. -/
def State.lagPick (s : State) (n : Nat) (par : Bool) (g hash : Nat) : Nat ⊕ Nat :=
  let e := s.cpRead n 6 par g
  if ! bit (wAt e 0) 31 then .inl 0x17
  else
    let l := (lagMembers e).filter fun lp => ! bit (wAt e 0) 30 || ! (s.port lp).st.down
    if l.isEmpty then .inl 0x1A else .inr ((l[hash * l.length / 65536]?).getD 0)

/-! ### Resolution (R160) -/

/-- R165: LEN of a template, in a group's copy. -/
def State.tmplLen (s : State) (n : Nat) (par : Bool) (t : Nat) : Nat :=
  min 64 (fld (wAt (s.cpRead n 7 par t) 0) 6 0)

/-- R28, R166: the length after rewrite, the received length being `len`. -/
def State.lenAfter (s : State) (n : Nat) (par : Bool) (v : List Word) (len : Nat) : Nat :=
  len + (if vdGet v 10 = 1 then s.tmplLen n par (vdGet v 11) else 0) - vdGet v 14

/-- R164: the limits of the rewrite rules hold. -/
def State.rewriteOk (s : State) (n : Nat) (par : Bool) (v : List Word) (len : Nat) : Bool :=
  let cut := vdGet v 13 + vdGet v 14
  let after := s.lenAfter n par v len
  let setOk (en off : Nat) := vdGet v en = 0 || (vdGet v off + 2 ≤ 256 && vdGet v off + 6 ≤ after)
  vdGet v 14 ≤ 50 && cut ≤ 256 && cut + 4 ≤ len && setOk 18 17 && setOk 20 19

/-- R160: where a verdict sends its frame, or the reason of its drop. The rule's table is taken in
its order, so that a link aggregation group is looked at in the row that resolves it (R161). -/
def State.resolve (s : State) (p : Pkt) (pr v : List Word) : Nat ⊕ Target :=
  let lp := p.stamp.lport
  let n := lp / 32
  let par := p.stamp.epoch
  let unicast (t : Nat) : Nat ⊕ Target :=
    if t = lp && vdGet v 4 = 0 then .inl 0x19 else .inr (.port t (vdGet v 6))
  match vdGet v 0 with
  | 1 => .inl (vdGet v 1)
  | 2 => .inr (.host (vdGet v 2))
  | 3 =>
    if fld (wAt p.lrec 2) 13 12 = 1 && ndKind pr p.bytes = .request then
      let mac := (wAt p.lrec 6).toNat + fld (wAt p.lrec 7) 15 0 * 2 ^ 32
      match answerFrame pr mac p.bytes with
      | some f => .inr (.answer f (vdGet v 6))
      | none => .inl 0x15
    else .inl 0x15
  | _ =>
    let ty := vdGet v 3
    let t := vdGet v 5
    if ty = 3 then .inl 0x16
    else if (ty = 0 && s.nPorts ≤ t) || (ty = 1 && 511 < t) then .inl 0x17
    else if ! s.rewriteOk n par v p.bytes.length then .inl 0x18
    else if ty = 2 then .inr (.group t (vdGet v 7))
    else if ty = 1 then
      match s.lagPick n par t (vdGet v 15) with
      | .inl r => .inl r
      | .inr m => unicast m
    else unicast t

/-- R85: PROFILE of a frame's record. -/
def pktProfile (p : Pkt) : Nat := fld (wAt p.lrec 0) 30 25

/-- R263: SAMP_LOG2; none for no sampling. -/
def State.sampLog2 (s : State) : Option Nat :=
  let k := fld (s.rg .telDigCfg) 29 25
  if k = 0 then none else some (max 4 (min 24 k))

/-- R263: the count of a cluster, or 64 + a group for its L2-only verdicts, advances; every 2^k-th is
sampled (log entry 19). -/
def State.digSample (s : State) (who : Nat) : Bool × State :=
  match s.sampLog2 with
  | none => (false, s)
  | some k =>
    let n := tget (fun _ => 0) s.tel.digCnt who + 1
    let s' : State := { s with tel := { s.tel with digCnt := tset (fun _ => 0) s.tel.digCnt who (n % 2 ^ k) } }
    (n % 2 ^ k == 0, s')

/-- R159, R160, R263: a verdict is handed off: its digest is computed, and sampled, and the frame goes to the resequencer
or is dropped at the engines boundary. -/
def State.handOff (s : State) (k : Nat) (v : List Word) (src : PuntSrc) : State :=
  let p := s.pkt k
  let pr := s.cpRead (p.stamp.lport / 32) 4 p.stamp.epoch (pktProfile p)
  let s := s.sealVerdict k v src
  match s.resolve p pr v with
  | .inl r => s.endPkt k .engines r
  | .inr t => s.seqPut p.stamp.lport p.stamp.seq (.pass k t)

/-! ### Rewrite (R164) -/

/-- R164: a 16-bit field replaced under a mask; the setting word holds the mask above the value. -/
def setField16 (f : List Byte) (off : Nat) (w : Word) : List Byte :=
  let mask := fld w 31 16
  let v := be16 f off
  patch f off (beBytes 2 ((v &&& (65535 - mask)) ||| (fld w 15 0 &&& mask)))

/-- R165: the bytes of a template entry. -/
def tmplBytes (e : List Word) : List Byte :=
  slice (wordBytes (e.drop 1)) 0 (min 64 (fld (wAt e 0) 6 0))

/-- R204: the form in which a forwarded frame is stored: its popped bytes and its FCS left out, a gap
of `gap` bytes left at `popAt`. -/
def storedForm (bytes : List Byte) (popAt popLen gap : Nat) : List Byte :=
  let f := bytes.take (bytes.length - 4)
  f.take popAt ++ zeros gap ++ f.drop (popAt + popLen)

/-- R204, R164: a stored frame with its gap filled from the template, and SET0 and SET1 applied. -/
def rewritten (stored : List Byte) (popAt : Nat) (push : List Byte) (set0 set1 : Option (Nat × Word)) : List Byte :=
  let f := patch stored popAt push
  let f := match set0 with
    | some (o, w) => setField16 f o w
    | none => f
  match set1 with
  | some (o, w) => setField16 f o w
  | none => f

/-- R166: a frame shorter than 64 bytes is padded before its FCS; the FCS is computed. -/
def finished (f : List Byte) : List Byte := withFcs (f ++ zeros (60 - f.length))

end Sys2Proof.Machine
end

