-- ==== Sys2Proof/Machine/Operands.lean ====
section
/-! DEFINITION. The microword and its operands: fields (R122), source and destination codes (R124). -/

namespace Sys2Proof.Machine

open Sys2Proof

/-- R122: a microword by its fields. -/
structure Micro where
  nxtOp : Nat
  nxtAddr : Nat
  cond : Nat
  condInv : Bool
  aOp : Nat
  aDst : Nat
  aSrc1 : Nat
  aSrc2 : Nat
  bOp : Nat
  bDst : Nat
  bSrc1 : Nat
  bSrc2 : Nat
  imm : Nat
  memOp : Nat
  memAddr : Nat
  memDst : Nat
  vdOp : Nat
  vdFld : Nat
  vdSrc : Nat
  wfe : Nat
  setF : Nat
  lock : Nat
  shift : Nat
  extLen : Nat
  deriving DecidableEq, Repr

/-- Bits `hi:lo` of a stored microword. -/
def mbits (w : BitVec 144) (hi lo : Nat) : Nat := (w.toNat >>> lo) % 2 ^ (hi + 1 - lo)

/-- R122: the fields of a stored microword. -/
def microOf (w : BitVec 144) : Micro where
  nxtOp := mbits w 135 132
  nxtAddr := mbits w 131 118
  cond := mbits w 117 113
  condInv := w.getLsbD 112
  aOp := mbits w 111 107
  aDst := mbits w 106 102
  aSrc1 := mbits w 101 96
  aSrc2 := mbits w 95 90
  bOp := mbits w 89 85
  bDst := mbits w 84 80
  bSrc1 := mbits w 79 74
  bSrc2 := mbits w 73 68
  imm := mbits w 67 52
  memOp := mbits w 51 48
  memAddr := mbits w 47 42
  memDst := mbits w 41 37
  vdOp := mbits w 36 34
  vdFld := mbits w 33 29
  vdSrc := mbits w 28 23
  wfe := mbits w 22 17
  setF := mbits w 16 15
  lock := mbits w 14 13
  shift := mbits w 12 8
  extLen := mbits w 7 3

/-- What a thread's microwords read besides its own registers: the frame's key, record and stamp, the
root of its parity, and its own place. `bg` marks background work, which has no frame: what its
microwords read of one is undefined, the free values from `free` on (log entry 16). `spare` marks a
re-execution (R355), which has the key, the record and the EPOCH alone: what it reads of the rest of the
stamp is undefined too (log entry 83). -/
structure Ctx where
  key : List Byte
  lrec : List Word
  stamp : Stamp
  root : Word
  cluster : Nat
  engine : Nat
  thread : Nat
  free : Nat
  bg : Bool
  spare : Bool

/-- The free values that one microword of background work, or of a re-execution, may read. -/
def bgFree : Nat := 128

/-- R124: a source code is defined. -/
def srcLegal (code : Nat) : Bool := code ≤ 58

/-- R124: a general register. -/
def Thread.reg (t : Thread) (i : Nat) : Word := tget (fun _ => 0) t.g i

/-- R124: what a source code reads that depends on the frame. -/
def ctxSrc (c : Ctx) (code : Nat) : Word :=
  if c.bg then Config.freeWord (c.free + code)
  else if code < 24 then wAt c.lrec (code - 16)
  else if code < 40 then wd (beNat (slice c.key (4 * (code - 24)) 4))
  else if code = 52 then if c.spare then Config.freeWord (c.free + code) else wd c.stamp.time
  else if code = 53 then
    let x := if c.spare then fld (Config.freeWord (c.free + code)) 18 0 else c.stamp.time / 2 ^ 32 % 2 ^ 16 + 2 ^ 16 * c.stamp.pipe
    put 15 0 x ||| flag 16 c.stamp.epoch ||| put 19 17 (x / 2 ^ 16)
  else c.root

/-- R133, R137: the microwords that a thread may still issue: its budget, or what is left of a background
task. -/
def Thread.left (t : Thread) : Nat := if t.bg then t.bgLeft else t.budget

/-- R124: the value of a source code. -/
def srcVal (c : Ctx) (t : Thread) (m : Micro) (code : Nat) : Word :=
  if code < 16 then t.reg code
  else if code < 40 then ctxSrc c code
  else if code < 48 then wAt t.n (code - 40)
  else
    match code with
    | 48 => wd m.imm
    | 49 => wd (m.imm * 65536)
    | 50 => if 32768 ≤ m.imm then wd (0xFFFF0000 + m.imm) else wd m.imm
    | 51 => 0
    | 54 => put 5 0 c.cluster ||| put 12 8 c.engine ||| put 18 16 c.thread
    | 55 => t.scr
    | 56 => t.cnt
    | 57 => wd t.left
    | _ => ctxSrc c code

/-- R124: a destination code is defined. -/
def dstLegal (code : Nat) : Bool := code ≤ 17

/-- R124: a value is written to a destination. -/
def dstPut (t : Thread) (code : Nat) (v : Word) : Thread :=
  if code < 16 then { t with g := tset (fun _ => 0) t.g code v }
  else if code = 17 then { t with mway := fld v 3 0 }
  else t

/-- R127: MEM_DST names a register that a store can read. Destination code 16, which discards, names none:
taken as illegal here, the model's choice (log entry 84). -/
def dataLegal (code : Nat) : Bool := code < 16 || code == 17

/-- R127: the register that MEM_DST names. -/
def dataVal (t : Thread) (code : Nat) : Word := if code = 17 then wd t.mway else t.reg code

end Sys2Proof.Machine
end

