-- ==== Sys2Proof/Machine/Flags.lean ====
section
/-! DEFINITION. The ALUs, their flags (R125) and the conditions (R126). -/

namespace Sys2Proof.Machine

open Sys2Proof

/-- R125: an operation code is defined. -/
def aluLegal (op : Nat) : Bool := op ≤ 0x11

/-- R123, R125: an operation writes its destination. -/
def aluWrites (op : Nat) : Bool := op != 0 && op != 0x0C

/-- R125: an operation uses its first source. -/
def aluUses1 (op : Nat) : Bool := op != 0

/-- R125: an operation uses its second source. -/
def aluUses2 (op : Nat) : Bool :=
  (2 ≤ op && op ≤ 7) || op == 0x0B || op == 0x0C || op == 0x0D || op == 0x0E || op == 0x11

/-- R125: the number of leading zeros. -/
def clz (a : Word) : Nat := ((List.range 32).find? fun i => a.getLsbD (31 - i)).getD 32

/-- R125: the number of 1 bits. -/
def popcnt (a : Word) : Nat := (List.range 32).foldl (fun n i => n + b2n (a.getLsbD i)) 0

/-- R125: the result of an operation on two values; CMP's is the difference that sets its flags. -/
def aluVal (op shift extLen : Nat) (a b : Word) : Word :=
  match op with
  | 0x01 => a
  | 0x02 => a + b
  | 0x03 => a - b
  | 0x04 => a &&& b
  | 0x05 => a ||| b
  | 0x06 => a ^^^ b
  | 0x07 => a &&& ~~~ b
  | 0x08 => a <<< shift
  | 0x09 => a >>> shift
  | 0x0A => (a >>> shift) &&& wd (2 ^ (extLen + 1) - 1)
  | 0x0B =>
    let mask := wd ((2 ^ (extLen + 1) - 1) * 2 ^ shift)
    (a &&& ~~~ mask) ||| ((b <<< shift) &&& mask)
  | 0x0C => a - b
  | 0x0D => if a.toNat ≤ b.toNat then a else b
  | 0x0E => if a.toNat ≤ b.toNat then b else a
  | 0x0F => wd (popcnt a)
  | 0x10 => wd (clz a)
  | 0x11 => crc32c a (beBytes 4 b.toNat)
  | _ => 0

/-- R125: the carry of ADD, the borrow of SUB and CMP, 0 otherwise. -/
def aluCarry (op : Nat) (a b : Word) : Bool :=
  match op with
  | 0x02 => 2 ^ 32 ≤ a.toNat + b.toNat
  | 0x03 => a.toNat < b.toNat
  | 0x0C => a.toNat < b.toNat
  | _ => false

/-- R125: the flags that an operation leaves; NOP leaves them unchanged. -/
def aluFlags (old : AluFlags) (set : Bool) (op shift extLen : Nat) (a b : Word) : AluFlags :=
  if set && op != 0 then
    let v := aluVal op shift extLen a b
    { z := v = 0, n := v.getLsbD 31, c := aluCarry op a b }
  else old

/-- R126: a condition, before COND_INV. -/
def condVal (c : Ctx) (t : Thread) (code : Nat) : Bool :=
  let frame (b : Bool) : Bool := if c.bg then (Config.freeWord (c.free + 64 + code)).getLsbD 0 else b
  match code with
  | 0 => true
  | 1 => t.fa.z
  | 2 => t.fa.n
  | 3 => t.fa.c
  | 4 => t.fb.z
  | 5 => t.fb.n
  | 6 => t.fb.c
  | 7 => t.leaf
  | 8 => frame (fld (wAt c.lrec 2) 17 16 = 1)
  | 9 => frame (fld (wAt c.lrec 2) 15 14 = 1)
  | 10 => frame (fld (wAt c.lrec 2) 13 12 = 1)
  | 11 => frame c.stamp.epoch
  | 12 => if c.spare then (Config.freeWord (c.free + 64 + code)).getLsbD 0 else frame c.stamp.inject
  | 13 => t.left ≤ 8
  | 14 => t.torn
  | _ => t.scr = 0

/-- R126: the condition of a microword. -/
def condHolds (c : Ctx) (t : Thread) (m : Micro) : Bool := condVal c t m.cond != m.condInv

end Sys2Proof.Machine
end

