-- ==== Sys2Proof/Machine/Engine.lean ====
section
/-! DEFINITION. Nirum engines: threads and their events (R120, R121, R130), locks (R131), budget and
overruns (R133), machine checks (R134, R135), and the issue of one microword (R118, R123). -/

namespace Sys2Proof.Machine

open Sys2Proof

/-! ### Threads -/

/-- The cluster of a thread's key. -/
def keyClu (k : Nat) : Nat := k / 136

/-- The engine of a thread's key. -/
def keyEng (k : Nat) : Nat := k % 136 / 8

/-- The thread number of a thread's key. -/
def keyThr (k : Nat) : Nat := k % 8

/-- R121: the events whose requests are outstanding, as WFE bits. -/
def Thread.pending (t : Thread) : BitVec 4 :=
  BitVec.ofNat 4 (b2n (! t.rdTree.isEmpty) + 2 * b2n (! t.rdLoad.isEmpty) + 4 * b2n (! t.rdCount.isEmpty) +
    8 * b2n (! t.sb.isEmpty))

/-- R121, R398: a thread after something that it may have waited for: the events that have arrived are
struck off, a thread that waits for nothing runs, and one that a HALT or a STEP is to stop halts. -/
def Thread.settle (t : Thread) (now : Nat) : Thread :=
  let t := { t with await := t.await &&& t.pending }
  let ready := t.await = 0 && t.want.isNone && ! t.full
  let next : TState := if ready then .run else .wait
  match t.st with
  | .idle => t
  | .halted => { t with prior := if t.prior = .idle then .idle else next }
  | _ =>
    if t.lock.isNone && (t.haltReq || (t.stepping = 2 && ready)) then
      { t with st := .halted, prior := next, haltReq := false, stepping := 0, haltAt := now }
    else { t with st := next }

/-- A thread written after it has settled. -/
def State.putThr (s : State) (k : Nat) (t : Thread) : State := s.setThr k (t.settle s.mono)

/-- R139: the engine of a key runs the cluster's samples. -/
def State.isSentinel (s : State) (k : Nat) : Bool := (s.thr k).sample.isSome

/-- R85, R355: what a thread's program works on. -/
def State.thrCtx (s : State) (k : Nat) : Ctx :=
  let t := s.thr k
  let c := keyClu k
  let smp := (t.sample.bind fun i => s.sample c i).getD {}
  let p := s.pkt (t.pkt.getD 0)
  let key := if t.sample.isSome then smp.key else p.key
  let lrec := if t.sample.isSome then smp.lrec else p.lrec
  let stamp := if t.sample.isSome then smp.stamp else p.stamp
  let root : BitVec 16 := if stamp.epoch then s.epc.rootA else s.epc.rootC
  { key := key, lrec := lrec, stamp := stamp, root := root.setWidth 32, cluster := c, engine := keyEng k, thread := keyThr k, free := s.free, bg := t.bg, spare := t.sample.isSome }

/-- R116, R118: the issue class of a thread's packet. -/
def State.thrClass (s : State) (k : Nat) : Nat := (s.pkt ((s.thr k).pkt.getD 0)).cls

/-- R118, R262: an issue priority behind all that the cluster has given out. -/
def State.nextOrder (s : State) (c : Nat) : Nat × State :=
  let x := s.clu c
  (x.issued, s.setClu c { x with issued := x.issued + 1 })

/-! ### The end of a thread's work -/

/-- R120, R398: a thread whose work has ended, at an engine time: it is IDLE, or where a HALT or a STEP has still to
stop it, HALTED in IDLE (log entry 52). -/
def Thread.finish (t : Thread) (now : Nat) : Thread :=
  if t.pend then { t.idle with st := .halted, prior := .idle, haltAt := now } else t.idle

/-- R121, R134: a request of microword `no` is none of the thread's present work: its packet has ended. -/
def Thread.late (t : Thread) (no : Nat) : Bool := ! t.works || no < t.first

/-- R131: a line whose holder has unlocked passes on once the last held store has reached scratch. -/
def State.passLine (s : State) (k : Nat) : State :=
  let c := keyClu k
  let me := k % 136
  if (s.thr k).sb.any fun e => e.seq then s
  else
    let ls := (s.clu c).locks.filter fun e => e.2.owner == some me && e.2.releasing
    ls.foldl (fun st e => st.setLine c e.1 { st.lockLine c e.1 with owner := none, releasing := false }) s

/-- R135: a thread after a machine check: cleared, with what is to drain left in its store buffer. -/
def Thread.cleared (t : Thread) : Thread :=
  { t with g := [], n := [], scr := 0, cnt := 0, mway := 0, fa := {}, fb := {}, stack := [], budget := 0, leaf := false, torn := false }

/-- R133, R135: the stores of an open locked sequence are discarded, and its line is released without being
marked torn; of the others those that microwords before number `no` have buffered stay to drain. A line that
the thread has unlocked passes on where nothing of its sequence is left. -/
def State.dropLock (s : State) (k no : Nat) : State :=
  let s := (s.leaveLine k).2
  let t := s.thr k
  let sb := t.sb.filter fun e => e.no < no && ! e.held
  let rc := t.rdCount.filter fun e => e.1 < no || e.2.2.isSome
  (s.setThr k { t with lock := none, lockLen := 0, lockStores := 0, want := none, sb := sb, rdCount := rc }).passLine k

/-- R355: the digest that a packet's verdict delivered goes to its sample, if one was taken; none marks
the sample as not to be compared (R356). -/
def State.samplePrimary (s : State) (k : Nat) (d : Option Word) : State :=
  let c := keyClu k
  match (s.clu c).samples.find? fun e =>
      e.2.engine == keyEng k && e.2.thread == keyThr k && e.2.p1.isNone && ! e.2.void with
  | some (i, x) =>
    s.setSample c i (some (match d with
      | some w => { x with p1 := some w }
      | none => { x with void := true }))
  | none => s

/-- R355, R357: the digest of a re-execution goes to its sample: the sentinel's first, or a recheck's, the
primary's by the thread that it was begun in. -/
def State.sampleSentinel (s : State) (k : Nat) (d : Option Word) : State :=
  let c := keyClu k
  match (s.thr k).sample with
  | none => s
  | some i =>
    match s.sample c i with
    | none => s
    | some x =>
      s.setSample c i (some (match d with
        | some w =>
          if ! x.recheck then { x with s1 := some w }
          else if x.prim = some k then { x with p2 := some w }
          else { x with s2 := some w }
        | none => { x with void := true }))

/-- R115, R140: a packet's time from dispatch to END, in engine cycles, counts in H. Of the packets that end without
an END, overruns and machine checks count and aborts, stale flushes and cluster resets do not: the model's choice
(log entry 84). -/
def State.countHold (s : State) (k : Nat) : State :=
  let c := keyClu k
  let x := s.clu c
  s.setClu c { x with holdSum := x.holdSum + 2 * (s.mono - (s.thr k).start), holdCnt := x.holdCnt + 1 }

/-- R357: a thread re-executes for the primary's recheck. -/
def State.isPrim (s : State) (k : Nat) : Bool :=
  ((s.thr k).sample.bind fun i => s.sample (keyClu k) i).any fun x => x.prim == some k

/-- R129, R158, R355: a thread delivers a verdict and becomes IDLE: a packet's is handed off, a
re-execution's digest goes to its sample, and a sentinel's counts (R260). -/
def State.deliver (s : State) (k : Nat) (v : List Word) (src : PuntSrc) : State :=
  let t := s.thr k
  let par := (s.thrCtx k).stamp.epoch
  match t.pkt with
  | some p =>
    let s := (s.countHold k).samplePrimary k (some (digestOf v par))
    (s.setThr k (({ t with verdict := v } : Thread).finish s.mono)).handOff p v src
  | none =>
    let s := if t.sample.isSome && ! s.isPrim k then s.pmcCluster (keyClu k) 5 else s
    (s.sampleSentinel k (some (digestOf v par))).setThr k (t.finish s.mono)

/-- R133, R137: an overrun ends a packet as OVR_ACT selects, and a background task without a frame. -/
def State.overrun (s : State) (k : Nat) : State :=
  let c := keyClu k
  let s := s.dropLock k (s.thr k).no
  let t := s.thr k
  let ctl := s.rg .necCtl c
  let s := if t.sample.isSome then s else (s.bump .necOverruns c 0).pmcCluster c 8
  if t.bg then s.setThr k (t.finish s.mono)
  else if bit ctl 23 then s.deliver k (vdPunt t.verdict (fld ctl 28 24)) .overrun
  else s.deliver k (vdDrop t.verdict 0x0A) .verdict

/-- R141: a record enters a cluster's machine-check log. -/
def State.mcLog (s : State) (c e t cause addr : Nat) : State :=
  let s := s.bump .necMcCount c 0
  let x := s.clu c
  if 16 ≤ x.mcLog.length then s.bump .necMcLost c 0
  else
    let w := flag 31 true ||| put 30 28 cause ||| put 27 23 e ||| put 22 20 t ||| put 13 0 addr
    s.setClu c { x with mcLog := x.mcLog ++ [w] }

/-- R134, R348: the fault event of a machine check. -/
def mcFault (c e t cause : Nat) (info : Nat) : FaultEv :=
  match cause with
  | 5 => { src := 72 + c / 8, cls := .orange, code := 2, info := put 29 24 c ||| put 15 0 info }
  | 6 => { src := 72 + c / 8, cls := .blue, code := 3, info := put 29 24 c ||| put 15 0 info }
  | _ => { src := 56 + c / 8, cls := .blue, code := 5, info := infoCET c e t (put 2 0 cause).toNat }

/-- R134: the drop reason of a cause. -/
def mcReason (cause : Nat) : Nat :=
  match cause with
  | 1 => 0x0B
  | 5 => 0x0D
  | 6 => 0x0D
  | _ => 0x0C

/-- R135: step 5 of a machine check: it is recorded and counted, and its fault is raised. -/
def State.mcRecord (s : State) (k cause addr info : Nat) : State :=
  let c := keyClu k
  ((s.mcLog c (keyEng k) (keyThr k) cause addr).pmcCluster c 7).raise (mcFault c (keyEng k) (keyThr k) cause info)

/-- R135: a machine check on a thread, at a microword of a number and an address; `info` is the memory word of
causes 5 and 6. -/
def State.machineCheck (s : State) (k cause no addr info : Nat) : State :=
  let c := keyClu k
  let e := keyEng k
  let slot := b2n (bit (s.rg .necCtl c) 16)
  let s := s.dropLock k no
  let t := s.thr k
  let s := match t.pkt with
    | some p =>
      let s := ((s.countHold k).samplePrimary k none).setThr k (t.cleared.finish s.mono)
      s.handDrop p (mcReason cause) t.verdict
    | none => (s.sampleSentinel k none).setThr k (t.cleared.finish s.mono)
  let s := s.mcRecord k cause addr info
  if cause = 1 then s.afterParity c e slot addr else s

/-- R134, R135: an uncorrectable read of cause 5 or 6 returns for microword `no` at an address: a machine check on
the thread, or where the work that asked for it has ended the record and the fault alone (log entry 69). -/
def State.readFails (s : State) (k cause no addr info : Nat) : State :=
  if (s.thr k).late no then s.mcRecord k cause addr info else s.machineCheck k cause no addr info

/-! ### Checks of a microword (R123-R131) -/

/-- R126, R129: the next-address operation tests a condition. -/
def testsCond (m : Micro) : Bool := m.nxtOp == 2 || m.nxtOp == 4 || m.nxtOp == 6

/-- R124, R125: an ALU's fields are illegal; a code counts where the operation uses it (log entry 17). -/
def aluBad (op dst s1 s2 : Nat) : Bool :=
  ! aluLegal op || (aluWrites op && ! dstLegal dst) || (aluUses1 op && ! srcLegal s1) ||
    (aluUses2 op && ! srcLegal s2)

/-- R127: a microword's memory fields are illegal. -/
def memBad (c : Ctx) (t : Thread) (m : Micro) : Bool :=
  4 < m.memOp || (m.memOp != 0 && ! srcLegal m.memAddr) || (m.memOp == 3 && ! dataLegal m.memDst) ||
    (m.memOp == 1 && 49152 ≤ fld (srcVal c t m m.memAddr) 15 0)

/-- R128, R158: the verdict after a microword. -/
def vdRun (c : Ctx) (t : Thread) (m : Micro) : List Word :=
  let x := srcVal c t m m.vdSrc
  match m.vdOp with
  | 1 => vdSet t.verdict m.vdFld x.toNat
  | 2 => vdSet t.verdict m.vdFld (vdGet t.verdict m.vdFld ||| x.toNat)
  | 3 => vdDrop t.verdict (m.imm % 128)
  | 4 => vdPunt t.verdict (m.imm % 32)
  | 5 => vdSet t.verdict 0 3
  | _ => t.verdict

/-- R128, R157, R158: a microword's verdict fields are illegal. -/
def vdBad (c : Ctx) (t : Thread) (m : Micro) : Bool :=
  let writes := m.vdOp == 1 || m.vdOp == 2
  5 < m.vdOp || (c.bg && m.vdOp != 0) || (writes && (21 < m.vdFld || ! srcLegal m.vdSrc)) ||
    (writes && m.vdFld == 0 && vdGet (vdRun c t m) 0 == 3)

/-- R134: cause 2, an illegal code or field combination. LOCK 0b11 is taken as one; bits of RSV and of WFE
5:4 that are not zero are not looked at. The spec says of neither, and this is the model's choice (log
entry 17). -/
def illegal (c : Ctx) (t : Thread) (m : Micro) : Bool :=
  aluBad m.aOp m.aDst m.aSrc1 m.aSrc2 || aluBad m.bOp m.bDst m.bSrc1 m.bSrc2 ||
    (aluWrites m.aOp && aluWrites m.bOp && m.aDst == m.bDst && m.aDst < 16) ||
    (testsCond m && 15 < m.cond) || memBad c t m || vdBad c t m || 10 < m.nxtOp ||
    (c.bg && m.nxtOp == 8) || (! c.bg && m.nxtOp == 9) || m.lock == 3

/-- R129: the microword pushes. -/
def pushes (c : Ctx) (t : Thread) (m : Micro) : Bool := m.nxtOp == 3 || (m.nxtOp == 4 && condHolds c t m)

/-- R129: the microword pops. -/
def pops (c : Ctx) (t : Thread) (m : Micro) : Bool := m.nxtOp == 5 || (m.nxtOp == 6 && condHolds c t m)

/-- R129: cause 3, a stack fault. -/
def stackFault (c : Ctx) (t : Thread) (m : Micro) : Bool :=
  (pushes c t m && 8 ≤ t.stack.length) || (pops c t m && t.stack.isEmpty)

/-- R131: the thread is inside a locked sequence. -/
def Thread.inSeq (t : Thread) : Bool := t.lock.isSome && 0 < t.lockLen

/-- R131: cause 4, a lock fault. A sequence takes in its LOCK and its UNLOCK microword (log entry 17). -/
def lockFault (c : Ctx) (t : Thread) (m : Micro) : Bool :=
  let seq := t.inSeq || m.lock == 1
  (t.inSeq && 32 ≤ t.lockLen) || (seq && m.memOp == 3 && 8 ≤ t.lockStores && t.inSeq) ||
    (seq && m.memOp == 4) || (m.lock == 1 && (t.inSeq || c.bg)) || (m.lock == 2 && ! t.inSeq) ||
    (m.nxtOp == 8 && seq)

/-- R134: the machine check that a microword raises, in the order of the causes (log entry 17). -/
def microCheck (c : Ctx) (t : Thread) (m : Micro) : Option Nat :=
  if illegal c t m then some 2
  else if stackFault c t m then some 3
  else if lockFault c t m then some 4
  else none

/-! ### Effects of a microword (R123) -/

/-- R123, R124: both ALUs write MWAY. -/
def bothMway (m : Micro) : Bool := aluWrites m.aOp && aluWrites m.bOp && m.aDst == 17 && m.bDst == 17

/-- R125, R123: both ALUs. Where both write MWAY, what stands is a free value (log entry 17). -/
def aluRun (c : Ctx) (t0 : Thread) (m : Micro) : Thread :=
  let a1 := srcVal c t0 m m.aSrc1
  let a2 := srcVal c t0 m m.aSrc2
  let b1 := srcVal c t0 m m.bSrc1
  let b2 := srcVal c t0 m m.bSrc2
  let t := { t0 with
    fa := aluFlags t0.fa (2 ≤ m.setF) m.aOp m.shift m.extLen a1 a2,
    fb := aluFlags t0.fb (m.setF % 2 == 1) m.bOp m.shift m.extLen b1 b2 }
  let t := if aluWrites m.aOp then dstPut t m.aDst (aluVal m.aOp m.shift m.extLen a1 a2) else t
  let t := if aluWrites m.bOp then dstPut t m.bDst (aluVal m.bOp m.shift m.extLen b1 b2) else t
  if bothMway m then { t with mway := fld (Config.freeWord (c.free + 127)) 3 0 } else t

/-- R129: address arithmetic wraps at 16,384. -/
def pcNext (pc : Nat) : Nat := (pc + 1) % 16384

/-- R129: the next address and the stack. -/
def nextRun (c : Ctx) (t0 : Thread) (m : Micro) (t : Thread) : Thread :=
  let seq := pcNext t0.pc
  if m.nxtOp = 1 then { t with pc := m.nxtAddr }
  else if m.nxtOp = 2 then { t with pc := if condHolds c t0 m then m.nxtAddr else seq }
  else if pushes c t0 m then { t with pc := m.nxtAddr, stack := t0.stack ++ [seq] }
  else if pops c t0 m then { t with pc := (t0.stack.getLast?).getD 0, stack := t0.stack.dropLast }
  else if m.nxtOp = 7 then { t with pc := m.nxtAddr / 16 * 16 + t0.mway }
  else { t with pc := seq }

/-- R130: a store-buffer entry applied to a word. -/
def sbApply (v : Word) (e : SbEntry) : Word := if e.cadd then v + e.data else e.data

/-- R130: scratch word of a cluster. -/
def State.scratch (s : State) (c a : Nat) : Word := tget (fun _ => 0) (s.clu c).scratch a

/-- R130: the value of the thread's own buffered entries to a word, where it has any. That a buffered counter
add counts as a store here is the model's choice (log entry 84). -/
def State.ownStore (s : State) (c : Nat) (t : Thread) (a : Nat) : Option Word :=
  let l := t.sb.filter fun e => e.addr == a
  if l.isEmpty then none else some (l.foldl sbApply (s.scratch c a))

/-- R110, R127, R130: the memory operation. The spare performs no store and no counter add. -/
def State.memRun (s : State) (c : Ctx) (t0 : Thread) (m : Micro) (t : Thread) : Thread :=
  let a := fld (srcVal c t0 m m.memAddr) 15 0
  let seq := t.lock.isSome
  let spare := t0.sample.isSome
  match m.memOp with
  | 1 => { t with rdTree := t.rdTree ++ [(t0.no, t0.pc, a)], tsteps := t.tsteps + 1 }
  | 2 => { t with rdLoad := t.rdLoad ++ [(t0.no, t0.pc, a, s.ownStore c.cluster t0 a)] }
  | 3 =>
    if spare then t
    else
      let e : SbEntry := { cadd := false, held := seq, seq := seq, no := t0.no, addr := a, data := dataVal t0 m.memDst }
      { t with sb := t.sb ++ [e], lockStores := if seq then t.lockStores + 1 else t.lockStores }
  | 4 =>
    if spare then t
    else
      let v := if 32768 ≤ m.imm then wd (0xFFFF0000 + m.imm) else wd m.imm
      let e : SbEntry := { cadd := true, no := t0.no, addr := a, data := v }
      { t with sb := t.sb ++ [e], rdCount := t.rdCount ++ [(t0.no, t0.pc, none)] }
  | _ => t

/-- R131: the thread after an UNLOCK: its held stores are released. -/
def unlockRun (t : Thread) : Thread :=
  { t with lock := none, lockLen := 0, lockStores := 0, sb := t.sb.map fun e => { e with held := false } }

/-- R131: UNLOCK releases the line it held. -/
def State.unlockLine (s : State) (k l : Nat) : State :=
  let c := keyClu k
  let x := s.lockLine c l
  if x.owner = some (k % 136) then (s.setLine c l { x with releasing := true }).passLine k else s

/-- R262: the PROFILE record of a thread. -/
def State.profile (s : State) (k skid : Nat) : State :=
  let t := s.thr k
  let sec := s.now / 1000000000
  let used := if s.tel.profTok.1 = sec then s.tel.profTok.2 else 0
  if ! s.telOn then s
  else if 1000000 ≤ used then s.telLost 8 1
  else
    let st := (s.thrCtx k).stamp
    let who := put 31 26 (keyClu k) ||| put 25 21 (keyEng k) ||| put 20 18 (keyThr k) ||| flag 17 t.bg |||
      flag 16 (! t.bg && st.epoch) ||| put 15 12 skid ||| put 11 0 (if t.bg then 0 else st.member)
    let a (i : Nat) := (t.hist[i]?).getD 0
    let addrs := (List.range 7).map fun j => put 13 0 (a (2 * j)) ||| put 29 16 (if j = 6 then 0 else a (2 * j + 1))
    let s : State := { s with tel := { s.tel with profTok := (sec, used + 1) } }
    s.export 8 64 (BitVec.ofNat 64 s.now) ([who, put 6 0 (if t.bg then 0 else t.budget)] ++ addrs)

/-- R260, R262: a microword has been issued: counts, the profile's address history, and the triggers that
reach the thread with it or are raised by it; each writes a record. -/
def State.countIssue (s : State) (k pc : Nat) : State :=
  let c := keyClu k
  let x := s.clu c
  let n := x.micro + 1
  let s := s.setClu c { x with micro := n }
  let s := s.pmcCluster c 1
  let s := if (s.thr k).bg then s.pmcCluster c 4 else s
  let cfg := s.rg .pmcProfCfg
  let hit := bit cfg 31 && fld cfg 30 25 == c && n % 2 ^ (16 + fld cfg 24 21) == 0
  let (w, s) := if hit then s.fresh else (0, s)
  let skid := w.toNat % 13
  let t := s.thr k
  let l := t.trig.map (fun e => (e.1 - 1, e.2)) ++ (if hit then [(skid, skid)] else [])
  let s := s.setThr k { t with hist := (pc :: t.hist).take 13, trig := l.filter fun e => e.1 ≠ 0 }
  (l.filter fun e => e.1 = 0).foldl (fun st e => st.profile k e.2) s

/-- R123: a microword that issues takes effect. -/
def State.execMicro (s : State) (k : Nat) (c : Ctx) (m : Micro) : State :=
  let t0 := s.thr k
  let pc := t0.pc
  let torn := bit (s.rg .necLockTorn c.cluster (m.imm % 64 / 32)) (m.imm % 32)
  let t := aluRun c t0 m
  let t := if m.lock = 1 then { t with lockPc := pc, lockLen := 0, torn := torn } else t
  let t := if t.lock.isSome then { t with lockLen := t.lockLen + 1 } else t
  let t := s.memRun c t0 m t
  let t := { t with verdict := vdRun c t0 m }
  let t := nextRun c t0 m t
  let t := if c.bg then { t with bgLeft := t.bgLeft - 1 } else { t with budget := t.budget - 1 }
  let t := { t with no := t0.no + 1, stepping := if t.stepping = 1 then 2 else t.stepping, await := BitVec.ofNat 4 m.wfe }
  let t := if m.lock = 2 then unlockRun t else t
  let s := s.setThr k t
  let s := if m.memOp = 1 then s.pmcCluster c.cluster 2 else s
  let s := if m.lock = 2 then s.unlockLine k (t0.lock.getD 0) else s
  let s := if c.bg then s.setClu c.cluster { s.clu c.cluster with credit := (s.clu c.cluster).credit - 1 } else s
  let s : State := { s with free := if c.bg || c.spare || bothMway m then s.free + bgFree else s.free }
  let s := s.countIssue k pc
  if m.nxtOp = 8 then s.deliver k (s.thr k).verdict .verdict
  else if m.nxtOp = 9 then s.setThr k ((s.thr k).finish s.mono)
  else
    let (o, s) := if m.nxtOp = 10 then s.nextOrder c.cluster else ((s.thr k).order, s)
    s.putThr k { s.thr k with order := o }

/-- R131: a LOCK microword requests its line once the thread's store buffer is empty; the sentinel takes
no line (log entry 18). -/
def State.askLock (s : State) (k l : Nat) : State :=
  let t := s.thr k
  let c := keyClu k
  if t.sample.isSome then s.setThr k { t with lock := some l, lockLen := 0, lockPc := t.pc }
  else
    let s := s.putThr k { t with want := some l }
    if t.sb.isEmpty then
      let x := s.lockLine c l
      if x.waiters.contains (k % 136) then s else s.setLine c l { x with waiters := x.waiters ++ [k % 136] }
    else s

/-- R123, R130, R131: a microword whose checks have passed waits for its lock line or for room in the
store buffer, or issues. -/
def State.tryIssue (s : State) (k : Nat) (c : Ctx) (m : Micro) : State :=
  let t := s.thr k
  let s' := if m.lock = 1 && t.lock.isNone then s.askLock k (m.imm % 64) else s
  if m.lock = 1 && (s'.thr k).lock.isNone then s'
  else if (m.memOp = 3 || m.memOp = 4) && 8 ≤ t.sb.length then s'.putThr k { s'.thr k with full := true }
  else s'.execMicro k c m

/-- R123, R133-R135: a thread issues its next microword, whose fetched bits an upset may flip. -/
def State.issue (s : State) (k : Nat) (upset : BitVec 144) : State :=
  let t := s.thr k
  let c := s.thrCtx k
  let slot := b2n (bit (s.rg .necCtl (keyClu k)) 16)
  if (if t.bg then t.bgLeft else t.budget) = 0 then s.overrun k
  else
    let w := s.cword (keyClu k) slot t.pc ^^^ upset
    if ! parityOk w then s.machineCheck k 1 t.no t.pc 0
    else
      let m := microOf w
      if ! t.bg && m.memOp = 1 && 40 ≤ t.tsteps then s.overrun k
      else
        match microCheck c t m with
        | some cause => s.machineCheck k cause t.no t.pc 0
        | none => s.tryIssue k c m

/-! ### Issue positions (R118) -/

/-- R117, R119: the class that owns a slot, under the table in force. -/
def State.slotClass (s : State) (c slot : Nat) : Nat := fld (s.clu c).slotTab.1 (2 * slot + 1) (2 * slot)

/-- R117: a slot lends its unused positions. -/
def State.slotLends (s : State) (c slot : Nat) : Bool := bit (s.clu c).slotTab.2 slot

/-- Threads in rising order of their issue priority. -/
def State.oldest (s : State) (l : List Nat) : List Nat :=
  l.foldl (fun acc k =>
    let o := (s.thr k).order
    acc.filter (fun j => (s.thr j).order ≤ o) ++ [k] ++ acc.filter (fun j => o < (s.thr j).order)) []

/-- R118: the ready threads of an engine in the order in which they fill the positions of a slot's
cycle. A re-execution has no packet and so no issue class: it competes in every slot, the model's choice (log
entry 84). -/
def State.fillOrder (s : State) (c e slot : Nat) : List Nat :=
  let ready := (List.range 8).map (thrKey c e) |>.filter fun k => (s.thr k).st = .run
  let cls := s.slotClass c slot
  let work := ready.filter fun k => ! (s.thr k).bg
  let first := work.filter fun k => (s.thr k).sample.isSome || s.thrClass k == cls || (s.thr k).lock.isSome
  let rest := work.filter fun k => ! first.contains k
  s.oldest first ++ (if s.slotLends c slot then s.oldest rest else []) ++
    (if 0 < (s.clu c).credit then ready.filter fun k => (s.thr k).bg else [])

/-- R118: a thread has one of the four positions of its engine's cycle. -/
def State.mayIssue (s : State) (c e t slot : Nat) : Bool :=
  ((s.fillOrder c e slot).take 4).contains (thrKey c e t)

/-! ### Returns, drains and grants (R121, R130, R131) -/

/-- R121, R127: a tree read returns. -/
def State.treeReturn (s : State) (k : Nat) (ecc : Bool) : State :=
  let t := s.thr k
  match t.rdTree with
  | [] => s
  | (no, pc, idx) :: l =>
    let s := s.setThr k { t with rdTree := l }
    if ecc then s.readFails k 6 no pc idx
    else
      let n := padTo 8 (tget (fun _ => []) s.tbl.treeG (keyClu k / 8 * 65536 + idx))
      s.putThr k { s.thr k with n := n, leaf := fld (wAt n 0) 31 30 = 2 }

/-- R121, R127, R130: a scratch load returns. It reads scratch now, and so sees what has drained since its issue: the
model's choice (log entry 84). -/
def State.loadReturn (s : State) (k : Nat) (ecc : Bool) : State :=
  let t := s.thr k
  match t.rdLoad with
  | [] => s
  | (no, pc, a, own) :: l =>
    let s := s.setThr k { t with rdLoad := l }
    if ecc then s.readFails k 5 no pc a
    else s.putThr k { s.thr k with scr := own.getD (s.scratch (keyClu k) a) }

/-- R121, R127: a counter add whose entry has reached scratch returns the old value. -/
def State.countReturn (s : State) (k : Nat) : State :=
  let t := s.thr k
  match t.rdCount with
  | (_, _, some v) :: l => s.putThr k { t with rdCount := l, cnt := v }
  | _ => s

/-- R127: the counter add of a microword takes its old value. -/
def fillCount (no : Nat) (v : Word) (l : List (Nat × Nat × Option Word)) : List (Nat × Nat × Option Word) :=
  l.map fun e => if e.1 = no then (e.1, e.2.1, some v) else e

/-- R135: the scratch read of a counter add is uncorrectable: the add has no effect, and the read fails. -/
def State.addFails (s : State) (k : Nat) (e : SbEntry) : State :=
  let t := s.thr k
  let pc := ((t.rdCount.find? fun x => x.1 = e.no).map fun x => x.2.1).getD 0
  (s.putThr k { t with rdCount := t.rdCount.filter fun x => x.1 ≠ e.no }).readFails k 5 e.no pc e.addr

/-- R130, R131: the oldest entry of a store buffer reaches scratch; `ecc` says that what a counter add reads
there is uncorrectable. -/
def State.drain (s : State) (k : Nat) (ecc : Bool) : State :=
  let t := s.thr k
  let c := keyClu k
  match t.sb with
  | [] => s
  | e :: l =>
    if e.held then s
    else if ecc && e.cadd then (s.putThr k { t with sb := l, full := false }).addFails k e
    else
      let old := s.scratch c e.addr
      let x := s.clu c
      let s := s.setClu c { x with scratch := tset (fun _ => 0) x.scratch e.addr (sbApply old e) }
      let rc := if e.cadd then fillCount e.no old t.rdCount else t.rdCount
      let s := s.putThr k { t with sb := l, rdCount := rc, full := false }
      let s := s.passLine k
      match (s.thr k).want with
      | some w => if l.isEmpty && (s.thr k).st ≠ .halted then s.askLock k w else s
      | none => s

/-- R131: a free line is granted to the first of its requesters. -/
def State.grant (s : State) (c l : Nat) : State :=
  let x := s.lockLine c l
  match x.owner, x.waiters with
  | none, me :: rest =>
    let s := s.setLine c l { owner := some me, releasing := false, waiters := rest }
    let k := c * 136 + me
    let t := s.thr k
    s.putThr k { t with want := none, lock := some l, lockPc := t.pc, lockLen := 0, lockStores := 0 }
  | _, _ => s

/-! ### Meanings -/

/-- A cluster whose threads run: its clock runs and no reset is in progress (R136). -/
def State.cluRuns (s : State) (c : Nat) : Bool := s.cluOn c && ! (s.clu c).resetting

/-- MICROWORD_ISSUE (R118, R123): the thread has one of the four positions of the slot's cycle. -/
def execMicrowordIssue (c : Fin 64) (e : Fin 17) (t : Fin 8) (slot : Fin 16) (upset : BitVec 144) (s : State) : Host.Outcome State Fault Refusal :=
  act (s.cluRuns c && s.mayIssue c e t slot) (fun s => s.issue (thrKey c e t) upset) s

/-- TREE_READ_RETURN (R121). -/
def execTreeReadReturn (c : Fin 64) (e : Fin 17) (t : Fin 8) (ecc : Bool) (s : State) : Host.Outcome State Fault Refusal :=
  act (s.cluRuns c) (fun s => s.treeReturn (thrKey c e t) ecc) s

/-- SCRATCH_LOAD_RETURN (R121). -/
def execScratchLoadReturn (c : Fin 64) (e : Fin 17) (t : Fin 8) (ecc : Bool) (s : State) : Host.Outcome State Fault Refusal :=
  act (s.cluRuns c) (fun s => s.loadReturn (thrKey c e t) ecc) s

/-- COUNTER_ADD_RETURN (R121). -/
def execCounterAddReturn (c : Fin 64) (e : Fin 17) (t : Fin 8) (s : State) : Host.Outcome State Fault Refusal :=
  act (s.cluRuns c) (fun s => s.countReturn (thrKey c e t)) s

/-- R372: the store buffers of a cluster drain while its group is Active, and on the way down until it enters
Slate or Black. -/
def State.cluDrains (s : State) (c : Nat) : Bool :=
  let x := (s.dmn (domPg (c / 8))).shade
  s.live && s.clkOk (80 + c) && ! (s.clu c).resetting && (x = .active || x = .pale || x = .grey)

/-- STORE_BUFFER_DRAIN (R130, R131, R372). -/
def execStoreBufferDrain (c : Fin 64) (e : Fin 17) (t : Fin 8) (ecc : Bool) (s : State) : Host.Outcome State Fault Refusal :=
  act (s.cluDrains c) (fun s => s.drain (thrKey c e t) ecc) s

/-- LOCK_GRANT (R131). -/
def execLockGrant (c line : Fin 64) (s : State) : Host.Outcome State Fault Refusal :=
  act (s.cluRuns c) (fun s => s.grant c line) s

end Sys2Proof.Machine
end

