-- ==== Sys2Proof/Machine/Dispatcher.lean ====
section
/-! DEFINITION. The dispatcher (R111-R113, R355), background work (R137), the control of a cluster (R136,
R138, R146), the switch of its slot table (R119), and the image port (R143-R145). -/

namespace Sys2Proof.Machine

open Sys2Proof

/-! ### Dispatch -/

/-- R138: ACTIVE_SLOT of a cluster. -/
def State.activeSlotOf (s : State) (c : Nat) : Nat := b2n (bit (s.rg .necCtl c) 16)

/-- R174: the schema number of a parity. -/
def State.schemaOf (s : State) (par : Bool) : Nat := (if par then s.epc.schemaA else s.epc.schemaC).toNat

/-- R111: a cluster is eligible for frames of a parity. -/
def State.eligible (s : State) (c : Nat) (par : Bool) : Bool :=
  let x := s.slot c (s.activeSlotOf c)
  s.admits c && x.valid && x.mask.getLsbD (s.schemaOf par) && s.healthy c != 0

/-- R117: THREAD_CAP of a class under the table in force. -/
def State.threadCap (s : State) (c cls : Nat) : Nat :=
  let v := fld (s.clu c).slotTab.2 (4 * cls + 19) (4 * cls + 16)
  if v = 0 || 8 < v then 8 else v

/-- R112: the threads of an engine that are not IDLE. -/
def State.busyThreads (s : State) (c e : Nat) : Nat :=
  ((List.range 8).filter fun t => (s.thr (thrKey c e t)).st ≠ .idle).length

/-- R112, R117, R137: an engine has a free thread that a class may take; the lowest free one. -/
def State.freeThread (s : State) (c e cls : Nat) : Option Nat :=
  let mine := (List.range 8).filter fun t =>
    let x := s.thr (thrKey c e t)
    x.pkt.isSome && s.thrClass (thrKey c e t) == cls
  if s.threadCap c cls ≤ mine.length then none
  else (List.range 8).find? fun t => (s.thr (thrKey c e t)).st = .idle

/-- R112: the engine of a cluster that a frame of a class goes to: the active one with the fewest busy
threads among those with a free thread for it, the lowest number winning a tie. -/
def State.pickEngine (s : State) (c cls : Nat) : Option (Nat × Nat) :=
  let l := (s.activeEngines c).filterMap fun e => (s.freeThread c e cls).map fun t => (e, t, s.busyThreads c e)
  let best := l.foldl (fun (b : Option (Nat × Nat × Nat)) x =>
    match b with
    | none => some x
    | some y => if x.2.2 < y.2.2 then some x else some y) none
  best.map fun x => (x.1, x.2.1)

/-- R112: smooth weighted round robin: every eligible cluster gains its weight, and the one of highest
weight that can take the frame, the lowest number winning a tie, pays the sum; one whose clock has stopped takes
none (R378). -/
def State.pickCluster (s : State) (l : List Nat) (cls : Nat) : Option (Nat × Nat × Nat) × State :=
  let s' := l.foldl (fun st c => st.setClu c { st.clu c with wrr := (st.clu c).wrr + (st.healthy c : Int) }) s
  let total := l.foldl (fun a c => a + s.healthy c) 0
  let can := (l.filter s.cluRuns).filterMap fun c => (s.pickEngine c cls).map fun e => (c, e)
  let best := can.foldl (fun (b : Option (Nat × Nat × Nat)) x =>
    match b with
    | none => some x
    | some y => if (s'.clu y.1).wrr < (s'.clu x.1).wrr then some x else some y) none
  match best with
  | none => (none, s)
  | some x => (some x, s'.setClu x.1 { s'.clu x.1 with wrr := (s'.clu x.1).wrr - (total : Int) })

/-- R355, R362: LOG2N of a sentinel. -/
def State.sentLog2 (s : State) (c : Nat) : Nat := max 4 (min 20 (fld (s.rg .necSentCfg c) 4 0))

/-- R120, R133, R156: a thread begins a program. Entries that an unfinished CALL left on its micro-stack stay there,
the model's choice (log entry 84). -/
def Thread.begin_ (t : Thread) (pc order now : Nat) : Thread :=
  { t with st := .run, pc := pc, budget := 96, tsteps := 0, first := t.no, bg := false, bgLeft := 0, await := 0, want := none, full := false, order := order, start := now, stepping := 0, haltReq := false }

/-- R355: a sample of a dispatched packet is taken, if a delay-register set is free (R397: and the spare
is not halted); the sentinel re-executes it in the thread of the set's number. -/
def State.takeSample (s : State) (c e t : Nat) (p : Pkt) : State :=
  let x := s.clu c
  if ! s.sentEn c || x.checker || 17 ≤ x.sentinel then s
  else
    let halted := (List.range 8).any fun i => (s.thr (thrKey c x.sentinel i)).st = .halted
    let free := (List.range 8).find? fun i =>
      (s.sample c i).isNone && (s.thr (thrKey c x.sentinel i)).st = .idle
    match free with
    | none => s.bump .necSentSkipped c 0
    | some i =>
      if halted then s.bump .necSentSkipped c 0
      else
        let s := s.setSample c i (some { key := p.key, lrec := p.lrec, stamp := p.stamp, engine := e, thread := t })
        let (o, s) := s.nextOrder c
        let k := thrKey c x.sentinel i
        let th := (s.thr k).begin_ (s.slot c (s.activeSlotOf c)).pktEntry o s.mono
        s.setThr k { th with sample := some i, pkt := none, verdict := s.verdict0 p }

/-- R112, R137, R355: a frame is given to a thread. -/
def State.place (s : State) (k c e t : Nat) : State :=
  let key := thrKey c e t
  let (o, s) := s.nextOrder c
  let (dig, s) := s.digSample c
  let p := { s.pkt k with cluster := c, engine := e, thread := t, dig := dig }
  let s := s.setPkt k p
  let th := (s.thr key).begin_ (s.slot c (s.activeSlotOf c)).pktEntry o s.mono
  let s := s.setThr key { th with pkt := some k, sample := none, verdict := s.verdict0 p }
  let x := s.clu c
  let n := x.dispatched + 1
  let s := (s.setClu c { x with dispatched := n, credit := 16 }).pmcCluster c 0
  if n % 2 ^ s.sentLog2 c = 0 then s.takeSample c e t p else s

/-- R113: the head of a class's queue leaves it. -/
def State.popClass (s : State) (n cls : Nat) : State :=
  let g := s.grp n
  s.setGrp n { g with waitq := tmod (fun _ => []) g.waitq cls (·.drop 1), rr := (cls + 1) % 4 }

/-- R113: the head frame of a class's queue is placed, is dropped for want of an eligible cluster, or
waits. A frame behind it that has no eligible cluster is dropped once it is the head, the model's choice (log
entry 84). -/
def State.tryClass (s : State) (n cls : Nat) : Option State :=
  match (tget (fun _ => []) (s.grp n).waitq cls).head? with
  | none => none
  | some k =>
    let p := s.pkt k
    let l := (groupClusters n).filter fun c => s.eligible c p.stamp.epoch
    if l.isEmpty then some ((s.popClass n cls).handDrop k 0x09 (s.verdict0 p))
    else
      match s.pickCluster l cls with
      | (some (c, e, t), s') => some ((s'.popClass n cls).place k c e t)
      | (none, _) => none

/-- R113: the four queues are served in round robin among those whose head can be placed. -/
def State.dispatch (s : State) (n : Nat) : State :=
  ((List.range 4).findSome? fun d => s.tryClass n (((s.grp n).rr + d) % 4)).getD s

/-! ### Rechecks (R357) -/

/-- R357: a thread re-executes a sample. -/
def State.reexec (s : State) (c e t i : Nat) (x : Sample) : State :=
  let (o, s) := s.nextOrder c
  let k := thrKey c e t
  let th := (s.thr k).begin_ (s.slot c (s.activeSlotOf c)).pktEntry o s.mono
  s.setThr k { th with sample := some i, pkt := none, verdict := s.verdict0 { stamp := x.stamp, key := x.key } }

/-- R357: the primary engine, in a free thread, and the sentinel begin to re-execute the sample of a set from
the delay registers, once both have a thread for it; the role may have moved to the primary meanwhile (R360). -/
def State.recheckStart (s : State) (c i : Nat) (x : Sample) : State :=
  let y := (s.clu c).sentinel
  let own (t : Nat) : Bool := x.engine == y && t == i
  match (List.range 8).find? fun t => (s.thr (thrKey c x.engine t)).st = .idle && ! own t with
  | some t =>
    if (s.thr (thrKey c y i)).st = .idle then
      let x' := { x with again := true, prim := some (thrKey c x.engine t) }
      ((s.setSample c i (some x')).reexec c x.engine t i x).reexec c y i i x
    else s
  | none => s

/-- R357: the four digests decide. -/
def State.recheckDigest (s : State) (c i : Nat) (x : Sample) (p2 s2 : Word) : State :=
  let s := (s.sentEntry p2 s2 3 x c).setSample c i none
  if p2 = s2 then
    let other := b2n (decide (x.p1 ≠ some p2))
    s.raise { src := 64 + c / 8, cls := .blue, code := 7, info := infoCET c x.engine 0 other }
  else if (s.clu c).selfTest then s.retire c x.engine 1
  else s.checkerFault c 0

/-- R356, R357: the recheck of a sample begins, is discarded because a re-execution has ended in a machine
check, or comes to its end. -/
def State.recheck (s : State) (c i : Nat) (x : Sample) : State :=
  if ! x.again then s.recheckStart c i x
  else if x.void then ((s.setSample c i none).endReruns c (· == i)).bump .necSentSkipped c 0
  else
    match x.p2, x.s2 with
    | some p, some d => s.recheckDigest c i x p d
    | _, _ => s

/-! ### Background work (R137) -/

/-- R137: an engine may start background work in a thread. That it needs credit and a valid active slot is the
model's choice (log entry 84). -/
def State.mayBackground (s : State) (c e t : Nat) : Bool :=
  (s.activeEngines c).contains e && (s.thr (thrKey c e t)).st = .idle && 0 < (s.clu c).credit &&
    (s.slot c (s.activeSlotOf c)).valid && (List.range 8).all fun i => ! (s.thr (thrKey c e i)).bg

/-- R137: background work begins. -/
def State.background (s : State) (c e t : Nat) : State :=
  let k := thrKey c e t
  let (o, s) := s.nextOrder c
  let th := (s.thr k).begin_ (s.slot c (s.activeSlotOf c)).bgEntry o s.mono
  s.setThr k { th with bg := true, bgLeft := 32, budget := 0, pkt := none, sample := none, verdict := [] }

/-! ### Control of a cluster (R138) -/

/-- R139: DRAINED. -/
def State.drainedClu (s : State) (c : Nat) : Bool := ! s.admits c && s.busy c == 0 && s.sbEmpty c

/-- R138: an image slot is marked invalid. -/
def State.invalSlot (s : State) (c i : Nat) : State :=
  let x := s.clu c
  s.setClu c { x with slots := x.slots.mapIdx fun j y => if j = i then {} else y }

/-- R136, R138, R146: a write of NEC_CTL. -/
def State.writeNecCtl (s : State) (c : Nat) (v : Word) : State :=
  let old := s.rg .necCtl c
  let act_ := b2n (bit old 16)
  let slot := if bit v 16 == bit old 16 || s.drainedClu c then bit v 16 else bit old 16
  let inval (st : State) (i : Nat) : State :=
    if bit v (29 + i) && ! (i == act_ && bit old 0) then st.invalSlot c i else st
  let s := inval (inval s 0) 1
  let ok := (s.slot c (b2n slot)).valid && ! s.reload.stale.contains (c / 8) && ! (s.clu c).resetting
  let adm := bit v 0 && (bit old 0 || ok)
  let s := s.setRg .necCtl c 0 ((v &&& 0x1F800000) ||| flag 16 slot ||| flag 0 adm)
  let s := if bit old 0 && ! adm then s.dropSamples c else s
  if bit v 31 then s.clusterReset c else s

/-! ### The image port (R143-R145) -/

/-- R144: the image port changed. -/
def State.setImg (s : State) (x : ImagePort) : State := { s with img := x }

/-- R144: a load is in progress. -/
def ImagePort.busy (x : ImagePort) : Bool := x.state == 1 || x.state == 2

/-- R144: a load fails with a status. -/
def State.imgFail (s : State) (status : Nat) : State :=
  s.setImg { s.img with state := 4, status := status }

/-- R144, R145: a write of TBL_IMG_CTL. -/
def State.writeImgCtl (s : State) (v : Word) : State :=
  let s := s.setRg .tblImgCtl 0 0 (v &&& 0x1FFFF)
  let s := if bit v 30 && s.img.busy then s.imgFail 7 else s
  if bit v 31 then
    let sel := (List.range 64).filter fun c => bit v (8 + c / 8) && bit v (c % 8) && s.isActive (domPg (c / 8))
    s.setImg { state := 1, slot := b2n (bit v 16), clusters := sel, loads := s.img.loads }
  else s

/-- R143: the header fields are inside their stated values and ranges. -/
def imgFormatOk (h : List Word) : Bool :=
  let n := fld (wAt h 3) 14 0
  let len := (wAt h 5).toNat
  wAt h 0 == 0x4E534853 && fld (wAt h 1) 31 16 == 64 && fld (wAt h 1) 15 8 == 1 && fld (wAt h 3) 31 15 == 0 &&
    1 ≤ n && n ≤ 16384 && fld (wAt h 4) 31 30 == 0 && fld (wAt h 4) 15 14 == 0 &&
    fld (wAt h 4) 29 16 < n && fld (wAt h 4) 13 0 < n && len % 4 == 0 && 4 ≤ len && len ≤ 65536 &&
    (h.drop 7).all fun w => w == 0

/-- R145: VIF_MAJOR differs from that of a valid slot other than the targets. -/
def State.vifConflict (s : State) (major : Nat) : Bool :=
  (List.range 64).any fun c => (List.range 2).any fun i =>
    (s.slot c i).valid && (s.slot c i).vifMajor != major && ! (i == s.img.slot && s.img.clusters.contains c)

/-- R145: the status of a complete header. -/
def State.imgHeader (s : State) (h : List Word) : Nat :=
  if s.img.clusters.isEmpty then 6
  else if ! imgFormatOk h then 1
  else if s.img.clusters.any fun c => s.activeSlotOf c == s.img.slot && ! s.drainedClu c then 3
  else if s.vifConflict (fld (wAt h 2) 31 24) then 2
  else 0

/-- R145: the body begins: the target slots are invalid. -/
def State.imgBody (s : State) (h : List Word) : State :=
  let s := s.img.clusters.foldl (fun st c => st.invalSlot c s.img.slot) s
  s.setImg { s.img with state := 2, hdr := h, acc := [], word := 0, treeFmt := 0, filled := false, crcOk := false }

/-- R143: the bytes of the microwords, padded to a multiple of 4. -/
def imgWordsLen (h : List Word) : Nat := (18 * fld (wAt h 3) 14 0 + 3) / 4 * 4

/-- R122: a microword from its 18 bytes. -/
def microBytes (l : List Byte) : BitVec 144 :=
  BitVec.ofNat 144 (beNat ((l.take 18).reverse))

/-- R145: the load ends as DONE: the target slots become valid. -/
def State.imgDone (s : State) : State :=
  let h := s.img.hdr
  let n := s.img.loads + 1
  let x : Slot := { valid := true, vifMajor := fld (wAt h 2) 31 24, vifMinor := fld (wAt h 2) 23 16, mask := BitVec.ofNat 16 (fld (wAt h 2) 15 0), words := fld (wAt h 3) 14 0, pktEntry := fld (wAt h 4) 13 0, bgEntry := fld (wAt h 4) 29 16, load := n }
  let s := s.img.clusters.foldl (fun st c =>
    let y := st.clu c
    st.setClu c { y with slots := y.slots.mapIdx fun j z => if j = s.img.slot then x else z }) s
  s.setImg { s.img with state := 3, status := 0, loads := n }

/-- R145: a load whose CRC word has checked ends once the fill has ended. -/
def State.imgFinish (s : State) : State := if s.img.crcOk && s.img.filled then s.imgDone else s

/-- R145: the next microword of the body, once its bytes are there. -/
def State.imgWord (s : State) : State :=
  let x := s.img
  if x.acc.length < 18 || fld (wAt x.hdr 3) 14 0 ≤ x.word then s
  else
    let w := microBytes x.acc
    if ! parityOk w then s.imgFail 4
    else
      let s := x.clusters.foldl (fun st c => st.setCword c x.slot x.word w) s
      s.setImg { x with acc := x.acc.drop 18, word := x.word + 1 }

/-- R144, R145: four bytes of the container. -/
def State.imgData (s : State) (v : Word) : State :=
  let x := s.img
  let off := x.bytes
  let x := { x with bytes := off + 4 }
  if x.state = 1 then
    let h := x.hdr ++ [v]
    let s := s.setImg { x with hdr := h, crc := crc32 x.crc (leBytes v) }
    if h.length < 16 then s
    else
      let st := s.imgHeader h
      if st = 0 then s.imgBody h else s.imgFail st
  else
    let m := 64 + imgWordsLen x.hdr
    let last := m + (wAt x.hdr 5).toNat
    if off < m then
      (s.setImg { x with acc := x.acc ++ leBytes v, crc := crc32 x.crc (leBytes v) }).imgWord
    else if off < last then
      s.setImg { x with treeFmt := if off = m then fld v 15 0 else x.treeFmt, crc := crc32 x.crc (leBytes v) }
    else
      let s := s.setImg x
      if v ≠ ~~~ x.crc then s.imgFail 5
      else if x.treeFmt ≠ 1 then s.imgFail 1
      else (s.setImg { x with crcOk := true }).imgFinish

/-- R145: the fill of the target slots beyond the image ends. -/
def State.imgFill (s : State) : State :=
  let x := s.img
  let n := fld (wAt x.hdr 3) 14 0
  let cs := tdrop (fun k => x.clusters.contains (k / 32768) && k / 16384 % 2 == x.slot && n ≤ k % 16384) s.cstore
  (({ s with cstore := cs } : State).setImg { x with filled := true }).imgFinish

/-! ### Meanings -/

/-- DISPATCH (R112, R113). -/
def execDispatch (pg : Fin 8) (s : State) : Host.Outcome State Fault Refusal :=
  act (s.pgOn pg) (fun s => s.dispatch pg) s

/-- DIGEST_RECHECK (R357): it begins the re-executions, and decides once both have delivered. -/
def execDigestRecheck (c : Fin 64) (set : Fin 8) (s : State) : Host.Outcome State Fault Refusal :=
  act (s.cluOn c && (s.sample c set).any Sample.recheck)
    (fun s =>
      match s.sample c set with
      | some x => s.recheck c set x
      | none => s) s

/-- BACKGROUND_START (R137). -/
def execBackgroundStart (c : Fin 64) (e : Fin 17) (t : Fin 8) (s : State) : Host.Outcome State Fault Refusal :=
  act (s.cluRuns c && s.mayBackground c e t) (fun s => s.background c e t) s

/-- CLUSTER_RESET (R136): a write of NEC_CTL with RESET 1. -/
def execClusterReset (r : Req) (c : Fin 64) (v : Word) (s : State) : Host.Outcome State Fault Refusal :=
  act s.regOn (fun s => s.access r (domPg (c / 8)) fun s => s.writeNecCtl c (v ||| flag 31 true)) s

/-- CLUSTER_RESET_COMPLETE (R136): 100 ns after its start. -/
def execClusterResetComplete (c : Fin 64) (s : State) : Host.Outcome State Fault Refusal :=
  act (s.cluOn c && (s.clu c).resetting && (s.clu c).resetAt + 100 ≤ s.mono)
    (fun s => s.setClu c { s.clu c with resetting := false }) s

/-- SLOT_INVALIDATE (R138): a write of NEC_CTL. -/
def execSlotInvalidate (r : Req) (c : Fin 64) (v : Word) (s : State) : Host.Outcome State Fault Refusal :=
  act s.regOn (fun s => s.access r (domPg (c / 8)) fun s => s.writeNecCtl c v) s

/-- ACTIVE_SLOT (R138, R146): a write of NEC_CTL. -/
def execActiveSlot (r : Req) (c : Fin 64) (v : Word) (s : State) : Host.Outcome State Fault Refusal :=
  act s.regOn (fun s => s.access r (domPg (c / 8)) fun s => s.writeNecCtl c v) s

/-- ADMIT (R138, R361): a write of NEC_CTL. -/
def execAdmit (r : Req) (c : Fin 64) (v : Word) (s : State) : Host.Outcome State Fault Refusal :=
  act s.regOn (fun s => s.access r (domPg (c / 8)) fun s => s.writeNecCtl c v) s

/-- SLOT_TABLE_SWITCH (R119). -/
def execSlotTableSwitch (c : Fin 64) (s : State) : Host.Outcome State Fault Refusal :=
  act (s.cluOn c)
    (fun s => s.setClu c { s.clu c with slotTab := (s.clu c).slotNew.getD (s.clu c).slotTab, slotNew := none }) s

/-- IMAGE_LOAD_START (R144): a write of TBL_IMG_CTL with START 1. -/
def execImageLoadStart (r : Req) (v : Word) (s : State) : Host.Outcome State Fault Refusal :=
  act s.regOn (fun s => s.access r domTbl fun s => s.writeImgCtl (v ||| flag 31 true)) s

/-- IMAGE_LOAD_ABORT (R144): a write of TBL_IMG_CTL with ABORT 1. -/
def execImageLoadAbort (r : Req) (v : Word) (s : State) : Host.Outcome State Fault Refusal :=
  act s.regOn (fun s => s.access r domTbl fun s => s.writeImgCtl (v ||| flag 30 true)) s

/-- IMAGE_DATA (R144, R145): a write of TBL_IMG_DATA; one made while no load is in progress, or after
the CRC word, is ignored. -/
def execImageData (r : Req) (v : Word) (s : State) : Host.Outcome State Fault Refusal :=
  act s.regOn (fun s => s.access r domTbl fun s => if s.img.busy && ! s.img.crcOk then s.imgData v else s) s

/-- IMAGE_FILL_COMPLETE (R145). -/
def execImageFillComplete (s : State) : Host.Outcome State Fault Refusal :=
  act (s.tblOn && s.img.state == 2 && ! s.img.filled) State.imgFill s

end Sys2Proof.Machine
end

