-- ==== Sys2Proof/Machine/Ports.lean ====
section
/-! DEFINITION. Ports and cages (R41-R69): port modes, lanes, the link states of sub-ports, the flush
engines, the cage buses, module transfers and the cage states. -/

namespace Sys2Proof.Machine

open Sys2Proof

/-! ### Modes and lanes (R42, R49-R51) -/


/-- R42: a mode has sub-port `u`. -/
def modeHas (mode u : Nat) : Bool :=
  match mode with
  | 1 => u == 0
  | 2 => u % 2 == 0
  | 3 => true
  | 4 => true
  | 5 => true
  | _ => false


/-- R42: the rate of a sub-port in Gb/s. -/
def modeRate (mode : Nat) : Nat :=
  match mode with
  | 1 => 1600
  | 2 => 800
  | 3 => 400
  | 4 => 200
  | 5 => 100
  | _ => 0

/-- R53: EN of a sub-port. -/
def State.lpEn (s : State) (lp : Nat) : Bool := bit (s.rg .macCtl (lp / 32) (lp % 32)) 15

/-- R53: MAX_LEN, held to 64-10,240. -/
def State.maxLen (s : State) (lp : Nat) : Nat :=
  max 64 (min 10240 (fld (s.rg .macCtl (lp / 32) (lp % 32)) 13 0))

/-- R49: a write of PG_PORT_CFGp: MODE only while no sub-port of the port is enabled, and neither MODE
nor MEDIA takes a reserved encoding. -/
def State.writePortCfg (s : State) (pg p : Nat) (v : Word) : State :=
  let old := s.rg .pgPortCfg pg p
  let off := (List.range 4).all fun u => ! s.lpEn (32 * pg + 4 * p + u)
  let mode := if fld v 2 0 ≤ 5 && off then fld v 2 0 else fld old 2 0
  let media := if fld v 5 4 ≤ 2 then fld v 5 4 else fld old 5 4
  s.setRg .pgPortCfg pg p ((v &&& 0xC0) ||| put 5 4 media ||| put 2 0 mode)

/-- R51: eight lane fields name each port lane once. -/
def isPerm (l : List Nat) : Bool := (List.range 8).all fun k => l.contains k

/-- R50: the lane words of a logical port's physical port. -/
def State.laneWords (s : State) (lp : Nat) : List Word :=
  (List.range 8).map fun l => s.rg .sxlLaneCfg (lp / 32) (8 * (lp % 32 / 4) + l)

/-- R423: a field of two's complement. -/
def tapOf (w : Word) (hi lo : Nat) : Int :=
  let v := fld w hi lo
  if v < 32 then v else (v : Int) - 64

/-- R423: the five taps of an equaliser word, POST1, MAIN, PRE1, PRE2, PRE3, and what each is to be
divided by and multiplied by 63: taps whose magnitudes sum to more than 63 are scaled to that sum. -/
def eqTaps (w : Word) : List Int × Nat :=
  let t := [tapOf w 29 24, (fld w 23 18 : Int), tapOf w 17 12, tapOf w 11 6, tapOf w 5 0]
  (t, max 63 (t.foldl (fun a x => a + x.natAbs) 0))

/-- R423: the transmit taps that an enable reads for a logical port's physical port; with LT_EN on CR or
KR media link training sets them, and the registers are not used. -/
def State.txTaps (s : State) (lp : Nat) : List (List Int × Nat) :=
  let w := s.rg .pgPortCfg (lp / 32) (lp % 32 / 4)
  if (fld w 5 4 = 1 || fld w 5 4 = 2) && bit w 7 then []
  else (List.range 8).map fun l => eqTaps (s.rg .sxlTxEq (lp / 32) (8 * (lp % 32 / 4) + l))

/-- R51: the lane map is a permutation in both directions. -/
def lanesOk (ws : List Word) : Bool :=
  isPerm (ws.map fun w => fld w 2 0) && isPerm (ws.map fun w => fld w 6 4)

/-- R50, R51: a lane whose PRBS or LOOP field is non-zero carries no traffic. -/
def laneOff (w : Word) : Bool :=
  fld w 12 10 = 1 || fld w 12 10 = 2 || fld w 9 8 = 1 || fld w 9 8 = 2

/-- R51: some physical lane of the sub-port carries no traffic, so that it stays out of UP. -/
def State.laneHeld (s : State) (lp : Nat) : Bool :=
  let first := 2 * (lp % 4)
  let n := modeLanes (s.mode lp)
  let mine (k : Nat) := first ≤ k && k < first + n
  (s.port lp).cfg.any fun w => laneOff w && (mine (fld w 2 0) || mine (fld w 6 4))

/-! ### Link states (R55) -/

/-- R45, R55: TRAINING comes before ALIGNING on CR or KR media with AN_EN or LT_EN set. -/
def State.trains (s : State) (lp : Nat) : Bool :=
  let w := s.rg .pgPortCfg (lp / 32) (lp % 32 / 4)
  (fld w 5 4 = 1 || fld w 5 4 = 2) && (bit w 6 || bit w 7)

/-- R54, R55: AM_LOCK is 1 and every fault is 0. -/
def SubPort.clear (p : SubPort) : Bool :=
  p.amLock && ! p.localFault && ! p.remoteFault && ! p.hiSer

/-- R55: UP_HOLD of a sub-port in ns. -/
def State.upHold (s : State) (lp : Nat) : Nat :=
  fld (s.rg .macCtl (lp / 32) (lp % 32)) 31 24 * 1000000

/-- R55: DOWN_HOLD of a sub-port in ns. -/
def State.downHold (s : State) (lp : Nat) : Nat :=
  fld (s.rg .macCtl (lp / 32) (lp % 32)) 23 16 * 1000000

/-- R55: a sub-port in ALIGNING enters UP once its conditions have been clear for UP_HOLD. -/
def State.tryUp (s : State) (lp : Nat) : State :=
  let p := s.port lp
  match p.clearSince with
  | some t =>
    if p.st = .aligning && p.clear && t + s.upHold lp ≤ s.mono && ! s.laneHeld lp then s.setLink lp .up
    else s
  | none => s

/-- R55: a sub-port enters ALIGNING; conditions that are clear start the UP_HOLD count. -/
def State.toAligning (s : State) (lp : Nat) : State :=
  let s := s.setLink lp .aligning
  let p := s.port lp
  s.setPort lp { p with clearSince := if p.clear then some s.mono else none }

/-- R55: a sub-port leaves DISABLED, or a HOLD that failed, for TRAINING or ALIGNING. -/
def State.toDown (s : State) (lp : Nat) : State :=
  if s.trains lp then s.setLink lp .training else s.toAligning lp

/-- R42, R51, R54, R55: an enable reads the lane fields and starts the sub-port, or sets CFG_ERR; one
refused only because the SX domain is not Active starts it later. -/
def State.enableLp (s : State) (lp : Nat) : State :=
  let ws := s.laneWords lp
  let ok := modeHas (s.mode lp) (lp % 4) && lanesOk ws
  let sx := s.isActive (domSx (lp / 32))
  let p := s.port lp
  let s := s.setPort lp { p with cfg := ws, taps := s.txTaps lp, cfgErr := ! (ok && sx), bySx := ok && ! sx, byCage := false, byIso := false }
  if ok && sx then s.toDown lp else s

/-- R53, R55: a write of MAC_LP_CTL. CFG_ERR is cleared when EN goes to 0, which is the model's choice: no
refused enable then stands (log entry 66). -/
def State.writeMacCtl (s : State) (lp : Nat) (v : Word) : State :=
  let was := s.lpEn lp
  let s := s.setRg .macCtl (lp / 32) (lp % 32) (v &&& 0xFFFFBFFF)
  if ! was && bit v 15 then s.enableLp lp
  else if was && ! bit v 15 then
    s.forceDown lp fun p => { p with cfgErr := false, byCage := false, bySx := false, byIso := false }
  else s

/-- R54, R55: the receiver's conditions as they now stand. -/
def State.linkConds (s : State) (lp : Nat) (am lf rf hs : Bool) : State :=
  let p := { s.port lp with amLock := am, localFault := lf, remoteFault := rf, hiSer := hs }
  let since := if p.clear && p.st = .aligning then some (p.clearSince.getD s.mono) else none
  let s := s.setPort lp { p with clearSince := since, holdSince := if p.st = .up && ! p.clear then s.mono else p.holdSince }
  if p.st = .up && ! p.clear then s.setLink lp .hold else s.tryUp lp

/-- R55: the end of DOWN_HOLD. -/
def State.endHold (s : State) (lp : Nat) : State :=
  if (s.port lp).clear then s.setLink lp .up else s.toDown lp

/-! ### Flush engines (R57, R225) -/

/-- R57: the queues of a flush unit and the reason of its discards. -/
def flushQueues : FlushUnit → List Nat × Nat
  | .port lp => ((List.range 10).map fun i => 10 * lp.val + i, 0x2C)
  | .host h => ((List.range 16).map fun i => 2560 + 16 * h.val + i, 0x23)

/-- R57: up to `n` of the marked descriptors are discarded, queue by queue. -/
def State.flushSome (s : State) (qs : List Nat) (reason : Nat) : Nat → State
  | 0 => s
  | n + 1 =>
    match qs.find? s.flushHead with
    | some q => (s.discardHead q reason).flushSome qs reason n
    | none => s

/-- R57, R58, R225: a flush may go on: not that of a down sub-port while the age-limit discard is on. Frames that a
flush marked before the discard came into force are flushed after all once the sub-port is UP again, which is the
model's choice (log entry 81). -/
def State.flushDue (s : State) (u : FlushUnit) : Bool :=
  match u with
  | .port lp => ! (s.ageOn (10 * lp) && (s.port lp).st.down)
  | .host _ => true

/-- R57, R225: a flush engine discards up to `n` descriptors of a flush that has begun; it goes on until no
marked descriptor is left, whether or not the port or host has come back meanwhile. -/
def State.flushUnit (s : State) (u : FlushUnit) (n : Nat) : State :=
  s.flushSome (flushQueues u).1 (flushQueues u).2 n

/-! ### Cage buses (R59-R66) -/

/-- R62: two register pairs of an expander share a command byte. -/
def pairsMeet (a b : Nat) : Bool := a == b || (a + 1) % 256 == b || (b + 1) % 256 == a

/-- R62: a write of 1 to POLL_EN is ignored with these settings. -/
def pollRefused (bus exp_ : Word) : Bool :=
  let i := fld exp_ 31 24
  let o := fld exp_ 23 16
  let d := fld exp_ 15 8
  let base := fld bus 22 16
  let mux := fld bus 14 8
  pairsMeet i o || pairsMeet i d || pairsMeet o d || (base ≤ mux && mux ≤ base + 3)

/-- R63: PERIOD of a cage bus in ns. -/
def State.pollPeriod (s : State) (n : Nat) : Nat :=
  max 1 (min 7 (fld (s.rg .cageBusCfg n) 7 4)) * 1000000

/-- R66: the expander of a cage has failed: the cage is in BUS_LOST. -/
def State.busLost (s : State) (c : Nat) : Bool := (s.bus (c / 8)).lost.contains (c % 8 / 2)

/-- R66: the state that a cage shows. -/
def State.cageSt (s : State) (c : Nat) : CageState :=
  if s.busLost c then .busLost else (s.cage c).st

/-- R66: the code of a cage state. -/
def CageState.code : CageState → Nat
  | .empty => 0
  | .detect => 1
  | .powering => 2
  | .lowPower => 3
  | .highPower => 4
  | .releaseReq => 5
  | .releasing => 6
  | .safe => 7
  | .busLost => 8

/-- R55: the powered states of a cage. -/
def CageState.powered : CageState → Bool
  | .lowPower => true
  | .highPower => true
  | _ => false

/-- R66: a cage's outputs, PWR_EN, RST_N, LPMODE in bits 2:0, in its state; RELEASE_REQ keeps those of
the earlier state, and a reset pulse holds RST_N low. -/
def Cage.levels (x : Cage) : Nat :=
  let of_ (st : CageState) : Nat :=
    match st with
    | .powering => 5
    | .lowPower => 7
    | .highPower => 6
    | .releasing => 7
    | _ => 1
  let n := if x.st = .releaseReq then of_ x.earlier else if x.off then 1 else of_ x.st
  if x.pulse && 2 ≤ n % 4 then n - 2 else n

/-- R66, R67: the LED_G and LED_A levels of a cage: a pattern number, its blinking by device time
(log entry 10). -/
def ledLevels (pat now : Nat) : Bool × Bool :=
  let h1 := now / 500000000 % 2 == 0
  let h2 := now / 250000000 % 2 == 0
  match pat with
  | 1 => (true, false)
  | 2 => (false, true)
  | 3 => (h1, false)
  | 4 => (false, h2)
  | 5 => (h2, ! h2)
  | _ => (false, false)

/-- R66: every enabled sub-port of a cage's port is UP. -/
def State.allUp (s : State) (c : Nat) : Bool :=
  (List.range 4).all fun u => ! s.lpEn (4 * c + u) || (s.port (4 * c + u)).st = .up

/-- R66, R67: the pattern that a cage shows. -/
def State.ledPat (s : State) (c : Nat) : Nat :=
  let w := s.rg .cageCtl (c / 8) (c % 8)
  if fld w 11 10 = 1 then fld w 14 12
  else
    match (s.cage c).st with
    | .powering => 3
    | .lowPower => 3
    | .highPower => if s.allUp c then 1 else 3
    | .releaseReq => 4
    | .releasing => 4
    | .safe => 2
    | _ => 0

/-- R60, R66: what a cage's outputs are to be: the three levels, LED_G in bit 3, LED_A in bit 4. -/
def State.cageWant (s : State) (c : Nat) : Nat :=
  let l := ledLevels (s.ledPat c) s.now
  (s.cage c).levels + 8 * b2n l.1 + 16 * b2n l.2

/-- R60: the output byte of a cage. -/
def outByte (w : Nat) : Nat :=
  128 * (w / 16 % 2) + 64 * (w / 8 % 2) + 32 * (w % 2) + 16 * (w / 2 % 2) + 8 * (w / 4 % 2)

/-- R63: an output write for a cage's expander waits to be issued, if the cage's outputs change or a
time starts with the write; in BUS_LOST the outputs keep what was last written. -/
def State.queueWrite (s : State) (c : Nat) : State :=
  let w := s.cageWant c
  let s := s.setCage c { s.cage c with want := w }
  let b := s.bus (c / 8)
  let k := c % 8 / 2
  if (w ≠ (s.cage c).outs || (s.cage c).armed) && b.polling && ! b.writes.contains k && ! b.lost.contains k then
    s.setBus (c / 8) { b with writes := b.writes ++ [k] }
  else s

/-- R69: an RW1C bit of CAGE_STATc is set. -/
def State.cageEvt (s : State) (c i : Nat) : State := s.orRg .cageStat (c / 8) (c % 8) (flag i true)

/-- R55: a cage that leaves its powered states forces its sub-ports down. -/
def State.cageDown (s : State) (c : Nat) : State :=
  (List.range 4).foldl (fun st u =>
    let lp := 4 * c + u
    if st.lpEn lp then st.forceDown lp fun p => { p with byCage := true } else st) s

/-- R55, R66, R69: a cage moves to a state: its outputs follow, the time of POWERING and RELEASING
starts with the write, and its sub-ports are forced down where it leaves the powered states, enters
RELEASING (log entry 11) or loses a presence that was confirmed. A reset pulse under way runs its time while the
module stays powered (R68). -/
def State.cageTo (s : State) (c : Nat) (st : CageState) : State :=
  let x := s.cage c
  let gone := decide (st = .empty) && x.st ≠ .detect
  let s := if (x.st.powered && ! st.powered) || st = .releasing || gone then s.cageDown c else s
  let timed := decide (st = .powering) || decide (st = .releasing)
  let x := s.cage c
  let goes := x.pulse && (st.powered || st = .releaseReq)
  let s := s.setCage c { x with st := st, earlier := if st = .releaseReq then x.st else x.earlier, settle := if goes then x.settle else none, armed := timed || (goes && x.armed), pulse := goes, off := false, reqSince := s.mono }
  let s := if st = .safe then s.cageEvt c 12 else s
  s.queueWrite c

/-- R66: presence is confirmed. -/
def State.cageIn (s : State) (c : Nat) : State :=
  let s := (s.setCage c { s.cage c with prs := true }).cageEvt c 8
  s.cageTo c (if bit (s.rg .cageCtl (c / 8) (c % 8)) 0 then .powering else .safe)

/-- R66: presence of a cage as polled. Presence counts as changed when two polls agree. -/
def State.cagePresence (s : State) (c : Nat) (p : Bool) : State :=
  let x := s.cage c
  let s := s.setCage c { x with prsSeen := p }
  if x.st = .empty then (if p then s.cageTo c .detect else s)
  else if x.st = .detect then (if p then s.cageIn c else s.cageTo c .empty)
  else if ! p && ! x.prsSeen && x.prs then
    ((s.setCage c { s.cage c with prs := false }).cageEvt c 9).cageTo c .empty
  else s

/-- R66: a counted press. -/
def State.cagePress (s : State) (c : Nat) : State :=
  let s := s.cageEvt c 10
  let x := s.cage c
  match x.st with
  | .lowPower => s.cageTo c .releaseReq
  | .highPower => s.cageTo c .releaseReq
  | .releaseReq => s.cageTo c x.earlier
  | .safe => s.cageTo c .powering
  | _ => s

/-- R66: the button of a cage as polled: a press counts once, when two polls agree. -/
def State.cageButton (s : State) (c : Nat) (p : Bool) : State :=
  let x := s.cage c
  let new_ := if p == x.btnSeen then p else x.btn
  let s := s.setCage c { x with btnSeen := p, btn := new_ }
  if new_ && ! x.btn then s.cagePress c else s

/-- R60, R66, R69: one input byte of a cage. -/
def State.cageInput (s : State) (c : Nat) (b : Nat) : State :=
  let int := b / 2 % 2 == 0
  let s := if int && ! (s.cage c).modInt then s.cageEvt c 11 else s
  let s := s.setCage c { s.cage c with modInt := int }
  let s := s.cagePresence c (b % 2 == 0)
  (s.cageButton c (b / 4 % 2 == 0)).queueWrite c

/-- R64: an expander has not answered: it is tried again at the next poll slot, and after three retries its
cages go to BUS_LOST, and the group raises its cage-bus fault. -/
def State.expFail (s : State) (n k : Nat) : State :=
  let b := s.bus n
  let f := tget (fun _ => 0) b.fails k + 1
  let b := { b with fails := tset (fun _ => 0) b.fails k f, retry := b.retry ++ [k] }
  if f ≤ 3 || b.lost.contains k then s.setBus n b
  else
    let s := s.setBus n { b with lost := b.lost ++ [k], writes := b.writes.filter (· != k) }
    s.raise { src := 48 + n, cls := .orange, code := 0x0E, info := put 26 24 n ||| put 1 0 k }

/-- R64: an expander answers; after a loss its outputs are rewritten. -/
def State.expAnswer (s : State) (n k : Nat) : State :=
  let b := s.bus n
  let back := b.lost.contains k
  let wr := if back && ! b.writes.contains k then b.writes ++ [k] else b.writes
  s.setBus n { b with fails := tset (fun _ => 0) b.fails k 0, lost := b.lost.filter (· != k), writes := wr }

/-- R59: the address of a group's expander k. One above 0x7F goes round modulo 128, which is the model's choice (log
entry 81). -/
def State.expAddr (s : State) (n k : Nat) : Nat := (fld (s.rg .cageBusCfg n) 22 16 + k) % 128

/-- R60: a pair of bytes is written to an expander: the command byte, and both data bytes. -/
def State.expPut (s : State) (n k cmd v : Nat) : State :=
  s.emit (.i2c n (s.expAddr n k) [BitVec.ofNat 8 cmd, BitVec.ofNat 8 v, BitVec.ofNat 8 (v / 256)] 0)

/-- R64: a transaction that has failed: a bus found held low is released with nine clock pulses and a stop. -/
def State.busFail (s : State) (n : Nat) (e : BusEnd) : State := if e = .heldLow then s.emit (.busClear n) else s

/-- R60, R63, R64: one expander's part of a poll: its two input bytes are read. -/
def State.pollExp (s : State) (n k : Nat) (input : ExpRead) : State :=
  let s := s.emit (.i2c n (s.expAddr n k) [BitVec.ofNat 8 (fld (s.rg .cageExpCfg n) 31 24)] 2)
  match input with
  | .failed e => (s.busFail n e).expFail n k
  | .data w =>
    let s := s.expAnswer n k
    let s := s.cageInput (8 * n + 2 * k) (w.toNat % 256)
    s.cageInput (8 * n + 2 * k + 1) (w.toNat / 256)

/-- R63, R64: a poll of a group's four expanders; those that failed are tried again. -/
def State.poll (s : State) (n : Nat) (inputs : List ExpRead) : State :=
  let s := s.setBus n { s.bus n with lastPoll := s.mono, retry := [] }
  (List.range 4).foldl (fun st k => st.pollExp n k ((inputs[k]?).getD (.failed .nack))) s

/-- R55, R63: a cage starts from EMPTY as the poll begins. -/
def State.cageStart (s : State) (c : Nat) : State :=
  (if (s.cage c).st.powered then s.cageDown c else s).setCage c {}

/-- R63, R62: a write of CAGE_BUS_CFG. When POLL_EN goes to 1, the safe outputs and then the directions
are written; the cages start from EMPTY, which forces down the sub-ports of those that leave a powered
state (log entry 10). POLL_EN is judged with the EXP_BASE and MUX_ADDR of the same write, which is the model's choice
(log entry 81). When it goes to 0, the output writes that wait are dropped and every cage keeps its
state, which is the model's choice (log entry 66). -/
def State.writeBusCfg (s : State) (n : Nat) (v : Word) : State :=
  let old := s.rg .cageBusCfg n
  let exp_ := s.rg .cageExpCfg n
  let en := if bit v 24 && pollRefused v exp_ then bit old 24 else bit v 24
  let s := s.setRg .cageBusCfg n 0 ((v &&& 0x7F7FF3) ||| flag 24 en)
  if en && ! bit old 24 then
    let s := (List.range 8).foldl (fun st i => st.cageStart (8 * n + i)) s
    let s := s.setBus n { s.bus n with polling := true, lastPoll := s.mono, fails := [], lost := [], writes := [], retry := [] }
    let dir := if bit exp_ 0 then 0x0707 else 0xF8F8
    let s := (List.range 4).foldl (fun st k => st.expPut n k (fld exp_ 23 16) 0x2020) s
    (List.range 4).foldl (fun st k => st.expPut n k (fld exp_ 15 8) dir) s
  else if ! en then s.setBus n { s.bus n with polling := false, writes := [], retry := [] }
  else s

/-- R63: the settle time of a cage starts with the write that it waited for; the write of power and reset
ends RELEASING (R66). -/
def State.cageWritten (s : State) (c : Nat) : State :=
  let x := s.cage c
  let s := s.setCage c { x with outs := x.want, settle := if x.armed then some s.mono else x.settle, armed := false }
  if x.st = .releasing && x.off then s.cageTo c .safe else s

/-- R60, R63: the next output write is issued, to the first expander that does not wait for a poll slot
(R64). -/
def State.expWrite (s : State) (n : Nat) (e : BusEnd) : State :=
  let b := s.bus n
  match b.writes.find? fun k => ! b.retry.contains k with
  | none => s
  | some k =>
    let c := 8 * n + 2 * k
    let lo := outByte (s.cage c).want
    let hi := outByte (s.cage (c + 1)).want
    let s := s.expPut n k (fld (s.rg .cageExpCfg n) 23 16) (lo + 256 * hi)
    if e = .ack then
      let s := s.setBus n { b with writes := b.writes.erase k, fails := tset (fun _ => 0) b.fails k 0 }
      (s.cageWritten c).cageWritten (c + 1)
    else (s.busFail n e).expFail n k

/-! ### Module transfers (R65) -/

/-- R65: a write of CAGE_XFER_CTL. A write with GO 1 while GO is 1 is ignored whole, its other fields too, and
the fields are not latched at GO: a write with GO 0 while a transfer runs changes what its later segments
use. Both are the model's choice (log entry 66). -/
def State.writeXfer (s : State) (n : Nat) (v : Word) : State :=
  let b := s.bus n
  if bit v 31 && b.go then s
  else
    let s := s.setRg .cageXferCtl n 0 (v &&& 0x5FFFFFF0)
    if bit v 31 then
      let c := 8 * n + fld v 6 4
      let ok := (s.cageSt c).powered && fld v 21 14 + fld v 13 7 ≤ 255
      s.setBus n { b with go := ok, err := ! ok, done := 0 }
    else s

/-- R65: the transfer buffer as bytes. -/
def State.xferBytes (s : State) (n : Nat) : List Byte :=
  (List.range 32).flatMap fun j => leBytes (s.rg .cageXferData n j)

/-- R65: bytes put into the transfer buffer. -/
def State.xferPut (s : State) (n off : Nat) (data : List Byte) : State :=
  let old := s.xferBytes n
  let new_ := (List.range 128).map fun i =>
    if off ≤ i && i < off + data.length then bAt data (i - off) else bAt old i
  (List.range 32).foldl (fun st j => st.setRg .cageXferData n j (leWord new_ (4 * j))) s

/-- R59, R63, R65: the transactions of one segment: the switch selects the cage's channel, the module is
written at the segment's own offset or told the offset and read, and every channel is deselected. -/
def State.segPut (s : State) (n k : Nat) : State :=
  let w := s.rg .cageXferCtl n
  let mux := fld (s.rg .cageBusCfg n) 14 8
  let done := (s.bus n).done
  let off : Byte := BitVec.ofNat 8 (fld w 21 14 + done)
  let s := s.emit (.i2c n mux [BitVec.ofNat 8 (2 ^ fld w 6 4)] 0)
  let s := if bit w 30 then s.emit (.i2c n (fld w 28 22) (off :: slice (s.xferBytes n) done k) 0)
    else s.emit (.i2c n (fld w 28 22) [off] k)
  s.emit (.i2c n mux [0] 0)

/-- R63, R65: one segment of a transfer. It goes on when its cage leaves LOW_POWER and HIGH_POWER, which is the model's
choice (log entry 81). -/
def State.segment (s : State) (n : Nat) (e : BusEnd) (data : List Byte) : State :=
  let b := s.bus n
  let w := s.rg .cageXferCtl n
  let len := fld w 13 7 + 1
  let k := min 16 (len - b.done)
  let s := s.segPut n k
  if e ≠ .ack then (s.setBus n { b with go := false, err := true }).busFail n e
  else
    let s := if bit w 30 then s else s.xferPut n b.done (slice data 0 k)
    s.setBus n { b with done := b.done + k, go := b.done + k < len }

/-! ### Cage commands and times (R66, R68) -/

/-- R67: PWR_SETTLE of a cage in ns. -/
def State.pwrSettle (s : State) (c : Nat) : Nat :=
  max 1 (fld (s.rg .cageCtl (c / 8) (c % 8)) 22 15) * 1000000

/-- R66: the end of PWR_SETTLE; in RELEASING power and reset are then to be written. -/
def State.settleEnd (s : State) (c : Nat) : State :=
  let x := s.cage c
  let s := s.setCage c { x with settle := none }
  match x.st with
  | .powering => s.cageTo c .lowPower
  | .releasing => (s.setCage c { s.cage c with off := true }).queueWrite c
  | _ => (s.setCage c { s.cage c with pulse := false }).queueWrite c

/-- R68: a cage command by its code; one that is not valid in the cage's state is ignored. RESET_PULSE during a pulse
starts its time again, which is the model's choice (log entry 81). -/
def State.cageCmd (s : State) (c code : Nat) : State :=
  match code, s.cageSt c with
  | 1, .safe => s.cageTo c .powering
  | 2, .lowPower => s.cageTo c .highPower
  | 3, .highPower => s.cageTo c .lowPower
  | 4, .lowPower => s.cageTo c .releasing
  | 4, .highPower => s.cageTo c .releasing
  | 4, .releaseReq => s.cageTo c .releasing
  | 5, .lowPower => (s.setCage c { s.cage c with pulse := true, armed := true, settle := none }).queueWrite c
  | 5, .highPower => (s.setCage c { s.cage c with pulse := true, armed := true, settle := none }).queueWrite c
  | 6, .releaseReq => s.cageTo c (s.cage c).earlier
  | _, _ => s

/-! ### Meanings -/

/-- PORT_CFG_WRITE (R49). -/
def execPortCfgWrite (r : Req) (pg p : Fin 8) (v : Word) (s : State) : Host.Outcome State Fault Refusal :=
  act s.regOn (fun s => s.access r (domPg pg) fun s => s.writePortCfg pg p v) s

/-- SUB_PORT_ENABLE (R53, R55): a write of MAC_LP_CTL with EN 1. -/
def execSubPortEnable (r : Req) (lp : Fin 256) (v : Word) (s : State) : Host.Outcome State Fault Refusal :=
  act s.regOn (fun s => s.access r (domPg (lp / 32)) fun s => s.writeMacCtl lp (v ||| flag 15 true)) s

/-- SUB_PORT_DISABLE (R53, R55): a write of MAC_LP_CTL with EN 0. -/
def execSubPortDisable (r : Req) (lp : Fin 256) (v : Word) (s : State) : Host.Outcome State Fault Refusal :=
  act s.regOn (fun s => s.access r (domPg (lp / 32)) fun s => s.writeMacCtl lp (v &&& ~~~ flag 15 true)) s

/-- TRAINING_COMPLETE (R45, R55). -/
def execTrainingComplete (lp : Fin 256) (s : State) : Host.Outcome State Fault Refusal :=
  act (s.pgOn (lp / 32) && (s.port lp).st = .training) (fun s => s.toAligning lp) s

/-- ALIGNMENT_MARKER_LOCK (R55). -/
def execAlignmentMarkerLock (lp : Fin 256) (s : State) : Host.Outcome State Fault Refusal :=
  act (s.pgOn (lp / 32) && (s.port lp).st = .aligning) (fun s => s.linkConds lp true false false false) s

/-- UP_HOLD_EXPIRY (R55). -/
def execUpHoldExpiry (lp : Fin 256) (s : State) : Host.Outcome State Fault Refusal :=
  act (s.pgOn (lp / 32)) (fun s => s.tryUp lp) s

/-- LINK_FAULT (R54, R55). -/
def execLinkFault (lp : Fin 256) (am lf rf hs : Bool) (s : State) : Host.Outcome State Fault Refusal :=
  act (s.pgOn (lp / 32) && (s.port lp).st ≠ .disabled) (fun s => s.linkConds lp am lf rf hs) s

/-- DOWN_HOLD_EXPIRY (R55). -/
def execDownHoldExpiry (lp : Fin 256) (s : State) : Host.Outcome State Fault Refusal :=
  act (s.pgOn (lp / 32) && (s.port lp).st = .hold && (s.port lp).holdSince + s.downHold lp ≤ s.mono)
    (fun s => s.endHold lp) s

/-- SUB_PORT_AUTO_RESUME (R55). -/
def execSubPortAutoResume (lp : Fin 256) (s : State) : Host.Outcome State Fault Refusal :=
  let p := s.port lp
  act (s.pgOn (lp / 32) && p.st = .disabled && s.lpEn lp && (p.byCage || p.bySx) && ! p.byIso &&
      (! p.byCage || (s.cageSt (lp / 4)).powered) && s.isActive (domSx (lp / 32)))
    (fun s => s.enableLp lp) s

/-- PORT_DOWN_FLUSH (R57, R225). -/
def execPortDownFlush (u : FlushUnit) (n : Nat) (s : State) : Host.Outcome State Fault Refusal :=
  act (s.live && s.clkOk 144 && s.flushDue u) (fun s => s.flushUnit u n) s

/-- EXPANDER_INIT (R63): a write of CAGE_BUS_CFG. -/
def execExpanderInit (r : Req) (pg : Fin 8) (v : Word) (s : State) : Host.Outcome State Fault Refusal :=
  act s.regOn (fun s => s.access r (domPg pg) fun s => s.writeBusCfg pg v) s

/-- CAGE_POLL (R63, R66). -/
def execCagePoll (pg : Fin 8) (inputs : List ExpRead) (s : State) : Host.Outcome State Fault Refusal :=
  act (s.pgOn pg && (s.bus pg).polling && (s.bus pg).lastPoll + s.pollPeriod pg ≤ s.mono)
    (fun s => s.poll pg inputs) s

/-- EXPANDER_OUTPUT_WRITE (R63). -/
def execExpanderOutputWrite (pg : Fin 8) (e : BusEnd) (s : State) : Host.Outcome State Fault Refusal :=
  act (s.pgOn pg && (s.bus pg).polling) (fun s => s.expWrite pg e) s

/-- MODULE_TRANSFER (R65): a write of CAGE_XFER_CTL. -/
def execModuleTransfer (r : Req) (pg : Fin 8) (v : Word) (s : State) : Host.Outcome State Fault Refusal :=
  act s.regOn (fun s => s.access r (domPg pg) fun s => s.writeXfer pg v) s

/-- TRANSFER_SEGMENT (R63, R65). -/
def execTransferSegment (pg : Fin 8) (e : BusEnd) (data : List Byte) (s : State) : Host.Outcome State Fault Refusal :=
  act (s.pgOn pg && (s.bus pg).go) (fun s => s.segment pg e data) s

/-- STRETCH_TIMEOUT (R437): the bus is recovered with nine clock pulses and a stop (R64). -/
def execStretchTimeout (pg : Fin 8) (expander : Option (Fin 4)) (s : State) : Host.Outcome State Fault Refusal :=
  match expander with
  | none =>
    act (s.pgOn pg && (s.bus pg).go)
      (fun s => (s.setBus pg { s.bus pg with go := false, err := true }).emit (.busClear pg)) s
  | some k =>
    act (s.pgOn pg && (s.bus pg).polling && ! (s.bus pg).retry.contains k.val)
      (fun s => (s.expFail pg k).emit (.busClear pg)) s

/-- PWR_SETTLE_EXPIRY (R66). -/
def execPwrSettleExpiry (cg : Fin 64) (s : State) : Host.Outcome State Fault Refusal :=
  let due := match (s.cage cg).settle with
    | some t => decide (t + s.pwrSettle cg ≤ s.mono)
    | none => false
  act (s.pgOn (cg / 8) && ! s.busLost cg && due) (fun s => s.settleEnd cg) s

/-- RELEASE_TIMEOUT (R66). -/
def execReleaseTimeout (cg : Fin 64) (s : State) : Host.Outcome State Fault Refusal :=
  let w := s.rg .cageCtl (cg / 8) (cg % 8)
  let t := fld w 9 2
  act (s.pgOn (cg / 8) && s.cageSt cg = .releaseReq && t ≠ 0 && (s.cage cg).reqSince + t * 1000000000 ≤ s.mono)
    (fun s => s.cageTo cg (if bit w 1 then .releasing else (s.cage cg).earlier)) s

/-- POWER_ON (R68): command 1 of CAGE_CMDc. -/
def execPowerOn (r : Req) (cg : Fin 64) (s : State) : Host.Outcome State Fault Refusal :=
  act s.regOn (fun s => s.access r (domPg (cg / 8)) fun s => s.cageCmd cg 1) s

/-- HIGH_POWER (R68): command 2. -/
def execHighPower (r : Req) (cg : Fin 64) (s : State) : Host.Outcome State Fault Refusal :=
  act s.regOn (fun s => s.access r (domPg (cg / 8)) fun s => s.cageCmd cg 2) s

/-- LOW_POWER (R68): command 3. -/
def execLowPower (r : Req) (cg : Fin 64) (s : State) : Host.Outcome State Fault Refusal :=
  act s.regOn (fun s => s.access r (domPg (cg / 8)) fun s => s.cageCmd cg 3) s

/-- RELEASE (R68): command 4. -/
def execRelease (r : Req) (cg : Fin 64) (s : State) : Host.Outcome State Fault Refusal :=
  act s.regOn (fun s => s.access r (domPg (cg / 8)) fun s => s.cageCmd cg 4) s

/-- RESET_PULSE (R68): command 5. -/
def execResetPulse (r : Req) (cg : Fin 64) (s : State) : Host.Outcome State Fault Refusal :=
  act s.regOn (fun s => s.access r (domPg (cg / 8)) fun s => s.cageCmd cg 5) s

/-- CANCEL (R68): command 6. -/
def execCancel (r : Req) (cg : Fin 64) (s : State) : Host.Outcome State Fault Refusal :=
  act s.regOn (fun s => s.access r (domPg (cg / 8)) fun s => s.cageCmd cg 6) s

end Sys2Proof.Machine
end

