-- ==== Sys2Proof/Machine/Ingress.lean ====
section
/-! DEFINITION. The ingress path up to the dispatcher: the MAC's checks (R47, R421), dealing and
stamping (R25, R70, R113), the classifier (R73-R76), the parser (R81-R85), the lookups (R90, R92,
R103), learning decisions (R95, R99) and the L2-only path (R167). -/

namespace Sys2Proof.Machine

open Sys2Proof

/-! ### Stamping -/

/-- R113: the units of 256 bytes that a frame occupies in the holding store. -/
def holdUnitsOf (len : Nat) : Nat := (len + 255) / 256

/-- R116: the issue class of a member in a parity, as a group's copy has it. -/
def State.classOf (s : State) (n : Nat) (par : Bool) (member : Nat) : Nat :=
  fld (wAt (s.cpRead n 9 par (member / 16)) 0) (2 * (member % 16) + 1) (2 * (member % 16))

/-- R114: HOLD_CAP of a class in units of 256 bytes. -/
def State.holdCap (s : State) (n cls : Nat) : Nat :=
  let v := fld (s.rg .prsDispCfg n) (8 * cls + 7) (8 * cls)
  if v = 0 then 16384 else 64 * v

/-- R25: the next pipe in rotation with a free header slot. -/
def State.nextPipe (s : State) (n : Nat) (slots : BitVec 6) : Option Nat :=
  (List.range 6).findSome? fun d =>
    let p := ((s.grp n).rot + d) % 6
    if slots.getLsbD p then some p else none

/-- R113: the holding store, or a class's share of it, cannot take a frame. -/
def State.holdFull (s : State) (n cls units : Nat) : Bool :=
  let g := s.grp n
  decide (16384 < g.holdUnits + units) || decide (s.holdCap n cls < (g.holdCls[cls]?).getD 0 + units)

/-- R70: stamping: the reason of a refusal, or the pipe that takes the frame. -/
def State.stampCheck (s : State) (lp len : Nat) (slots : BitVec 6) : Nat ⊕ Nat :=
  let n := lp / 32
  if (s.grp n).isolated then .inl 0x03
  else
    match s.nextPipe n slots with
    | none => .inl 0x01
    | some p =>
      let par := ((s.grp n).par[p]?).getD false
      if s.holdFull n (s.classOf n par (s.memberOf lp par)) (holdUnitsOf len) then .inl 0x02 else .inr p

/-- R70: a frame takes its header slot: its stamp, its sequence number and its room in the holding
store. The answer is the frame's number. -/
def State.accept (s : State) (lp : Nat) (bytes : List Byte) (time pipe : Nat) (inject : Bool) : Nat × State :=
  let n := lp / 32
  let g := s.grp n
  let par := (g.par[pipe]?).getD false
  let member := s.memberOf lp par
  let cls := s.classOf n par member
  let units := holdUnitsOf bytes.length
  let p := s.port lp
  let stamp : Stamp := { time := time % 2 ^ 48, epoch := par, lport := lp, member := member, seq := p.seqNext, pipe := pipe, inject := inject }
  let k := s.nextPkt
  let hc := (List.range 4).map fun c => ((g.holdCls[c]?).getD 0) + (if c = cls then units else 0)
  let s : State := { s with nextPkt := k + 1 }
  let s := s.setPort lp { p with seqNext := (p.seqNext + 1) % 65536 }
  let s := s.setGrp n { g with rot := (pipe + 1) % 6, holdUnits := g.holdUnits + units, holdCls := hc }
  (k, s.setPkt k { bytes := bytes, stamp := stamp, cls := cls, units := units, capCls := cls })

/-! ### Classifier (R73-R76) -/

/-- R73: DA_CLASS of a frame. -/
def daClass (bytes : List Byte) : Nat :=
  if macAt bytes 0 = 0xFFFFFFFFFFFF then 2 else if (bAt bytes 0).toNat % 2 = 1 then 1 else 0

/-- R73: the four 40-bit slices of the classifier key. -/
def keySlice (p : Pkt) (j : Nat) : Nat :=
  let f := p.bytes
  match j with
  | 0 => b2n p.stamp.epoch * 2 ^ 39 + p.stamp.lport % 32 * 2 ^ 34 + daClass f * 2 ^ 32 + be16 f 12 * 2 ^ 16 + be16 f 16
  | 1 => be16 f 14 * 2 ^ 24 + be16 f 18 * 2 ^ 8 + b2n p.stamp.inject * 2 ^ 7
  | 2 => beNat (slice f 20 5)
  | _ => p.stamp.member * 2 ^ 28 + beNat (slice f 25 3)

/-- R74, R75: unit j of an entry matches its slice. -/
def unitMatch (e : List Word) (p : Pkt) (j : Nat) : Bool :=
  let v := (wAt e (4 * j)).toNat + fld (wAt e (4 * j + 1)) 7 0 * 2 ^ 32
  let c := (wAt e (4 * j + 2)).toNat + fld (wAt e (4 * j + 3)) 7 0 * 2 ^ 32
  (v ^^^ keySlice p j) &&& c == 0

/-- R74: units per entry of a width code. -/
def widthUnits (code : Nat) : Nat :=
  match code with
  | 0 => 1
  | 1 => 2
  | _ => 4

/-- R76: the entry that wins in a pipe's copy: the lowest bank, and in it the lowest index. -/
def State.ascHit (s : State) (pipe : Nat) (p : Pkt) : Option (List Word) :=
  let base := pipe * 4096
  (s.tbl.ascC.find? fun e =>
    base ≤ e.1 && e.1 < base + 4096 && bit (wAt e.2 16) 31 &&
      (List.range (widthUnits (tget (fun _ => 0) s.tbl.ascCW (pipe * 8 + (e.1 - base) / 512)))).all fun j =>
        unitMatch e.2 p j).map Prod.snd

/-- R76: parse profile and bridge domain of a frame. -/
def State.classify (s : State) (p : Pkt) : Nat × Nat :=
  match s.ascHit (6 * (p.stamp.lport / 32) + p.stamp.pipe) p with
  | none => (0, 0)
  | some e =>
    let w := wAt e 16
    let bd := fld w 13 0
    (fld w 29 24, if bit w 30 then (bd + be16 p.bytes 14 % 4096) % 16384 else bd)

/-! ### Parser (R81-R84) -/

/-- R81: window n of a profile: destination, length, source, where it is enabled. -/
def prWindow (pr : List Word) (n : Nat) : Option (Nat × Nat × Nat) :=
  let w := wAt pr (2 + n)
  if bit w 31 then some (fld w 30 25, fld w 24 21 + 1, fld w 20 13) else none

/-- R83: check c passes, or is not enabled. -/
def prCheck (pr : List Word) (bytes : List Byte) (c : Nat) : Bool :=
  let a := wAt pr (26 + 2 * c)
  let b := wAt pr (27 + 2 * c)
  ! bit b 31 || (be16 bytes (fld b 7 0) &&& fld a 31 16) == (fld a 15 0 &&& fld a 31 16)

/-- R81: STA_OFF of a profile. -/
def prStaOff (pr : List Word) : Nat := fld (wAt pr 0) 23 16

/-- R81: the bytes of a neighbour target address. -/
def nbrLen (mode : Nat) : Nat :=
  match mode with
  | 1 => 4
  | 2 => 16
  | _ => 0

/-- R83: the parse length that a profile needs. -/
def prNeed (pr : List Word) : Nat :=
  let ws := (List.range 24).map fun n =>
    match prWindow pr n with
    | some (_, len, src) => src + len
    | none => 0
  let cs := (List.range 6).map fun c =>
    let b := wAt pr (27 + 2 * c)
    if bit b 31 then fld b 7 0 + 2 else 0
  let nb := if prNbrMode pr = 0 then 0 else prNbrOff pr + nbrLen (prNbrMode pr)
  (ws ++ cs).foldl max (max (prStaOff pr + 12) nb)

/-- R83: a frame matches its profile. -/
def prMatch (pr : List Word) (bytes : List Byte) : Bool :=
  bit (wAt pr 0) 31 && (List.range 6).all (prCheck pr bytes) && prNeed pr ≤ bytes.length - 4

/-- R84: the key of a matching frame. -/
def prKey (pr : List Word) (bytes : List Byte) : List Byte :=
  (List.range 24).foldl (fun key n =>
    match prWindow pr n with
    | some (dst, len, src) => slice (patch key dst (slice bytes src len)) 0 64
    | none => key) (zeros 64)

/-! ### Lookups and the record (R85, R90, R92, R103) -/

/-- R85: the words of a record that are known before the lookups. -/
def State.record0 (s : State) (p : Pkt) (prof bd : Nat) (pr : List Word) : List Word :=
  let b := wAt (s.cpRead (p.stamp.lport / 32) 5 p.stamp.epoch bd) 0
  let w0 := flag 31 p.stamp.epoch ||| put 30 25 prof ||| put 24 17 (fld (wAt pr 1) 15 8) ||| put 16 3 bd
  let w1 := put 31 24 p.stamp.lport ||| put 23 12 p.stamp.member ||| put 11 10 (daClass p.bytes) ||| put 9 8 (fld b 29 28) ||| put 7 6 (fld b 27 26) ||| flag 5 (bit b 30) ||| flag 4 (bit b 31)
  [w0, w1, put 31 18 p.bytes.length, 0, 0, 0, 0, 0]

/-- R85: BD of a record. -/
def recBd (r : List Word) : Nat := fld (wAt r 0) 16 3

/-- R85: BD_VALID of a record. -/
def recBdValid (r : List Word) : Bool := bit (wAt r 1) 4

/-- R85: the result of a destination or source lookup. -/
def recPut (r : List Word) (source : Bool) (stat : Nat) (e : List Word) : List Word :=
  if source then
    setAt (setAt (setAt r 2 (setFld (wAt r 2) 15 14 stat)) 4 (setFld (wAt r 4) 15 0 (fld (wAt e 3) 15 0))) 5 (wAt e 2)
  else
    setAt (setAt (setAt r 2 (setFld (wAt r 2) 17 16 stat)) 4 (setFld (wAt r 4) 31 16 (fld (wAt e 3) 15 0))) 3 (wAt e 2)

/-- R90: a lookup's hit is recorded; a source hit sets the entry's hit bit. -/
def State.lookHit (s : State) (k : Nat) (source : Bool) (key : Nat) : State :=
  let p := s.pkt k
  let rep := p.stamp.lport / 64
  let e := s.staR rep key
  let s := s.setPkt k { p with lrec := recPut p.lrec source 1 e, saEnt := if source then some e else p.saEnt }
  if source then { s with tbl := { s.tbl with hit := tset (fun _ => false) s.tbl.hit (rep * 2 ^ 20 + key) true } }
  else s

/-- R90, R92: one station lookup: the bucket; then, where its SPILL flag is set, a search of the
overflow store, queued or refused as overflow busy. -/
def State.lookup (s : State) (k : Nat) (source : Bool) (mac : Nat) : State :=
  let p := s.pkt k
  let n := p.stamp.lport / 32
  let bd := recBd p.lrec
  if ! recBdValid p.lrec then s
  else
    match s.bucketHit (n / 2) bd mac p.stamp.epoch with
    | some key => s.lookHit k source key
    | none =>
      if ! tget (fun _ => false) s.tbl.spill (staBucket s.staSeed bd mac) then s
      else
        let g := s.grp n
        if 32 ≤ g.searches.length then
          (s.setPkt k { p with lrec := recPut p.lrec source 2 [] }).bump .prsOvfBusy n 0
        else
          let s := s.setGrp n { g with searches := g.searches ++ [{ pkt := k, source := source }] }
          s.setPkt k { p with needDa := p.needDa || ! source, needSa := p.needSa || source }

/-- R103: the neighbour lookup of a frame. It is made in a bridge domain with VALID 0 too: R90's miss
without reading names the station lookups only, DEDUCED (log entry 66). -/
def State.nbrLook (s : State) (k : Nat) (pr : List Word) : State :=
  let p := s.pkt k
  let mode := prNbrMode pr
  let addr := slice p.bytes (prNbrOff pr) (nbrLen mode)
  match s.nbrLookup (p.stamp.lport / 64) (mode == 2) (recBd p.lrec) addr p.stamp.epoch with
  | some mac =>
    let r := setAt (setAt p.lrec 6 (wd mac)) 7 (wd (mac / 2 ^ 32))
    s.setPkt k { p with lrec := setAt r 2 (setFld (wAt r 2) 13 12 1) }
  | none => s.setPkt k { p with lrec := setAt p.lrec 2 (setFld (wAt p.lrec 2) 13 12 2) }

/-! ### The L2-only path (R107, R167) -/

/-- R167: the verdict of the L2-only path. -/
def State.l2Verdict (s : State) (p : Pkt) (pr : List Word) : List Word :=
  let r := p.lrec
  let b := wAt (s.cpRead (p.stamp.lport / 32) 5 p.stamp.epoch (recBd r)) 0
  let v := s.verdict0 p
  let flood (v : List Word) (cls : Nat) := vdSet (vdSet (vdSet v 3 2) 5 (fld b 14 0)) 8 cls
  if ! recBdValid r then vdDrop v 0x11
  else
    let v :=
      if fld (wAt r 1) 11 10 ≠ 0 then flood v 1
      else if fld (wAt r 2) 17 16 = 1 then
        let t := wAt r 3
        if fld t 31 30 = 3 then vdDrop (vdSet (vdSet v 3 3) 5 (fld t 29 15)) 0x12
        else vdSet (vdSet v 3 (fld t 31 30)) 5 (fld t 29 15)
      else
        match fld (wAt r 1) 7 6 with
        | 0 => flood v 2
        | 1 => vdDrop v 0x13
        | _ => vdPunt v (fld (wAt pr 0) 15 11)
    if prNbrMode pr = 0 || vdGet v 0 = 1 then v
    else
      let v := vdSet v 8 3
      if fld (wAt r 1) 9 8 = 2 && ndKind pr p.bytes ≠ .other then vdDrop v 0x14 else v

/-! ### On to the engines -/

/-- R111, R113, R116, R167: a frame whose lookups and learning are done goes to the dispatcher's queue of its
class, as the map of its EPOCH then has it, or takes the L2-only path. -/
def State.forward (s : State) (k : Nat) : State :=
  let p := s.pkt k
  let n := p.stamp.lport / 32
  if p.l2 then
    let (dig, s) := s.digSample (64 + n)
    let p := { p with dig := dig }
    let s := s.setPkt k p
    s.handOff k (s.l2Verdict p (s.cpRead n 4 p.stamp.epoch (pktProfile p))) .verdict
  else
    let g := s.grp n
    let cls := s.classOf n p.stamp.epoch p.stamp.member
    (s.setPkt k { p with cls := cls }).setGrp n { g with waitq := tmod (fun _ => []) g.waitq cls (· ++ [k]) }

/-- R95, R97: the learning decision for a notice: suppressed, posted, or the EXCESS action; the answer
says that the frame goes on. -/
def State.learn (s : State) (k : Nat) (x : Notice) : State :=
  let n := x.lport / 32
  let cfg := s.rg .prsLrnCfg n (x.lport % 32)
  if s.suppressed n x.key then s.forward k
  else if s.lrnCount x.lport < fld cfg 15 0 then (s.postNotice x).forward k
  else
    let s := s.bumpHigh .prsLrnStat n (x.lport % 32)
    if bit cfg 16 then s.forward k else s.endPkt k .parse 0x07

/-- R90: the address that a frame's destination or source lookup looks for. -/
def Pkt.staMac (p : Pkt) (source : Bool) : Nat := macAt p.bytes (p.staOff + if source then 6 else 0)

/-- R95, R99: learning once both lookups are done. -/
def State.decideLearn (s : State) (k : Nat) : State :=
  let p := s.pkt k
  let lp := p.stamp.lport
  let n := lp / 32
  let cfg := s.rg .prsLrnCfg n (lp % 32)
  let on := recBdValid p.lrec && bit (wAt p.lrec 1) 5 && fld cfg 15 0 ≠ 0
  let lag := s.lagOf n p.stamp.epoch lp
  let x : Notice := { pg := n, key := noticeKey (recBd p.lrec) (p.staMac true), lport := lp, member := p.stamp.member, lag := lag, move := false }
  if ! on then s.forward k
  else
    match fld (wAt p.lrec 2) 15 14 with
    | 0 => s.learn k x
    | 1 =>
      let e := p.saEnt.getD []
      if bit (wAt e 3) 29 && ! bit (wAt e 3) 30 && tgtDiffers (wAt e 2) (lrnTarget lp p.stamp.member lag) then
        if bit cfg 17 then s.endPkt k .parse 0x08 else s.learn k { x with move := true }
      else s.forward k
    | _ => s.forward k

/-- R92: a frame goes on once no search of its is outstanding. -/
def State.afterLookups (s : State) (k : Nat) : State :=
  if (s.pkt k).needDa || (s.pkt k).needSa then s else s.decideLearn k

/-- R90, R103: the lookups of a frame, by its profile as it is now. -/
def State.lookups (s : State) (k : Nat) (pr : List Word) (nbr : Bool) : State :=
  let s := s.setPkt k { s.pkt k with staOff := prStaOff pr }
  let s := if nbr then s.nbrLook k pr else s
  ((s.lookup k false ((s.pkt k).staMac false)).lookup k true ((s.pkt k).staMac true)).afterLookups k

/-- R83: the L2-only default: a key of zeros, and the lookups that the parse length covers. -/
def State.l2Default (s : State) (k : Nat) (pr : List Word) : State :=
  let p := s.pkt k
  let n := p.bytes.length - 4
  let nbr := decide (prNbrMode pr ≠ 0) && decide (prNbrOff pr + nbrLen (prNbrMode pr) ≤ n)
  let s := s.setPkt k { p with l2 := true, key := zeros 64 }
  if prStaOff pr + 12 ≤ n then s.lookups k pr nbr
  else (if nbr then s.nbrLook k pr else s).forward k

/-- R76-R85: a stamped frame is classified and parsed. -/
def State.parse (s : State) (k : Nat) : State :=
  let p := s.pkt k
  let (prof, bd) := s.classify p
  let pr := s.cpRead (p.stamp.lport / 32) 4 p.stamp.epoch prof
  let p := { p with lrec := s.record0 p prof bd pr, key := zeros 64 }
  let s := s.setPkt k p
  if prMatch pr p.bytes then
    let s := s.setPkt k { p with key := prKey pr p.bytes, l2 := fld (wAt pr 0) 1 0 = 1 }
    s.lookups k pr (prNbrMode pr ≠ 0)
  else
    match fld (wAt pr 0) 3 2 with
    | 0 => s.endPkt k .parse (fld (wAt pr 0) 10 4)
    | 1 => s.l2Default k pr
    | _ =>
      let hq := fld (wAt pr 0) 15 11
      let s := s.setPkt k { p with verdict := vdPunt (s.verdict0 p) hq, puntSrc := .profile }
      s.seqPut p.stamp.lport p.stamp.seq (.pass k (.host hq))

/-- R70, R248: a frame reaches stamping from the MAC, or from an inject ring, is counted, and is
refused or taken on. -/
def State.deal (s : State) (lp : Nat) (bytes : List Byte) (time : Nat) (slots : BitVec 6) (inject : Bool) : State :=
  let term := if inject then Term.inj else Term.inn
  match s.stampCheck lp bytes.length slots with
  | .inl r =>
    (s.book lp s.epc.c term).drop .stamping r { lp := lp, par := s.epc.c, time := time % 2 ^ 48, flen := bytes.length, bytes := bytes }
  | .inr pipe =>
    let (k, s) := s.accept lp bytes time pipe inject
    (s.book lp (s.pkt k).stamp.epoch term).parse k

/-! ### The MAC (R47, R383, R421) -/

/-- R47: the FCS of a frame checks. -/
def fcsOk (bytes : List Byte) : Bool :=
  leWord bytes (bytes.length - 4) == crcEth (bytes.take (bytes.length - 4))

/-- R47, R383: the counter of the first check that a received frame fails. -/
def State.macFail (s : State) (lp : Nat) (bytes : List Byte) (aligned : Bool) : Option RegName :=
  if ! aligned then some .macRxAlign
  else if bytes.length < 64 then some .macRxRunt
  else if s.maxLen lp < bytes.length then some .macRxLong
  else if ! fcsOk bytes then some .macRxFcs
  else if ! bit (s.rg .chipCtl) 8 then some .macRxFwdOff
  else none

/-- R47, R70: a frame received whole. -/
def State.receive (s : State) (lp : Nat) (bytes : List Byte) (aligned : Bool) (sof : Nat) (slots : BitVec 6) : State :=
  match s.macFail lp bytes aligned with
  | some c => s.bump c (lp / 32) (lp % 32)
  | none => ((s.addCtr .macRxOkLo (lp / 32) (lp % 32)).addLine lp 0 bytes.length).deal lp bytes sof slots false

/-- R92: the next waiting search of a group's overflow store. -/
def State.search (s : State) (n : Nat) : State :=
  let g := s.grp n
  match g.searches with
  | [] => s
  | x :: l =>
    let s := s.setGrp n { g with searches := l }
    let p := s.pkt x.pkt
    let p := if x.source then { p with needSa := false } else { p with needDa := false }
    let s := s.setPkt x.pkt p
    let s := match s.overflowHit (n / 2) (recBd p.lrec) (p.staMac x.source) p.stamp.epoch with
      | some key => s.lookHit x.pkt x.source key
      | none => s
    s.afterLookups x.pkt

/-! ### Meanings -/

/-- RECEIVE_FRAME (R47): a frame arrives on a sub-port in UP or HOLD (log entry 12). -/
def execReceiveFrame (lp : Fin 256) (bytes : List Byte) (aligned : Bool) (sof : Nat) (slots : BitVec 6) (s : State) : Host.Outcome State Fault Refusal :=
  act (s.pgOn (lp / 32) && ! (s.port lp).st.down) (fun s => s.receive lp bytes aligned sof slots) s

/-- OVERFLOW_SEARCH (R92). -/
def execOverflowSearch (pg : Fin 8) (s : State) : Host.Outcome State Fault Refusal :=
  act (s.pgOn pg && ! (s.grp pg).searches.isEmpty) (fun s => s.search pg) s

end Sys2Proof.Machine
end

