-- ==== Sys2Proof/Machine/Commands.lean ====
section
/-! DEFINITION. Table commands (R190-R198): the checks of a command and of an entry's fields, the keyed,
indexed and associative writes, staged and unstaged (R177-R179, R191), the associative fan-out (R77,
R79, R80), and completions (R193-R195). -/

namespace Sys2Proof.Machine

open Sys2Proof

/-! ### Descriptors (R190) -/

/-- R190: TABLE. -/
def TCmd.table (c : TCmd) : Nat := fld (wAt c.desc 0) 23 20

/-- R190: INDEX. -/
def TCmd.index (c : TCmd) : Nat := (wAt c.desc 1).toNat

/-- R190: COUNT. -/
def TCmd.count (c : TCmd) : Nat := fld (wAt c.desc 4) 23 0

/-- R190: ARG0. -/
def TCmd.arg0 (c : TCmd) : Word := wAt c.desc 5

/-- R190: ARG1. -/
def TCmd.arg1 (c : TCmd) : Word := wAt c.desc 6

/-- R198: the command came from a direct bank. -/
def TCmd.ofBank (c : TCmd) : Bool :=
  match c.src with
  | .bank _ => true
  | .ring _ _ => false

/-- R191: the opcodes that are defined. -/
def opDefined (op : Nat) : Bool := 1 ≤ op && op ≤ 0x10

/-- R191, R194: an opcode that is not valid with its STAGED bit. -/
def opStagedBad (op : Nat) (staged : Bool) : Bool :=
  match op with
  | 0x01 => staged
  | 0x05 => staged
  | 0x0D => staged
  | 0x0F => staged
  | 0x10 => staged
  | 0x06 => ! staged
  | 0x07 => ! staged
  | 0x08 => ! staged
  | _ => false

/-- R190, R191: the tables on which an opcode acts. -/
def opTable (op table : Nat) : Bool :=
  match op with
  | 0x01 => table ≤ 10
  | 0x02 => table == 2 || (4 ≤ table && table ≤ 9)
  | 0x03 => table == 0 || table == 1 || table == 10
  | 0x04 => table == 0 || table == 1 || table == 2 || table == 10
  | 0x05 => table == 0 || table == 1
  | 0x06 => table == 3
  | 0x07 => table == 3
  | 0x10 => table == 2
  | _ => table ≤ 10

/-- R175, R180, R194: what a staging command meets: an abort that found it queued, no open staging, another
owner or token, or a STATE other than STAGING, FLIPPING among them: the model's choice (log entry 85). -/
def State.stageCheck (s : State) (c : TCmd) : Option Nat :=
  if c.aborted then some 0x0F
  else
    match s.epc.owner with
    | none => some 0x0A
    | some o =>
      if o ≠ c.req || s.epc.token ≠ c.token then some 0x09
      else if s.epc.st = .staging then none
      else some 0x0A

/-- R190, R191, R198: the checks of a command's own words: its opcode with its STAGED bit, its table, and
the data words of a bank. -/
def formCheck (c : TCmd) : Option Nat :=
  if opStagedBad c.op c.staged then some 0x01
  else if ! opTable c.op c.table then some 0x02
  else if c.ofBank && 48 < c.count then some 0x0E
  else none

/-- R175: a command whose STAGED bit makes it a staging command is checked as one. -/
def State.ownCheck (s : State) (c : TCmd) : Option Nat := if c.staged then s.stageCheck c else none

/-- R190, R191, R194, R198: the checks before a table command acts. -/
def State.cmdCheck (s : State) (c : TCmd) : Option Nat :=
  match formCheck c with
  | some st => some st
  | none => s.ownCheck c

/-- R190, R198: the data words of a command: a bank's registers, or what the read of DATA_ADDR
returned; words beyond COUNT are zero. -/
def State.cmdData (s : State) (c : TCmd) (d : Option (List Word)) : Option (List Word) :=
  match c.src with
  | .bank r => some ((List.range (min 48 c.count)).map fun i => s.rg .tblData 0 i (reqNum r))
  | .ring _ _ => d.map fun l => l.take c.count

/-! ### Completion (R193, R302, R303) -/

/-- R303: the GEN byte of the entry at a ring's device count. -/
def Ring.genByte (r : Ring) : Nat := 2 * r.gen + (1 - r.dev.toNat / r.size % 2)

/-- R193: the words of a completion. -/
def cplWords (c : TCmd) (x : Cpl) (gen : Nat) : List Word :=
  let who := match x.other with
    | some r => reqNum r
    | none => 3
  [c.handle,
   put 31 24 x.status ||| flag 23 x.other.isSome ||| put 22 21 who ||| flag 20 x.displaced |||
     flag 19 x.late ||| put 15 8 gen ||| put 7 0 c.op,
   x.r0, x.r1]

/-- R193, R198, R302: a command completes: in its bank's registers, or on its completion ring. RESULT0
of a command that fails is a free value (log entry 20), but for BULK_STAGE's. -/
def State.complete (s : State) (c : TCmd) (x : Cpl) : State :=
  let (x, s) := if x.status ≠ 0 && c.op ≠ 0x0C then
      let (v, s) := s.fresh
      (({ x with r0 := v } : Cpl), s)
    else (x, s)
  match c.src with
  | .bank r =>
    let b := reqNum r
    let ws := cplWords c x 0
    let s := (List.range 4).foldl (fun st i => st.setRg .tblCpl 0 i (wAt ws i) b) s
    { s with cu := { s.cu with busy := s.cu.busy.set b false } }
  | .ring h t =>
    let cr := s.ring h t
    let s := s.setRing h t { cr with work := cr.work - 1 }
    let k := 8 + cr.cpl
    let r := { s.ring h k with owed := (s.ring h k).owed - 1 }
    let s := s.setRing h k r
    if s.hostOk h && r.used && ! r.err && 0 < r.room then
      let ws := cplWords c x r.genByte
      (s.toHost h (r.base + r.dev.toNat % r.size * 16) (wordBytes ws)).setRing h k (r.advance 1 s.mono)
    else s

/-- R190, R198: an entry is written to DATA_ADDR, or into a bank's data registers. -/
def State.cmdOut (s : State) (c : TCmd) (ws : List Word) : State :=
  match c.src with
  | .bank r => (List.range (min 48 ws.length)).foldl (fun st i => st.setRg .tblData 0 i (wAt ws i) (reqNum r)) s
  | .ring h _ => if s.hostOk h then s.toHost h (addr64 (wAt c.desc 2) (wAt c.desc 3)) (wordBytes ws) else s

/-- What a table command leaves: its completion, the state, the entry to return, and the associative
writes that it launches. -/
structure CmdRes where
  cpl : Cpl
  st : State
  out : Option (List Word) := none
  fans : List Fan := []

/-- A command that fails changes nothing (R194). -/
def failWith (s : State) (code : Nat) : CmdRes := { cpl := { status := code }, st := s }

/-- R77: a command completes at once, or with the last of the copies that its associative writes have
yet to reach; `ok` says that DATA_ADDR could be written. A bank holds entries of up to 48 words (R198). -/
def State.finish (c : TCmd) (r : CmdRes) (ok : Bool) : State :=
  let s := r.st
  match r.out with
  | some ws => if (if c.ofBank then decide (ws.length ≤ 48) else ok) then (s.cmdOut c ws).complete c r.cpl else s.complete c { status := 0x0E }
  | none =>
    match (r.fans.filter fun f => ! f.left.isEmpty).reverse with
    | [] => s.complete c r.cpl
    | f :: l =>
      let fans := l.reverse ++ [{ f with cpl := some (c, r.cpl) }]
      { s with cu := { s.cu with fan := s.cu.fan ++ fans } }

/-! ### The queue (R196) -/

/-- R176, R183, R302: a source some command of which waits or has yet to complete. -/
def State.srcHeld (s : State) (x : CmdSrc) : Bool :=
  (s.cu.beginWait.any fun c => c.src = x) || (s.cu.settleWait.any fun c => c.src = x) ||
    (s.epc.commitBy.any fun c => c.src = x) || (s.epc.abortBy.any fun c => c.src = x) ||
    s.cu.fan.any fun f => f.cpl.any fun p => p.1.src = x

/-- R196: the command that the unit executes next: the oldest whose source is not held. -/
def State.cuHead (s : State) : Option TCmd := s.cu.q.find? fun c => ! s.srcHeld c.src

/-- The next command leaves the queue. -/
def State.cuPop (s : State) : State :=
  match s.cuHead with
  | some c => { s with cu := { s.cu with q := s.cu.q.erase c } }
  | none => s

/-- R191: commands with undefined opcodes complete with BAD_OPCODE as they come to the head. -/
def State.cuSkip : Nat → State → State
  | 0, s => s
  | n + 1, s =>
    match s.cuHead with
    | some c => if opDefined c.op then s else (s.cuPop.complete c { status := 0x01 }).cuSkip n
    | none => s

/-- R191: the same, for every command of the queue. -/
def State.cuTidy (s : State) : State := s.cuSkip s.cu.q.length

/-- The next command, if it has an opcode. -/
def State.cuIs (s : State) (op : Nat) : Bool := s.cuHead.any fun c => c.op == op

/-- R196: the next command executes. -/
def State.cuRun (s : State) (f : State → TCmd → State) : State :=
  match s.cuHead with
  | some c => (f s.cuPop c).cuTidy
  | none => s

/-! ### Writers and touched tables -/

/-- R197: the requester of a writer's number. -/
def writerReq : Nat → Option Req
  | 0 => some .host0
  | 1 => some .host1
  | 2 => some .chain
  | _ => none

/-- R197: the other requester that last wrote an entry. -/
def State.otherWriter (s : State) (table key : Nat) (c : TCmd) : Option Req :=
  (writerReq (s.tagOf table key)).filter fun r => r ≠ c.req

/-- R184: the staging has touched a table. -/
def State.touch (s : State) (c : TCmd) : State :=
  if c.staged && ! s.epc.touched.contains c.table then { s with epc := { s.epc with touched := s.epc.touched ++ [c.table] } }
  else s

/-- R197: the entry's last writer is the command's requester; a removed entry has none. -/
def State.wrote (s : State) (c : TCmd) (key : Nat) (kept : Bool) : State :=
  s.setTag c.table key (if kept then reqNum c.req else 3)

/-! ### Field checks of entries (R194) -/

/-- Some bit of a mask is set. -/
def anyBits (w m : Word) : Bool := w &&& m != 0

/-- R87, R2: the fields of a station entry. -/
def State.staCheck (s : State) (e : List Word) : Option Nat :=
  let ty := fld (wAt e 2) 31 30
  let tgt := fld (wAt e 2) 29 15
  if anyBits (wAt e 2) 0x7000 || anyBits (wAt e 3) 0x0FFF0000 || lifeOf (wAt e 1) == 3 then some 0x05
  else if ! staValid e || (ty == 0 && 255 < tgt) || (ty == 1 && 511 < tgt) then some 0x05
  else if ty == 0 && s.nPorts ≤ tgt then some 0x04
  else none

/-- R102: COUNT gives the kind of a neighbour entry, and KIND agrees. -/
def nbrKindOk (e : List Word) (count : Nat) : Bool :=
  (count == 4 && ! bit (wAt e 3) 30) || (count == 8 && bit (wAt e 7) 30)

/-- R102: the fields of a neighbour entry. -/
def nbrCheck (e : List Word) (count : Nat) : Option Nat :=
  let rsv := if count = 8 then anyBits (wAt e 6) 0xFFFFFFFF || anyBits (wAt e 7) 0x3FFFF000 else anyBits (wAt e 3) 0x3FFFF000
  if ! nbrKindOk e count || rsv || lifeOf (nbrLifeWord e) == 3 || ! nbrValid e then some 0x05 else none

/-- R81: the fields of a parse profile. -/
def prCheckOk (e : List Word) : Bool :=
  let w0 := wAt e 0
  let nb := prNbrMode e
  ! anyBits w0 0x7C000000 && ! anyBits (wAt e 1) 0xFFFF0000 && ! anyBits (wAt e 38) 0xFFFFFFFF &&
    ! anyBits (wAt e 39) 0xFFFFFFFF && nb ≠ 3 && fld w0 3 2 ≠ 3 && fld w0 1 0 ≤ 1 &&
    prStaOff e + 12 ≤ 256 && (nb == 0 || prNbrOff e + nbrLen nb ≤ 256) &&
    ((List.range 24).all fun n =>
      ! anyBits (wAt e (2 + n)) 0x1FFF &&
        match prWindow e n with
        | some (dst, len, src) => dst + len ≤ 64 && src + len ≤ 256
        | none => true) &&
    (List.range 6).all fun c =>
      let b := wAt e (27 + 2 * c)
      ! anyBits b 0x7FFFFF00 && (! bit b 31 || fld b 7 0 ≤ 254)

/-- R161: another valid group of a copy holds one of the ports. -/
def State.lagClash (s : State) (par : Bool) (idx : Nat) (mine : List Nat) : Bool :=
  let base := cpKey 6 par 0
  s.tbl.cp.any fun e =>
    base ≤ e.1 && e.1 < base + 512 && e.1 ≠ base + idx && bit (wAt e.2 0) 31 &&
      (lagMembers e.2).any mine.contains

/-- R161, R2: the fields of a link aggregation entry, for the copies it is written to. An entry with VALID 0
is accepted whatever ports it lists: DESIGN CHOICE (log entry 66). -/
def State.lagCheck (s : State) (idx : Nat) (e : List Word) (pars : List Bool) : Option Nat :=
  let n := fld (wAt e 0) 5 0
  if anyBits (wAt e 0) 0x3FFFFFC0 then some 0x05
  else if ! bit (wAt e 0) 31 then none
  else if n < 1 || 32 < n then some 0x05
  else if (lagMembers e).any fun lp => s.nPorts ≤ lp then some 0x04
  else if pars.any fun p => s.lagClash p idx (lagMembers e) then some 0x05
  else none

/-- R81, R86, R161, R165, R170, R116: the fields of a copy table's entry. -/
def State.cpCheck (s : State) (table idx : Nat) (e : List Word) (pars : List Bool) : Option Nat :=
  let w := wAt e 0
  let bad (b : Bool) : Option Nat := if b then some 0x05 else none
  match table with
  | 4 => bad (! prCheckOk e)
  | 5 => bad (anyBits w 0x03FF8000 || fld w 29 28 == 3 || fld w 27 26 == 3)
  | 6 => s.lagCheck idx e pars
  | 7 => bad (anyBits w 0xFFFFFF80 || 64 < fld w 6 0)
  | 8 => bad (anyBits w 0xFFFFF000)
  | _ => none

/-- R151: the fields of a tree node. -/
def nodeOk (e : List Word) : Bool :=
  let w0 := wAt e 0
  let kid (w : Word) (hi lo : Nat) : Bool := fld w hi lo < 49152
  let zero (l : List Nat) : Bool := l.all fun i => wAt e i == 0
  match fld w0 31 30 with
  | 1 =>
    ! anyBits w0 0x207F0000 && ! anyBits (wAt e 6) 0xFFFF && zero [7] && fld w0 28 24 ≤ 23 &&
      kid w0 15 0 && kid (wAt e 5) 31 16 && kid (wAt e 5) 15 0 && kid (wAt e 6) 31 16
  | 2 =>
    ! anyBits w0 0x1FFF0000 && ! anyBits (wAt e 1) 0xFFFF0000 && zero [5, 6, 7] &&
      (if bit w0 29 then kid w0 15 0 else fld w0 15 0 == 0)
  | 3 =>
    ! anyBits w0 0x20000000 && zero [1, 2, 3, 4, 5, 6, 7] && fld w0 28 24 ≤ 23 &&
      fld w0 15 0 + 2 ^ (fld w0 18 16 + 1) ≤ 49152
  | _ => false

/-! ### Keyed tables (R177-R179, R191) -/

/-- R177-R179, R191: the slot that an insert takes, given the key's slots with their lives and the room
for a new one, or its status. -/
def insertSlot (staged : Bool) (lives : List (Nat × Nat)) (room : Option Nat) : Nat ⊕ Nat :=
  let of (l : Nat) : Option Nat := (lives.find? fun e => e.2 == l).map Prod.fst
  let new_ : Nat ⊕ Nat := match room with
    | some k => .inr k
    | none => .inl 0x06
  if staged then
    if (of 0).isSome then .inl 0x08
    else match of 1 with
      | some k => .inr k
      | none => new_
  else if (of 1).isSome || (of 2).isSome then .inl 0x0B
  else match of 0 with
    | some k => .inr k
    | none => new_

/-- What a delete does to the slot it names. -/
inductive DelAct where
  | remove | mark | leave
  deriving DecidableEq, Repr

/-- R177, R191: what a delete does, or its status. -/
def deleteSlot (staged : Bool) (lives : List (Nat × Nat)) : Nat ⊕ (Nat × DelAct) :=
  let of (l : Nat) : Option Nat := (lives.find? fun e => e.2 == l).map Prod.fst
  if staged then
    match of 1 with
    | some k => .inr (k, .remove)
    | none =>
      match of 0 with
      | some k => .inr (k, .mark)
      | none =>
        match of 2 with
        | some k => .inr (k, .leave)
        | none => .inl 0x07
  else if (of 1).isSome || (of 2).isSome then .inl 0x0B
  else
    match of 0 with
    | some k => .inr (k, .remove)
    | none => .inl 0x07

/-- R195: RESULT0 for a station slot. -/
def staSlotCode (key : Nat) : Word := if staSlots ≤ key then flag 31 true ||| wd (key - staSlots) else wd key

/-- R87: a station entry with a life. -/
def staWithLife (e : List Word) (life : Nat) : List Word := setAt e 1 (setFld (wAt e 1) 31 30 life)

/-- R102: a neighbour entry with a life. -/
def nbrWithLife (e : List Word) (life : Nat) : List Word :=
  let i := if nbrV6 e then 5 else 2
  setAt e i (setFld (wAt e i) 31 30 life)

/-- R94: COUNT of the port that a written LEARNED entry targets. -/
def State.lrnAdd (s : State) (e : List Word) : State :=
  if bit (wAt e 3) 29 && fld (wAt e 2) 31 30 = 0 then s.lrnMove (fld (wAt e 2) 29 15 % 256) (· + 1) else s

/-- R177, R179, R187, R191: INSERT of a station entry. TBL_STA_INS_FAIL counts the one that finds no room,
no other refusal: DEDUCED from R98 and R108 (log entry 66). The hit bits of the entry's place stay as they are,
the model's choice (log entry 85). -/
def State.staInsert (s : State) (c : TCmd) (e : List Word) : CmdRes :=
  match s.staCheck e with
  | some st => failWith s st
  | none =>
    match insertSlot c.staged (s.staFind (staBd e) (staMac e)) (s.staRoom (staBd e) (staMac e)) with
    | .inl st => failWith (if st = 0x06 then s.bump .tblStaInsFail 0 0 else s) st
    | .inr key =>
      let old := s.sta key
      let had := ! old.isEmpty
      let e := staWithLife e (b2n c.staged)
      let other := if had then s.otherWriter 0 key c else none
      let s := ((s.lrnDrop key old).staPut key e).lrnAdd e
      { cpl := { other := other, displaced := c.staged && had && bit (wAt old 3) 29, r0 := staSlotCode key }
        st := (s.wrote c key true).touch c }

/-- R177, R187, R191: DELETE of a station entry. Of its data only the key counts (R190): a target there that the
variant lacks (R2) is not looked at, nor in a SEARCH; the model's choice (log entry 66). -/
def State.staDelete (s : State) (c : TCmd) (e : List Word) : CmdRes :=
  match deleteSlot c.staged (s.staFind (staBd e) (staMac e)) with
  | .inl st => failWith s st
  | .inr (key, a) =>
    let other := if a = .leave then none else s.otherWriter 0 key c
    let s := match a with
      | .remove => (s.staRemove key).wrote c key false
      | .mark => (s.staPut key (staWithLife (s.sta key) 2)).wrote c key true
      | .leave => s
    { cpl := { other := other, r0 := staSlotCode key }, st := s.touch c }

/-- R177, R179, R191: INSERT of a neighbour entry. -/
def State.nbrInsert (s : State) (c : TCmd) (e : List Word) : CmdRes :=
  match nbrCheck e c.count with
  | some st => failWith s st
  | none =>
    let v6 := nbrV6 e
    let bd := fld (nbrLifeWord e) 29 16
    match insertSlot c.staged (s.nbrFind v6 bd (nbrAddr e)) (s.nbrRoom v6 bd (nbrAddr e)) with
    | .inl st => failWith s st
    | .inr key =>
      let other := if (s.nbr key).isEmpty then none else s.otherWriter 1 key c
      let s := s.nbrPut key (nbrWithLife e (b2n c.staged))
      { cpl := { other := other, r0 := wd key }, st := (s.wrote c key true).touch c }

/-- R177, R191: DELETE of a neighbour entry. -/
def State.nbrDelete (s : State) (c : TCmd) (e : List Word) : CmdRes :=
  if ! nbrKindOk e c.count then failWith s 0x05
  else
    match deleteSlot c.staged (s.nbrFind (nbrV6 e) (fld (nbrLifeWord e) 29 16) (nbrAddr e)) with
    | .inl st => failWith s st
    | .inr (key, a) =>
      let other := if a = .leave then none else s.otherWriter 1 key c
      let s := match a with
        | .remove => (s.nbrPut key []).wrote c key false
        | .mark => (s.nbrPut key (nbrWithLife (s.nbr key) 2)).wrote c key true
        | .leave => s
      { cpl := { other := other, r0 := wd key }, st := s.touch c }

/-! ### Replication lists (R217) -/

/-- A slot of a row of the replication table, slot 2 × row + i. -/
def State.repSlot (s : State) (k : Nat) : RepEntry := tget (fun _ => {}) s.tbl.rep k

/-- R217: blocks of a list. -/
def listBlocks (l : List Nat) : Nat := (l.length + 7) / 8

/-- R217: a slot written, with the list memory it takes and gives back. -/
def State.repPut (s : State) (k : Nat) (e : RepEntry) : State :=
  let old := listBlocks (s.repSlot k).targets
  { s with tbl := { s.tbl with
    rep := tset (fun _ => {}) s.tbl.rep k e, listFree := s.tbl.listFree + old - listBlocks e.targets } }

/-- R217: TARGET j of a command's data. -/
def repTarget (ws : List Word) (j : Nat) : Nat := fld (wAt ws (1 + j / 2)) (16 * (j % 2) + 15) (16 * (j % 2))

/-- R217: a target is well formed. -/
def targetOk (t : Nat) : Bool :=
  let i := t % 512
  t / 512 % 32 == 0 &&
    match t / 16384 with
    | 0 => i < 256
    | 1 => i < 512
    | 2 => i < 32
    | _ => false

/-- R217: no target repeats an earlier one. -/
def noRepeat : List Nat → Bool
  | [] => true
  | t :: l => ! l.contains t && noRepeat l

/-- R217, R2: the list of a command's data, or its status. -/
def State.repParse (s : State) (ws : List Word) : Nat ⊕ List Nat :=
  let n := fld (wAt ws 0) 8 0
  if 256 < n then .inl 0x05
  else
    let l := (List.range n).map (repTarget ws)
    if l.all targetOk && noRepeat l then
      (if l.any fun t => t / 16384 == 0 && s.nPorts ≤ t % 512 then .inl 0x04 else .inr l)
    else .inl 0x05

/-- R217: the valid slots of a row, with their lives. -/
def State.repFind (s : State) (g : Nat) : List (Nat × Nat) :=
  ([2 * g, 2 * g + 1].filter fun k => (s.repSlot k).valid).map fun k => (k, (s.repSlot k).life)

/-- R217, R218: the slot of a row that a parity sees. -/
def State.repSee (s : State) (g : Nat) (par : Bool) : Option RepEntry :=
  ((s.repFind g).find? fun e => lifeSees e.2 par s.epc.s).map fun e => s.repSlot e.1

/-- R177, R179, R191, R217: INSERT of a replication list. Its slot, and that of DELETE, is row × 2 + slot
(log entry 42). -/
def State.repInsert (s : State) (c : TCmd) (ws : List Word) : CmdRes :=
  let g := c.index
  if 32768 ≤ g then failWith s 0x03
  else
    match s.repParse ws with
    | .inl st => failWith s st
    | .inr l =>
      let room := [2 * g, 2 * g + 1].find? fun k => ! (s.repSlot k).valid
      match insertSlot c.staged (s.repFind g) room with
      | .inl st => failWith s st
      | .inr k =>
        if s.tbl.listFree < listBlocks l then failWith s 0x06
        else
          let other := if (s.repSlot k).valid then s.otherWriter 10 k c else none
          let s := s.repPut k { valid := true, life := b2n c.staged, targets := l }
          { cpl := { other := other, r0 := wd k }, st := (s.wrote c k true).touch c }

/-- R177, R191, R217: DELETE of a replication list. -/
def State.repDelete (s : State) (c : TCmd) : CmdRes :=
  if 32768 ≤ c.index then failWith s 0x03
  else
    match deleteSlot c.staged (s.repFind c.index) with
    | .inl st => failWith s st
    | .inr (k, a) =>
      let other := if a = .leave then none else s.otherWriter 10 k c
      let s := match a with
        | .remove => (s.repPut k {}).wrote c k false
        | .mark => (s.repPut k { s.repSlot k with life := 2 }).wrote c k true
        | .leave => s
      { cpl := { other := other, r0 := wd k }, st := s.touch c }

/-- R217: the words of a list, as READ returns them. -/
def repWords (e : RepEntry) : List Word :=
  let half (j : Nat) : Nat := (e.targets[j]?).getD 0
  (put 31 30 e.life ||| put 8 0 e.targets.length) ::
    (List.range ((e.targets.length + 1) / 2)).map fun i => wd (half (2 * i) + half (2 * i + 1) * 65536)

/-! ### Associative banks (R74-R80, R177) -/

/-- R74: the width code of a bank in the master copy. -/
def State.ascWidth (s : State) (bank : Nat) : Nat := tget (fun _ => 0) s.tbl.ascW bank

/-- An entry of the master copy. -/
def State.asc (s : State) (k : Nat) : AscEntry := tget (fun _ => {}) s.tbl.asc k

/-- R74: valid entries of a bank. -/
def State.ascValid (s : State) (bank : Nat) : Nat := (s.tbl.asc.filter fun e => e.1 / 512 == bank).length

/-- R75: an index names an entry of its bank. -/
def State.ascIndexOk (s : State) (idx : Nat) : Bool :=
  idx < 4096 && idx % 512 < 512 / widthUnits (s.ascWidth (idx / 512))

/-- R75: the fields of an associative entry of a width. -/
def ascOk (e : List Word) (units : Nat) : Bool :=
  bit (wAt e 16) 31 && ! anyBits (wAt e 16) 0x00FFC000 &&
    (List.range units).all fun j => ! anyBits (wAt e (4 * j + 1)) 0xFFFFFF00 && ! anyBits (wAt e (4 * j + 3)) 0xFFFFFF00

/-- R75, R177: an entry as stored: units beyond the width are zero, and bit 39 of slice 0 has a care and
a value bit of the command unit's. -/
def ascStore (e : List Word) (units : Nat) (care value : Bool) : List Word :=
  let w (i : Nat) : Word := if i = 16 || i / 4 < units then wAt e i else 0
  (List.range 17).map fun i =>
    if i = 1 then setFld (w 1) 7 7 (b2n value) else if i = 3 then setFld (w 3) 7 7 (b2n care) else w i

/-- R79: the spacing of associative writes, in ns. -/
def State.ascGap (s : State) : Nat :=
  let r := fld (s.rg .tblAscRate) 2 0
  (999 + max 1 (min 4 r)) / max 1 (min 4 r)

/-- R77, R196, R444: a write to every pipe's copy is launched: the pipes of an Active or Pale group take
it, a Pale group is woken, and any other group turns stale. -/
def State.ascLaunch (s : State) (idx : Nat) (words : List Word) (width : Option Nat) : Fan × State :=
  let lit := (List.range s.nGroups).filter fun n => s.isLit (domPg n)
  let s := (List.range s.nGroups).foldl (fun st n => if lit.contains n then st.wakePg n else st.setStale n) s
  let t := max s.mono s.cu.ascNext
  let left := lit.flatMap fun n => (List.range 6).map fun p => 6 * n + p
  ({ at_ := t, idx := idx, words := words, width := width, left := left },
   { s with cu := { s.cu with ascNext := t + s.ascGap } })

/-- R77, R177: an entry of the master copy, and its launch to the copies; an empty entry is invalid. -/
def State.ascPut (s : State) (idx : Nat) (e : AscEntry) : Fan × State :=
  let s : State := { s with tbl := { s.tbl with asc := tset (fun _ => {}) s.tbl.asc idx e } }
  s.ascLaunch idx e.words none

/-- R177, R178, R191: WRITE_INDEX of an associative entry. -/
def State.ascWrite (s : State) (c : TCmd) (ws : List Word) : CmdRes :=
  let idx := c.index
  if ! s.ascIndexOk idx then failWith s 0x03
  else
    let units := widthUnits (s.ascWidth (idx / 512))
    let old := s.asc idx
    if ! ascOk ws units then failWith s 0x05
    else if c.staged && ! old.words.isEmpty && old.life ≠ .fromNext then failWith s 0x06
    else if ! c.staged && old.life ≠ .always then failWith s 0x0B
    else
      let other := if old.words.isEmpty then none else s.otherWriter 2 idx c
      let e : AscEntry := if c.staged then { words := ascStore ws units true s.epc.s, life := .fromNext }
        else { words := ascStore ws units false false, life := .always }
      let (f, s) := s.ascPut idx e
      { cpl := { other := other, r0 := wd idx }, st := (s.wrote c idx true).touch c, fans := [f] }

/-- R177: the entry rewritten for a staged delete: bit 39 with care 1 and value C. -/
def ascMarked (e : AscEntry) (units : Nat) (c : Bool) : AscEntry :=
  { words := ascStore e.words units true c, life := .untilNext }

/-- R177, R191: DELETE of an associative entry. -/
def State.ascDelete (s : State) (c : TCmd) : CmdRes :=
  let idx := c.index
  if ! s.ascIndexOk idx then failWith s 0x03
  else
    let old := s.asc idx
    let units := widthUnits (s.ascWidth (idx / 512))
    if old.words.isEmpty then failWith s 0x07
    else if ! c.staged && old.life ≠ .always then failWith s 0x0B
    else if old.life = .untilNext then { cpl := { r0 := wd idx }, st := s.touch c }
    else
      let mark := c.staged && old.life = .always
      let other := s.otherWriter 2 idx c
      let (f, s) := s.ascPut idx (if mark then ascMarked old units s.epc.c else {})
      { cpl := { other := other, r0 := wd idx }, st := (s.wrote c idx mark).touch c, fans := [f] }

/-- R74, R191: SET_WIDTH. -/
def State.widthRun (s : State) (c : TCmd) : CmdRes :=
  let bank := c.index / 512
  let w := fld c.arg0 1 0
  if 8 ≤ bank then failWith s 0x03
  else if w = 3 || 0 < s.ascValid bank then failWith s 0x05
  else
    let s : State := { s with tbl := { s.tbl with ascW := tset (fun _ => 0) s.tbl.ascW bank w } }
    let (f, s) := s.ascLaunch (512 * bank) [] (some w)
    { cpl := { r0 := wd w }, st := s, fans := [f] }

/-- R77: a pipe's copy takes a write. -/
def State.ascTake (s : State) (pipe : Nat) (f : Fan) : State :=
  let tbl := match f.width with
    | some w => { s.tbl with ascCW := tset (fun _ => 0) s.tbl.ascCW (pipe * 8 + f.idx / 512) w }
    | none => { s.tbl with ascC := tset (fun _ => []) s.tbl.ascC (pipe * 4096 + f.idx) f.words }
  ({ s with tbl := tbl } : State).bump .ascSearchesLost (pipe / 6) 0

/-- R77: the fan-out's writes are taken off as their last copies are written, in order, and commands
complete with them. -/
def State.fanDone : Nat → State → State
  | 0, s => s
  | n + 1, s =>
    match s.cu.fan with
    | [] => s
    | f :: l =>
      if f.left.isEmpty then
        let s : State := { s with cu := { s.cu with fan := l } }
        match f.cpl with
        | some (c, x) => (s.complete c x).fanDone n
        | none => s.fanDone n
      else s

/-- R77: the first write that a pipe has yet to take, taken off its list. -/
def fanTake (pipe : Nat) : List Fan → List Fan
  | [] => []
  | f :: l => if f.left.contains pipe then { f with left := f.left.filter (· != pipe) } :: l else f :: fanTake pipe l

/-- R77: the write that a pipe takes next. -/
def State.fanNext (s : State) (pipe : Nat) : Option Fan := s.cu.fan.find? fun f => f.left.contains pipe

/-- R77: a pipe takes its next write; a pipe whose group has meanwhile been reset misses it. -/
def State.pipeWrite (s : State) (pipe : Nat) : State :=
  match s.fanNext pipe with
  | none => s
  | some f =>
    let s := if s.isLit (domPg (pipe / 6)) then s.ascTake pipe f else s.setStale (pipe / 6)
    let l := fanTake pipe s.cu.fan
    (({ s with cu := { s.cu with fan := l } } : State).fanDone l.length).cuTidy

/-- R80: the master entry whose unit is compared. -/
def State.ascUnitKey (s : State) (bank unit : Nat) : Nat := 512 * bank + unit / widthUnits (s.ascWidth bank)

/-- R80: a pipe's copy of a unit's entry differs from the master copy's. -/
def State.ascDiffers (s : State) (pipe bank unit : Nat) : Bool :=
  tget (fun _ => []) s.tbl.ascC (pipe * 4096 + s.ascUnitKey bank unit) ≠ (s.asc (s.ascUnitKey bank unit)).words

/-- R80: an upset leaves a copy's entry with words that nothing fixes. -/
def State.ascUpset (s : State) (pipe bank unit : Nat) : State :=
  let ws := (List.range 17).map fun i => Config.freeWord (s.free + i)
  let tbl := { s.tbl with ascC := tset (fun _ => []) s.tbl.ascC (pipe * 4096 + s.ascUnitKey bank unit) ws }
  { s with tbl := tbl, free := s.free + 17 }

/-- R80: one unit of each bank is compared in every copy; a copy that differs is to be rewritten. A unit
that a command is writing is skipped. -/
def State.ascScan (s : State) (unit : Nat) (upsets : List (Nat × Nat)) : State :=
  let pipes := (List.range s.nGroups).filter (fun n => s.isActive (domPg n)) |>.flatMap fun n =>
    (List.range 6).map fun p => 6 * n + p
  pipes.foldl (fun st p =>
    (List.range 8).foldl (fun u b =>
      if u.cu.fan.any fun f => f.idx / 512 == b && (f.width.isSome || f.idx == u.ascUnitKey b unit) then u
      else
        let u := if upsets.contains (p, b) then u.ascUpset p b unit else u
        let r := (p, 512 * b + unit)
        if (upsets.contains (p, b) || u.ascDiffers p b unit) && ! u.cu.repairs.contains r then { u with cu := { u.cu with repairs := u.cu.repairs ++ [r] } }
        else u) st) s

/-- R80: a differing copy is rewritten from the master copy, counted and reported. -/
def State.ascFix (s : State) (pipe : Nat) : State :=
  match s.cu.repairs.find? fun r => r.1 == pipe with
  | none => s
  | some r =>
    let bank := r.2 / 512
    let unit := r.2 % 512
    let k := s.ascUnitKey bank unit
    let tbl := { s.tbl with
      ascC := tset (fun _ => []) s.tbl.ascC (pipe * 4096 + k) (s.asc k).words,
      ascCW := tset (fun _ => 0) s.tbl.ascCW (pipe * 8 + bank) (s.ascWidth bank) }
    let s : State := { s with tbl := tbl, cu := { s.cu with repairs := s.cu.repairs.erase r } }
    let s := (s.bump .ascSearchesLost (pipe / 6) 0).bump .tblAscMismatch 0 0
    s.raise { src := 13, cls := .blue, code := 0x0C, info := put 15 12 (pipe % 6) ||| put 11 9 bank ||| put 8 0 unit }

/-! ### Copy tables and trees -/

/-- R177: an entry of a copy table is dirty. -/
def State.cpDirty (s : State) (table idx : Nat) : Bool := tget (fun _ => false) s.tbl.dirty (table * 65536 + idx)

/-- R177: the dirty bit of an entry. -/
def State.setDirty (s : State) (table idx : Nat) (b : Bool) : State :=
  { s with tbl := { s.tbl with dirty := tset (fun _ => false) s.tbl.dirty (table * 65536 + idx) b } }

/-- R177, R191: WRITE_INDEX of a copy table: the S copy and the dirty bit when staged, both copies when
not. -/
def State.cpWrite (s : State) (c : TCmd) (ws : List Word) : CmdRes :=
  let t := c.table
  let idx := c.index
  let e := padTo (cpWords t) ws
  let pars := if c.staged then [s.epc.s] else [false, true]
  if cpSize t ≤ idx then failWith s 0x03
  else if t = 8 && s.nPorts ≤ idx then failWith s 0x04
  else if ! c.staged && s.cpDirty t idx then failWith s 0x0B
  else
    match s.cpCheck t idx e pars with
    | some st => failWith s st
    | none =>
      let other := s.otherWriter t idx c
      let s := pars.foldl (fun st p => st.cpPut t p idx e) s
      let s := if c.staged then s.setDirty t idx true else s
      { cpl := { other := other, r0 := wd idx }, st := (s.wrote c idx true).touch c }

/-- R150: the state of a node. -/
def State.nodeSt (s : State) (i : Nat) : NodeState := tget (fun _ => .free) s.tbl.node i

/-- R150: a node's state written. -/
def State.setNode (s : State) (i : Nat) (x : NodeState) : State :=
  { s with tbl := { s.tbl with node := tset (fun _ => .free) s.tbl.node i x } }

/-- R148: a node written in the master copy and in every group; an empty list zeroes it. -/
def State.treePut (s : State) (i : Nat) (e : List Word) : State :=
  let s : State := { s with tbl := { s.tbl with tree := tset (fun _ => []) s.tbl.tree i e } }
  s.onGroups fun n t => { t with treeG := tset (fun _ => []) t.treeG (n * 65536 + i) e }

/-- R150, R151, R177: TREE_WRITE. -/
def State.treeWriteRun (s : State) (c : TCmd) (ws : List Word) : CmdRes :=
  let i := c.index
  let e := padTo 8 ws
  if 49152 ≤ i then failWith s 0x03
  else if s.nodeSt i ≠ .free then failWith s 0x0C
  else if ! nodeOk e then failWith s 0x05
  else { cpl := { r0 := wd i }, st := (((s.treePut i e).setNode i .staged).wrote c i true).touch c }

/-- R150, R177: TREE_RETIRE. -/
def State.treeRetireRun (s : State) (c : TCmd) : CmdRes :=
  let i := c.index
  if 49152 ≤ i then failWith s 0x03
  else if s.nodeSt i ≠ .live then failWith s 0x0C
  else { cpl := { r0 := wd i }, st := (s.setNode i .retiring).touch c }

/-- R149: the root of a parity. -/
def State.setRootOf (s : State) (par : Bool) (v : BitVec 16) : State :=
  if par then { s with epc := { s.epc with rootA := v } } else { s with epc := { s.epc with rootC := v } }

/-- R177: SET_ROOT. -/
def State.setRootRun (s : State) (c : TCmd) : CmdRes :=
  let v : BitVec 16 := c.arg0.setWidth 16
  if 49152 ≤ v.toNat then failWith s 0x03
  else { cpl := { r0 := v.setWidth 32 }, st := s.setRootOf s.epc.s v }

/-! ### Running a command -/

/-- R190: WRITE_INDEX. -/
def State.writeRun (s : State) (c : TCmd) (ws : List Word) : CmdRes :=
  if c.table = 2 then s.ascWrite c ws else s.cpWrite c ws

/-- R190: INSERT. -/
def State.insertRun (s : State) (c : TCmd) (ws : List Word) : CmdRes :=
  match c.table with
  | 0 => s.staInsert c (padTo 4 ws)
  | 1 => s.nbrInsert c (padTo c.count ws)
  | _ => s.repInsert c ws

/-- R190: DELETE. -/
def State.deleteRun (s : State) (c : TCmd) (ws : List Word) : CmdRes :=
  match c.table with
  | 0 => s.staDelete c (padTo 4 ws)
  | 1 => s.nbrDelete c (padTo c.count ws)
  | 2 => s.ascDelete c
  | _ => s.repDelete c

/-- R190: an opcode reads DATA_ADDR. -/
def needsData (op table : Nat) : Bool :=
  op == 2 || op == 3 || op == 5 || op == 6 || ((op == 1 || op == 4) && table ≤ 1)

/-- R190, R194: a command runs after its checks and the read of its data. -/
def State.cmdRun (s : State) (c : TCmd) (d : Option (List Word)) (f : List Word → CmdRes) : CmdRes :=
  match s.cmdCheck c with
  | some st => failWith s st
  | none =>
    if needsData c.op c.table then
      match s.cmdData c d with
      | some ws => f ws
      | none => failWith s 0x0E
    else f []

/-- R192: the commands that a sub-descriptor may be. -/
def State.subRun (s : State) (c : TCmd) (d : Option (List Word)) : CmdRes :=
  s.cmdRun c d fun ws =>
    match c.op with
    | 2 => s.writeRun c ws
    | 3 => s.insertRun c ws
    | 4 => s.deleteRun c ws
    | 6 => s.treeWriteRun c ws
    | 7 => s.treeRetireRun c
    | 8 => s.setRootRun c
    | _ => failWith s 0x01

/-- R192: the sub-descriptors of a BULK_STAGE execute in order until one fails. -/
def State.bulkRun (c : TCmd) : List BulkSub → Nat → CmdRes → CmdRes
  | [], _, acc => acc
  | b :: l, i, acc =>
    let sub : TCmd := { c with desc := b.desc }
    let r := if sub.op < 2 || 8 < sub.op || sub.op = 5 || ! sub.staged then failWith acc.st 0x01
      else if sub.token ≠ c.token then failWith acc.st 0x09
      else acc.st.subRun sub b.data
    if r.cpl.status = 0 then
      let o := if r.cpl.other.isSome then r.cpl.other else acc.cpl.other
      bulkRun c l (i + 1) { cpl := { acc.cpl with other := o, displaced := acc.cpl.displaced || r.cpl.displaced, r0 := wd (i + 1) }, st := r.st, fans := acc.fans ++ r.fans }
    else { acc with cpl := { acc.cpl with status := r.cpl.status, r1 := wd i }, st := r.st }

/-- R175, R190, R192, R198: BULK_STAGE, which its own STAGED bit makes a staging command; a sub-descriptor that could not be fetched fails with DATA_FAULT. -/
def State.bulk (s : State) (c : TCmd) (subs : Option (List BulkSub)) : CmdRes :=
  if c.ofBank then { cpl := { status := 0x01, r1 := 0xFFFFFFFF }, st := s }
  else if ! opTable c.op c.table then { cpl := { status := 0x02, r1 := 0xFFFFFFFF }, st := s }
  else if c.aborted then { cpl := { status := 0x0F, r1 := 0xFFFFFFFF }, st := s }
  else
    match s.ownCheck c, subs with
    | some st, _ => { cpl := { status := st, r1 := 0xFFFFFFFF }, st := s }
    | none, none => { cpl := { status := 0x0E, r1 := 0 }, st := s }
    | none, some l =>
      let r := State.bulkRun c (l.take c.count) 0 { cpl := { r1 := 0xFFFFFFFF }, st := s }
      if r.cpl.status = 0 && l.length < c.count then { r with cpl := { r.cpl with status := 0x0E, r1 := wd l.length } } else r

/-- R191: a station entry of a key that a parity sees in replica k. -/
def State.staReplica (s : State) (k bd mac : Nat) (par : Bool) : Option (Nat × List Word) :=
  (s.tbl.staR.find? fun e => e.1 / 2 ^ 20 == k && staIs bd mac e.2 && lifeSees (lifeOf (wAt e.2 1)) par s.epc.s).map
    fun e => (e.1 % 2 ^ 20, e.2)

/-- R191: a neighbour entry of a key that a parity sees in replica k. -/
def State.nbrReplica (s : State) (k : Nat) (e : List Word) (par : Bool) : Option (Nat × List Word) :=
  (s.tbl.nbrR.find? fun x => x.1 / 2 ^ 18 == k && nbrIs (nbrV6 e) (fld (nbrLifeWord e) 29 16) (nbrAddr e) x.2 &&
      lifeSees (lifeOf (nbrLifeWord x.2)) par s.epc.s).map
    fun x => (x.1 % 2 ^ 18, x.2)

/-- R177: the life of an associative entry as LIFE codes it. -/
def AscLife.code : AscLife → Nat
  | .always => 0
  | .fromNext => 1
  | .untilNext => 2

/-- R191: READ. -/
def State.readRun (s : State) (c : TCmd) (ws : List Word) : CmdRes :=
  let par := bit c.arg0 0
  let k := fld c.arg0 2 1
  let idx := c.index
  let give (life : Nat) (l : List Word) : CmdRes := { cpl := { r0 := wd life }, st := s, out := some l }
  match c.table with
  | 0 =>
    match s.staReplica k (staBd ws) (staMac ws) par with
    | some e => give (lifeOf (wAt e.2 1)) e.2
    | none => failWith s 0x07
  | 1 =>
    let e := padTo c.count ws
    if ! nbrKindOk e c.count then failWith s 0x05
    else
      match s.nbrReplica k e par with
      | some x => give (lifeOf (nbrLifeWord x.2)) x.2
      | none => failWith s 0x07
  | 2 =>
    if ! s.ascIndexOk idx then failWith s 0x03
    else if (s.asc idx).words.isEmpty then failWith s 0x07
    else give (s.asc idx).life.code (s.asc idx).words
  | 3 => if 49152 ≤ idx then failWith s 0x03 else give 0 (padTo 8 (tget (fun _ => []) s.tbl.tree idx))
  | 10 =>
    if 32768 ≤ idx then failWith s 0x03
    else
      match s.repSee idx par with
      | some e => give e.life (repWords e)
      | none => failWith s 0x07
  | t =>
    if cpSize t ≤ idx then failWith s 0x03
    else if t = 8 && s.nPorts ≤ idx then failWith s 0x04
    else give 0 (s.cpMaster t par idx)

/-- R191: SEARCH, in the master copy. -/
def State.searchRun (s : State) (c : TCmd) (ws : List Word) : CmdRes :=
  let par := bit c.arg0 0
  if c.table = 0 then
    match (s.staFind (staBd ws) (staMac ws)).find? fun e => lifeSees e.2 par s.epc.s with
    | some e => { cpl := { r0 := staSlotCode e.1 }, st := s, out := some (s.sta e.1) }
    | none => failWith s 0x07
  else
    let e := padTo c.count ws
    if ! nbrKindOk e c.count then failWith s 0x05
    else
      match (s.nbrFind (nbrV6 e) (fld (nbrLifeWord e) 29 16) (nbrAddr e)).find? fun x => lifeSees x.2 par s.epc.s with
      | some x => { cpl := { r0 := wd x.1 }, st := s, out := some (s.nbr x.1) }
      | none => failWith s 0x07

/-- R191: an entry that FLUSH_LEARNED removes. -/
def flushHits (c : TCmd) (e : List Word) : Bool :=
  lifeOf (wAt e 1) == 0 && staValid e && bit (wAt e 3) 29 && ! bit (wAt e 3) 30 &&
    (! bit c.arg0 31 || (fld (wAt e 2) 31 30 == 0 && fld (wAt e 2) 29 15 == fld c.arg0 7 0)) &&
    (! bit c.arg1 31 || staBd e == fld c.arg1 13 0)

/-- R191: FLUSH_LEARNED. -/
def State.flushRun (s : State) (c : TCmd) : CmdRes :=
  if bit c.arg0 31 && s.nPorts ≤ fld c.arg0 7 0 then failWith s 0x04
  else
    let ks := (s.tbl.sta.filter fun e => flushHits c e.2).map Prod.fst
    { cpl := { r0 := wd ks.length }, st := ks.foldl (fun st k => st.staRemove k) s }

/-- R191, R101: AGE_NOW: one ageing pass. -/
def State.ageRun (s : State) : CmdRes :=
  let ks := tkeys s.tbl.sta
  let n := (ks.filter fun k => s.ageOut k).length
  let s := ks.foldl State.ageVisit s
  { cpl := { r0 := wd n }, st := (tkeys s.tbl.spill).foldl State.spillVisit s }

/-- R198: a write of TBL_CMD_GO. -/
def State.submit (s : State) (b : Req) (v : Word) : State :=
  let k := reqNum b
  if bit v 31 && ! (s.cu.busy[k]?).getD false then
    let n := (s.cu.seqs[k]?).getD 0
    let c : TCmd := { src := .bank b, handle := put 31 28 15 ||| put 27 0 n, desc := (List.range 8).map fun i => s.rg .tblDesc 0 i k }
    ({ s with cu := { s.cu with q := s.cu.q ++ [c], busy := s.cu.busy.set k true, seqs := s.cu.seqs.set k ((n + 1) % 2 ^ 28) } } : State).cuTidy
  else s

/-! ### Meanings -/

/-- READ (R191). -/
def execRead (data : Option (List Word)) (ok : Bool) (s : State) : Host.Outcome State Fault Refusal :=
  act (s.tblOn && s.cuIs 0x01) (fun s => s.cuRun fun s c => State.finish c (s.cmdRun c data fun ws => s.readRun c ws) ok) s

/-- WRITE_INDEX (R177, R191). -/
def execWriteIndex (data : Option (List Word)) (s : State) : Host.Outcome State Fault Refusal :=
  act (s.tblOn && s.cuIs 0x02) (fun s => s.cuRun fun s c => State.finish c (s.cmdRun c data fun ws => s.writeRun c ws) true) s

/-- INSERT (R177-R179, R191). -/
def execInsert (data : Option (List Word)) (s : State) : Host.Outcome State Fault Refusal :=
  act (s.tblOn && s.cuIs 0x03) (fun s => s.cuRun fun s c => State.finish c (s.cmdRun c data fun ws => s.insertRun c ws) true) s

/-- DELETE (R177, R191). -/
def execDelete (data : Option (List Word)) (s : State) : Host.Outcome State Fault Refusal :=
  act (s.tblOn && s.cuIs 0x04) (fun s => s.cuRun fun s c => State.finish c (s.cmdRun c data fun ws => s.deleteRun c ws) true) s

/-- SEARCH (R191). -/
def execSearch (data : Option (List Word)) (ok : Bool) (s : State) : Host.Outcome State Fault Refusal :=
  act (s.tblOn && s.cuIs 0x05) (fun s => s.cuRun fun s c => State.finish c (s.cmdRun c data fun ws => s.searchRun c ws) ok) s

/-- TREE_WRITE (R150, R151, R177, R191). -/
def execTreeWrite (data : Option (List Word)) (s : State) : Host.Outcome State Fault Refusal :=
  act (s.tblOn && s.cuIs 0x06) (fun s => s.cuRun fun s c => State.finish c (s.cmdRun c data fun ws => s.treeWriteRun c ws) true) s

/-- TREE_RETIRE (R150, R177, R191). -/
def execTreeRetire (s : State) : Host.Outcome State Fault Refusal :=
  act (s.tblOn && s.cuIs 0x07) (fun s => s.cuRun fun s c => State.finish c (s.cmdRun c none fun _ => s.treeRetireRun c) true) s

/-- SET_ROOT (R177, R191). -/
def execSetRoot (s : State) : Host.Outcome State Fault Refusal :=
  act (s.tblOn && s.cuIs 0x08) (fun s => s.cuRun fun s c => State.finish c (s.cmdRun c none fun _ => s.setRootRun c) true) s

/-- BULK_STAGE (R192). -/
def execBulkStage (subs : Option (List BulkSub)) (s : State) : Host.Outcome State Fault Refusal :=
  act (s.tblOn && s.cuIs 0x0C) (fun s => s.cuRun fun s c => State.finish c (s.bulk c subs) true) s

/-- FLUSH_LEARNED (R191). -/
def execFlushLearned (s : State) : Host.Outcome State Fault Refusal :=
  act (s.tblOn && s.cuIs 0x0D) (fun s => s.cuRun fun s c => State.finish c (s.cmdRun c none fun _ => s.flushRun c) true) s

/-- AGE_NOW (R191, R101). -/
def execAgeNow (s : State) : Host.Outcome State Fault Refusal :=
  act (s.tblOn && s.cuIs 0x0F) (fun s => s.cuRun fun s c => State.finish c (s.cmdRun c none fun _ => s.ageRun) true) s

/-- SET_WIDTH (R74, R191). -/
def execSetWidth (s : State) : Host.Outcome State Fault Refusal :=
  act (s.tblOn && s.cuIs 0x10) (fun s => s.cuRun fun s c => State.finish c (s.cmdRun c none fun _ => s.widthRun c) true) s

/-- TBL_CMD_GO (R198). -/
def execTblCmdGo (r : Req) (bank : Fin 3) (v : Word) (s : State) : Host.Outcome State Fault Refusal :=
  act s.regOn (fun s => s.access r domTbl fun s => s.submit (if bank = 0 then .host0 else if bank = 1 then .host1 else .chain) v) s

/-- ASC_COPY_WRITE (R77, R79). -/
def execAscCopyWrite (pipe : Fin 48) (s : State) : Host.Outcome State Fault Refusal :=
  act (s.tblOn && (s.fanNext pipe).any fun f => f.at_ ≤ s.mono) (fun s => s.pipeWrite pipe) s

/-- ASC_COMPARE (R80). -/
def execAscCompare (unit : Fin 512) (upsets : List (Nat × Nat)) (s : State) : Host.Outcome State Fault Refusal :=
  act s.tblOn (fun s => s.ascScan unit upsets) s

/-- ASC_REPAIR (R80). -/
def execAscRepair (pipe : Fin 48) (s : State) : Host.Outcome State Fault Refusal :=
  act (s.tblOn && s.pgOn (pipe / 6)) (fun s => s.ascFix pipe) s

end Sys2Proof.Machine
end

