-- ==== Sys2Proof/Machine/Epochs.lean ====
section
/-! DEFINITION. The epoch control unit (R169-R189): staging, commit, flip, settle and abort. -/

namespace Sys2Proof.Machine

open Sys2Proof

/-! ### Staging (R175, R176) -/

/-- R171: the parity that the epoch number gives. -/
def State.newPar (s : State) : Bool := bit s.epc.num 0

/-- R176: a BEGIN_STAGE executes in IDLE. -/
def State.openStage (s : State) (c : TCmd) : State :=
  let sch : BitVec 4 := c.arg0.setWidth 4
  let seed := s.rg .tblLagSeed
  let e := { s.epc with st := .staging, owner := some c.req, token := c.token, touched := [] }
  let e := if e.s then { e with schemaA := sch, rootA := e.rootC, seedA := seed }
    else { e with schemaC := sch, rootC := e.rootA, seedC := seed }
  ({ s with epc := e } : State).complete c { r0 := e.num + 1 }

/-- R190, R198: a command of staging itself acts, unless its own words are refused. -/
def State.formed (f : State → TCmd → State) (s : State) (c : TCmd) : State :=
  match formCheck c with
  | some st => s.complete c { status := st }
  | none => f s c

/-- R175, R176: a BEGIN_STAGE that finds staging open. -/
def State.stageOpen (s : State) (c : TCmd) : State :=
  s.complete c { status := if s.epc.owner = some c.req then 0x10 else 0x09 }

/-- R176: a BEGIN_STAGE is handled by the state that it finds; one behind a waiting one waits too. -/
def State.begin_ (s : State) (c : TCmd) : State :=
  let wait := s.cu.beginWait ++ [c]
  match s.epc.st with
  | .idle => if s.cu.beginWait.isEmpty then s.openStage c else { s with cu := { s.cu with beginWait := wait } }
  | .staging => if s.cu.beginWait.isEmpty then s.stageOpen c else { s with cu := { s.cu with beginWait := wait } }
  | _ => { s with cu := { s.cu with beginWait := wait } }

/-- R176: the waiting BEGIN_STAGE that arrived first executes. -/
def State.beginNext (s : State) : State :=
  match s.cu.beginWait with
  | [] => s
  | c :: l =>
    let s : State := { s with cu := { s.cu with beginWait := l } }
    (if s.epc.st = .idle then s.openStage c else s.stageOpen c).cuTidy

/-! ### Commit (R147, R180, R181) -/

/-- R147: a cluster accepts a schema. -/
def State.serves (s : State) (c sch : Nat) : Bool :=
  let x := s.clu c
  match x.slots[s.activeSlotOf c]? with
  | some sl => sl.valid && sl.mask.getLsbD sch
  | none => false

/-- R147: every port group with an admitted cluster has one that accepts the schema. -/
def State.schemaServed (s : State) (sch : Nat) : Bool :=
  (List.range s.nGroups).all fun n =>
    let adm := (groupClusters n).filter s.admits
    adm.isEmpty || adm.any fun c => s.serves c sch

/-- R180, step 3: every STAGED node becomes LIVE. -/
def liveNodes (t : Tab NodeState) : Tab NodeState := t.map fun e => (e.1, if e.2 = .staged then .live else e.2)

/-- R180, step 4: the flip is sent to the pipes of Active groups. -/
def State.sendFlip (s : State) : State :=
  (List.range s.nGroups).foldl (fun st n =>
    if st.isActive (domPg n) then st.setGrp n { st.grp n with flip := List.replicate 6 true } else st) s

/-- R180: COMMIT. -/
def State.commitRun (s : State) (c : TCmd) : State :=
  match s.stageCheck c with
  | some st => s.complete c { status := st }
  | none =>
    if ! s.schemaServed (s.schemaOf s.epc.s) then s.complete c { status := 0x0D }
    else
      let tbl := { s.tbl with node := liveNodes s.tbl.node }
      let e := { s.epc with num := s.epc.num + 1, st := .flipping, flipTime := BitVec.ofNat 64 s.now, flipAt := s.mono, late := false, commitBy := some c }
      ({ s with tbl := tbl, epc := e } : State).sendFlip

/-- R181: the pipes of a group that have not taken the flip. -/
def State.latePipes (s : State) (n : Nat) : List Nat :=
  if s.isActive (domPg n) then (List.range 6).filter fun p => ((s.grp n).flip[p]?).getD false else []

/-- R181: a pipe takes the flip. -/
def State.takeFlip (s : State) (pipe : Nat) : State :=
  let n := pipe / 6
  let g := s.grp n
  s.setGrp n { g with par := g.par.set (pipe % 6) s.newPar, flip := g.flip.set (pipe % 6) false }

/-- R181: every pipe of an Active group has acknowledged. -/
def State.flipDone (s : State) : Bool := (List.range s.nGroups).all fun n => (s.latePipes n).isEmpty

/-- R181: COMMIT completes, C takes the new parity, and the settle begins. -/
def State.commitEnd (s : State) : State :=
  let e := s.epc
  let by_ := e.commitBy
  let x : Cpl := { late := e.late, r0 := e.num, r1 := lo32 e.flipTime }
  let s : State := { s with epc := { e with c := s.newPar, st := .draining, owner := none, token := 0, commitBy := none, committed := true } }
  let s := s.startDone
  let s := match by_ with
    | some c => s.complete c x
    | none => s
  s.cuTidy

/-- R181: a group with a late pipe raises FLIP_TIMEOUT for each such pipe, and its ingress is isolated. INFO is the
group in bits 26:24 and the pipe in bits 2:0, the model's choice (log entry 82). -/
def State.lateGroup (s : State) (n : Nat) : State :=
  let late := s.latePipes n
  if late.isEmpty then s
  else
    let s := s.setGrp n { s.grp n with isolated := true, flip := List.replicate 6 false }
    let s : State := { s with epc := { s.epc with late := true } }
    late.foldl (fun st p => st.raise { src := 12, cls := .crimson, code := 0x17, info := put 26 24 n ||| put 2 0 p }) s

/-! ### Flush (R183, R184) -/

/-- R120: the thread that holds a frame, if one does. -/
def State.holder (s : State) (k : Nat) : Option Nat := (s.threads.find? fun e => e.2.pkt = some k).map Prod.fst

/-- R26: a resequencer's hold of a frame is replaced by a marker. -/
def unpass (k : Nat) (l : List (Nat × SeqItem)) : List (Nat × SeqItem) :=
  l.map fun e =>
    match e.2 with
    | .pass p _ => if p = k then (e.1, .gone) else e
    | .gone => e

/-- R26: a resequencer holds a frame that goes on to policing. -/
def passes (k : Nat) (l : List (Nat × SeqItem)) : Bool :=
  l.any fun e =>
    match e.2 with
    | .pass p _ => p == k
    | .gone => false

/-- A frame is dropped after its verdict has reached the resequencer. -/
def State.dropLate (s : State) (k reason : Nat) : State :=
  let p := s.pkt k
  ((s.drop .engines reason p.info).freeHold p).dropPkt k

/-- R184: a frame not yet admitted is dropped with EPOCH_STALE, wherever it is. -/
def State.stalePkt (s : State) (k : Nat) : State :=
  let p := s.pkt k
  let lp := p.stamp.lport
  let n := lp / 32
  let s := s.bump .epcStale 0 0
  let g := s.grp n
  if passes k (s.held26 lp) then
    ({ s with reseq := tset (fun _ => []) s.reseq lp (unpass k (s.held26 lp)) } : State).dropLate k 0x2E
  else if g.polq.any fun e => e.1 == k then
    (s.setGrp n { g with polq := g.polq.filter fun e => e.1 != k }).dropLate k 0x2E
  else
    let wq := (List.range 4).foldl (fun t c => tset (fun _ => []) t c ((tget (fun _ => []) t c).filter (· != k))) g.waitq
    let s := s.setGrp n { g with searches := g.searches.filter fun x => x.pkt != k, waitq := wq }
    let s := match s.holder k with
      | some t =>
        let s := (s.dropLock t (s.thr t).no).samplePrimary t none
        s.setThr t (s.thr t).idle
      | none => s
    s.endPkt k .engines 0x2E

/-- R184: a descriptor of the old parity in a queue or a pending replica queue is discarded. -/
def State.staleDesc (s : State) (d : Nat) : State :=
  let s := s.bump .epcStale 0 0
  match s.buf.queues.find? fun e => e.2.contains d with
  | some (q, l) =>
    (((s.setQueue q (l.erase d)).moveUsed q (· - poolCells (s.desc d).pool)).queueEmptied q).dropDesc d 0x2E
  | none =>
    let pend := s.buf.pend.map fun e => (e.1, e.2.filter fun x => x.desc != d)
    let q := (s.buf.pend.findSome? fun e => (e.2.find? fun x => x.desc == d).map fun x => x.queue)
    let s : State := { s with buf := { s.buf with pend := pend.filter fun e => ! e.2.isEmpty } }
    let s := match q with
      | some q => s.moveUsed q (· - poolCells (s.desc d).pool)
      | none => s
    s.dropDesc d 0x2E

/-- R184: the frames of a parity that are not yet admitted. -/
def State.stalePkts (s : State) (par : Bool) : List Nat :=
  (s.pkts.filter fun e => e.2.stamp.epoch == par).map Prod.fst

/-- R184: the queued descriptors of a parity. -/
def State.staleDescs (s : State) (par : Bool) : List Nat :=
  ((s.buf.queues.flatMap fun e => e.2) ++ s.buf.pend.flatMap fun e => e.2.map fun x => x.desc).filter fun d =>
    (s.desc d).epoch == par

/-- R184, R378: up to `n` held frames of the old parity are discarded: those before admission by pipes whose clock
runs, and the queued ones while the buffer's does. -/
def State.flushStale (s : State) (n : Nat) : State :=
  let old := ! s.epc.c
  let ps := ((s.stalePkts old).filter fun k => s.clkOk (72 + (s.pkt k).stamp.lport / 32)).take n
  let s := ps.foldl State.stalePkt s
  if s.clkOk 144 then ((s.staleDescs old).take (n - ps.length)).foldl State.staleDesc s else s

/-! ### Sweep (R184) and abort sweep (R189) -/

/-- R184: entries that a sweep visits in a table by position. -/
def sweepSize (table : Nat) : Nat :=
  match table with
  | 0 => 540672
  | 1 => 131072
  | 10 => 32768
  | _ => 4096

/-- The keys of a table within a range of positions. -/
def keysIn {α : Type} (t : Tab α) (lo hi : Nat) : List Nat := (tkeys t).filter fun k => lo ≤ k && k < hi

/-- The kind of a sweep, and what it does to staged state: a settle keeps the new, an abort the old. -/
inductive Sweep where
  | settle | abort
  deriving DecidableEq, Repr

/-- R184, R189: a station entry is visited; the answer says whether it was staged. -/
def State.sweepSta (s : State) (w : Sweep) (k : Nat) : Bool × State :=
  let e := s.sta k
  match lifeOf (wAt e 1), w with
  | 1, .settle =>
    let e := setAt (staWithLife e 0) 3 (wAt e 3 &&& ~~~ flag 28 true)
    (true, (s.staPut k e).hitSet k)
  | 2, .settle => (true, (s.staRemove k).setTag 0 k 3)
  | 1, .abort => (true, (s.staRemove k).setTag 0 k 3)
  | 2, .abort => (true, s.staPut k (staWithLife e 0))
  | _, _ => (false, s)

/-- R184, R189: a neighbour entry is visited. -/
def State.sweepNbr (s : State) (w : Sweep) (k : Nat) : Bool × State :=
  let e := s.nbr k
  match lifeOf (nbrLifeWord e), w with
  | 1, .settle => (true, s.nbrPut k (nbrWithLife e 0))
  | 2, .settle => (true, (s.nbrPut k []).setTag 1 k 3)
  | 1, .abort => (true, (s.nbrPut k []).setTag 1 k 3)
  | 2, .abort => (true, s.nbrPut k (nbrWithLife e 0))
  | _, _ => (false, s)

/-- R184, R189: a slot of a replication row is visited. -/
def State.sweepRep (s : State) (w : Sweep) (k : Nat) : Bool × State :=
  let e := s.repSlot k
  if ! e.valid then (false, s)
  else
    match e.life, w with
    | 1, .settle => (true, s.repPut k { e with life := 0 })
    | 2, .settle => (true, (s.repPut k {}).setTag 10 k 3)
    | 1, .abort => (true, (s.repPut k {}).setTag 10 k 3)
    | 2, .abort => (true, s.repPut k { e with life := 0 })
    | _, _ => (false, s)

/-- A write is put at the end of the fan-out. -/
def State.addFan (x : Fan × State) : State :=
  if x.1.left.isEmpty then x.2 else { x.2 with cu := { x.2.cu with fan := x.2.cu.fan ++ [x.1] } }

/-- R184, R189: an associative entry is visited. -/
def State.sweepAsc (s : State) (w : Sweep) (k : Nat) : Bool × State :=
  let e := s.asc k
  let keep : AscEntry := { words := ascStore e.words (widthUnits (s.ascWidth (k / 512))) false false, life := .always }
  match e.life, w with
  | .always, _ => (false, s)
  | .fromNext, .settle => (true, State.addFan (s.ascPut k keep))
  | .untilNext, .settle => (true, (State.addFan (s.ascPut k {})).setTag 2 k 3)
  | .fromNext, .abort => (true, (State.addFan (s.ascPut k {})).setTag 2 k 3)
  | .untilNext, .abort => (true, State.addFan (s.ascPut k keep))

/-- R184, R189: a tree node is visited. -/
def State.sweepNode (s : State) (w : Sweep) (i : Nat) : Bool × State :=
  match s.nodeSt i, w with
  | .retiring, .settle => (true, ((s.treePut i []).setNode i .free).setTag 3 i 3)
  | .staged, .abort => (true, ((s.treePut i []).setNode i .free).setTag 3 i 3)
  | .retiring, .abort => (true, s.setNode i .live)
  | _, _ => (false, s)

/-- R184, R189: a dirty entry of a copy table is visited: the S copy goes to the other, or the C copy
to the S copy. -/
def State.sweepCp (s : State) (w : Sweep) (table idx : Nat) : Bool × State :=
  let src := if w = .settle then s.epc.s else ! s.epc.s
  let e := s.cpMaster table src idx
  (true, (s.cpPut table (! src) idx e).setDirty table idx false)

/-- Each of a list of keys is visited; the answer counts those that were staged. -/
def visitAll (f : State → Nat → Bool × State) : List Nat → State → Nat × State
  | [], s => (0, s)
  | k :: l, s =>
    let r := f s k
    let q := visitAll f l r.2
    (b2n r.1 + q.1, q.2)

/-- R184: the nodes that a sweep visits. -/
def State.sweepNodes (s : State) (w : Sweep) : List Nat :=
  (s.tbl.node.filter fun e => e.2 = .retiring || (w = .abort && e.2 = .staged)).map Prod.fst

/-- R184: the dirty entries of a copy table. -/
def State.dirtyIdx (s : State) (table : Nat) : List Nat :=
  (keysIn s.tbl.dirty (table * 65536) ((table + 1) * 65536)).map fun k => k - table * 65536

/-- R184, R189: the next `n` entries of a table from a position: how many were staged, whether the
table is finished, and the state. -/
def State.sweepTable (s : State) (w : Sweep) (table pos n : Nat) : Nat × Bool × State :=
  let done := sweepSize table ≤ pos + n
  match table with
  | 0 =>
    let r := visitAll (fun s k => s.sweepSta w k) (keysIn s.tbl.sta pos (pos + n)) s
    (r.1, done, r.2)
  | 1 =>
    let r := visitAll (fun s k => s.sweepNbr w k) (keysIn s.tbl.nbr pos (pos + n)) s
    (r.1, done, r.2)
  | 10 =>
    let r := visitAll (fun s k => s.sweepRep w k) (keysIn s.tbl.rep (2 * pos) (2 * (pos + n))) s
    (r.1, done, r.2)
  | 2 =>
    let r := visitAll (fun s k => s.sweepAsc w k) (keysIn s.tbl.asc pos (pos + n)) s
    (r.1, done && r.2.cu.fan.isEmpty, r.2)
  | 3 =>
    let l := s.sweepNodes w
    let r := visitAll (fun s k => s.sweepNode w k) (l.take n) s
    (r.1, l.length ≤ n, r.2)
  | t =>
    let l := s.dirtyIdx t
    let r := visitAll (fun s k => s.sweepCp w t k) (l.take n) s
    (r.1, l.length ≤ n, r.2)

/-- R183: the settle ends: S takes the complement of C, and waiting SETTLE_WAITs complete. -/
def State.settleDone (s : State) : State :=
  let l := s.cu.settleWait
  let s : State := { s with epc := { s.epc with s := ! s.epc.c, st := .idle, touched := [], sweepPos := 0 }, cu := { s.cu with settleWait := [] } }
  (l.foldl (fun st c => st.complete c { r0 := st.epc.num }) s).cuTidy

/-- R189: the abort ends: root and seed of S are restored, ownership is released, and ABORT_STAGE and
waiting SETTLE_WAITs complete. RESULT0 counts every staged entry that the sweep visited (log entry 85). -/
def State.abortEnd (s : State) : State :=
  let e := s.epc
  let e' := if e.s then { e with rootA := e.rootC, seedA := e.seedC } else { e with rootC := e.rootA, seedC := e.seedA }
  let l := s.cu.settleWait
  let s : State := { s with epc := { e' with st := .idle, owner := none, token := 0, abortBy := none, forced := false, touched := [], sweepPos := 0, restored := 0 }, cu := { s.cu with settleWait := [] } }
  let s := match e.abortBy with
    | some c => s.complete c { r0 := wd e.restored }
    | none => s
  (l.foldl (fun st c => st.complete c { r0 := st.epc.num }) s).cuTidy

/-- R184: the sweep ends when the last touched table is finished. -/
def State.sweepEnd (s : State) (w : Sweep) : State :=
  if s.epc.sweepTabs.isEmpty then (if w = .settle then s.settleDone else s.abortEnd) else s

/-- R184, R189: the next `n` entries of the sweep. An abort counts every staged entry that it visits as restored,
the removed ones too: the model's choice (log entry 85). -/
def State.sweepRun (s : State) (w : Sweep) (n : Nat) : State :=
  match s.epc.sweepTabs with
  | [] => s.sweepEnd w
  | t :: l =>
    let pos := s.epc.sweepPos
    let r := s.sweepTable w t pos n
    let s := r.2.2
    let e := { s.epc with restored := s.epc.restored + r.1 }
    let e := if r.2.1 then { e with sweepTabs := l, sweepPos := 0 } else { e with sweepPos := min (sweepSize t) (pos + n) }
    ({ s with epc := e } : State).sweepEnd w

/-- R361: the sentinels discard their samples of the old parity. -/
def State.dropOldSamples (s : State) : State :=
  let old := ! s.epc.c
  (List.range s.nClusters).foldl (fun st c => st.dropSamples c fun x => x.stamp.epoch == old) s

/-- R183, R361: the settle moves to its sweep, which ends at once when the staging touched no table. The
samples of the old parity are discarded first, so none is held when it begins. -/
def State.toSweep (s : State) : State :=
  let s := s.dropOldSamples
  ({ s with epc := { s.epc with st := .sweeping, sweepTabs := sweepOrder s.epc.touched, sweepPos := 0 } } : State).sweepEnd .settle

/-- R183: no frame of the old parity is held. -/
def State.oldGone (s : State) : Bool := s.liveHeld (! s.epc.c) == 0

/-- R173, R183: DRAIN_MAX in ns. -/
def State.drainMax (s : State) : Nat := max 1 (fld (s.rg .epcCfg) 15 0) * 10000

/-- R175, R183: SETTLE_WAIT; with STAGED 1 it is a staging command. -/
def State.settleWait (s : State) (c : TCmd) : State :=
  match s.ownCheck c, s.epc.st with
  | some st, _ => s.complete c { status := st }
  | none, .idle => s.complete c { r0 := s.epc.num }
  | none, .staging => s.complete c { r0 := s.epc.num }
  | none, _ => { s with cu := { s.cu with settleWait := s.cu.settleWait ++ [c] } }

/-- R189: ABORT_STAGE. -/
def State.abortRun (s : State) (c : TCmd) : State :=
  match s.stageCheck c with
  | some st => s.complete c { status := st }
  | none => s.startAbort (some c) false

/-- R173: a write of EPC_CFG. -/
def State.writeEpcCfg (s : State) (v : Word) : State :=
  let s := s.setRg .epcCfg 0 0 (v &&& 0xFFFF)
  if bit v 31 && s.epc.st = .staging then s.startAbort none true else s

/-! ### Meanings -/

/-- BEGIN_STAGE (R176). -/
def execBeginStage (s : State) : Host.Outcome State Fault Refusal :=
  act (s.tblOn && s.cuIs 0x09) (fun s => s.cuRun (State.formed State.begin_)) s

/-- WAITING_BEGIN_STAGE (R176). -/
def execWaitingBeginStage (s : State) : Host.Outcome State Fault Refusal :=
  act (s.tblOn && (s.epc.st = .idle || s.epc.st = .staging)) State.beginNext s

/-- COMMIT (R180): it waits until every write of earlier commands has landed. -/
def execCommit (s : State) : Host.Outcome State Fault Refusal :=
  act (s.tblOn && s.cuIs 0x0A && s.cu.fan.isEmpty) (fun s => s.cuRun (State.formed State.commitRun)) s

/-- PIPE_FLIP (R181). -/
def execPipeFlip (pipe : Fin 48) (s : State) : Host.Outcome State Fault Refusal :=
  act (s.pgOn (pipe / 6) && ((s.grp (pipe / 6)).flip[pipe.val % 6]?).getD false) (fun s => s.takeFlip pipe) s

/-- COMMIT_COMPLETE (R181). -/
def execCommitComplete (s : State) : Host.Outcome State Fault Refusal :=
  act (s.tblOn && s.epc.st = .flipping && s.flipDone) State.commitEnd s

/-- FLIP_TIMEOUT (R181). -/
def execFlipTimeout (s : State) : Host.Outcome State Fault Refusal :=
  act (s.tblOn && s.epc.st = .flipping && ! s.flipDone && s.epc.flipAt + 1000 ≤ s.mono)
    (fun s => (List.range s.nGroups).foldl State.lateGroup s) s

/-- DRAIN_COMPLETE (R183). -/
def execDrainComplete (s : State) : Host.Outcome State Fault Refusal :=
  act (s.tblOn && s.epc.st = .draining && s.oldGone) State.toSweep s

/-- DRAIN_TIMEOUT (R183). -/
def execDrainTimeout (s : State) : Host.Outcome State Fault Refusal :=
  act (s.tblOn && s.epc.st = .draining && s.epc.flipAt + s.drainMax ≤ s.mono)
    (fun s =>
      let s : State := { s with epc := { s.epc with st := .flushing } }
      if s.oldGone then s.toSweep else s) s

/-- EPOCH_FLUSH (R183, R184). -/
def execEpochFlush (n : Nat) (s : State) : Host.Outcome State Fault Refusal :=
  act (s.tblOn && s.epc.st = .flushing)
    (fun s =>
      let s := s.flushStale n
      if s.oldGone then s.toSweep else s) s

/-- SETTLE_SWEEP (R184). -/
def execSettleSweep (n : Nat) (s : State) : Host.Outcome State Fault Refusal :=
  act (s.tblOn && s.epc.st = .sweeping) (fun s => s.sweepRun .settle n) s

/-- ABORT_STAGE (R189). -/
def execAbortStage (s : State) : Host.Outcome State Fault Refusal :=
  act (s.tblOn && s.cuIs 0x0B) (fun s => s.cuRun (State.formed State.abortRun)) s

/-- FORCE_ABORT (R173, R189). -/
def execForceAbort (r : Req) (v : Word) (s : State) : Host.Outcome State Fault Refusal :=
  act s.regOn (fun s => s.access r domTbl fun s => s.writeEpcCfg v) s

/-- ABORT_SWEEP (R189). -/
def execAbortSweep (n : Nat) (s : State) : Host.Outcome State Fault Refusal :=
  act (s.tblOn && s.epc.st = .aborting) (fun s => s.sweepRun .abort n) s

/-- SETTLE_WAIT (R183). -/
def execSettleWait (s : State) : Host.Outcome State Fault Refusal :=
  act (s.tblOn && s.cuIs 0x0E) (fun s => s.cuRun (State.formed State.settleWait)) s

end Sys2Proof.Machine
end

