-- ==== Sys2Proof/Machine/Admission.lean ====
section
/-! DEFINITION. The resequencer (R26), the policers (R231-R233), admission and replication (R208-R222)
and the end of a buffer write (R113, R242). -/

namespace Sys2Proof.Machine

open Sys2Proof

/-! ### Resequencer (R26) -/

/-- R26: the next item of a port's sequence, if it has arrived. -/
def State.seqNext? (s : State) (lp : Nat) : Option SeqItem :=
  ((s.held26 lp).find? fun e => e.1 == (s.port lp).seqRel).map Prod.snd

/-- R26: the next item of a port's sequence is released: a frame goes on to policing. -/
def State.release26 (s : State) (lp : Nat) : State :=
  match s.seqNext? lp with
  | none => s
  | some i =>
    let p := s.port lp
    let rest := (s.held26 lp).filter fun e => e.1 != p.seqRel
    let s := s.setPort lp { p with seqRel := (p.seqRel + 1) % 65536 }
    let s : State := { s with reseq := tset (fun _ => []) s.reseq lp rest }
    match i with
    | .gone => s
    | .pass k t =>
      let g := s.grp (lp / 32)
      s.setGrp (lp / 32) { g with polq := g.polq ++ [(k, t)] }

/-! ### Token buckets (R232, R240) -/

/-- R232, R240: the tokens of a bucket now; one whose EN is 0 holds none. -/
def Bucket.tokens (b : Bucket) (now : Nat) : Int :=
  if b.en then min b.limit (b.tok + ((now - b.at_) * b.rate : Nat)) else 0

/-- A bucket debited by a number of bytes, where its EN is 1. -/
def Bucket.debit (b : Bucket) (now bytes : Nat) : Bucket :=
  if b.en then { b with tok := b.tokens now - (bytes : Int) * 1000000, at_ := now } else b

/-- R231: one policer. -/
def State.polB (s : State) (p : Nat) : Bucket := tget (fun _ => {}) s.sched.pol p

/-- R231: a policer written. -/
def State.setPol (s : State) (p : Nat) (b : Bucket) : State :=
  { s with sched := { s.sched with pol := tset (fun _ => {}) s.sched.pol p b } }

/-- R232: a frame's charged length conforms to a policer. -/
def Bucket.conforms (b : Bucket) (now len : Nat) : Bool :=
  ! b.en || ((len + b.overhead : Nat) : Int) * 1000000 ≤ b.tokens now

/-- R231: the policers of a frame, in order, each with its drop reason; `member` says that the member's
policers apply. -/
def policersOf (v : List Word) (lp : Nat) (member : Bool) : List (Nat × Nat) :=
  let m := vdGet v 12
  let c := vdGet v 8
  (if member && c ≠ 0 then [(4 * m + c, 0x1B + c)] else []) ++
    (if member then [(4 * m, 0x1B)] else []) ++
    (if vdGet v 9 = 0 then [(16384 + lp, 0x1F)] else [])

/-- R232: the first policer that a frame does not conform to. -/
def State.polFirst (s : State) (l : List (Nat × Nat)) (len : Nat) : Option (Nat × Nat) :=
  l.find? fun e => ! (s.polB e.1).conforms s.mono len

/-- R232: a frame is debited from each policer. -/
def State.polDebit (s : State) (l : List (Nat × Nat)) (len : Nat) : State :=
  l.foldl (fun st e => st.setPol e.1 ((st.polB e.1).debit st.mono (len + (st.polB e.1).overhead))) s

/-- R113, R248: a frame between the resequencer and the buffer is dropped. -/
def State.dropAt (s : State) (k : Nat) (b : Boundary) (reason : Nat) : State :=
  ((s.drop b reason (s.pkt k).info).freeHold (s.pkt k)).dropPkt k

/-- R233: the bucket operations that wait at a group's policer unit; it performs 36 in a ns. -/
def State.polWaiting (s : State) (n : Nat) : Nat := (s.grp n).polOps - 36 * (s.mono - (s.grp n).polAt)

/-- R233: bucket operations join a group's policer queue. -/
def State.polLoad (s : State) (n ops : Nat) : State :=
  s.setGrp n { s.grp n with polOps := s.polWaiting n + ops, polAt := s.mono }

/-- R233: the operations that a frame needs at its member's home: its class and its total policer. -/
def homeOps (v : List Word) : Nat := if vdGet v 8 = 0 then 1 else 2

/-- R231-R233: what the policers make of a frame: dropped, or on to admission. The home's queue is full
where the frame's operations would take it above 512 (log entry 71). -/
def State.policed (s : State) (k : Nat) : Bool × State :=
  let p := s.pkt k
  let lp := p.stamp.lport
  let home := s.home (vdGet p.verdict 12)
  let homed := home < s.nGroups && s.isLit (domPg home)
  let s := if homed then s else s.bump .polUnhomedCnt 0 (lp / 32)
  let s := if homed && home ≠ lp / 32 then s.wake (domPg home) else s
  if homed && 512 < s.polWaiting home + homeOps p.verdict then
    (false, (s.bump .polBusyCnt 0 home).dropAt k .policers 0x20)
  else
    let s := if homed then s.polLoad home (homeOps p.verdict) else s
    let s := if vdGet p.verdict 9 = 0 then s.polLoad (lp / 32) 1 else s
    let l := policersOf p.verdict lp homed
    match s.polFirst l p.bytes.length with
    | some (i, r) =>
      let b := s.polB i
      (false, (s.setPol i { b with drops := sat 32 (b.drops + 1) }).dropAt k .policers r)
    | none => (true, s.polDebit l p.bytes.length)

/-! ### Descriptors and acceptance (R205, R208, R210, R220) -/

/-- R208: what admission decides on: the frame, its length after rewrite, its stored bytes, the pool,
the number of targets and the descriptor that each acceptance makes. -/
structure Adm where
  pkt : Pkt
  stored : List Byte
  pool : Nat
  n : Nat
  multi : Bool := false
  desc : Desc
  choice : Nat

/-- R206: a descriptor joins its queue. -/
def State.enqueue (s : State) (q d : Nat) : State := (s.setQueue q (s.queue q ++ [d])).telEnq q

/-- R210: the frame's buffer, taken with the first acceptance. -/
def State.admitBuf (s : State) (a : Adm) (buf : Option Nat) : Nat × State :=
  match buf with
  | some b => (b, s)
  | none =>
    match s.takeBuf a.pool a.choice with
    | none => (0, s)
    | some (b, blk, s) =>
      let x : Buf := { bytes := a.stored, refs := a.n, member := a.desc.member, pool := a.pool, block := blk, hold := true, wrAt := s.mono, pkt := a.pkt }
      (b, (s.setBuf b x).poolSteps)

/-- R208, R210, R220, R221: a target is accepted; the first descriptor of a frame joins its queue at
once, a later one its pending replica queue. The answer is the frame's buffer. -/
def State.acceptOne (s : State) (a : Adm) (q : Nat) (shared : Bool) (buf : Option Nat) : Nat × State :=
  let (b, s) := s.admitBuf a buf
  let x := s.bufr b
  let s := if shared && ! x.shared then
      (s.setBuf b { x with shared := true }).moveMember a.desc.member (· + poolCells a.pool)
    else s
  let d := freeDesc s.buf.descs s.buf.nextDesc
  let y := { a.desc with shared := shared || x.shared, buf := b, pool := a.pool, src := if a.multi && 2560 ≤ q then PuntSrc.replication else a.desc.src }
  let s := s.moveUsed q (· + poolCells a.pool)
  let s : State := { s with buf := { s.buf with
    descs := tset (fun _ => {}) s.buf.descs d y, nextDesc := (d + 1) % 1048576, descFree := s.buf.descFree - 1 } }
  if buf.isNone then (b, s.enqueue q d)
  else (b, { s with buf := { s.buf with
    pend := tmod (fun _ => []) s.buf.pend (pendOf q) (· ++ [{ queue := q, desc := d }]) } })

/-- R230: the counter of a refusal of a multi-target frame. -/
def mcrIndex (order : Nat) : Nat :=
  match order with
  | 2 => 0
  | 3 => 1
  | 7 => 3
  | 8 => 4
  | 9 => 5
  | _ => 2

/-- R219, R230: a target of a multicast frame is refused; a group that stands for no queue charges
none. -/
def State.refuseRep (s : State) (d : DropInfo) (q : Option Nat) (order : Nat) : State :=
  let s := (s.drop .replication 0x2A d).bump .bufMcr 0 (mcrIndex order)
  match q with
  | some q => s.telRefused q
  | none => s

/-- R209, R210, R218-R220: the targets of a multicast frame, in list order; a later refusal lowers the
buffer's reference count. -/
def State.admitMany (a : Adm) : List (Option Nat) → Option Nat → Nat → State → Option Nat × State
  | [], buf, _, s => (buf, s)
  | t :: l, buf, lost, s =>
    let fewer (st : State) : State :=
      match buf with
      | some b => st.setBuf b { st.bufr b with refs := (st.bufr b).refs - 1 }
      | none => st
    match t with
    | none => State.admitMany a l buf (lost + 1) (fewer (s.refuseRep a.pkt.info none 2))
    | some q =>
      let ctx : AdmCtx := { pool := a.pool, has := buf.isSome, shared := (buf.map fun b => (s.bufr b).shared).getD false, member := a.desc.member }
      match s.admitOne q true ctx with
      | .inl r => State.admitMany a l buf (lost + 1) (fewer (s.refuseRep a.pkt.info (some q) r.order))
      | .inr shared =>
        let a' := if buf.isNone then { a with n := a.n - lost } else a
        let (b, s) := s.acceptOne a' q shared buf
        State.admitMany a l (some b) lost s

/-! ### A frame at admission (R28, R209, R218, R219) -/

/-- R205: the descriptor of a frame, but for its buffer. It holds the rewrite of the verdict whatever the target;
a punt and an answer are not rewritten by it (R160, R166). -/
def State.descOf (s : State) (p : Pkt) (len : Nat) (t : Target) : Desc :=
  let v := p.verdict
  let push := vdGet v 10 = 1
  let answer := match t with
    | .answer _ _ => true
    | _ => false
  { epoch := p.stamp.epoch, lport := p.stamp.lport, member := vdGet v 12, time := p.stamp.time, len := len, src := p.puntSrc, answer := answer, popAt := vdGet v 13, pushEn := push, template := vdGet v 11, gap := if push then s.tmplLen (p.stamp.lport / 32) p.stamp.epoch (vdGet v 11) else 0, set0En := vdGet v 18 = 1, set1En := vdGet v 20 = 1, set0Val := wAt v 3, set0Off := vdGet v 17, set1Off := vdGet v 19, set1Val := wAt v 5 }

/-- R28, R166: the length that admission uses. -/
def State.admLen (s : State) (p : Pkt) (t : Target) : Nat :=
  match t with
  | .host _ => p.bytes.length
  | .answer f _ => f.length
  | _ => s.lenAfter (p.stamp.lport / 32) p.stamp.epoch p.verdict p.bytes.length

/-- R204: the bytes that the buffer holds. -/
def admStored (p : Pkt) (d : Desc) (t : Target) : List Byte :=
  match t with
  | .host _ => p.bytes.take (p.bytes.length - 4)
  | .answer f _ => f.take (f.length - 4)
  | _ => storedForm p.bytes d.popAt (vdGet p.verdict 14) d.gap

/-- R218: the queue that a list target stands for: none of its own for a group without a member. -/
def State.repQueue (s : State) (p : Pkt) (mcq t : Nat) : Option Nat :=
  match t / 16384 with
  | 0 => some (10 * (t % 512) + 8 + mcq)
  | 1 =>
    match s.lagPick (p.stamp.lport / 32) p.stamp.epoch (t % 512) (vdGet p.verdict 15) with
    | .inl _ => none
    | .inr m => some (10 * m + 8 + mcq)
  | _ => some (2560 + t % 512)

/-- R162, R218: the targets of a multicast frame: those left out are a replica to the frame's own port,
unless NO_PRUNE is set, and one whose queue an earlier target names. -/
def repTargets (lp : Nat) (noPrune : Bool) : List (Option Nat) → List Nat → List (Option Nat)
  | [], _ => []
  | none :: l, seen => none :: repTargets lp noPrune l seen
  | some q :: l, seen =>
    if (! noPrune && q < 2560 && q / 10 == lp) || seen.contains q then repTargets lp noPrune l seen
    else some q :: repTargets lp noPrune l (q :: seen)

/-- R348, R351, R353: the read of a frame's holding-store words is uncorrectable: the event, whose word the
command does not name, and the drop. -/
def State.holdBad (s : State) (k : Nat) : State :=
  let n := (s.pkt k).stamp.lport / 32
  let (w, s) := s.fresh
  (s.dropAt k .admission 0x29).raise { src := 32 + n, cls := .blue, code := 2, info := w &&& 0x00FFFFFF }

/-- R209, R210: admission of a frame to one queue. -/
def State.admitSingle (s : State) (k q : Nat) (a : Adm) (holdEcc : Bool) : State :=
  match s.admitOne q false { pool := a.pool, has := false, shared := false, member := a.desc.member } with
  | .inl r => (s.telRefused q).dropAt k .admission r.reason
  | .inr shared =>
    if holdEcc then s.holdBad k else (s.acceptOne a q shared none).2.dropPkt k

/-- R218-R220: admission of a multicast frame. An uncorrectable holding-store read drops the whole frame
before its replicas are made (log entry 21). -/
def State.admitGroup (s : State) (k g mcq : Nat) (a : Adm) (holdEcc : Bool) : State :=
  let p := a.pkt
  let lp := p.stamp.lport
  let list := ((s.repSee g p.stamp.epoch).map fun e => e.targets).getD []
  let ts := repTargets lp (vdGet p.verdict 4 = 1) (list.map (s.repQueue p mcq)) []
  if ts.isEmpty then s.dropAt k .replication 0x2B
  else if holdEcc then s.holdBad k
  else
    let s := s.book lp p.stamp.epoch .repl (ts.length - 1)
    match State.admitMany { a with n := ts.length, multi := true } ts none 0 s with
    | (some _, s) => s.dropPkt k
    | (none, s) => (s.freeHold p).dropPkt k

/-- R28, R209: a frame reaches admission. -/
def State.admitFrame (s : State) (k : Nat) (t : Target) (holdEcc : Bool) (choice : Nat) : State :=
  let p := s.pkt k
  let len := s.admLen p t
  match poolFor len with
  | none => s.dropAt k .admission 0x21
  | some pool =>
    let d := s.descOf p len t
    let a : Adm := { pkt := p, stored := admStored p d t, pool := pool, n := 1, desc := d, choice := choice }
    match t with
    | .port lp q => s.admitSingle k (10 * lp + q) a holdEcc
    | .answer _ q => s.admitSingle k (10 * p.stamp.lport + q) a holdEcc
    | .host hq => s.admitSingle k (2560 + hq) a holdEcc
    | .group g mcq => s.admitGroup k g mcq a holdEcc

/-- R232, R353: the policer unit takes its next frame; `holdEcc` says that the read of its holding-store
words is uncorrectable. -/
def State.police (s : State) (n : Nat) (holdEcc : Bool) (choice : Nat) : State :=
  let g := s.grp n
  match g.polq with
  | [] => s
  | (k, t) :: l =>
    match (s.setGrp n { g with polq := l }).policed k with
    | (true, s) => s.admitFrame k t (holdEcc || (s.pkt k).holdEcc) choice
    | (false, s) => s

/-! ### Replication and the buffer write -/

/-- R221, R222: up to `n` descriptors of a pending replica queue join their queues, those that a flush has
marked (R57) among them. -/
def State.pendStep (s : State) (i : Nat) : Nat → State
  | 0 => s
  | n + 1 =>
    match tget (fun _ => ([] : List Pending)) s.buf.pend i with
    | [] => s
    | x :: l =>
      let s : State := { s with buf := { s.buf with pend := tset (fun _ => []) s.buf.pend i l } }
      (s.enqueue x.queue x.desc).pendStep i n

/-- R113, R204: a buffer's write ends, and the frame leaves the holding store. -/
def State.bufWritten (s : State) (b : Nat) : State :=
  let x := s.bufr b
  if x.written then s
  else
    let s := if x.hold then s.freeHold x.pkt else s
    s.setBuf b { x with written := true, hold := false }

/-! ### Meanings -/

/-- RESEQUENCE (R26). -/
def execResequence (lp : Fin 256) (s : State) : Host.Outcome State Fault Refusal :=
  act (s.pgOn (lp / 32) && (s.seqNext? lp).isSome) (fun s => s.release26 lp) s

/-- POLICE (R232): its frame goes on to admission, which takes a buffer; the buffer's clock runs (R378). -/
def execPolice (pg : Fin 8) (holdEcc : Bool) (buf : Nat) (s : State) : Host.Outcome State Fault Refusal :=
  act (s.pgOn pg && s.clkOk 144 && ! (s.grp pg).polq.isEmpty) (fun s => s.police pg holdEcc buf) s

/-- REPLICA_ENQUEUE (R221). -/
def execReplicaEnqueue (q : Fin 9) (n : Fin 7) (s : State) : Host.Outcome State Fault Refusal :=
  act (s.live && s.clkOk 144) (fun s => s.pendStep q n) s

/-- BUFFER_WRITE_END (R113, R242): the last cell of a buffer in use is written. -/
def execBufferWriteEnd (b : Nat) (s : State) : Host.Outcome State Fault Refusal :=
  act (s.live && s.clkOk 144 && 0 < (s.bufr b).refs) (fun s => s.bufWritten b) s

end Sys2Proof.Machine
end

