-- ==== Sys2Proof/Machine/Egress.lean ====
section
/-! DEFINITION. The egress scheduler and its shapers (R236-R240), the egress pipe (R242, R257), the end
of a transmission, the host queues and punt rings (R304-R306), and the age checkers (R224). -/

namespace Sys2Proof.Machine

open Sys2Proof

/-! ### Shapers (R240) -/

/-- R241: one shaper. -/
def State.shpB (s : State) (i : Nat) : Bucket := tget (fun _ => {}) s.sched.shp i

/-- R241: a shaper written. -/
def State.setShp (s : State) (i : Nat) (b : Bucket) : State :=
  { s with sched := { s.sched with shp := tset (fun _ => {}) s.sched.shp i b } }

/-- R240: a shaper is not negative. -/
def State.shpOk (s : State) (i : Nat) : Bool := ! (s.shpB i).en || 0 ≤ (s.shpB i).tokens s.mono

/-- R240: a shaper is debited. -/
def State.shpDebit (s : State) (i bytes : Nat) : State := s.setShp i ((s.shpB i).debit s.mono bytes)

/-! ### Scheduler (R236, R238) -/

/-- R236, R57: a queue is eligible; a head that a flush is still to discard is not sent. -/
def State.qEligible (s : State) (q : Nat) : Bool :=
  let lp := q / 10
  ! (s.queue q).isEmpty && ! s.flushHead q && s.shpOk q && s.shpOk (2560 + lp) && (s.port lp).st = .up

/-- R238: the line bytes of a queue's head. -/
def State.headBytes (s : State) (q : Nat) : Nat :=
  match s.queue q with
  | [] => 0
  | d :: _ => lineBytes (s.desc d).len

/-- R237: the quantum of a queue. -/
def State.quantum (s : State) (q : Nat) : Nat :=
  256 * max 1 (fld (tget (fun _ => 0x104) s.sched.qcfg q) 7 0)

/-- R238: the queue that most recently received a quantum. -/
def State.lastQ (s : State) (lp lvl : Nat) : Nat := tget (fun k => 10 * (k / 2) + 9) s.sched.last (2 * lp + lvl)

/-- R238: the next eligible queue of a level after `last`, in cyclic order. -/
def State.nextQ (s : State) (lp lvl : Nat) : Option Nat :=
  let l := s.lastQ lp lvl % 10
  (((List.range 10).map fun i => 10 * lp + (l + 1 + i) % 10).filter fun q => s.qEligible q && s.qLevel q == lvl).head?

/-- R238: the queue that a turn serves: the holder, or the next eligible queue with a quantum added. -/
def State.turn (s : State) (lp lvl : Nat) : Option (Nat × State) :=
  let kept := (s.grantOf lp lvl).filter fun q => s.qEligible q && s.qLevel q == lvl
  match kept with
  | some q => some (q, s)
  | none =>
    (s.nextQ lp lvl).map fun q =>
      let s := s.setGrant lp lvl (some q)
      let last := tset (fun k => 10 * (k / 2) + 9) s.sched.last (2 * lp + lvl) q
      let s : State := { s with sched := { s.sched with last := last } }
      (q, s.setDeficit q (tget (fun _ => 0) s.sched.deficit q + s.quantum q))

/-- R238: serve: turns until one pays for its head. -/
def State.serve (lp lvl : Nat) : Nat → State → Option (Nat × State)
  | 0, _ => none
  | fuel + 1, s =>
    match s.turn lp lvl with
    | none => none
    | some (q, s) =>
      let b := s.headBytes q
      let have_ := tget (fun _ => 0) s.sched.deficit q
      if b ≤ have_ then
        let s := if (s.queue q).length ≤ 1 then (s.setDeficit q 0).setGrant lp lvl none else s.setDeficit q (have_ - b)
        some (q, s)
      else State.serve lp lvl fuel (s.setGrant lp lvl none)

/-- R238: the level of a pick: high before low. -/
def State.pickLevel (s : State) (lp : Nat) : Option Nat :=
  [0, 1].find? fun lvl => (s.nextQ lp lvl).isSome

/-- R236: the outstanding frames of a port. -/
def State.outstanding (s : State) (lp : Nat) : List Picked :=
  (tget (fun _ => ([] : List Picked)) s.sched.picked lp).filter fun p =>
    match p.tout with
    | some t => s.now < t
    | none => true

/-- R236: the line bytes of a port's 100 ns. -/
def State.lineShare (s : State) (lp : Nat) : Nat := modeRate (s.mode lp) * 25 / 2

/-- R236, R383: the scheduler of a port makes a pick: forwarding is enabled, and the port's outstanding
frames meet a condition of R236. -/
def State.mayPick (s : State) (lp : Nat) : Bool :=
  let l := s.outstanding lp
  bit (s.rg .chipCtl) 8 &&
    (decide (l.length < 2) || decide (l.foldl (fun a p => a + lineBytes (s.desc p.desc).len) 0 < s.lineShare lp))

/-- R239: a queue whose LEVEL has been changed since the last pick loses the grant of its old level. -/
def State.takeGrants (s : State) (lp : Nat) : State :=
  [0, 1].foldl (fun st lvl =>
    if (st.grantOf lp lvl).any fun q => st.qLevel q != lvl then st.setGrant lp lvl none else st) s

/-- R238, R239: a pick takes the head of a queue; its shapers are debited. At most ten queues of weight 1
need 41 turns each to pay for the longest frame. -/
def State.pick (s : State) (lp : Nat) : State :=
  match s.pickLevel lp with
  | none => s
  | some lvl =>
    match State.serve lp lvl 500 (s.takeGrants lp) with
    | none => s
    | some (q, s) =>
      match s.queue q with
      | [] => s
      | d :: _ =>
        let b := s.headBytes q
        let s := ((s.popQueue q).shpDebit q b).shpDebit (2560 + lp) b
        let s := (s.pmcQueue q 1).pmcQueue q 2 b
        let x : Picked := { desc := d, queue := q, at_ := s.now }
        { s with sched := { s.sched with picked := tmod (fun _ => []) s.sched.picked lp (· ++ [x]) } }

/-! ### Egress pipe (R242, R257) -/

/-- R242: the time at which a buffer's first cell has been written at the rate of its ingress port. -/
def State.firstCell (s : State) (b : Nat) : Nat :=
  let x := s.bufr b
  let r := if x.pkt.stamp.inject then 1600 else max 1 (modeRate (s.mode x.pkt.stamp.lport))
  x.wrAt + (min x.bytes.length 256 * 8 + r - 1) / r

/-- R242: the read of a picked frame may begin. -/
def State.mayRead (s : State) (lp : Nat) (d : Nat) : Bool :=
  let x := s.desc d
  let b := s.bufr x.buf
  let rIn := if b.pkt.stamp.inject then 1600 else modeRate (s.mode b.pkt.stamp.lport)
  let ct := bit (s.rg .schPortCfg 0 lp) 0 && modeRate (s.mode lp) ≤ rIn && ! x.direct
  b.written || (ct && s.firstCell x.buf ≤ s.mono)

/-- R164, R204: a stored frame as its descriptor rewrites it in the egress pipe of group `n`, without padding
and FCS; an answer is sent as it was formed (R160). -/
def State.descFrame (s : State) (n d : Nat) : List Byte :=
  let x := s.desc d
  let b := s.bufr x.buf
  let push := if x.pushEn then slice (tmplBytes (s.cpRead n 7 x.epoch x.template)) 0 x.gap else []
  if x.answer then b.bytes
  else
    rewritten b.bytes x.popAt push (if x.set0En then some (x.set0Off, x.set0Val) else none)
      (if x.set1En then some (x.set1Off, x.set1Val) else none)

/-- The frames picked for a port, written. -/
def State.setPicked (s : State) (lp : Nat) (l : List Picked) : State :=
  { s with sched := { s.sched with picked := tset (fun _ => []) s.sched.picked lp l } }

/-- The frames picked for a port. -/
def State.pickedOf (s : State) (lp : Nat) : List Picked := tget (fun _ => []) s.sched.picked lp

/-- R242: the next picked frame that may be read, if any. -/
def State.readable (s : State) (lp : Nat) : Option Picked :=
  ((s.pickedOf lp).find? fun p => p.tout.isNone).filter fun p => s.mayRead lp p.desc

/-- R348, R351: the read of a buffer is uncorrectable; the command does not name its word. -/
def State.bufBad (s : State) (b : Nat) : State :=
  let (w, s) := s.fresh
  s.raise { src := 20 + (s.bufr b).block / 64, cls := .blue, code := 2, info := w &&& 0x00FFFFFF }

/-- R242, R257, R348: the egress pipe reads and rewrites a picked frame, and hands it to the MAC `delay` ns
later. -/
def State.readStart (s : State) (lp delay : Nat) (ecc : Bool) : State :=
  match s.readable lp with
  | none => s
  | some p =>
    let b := (s.desc p.desc).buf
    let bad := ecc || (s.bufr b).ecc
    let y := { p with tout := some (s.now + delay), bad := bad, frame := finished (s.descFrame (lp / 32) p.desc) }
    let s := if bad then s.bufBad b else s
    s.setPicked lp ((s.pickedOf lp).map fun x => if x = p then y else x)

/-- R207, R248, R257: a descriptor's frame is counted OUT and its sojourn binned, and it is released. -/
def State.leave (s : State) (d q tout : Nat) : State :=
  let x := s.desc d
  ((s.book x.lport x.epoch .out).telBin q (age48 tout x.time)).relDesc d

/-- R248, R259: the MAC ends the oldest frame that has begun on a port. -/
def State.endTx (s : State) (lp : Nat) : State :=
  match s.pickedOf lp with
  | [] => s
  | p :: l =>
    match p.tout with
    | none => s
    | some t =>
      let s := s.setPicked lp l
      if p.bad then
        ((s.bump .macTxErrEof (lp / 32) (lp % 32)).emit (.tx lp p.frame false)).dropDesc p.desc 0x2F
      else
        let s := (s.addCtr .macTxOkLo (lp / 32) (lp % 32)).addLine lp 1 (s.desc p.desc).len
        (s.emit (.tx lp p.frame true)).leave p.desc p.queue t

/-- R257: the oldest picked frame of a port has been handed to the MAC. -/
def State.txDue (s : State) (lp : Nat) : Bool :=
  match s.pickedOf lp with
  | [] => false
  | p :: _ =>
    match p.tout with
    | some t => decide (t ≤ s.now)
    | none => false

/-! ### Host queues and punt rings (R304-R306) -/

/-- R304: the stored bytes that a descriptor's frame takes in punt buffers. The template of a list target
is read in the ingress group's copy (log entry 71). -/
def State.puntBytes (s : State) (d : Nat) : List Byte :=
  if (s.desc d).src = .replication then s.descFrame ((s.desc d).lport / 32) d else (s.bufr (s.desc d).buf).bytes

/-- R305: BUF_LEN of a posted punt descriptor. -/
def puntLen (w : List Word) : Nat := fld (wAt w 2) 15 0

/-- A host's picked frames. -/
def State.hostPicked (s : State) (h : Nat) : List Picked := tget (fun _ => []) s.sched.hostPick h

/-- R305: a posted list of buffers, less those that a frame of a length fills. -/
def afterFrame : List (List Word) → Nat → List (List Word)
  | [], _ => []
  | w :: l, n => if n = 0 then w :: l else afterFrame l (n - puntLen w)

/-- R304: the prefetched descriptors of punt ring j that no picked frame is to fill. -/
def State.puntFree (s : State) (h j : Nat) : List (List Word) :=
  ((s.hostPicked h).filter fun p => (p.queue - 2560) % 16 == j).foldl
    (fun l p => afterFrame l (s.puntBytes p.desc).length) (s.ring h (16 + j)).posted

/-- R236, R304: host queue j of a host may be served. -/
def State.hostReady (s : State) (h j : Nat) : Bool :=
  let q := 2560 + 16 * h + j
  match s.queue q with
  | [] => false
  | d :: _ =>
    (s.ring h (16 + j)).runs && ! s.flushHead q &&
      (s.puntBytes d).length ≤ (s.puntFree h j).foldl (fun a w => a + puntLen w) 0

/-- R304: the next host queue in round robin. -/
def State.hostNext (s : State) (h : Nat) : Option Nat :=
  let from_ := tget (fun _ => 15) s.sched.hostRr h
  ((List.range 16).map fun i => (from_ + 1 + i) % 16).find? fun j => s.hostReady h j

/-- R236, R304: a host's scheduler picks a head frame, for the DMA engine to write. -/
def State.hostPickRun (s : State) (h : Nat) : State :=
  match s.hostNext h with
  | none => s
  | some j =>
    let q := 2560 + 16 * h + j
    match s.queue q with
    | [] => s
    | d :: _ =>
      let s := ((s.popQueue q).pmcQueue q 1).pmcQueue q 2 (s.headBytes q)
      let x : Picked := { desc := d, queue := q, at_ := s.now }
      { s with sched := { s.sched with hostRr := tset (fun _ => 15) s.sched.hostRr h j, hostPick := tset (fun _ => []) s.sched.hostPick h (s.hostPicked h ++ [x]) } }

/-- R305: SOURCE of a punt. -/
def PuntSrc.code : PuntSrc → Nat
  | .verdict => 0
  | .profile => 1
  | .overrun => 2
  | .replication => 3

/-- R305: a frame cut over the posted buffers: each with its bytes. -/
def puntSplit : List (List Word) → List Byte → List (List Word × List Byte)
  | [], _ => []
  | w :: l, f => if f.isEmpty then [] else (w, f.take (puntLen w)) :: puntSplit l (f.drop (puntLen w))

/-- R305: words 3-7 of a punt's write-back. -/
def State.puntWords (s : State) (d q tout : Nat) : List Word :=
  let x := s.desc d
  let b := s.bufr x.buf
  let dig := if x.src = .profile then 0 else wAt b.pkt.verdict 6
  [put 31 24 x.lport ||| put 23 12 b.pkt.stamp.member ||| put 11 7 (q - 2560) ||| put 6 5 x.src.code,
   wd x.time, put 31 16 (x.time / 2 ^ 32) ||| put 13 0 b.pkt.bytes.length, wd (sat 32 (age48 tout x.time)), dig]

/-- R303, R305: buffer i of a punted frame is written, and then its descriptor. -/
def State.puntOne (s : State) (h t : Nat) (w3 : List Word) (par first last : Bool) (w : List Word) (bytes : List Byte) : State :=
  let r := s.ring h t
  let w2 := put 31 24 r.genByte ||| flag 23 first ||| flag 22 last ||| flag 21 par ||| put 15 0 bytes.length
  let s := s.toHost h (addr64 (wAt w 0) (wAt w 1)) bytes
  let s := s.toHost h (r.base + r.dev.toNat % r.size * 32 + 8) (wordBytes (w2 :: w3))
  s.setRing h t ({ r with posted := r.posted.drop 1, work := r.work - 1 }.advance 1 s.mono)

/-- R305: the buffers of a punted frame in order. -/
def State.puntAll (h t : Nat) (w3 : List Word) (par : Bool) : Bool → List (List Word × List Byte) → State → State
  | _, [], s => s
  | first, (w, b) :: l, s => State.puntAll h t w3 par false l (s.puntOne h t w3 par first l.isEmpty w b)

/-- R242: the oldest picked frame of a host is stored whole, as a punt waits to be. -/
def State.puntDue (s : State) (h : Nat) : Bool :=
  (s.hostPicked h).head?.any fun p => (s.bufr (s.desc p.desc).buf).written

/-- R257, R305, R306: the oldest picked frame is written into punt buffers and its descriptors are written
back; its writing begins and ends in this one step. -/
def State.puntRun (s : State) (h : Nat) : State :=
  match s.hostPicked h with
  | [] => s
  | p :: l =>
    let s : State := { s with sched := { s.sched with hostPick := tset (fun _ => []) s.sched.hostPick h l } }
    let b := (s.desc p.desc).buf
    if (s.bufr b).ecc then (s.bufBad b).dropDesc p.desc 0x2F
    else
      let ring := 16 + (p.queue - 2560) % 16
      let parts := puntSplit (s.ring h ring).posted (s.puntBytes p.desc)
      (State.puntAll h ring (s.puntWords p.desc p.queue s.now) (s.desc p.desc).epoch true parts s).leave p.desc p.queue s.now

/-! ### Age checkers (R224) -/

/-- R223: LIMIT in ns. -/
def State.ageLimit (s : State) : Nat := max 1 (fld (s.rg .bufAgeCtl) 15 0) * 1000

/-- R224: a visit to a queue's head discards up to `n` heads older than LIMIT. -/
def State.ageHeads (s : State) (q : Nat) : Nat → State
  | 0 => s
  | n + 1 =>
    match s.queue q with
    | [] => s
    | d :: _ => if s.ageLimit < age48 s.now (s.desc d).time then (s.discardHead q 0x2D).ageHeads q n else s

/-! ### Meanings -/

/-- SCHEDULER_PICK (R236, R238): the queues are descriptors of the buffer, whose clock runs (R378). -/
def execSchedulerPick (lp : Fin 256) (s : State) : Host.Outcome State Fault Refusal :=
  act (s.pgOn (lp / 32) && s.clkOk 144 && s.mayPick lp) (fun s => s.pick lp) s

/-- EGRESS_READ_START (R242): a read of the buffer, whose clock runs (R378). -/
def execEgressReadStart (lp : Fin 256) (delay : Nat) (ecc : Bool) (s : State) : Host.Outcome State Fault Refusal :=
  act (s.pgOn (lp / 32) && s.clkOk 144 && (s.readable lp).isSome) (fun s => s.readStart lp delay ecc) s

/-- TRANSMIT_END (R248). -/
def execTransmitEnd (lp : Fin 256) (s : State) : Host.Outcome State Fault Refusal :=
  act (s.pgOn (lp / 32) && s.clkOk (64 + lp / 32) && s.txDue lp) (fun s => s.endTx lp) s

/-- HOST_QUEUE_PICK (R236, R304, R378). -/
def execHostQueuePick (h : Fin 2) (s : State) : Host.Outcome State Fault Refusal :=
  act (s.hostOn h && s.hostOk h && s.clkOk 144) (fun s => s.hostPickRun h) s

/-- PUNT_WRITE (R306): it reads the buffer, whose clock runs (R378). -/
def execPuntWrite (h : Fin 2) (s : State) : Host.Outcome State Fault Refusal :=
  act (s.hostOn h && s.hostOk h && s.clkOk 144 && s.puntDue h) (fun s => s.puntRun h) s

/-- AGE_CHECK (R224). -/
def execAgeCheck (q : Fin 2592) (n : Nat) (s : State) : Host.Outcome State Fault Refusal :=
  act (s.live && s.clkOk 144 && s.ageOn q) (fun s => s.ageHeads q n) s

end Sys2Proof.Machine
end

