-- ==== Sys2Proof/Machine/Ledger.lean ====
section
/-! DEFINITION. The ledger's check (R247-R253), its records and the other telemetry records
(R258, R263, R266-R268), the bandwidth windows (R259) and the FIFOs that a read pops (R141, R255). -/

namespace Sys2Proof.Machine

open Sys2Proof

/-! ### Check (R247, R250, R252) -/

/-- R268: the balance terms in their order. -/
def allTerms : List Term := [.inn, .repl, .inj, .out, .dStamp, .dParse, .dEng, .dPol, .dAdm, .dRepl, .dEgr]

/-- R247: a term of a closed account. -/
def State.latTerm (s : State) (acct : Nat) (t : Term) : Nat := tget (fun _ => 0) s.led.lat (acct * 16 + t.idx)

/-- R247: D of a closed account: what entered, less what left and the change of HELD. -/
def State.balance (s : State) (acct : Nat) : Int :=
  let moved : Int := allTerms.foldl (fun a t =>
    if t.enters then a + s.latTerm acct t else a - s.latTerm acct t) 0
  let was : Nat := tget (fun _ => 0) s.led.heldPrev acct
  let is : Nat := tget (fun _ => 0) s.led.held acct
  moved - ((is : Int) - was)

/-- R248: the balance terms in the order of its table. -/
def boundaryTerms : List Term := [.inn, .inj, .dStamp, .dParse, .dEng, .dPol, .dAdm, .repl, .dRepl, .out, .dEgr]

/-- R252: the group term less the sum of its ports' terms, at the first term in the order of R248 that
differs. -/
def State.sumDiff (s : State) (n : Nat) (par : Bool) : Option Int :=
  boundaryTerms.findSome? fun t =>
    let g : Int := s.latTerm (2 * (256 + n) + b2n par) t
    let p : Int := ((groupPorts n).map fun lp => s.latTerm (acctP lp par) t).sum
    if g = p then none else some (g - p)

/-- R255: a record enters the imbalance FIFO, or is lost on a full one. -/
def State.imbPut (s : State) (group par sum : Bool) (index : Nat) (diff : Int) : State :=
  if 16 ≤ s.led.imb.length then s.bump .ledImbLost 0 0
  else
    let h := flag 31 true ||| flag 30 group ||| flag 29 par ||| flag 28 sum ||| put 7 0 index
    let r : ImbRec := { intv := lo32 (s.ctr .ledIntvLo 0 0), diff := wd (satInt 32 diff), head := h }
    { s with led := { s.led with imb := s.led.imb ++ [r] } }

/-- R252: the accounts of the variant that are checked, as group flag, index and parity. -/
def State.checked (s : State) : List (Bool × Nat × Bool) :=
  let ok (n : Nat) := n < s.nGroups && ! s.led.absentLat.contains n
  let ports := (List.range s.nPorts).filter fun lp => ok (lp / 32)
  let groups := (List.range 8).filter ok
  (ports.flatMap fun lp => [(false, lp, false), (false, lp, true)]) ++
    groups.flatMap fun n => [(true, n, false), (true, n, true)]

/-- R252: the failed checks of an account, as sum flag and difference, the balance first. -/
def State.acctFails (s : State) (a : Bool × Nat × Bool) : List (Bool × Int) :=
  let key := if a.1 then 2 * (256 + a.2.1) + b2n a.2.2 else acctP a.2.1 a.2.2
  let d := s.balance key
  (if d = 0 then [] else [(false, d)]) ++
    (if a.1 then (match s.sumDiff a.2.1 a.2.2 with
      | some x => [(true, x)]
      | none => []) else [])

/-- R252: one account's failed checks place their records and count once. -/
def State.acctFail (s : State) (a : Bool × Nat × Bool) : State :=
  let l := s.acctFails a
  if l.isEmpty then s
  else (l.foldl (fun st f => st.imbPut a.1 a.2.2 f.1 a.2.1 f.2) s).bump .ledImbCount 0 0

/-- R252, R255: the accounts that failed, none in an UNCHECKED interval or with CHECK_EN 0. -/
def State.failing (s : State) : List (Bool × Nat × Bool) :=
  if s.led.lastUnchecked || ! bit (s.rg .ledCfg) 31 then []
  else s.checked.filter fun a => ! (s.acctFails a).isEmpty

/-! ### Ledger records (R266-R268) -/

/-- R256, R268: the defined reason codes, as reason arrays hold them. -/
def reasonCodes : List Nat := ((List.range 48).map (· + 1)) ++ (List.range 48).map (· + 0x50)

/-- The two words of a 64-bit count, low word first. -/
def words64 (n : Nat) : List Word := [wd n, wd (n / 2 ^ 32)]

/-- R253, R267, R268: the values of a record's Cobalt and Amber positions: both parities' sum in the
Cobalt ones for version 1, zero in an ABSENT account. -/
def State.byParity (s : State) (absent : Bool) (f : Bool → List Nat) : List Nat × List Nat :=
  let c := if absent then (f false).map (fun _ => 0) else f false
  let a := if absent then (f true).map (fun _ => 0) else f true
  if s.recMajor = 1 then (List.zipWith (· + ·) c a, a.map fun _ => 0) else (c, a)

/-- R268: the twelve terms of an account. -/
def State.acctTerms (s : State) (acct : Nat) : List Nat :=
  allTerms.map (s.latTerm acct) ++ [tget (fun _ => 0) s.led.held acct]

/-- R268: FLAGS of a ledger record. -/
def State.ledFlags (s : State) (fails : List (Bool × Nat × Bool)) (group : Bool) (i n : Nat) : Word :=
  flag 7 (fails.contains (group, i, false)) ||| flag 6 (fails.contains (group, i, true)) |||
    flag 5 s.led.lastUnchecked ||| flag 4 s.led.lastShort ||| flag 3 s.led.lastStepped |||
    flag 2 (s.led.absentLat.contains n)

/-- R268: a PORT_LEDGER record. -/
def State.portLedger (s : State) (fails : List (Bool × Nat × Bool)) (stamp : BitVec 64) (lp : Nat) : State :=
  let t := s.byParity (s.led.absentLat.contains (lp / 32)) fun e => s.acctTerms (acctP lp e)
  let w4 := put 31 24 lp ||| put 23 12 (tget (fun _ => 0) s.led.memLat lp) ||| s.ledFlags fails false lp (lp / 32)
  let bytes := [0, 1].map fun d => tget (fun _ => 0) s.led.bytesLat (2 * lp + d)
  s.export 1 256 stamp ([w4, wd s.led.lastLen, 0, 0] ++ (t.1 ++ t.2 ++ bytes).flatMap words64)

/-- R256: the drops of an account with a reason. -/
def State.latReason (s : State) (acct code : Nat) : Nat := tget (fun _ => 0) s.led.rsnLat (acct * 128 + code)

/-- R268: a PORT_REASONS record. -/
def State.portReasons (s : State) (stamp : BitVec 64) (lp : Nat) : State :=
  let absent := s.led.absentLat.contains (lp / 32)
  let cs := reasonCodes.map fun c =>
    if absent then 0 else sat 32 (s.latReason (acctP lp false) c + s.latReason (acctP lp true) c)
  s.export 2 416 stamp ([put 31 24 lp, 0, 0, 0] ++ cs.map wd)

/-- R268: a GROUP_LEDGER record. -/
def State.groupLedger (s : State) (fails : List (Bool × Nat × Bool)) (stamp : BitVec 64) (n : Nat) : State :=
  let absent := s.led.absentLat.contains n
  let t := s.byParity absent fun e => s.acctTerms (2 * (256 + n) + b2n e)
  let r := s.byParity absent fun e => reasonCodes.map (s.latReason (2 * (256 + n) + b2n e))
  let w4 := put 31 29 n ||| s.ledFlags fails true n n
  s.export 3 1760 stamp ([w4, wd s.led.lastLen, 0, 0] ++ (t.1 ++ t.2 ++ r.1 ++ r.2).flatMap words64)

/-- R268: the COUNTERS record. -/
def State.countersRec (s : State) (stamp : BitVec 64) : State :=
  let ws := (List.range 1024).flatMap fun n =>
    let v := tget (fun _ => (0 : BitVec 64)) s.led.pmcLat (0x13020000 + 8 * n)
    [lo32 v, hi32 v]
  s.export 5 8224 stamp ([0, 0, 0, 0] ++ ws)

/-- R252, R266: the check of the closed interval, its fault and its records. -/
def State.checkLedger (s : State) : State :=
  let fails := s.failing
  let stamp := s.ctr .ledIntvLo 0 0
  let s : State := { s with led := { s.led with due := false } }
  let s := fails.foldl State.acctFail s
  let s := if fails.isEmpty then s else s.raise { src := 26, cls := .orange, code := 0x0D, info := lo32 stamp }
  let s := (List.range s.nPorts).foldl (fun st lp => st.portLedger fails stamp lp) s
  let s := (List.range s.nPorts).foldl (fun st lp => st.portReasons stamp lp) s
  let s := (List.range s.nGroups).foldl (fun st n => if st.isActive (domPg n) then st.groupLedger fails stamp n else st) s
  s.countersRec stamp

/-! ### Histograms, windows, FIFOs -/

/-- R268: a HISTOGRAM record. -/
def State.histRecord (s : State) (q : Nat) : State :=
  let bins := (List.range 32).map fun k => tget (fun _ => 0) s.tel.bins (32 * q + k)
  let w4 := flag 31 (bins.any fun b => b == 2 ^ 32 - 1) ||| put 30 27 s.tel.div ||| put 11 0 q
  let n (t : Tab Nat) := wd (sat 32 (tget (fun _ => 0) t q))
  s.export 4 160 (s.ctr .ledIntvLo 0 0) ([w4, n s.tel.enq, n s.tel.refused, 0] ++ bins.map wd)

/-- R258: a histogram period ends: each queue's record is emitted, and the bins restart. -/
def State.endPeriod (s : State) : State :=
  let qs := List.range (10 * s.nPorts) ++ (List.range 32).map (· + 2560)
  let s := qs.foldl State.histRecord s
  { s with tel := { s.tel with bins := [], enq := [], refused := [], periodDue := false } }

/-- R259: the end of the running bandwidth window. -/
def State.bwEnd (s : State) : Nat := nextMultiple s.tel.bwStart (s.tel.bwLen * 1000)

/-- R259: a bandwidth window ends: LAST and PEAK of every port and direction. -/
def State.endWindow (s : State) : State :=
  let t := s.tel
  let rate (i : Nat) := tget (fun _ => 0) t.bwWin i * 8 / t.bwLen % 2 ^ 21
  let is := List.range 512
  let last := is.foldl (fun a i => tset (fun _ => 0) a i (rate i)) t.bwLast
  let peak := is.foldl (fun a i => tmod (fun _ => 0) a i (max (rate i))) t.bwPeak
  { s with tel := { t with bwWin := [], bwLast := last, bwPeak := peak, bwStart := s.bwEnd, bwLen := s.bwWindow } }

/-- R259: a write of TEL_BW_CLR. -/
def State.bwClr (s : State) (r : Req) (v : Word) : State :=
  let lp := fld (s.pv r (regAddr .telBwIdx 0 0 0)) 7 0
  let p := if bit v 1 then [] else if bit v 0 then tdrop (fun i => i / 2 == lp) s.tel.bwPeak else s.tel.bwPeak
  { s with tel := { s.tel with bwPeak := p } }

/-- R260: a write of PMC_CLR_LO or PMC_CLR_HI. -/
def State.pmcClr (s : State) (hi : Bool) (v : Word) : State :=
  { s with wide := tdrop (fun a => inRange 0x13020000 0x2000 a &&
      (let g := (a - 0x13020000) / 128
       g / 32 == b2n hi && bit v (g % 32))) s.wide }

/-- R255: the head of the imbalance FIFO. -/
def State.imbHead (s : State) : ImbRec := (s.led.imb.head?).getD ⟨0, 0, 0⟩

/-- R255: a read of LED_IMB_HEAD pops the record. -/
def State.imbPop (s : State) : State := { s with led := { s.led with imb := s.led.imb.drop 1 } }

/-- R141: the head of a cluster's machine-check FIFO. -/
def State.mcHead (s : State) (c : Nat) : Word := ((s.clu c).mcLog.head?).getD 0

/-- R141: a read of NEC_MC_LOG pops the record. -/
def State.mcPop (s : State) (c : Nat) : State := s.setClu c { s.clu c with mcLog := (s.clu c).mcLog.drop 1 }

/-! ### Meanings -/

/-- INTERVAL_CLOSE (R251, R255). -/
def execIntervalClose (s : State) : Host.Outcome State Fault Refusal :=
  act (s.telOn && s.ledDue) State.closeInterval s

/-- LEDGER_CHECK (R252). -/
def execLedgerCheck (s : State) : Host.Outcome State Fault Refusal :=
  act (s.telOn && s.led.due) State.checkLedger s

/-- HISTOGRAM_PERIOD_END (R258). -/
def execHistogramPeriodEnd (s : State) : Host.Outcome State Fault Refusal :=
  act (s.telOn && s.tel.periodDue) State.endPeriod s

/-- DIGEST_BATCH_EMIT (R263): 10 µs after a batch's first entry. -/
def execDigestBatchEmit (s : State) : Host.Outcome State Fault Refusal :=
  act (s.telOn && ! s.tel.digs.isEmpty && s.tel.digAt + 10000 ≤ s.now) State.digestEmit s

/-- BANDWIDTH_WINDOW_END (R259). -/
def execBandwidthWindowEnd (s : State) : Host.Outcome State Fault Refusal :=
  act (s.telOn && s.bwEnd ≤ s.now) State.endWindow s

/-- PEAK_CLEAR_PORT (R259): a write of TEL_BW_CLR with bit 0. -/
def execPeakClearPort (r : Req) (v : Word) (s : State) : Host.Outcome State Fault Refusal :=
  act s.regOn (fun s => s.access r domTel fun s => s.bwClr r (v ||| 1)) s

/-- PEAK_CLEAR_ALL (R259): a write of TEL_BW_CLR with bit 1. -/
def execPeakClearAll (r : Req) (v : Word) (s : State) : Host.Outcome State Fault Refusal :=
  act s.regOn (fun s => s.access r domTel fun s => s.bwClr r (v ||| 2)) s

/-- COUNTER_GROUP_CLEAR (R260): a write of PMC_CLR_LO, or of PMC_CLR_HI. -/
def execCounterGroupClear (r : Req) (hi : Bool) (v : Word) (s : State) : Host.Outcome State Fault Refusal :=
  act s.regOn (fun s => s.access r domTel fun s => s.pmcClr hi v) s

/-- IMBALANCE_POP (R255): a read of LED_IMB_HEAD; while the device is frozen it acts as a peek (R395). -/
def execImbalancePop (r : Req) (s : State) : Host.Outcome State Fault Refusal :=
  act true (fun s =>
    if s.live then s.access r domTel fun s => (s.emit (.readData r s.imbHead.head)).imbPop
    else s.emit (.readData r s.imbHead.head)) s

/-- MC_LOG_POP (R141): a read of NEC_MC_LOG; while the device is frozen it acts as a peek (R395). -/
def execMcLogPop (r : Req) (c : Fin 64) (s : State) : Host.Outcome State Fault Refusal :=
  act true (fun s =>
    if s.live then s.access r (domPg (c / 8)) fun s => (s.emit (.readData r (s.mcHead c))).mcPop c
    else s.emit (.readData r (s.mcHead c))) s

end Sys2Proof.Machine
end

