-- ==== Sys2Proof/Machine/Hosts.lean ====
section
/-! DEFINITION. The PCI Express functions (R269-R273, R286-R290), the rings' counts, fetches and
settings (R293-R302), and inject (R307-R309). -/

namespace Sys2Proof.Machine

open Sys2Proof

/-! ### Ownership and TLPs -/

/-- R270: a host that the mode has. -/
def State.hostIn (s : State) (h : Nat) : Bool := h = 0 || s.straps.pcieMode

/-- R279, R293: a requester may write a bank of host h. -/
def mayBank (r : Req) (h : Nat) : Bool := r = .chain || r = hostReq h

/-- R312: a requester may write a DMA channel. -/
def State.mayChan (s : State) (r : Req) (n : Nat) : Bool := r = .chain || r = hostReq (s.chanOwner n)

/-- R288, R289: the device may read a host's memory. -/
def State.hostReach (s : State) (h : Nat) : Bool := (s.hst h).linkUp && (s.hst h).bme

/-- A read of host memory is sent. -/
def State.readHost (s : State) (h a len : Nat) : State := (s.tlp h).emit (.hostRead h a len)

/-- R313: a read of the host memory that a channel reaches: what passes its top at 2^48 goes on at its bottom (log
entry 74). -/
def State.readHost48 (s : State) (h a len : Nat) : State :=
  let a := a % 2 ^ 48
  if a + len ≤ 2 ^ 48 then s.readHost h a len else (s.readHost h a (2 ^ 48 - a)).readHost h 0 (a + len - 2 ^ 48)

/-- R313: a write of the host memory that a channel reaches, which goes round at its top likewise. -/
def State.toHost48 (s : State) (h a : Nat) (b : List Byte) : State :=
  let a := a % 2 ^ 48
  if a + b.length ≤ 2 ^ 48 then s.toHost h a b else (s.toHost h a (b.take (2 ^ 48 - a))).toHost h 0 (b.drop (2 ^ 48 - a))

/-! ### Loss and return (R288-R290) -/

/-- R288, R289: an event of a host's function. A host that is present is lost with its cause; the
function of an absent one returns to its reset values, its LOSS and LOSSES kept (log entry 23). -/
def State.loseHost (s : State) (h cause : Nat) (linkOff : Bool) : State :=
  let f := s.hst h
  if f.present then s.hostLoss h cause linkOff
  else
    let s := s.hostLoss h cause linkOff
    s.setHst h { s.hst h with loss := f.loss, losses := f.losses }

/-- R286: LTR_US of a host. -/
def State.ltrUs (s : State) (h : Nat) : Nat := fld (s.rg .pciPmCfg h) 7 0

/-- R286, R272: the host has enabled LTR. -/
def HostFn.ltrOn (f : HostFn) : Bool := bit (f.cfgW 0x78) 10

/-- R286: an LTR message, where the host has enabled LTR and the link is up. -/
def State.sendLtr (s : State) (h : Nat) : State :=
  if (s.hst h).linkUp && (s.hst h).ltrOn then (s.tlp h).emit (.ltr h (s.ltrUs h)) else s

/-- R286: a write of PCI_PM_CFG. -/
def State.writePmCfg (s : State) (h : Nat) (v : Word) : State :=
  let old := s.ltrUs h
  let s := s.setRg .pciPmCfg h 0 v
  if s.ltrUs h = old then s else s.sendLtr h

/-- R290: a write of PCI_HOST_CTL. -/
def State.writeHostCtl (s : State) (h : Nat) (v : Word) : State :=
  if bit v 1 then (if (s.hst h).present then s.loseHost h 6 false else s)
  else if bit v 0 && (s.hst h).bme && s.hostIn h then s.setHst h { s.hst h with present := true }
  else s

/-- R286: the idle time of a link, in ns. -/
def State.linkIdle (s : State) (h : Nat) : Nat := s.mono - (s.hst h).lastTlp

/-- R286, R272: ASPM Control of Link Control. -/
def HostFn.aspm (f : HostFn) : Nat := fld (f.cfgW 0x60) 1 0

/-- The instruction at a channel's program counter; empty where it has not been fetched. -/
def Chan.instr (c : Chan) : List Word := tget (fun _ => []) c.ins c.pc

/-- R312, R315: a read of a channel's program, or the flushing read of its writes, is under way. -/
def Chan.reading (c : Chan) : Bool := (c.st = .running && c.instr = []) || c.flush

/-- R286: a non-posted request of a function is outstanding. -/
def State.outstandingReads (s : State) (h : Nat) : Bool :=
  (s.hst h).fetching || (s.rings.any fun e => e.1 / 52 == h && 0 < e.2.inFlight) ||
    s.dma.any fun e => s.chanOwner e.1 == h && e.2.reading

/-- R286: the transmitter may enter L0s. -/
def State.mayL0s (s : State) (h : Nat) : Bool :=
  let n := fld (s.rg .pciPmCfg h) 15 8
  (s.hst h).linkUp && (s.hst h).pm = .l0 && (s.hst h).aspm % 2 = 1 && n ≠ 0 && n * 64 ≤ s.linkIdle h

/-- R286: the device may request L1. -/
def State.mayL1 (s : State) (h : Nat) : Bool :=
  let n := fld (s.rg .pciPmCfg h) 31 16
  (s.hst h).linkUp && ((s.hst h).pm = .l0 || (s.hst h).pm = .l0s) && 2 ≤ (s.hst h).aspm && n ≠ 0 &&
    n * 1000 ≤ s.linkIdle h && ! s.outstandingReads h

/-- R286: L1, or the substate that the host's enables in the L1 PM Substates capability give. -/
def HostFn.l1State (f : HostFn) : LinkPm :=
  let w := f.cfgW 0x1F8
  if bit w 2 then .l12 else if bit w 3 then .l11 else .l1

/-- R286: CLKREQh_N is released. -/
def HostFn.clkReleased (f : HostFn) : Bool := f.pm = .l11 || f.pm = .l12

/-! ### Doorbells (R295) -/

/-- R298, R295: the address of a host's doorbell record. -/
def State.dbAddr (s : State) (h : Nat) : Nat := addr64 (s.rg .rngDbLo h) (s.rg .rngDbHi h)

/-- R298, R296: the address of a host's write-back area. -/
def State.wbAddr (s : State) (h : Nat) : Nat := addr64 (s.rg .rngWbLo h) (s.rg .rngWbHi h)

/-- R295: a doorbell fetch starts. -/
def State.dbStart (s : State) (h : Nat) : State :=
  let s := s.setHst h { s.hst h with fetching := true, polled := s.mono }
  s.readHost h (s.dbAddr h) 256

/-- R295, R294: the doorbell record is to be read: now, or once more after the fetch under way. -/
def State.dbWant (s : State) (h : Nat) : State :=
  if ! s.hostReach h then s
  else if (s.hst h).fetching then s.setHst h { s.hst h with again := true }
  else s.dbStart h

/-- R295: a write of RNG_NUDGE. -/
def State.nudge (s : State) (h : Nat) : State :=
  if bit (s.rg .rngCtl h) 31 then s.dbWant h else s

/-- R298: a ring of the host has an error. -/
def State.anyRingErr (s : State) (h : Nat) : Bool := s.rings.any fun e => e.1 / 52 == h && e.2.err

/-- R298: a ring stops with an error. -/
def State.ringErr (s : State) (h t cause : Nat) : State :=
  let s := if s.anyRingErr h then s
    else s.setRg .rngErr h 0 ((s.rg .rngErr h &&& flag 31 true) ||| put 13 8 t ||| put 7 0 cause)
  s.setRing h t { s.ring h t with err := true }

/-- R293: the host fills a ring: command, punt and inject rings. -/
def hostFills (t : Nat) : Bool := t < 8 || (16 ≤ t && t < 48)

/-- R294: a host count lies out of range. -/
def Ring.badCount (r : Ring) (fills : Bool) (c : Word) : Bool :=
  r.size < (if fills then c - r.dev else r.dev - c).toNat

/-- R294, R300: a ring takes its host count. A ring that has been disabled, or that an error has stopped, takes
one that lies in range, for its level alone. -/
def State.takeCount (s : State) (h t : Nat) (c : Word) : State :=
  let r := s.ring h t
  if ! r.used then s
  else if r.badCount (hostFills t) c then (if r.runs then s.ringErr h t 1 else s)
  else
    let r := { r with host := c }
    let u := r.unread (16 ≤ t && t < 32)
    s.setRing h t { r with stamps := r.stamps.drop (r.stamps.length - u) }

/-- R295: a doorbell fetch completes; a nudge that came meanwhile starts one more. -/
def State.dbDone (s : State) (h : Nat) (words : Option (List Word)) : State :=
  let f := s.hst h
  let s := (s.setHst h { f with fetching := false, again := false }).tlp h
  let s := match words with
    | none => s.orRg .rngErr h 0 (flag 31 true)
    | some ws => (List.range 52).foldl (fun st t => st.takeCount h t (wAt ws t)) s
  if f.again then s.dbStart h else s

/-- R295: POLL of a host in ns. -/
def State.pollTime (s : State) (h : Nat) : Nat := max 1 (fld (s.rg .rngCtl h) 15 0) * 1000

/-! ### Descriptor fetch (R297, R302, R304, R309) -/

/-- R297: how many descriptors the next fetch of a ring takes. -/
def State.fetchCount (s : State) (h t : Nat) : Nat :=
  let r := s.ring h t
  if ! r.runs || ! hostFills t || r.inFlight ≠ 0 then 0
  else
    let n := min 16 (min (r.host - r.fetched).toNat (r.size - r.fetched.toNat % r.size))
    if t < 8 then
      let c := s.ring h (8 + r.cpl)
      if c.runs then min n (c.room - c.owed) else 0
    else if t < 32 then min n (64 - r.posted.length)
    else if s.injectHeld || ! (s.hst h).present then 0
    else n

/-- R297: the ring whose descriptors are fetched next: in round robin, the first enabled ring with waiting
entries that may be fetched. -/
def State.fetchNext (s : State) (h : Nat) : Option Nat :=
  (List.range 52).findSome? fun i =>
    let t := ((s.hst h).rr + i) % 52
    if s.fetchCount h t = 0 then none else some t

/-- R302: what is owed to the completion ring of a command ring. -/
def State.moveOwed (s : State) (h t : Nat) (f : Nat → Nat) : State :=
  let k := 8 + (s.ring h t).cpl
  s.setRing h k { s.ring h k with owed := f (s.ring h k).owed }

/-- R297: a fetch of descriptors starts. -/
def State.descStart (s : State) (h t : Nat) : State :=
  let n := s.fetchCount h t
  if n = 0 then s
  else
    let r := s.ring h t
    let s := if t < 8 then s.moveOwed h t (· + n) else s
    let s := s.setRing h t { s.ring h t with inFlight := n }
    let s := s.setHst h { s.hst h with rr := (t + 1) % 52 }
    s.readHost h (r.base + r.fetched.toNat % r.size * 32) (32 * n)

/-- R301: the commands of a fetch join the command unit's queue. -/
def State.takeCmds (s : State) (h t : Nat) (ds : List (List Word)) : State :=
  let r := s.ring h t
  let mk (i : Nat) (d : List Word) : TCmd :=
    { src := .ring h t, handle := wd (t * 2 ^ 28 + (r.fetched.toNat + i) % 2 ^ 28), desc := padTo 8 d }
  let n := wd ds.length
  let s := s.setRing h t { r with inFlight := 0, fetched := r.fetched + n, dev := r.dev + n, work := r.work + ds.length, wbDue := true }
  let s := s.wake domTbl
  let s : State := { s with cu := { s.cu with q := s.cu.q ++ ds.mapIdx mk } }
  s.cuTidy

/-- R305: BUF_LEN of a posted descriptor is valid. -/
def puntLenOk (d : List Word) : Bool :=
  let n := puntLen d
  n % 64 == 0 && 256 ≤ n && n ≤ 65472

/-- R304, R305: posted punt descriptors; an invalid buffer length stops the ring. A ring that has been
disabled keeps none. -/
def State.takePosted (s : State) (h t : Nat) (ds : List (List Word)) : State :=
  let r := s.ring h t
  let good := ds.takeWhile puntLenOk
  let s := s.setRing h t { r with inFlight := 0, fetched := r.fetched + wd ds.length, posted := if r.en then r.posted ++ good else r.posted }
  if good.length = ds.length then s else s.ringErr h t 3

/-- R307: inject descriptors in ring order. -/
def State.takeInj (s : State) (h t : Nat) (ds : List (List Word)) : State :=
  let r := s.ring h t
  let add := ds.map fun d => ({ desc := padTo 8 d } : InjDesc)
  s.setRing h t { r with inFlight := 0, fetched := r.fetched + wd ds.length, work := r.work + ds.length, inj := r.inj ++ add }

/-- R297: a fetch of descriptors completes; one that fails stops the ring. -/
def State.descDone (s : State) (h t : Nat) (descs : Option (List (List Word))) : State :=
  let s := s.tlp h
  let r := s.ring h t
  match descs with
  | none =>
    let s := if t < 8 then s.moveOwed h t (· - r.inFlight) else s
    let s := s.setRing h t { s.ring h t with inFlight := 0 }
    s.ringErr h t 2
  | some ds =>
    let ds := (List.range r.inFlight).map fun i => (ds[i]?).getD []
    if t < 8 then s.takeCmds h t ds else if t < 32 then s.takePosted h t ds else s.takeInj h t ds

/-- R296: a ring's device count is written back, and with it words 52-63 of the area (log entry 64). -/
def State.wbRun (s : State) (h t : Nat) : State :=
  let r := s.ring h t
  let s := s.setRing h t { r with wbDue := false }
  ((s.tlp h).emit (.hostWrite h (s.wbAddr h + 4 * t) [r.dev])).emit (.hostWrite h (s.wbAddr h + 208) (List.replicate 12 0))

/-! ### Ring settings (R294, R299) -/

/-- R299: a ring is idle: every fetched descriptor has finished. -/
def State.ringIdle (s : State) (h t : Nat) : Bool :=
  let r := s.ring h t
  r.work == 0 && r.inFlight == 0 && r.owed == 0 &&
    ((s.hostPicked h).all fun p => 16 + (p.queue - 2560) % 16 != t)

/-- R294, R296, R299: EN goes from 0 to 1: the settings are read, the counts restart, and the doorbell record is
read for the host count. Where the read's result comes with the command (`count`), the ring takes it at once.
A device count that was not 0, or not yet written back, is written back. -/
def State.ringStart (s : State) (h t : Nat) (v : Word) (count : Option Word) : State :=
  let log := max 6 (min 16 (fld v 27 24))
  let old := s.ring h t
  let c := count.getD 0
  let r : Ring := { en := true, used := true, base := addr64 (s.rg .rngBaseLo h t) (s.rg .rngBaseHi h t), log2 := log, gen := fld v 23 17, cpl := fld v 14 12, coalUs := fld v 11 4, coalLog := fld v 3 0, host := c, wbDue := old.wbDue || old.dev ≠ 0 }
  let s := s.setRing h t r
  let s := if count.isNone then s.dbWant h else if s.hostReach h then s.readHost h (s.dbAddr h) 256 else s
  if r.badCount (hostFills t) c then s.ringErr h t 1 else s

/-- R299: a write of RNG_CFG; `count` is the ring's word of the doorbell record, where the record has been
read with it. -/
def State.writeRngCfg (s : State) (h t : Nat) (v : Word) (count : Option Word) : State :=
  let r := s.ring h t
  if bit v 31 then
    if r.en then s.setRg .rngCfg h t (v &&& 0x8FFE7FFF)
    else if s.ringIdle h t then (s.setRg .rngCfg h t (v &&& 0x8FFE7FFF)).ringStart h t v count
    else s
  else
    let s := s.setRg .rngCfg h t (v &&& 0x8FFE7FFF)
    let used := (s.hostPicked h).any fun p => 16 + (p.queue - 2560) % 16 == t
    s.setRing h t { r with en := false, err := false, posted := if used then r.posted else [] }

/-- R298: RNG_DB and RNG_WB change only while every ring of the host has EN 0. -/
def State.ringsOff (s : State) (h : Nat) : Bool := ! s.rings.any fun e => e.1 / 52 == h && e.2.en

/-! ### Inject (R307-R309) -/

/-- R307: LPORT of an inject descriptor. -/
def InjDesc.lp (x : InjDesc) : Nat := fld (wAt x.desc 2) 29 22

/-- R307: LEN of an inject descriptor. -/
def InjDesc.len (x : InjDesc) : Nat := fld (wAt x.desc 2) 13 0

/-- R307: MODE of an inject descriptor. -/
def InjDesc.direct (x : InjDesc) : Bool := bit (wAt x.desc 2) 31

/-- R308: a descriptor is INJECT_INVALID. -/
def State.injBad (s : State) (x : InjDesc) : Bool :=
  let w2 := wAt x.desc 2
  x.len < 60 || 10236 < x.len || anyBits w2 (flag 30 true ||| put 17 14 15) ||
    wAt x.desc 3 &&& 0xFFFFF000 != 0 || [4, 5, 6].any (fun i => wAt x.desc i != 0) ||
    s.nPorts ≤ x.lp || ! modeHas (s.mode x.lp) (x.lp % 4) || ! s.isActive (domPg (x.lp / 32)) ||
    (x.direct && 9 < fld w2 21 18)

/-- R309: a pipeline-entry frame of an isolated group is not dealt. -/
def State.injIso (s : State) (x : InjDesc) : Bool := ! x.direct && (s.grp (x.lp / 32)).isolated

/-- R307, R308: the next inject descriptor of a ring is finished: its word 7, then the count. -/
def State.injFinish (s : State) (h t status : Nat) : State :=
  let r := s.ring h t
  let s := s.toHost h (r.base + r.dev.toNat % r.size * 32 + 28) (wordBytes [put 31 24 r.genByte ||| put 7 0 status])
  s.setRing h t ({ r with inj := r.inj.drop 1, work := r.work - 1 }.advance 1 s.mono)

/-- R248, R308: an inject frame that is refused is counted as INJ and dropped. -/
def State.injRefuse (s : State) (h t status reason : Nat) (x : InjDesc) : State :=
  let par := s.epc.c
  let bytes := withFcs (x.data.getD [])
  let d : DropInfo := { lp := x.lp, par := par, time := s.now48, flen := x.len + 4, bytes := bytes }
  ((s.book x.lp par .inj).drop (if x.direct then .admission else .stamping) reason d).injFinish h t status

/-- R308, R309: why a descriptor is refused: its status and reason. -/
def State.injWhy (s : State) (x : InjDesc) : Option (Nat × Nat) :=
  if s.injBad x then some (4, 0x04) else if s.injIso x then some (3, 0x03) else if x.failed then some (5, 0x05) else none

/-- R308: a pipeline-entry frame part of which has been dealt when its read fails: dropped at parse. -/
def State.injLate (s : State) (lp : Nat) (bytes : List Byte) (slots : BitVec 6) : State :=
  match s.stampCheck lp bytes.length slots with
  | .inl r => (s.book lp s.epc.c .inj).drop .stamping r { lp := lp, par := s.epc.c, time := s.now48, flen := bytes.length, bytes := bytes }
  | .inr pipe =>
    let (k, s) := s.accept lp bytes s.now pipe true
    (s.book lp (s.pkt k).stamp.epoch .inj).endPkt k .parse 0x05

/-- R29, R309: the next pipeline-entry frame of an inject ring: refused, or dealt in a cycle in which
no frame of the group's MACs waits and a header slot is free. The group's pipes have their clock (R378). -/
def State.injPipe (s : State) (h t : Nat) (slots : BitVec 6) (macWaiting late : Bool) : State :=
  match (s.ring h t).inj with
  | [] => s
  | x :: _ =>
    if x.direct || ! s.clkOk (72 + x.lp / 32) then s
    else
      match s.injWhy x, x.data with
      | some (st, r), _ => s.injRefuse h t st r x
      | none, some f =>
        if macWaiting || (s.nextPipe (x.lp / 32) slots).isNone then s
        else if late then (s.injLate x.lp (withFcs f) slots).injFinish h t 5
        else (s.deal x.lp (withFcs f) s.now slots true).injFinish h t 0
      | none, none => s

/-- R29, R246, R257: a direct-entry frame at admission. -/
def State.injAdmit (s : State) (x : InjDesc) (f : List Byte) (choice : Nat) : State :=
  let bytes := withFcs f
  let par := s.epc.c
  let k := s.nextPkt
  let p : Pkt := { bytes := bytes, stamp := { time := s.now48, epoch := par, lport := x.lp, inject := true } }
  let s : State := ({ s with nextPkt := k + 1 } : State).setPkt k p
  let s := s.book x.lp par .inj
  let d : Desc := { epoch := par, direct := true, lport := x.lp, member := fld (wAt x.desc 3) 11 0, time := s.now48, len := bytes.length }
  match poolFor bytes.length with
  | none => s.dropAt k .admission 0x21
  | some pool => s.admitSingle k (10 * x.lp + fld (wAt x.desc 2) 21 18) { pkt := p, stored := f, pool := pool, n := 1, desc := d, choice := choice } false

/-- R29, R309: the next direct-entry frame of an inject ring: admitted while no frame of its group waits for
admission. -/
def State.injDirect (s : State) (h t choice : Nat) : State :=
  match (s.ring h t).inj with
  | [] => s
  | x :: _ =>
    if ! x.direct then s
    else
      match s.injWhy x, x.data with
      | some (st, r), _ => s.injRefuse h t st r x
      | none, some f => if (s.grp (x.lp / 32)).polq.isEmpty then (s.injAdmit x f choice).injFinish h t 0 else s
      | none, none => s

/-- R308: an inject descriptor whose data is still to be read. -/
def State.injUnread (s : State) (x : InjDesc) : Bool := (s.injWhy x).isNone && x.data.isNone

/-- R308: the data of the first waiting inject descriptor of a ring has been read, or its read failed. -/
def State.injRead (s : State) (h t : Nat) (data : Option (List Byte)) : State :=
  let r := s.ring h t
  match r.inj.find? s.injUnread with
  | none => s
  | some x =>
    let y := match data with
      | some f => { x with data := some (slice f 0 x.len) }
      | none => { x with failed := true }
    let i := r.inj.idxOf x
    let s := s.setRing h t { r with inj := r.inj.set i y }
    s.readHost h (addr64 (wAt x.desc 0) (wAt x.desc 1)) x.len

/-! ### Meanings -/

/-- VECTOR_UNMASK (R284): the host clears a vector's mask. -/
def execVectorUnmask (h : Fin 2) (vec : Fin 128) (s : State) : Host.Outcome State Fault Refusal :=
  act (s.hostOn h && (s.hst h).linkUp && (s.hst h).mse) (fun s =>
    let f := s.hst h
    let k := 4 * vec.val + 3
    (s.tlp h).setHst h { (s.tlp h).hst h with msix := tset msixReset f.msix k (f.msixW k &&& 0xFFFFFFFE) }) s

/-- L0S_ENTRY (R286). -/
def execL0sEntry (h : Fin 2) (s : State) : Host.Outcome State Fault Refusal :=
  act (s.hostOn h && s.mayL0s h) (fun s => s.setHst h { s.hst h with pm := .l0s }) s

/-- L1_ENTRY (R286). -/
def execL1Entry (h : Fin 2) (s : State) : Host.Outcome State Fault Refusal :=
  act (s.hostOn h && s.mayL1 h) (fun s => s.setHst h { s.hst h with pm := (s.hst h).l1State }) s

/-- LINK_UP (R269, R286, R290): the link trains to at most eight lanes, four in dual-host mode, and 32 GT/s. -/
def execLinkUp (h : Fin 2) (width speed : Nat) (s : State) : Host.Outcome State Fault Refusal :=
  act (s.hostOn h && s.hostIn h && ! (s.hst h).linkUp) (fun s =>
    (s.setHst h { s.hst h with linkUp := true, width := min width (if s.straps.pcieMode then 4 else 8), speed := min speed 5, perst := false, lastTlp := s.mono, pm := .l0 }).sendLtr h) s

/-- LINK_DOWN (R288). -/
def execLinkDown (h : Fin 2) (s : State) : Host.Outcome State Fault Refusal :=
  act (s.hostIn h && (s.hst h).linkUp) (fun s => s.loseHost h 1 true) s

/-- HOT_RESET (R288). -/
def execHotReset (h : Fin 2) (s : State) : Host.Outcome State Fault Refusal :=
  act (s.hostIn h && (s.hst h).linkUp) (fun s => s.loseHost h 2 true) s

/-- FUNCTION_LEVEL_RESET (R288). -/
def execFunctionLevelReset (h : Fin 2) (s : State) : Host.Outcome State Fault Refusal :=
  act (s.hostOn h && s.hostIn h && (s.hst h).linkUp) (fun s => s.loseHost h 3 false) s

/-- PERST_ASSERT (R288, R271): the other host's pin is ignored in single-host mode (R269). -/
def execPerstAssert (h : Fin 2) (s : State) : Host.Outcome State Fault Refusal :=
  act (s.hostIn h) (fun s =>
    let s := s.loseHost h 4 true
    s.setHst h { s.hst h with perst := true }) s

/-- BUS_MASTER_DISABLE (R288): the host clears Bus Master Enable, or moves the function to D3hot. -/
def execBusMasterDisable (h : Fin 2) (s : State) : Host.Outcome State Fault Refusal :=
  act (s.hostOn h && s.hostIn h && (s.hst h).linkUp && (s.hst h).bme) (fun s => s.loseHost h 5 false) s

/-- LEAVE (R290): a write of PCI_HOST_CTL with LEAVE. -/
def execLeave (r : Req) (h : Fin 2) (v : Word) (s : State) : Host.Outcome State Fault Refusal :=
  act (s.regOn && mayBank r h) (fun s => s.writeHostCtl h (v ||| 2)) s

/-- PRESENT (R290): a write of PCI_HOST_CTL with PRESENT. -/
def execPresent (r : Req) (h : Fin 2) (v : Word) (s : State) : Host.Outcome State Fault Refusal :=
  act (s.regOn && mayBank r h) (fun s => s.writeHostCtl h (v ||| 1)) s

/-- RNG_NUDGE (R295). -/
def execRngNudge (r : Req) (h : Fin 2) (_v : Word) (s : State) : Host.Outcome State Fault Refusal :=
  act (s.live && mayBank r h) (fun s => s.nudge h) s

/-- DOORBELL_POLL (R295): with NUDGE_EN 0, a fetch every POLL µs. -/
def execDoorbellPoll (h : Fin 2) (s : State) : Host.Outcome State Fault Refusal :=
  act (s.hostOn h && s.hostReach h && ! bit (s.rg .rngCtl h) 31 && ! (s.hst h).fetching &&
    (s.hst h).polled + s.pollTime h ≤ s.mono) (fun s => s.dbStart h) s

/-- DOORBELL_FETCH_COMPLETE (R295). -/
def execDoorbellFetchComplete (h : Fin 2) (words : Option (List Word)) (s : State) : Host.Outcome State Fault Refusal :=
  act (s.hostOn h && (s.hst h).fetching) (fun s => s.dbDone h words) s

/-- DESCRIPTOR_FETCH (R297): of the ring whose turn it is. -/
def execDescriptorFetch (h : Fin 2) (t : Fin 52) (s : State) : Host.Outcome State Fault Refusal :=
  act (s.hostOn h && s.hostReach h && s.fetchNext h = some t.val) (fun s => s.descStart h t) s

/-- DESCRIPTOR_FETCH_COMPLETE (R297). -/
def execDescriptorFetchComplete (h : Fin 2) (t : Fin 52) (descs : Option (List (List Word))) (s : State) : Host.Outcome State Fault Refusal :=
  act (s.hostOn h && 0 < (s.ring h t).inFlight) (fun s => s.descDone h t descs) s

/-- WRITE_BACK (R296). -/
def execWriteBack (h : Fin 2) (t : Fin 52) (s : State) : Host.Outcome State Fault Refusal :=
  act (s.hostOn h && s.hostReach h && (s.ring h t).wbDue) (fun s => s.wbRun h t) s

/-- RING_ENABLE (R294, R299): a write of RNG_CFG with EN 1; `count` is the host count in the doorbell
record. -/
def execRingEnable (r : Req) (h : Fin 2) (t : Fin 52) (v count : Word) (s : State) : Host.Outcome State Fault Refusal :=
  act (s.live && mayBank r h) (fun s => s.writeRngCfg h t (v ||| flag 31 true) (some count)) s

/-- RING_DISABLE (R299): a write of RNG_CFG with EN 0. -/
def execRingDisable (r : Req) (h : Fin 2) (t : Fin 52) (v : Word) (s : State) : Host.Outcome State Fault Refusal :=
  act (s.live && mayBank r h) (fun s => s.writeRngCfg h t (v &&& 0x7FFFFFFF) none) s

/-- INJECT_PIPELINE_ENTRY (R309). -/
def execInjectPipelineEntry (h : Fin 2) (j : Fin 16) (slots : BitVec 6) (macWaiting late : Bool) (s : State) : Host.Outcome State Fault Refusal :=
  act (s.hostOn h) (fun s => s.injPipe h (32 + j) slots macWaiting late) s

/-- INJECT_DIRECT_ENTRY (R29, R308): the buffer has its clock (R378). -/
def execInjectDirectEntry (h : Fin 2) (j : Fin 16) (buf : Nat) (s : State) : Host.Outcome State Fault Refusal :=
  act (s.hostOn h && s.clkOk 144) (fun s => s.injDirect h (32 + j) buf) s

/-- INJECT_DATA_READ (R308). -/
def execInjectDataRead (h : Fin 2) (j : Fin 16) (data : Option (List Byte)) (s : State) : Host.Outcome State Fault Refusal :=
  act (s.hostOn h && s.hostReach h) (fun s => s.injRead h (32 + j) data) s

/-- COALESCING_TIME_EXPIRY (R300): the oldest entry that the host has not consumed was written COAL_US
ago: the ring's source is active, and the interrupts follow. -/
def execCoalescingTimeExpiry (h : Fin 2) (t : Fin 52) (s : State) : Host.Outcome State Fault Refusal :=
  act (s.hostOn h && (s.ring h t).level (16 ≤ t.val && t.val < 32) s.mono) (fun s => s) s

end Sys2Proof.Machine
end

