-- ==== Sys2Proof/Machine/Debug.lean ====
section
/-! DEFINITION. Halting threads (R397-R401): the operations of DBG_CMD, the limit of a halt, and a
thread's state as DBG_THR_Dk shows it. -/

namespace Sys2Proof.Machine

open Sys2Proof

/-! ### Operations on one thread (R398) -/


/-- R398: HALT, as operation `no`. A thread that holds a lock line halts after its UNLOCK; one that waits for a
line withdraws its request. -/
def State.haltThread (s : State) (k no : Nat) : State :=
  let t := s.thr k
  if t.st = .halted then s
  else if t.lock.isSome then s.setThr k { t with haltReq := true, opNo := if t.pend then t.opNo else no }
  else
    let s := (s.leaveLine k).2
    s.setThr k { t with st := .halted, prior := t.st, want := none, haltReq := false, stepping := 0, haltAt := s.mono }

/-- R398, R132: FORCE_HALT. -/
def State.forceHaltThread (s : State) (k no : Nat) : State := (s.breakLock k).haltThread k no

/-- R398: RESUME of a halted thread. -/
def State.resumeThread (s : State) (k : Nat) : State :=
  let t := s.thr k
  s.putThr k { t with st := if t.prior = .idle then .idle else .run }

/-- R398: STEP of a halted thread, as operation `no`; one that halted in IDLE has no microword to issue. -/
def State.stepThread (s : State) (k no : Nat) : State :=
  let t := s.thr k
  if t.prior = .idle then s else s.putThr k { t with st := .run, stepping := 1, opNo := no }

/-- R398: ABORT_PKT of a halted thread: its packet is dropped with DEBUG_ABORT, its stores go as in
step 2 of R135, and it becomes IDLE. -/
def State.abortThread (s : State) (k : Nat) : State :=
  let s := s.dropLock k ((s.thr k).no + 1)
  let t := s.thr k
  match t.pkt with
  | some p => ((s.samplePrimary k none).setThr k t.idle).handDrop p 0x0F t.verdict
  | none => (s.sampleSentinel k none).setThr k t.idle

/-! ### DBG_CMD (R397) -/

/-- One requester's debug operation. -/
def State.dbgOp (s : State) (r : Req) : DbgOp := tget (fun _ => {}) s.dbg (reqNum r)

/-- One requester's debug operation written. -/
def State.setDbgOp (s : State) (r : Req) (x : DbgOp) : State :=
  { s with dbg := tset (fun _ => {}) s.dbg (reqNum r) x }

/-- R397: the threads that SCOPE, CLUSTER, ENGINE and THREAD name. -/
def dbgTargets (w : Word) : List Nat :=
  let c := fld w 25 20
  match fld w 27 26 with
  | 0 => [thrKey c (fld w 19 15) (fld w 14 12)]
  | 1 => (List.range 8).map (thrKey c (fld w 19 15))
  | _ => (List.range 136).map fun i => thrKey c 0 0 + i

/-- R397: the target exists: a cluster of the variant in a domain that is Active or Pale, and an engine
0-16 where one is named. -/
def State.dbgTargetOk (s : State) (w : Word) : Bool :=
  let c := fld w 25 20
  c < s.nClusters && s.isLit (domPg (c / 8)) && (fld w 27 26 == 2 || fld w 19 15 < 17)

/-- R397: some targeted thread has still to complete the operation. -/
def State.dbgBusy (s : State) (r : Req) : Bool :=
  (s.dbgOp r).left.any fun e => (s.thr e.1).pend && (s.thr e.1).opNo == e.2

/-- R398: operation `op`, numbered `no`, on every targeted thread. RESUME, STEP and ABORT_PKT pass over a
thread that is not HALTED. -/
def State.dbgAct (s : State) (op no : Nat) (ks : List Nat) : State :=
  ks.foldl (fun st k =>
    if op = 0 then st.haltThread k no
    else if op = 1 then st.forceHaltThread k no
    else if (st.thr k).st ≠ .halted then st
    else if op = 2 then st.resumeThread k
    else if op = 3 then st.stepThread k no
    else st.abortThread k) s

/-- R397: the threads among those targeted that have still to complete an operation, each with the number of
the one it is to complete. -/
def State.dbgLeft (s : State) (ks : List Nat) : List (Nat × Nat) :=
  (ks.filter fun k => (s.thr k).pend).map fun k => (k, (s.thr k).opNo)

/-- R397: RESULT of an operation: 1 BAD_TARGET, 2 NOT_HALTED, 3 REFUSED, 4 FROZEN. -/
def State.dbgResult (s : State) (w : Word) : Nat :=
  if s.frz.frozen then 4
  else if 4 < fld w 30 28 || fld w 27 26 = 3 then 3
  else if ! s.dbgTargetOk w then 1
  else if 2 ≤ fld w 30 28 && (dbgTargets w).any (fun k => (s.thr k).st ≠ .halted) then 2
  else 0

/-- R397, R398, R410: a write of DBG_CMD by a requester. -/
def State.writeDbg (s : State) (r : Req) (v : Word) : State :=
  if s.fuses.debug then s
  else
    let busy := s.dbgBusy r && ! s.frz.frozen
    let s := s.setDbgOp r { s.dbgOp r with cmd := v &&& 0x7FFFF000 }
    if ! bit v 31 || busy then s
    else
      let res := s.dbgResult v
      let no := 3 * (s.dbgOp r).no + reqNum r
      let s := s.setDbgOp r { s.dbgOp r with go := some v, result := res, no := (s.dbgOp r).no + 1, left := [] }
      if res = 0 || res = 2 then
        let s := s.dbgAct (fld v 30 28) no (dbgTargets v)
        s.setDbgOp r { s.dbgOp r with left := s.dbgLeft (dbgTargets v) }
      else s

/-- R397: DBG_CMD as its requester reads it. -/
def State.dbgCmd (s : State) (r : Req) : Word := (s.dbgOp r).cmd ||| flag 31 (s.dbgBusy r)

/-- R397: DBG_STAT as its requester reads it. -/
def State.dbgStat (s : State) (r : Req) : Word :=
  let x := s.dbgOp r
  let n := match x.go with
    | some w => ((dbgTargets w).filter fun k => (s.thr k).st = .halted).length
    | none => 0
  flag 31 (s.dbgBusy r) ||| put 30 28 x.result ||| put 7 0 n

/-! ### DBG_THR_Dk (R401) -/

/-- R120: the code of a thread's state. -/
def TState.code : TState → Nat
  | .idle => 0
  | .run => 1
  | .wait => 2
  | .halted => 3

/-- R401: word `i` of a thread's state. A re-execution's delay registers hold no sequence number (R355): what it
shows for one is a free value (log entry 83). -/
def State.thrWord (s : State) (k i : Nat) : Word :=
  let t := s.thr k
  if i < 16 then tget (fun _ => 0) t.g i
  else if i < 24 then wAt t.n (i - 16)
  else if i = 24 then t.scr
  else if i = 25 then t.cnt
  else if i = 26 then
    put 31 29 t.st.code ||| flag 28 t.fa.z ||| flag 27 t.fa.n ||| flag 26 t.fa.c ||| flag 25 t.fb.z |||
      flag 24 t.fb.n ||| flag 23 t.fb.c ||| put 22 19 t.mway ||| put 18 15 t.stack.length |||
      flag 14 t.lock.isSome ||| put 13 0 t.pc
  else if i = 27 then
    put 31 26 ((t.lock.orElse fun _ => t.want).getD 0) ||| put 25 19 (if t.bg then t.bgLeft else t.budget) |||
      put 18 15 t.sb.length ||| put 14 11 t.await.toNat ||| flag 10 t.bg ||| flag 9 t.pkt.isSome
  else if i < 36 then put 13 0 ((t.stack[i - 28]?).getD 0)
  else if i < 52 then
    match t.sb[(i - 36) / 2]? with
    | some e => if i % 2 = 0 then flag 31 e.cadd ||| flag 30 e.held ||| put 15 0 e.addr else e.data
    | none => 0
  else if i = 52 then
    if t.pkt.isSome || t.sample.isSome then
      let st := (s.thrCtx k).stamp
      let seq := if t.pkt.isSome then st.seq else fld (Config.freeWord s.free) 15 0
      put 31 24 st.lport ||| put 23 8 seq ||| flag 7 st.epoch
    else 0
  else 0

/-- R401, R396: the thread that a requester's DBG_THR_IDX selects, where it exists and its domain answers; in a
frozen device every domain does. -/
def State.dbgThread (s : State) (r : Req) : Option Nat :=
  let w := s.pv r 0x15010010
  let c := fld w 25 20
  if c < s.nClusters && fld w 19 15 < 17 && (s.isLit (domPg (c / 8)) || ! s.live) then some (thrKey c (fld w 19 15) (fld w 14 12))
  else none

/-- R401: a write of DBG_THR_Dk: words 0-15 of a HALTED thread. -/
def State.writeThrWord (s : State) (r : Req) (i : Nat) (v : Word) : State :=
  match s.dbgThread r with
  | some k =>
    let t := s.thr k
    if i < 16 && t.st = .halted then s.setThr k { t with g := tset (fun _ => 0) t.g i v } else s
  | none => s

/-! ### Meanings -/

/-- A write of DBG_CMD that starts operation `op`. -/
def dbgWord (op : Nat) (v : Word) : Word := setFld v 31 28 (8 + op)

/-- HALT (R397, R398): a write of DBG_CMD. -/
def execHalt (r : Req) (v : Word) (s : State) : Host.Outcome State Fault Refusal :=
  act s.regOn (fun s => s.writeDbg r (dbgWord 0 v)) s

/-- FORCE_HALT (R397, R398): a write of DBG_CMD. -/
def execForceHalt (r : Req) (v : Word) (s : State) : Host.Outcome State Fault Refusal :=
  act s.regOn (fun s => s.writeDbg r (dbgWord 1 v)) s

/-- RESUME (R397, R398): a write of DBG_CMD. -/
def execResume (r : Req) (v : Word) (s : State) : Host.Outcome State Fault Refusal :=
  act s.regOn (fun s => s.writeDbg r (dbgWord 2 v)) s

/-- STEP (R397, R398): a write of DBG_CMD. -/
def execStep (r : Req) (v : Word) (s : State) : Host.Outcome State Fault Refusal :=
  act s.regOn (fun s => s.writeDbg r (dbgWord 3 v)) s

/-- ABORT_PKT (R397, R398): a write of DBG_CMD. -/
def execAbortPkt (r : Req) (v : Word) (s : State) : Host.Outcome State Fault Refusal :=
  act s.regOn (fun s => s.writeDbg r (dbgWord 4 v)) s

/-- HALT_MAX_EXPIRY (R399): a thread halted with a packet for HALT_MAX µs, unless HALT_MAX is 0. -/
def execHaltMaxExpiry (c : Fin 64) (e : Fin 17) (t : Fin 8) (s : State) : Host.Outcome State Fault Refusal :=
  let k := thrKey c e t
  let x := s.thr k
  let m := fld (s.rg .dbgCfg) 15 0
  act (s.cluOn c && x.st = .halted && x.pkt.isSome && m ≠ 0 && x.haltAt + 1000 * m ≤ s.mono) (fun s => s.abortThread k) s

end Sys2Proof.Machine
end

