-- ==== Sys2Proof/Machine/Dram.lean ====
section
/-! DEFINITION. The DRAM controller's commands (R319-R341). -/

namespace Sys2Proof.Machine

open Sys2Proof

/-! ### Ranks, log and counters -/

/-- R334, R339: the spare is designated and not yet used. -/
def State.spareFree (s : State) (c : Nat) : Bool := s.hasSpare c && ! (s.dch c).spareUsed

/-- R341: REQUESTER of DRC_CHn_EINFO; the chain, which it does not name, counts as a host (log entry 56). -/
def dramUserCode : DramUser → Nat
  | .telemetry => 0
  | .host _ => 1
  | .dma _ => 1
  | .scrub => 2
  | .migration => 3
  | .freezeCopy => 4
  | .chain => 1

/-- R266: the size in bytes of a record kind. -/
def recSize (k : Nat) : Nat :=
  match k with
  | 1 => 256
  | 2 => 416
  | 3 => 1760
  | 4 => 160
  | 5 => 8224
  | 6 => 288
  | 7 => 128
  | _ => 64

/-- R335: the records of region k that queued writes carried, at least in part (log entry 8). -/
def State.lostRecords (s : State) (k : Nat) (wq : List DReq) : Nat :=
  match s.rgnBase k with
  | some b =>
    let n := (wq.filter fun r => r.who = .telemetry && b ≤ r.addr && r.addr < b + s.rgnUnits k * 32).foldl
      (fun a r => a + r.len) 0
    (n + recSize k - 1) / recSize k
  | none => 0

/-- R335: a channel freezes for diagnosis. -/
def State.freezeChannel (s : State) (c : Nat) : State :=
  let d := s.dch c
  let s := d.rq.foldl (fun st r => st.dramAnswer r.who r.no r.addr r.data true) (s.setDch c { d with rq := [] })
  let s := (List.range 8).foldl (fun st i =>
    let n := st.lostRecords (i + 1) d.wq
    if n = 0 then st else st.telLost (i + 1) n) s
  let s := s.setDch c { s.dch c with wq := [], drain := false }
  (s.moveRegions c).setDramSt c .frozen

/-- R336, R337: a migration of rank r to the spare begins. -/
def State.startMigration (s : State) (c r : Nat) : State :=
  let s := s.setDch c { s.dch c with migRank := r, migPtr := 0 }
  s.setDramSt c .migrating

/-- R335, R336: what an uncorrectable error in a rank brings about. -/
def State.afterUe (s : State) (c rank : Nat) : State :=
  let d := s.dch c
  if d.st = .migrating then (if rank = d.migRank then s else s.freezeChannel c)
  else if d.st = .service && s.spareFree c then s.startMigration c rank
  else s.freezeChannel c

/-- R341: the error registers record an uncorrectable read; the subchannel follows a mapping that the
spec does not give (log entry 4). -/
def State.recordUe (s : State) (c : Nat) (who : DramUser) (a rank : Nat) : State :=
  let v := s.fresh
  let s := v.2.bump .drcChUe 0 c
  let d := s.dch c
  s.setDch c { d with
    ueEvt := true, eaddr := a,
    einfo := put 31 30 rank ||| (v.1 &&& 0x20000000) ||| put 28 26 (dramUserCode who) }

/-- R337: a corrected error of a rank is noted, and CE_LIMIT of them within 24 hours start a
migration while a spare is free. -/
def State.noteCe (s : State) (c rank : Nat) : State :=
  let d := s.dch c
  let day := 86400000000000
  let l := (s.mono :: tget (fun _ => []) d.ceTimes rank).filter fun t => s.mono < t + day
  let s := s.setDch c { d with ceTimes := tset (fun _ => []) d.ceTimes rank (l.take 255) }
  let lim := fld (s.rg .drcChCtl 0 c) 23 16
  if lim ≠ 0 && lim ≤ l.length && d.st = .service && s.spareFree c then s.startMigration c rank else s

/-- R334: an access has been checked: counters, faults and the reactions of R335-R337. `trigger` is
false for the copy of a migration and for the poison pattern, which are reported and trigger neither R335 nor
R336 (log entry 79). -/
def State.eccOutcome (s : State) (c : Nat) (who : DramUser) (a : Nat) (ecc : EccResult) (trigger : Bool) :
    State :=
  let off := a % slotSize
  let rank := s.rankServing c off
  match ecc with
  | .good => s
  | .corrected =>
    let s := (s.bump .drcChCe 0 c).raise { src := 80 + c, cls := .blue, code := 1, info := put 23 0 (off / 64) }
    s.noteCe c rank
  | .uncorrectable =>
    let s := s.recordUe c who a rank
    let s := if trigger then s.afterUe c rank else s
    s.raise { src := 80 + c, cls := .orange, code := 2, info := put 23 0 (off / 64) }

/-- R336: the units of a poisoned chunk. -/
def poisonUnits (x : Nat) : List Nat := [x, x + 64, x + 128, x + 192]

/-- A queue entry taken out. -/
def withoutAt {α : Type} (l : List α) (i : Nat) : List α := l.take i ++ l.drop (i + 1)

/-- R332: when both queues of a channel become empty, the idle time starts. -/
def State.noteIdle (s : State) (c : Nat) : State :=
  let d := s.dch c
  if d.rq.isEmpty && d.wq.isEmpty then s.setDch c { d with idleSince := s.mono } else s

/-- R334: the bytes of a read that cannot be corrected are free values (log entry 4). -/
def State.readBytes (s : State) (r : DReq) (bad : Bool) : List Byte :=
  if bad then (List.range r.len).map fun i => (Config.freeWord (s.free + i)).setWidth 8 else r.data

/-- R329, R334, R336: a queued read is served by its rank: its unit may hold the poison pattern. -/
def State.readRank (s : State) (c : Nat) (r : DReq) (ecc : EccResult) : State :=
  let off := r.addr % slotSize
  let old := r.bad || s.poisoned c off
  let ecc := if old then .uncorrectable else ecc
  let bad := decide (ecc = .uncorrectable)
  let s := s.dlogAcc c 2 (s.rankServing c off)
  let s := ({ s with free := s.free + 64 } : State).dramAnswer r.who r.no r.addr (s.readBytes r bad) bad
  (s.noteIdle c).eccOutcome c r.who r.addr ecc (! old)

/-- R329, R330: a queued read is served: from queued writes alone, where they held all of it. -/
def State.serveRead (s : State) (c pick : Nat) (r : DReq) (ecc : EccResult) : State :=
  let s := s.setDch c { s.dch c with rq := withoutAt (s.dch c).rq pick }
  if r.full then (s.dramAnswer r.who r.no r.addr r.data false).noteIdle c else s.readRank c r ecc

/-- R329: a queued write is issued; a drain ends at 16 entries. -/
def State.serveWrite (s : State) (c pick : Nat) (r : DReq) : State :=
  let d := s.dch c
  let q := withoutAt d.wq pick
  ((s.setDch c { d with wq := q, drain := d.drain && 16 < q.length }).issueWrite c r).noteIdle c

/-! ### Registers -/

/-- R323: every channel is UNUSED, OFFLINE or FAILED. -/
def DramState.idle : DramState → Bool
  | .unused => true
  | .offline => true
  | .failed => true
  | _ => false

/-- R323, R326, R337: a channel of CH_EN is brought up. -/
def State.trainChannel (s : State) (c : Nat) : State :=
  let d := s.dch c
  let ctl := s.rg .drcChCtl 0 c
  let used := s.hasSpare c && bit ctl 6
  if d.st.idle then
    (s.setDch c { d with cfgErr := false, spareUsed := used, retired := if used then fld ctl 5 4 else 0, migPtr := 0, rq := [], wq := [], drain := false, exitDue := false }).setDramSt c .training
  else s

/-- R325: a cleared CH_EN bit takes a channel to UNUSED. -/
def State.unuse (s : State) (c : Nat) : State := if bit (s.rg .drcCfg) (24 + c) then s else s.setDramSt c .unused

/-- R323: a write of DRC_CFG. -/
def State.writeDrcCfg (s : State) (v : Word) : State :=
  let free := (List.range 4).all fun c => (s.dch c).st.idle
  let s := if free then (List.range 4).foldl State.unuse (s.setRg .drcCfg 0 0 (v &&& 0x4F0F0F07)) else s
  let cfg := s.rg .drcCfg
  if bit v 31 then
    let chs := (List.range 4).filter fun c => bit cfg (24 + c)
    if drcOk cfg then chs.foldl State.trainChannel s
    else chs.foldl (fun st c => st.setDch c { st.dch c with cfgErr := true }) s
  else s

/-- R327, R328, R332: a channel's devices come into service: its idle time and its refreshes start, and after
a calibration (`cal`) those of R327 count from now. -/
def State.upNow (s : State) (c : Nat) (cal : Bool) : State :=
  let d := s.dch c
  s.setDch c { d with
    exitDue := false, idleSince := s.mono, upSince := s.mono, refAt := [], postponed := [], tempAt := s.mono,
    zqAt := if cal then s.mono else d.zqAt, oscAt := if cal then s.mono else d.oscAt }

/-- R326, R341: an entry of the command log that training leaves: which command, to which rank and when in the 20 ms
before now, no rule says, so they follow from two free values (log entry 86). -/
def trainEntry (now ranks : Nat) (v w : Word) : Word × Word :=
  (clogLo (1 + fld v 31 28 % 10) (fld v 27 26 % max 1 ranks) v, wd (now - w.toNat % 20000000))

/-- R326, R341: the reads, the writes and the other commands of a bring-up enter the log: the last 64 of them. -/
def State.trainLog (s : State) (c : Nat) : State :=
  let l := (List.range 64).map fun i =>
    trainEntry s.now (rankCount (s.rg .drcCfg)) (Config.freeWord (s.free + i)) (Config.freeWord (s.free + 64 + i))
  ({ s with free := s.free + 128 } : State).setDch c { s.dch c with cmdlog := l }

/-- R326: a channel's training ends. With RETAIN 0 its contents are undefined from then on. INFO of TRAIN_FAIL is
the channel, the model's choice (log entry 82). -/
def State.trainEnd (s : State) (c : Nat) (ok : Bool) : State :=
  let keep := bit (s.rg .drcCfg) 30
  let s := s.trainLog c
  let s : State := if keep then s
    else
      let s := s.setDch c { s.dch c with undef := (s.dch c).undef + 1, poison := [], scrubPtr := 0, scrubFrom := none }
      { s with dram := { s.dram with mem := tdrop (fun x => x / 2 ^ 38 == c) s.dram.mem } }
  if ok then (s.upNow c true).setDramSt c .service
  else (s.setDramSt c .failed).raise { src := 84, cls := .orange, code := 0x1E, info := wd c }

/-- R339: a write of DRC_CHn_CTL and its ACTION. -/
def State.writeDrcCh (s : State) (c : Nat) (v : Word) : State :=
  let s := if (s.dch c).st.idle then s.setRg .drcChCtl 0 c (v &&& 0x00FF007B) else s
  match fld v 31 29 with
  | 1 => s.dramOffline c
  | 2 =>
    if (s.dch c).st = .frozen then
      (s.setDch c { s.dch c with idleSince := s.mono, migPtr := 0 }).setDramSt c .service
    else s
  | 3 =>
    let r := fld v 1 0
    if (s.dch c).st = .service && s.spareFree c && r ≠ fld (s.rg .drcChCtl 0 c) 1 0 then s.startMigration c r
    else s
  | _ => s

/-! ### Periodic work -/

/-- R325, R328: a channel whose devices are in service and not in self-refresh. -/
def DramState.awake : DramState → Bool
  | .service => true
  | .migrating => true
  | .frozen => true
  | _ => false

/-- R328: tREFI in ns. -/
def DCh.refi (d : DCh) : Nat := if d.hot then 1950 else 3900

/-- R328: when a rank's last refresh fell due. -/
def DCh.lastRef (d : DCh) (r : Nat) : Nat := tget (fun _ => d.upSince) d.refAt r

/-- R328: when a rank's next refresh falls due: once in each tREFI, the `n` ranks one after another and spread
evenly over it. The phase of the first of each rank is the model's choice (log entry 87). -/
def DCh.nextRef (d : DCh) (n r : Nat) : Nat :=
  let first := d.upSince + d.refi * (r + 1) / max 1 n
  if d.lastRef r < first then first else first + ((d.lastRef r - first) / d.refi + 1) * d.refi

/-- R328: when a rank's next refresh falls due. -/
def State.refNext (s : State) (c r : Nat) : Nat := (s.dch c).nextRef (rankCount (s.rg .drcCfg)) r

/-- R328: a refresh of a rank falls due. -/
def State.refDue (s : State) (c r : Nat) : Bool := decide (s.refNext c r ≤ s.mono)

/-- R328: a refresh of a rank falls due: it is postponed while reads wait, up to four of them, or
issued with those owed. -/
def State.refreshRank (s : State) (c r : Nat) (postpone : Bool) : State :=
  let d := s.dch c
  let n := tget (fun _ => 0) d.postponed r
  let d := { d with refAt := tset (fun _ => d.upSince) d.refAt r (s.refNext c r) }
  if postpone && ! d.rq.isEmpty && n < 4 then
    s.setDch c { d with postponed := tset (fun _ => 0) d.postponed r (n + 1) }
  else (s.setDch c { d with postponed := tset (fun _ => 0) d.postponed r 0 }).dlogs c r (List.replicate (n + 1) 5)

/-- R327: a calibration (command 8) or oscillator check (9) falls due: every 128 ms, and every 100 ms. -/
def State.calDue (s : State) (c cmd : Nat) : Bool :=
  let d := s.dch c
  if cmd = 8 then decide (d.zqAt + 128000000 ≤ s.mono) else decide (d.oscAt + 100000000 ≤ s.mono)

/-- R327: a calibration or oscillator check. INFO of CAL_FAIL is the channel, the model's choice (log entry 82). -/
def State.calibrate (s : State) (c cmd : Nat) (ok : Bool) : State :=
  let d := s.dch c
  let s := (s.setDch c (if cmd = 8 then { d with zqAt := s.mono } else { d with oscAt := s.mono })).dlogAll c [cmd]
  if ok then s else s.raise { src := 84, cls := .orange, code := 0x1F, info := wd c }

/-- R332: both queues have stayed empty for SR_IDLE µs. -/
def State.srIdle (s : State) (c : Nat) : Bool :=
  let d := s.dch c
  let t := fld (s.rg .drcPwr) 15 0
  t ≠ 0 && d.rq.isEmpty && d.wq.isEmpty && decide (d.idleSince + t * 1000 ≤ s.mono)

/-- R332, R327: self-refresh ends; after 100 ms or more there, both checks of R327 run first. -/
def State.srExit (s : State) (c : Nat) : State :=
  let long := decide ((s.dch c).srSince + 100000000 ≤ s.mono)
  let s := (s.upNow c long).setDramSt c .service
  s.dlogAll c (if long then [7, 8, 9] else [7])

/-- R336: the four results of the reads of the chunk at place `x`: a unit that holds the poison pattern reads
uncorrectable. -/
def State.chunkEcc (s : State) (c x : Nat) (eccs : List EccResult) : List EccResult :=
  (List.range 4).map fun i => if s.poisonedAt c (x + 64 * i) then .uncorrectable else (eccs[i]?).getD .good

/-- R336: the chunk at place `x` is written to the spare at place `y`: its data, or the poison pattern. -/
def State.copyChunk (s : State) (c x y : Nat) (bad : Bool) : State :=
  let s := s.dramStore c y ((List.range 256).map fun i => s.dramGet (x + i))
  if bad then (s.bump .drcChPoisoned 0 c).setDch c { s.dch c with poison := poisonUnits y ++ (s.dch c).poison } else s

/-- R336: the copy has come to an offset of the rank; at the rank's end the migration is complete. -/
def State.migTo (s : State) (c ptr : Nat) : State :=
  let r := (s.dch c).migRank
  if rankSize (s.rg .drcCfg) ≤ ptr then
    let s := s.setRg .drcChCtl 0 c (setFld (s.rg .drcChCtl 0 c) 6 4 (4 + r))
    (s.setDch c { s.dch c with spareUsed := true, retired := r, migDone := true, migPtr := 0 }).setDramSt c .service
  else s.setDch c { s.dch c with migPtr := ptr }

/-- R336: one 256-byte chunk is copied, by four reads and four writes. Where a fault's reaction has taken the
channel out of service, the copy goes no further. -/
def State.migChunk (s : State) (c : Nat) (eccs : List EccResult) : State :=
  let d := s.dch c
  let spare := fld (s.rg .drcChCtl 0 c) 1 0
  let a := dramBase + c * slotSize + (s.ranksUsed c).idxOf d.migRank * rankSize (s.rg .drcCfg) + d.migPtr
  let x := rankPlace c d.migRank + d.migPtr
  let l := s.chunkEcc c x eccs
  let bad := l.any fun e => decide (e = .uncorrectable)
  let s := (s.dlogAcc c 2 d.migRank).dlogs c d.migRank [2, 2, 2]
  let s := (s.dlogAcc c 3 spare).dlogs c spare [3, 3, 3]
  let s := (s.copyChunk c x (rankPlace c spare + d.migPtr) bad)
  let s := (List.range 4).foldl (fun st i => st.eccOutcome c .migration (a + 64 * i) ((l[i]?).getD .good) false) s
  if (s.dch c).st = .migrating then s.migTo c (d.migPtr + 256) else s

/-- R334: the patrol may read: it goes on with a round, or 24 hours have passed since the last began. -/
def State.patrolDue (s : State) (c : Nat) : Bool :=
  let d := s.dch c
  d.scrubPtr ≠ 0 || (match d.scrubFrom with
    | some t => decide (t + 86400000000000 ≤ s.mono)
    | none => true)

/-- R334: the patrol scrub reads the next usable address, and writes corrected data back. -/
def State.patrol (s : State) (c : Nat) (ecc : EccResult) : State :=
  let d := s.dch c
  let a := dramBase + c * slotSize + d.scrubPtr
  let q := max 64 (s.usable c)
  let rank := s.rankServing c d.scrubPtr
  let s := s.setDch c { d with scrubPtr := (d.scrubPtr + 64) % q, scrubFrom := if d.scrubPtr = 0 then some s.mono else d.scrubFrom }
  let old := s.poisoned c d.scrubPtr
  let ecc := if old then .uncorrectable else ecc
  let s := s.dlogAcc c 2 rank
  let s := if ecc = .corrected then s.dlogs c rank [3] else s
  s.eccOutcome c .scrub a ecc (! old)

/-! ### Meanings -/

/-- TRAIN (R323): a write of DRC_CFG. -/
def execTrain (r : Req) (v : Word) (s : State) : Host.Outcome State Fault Refusal :=
  act s.regOn (fun s => s.access r domDram fun s => s.writeDrcCfg v) s

/-- TRAINING_DONE (R326). -/
def execTrainingDone (c : Fin 4) (ok : Bool) (s : State) : Host.Outcome State Fault Refusal :=
  act (s.dramOn c && (s.dch c).st = .training) (fun s => s.trainEnd c ok) s

/-- REFRESH (R328): not of a retired rank (R336). -/
def execRefresh (c : Fin 4) (rank : Fin 4) (postpone : Bool) (s : State) : Host.Outcome State Fault Refusal :=
  let d := s.dch c
  act (s.dramOn c && d.st.awake && rank.val < rankCount (s.rg .drcCfg) && ! (d.spareUsed && rank.val == d.retired) && s.refDue c rank)
    (fun s => s.refreshRank c rank postpone) s

/-- TEMPERATURE_READ (R328): not of a frozen channel, which issues refreshes only (R335). -/
def execTemperatureRead (c : Fin 4) (hot : Bool) (s : State) : Host.Outcome State Fault Refusal :=
  act (s.dramOn c && ((s.dch c).st = .service || (s.dch c).st = .migrating) && (s.dch c).tempAt + 256000 ≤ s.mono)
    (fun s => (s.setDch c { s.dch c with hot := hot, tempAt := s.mono }).dlogAll c [9]) s

/-- ZQ_CALIBRATION (R327). -/
def execZqCalibration (c : Fin 4) (ok : Bool) (s : State) : Host.Outcome State Fault Refusal :=
  act (s.dramOn c && ((s.dch c).st = .service || (s.dch c).st = .migrating) && s.calDue c 8)
    (fun s => s.calibrate c 8 ok) s

/-- DQS_OSCILLATOR_CHECK (R327). -/
def execDqsOscillatorCheck (c : Fin 4) (ok : Bool) (s : State) : Host.Outcome State Fault Refusal :=
  act (s.dramOn c && ((s.dch c).st = .service || (s.dch c).st = .migrating) && s.calDue c 9)
    (fun s => s.calibrate c 9 ok) s

/-- DRAM_REQUEST (R329, R320): what lies outside service reads zero at once, and its writes are discarded. -/
def execDramRequest (who : DramUser) (addr len : Nat) (write : Option (List Byte)) (s : State) :
    Host.Outcome State Fault Refusal :=
  act s.live (fun s =>
    match write with
    | some b => s.dramWrite who addr b
    | none => s.dramRead who addr len) s

/-- DRAM_READ (R329, R334): reads first, unless writes are being drained. -/
def execDramRead (c : Fin 4) (pick : Nat) (ecc : EccResult) (s : State) : Host.Outcome State Fault Refusal :=
  let d := s.dch c
  act (s.dramOn c && (d.st = .service || d.st = .migrating) && ! d.drain && pick < min 64 d.rq.length)
    (fun s =>
      match (s.dch c).rq[pick]? with
      | some r => s.serveRead c pick r ecc
      | none => s) s

/-- DRAM_WRITE (R329): while no read waits, or in a drain. -/
def execDramWrite (c : Fin 4) (pick : Nat) (s : State) : Host.Outcome State Fault Refusal :=
  let d := s.dch c
  act (s.dramOn c && (d.st = .service || d.st = .migrating) && (d.rq.isEmpty || d.drain) && pick < min 64 d.wq.length)
    (fun s =>
      match (s.dch c).wq[pick]? with
      | some r => s.serveWrite c pick r
      | none => s) s

/-- WRITE_DRAIN (R329). -/
def execWriteDrain (c : Fin 4) (s : State) : Host.Outcome State Fault Refusal :=
  let d := s.dch c
  act (s.dramOn c && (48 ≤ d.wq.length || d.wq.any fun r => decide (r.at_ + 20000 ≤ s.mono)))
    (fun s => s.setDch c { s.dch c with drain := true }) s

/-- SELF_REFRESH_ENTRY (R332). -/
def execSelfRefreshEntry (c : Fin 4) (s : State) : Host.Outcome State Fault Refusal :=
  act (s.live && (s.dch c).st = .service && (s.srIdle c || ! s.isLit domDram))
    (fun s => (s.enterSr c).setDramSt c .selfRefresh) s

/-- SELF_REFRESH_EXIT (R332): for a request, or when the domain has returned to Active. -/
def execSelfRefreshExit (c : Fin 4) (s : State) : Host.Outcome State Fault Refusal :=
  let d := s.dch c
  act (s.dramOn c && d.st = .selfRefresh && (! d.rq.isEmpty || ! d.wq.isEmpty || d.exitDue))
    (fun s => s.srExit c) s

/-- PATROL_SCRUB (R334). -/
def execPatrolScrub (c : Fin 4) (ecc : EccResult) (s : State) : Host.Outcome State Fault Refusal :=
  act (s.dramOn c && ((s.dch c).st = .service || (s.dch c).st = .migrating) && s.patrolDue c) (fun s => s.patrol c ecc) s

/-- MIGRATION_CHUNK (R336): `eccs` are the results of its four reads. -/
def execMigrationChunk (c : Fin 4) (eccs : List EccResult) (s : State) : Host.Outcome State Fault Refusal :=
  act (s.dramOn c && (s.dch c).st = .migrating) (fun s => s.migChunk c eccs) s

/-- OFFLINE (R338, R339): a write of DRC_CHn_CTL. -/
def execOffline (r : Req) (c : Fin 4) (v : Word) (s : State) : Host.Outcome State Fault Refusal :=
  act s.regOn (fun s => s.access r domDram fun s => s.writeDrcCh c v) s

/-- DRAM_RESUME (R335, R339): a write of DRC_CHn_CTL. -/
def execDramResume (r : Req) (c : Fin 4) (v : Word) (s : State) : Host.Outcome State Fault Refusal :=
  act s.regOn (fun s => s.access r domDram fun s => s.writeDrcCh c v) s

/-- MIGRATE (R337, R339): a write of DRC_CHn_CTL. -/
def execMigrate (r : Req) (c : Fin 4) (v : Word) (s : State) : Host.Outcome State Fault Refusal :=
  act s.regOn (fun s => s.access r domDram fun s => s.writeDrcCh c v) s

end Sys2Proof.Machine
end

