-- ==== Sys2Proof/Machine/RegRead.lean ====
section
/-! DEFINITION. What registers read as: the current value of every register of the map (R411), which is
also its peek value (R11), and the side effects of an ordinary read (R9, R10). -/

namespace Sys2Proof.Machine

open Sys2Proof

/-! ### Codes of named states -/

/-- R172: STATE of EPC_STAT. -/
def EpcState.code : EpcState → Nat
  | .idle => 0
  | .staging => 1
  | .flipping => 2
  | .draining => 3
  | .flushing => 4
  | .sweeping => 5
  | .aborting => 6

/-- R318: STATE of DMA_STAT. -/
def ChanState.code : ChanState → Nat
  | .idle => 0
  | .running => 1
  | .done => 2
  | .stopped => 3
  | .aborted => 4

/-- R325: STATE of DRC_CHn_STAT. -/
def DramState.code : DramState → Nat
  | .unused => 0
  | .training => 1
  | .service => 2
  | .selfRefresh => 3
  | .migrating => 4
  | .frozen => 5
  | .offline => 6
  | .failed => 7

/-- R414: the code of a variant. -/
def Variant.code : Variant → Nat
  | .hj6416c => 1
  | .hj6416e => 2
  | .hj4816c => 3

/-- R271, R413: the Device ID. -/
def Variant.device : Variant → Nat
  | .hj4816c => 0x4816
  | _ => 0x6416

/-- R409: FUSE_STAT. -/
def State.fuseStat (s : State) : Word := flag 2 s.fuses.debug ||| flag 1 s.fuses.payload ||| flag 0 s.fuses.factory

/-- R394: CHN_STAT. -/
def State.chnStat (s : State) : Word := flag 31 s.straps.chnTerm ||| flag 30 s.chain.overflow ||| put 23 20 2 ||| put 5 0 s.chain.addr

/-- R405: CHN_FRZ_STAT. -/
def State.frzStat (s : State) : Word :=
  flag 31 s.frz.frozen ||| put 30 28 s.frz.origin ||| put 27 21 s.frz.source ||| put 20 13 s.frz.event

/-! ### Clocks (R377, R419) -/

/-- R377, R43: a mode's lanes run at 106.25 Gb/s. -/
def slowLanes (mode : Nat) : Bool := modeRate mode / modeLanes mode < 200

/-- R377: the frequency of a clock domain in MHz, truncated, where its reference and the time base have their nominal
frequencies. -/
def State.clkMhz (s : State) (k : Nat) : Nat :=
  let slow (p : Nat) : Bool := let m := fld (s.rg .pgPortCfg (p / 8) (p % 8)) 2 0; m ≠ 0 && slowLanes m
  if k < 64 then (if slow k then 664 else 1328)
  else if k < 72 then (if (List.range 8).any fun p => slow (8 * (k - 64) + p) then 664 else 1328)
  else if k < 80 || k = 144 then 1500
  else if k < 144 then 2000
  else if k < 148 || k = 153 then 1000
  else if k = 148 || k = 155 then 800
  else if k = 154 then 50
  else 1200 + 100 * min 4 (fld (s.rg .drcCfg) 2 0)

/-- What the outside world makes a measured value: a free value for each of them, which changes when the counter
of free values does, and stands still from the clock stop of a freeze on (R419; log entry 24). -/
def State.sense (s : State) (tag : Nat) : Word :=
  Config.freeWord (2 ^ 64 * (tag + 1) + if s.frz.stopped then s.frz.freeAt else s.free)

/-- R48, R419, R431, R435: how far below that a measured frequency may be, in MHz: the receive and transmit clocks keep
±100 ppm against a time base of ±50 ppm, a PCIe reference is spread down by up to 0.5 % beside its tolerance, and CHN_CK
keeps ±1 %; the others come from the reference of the time base itself (log entry 53). -/
def mhzSlack (k : Nat) : Nat :=
  if k < 72 || k = 154 then 1 else if k = 146 || k = 147 then 6 else 0

/-- R419: CLK_DOMk. Whether a recovered receive clock or the chain clock runs, and the frequency within its range, are
the outside world's. -/
def State.clkDom (s : State) (k : Nat) : Word :=
  let doms := if k = 144 then (List.range 4).map domBuf else [clkDomain k]
  let w := s.sense k
  let ext := k < 64 || k = 154
  let run := doms.any (fun d => s.isActive d && ! s.fusedDom d) && s.clkOk k && (! ext || bit w 31)
  let lock := doms.any (fun d => s.isLit d && ! s.fusedDom d) && s.clkOk k && (! ext || bit w (if k = 154 then 31 else 30))
  flag 31 run ||| flag 30 lock ||| put 15 0 (if run then s.clkMhz k - fld w 15 0 % (mhzSlack k + 1) else 0)

/-- R381, R431: a SerDes reference has a consumer that is Active and has not lost it. -/
def State.sxRefUsed (s : State) (n : Nat) : Bool :=
  s.clk.sxRef.getLsbD n &&
    (if s.straps.refsel then n == 0 && (List.range 8).any fun k => s.isActive (domSx k) else s.isActive (domSx n))

/-- R418: CLK_REF_STAT. A reference that an Active consumer runs on is present; whether any other is, and whether one is
that a consumer has lost, is measured: the outside world's (log entry 24). -/
def State.refStat (s : State) : Word :=
  let w := s.sense 200
  (List.range 8).foldl (fun a n => a ||| flag (2 + n) (s.sxRefUsed n || bit w (2 + n)))
    (flag 1 (s.clk.pcieRef || bit w 1) ||| flag 0 (s.clk.sysRef || bit w 0))

/-! ### Counts of the receivers (R421, R422) -/

/-- R42: a physical lane that is powered down: in 4×100G mode, one that feeds no sub-port and whose RX_LANE names an
odd lane of its port. -/
def State.laneDown (s : State) (pg j : Nat) : Bool :=
  fld (s.rg .pgPortCfg pg (j / 8)) 2 0 = 5 && (s.laneOwner pg j).isNone && bit (s.rg .sxlLaneCfg pg j) 4

/-! ### Indexed entries -/

/-- R212, R237: the queue that a requester's index names, where there is one. -/
def State.idxOf (s : State) (r : Req) (n : RegName) (size : Nat) : Option Nat :=
  let q := (s.pv r (regAddr n 0 0 0)).toNat
  if q < size then some q else none

/-- The internal address of a register. -/
def RegAt.addr (x : RegAt) : Nat := x.blk.place.1 + x.k * x.blk.place.2.2 + x.row.off + x.i * x.row.si + x.j * x.row.sj

/-- A value of the entry that an index names; 0 beyond the last entry. -/
def ofIdx (o : Option Nat) (f : Nat → Word) : Word :=
  match o with
  | some q => f q
  | none => 0

/-- R234, R241: the low word of a bucket's committed configuration. -/
def Bucket.lo (b : Bucket) : Word := flag 31 b.en ||| put 27 0 b.rate

/-- R234, R241: the high word of a bucket's committed configuration. -/
def Bucket.hi (b : Bucket) : Word := put 31 30 b.mode ||| put 29 25 b.overhead ||| put 19 0 b.burst

/-- R234, R241: tokens in bytes. -/
def Bucket.bytes (b : Bucket) (now : Nat) : Int := b.tokens now / 1000000

/-- R238, R237: the queue holds the grant of its level. -/
def State.holdsGrant (s : State) (q : Nat) : Bool := q < 2560 && s.grantOf (q / 10) (s.qLevel q) == some q

/-! ### Fields of several registers -/

/-- R54: MAC_LP_STAT. -/
def State.macStat (s : State) (lp : Nat) : Word :=
  let p := s.port lp
  let on := p.st ≠ .disabled
  (s.rg .macStat (lp / 32) (lp % 32) &&& 0xFFFF0100) ||| flag 9 p.cfgErr ||| flag 7 (on && p.hiSer) |||
    flag 6 (on && p.remoteFault) ||| flag 5 (on && p.localFault) ||| flag 4 (on && p.amLock) ||| put 2 0 p.st.code

/-- R69: CAGE_STAT. -/
def State.cageStatW (s : State) (c : Nat) : Word :=
  let x := s.cage c
  (s.rg .cageStat (c / 8) (c % 8) &&& 0x1F00) ||| flag 6 x.btnSeen ||| flag 5 x.modInt ||| flag 4 x.prs |||
    put 3 0 (s.cageSt c).code

/-- R139: NEC_STAT. -/
def State.necStat (s : State) (c : Nat) : Word :=
  put 31 24 (s.busy c) ||| put 23 19 (s.healthy c) ||| flag 18 (s.unverified c) ||| flag 17 (s.clu c).spareUsed |||
    flag 16 (s.drainedClu c) ||| flag 15 (s.slot c 1).valid ||| flag 14 (s.slot c 0).valid |||
    flag 13 (s.eligible c false) ||| flag 12 (s.eligible c true) ||| flag 11 (s.clu c).slotErr

/-- R117: the committed slot table. -/
def Cluster.table (x : Cluster) : Word × Word := x.slotNew.getD x.slotTab

/-- R140: NEC_IMG_INFO. -/
def State.imgInfo (s : State) (c i : Nat) : Word :=
  let x := s.slot c i
  if x.valid then put 31 24 x.vifMajor ||| put 23 16 x.vifMinor ||| put 15 0 x.mask.toNat else 0

/-- R362: NEC_SENT_STAT. -/
def State.sentStat (s : State) (c : Nat) : Word :=
  let x := s.clu c
  put 31 27 x.sentinel ||| flag 26 x.checker ||| flag 25 x.rotating.isSome |||
    (s.activeEngines c).foldl (fun a e => a ||| flag e true) 0

/-- R172: EPC_STAT. -/
def State.epcStat (s : State) : Word :=
  let e := s.epc
  let own := match e.owner with
    | some r => reqNum r
    | none => 3
  put 31 29 e.st.code ||| flag 28 e.c ||| flag 27 e.s ||| put 26 25 own |||
    put 15 0 (if e.owner.isSome then e.token.toNat else 0)

/-- R318: DMA_STAT. -/
def State.dmaStat (s : State) (n : Nat) : Word :=
  let x := s.chan n
  put 31 29 x.st.code ||| flag 28 x.signaled ||| flag 27 x.ended ||| put 26 23 x.err ||| put 15 0 x.pc

/-- R336, R340: MIG_PROG. -/
def State.migProg (s : State) (c : Nat) : Nat :=
  let n := rankSize (s.rg .drcCfg)
  if ((s.dch c).st = .migrating || (s.dch c).st = .frozen) && 0 < n then min 1023 ((s.dch c).migPtr * 1024 / n) else 0

/-- R340: DRC_CHn_STAT. -/
def State.drcStat (s : State) (c : Nat) : Word :=
  let d := s.dch c
  put 31 28 d.st.code ||| flag 27 d.stateEvt ||| flag 26 d.ueEvt ||| flag 25 d.migDone ||| flag 24 d.cfgErr |||
    flag 23 d.spareUsed ||| put 21 20 d.retired ||| put 19 18 d.migRank ||| put 9 0 (s.migProg c)

/-- R341: the entry of a channel's command log that CLOG_IDX names. -/
def State.clog (s : State) (c : Nat) : Word × Word :=
  ((s.dch c).cmdlog[fld (s.rg .drcChClogIdx 0 c) 5 0]?).getD (0, 0)

/-- R323: TRAIN reads 1 until no enabled channel is in TRAINING. -/
def State.trainBusy (s : State) : Bool :=
  (List.range 4).any fun c => bit (s.rg .drcCfg) (24 + c) && (s.dch c).st = .training

/-- R373: PWR_DOMk. -/
def State.pwrDomW (s : State) (k : Nat) : Word :=
  let d := s.dmn k
  put 31 29 d.target.code ||| put 28 26 d.shade.code ||| flag 25 d.moving ||| flag 24 d.refused ||| flag 23 d.resetting

/-- The bits that a list of numbers names. -/
def bitsOf (l : List Nat) : Word := l.foldl (fun a i => a ||| flag i true) 0

/-- R350: the head record's words: TLO, THI, INFO and HEAD. -/
def State.histWord (s : State) (i : Nat) : Word :=
  match s.histRec with
  | some r => wAt [lo32 r.time, hi32 r.time, r.info, r.head] i
  | none => 0

/-! ### The current value of a register -/

/-- R2, R410: a register of an instance that the variant fuses off, or of the DBG_ block when FZ_DEBUG
is blown, reads zero and ignores writes. -/
def State.dead (s : State) (x : RegAt) : Bool :=
  (s.ident.variant = .hj4816c && ((x.blk = .nec && 48 ≤ x.k) ||
    (6 ≤ x.k && (x.blk = .pg || x.blk = .mac || x.blk = .sxl || x.blk = .cage || x.blk = .prs || x.blk = .asc)))) ||
  (x.blk = .dbg && s.fuses.debug)

/-- R9, R421: the value of a 64-bit counter, by its low word's register. -/
def State.ctrVal (s : State) (x : RegAt) : BitVec 64 :=
  tget (fun _ => 0) s.wide x.addr + BitVec.ofNat 64 (s.rxNew x.row.name x.k x.j)

/-- R9: the register one word further up. -/
def RegAt.above (x : RegAt) : Option RegAt := x.blk.at? (x.addr + 4)

/-- R9: the register one word further down. -/
def RegAt.below (x : RegAt) : Option RegAt := x.blk.at? (x.addr - 4)

/-- The stored value of a register: a word, half of a 64-bit counter, or a requester's private word. -/
def State.storedVal (s : State) (r : Req) (x : RegAt) : Word :=
  match x.row.kind with
  | .plain => tget heldReset s.held x.addr
  | .ctrLo => lo32 (s.ctrVal x)
  | .ctrHi => ((x.below.map fun y => hi32 (s.ctrVal y)).getD 0)
  | .priv => s.pv r x.addr

/-- R11: the current value of a register, as requester r sees it; it is the register's peek value. -/
def State.regVal (s : State) (r : Req) (x : RegAt) : Word :=
  let k := x.k
  let i := x.i
  let j := x.j
  let st := s.storedVal r x
  let q := s.idxOf r .bufQIdx 2592
  let sq := s.idxOf r .schQIdx 2592
  let m := s.idxOf r .bufMcapIdx 4096
  let sh := s.idxOf r .shpIdx 2816
  let po := s.idxOf r .polIdx 16640
  let bw (t : Tab Nat) (dir : Nat) : Word := put 20 0 (tget (fun _ => 0) t (2 * (s.pv r (regAddr .telBwIdx 0 0 0)).toNat + dir))
  if s.dead x then 0
  else
    match x.row.name with
    | .chipId => put 31 16 0x1F3B ||| put 15 0 s.ident.variant.device
    | .chipRev => put 31 24 s.ident.revision.toNat ||| put 23 16 s.ident.variant.code
    | .chipCap => put 31 24 s.ident.variant.tjMax ||| put 23 16 (satInt 8 s.ident.variant.tjMin) ||| bitsOf (List.range s.nGroups)
    | .chipStrap => flag 3 s.straps.testMode ||| flag 2 s.straps.chnTerm ||| flag 1 s.straps.refsel ||| flag 0 s.straps.pcieMode
    | .histTlo => s.histWord 0
    | .histThi => s.histWord 1
    | .histInfo => s.histWord 2
    | .histHead => s.histWord 3
    | .fltTest => st ||| flag 31 s.flt.testGo ||| put 30 29 s.flt.testRes
    | .fltPgh => if s.isActive (domPg j) then put 23 8 (lineRateSize (s.groupE j)) ||| put 7 0 (s.groupE j) else 0
    | .fltRetire => (tget (fun _ => (0 : BitVec 17)) s.flt.retired j).setWidth 32
    | .fltAge => (tget (fun _ => (0 : BitVec 16)) s.flt.drift j).setWidth 32
    | .pwrDom => s.pwrDomW j
    | .pwrReload => (bitsOf s.reload.replStale <<< 16) ||| (bitsOf s.reload.stale <<< 8) ||| bitsOf s.reload.go
    | .clkRefStat => s.refStat
    | .clkDom => s.clkDom j
    | .timeNowLo => wd s.time.now
    | .timeNowHi => wd (s.time.now / 2 ^ 32)
    | .timeErr => s.time.err
    | .fuseStat => s.fuseStat
    | .fuseSnLo => lo32 s.ident.serial
    | .fuseSnHi => hi32 s.ident.serial
    | .fuseAgeBase => (tget (fun _ => (0 : BitVec 16)) s.ident.ageBase j).setWidth 32
    | .pciHostCtl => flag 0 (s.hst k).present
    | .pciHostStat => put 31 28 (s.hst k).loss ||| put 23 20 (s.hst k).width ||| put 19 16 (s.hst k).speed ||| put 7 0 (s.hst k).losses
    | .intPend => ((s.levels k) >>> (32 * j)).setWidth 32
    | .rngCfg => (st &&& 0x0FFE7FFF) ||| flag 31 (s.ring k j).en ||| flag 30 (s.ring k j).err
    | .rngErr => st ||| flag 30 (s.anyRingErr k)
    | .rngStat => (s.ring k j).dev
    | .dmaCtl => flag 31 ((s.chan k).st = .running)
    | .dmaStat => s.dmaStat k
    | .dmaRun => (s.chan k).run
    | .tblGo => flag 31 ((s.cu.busy[i]?).getD false)
    | .tblImgCtl => st ||| flag 31 s.img.busy
    | .tblImgStat => put 31 29 s.img.state ||| put 28 24 s.img.status ||| put 18 0 s.img.bytes
    | .epcCur => s.epc.num
    | .epcStat => s.epcStat
    | .epcCfg => st ||| flag 31 (s.epc.forced && s.epc.st = .aborting)
    | .epcRoots => put 31 16 s.epc.rootA.toNat ||| put 15 0 s.epc.rootC.toNat
    | .epcSchema => put 7 4 s.epc.schemaA.toNat ||| put 3 0 s.epc.schemaC.toNat
    | .epcFlipLo => lo32 s.epc.flipTime
    | .epcFlipHi => hi32 s.epc.flipTime
    | .epcSeedC => s.epc.seedC
    | .epcSeedA => s.epc.seedA
    | .macStat => s.macStat (32 * k + j)
    | .sxlRxStat =>
      if s.laneDown k j then 0
      else if s.isActive (domSx k) then s.sense x.addr &&& 0xE0000FFF
      else if s.isLit (domSx k) then s.sense x.addr &&& 0x80000000 else 0
    | .sxlPrbsErr => BitVec.ofNat 32 (sat 32 (st.toNat + s.rxNew .sxlPrbsErr k j))
    | .cageXferCtl => st ||| flag 31 (s.bus k).go ||| flag 29 (s.bus k).err
    | .cageStat => s.cageStatW (8 * k + j)
    | .ascBank => put 31 30 (s.ascWidth j) ||| put 9 0 (s.ascValid j)
    | .necCtl => st ||| flag 31 (s.clu k).resetting
    | .necStat => s.necStat k
    | .necSlotClass => (s.clu k).table.1
    | .necSlotPolicy => (s.clu k).table.2
    | .necImgInfo => s.imgInfo k j
    | .necHoldMean => put 15 0 (s.clu k).holdMean
    | .necMcLog => s.mcHead k
    | .necSentStat => s.sentStat k
    | .bufCarveStat => flag 31 s.buf.carveErr ||| put 8 0 s.carvePending
    | .bufPoolStat => st ||| put 31 30 (s.poolState j).code ||| put 20 0 (s.poolFree j)
    | .bufDescFree => wd s.buf.descFree
    | .bufAgeCtl => st ||| flag 31 s.buf.forceStart ||| (bitsOf ((List.range 8).filter s.testing) <<< 22)
    | .bufQuadCtl => bitsOf s.buf.offline ||| (bitsOf ((List.range 4).filter s.drained) <<< 4)
    | .bufQCfg => ofIdx q fun q => tget (fun _ => 0x60000) s.sched.bufQ q
    | .bufQUse => ofIdx q fun q => put 20 0 (s.usedQ q)
    | .bufMcapCfg => ofIdx m fun m => tget (fun _ => 0xFFFF) s.sched.mcapCfg m
    | .bufMcapUse => ofIdx m fun m => put 20 0 (s.memberUse m)
    | .mcrListFree => wd s.tbl.listFree
    | .schQCfg => ofIdx sq fun q => tget (fun _ => 0x104) s.sched.qcfg q
    | .schQStat => ofIdx sq fun q => flag 31 (s.holdsGrant q) ||| put 19 0 (tget (fun _ => 0) s.sched.deficit q)
    | .shpCfgLo => ofIdx sh fun i => (s.shpB i).lo
    | .shpCfgHi => ofIdx sh fun i => (s.shpB i).hi
    | .shpTokens => ofIdx sh fun i => put 26 0 (satInt 27 ((s.shpB i).bytes s.mono))
    | .polCfgLo => ofIdx po fun p => (s.polB p).lo
    | .polCfgHi => ofIdx po fun p => (s.polB p).hi
    | .polTokens => ofIdx po fun p => put 25 0 ((s.polB p).bytes s.mono).toNat
    | .polDrops => ofIdx po fun p => wd (s.polB p).drops
    | .ledHeldC => put 20 0 (s.liveHeld false)
    | .ledHeldA => put 20 0 (s.liveHeld true)
    | .ledImbIntv => s.imbHead.intv
    | .ledImbDiff => s.imbHead.diff
    | .ledImbHead => s.imbHead.head
    | .telRgnWr => put 30 0 (s.rgnWr (j + 1))
    | .telBwIn => bw s.tel.bwLast 0
    | .telBwOut => bw s.tel.bwLast 1
    | .telBwPeakIn => bw s.tel.bwPeak 0
    | .telBwPeakOut => bw s.tel.bwPeak 1
    | .telHBin => ofIdx (s.idxOf r .telHIdx 2592) fun q => wd (tget (fun _ => 0) s.tel.bins (32 * q + j))
    | .drcCfg => st ||| flag 31 s.trainBusy
    | .drcChStat => s.drcStat j
    | .drcChEaddrLo => wd (s.dch j).eaddr
    | .drcChEaddrHi => put 7 0 ((s.dch j).eaddr / 2 ^ 32)
    | .drcChEinfo => (s.dch j).einfo
    | .drcChClogLo => (s.clog j).1
    | .drcChClogHi => (s.clog j).2
    | .chnStat => s.chnStat
    | .chnFrzStat => s.frzStat
    | .chnFrzTimeLo => lo32 s.frz.time
    | .chnFrzTimeHi => hi32 s.frz.time
    | .dbgCmd => s.dbgCmd r
    | .dbgStat => s.dbgStat r
    | .dbgThrIdx => s.pv r x.addr
    | .dbgThrD => match s.dbgThread r with
      | some t => s.thrWord t j
      | none => 0
    | _ => st

/-! ### An ordinary read (R9, R10) -/

/-- R9, R261: a high-word latch written. -/
def State.setLatch (s : State) (k : Nat) (v : Word) : State :=
  { s with latch := tset (fun _ => 0) s.latch k v }

/-- R10: what an ordinary read of a register by r does beside returning its value. -/
def State.readEffect (s : State) (r : Req) (x : RegAt) : State :=
  match x.row.name with
  | .histHead => s.histPop
  | .ledImbHead => s.imbPop
  | .necMcLog => s.mcPop x.k
  | .polDrops =>
    match s.idxOf r .polIdx 16640 with
    | some p => s.setPol p { s.polB p with drops := 0 }
    | none => s
  | .sxlRxStat => s.fresh.2
  | .clkDom => s.fresh.2
  | .clkRefStat => s.fresh.2
  | .sxlPrbsErr =>
    let t := s.rxStore (8 * x.k + x.j / 8)
    { t.fresh.2 with held := tset heldReset t.held x.addr 0 }
  | _ =>
    match x.row.kind with
    | .ctrLo =>
      let t := s.setLatch (reqNum r) ((x.above.map (s.regVal r)).getD 0)
      if s.rxRuns x.row.name x.k x.j then t.fresh.2 else t
    | .ctrHi => s
    | .priv => s
    | .plain =>
      if x.row.rc = 0 then s
      else { s with held := tset heldReset s.held x.addr (tget heldReset s.held x.addr &&& ~~~ x.row.rc) }

/-- R9-R11: a read of a register by r, as a peek or an ordinary read; while the device is frozen every
read acts as a peek (R395). -/
def State.readReg (s : State) (r : Req) (x : RegAt) (peek : Bool) : Word × State :=
  if peek || ! s.live || s.dead x then (s.regVal r x, s)
  else
    let v := if x.row.kind = .ctrHi then tget (fun _ => 0) s.latch (reqNum r) else s.regVal r x
    (v, s.readEffect r x)

/-! ### Where registers stand -/

/-- R369: the power domain of every register of a block's instance, where one gates them all. -/
def blkDom (b : Blk) (k : Nat) : Option Nat :=
  match b with
  | .tbl => some domTbl
  | .epc => some domTbl
  | .mcr => some domTbl
  | .led => some domTel
  | .tel => some domTel
  | .pmc => some domTel
  | .drc => some domDram
  | .pg => some (domPg k)
  | .mac => some (domPg k)
  | .sxl => some (domPg k)
  | .cage => some (domPg k)
  | .prs => some (domPg k)
  | .asc => some (domPg k)
  | .nec => some (domPg (k / 8))
  | _ => none

/-- R369, R375: the power domain of a register, where one gates it: a scheduler, shaper or policer entry
lies in the port group that it belongs to, and so do a policer unit's counters (R233). The words of POL_HOMEw, which
serve every group, and the indexes are gated by none, the model's choice (log entry 85). -/
def State.domOf (s : State) (r : Req) (x : RegAt) : Option Nat :=
  let q (o : Option Nat) : Option Nat := o.bind fun q => if q < 2560 then some (domPg (q / 320)) else none
  match x.blk with
  | .sch =>
    if x.row.name = .schPortCfg then some (domPg (x.j / 32))
    else if x.row.name = .schQIdx then none
    else q (s.idxOf r .schQIdx 2592)
  | .shp =>
    if x.row.name = .shpIdx then none
    else (s.idxOf r .shpIdx 2816).map fun i => if i < 2560 then domPg (i / 320) else domPg ((i - 2560) / 32)
  | .pol =>
    if x.row.name = .polBusyCnt || x.row.name = .polUnhomedCnt then some (domPg x.j)
    else if x.row.name = .polIdx || x.row.name = .polHome then none
    else (s.idxOf r .polIdx 16640).map fun p => domPg (if p < 16384 then s.home (p / 4) else (p - 16384) / 32)
  | _ => blkDom x.blk x.k

/-- R279: a word of an MSI-X table (0-511) or of the pending bits (512-515), with its host, in an INT_
bank. -/
def msixAt (a : Nat) : Option (Nat × Nat) :=
  let h := (a - 0x1040000) / 0x10000
  let o := (a - 0x1040000) % 0x10000
  if inRange 0x1040000 0x20000 a then
    if inRange 0x8000 0x800 o then some (h, (o - 0x8000) / 4)
    else if inRange 0x9000 0x10 o then some (h, 512 + (o - 0x9000) / 4)
    else none
  else none

/-- R278: a word of a host's MSI-X table or pending bits. -/
def State.msixRead (s : State) (h i : Nat) : Word :=
  if i < 512 then (s.hst h).msixW i else (((s.hst h).pba) >>> (32 * (i - 512))).setWidth 32

/-- R316, R411: the block and instance in which an address of register space lies: between the base of the
instance and its last register (log entry 26). -/
def blockAt (a : Nat) : Option (Blk × Nat) :=
  Blk.all.findSome? fun b => (List.range b.place.2.1).findSome? fun k =>
    if b.rows.any fun r => inRange (b.place.1 + k * b.place.2.2) (r.off + (r.mi - 1) * r.si + (r.mj - 1) * r.sj + 4) a
    then some (b, k) else none

/-- R277, R412: an access to an address that names no register, inside a block that a power domain holds, is an access
to that domain: a Pale one is woken, and one to a domain below Pale is counted. -/
def State.reachUnnamed (s : State) (r : Req) (a : Nat) (peek : Bool) : State :=
  match (blockAt a).bind fun b => blkDom b.1 b.2 with
  | some k => (s.reach r k peek).2
  | none => s

/-- R8-R12, R277, R412: a read of an internal address of register space by r. An address that names no
register reads zero. -/
def State.accRead (s : State) (r : Req) (a : Nat) (peek : Bool) : Word × State :=
  match msixAt a with
  | some (h, i) => (s.msixRead h i, s)
  | none =>
    match regAt a with
    | none => (0, s.reachUnnamed r a peek)
    | some x =>
      match s.domOf r x with
      | none => s.readReg r x peek
      | some k =>
        let t := s.reach r k peek
        if t.1 then t.2.readReg r x peek else (0, t.2)

end Sys2Proof.Machine
end

