-- ==== Sys2Proof/Machine/RegWrite.lean ====
section
/-! DEFINITION. What register writes do (R10): plain fields, the registers whose writes act, the staging
copies of 64-bit configuration registers and their commit (R12, R291), and the accesses of hosts
through their BARs and configuration space (R270-R280). -/

namespace Sys2Proof.Machine

open Sys2Proof

/-! ### Plain fields (R10) -/

/-- R10: a stored word after a write: RW fields take the value, a 1 clears an RW1C bit. -/
def RegRow.written (x : RegRow) (old v : Word) : Word := ((old &&& ~~~ x.rw) ||| (v &&& x.rw)) &&& ~~~ (v &&& x.w1c)

/-- R10: a write of a register whose fields act on nothing else. -/
def State.writePlain (s : State) (r : Req) (x : RegAt) (v : Word) : State :=
  match x.row.kind with
  | .plain => { s with held := tset heldReset s.held x.addr (x.row.written (tget heldReset s.held x.addr) v) }
  | .priv => s.setPv r x.addr (v &&& x.row.rw)
  | _ => s

/-- R284: a write to a cause register of a host's own source makes it rise where it leaves it active. -/
def State.reRiseOf (s : State) (h src : Nat) : State :=
  s.setHst h { s.hst h with lvl := (s.hst h).lvl &&& ~~~ BitVec.ofNat 96 (2 ^ src) }

/-! ### DMA channels (R318) -/

/-- R318: GO: the channel's program starts at index 0. Where its last MOVE ended stays (R314), and so do its
outstanding writes (R315). -/
def State.goDma (s : State) (n : Nat) : State :=
  let c := s.chan n
  if c.st = .running then s
  else
    let prog := addr64 (s.rg .dmaProgLo n) (s.rg .dmaProgHi n)
    let sbase := addr64 (s.rg .dmaSbaseLo n) (s.rg .dmaSbaseHi n)
    let s := s.setChan n { c with st := .running, err := 0, pc := 0, run := c.run + 1, prog := prog, sbase := sbase, ins := [], ctr := [], waitAt := none, waiting := false, barWait := false, moved := 0, rd := [] }
    s.readHost48 (s.chanOwner n) prog 256

/-- R318: ABORT: a running channel stops in ABORTED. -/
def State.abortDma (s : State) (n : Nat) : State :=
  let c := s.chan n
  if c.st = .running then s.setChan n { c with st := .aborted, ended := true, waitAt := none, waiting := false, barWait := false, rd := [] }
  else s

/-- R318: a write of DMA_CTL. -/
def State.writeDmaCtl (s : State) (n : Nat) (v : Word) : State :=
  if bit v 30 then s.abortDma n else if bit v 31 then s.goDma n else s

/-- R318: a write of DMA_STAT clears SIGNALED and ENDED. -/
def State.writeDmaStat (s : State) (n : Nat) (v : Word) : State :=
  let c := s.chan n
  let s := s.setChan n { c with signaled := c.signaled && ! bit v 28, ended := c.ended && ! bit v 27 }
  let h := s.chanOwner n
  s.reRiseOf h (44 + if s.straps.pcieMode then n % 8 else n)

/-! ### Other registers whose writes act -/

/-- R340: a write of DRC_CHn_STAT. -/
def State.writeDrcStat (s : State) (c : Nat) (v : Word) : State :=
  let d := s.dch c
  (s.setDch c { d with stateEvt := d.stateEvt && ! bit v 27, ueEvt := d.ueEvt && ! bit v 26, migDone := d.migDone && ! bit v 25 }).reRise 85

/-- R87: the station and neighbour tables hold no entry, so that their seed may be written. -/
def State.staEmpty (s : State) : Bool :=
  s.tbl.sta.all (fun e => ! staValid e.2) && s.tbl.nbr.all fun e => ! nbrValid e.2

/-- R404: a write of CHN_FRZ_CTL: ASSERT with its KEY originates a freeze. -/
def State.writeFrzCtl (s : State) (v : Word) : State :=
  let s := s.setRg .chnFrzCtl 0 0 (v &&& 0x40000000)
  if bit v 31 && fld v 7 0 = 0xF2 then s.freezeLatch 3 0 0 true else s

/-- R212, R237: a write of the entry that a requester's index names. -/
def State.setIdx (s : State) (o : Option Nat) (f : State → Nat → State) : State :=
  match o with
  | some q => f s q
  | none => s

/-- R275: who may write a window entry: its own host and the chain; host entry 0 of BAR0 is fixed. -/
def mayWindow (r : Req) (x : RegAt) : Bool := mayBank r x.i && ! (x.row.name = .winB0 && x.j = 0)

/-- R322: a write of TEL_RGNk_BASE moves region k there: one that has moved to its standby base leaves it, and its
write offset restarts (log entry 73). -/
def State.placeRgn (s : State) (k : Nat) : State :=
  if s.tel.moved.contains k then
    { s with tel := { s.tel with moved := s.tel.moved.filter (· != k), wr := tset (fun _ => 0) s.tel.wr k 0 } }
  else s

/-- The device's command for a bank's requester (R198). -/
def bankReq (i : Nat) : Req := if i = 0 then .host0 else if i = 1 then .host1 else .chain

/-! ### A write of a register (R10) -/

/-- R10: a write of a register by requester r. -/
def State.writeReg (s : State) (r : Req) (x : RegAt) (v : Word) : State :=
  let k := x.k
  let j := x.j
  let plain := s.writePlain r x v
  if s.dead x then s
  else
    match x.row.name with
    | .chipCtl => s.writeChipCtl v
    | .fltStatus3 => s.writeStatus3 v
    | .fltCfg => { plain with flt := { plain.flt with blue := [], winStart := plain.now } }
    | .fltTest => s.writeTest v
    | .fltRetire => if j < s.nClusters then s.writeRetire j v else s
    | .pwrDom => s.writeDom j v
    | .pwrReload => s.writeReload v
    | .timeCtl => s.writeTimeCtl v
    | .timeSetSec => s.setSec v
    | .winB0 => if mayWindow r x then plain else s
    | .winB4 => if mayWindow r x then plain else s
    | .pciHostCtl => if mayBank r k then s.writeHostCtl k v else s
    | .pciPmCfg => if mayBank r k then s.writePmCfg k v else s
    | .pciUsrEn => if mayBank r k then plain else s
    | .intMap => if mayBank r k then plain else s
    | .rngCtl => if mayBank r k then plain else s
    | .rngDbLo => if mayBank r k && s.ringsOff k then plain else s
    | .rngDbHi => if mayBank r k && s.ringsOff k then plain else s
    | .rngWbLo => if mayBank r k && s.ringsOff k then plain else s
    | .rngWbHi => if mayBank r k && s.ringsOff k then plain else s
    | .rngNudge => if mayBank r k && s.live then s.nudge k else s
    | .rngErr => if mayBank r k then (plain.reRiseOf k 60).reRiseOf k 61 else s
    | .rngCfg => if mayBank r k then s.writeRngCfg k j v none else s
    | .rngBaseLo => if mayBank r k then plain else s
    | .rngBaseHi => if mayBank r k then plain else s
    | .dmaCtl => if s.mayChan r k && s.live then s.writeDmaCtl k v else s
    | .dmaStat => if s.mayChan r k then s.writeDmaStat k v else s
    | .dmaProgLo => if s.mayChan r k then plain else s
    | .dmaProgHi => if s.mayChan r k then plain else s
    | .dmaSbaseLo => if s.mayChan r k then plain else s
    | .dmaSbaseHi => if s.mayChan r k then plain else s
    | .tblGo => s.submit (bankReq x.i) v
    | .tblStaSeed => if s.staEmpty then plain else s
    | .tblImgCtl => s.writeImgCtl v
    | .tblImgData => if s.img.busy && ! s.img.crcOk then s.imgData v else s
    | .tblImgStat => s.reRise 81
    | .epcCfg => s.writeEpcCfg v
    | .pgPortCfg => s.writePortCfg k j v
    | .macCtl => s.writeMacCtl (32 * k + j) v
    | .macStat => plain.reRise (64 + k)
    | .cageBusCfg => s.writeBusCfg k v
    | .cageExpCfg => if bit (s.rg .cageBusCfg k) 24 then s else plain
    | .cageXferCtl => s.writeXfer k v
    | .cageCmd => s.cageCmd (8 * k + j) (fld v 3 0)
    | .cageStat => plain.reRise (72 + k)
    | .necCtl => s.writeNecCtl k v
    | .necSlotClass => s.setPv r x.addr v
    | .necSlotPolicy => s.setPv r x.addr v
    | .necSentCfg => s.writeSentCfg k v none
    | .bufCarveLo => s.setPv r x.addr v
    | .bufCarveHi => s.setPv r x.addr v
    | .bufPoolRsv => plain.poolSteps
    | .bufPoolThr => plain.poolSteps
    | .bufPoolStat => plain.reRise 80
    | .bufQuadCtl => s.writeQuad v
    | .bufQCfg => s.setIdx (s.idxOf r .bufQIdx 2592) fun s q =>
        { s with sched := { s.sched with bufQ := tset (fun _ => 0x60000) s.sched.bufQ q (v &&& 0xFFFFF) } }
    | .bufMcapCfg => s.setIdx (s.idxOf r .bufMcapIdx 4096) fun s m =>
        { s with sched := { s.sched with mcapCfg := tset (fun _ => 0xFFFF) s.sched.mcapCfg m (v &&& 0xFFFF) } }
    | .schQCfg => s.setIdx (s.idxOf r .schQIdx 2592) fun s q =>
        { s with sched := { s.sched with qcfg := tset (fun _ => 0x104) s.sched.qcfg q (v &&& 0x1FF) } }
    | .shpCfgLo => s.setIdx (s.idxOf r .shpIdx 2816) fun s _ => s.setPv r x.addr v
    | .shpCfgHi => s.setIdx (s.idxOf r .shpIdx 2816) fun s _ => s.setPv r x.addr v
    | .polCfgLo => s.setIdx (s.idxOf r .polIdx 16640) fun s _ => s.setPv r x.addr v
    | .polCfgHi => s.setIdx (s.idxOf r .polIdx 16640) fun s _ => s.setPv r x.addr v
    | .telBwClr => s.bwClr r v
    | .telCapCfg => s.settleCap.writePlain r x v
    | .pmcClrLo => s.pmcClr false v
    | .pmcClrHi => s.pmcClr true v
    | .telRgnBase => plain.placeRgn (j + 1)
    | .drcCfg => s.writeDrcCfg v
    | .drcChCtl => s.writeDrcCh j v
    | .drcChStat => s.writeDrcStat j v
    | .chnFrzCtl => s.writeFrzCtl v
    | .dbgCmd => s.writeDbg r v
    | .dbgThrIdx => s.setPv r x.addr (v &&& x.row.rw)
    | .dbgThrD => s.writeThrWord r j v
    | _ => plain

/-- R278: a write of a word of a host's MSI-X table; pending bits are read-only. -/
def State.msixWrite (s : State) (h i : Nat) (v : Word) : State :=
  if i < 512 then
    let v := if i % 4 = 3 then v &&& 1 else if i % 4 = 0 then v &&& 0xFFFFFFFC else v
    s.setHst h { s.hst h with msix := tset msixReset (s.hst h).msix i v }
  else s

/-! ### Commit of a 64-bit configuration register (R12, R291) -/

/-- R117, R119: a commit of a cluster's slot table: refused where it leaves a class without a slot. -/
def State.commitSlots (s : State) (c : Nat) (cls pol : Word) : State :=
  let ok := (List.range 4).all fun k => (List.range 16).any fun j => fld cls (2 * j + 1) (2 * j) == k
  let x := s.clu c
  s.setClu c (if ok then { x with slotNew := some (cls, pol), slotErr := false } else { x with slotErr := true })

/-- R200-R202: a commit of the carve: refused where the counts sum to more than 256. -/
def State.commitCarve (s : State) (lo hi : Word) : State :=
  let n := [fld lo 8 0, fld lo 24 16, fld hi 8 0, fld hi 24 16]
  if 256 < n.foldl (· + ·) 0 then { s with buf := { s.buf with carveErr := true } }
  else
    let s := (s.setRg .bufCarveLo 0 0 (lo &&& 0x01FF01FF)).setRg .bufCarveHi 0 0 (hi &&& 0x01FF01FF)
    ({ s with buf := { s.buf with carveErr := false } } : State).carve n

/-- R235, R241: a bucket after a commit of its settings. -/
def Bucket.commit (b : Bucket) (now : Nat) (lo hi : Word) (overhead : Nat) : Bucket :=
  let new : Bucket := { en := bit lo 31, rate := fld lo 27 0, burst := fld hi 19 0, overhead := overhead, mode := fld hi 31 30, at_ := now, drops := b.drops }
  let tok : Int :=
    if ! new.en then 0
    else if new.mode = 1 then new.limit
    else if new.mode = 2 then 0
    else if ! b.en then new.limit
    else min (b.tokens now) new.limit
  { new with tok := tok }

/-- R291: the requester's staging copy of a 64-bit register, low word and high word. -/
def State.staged (s : State) (r : Req) (a : Nat) : Word × Word := (s.pv r a, s.pv r (a + 4))

/-- R291: a CHIP_COMMIT that names no 64-bit configuration register. -/
def State.commitNone (s : State) (r : Req) (a : Nat) : State :=
  match r with
  | .host0 => s.raise { src := 8, cls := .blue, code := 0x11, info := wd a }
  | .host1 => s.raise { src := 9, cls := .blue, code := 0x11, info := wd a }
  | .chain => s

/-- R12, R291: a write of CHIP_COMMIT by r. -/
def State.commitReg (s : State) (r : Req) (v : Word) : State :=
  let a := (v &&& 0xFFFFFFFC).toNat
  let w := s.staged r a
  match regAt a with
  | none => s.commitNone r a
  | some x =>
    match x.row.name with
    | .necSlotClass => if s.dead x then s else s.access r (domPg (x.k / 8)) fun s => s.commitSlots x.k w.1 w.2
    | .bufCarveLo => s.commitCarve w.1 w.2
    | .polCfgLo =>
      match s.domOf r x with
      | some k => s.access r k fun s => s.setIdx (s.idxOf r .polIdx 16640) fun s p =>
          s.setPol p ((s.polB p).commit s.mono w.1 w.2 (fld w.2 29 25))
      | none => s
    | .shpCfgLo =>
      match s.domOf r x with
      | some k => s.access r k fun s => s.setIdx (s.idxOf r .shpIdx 2816) fun s i =>
          s.setShp i ((s.shpB i).commit s.mono w.1 w.2 0)
      | none => s
    | _ => s.commitNone r a

/-! ### Access by internal address -/

/-- R10, R277, R279, R412: a write of an internal address of register space by r; an address that names
no register ignores it, once its block's domain has been reached. -/
def State.accWrite (s : State) (r : Req) (a : Nat) (v : Word) : State :=
  match msixAt a with
  | some (h, i) => if mayBank r h then s.msixWrite h i v else s
  | none =>
    match regAt a with
    | none => s.reachUnnamed r a false
    | some x =>
      if x.row.name = .chipCommit then s.commitReg r v
      else
        match s.domOf r x with
        | none => s.writeReg r x v
        | some k => s.access r k fun s => s.writeReg r x v

/-- R8: a host's access of another size or alignment is logged. -/
def State.hostAccess (s : State) (h a : Nat) : State := s.raise { src := 8 + h, cls := .blue, code := 0x11, info := wd a }

/-- R277: an access to a disabled window. -/
def State.unmapped (s : State) (h : Nat) : State := s.bump .pciUnmapped h 0

/-! ### BAR0 (R275-R278) -/

/-- R275: where a BAR0 offset leads: the internal address, and whether the window is a peek window. -/
def State.window (s : State) (h off : Nat) : Option (Nat × Bool) :=
  let w := s.rg .winB0 0 (off / 2 ^ 20) h
  if bit w 31 && fld w 19 0 < 0x1000 then some (fld w 19 0 * 2 ^ 20 + off % 2 ^ 20, bit w 30) else none

/-- R278: the word of the accessing function's own MSI-X table or pending bits at a BAR0 offset. -/
def msixBar (off : Nat) : Option Nat :=
  if inRange 0xF0000 0x800 off then some ((off - 0xF0000) / 4)
  else if inRange 0xF8000 0x10 off then some (512 + (off - 0xF8000) / 4)
  else none

/-- R275-R278, R8: a read of BAR0 by host h. -/
def State.bar0Read (s : State) (h off : Nat) : Word × State :=
  match msixBar off with
  | some i => if off % 4 = 0 then (s.msixRead h i, s) else (0, s.hostAccess h off)
  | none =>
    match s.window h off with
    | none => (0, s.unmapped h)
    | some (a, peek) => if a % 4 = 0 then s.accRead (hostReq h) a peek else (0, s.hostAccess h a)

/-- R275-R278, R8: a write of BAR0 by host h; a peek window discards it. -/
def State.bar0Write (s : State) (h off : Nat) (v : Word) : State :=
  match msixBar off with
  | some i => if off % 4 = 0 then s.msixWrite h i v else s.hostAccess h off
  | none =>
    match s.window h off with
    | none => s.unmapped h
    | some (a, peek) =>
      if a % 4 ≠ 0 then s.hostAccess h a
      else if peek then s
      else s.accWrite (hostReq h) a v

/-! ### BAR2: the user page (R261) -/

/-- R261: a host may read a counter through BAR2. -/
def State.userMay (s : State) (h n : Nat) : Bool :=
  bit (s.rg .pciUsrEn h) 0 && bit (s.rg .pmcUsrPerm 0 (2 * h + n / 16 / 32)) (n / 16 % 32)

/-- R261, R8: a read of BAR2 by host h. An access of another alignment is logged with its BAR2 offset, the only
address it has (log entry 73). -/
def State.bar2Read (s : State) (h off : Nat) : Word × State :=
  let n := off / 8
  if off % 4 ≠ 0 then (0, s.hostAccess h off)
  else if n < 1024 && s.userMay h n then
    let t := s.reach (hostReq h) domTel
    if t.1 then
      let v := t.2.ctr .pmcCntLo 0 n
      if off % 8 = 0 then (lo32 v, t.2.setLatch (3 + h) (hi32 v)) else (tget (fun _ => 0) t.2.latch (3 + h), t.2)
    else (0, t.2)
  else (0, s)

/-! ### Configuration space (R271, R272) -/

/-- R271: the word of the subsystem vendor and subsystem IDs. -/
def State.subsysWord (s : State) (h : Nat) : Word :=
  (s.hst h).subsys.getD (put 31 16 s.ident.variant.device ||| put 15 0 0x1F3B)

/-- R272: the words of the capability structures whose values neither the spec nor log entry 25 gives. -/
def cfgOpen (off : Nat) : Bool :=
  (0x15C ≤ off && off < 0x178) || (0x17C ≤ off && off < 0x1A0) || (0x1A4 ≤ off && off < 0x1C8) ||
    (0x1CC ≤ off && off < 0x1F0) || off = 0x208

/-- R286: the Link Capabilities word: the highest rate and width, ASPM L0s and L1, and their exit latencies. -/
def State.linkCap (s : State) : Word :=
  put 3 0 5 ||| put 9 4 (if s.straps.pcieMode then 4 else 8) ||| put 11 10 3 ||| put 14 12 3 ||| put 17 15 3 ||| flag 18 true ||| flag 22 true

/-- R271, R272: a word of configuration space: the bits that the device gives, and the bits that the
host writes. Offsets and field places are those of the PCI Express Base Specification (log entry 25). The
structures of R272 are chained in its order; there is nothing beside them. -/
def State.cfgRow (s : State) (h off : Nat) : Word × Word :=
  let f := s.hst h
  match off with
  | 0x00 => (put 31 16 s.ident.variant.device ||| put 15 0 0x1F3B, 0)
  | 0x04 => (flag 20 true ||| flag 19 f.intx, 0x546)
  | 0x08 => (0x02800000 ||| put 7 0 s.ident.revision.toNat, 0)
  | 0x0C => (0, 0xFF)
  | 0x10 => (4, 0xFC000000)
  | 0x14 => (0, 0xFFFFFFFF)
  | 0x18 => (4, 0xFFF00000)
  | 0x1C => (0, 0xFFFFFFFF)
  | 0x20 => (0xC, 0)
  | 0x24 => (0, 0xFFFFFFFF)
  | 0x2C => (s.subsysWord h, 0)
  | 0x34 => (0x40, 0)
  | 0x3C => (0x100, 0xFF)
  | 0x40 => (0x00035001, 0)
  | 0x44 => (0, 3)
  | 0x50 => (0x00029010, 0)
  | 0x54 => (0x10008022 ||| (Config.freeWord (2 ^ 50 + 4096 * h + off) &&& 0xFC0), 0)
  | 0x58 => (0, 0x7FFF)
  | 0x5C => (s.linkCap, 0)
  | 0x60 => (put 19 16 f.speed ||| put 25 20 f.width, 0x1FF)
  | 0x74 => (0x0003081F, 0)
  | 0x78 => (0, 0xFFFF)
  | 0x7C => (0x3E, 0)
  | 0x80 => (0, 0xFFFF)
  | 0x90 => (0x007F0011, 0xC0000000)
  | 0x94 => (0x000F0000, 0)
  | 0x98 => (0x000F8000, 0)
  | 0x100 => (0x14820001, 0)
  | 0x108 => (0, 0x07FFFFF0)
  | 0x10C => (0, 0x07FFFFF0)
  | 0x114 => (0, 0xF1C1)
  | 0x118 => (0xA0, 0x140)
  | 0x148 => (0x15810003, 0)
  | 0x14C => (lo32 s.ident.serial, 0)
  | 0x150 => (hi32 s.ident.serial, 0)
  | 0x158 => (0x17810019, 0)
  | 0x178 => (0x1A010026, 0)
  | 0x1A0 => (0x1C81002A, 0)
  | 0x1C8 => (0x1F010027, 0)
  | 0x1F0 => (0x2001001E, 0)
  | 0x1F4 => (0x00290A1F, 0)
  | 0x1F8 => (0, 0xFFFFFFFF)
  | 0x1FC => (0, 0xFF)
  | 0x200 => (0x20C10025, 0)
  | 0x204 => (0x80000001, 0)
  | 0x20C => (0x00010018, 0)
  | 0x210 => (0, 0x1FFF1FFF)
  | _ => (if cfgOpen off then Config.freeWord (2 ^ 50 + 4096 * h + off) else 0, 0)

/-- R271, R272: a word of configuration space. -/
def State.cfgRead (s : State) (h off : Nat) : Word :=
  (s.cfgRow h off).1 ||| ((s.hst h).cfgW off &&& (s.cfgRow h off).2)

/-- R272: the bits of a configuration word that a write may change; D1 and D2 are no power states of the device, and a
write that names one leaves PowerState as it is (log entry 25). -/
def State.cfgMask (s : State) (h off : Nat) (v : Word) : Word :=
  if off = 0x44 && (fld v 1 0 = 1 || fld v 1 0 = 2) then 0 else (s.cfgRow h off).2

/-- R272, R288: a write of a word of configuration space. Clearing Bus Master Enable, a move to D3hot and
an FLR lose the host; enabling LTR sends a message (R286). -/
def State.cfgWrite (s : State) (h off : Nat) (v : Word) : State :=
  let f := s.hst h
  let w := (v &&& s.cfgMask h off v) ||| (f.cfgW off &&& ~~~ (s.cfgMask h off v))
  let t := s.setHst h { f with cfg := tset cfgReset f.cfg off w }
  if off = 0x04 && f.bme && ! bit w 2 then t.loseHost h 5 false
  else if off = 0x44 && fld v 1 0 = 3 then t.loseHost h 5 false
  else if off = 0x58 && bit v 15 then t.loseHost h 3 false
  else if off = 0x78 && bit w 10 && ! f.ltrOn then t.sendLtr h
  else t

/-- R271: the chain writes the subsystem word of a host's header, which takes it until PERSTh_N is released. -/
def State.setSubsys (s : State) (h : Nat) (v : Word) : State :=
  if (s.hst h).perst then s.setHst h { s.hst h with subsys := some v } else s

/-! ### BAR4 (R280, R425) -/

/-- R425: the copy tables in table memory space: base of the Cobalt copy, base of the Amber copy, stride. -/
def cpPlace : List (Nat × Nat × Nat × Nat) :=
  [(4, 0x106000000, 0x106010000, 256), (5, 0x106020000, 0x106030000, 4), (6, 0x106040000, 0x106048000, 64),
   (7, 0x106080000, 0x106100000, 128), (8, 0x106180000, 0x106180400, 4), (9, 0x106180800, 0x106180C00, 4)]

/-- R425: the word of a copy table at an address of table memory space. -/
def State.cpMemWord (s : State) (a : Nat) : Option Word :=
  cpPlace.findSome? fun p =>
    let one (base : Nat) (par : Bool) : Option Word :=
      if inRange base (cpSize p.1 * p.2.2.2) a then
        some (wAt (s.cpMaster p.1 par ((a - base) / p.2.2.2)) ((a - base) % p.2.2.2 / 4))
      else none
    (one p.2.1 false).orElse fun _ => one p.2.2.1 true

/-- R425: the word at an address of table memory space. -/
def State.tableWord (s : State) (a : Nat) : Word :=
  let w := a % 16 / 4
  if inRange 0x100000000 0x4000000 a then
    let k := (a - 0x100000000) / 0x1000000
    let o := (a - 0x100000000) % 0x1000000
    if o < 0x800000 then wAt (tget (fun _ => []) s.tbl.staR (k * 2 ^ 20 + o / 16)) w
    else if o < 0x840000 then wAt (tget (fun _ => []) s.tbl.staR (k * 2 ^ 20 + 524288 + (o - 0x800000) / 16)) w
    else 0
  else if inRange 0x104000000 0x800000 a then
    let o := a - 0x104000000
    nbrUnitWord s.tbl.nbrR (o / 0x200000 * 2 ^ 18 + o % 0x200000 / 16) w
  else if inRange 0x104800000 0x80000 a then
    let o := a - 0x104800000
    wAt (s.asc (o / 128)).words (o % 128 / 4)
  else if inRange 0x105000000 0x180000 a then
    let o := a - 0x105000000
    wAt (tget (fun _ => []) s.tbl.tree (o / 32)) (o % 32 / 4)
  else (s.cpMemWord a).getD 0

/-- R369, R425: the domain that holds an address of table memory space: a replica takes the higher shade
of its two port groups. -/
def State.tableDom (s : State) (a : Nat) : Nat :=
  let rep (k : Nat) : Nat :=
    let x := domPg (2 * k)
    let y := domPg (2 * k + 1)
    if (s.dmn y).shade.code < (s.dmn x).shade.code then y else x
  if inRange 0x100000000 0x4000000 a then rep ((a - 0x100000000) / 0x1000000)
  else if inRange 0x104000000 0x800000 a then rep ((a - 0x104000000) / 0x200000)
  else domTbl

/-- R280: where a BAR4 offset leads. -/
def State.window4 (s : State) (h off : Nat) : Option Nat :=
  let w := s.rg .winB4 0 (off / 2 ^ 28) h
  if bit w 31 && 0x10 ≤ fld w 11 0 then some (fld w 11 0 * 2 ^ 28 + off % 2 ^ 28) else none

/-- R425: the byte at an address of table memory space. -/
def State.tableByte (s : State) (a : Nat) : Byte := bAt (leBytes (s.tableWord (a / 4 * 4))) (a % 4)

/-- R280: the name of a host's function as a user of DRAM. -/
def hostUser (h : Nat) : DramUser := .host (if h = 0 then 0 else 1)

/-- R277, R280, R274: a host's access of `len` bytes through BAR4; a write carries its bytes. What lies beyond the
window counts as an access to a disabled window. A DRAM access is queued at its channel, whose service
answers a read. -/
def State.bar4 (s : State) (h off len : Nat) (write : Option (List Byte)) : State :=
  let n := min len (2 ^ 28 - off % 2 ^ 28)
  let give (t : State) (b : List Byte) : State := if write.isSome then t else t.cplPut h { data := b ++ zeros (len - b.length) }
  match s.window4 h off with
  | none => give (s.unmapped h) []
  | some a =>
    let s := if n < len then s.unmapped h else s
    if a < dramBase then
      if write.isSome then s.unmapped h
      else
        let t := s.reach (hostReq h) (s.tableDom a)
        give t.2 (if t.1 then (List.range n).map fun i => t.2.tableByte (a + i) else [])
    else
      let t := s.reach (hostReq h) domDram
      if t.1 && t.2.inService a && s.live then
        match write with
        | some b => t.2.dramWrite (hostUser h) a (b.take n)
        | none =>
          let need := (List.range (splitReq (n + 1) a n).length).map (t.2.dram.nextRd + ·)
          (t.2.cplPut h { need := need, addr := a, data := zeros len }).dramRead (hostUser h) a n
      else give (if t.1 then t.2.sleepAcc (hostReq h) else t.2) []

/-! ### The paths of a register access -/

/-- A host's request reaches the device: its link is up and the clocks run (R403). -/
def State.hostServes (s : State) (h : Nat) : Bool := s.regOn && s.hostIn h && (s.hst h).linkUp

/-- The condition under which an access along a path reaches the device. -/
def State.pathOk (s : State) (p : Path) : Bool :=
  match p with
  | .bar0 h off => s.hostServes h && off < 2 ^ 26
  | .config h off => s.hostServes h && off < 4096
  | .internal _ a => s.regOn && a < 2 ^ 32
  | .bar2 h off => s.hostServes h && off < 2 ^ 20
  | .subsystem h => s.regOn && s.hostIn h

/-- R271, R273, R281: a host's request that the function does not claim: a read receives an Unsupported Request
completion, in its order. -/
def State.unclaimed (s : State) (h : Nat) (read : Bool) : State :=
  if read then s.cplPut h { unsup := true } else s

/-- R271: a host's memory request (`read`: one that is to be answered): while Memory Space Enable is 0, no BAR
claims it (log entry 25). -/
def State.bar (s : State) (h : Nat) (read : Bool) (f : State → State) : State :=
  if (s.hst h).mse then f (s.tlp h) else (s.tlp h).unclaimed h read

/-- A read along a path; the word is an output. -/
def State.readPath (s : State) (p : Path) : State :=
  match p with
  | .bar0 h off => s.bar h true fun s => (s.bar0Read h off).2.hostWordOut h (s.bar0Read h off).1
  | .config h off => (s.tlp h).hostWordOut h ((s.tlp h).cfgRead h (off / 4 * 4))
  | .internal r a =>
    if a % 4 = 0 then
      let t := s.accRead r a false
      t.2.emit (.readData r t.1)
    else match r with
      | .host0 => (s.hostAccess 0 a).emit (.readData r 0)
      | .host1 => (s.hostAccess 1 a).emit (.readData r 0)
      | .chain => s
  | .bar2 h off => s.bar h true fun s => (s.bar2Read h off).2.hostWordOut h (s.bar2Read h off).1
  | .subsystem h => s.emit (.readData .chain (s.subsysWord h))

/-- A write along a path. -/
def State.writePath (s : State) (p : Path) (v : Word) : State :=
  match p with
  | .bar0 h off => s.bar h false fun s => s.bar0Write h off v
  | .config h off => (s.tlp h).cfgWrite h (off / 4 * 4) v
  | .internal r a =>
    if a % 4 = 0 then s.accWrite r a v
    else match r with
      | .host0 => s.hostAccess 0 a
      | .host1 => s.hostAccess 1 a
      | .chain => s
  | .bar2 h off => s.bar h false fun s => if off % 4 = 0 then s else s.hostAccess h off
  | .subsystem h => s.setSubsys h v

/-! ### Meanings -/

/-- REGISTER_WRITE (R10): a write of a register along a path. -/
def execRegisterWrite (p : Path) (v : Word) (s : State) : Host.Outcome State Fault Refusal :=
  act (s.pathOk p) (fun s => s.writePath p v) s

/-- COUNTER_READ_CLEAR (R10): an ordinary read of a register along a path. -/
def execCounterReadClear (p : Path) (s : State) : Host.Outcome State Fault Refusal :=
  act (s.pathOk p) (fun s => s.readPath p) s

/-- LOW_WORD_LATCH (R9, R261): an ordinary read of a register along a path. -/
def execLowWordLatch (p : Path) (s : State) : Host.Outcome State Fault Refusal :=
  act (s.pathOk p) (fun s => s.readPath p) s

/-- MISALIGNED_ACCESS (R8): it completes, reads zero, writes nothing and is logged. -/
def execMisalignedAccess (h : Fin 2) (addr : Nat) (write : Bool) (s : State) : Host.Outcome State Fault Refusal :=
  act (s.hostServes h) (fun s => s.bar h (! write) fun s =>
    if write then s.hostAccess h addr else (s.hostAccess h addr).hostWordOut h 0) s

/-- UNSUPPORTED_REQUEST (R273): an I/O request, a locked read or an atomic operation. -/
def execUnsupportedRequest (h : Fin 2) (_kind : BadTlp) (s : State) : Host.Outcome State Fault Refusal :=
  act (s.hostServes h) (fun s => (s.tlp h).unclaimed h true) s

/-- BAR4_ACCESS (R274, R277, R280): a read of `len` bytes, or a write of as many. -/
def execBar4Access (h : Fin 2) (off len : Nat) (write : Option (List Byte)) (s : State) : Host.Outcome State Fault Refusal :=
  act (s.hostServes h && off < 2 ^ 32) (fun s => s.bar h write.isNone fun s => s.bar4 h off len write) s

/-- CHIP_COMMIT (R12, R291). -/
def execChipCommit (r : Req) (v : Word) (s : State) : Host.Outcome State Fault Refusal :=
  act s.regOn (fun s => s.commitReg r v) s

/-- DMA_GO (R318): a write of DMA_CTL with GO. -/
def execDmaGo (r : Req) (ch : Fin 16) (v : Word) (s : State) : Host.Outcome State Fault Refusal :=
  act (s.live && s.mayChan r ch) (fun s => s.writeDmaCtl ch ((v &&& 0xBFFFFFFF) ||| flag 31 true)) s

/-- DMA_ABORT (R318): a write of DMA_CTL with ABORT. -/
def execDmaAbort (r : Req) (ch : Fin 16) (v : Word) (s : State) : Host.Outcome State Fault Refusal :=
  act (s.live && s.mayChan r ch) (fun s => s.writeDmaCtl ch (v ||| flag 30 true)) s

end Sys2Proof.Machine
end

