-- ==== Sys2Proof/Machine/Dma.lean ====
section
/-! DEFINITION. The DMA channels' programs (R312-R317). -/

namespace Sys2Proof.Machine

open Sys2Proof

/-! ### Instructions (R313) -/

/-- R313: the operation of an instruction. -/
def insOp (w : List Word) : Nat := fld (wAt w 0) 31 28

/-- R313, R314: an illegal instruction, at an index. -/
def insBad (w : List Word) (pc : Nat) : Bool :=
  let w0 := wAt w 0
  match insOp w with
  | 1 => fld w0 25 24 = 3 || fld w0 23 22 = 3
  | 2 => pc ≤ fld w0 15 0
  | 3 => false
  | 4 => false
  | 5 => false
  | 6 => false
  | 7 => false
  | _ => true

/-- R313: an address is 48 bits of host memory, or 40 of internal space, and goes round at its end (log entry
74). -/
def spAddr (sp a : Nat) : Nat := if sp = 0 then a % 2 ^ 48 else a % 2 ^ 40

/-- R313: the address that the fields of an instruction give. -/
def insAddr (sp lo hi : Nat) : Nat := spAddr sp (lo + hi * 2 ^ 32)

/-- R317: a channel stops in STOPPED. -/
def State.stopChan (s : State) (n err : Nat) : State :=
  s.setChan n { s.chan n with st := .stopped, ended := true, err := err, waiting := false, waitAt := none, barWait := false, rd := [] }

/-- R312: a read of up to 16 instructions from the channel's program. -/
def State.fetchProg (s : State) (n : Nat) : State :=
  let c := s.chan n
  s.readHost48 (s.chanOwner n) (c.prog + 16 * c.pc) 256

/-- R312, R317: the instruction at PC comes up: one not fetched is read, an illegal one stops the
channel. -/
def State.nextIns (s : State) (n : Nat) : State :=
  let c := s.chan n
  if c.instr = [] then s.fetchProg n
  else if insBad c.instr c.pc then s.stopChan n 1
  else s

/-- PC moves to an index, and the instruction there comes up. -/
def State.goIns (s : State) (n pc : Nat) : State := (s.setChan n { s.chan n with pc := pc % 2 ^ 16 }).nextIns n

/-- R317: the status word of the instruction that has finished, and the count of those that failed. -/
def State.insStatus (s : State) (n moved err : Nat) : State :=
  let c := s.chan n
  let s := if err = 0 then s else s.bump .dmaBad n 0
  if c.sbase = 0 then s
  else s.toHost48 (s.chanOwner n) (c.sbase + 8 * c.pc) (wordBytes [flag 31 true ||| flag 30 (err ≠ 0) ||| put 29 26 err ||| put 21 0 moved, c.run])

/-- R317: an instruction finishes, and the channel goes on with the next. -/
def State.insDone (s : State) (n moved err : Nat) : State :=
  let s := s.insStatus n moved err
  let s := s.setChan n { s.chan n with waiting := false, waitAt := none, barWait := false, moved := 0, rd := [] }
  s.goIns n ((s.chan n).pc + 1)

/-- R315: a zero-length read of the last host address written is to confirm the writes to host memory before
it; while one is under way, the next waits for it. -/
def State.confirm (s : State) (n : Nat) : State :=
  let c := s.chan n
  if c.hostOut && ! c.flush then
    (s.setChan n { c with hostOut := false, flush := true }).readHost (s.chanOwner n) c.hostEnd 0
  else s

/-- R315: writes of a channel are outstanding in a space (0 host memory, 1 internal, 2 either): in internal space,
or in host memory without a flushing read that has come back. Those of one space are confirmed in the order of
their issue, so that an instruction's own writes are, when no write of its space is outstanding. -/
def Chan.writesOut (c : Chan) (sp : Nat) : Bool := (sp ≠ 0 && 0 < c.out) || (sp ≠ 1 && (c.hostOut || c.flush))

/-- R315, R317: a barrier is complete, with its instruction's error; a FENCE reports the failed confirmation that
has been remembered. -/
def State.barDone (s : State) (n : Nat) : State :=
  let c := s.chan n
  if c.barSp = 2 then (s.setChan n { c with werr := 0 }).insDone n c.moved c.werr else s.insDone n c.moved c.barErr

/-- R315: an instruction whose writes to a space have been issued: it is complete, or, as a barrier, waits for
them; a FENCE (space 2) waits for every outstanding write. -/
def State.insWait (s : State) (n moved err : Nat) (bar : Bool) (sp : Nat) : State :=
  if bar then
    let s := s.setChan n { s.chan n with barWait := true, barSp := sp, barErr := err, moved := moved }
    if ! (s.chan n).writesOut sp then s.barDone n else if sp = 1 then s else s.confirm n
  else s.insDone n moved err

/-! ### Internal accesses (R316) -/


/-- R316: an address of register space lies in a block, or in an MSI-X table or its pending bits. -/
def inBlock (a : Nat) : Bool := (msixAt a).isSome || (blockAt a).isSome

/-- R369, R316, R425: the power domain of an internal address, where one gates it; an address between the
registers of a block has that of the block. -/
def State.intDom (s : State) (r : Req) (a : Nat) : Option Nat :=
  if a < 2 ^ 32 then
    match regAt a with
    | some x => s.domOf r x
    | none => (blockAt a).bind fun b => blkDom b.1 b.2
  else if a < dramBase then some (s.tableDom a)
  else some domDram

/-- R316: an internal access is refused. -/
def State.intRefused (s : State) (r : Req) (a : Nat) (write : Bool) : Bool :=
  (if a < 2 ^ 32 then ! inBlock a
   else if a < dramBase then write
   else match dramChan a with
     | some (c, _) => (s.dch c).st = .offline
     | none => true) ||
  (match s.intDom r a with
   | some k => ! (s.reach r k).1
   | none => false)

/-- The word that DRAM holds at an address; zero outside service (R320). -/
def State.dramWord (s : State) (a : Nat) : Word :=
  if s.inService a then leWord ((List.range 4).map fun i => s.dramNow (a + i)) 0 else 0

/-- R316: a channel reads a word of registers or table memory. -/
def State.intRead (s : State) (n a : Nat) : Word × State :=
  let r := hostReq (s.chanOwner n)
  if a < 2 ^ 32 then s.accRead r a false else (s.tableWord a, (s.reach r (s.tableDom a)).2)

/-- R316: a channel writes a word of internal space. -/
def State.intWrite (s : State) (n a : Nat) (v : Word) : State :=
  let r := hostReq (s.chanOwner n)
  if a < 2 ^ 32 then s.accWrite r a v
  else ((s.reach r domDram).2).dramWrite (.dma (Fin.ofNat 16 n)) a (leBytes v)

/-- R311, R318, R403: a channel still runs: no write of its own has stopped it, or frozen the device. -/
def State.chanRuns (s : State) (n : Nat) : Bool := s.live && (s.chan n).st = .running

/-! ### MOVE (R314) -/

/-- A MOVE as it runs: the state, the bytes moved, the error met, and the bytes on their way to host
memory. -/
structure Moving where
  s : State
  moved : Nat := 0
  err : Nat := 0
  toHost : List Byte := []

/-- The address of word k of an internal side: incremented or fixed. -/
def sideAt (sp a k : Nat) : Nat := if sp = 1 then spAddr 1 (a + 4 * k) else a

/-- R314, R317: one word of a MOVE with an internal side; `got` says that its source's bytes are at hand in
`data`. A write that stops the channel ends the MOVE with it (log entry 55). -/
def Moving.word (m : Moving) (n : Nat) (got : Bool) (srcSp dstSp src dst : Nat) (data : List Byte) (k : Nat) : Moving :=
  let r := hostReq (m.s.chanOwner n)
  if m.err ≠ 0 || ! m.s.chanRuns n then m
  else if ! got && m.s.intRefused r (sideAt srcSp src k) false then { m with err := 3 }
  else
    let v := if got then (leWord data (4 * k), m.s) else m.s.intRead n (sideAt srcSp src k)
    if dstSp = 0 then { m with s := v.2, moved := m.moved + 4, toHost := m.toHost ++ leBytes v.1 }
    else if v.2.intRefused r (sideAt dstSp dst k) true then { m with s := v.2, err := 3 }
    else { m with s := v.2.intWrite n (sideAt dstSp dst k) v.1, moved := m.moved + 4 }

/-- The part of some ranges (offset, length) that lies in the `n` bytes from `k`, as offsets from there. -/
def cutRanges (l : List (Nat × Nat)) (k n : Nat) : List (Nat × Nat) :=
  l.filterMap fun p =>
    let lo := max p.1 k
    let hi := min (p.1 + p.2) (k + n)
    if lo < hi then some (lo - k, hi - lo) else none

/-- R314, R334: bytes of a MOVE to host memory, of which some ranges may be poisoned. -/
def State.moveOut (s : State) (h dst : Nat) (b : List Byte) (bad : List (Nat × Nat)) : State :=
  if b.isEmpty then s
  else if bad.isEmpty then s.toHost h dst b
  else (s.tlp h).emit (.hostPoisoned h dst b bad)

/-- R314: the copying of a MOVE. `data` are the bytes that the source returned, where it is host memory or DRAM:
all of them, or those before `fail`, the error that ended the reading (0: none); `bad` are their poisoned
ranges. What passes the top of host memory goes on at its bottom (log entry 74). -/
def State.copy (s : State) (n srcSp dstSp src dst len : Nat) (data : Option (List Byte)) (bad : List (Nat × Nat)) (fail : Nat) : Moving :=
  let got := if fail = 0 then len else min len (data.getD []).length
  let m : Moving :=
    if srcSp = 0 && dstSp = 0 then { s := s, moved := got, toHost := slice (data.getD []) 0 got }
    else (List.range (got / 4)).foldl (fun m k => m.word n data.isSome srcSp dstSp src dst (data.getD []) k) { s := s }
  let m := if m.toHost.isEmpty then m
    else
      let h := s.chanOwner n
      let top := 2 ^ 48 - dst
      let t := m.s.moveOut h dst (m.toHost.take top) (cutRanges bad 0 (min top m.toHost.length))
      let t := t.moveOut h 0 (m.toHost.drop top) (cutRanges bad top (m.toHost.length - top))
      { m with s := t.setChan n { t.chan n with hostEnd := spAddr 0 (dst + m.toHost.length - 1), hostOut := true } }
  if m.err = 0 && fail ≠ 0 then { m with err := fail } else m

/-- The parameters of the MOVE at a channel's program counter: its length, its spaces and its addresses. -/
structure MoveArgs where
  len : Nat
  srcSp : Nat
  dstSp : Nat
  src : Nat
  dst : Nat

/-- R313, R314: what a MOVE copies. -/
def Chan.moveArgs (c : Chan) : MoveArgs :=
  let w := c.instr
  let w0 := wAt w 0
  let dstSp := fld w0 25 24
  let srcSp := fld w0 23 22
  { len := fld w0 21 0, srcSp := srcSp, dstSp := dstSp,
    src := if bit w0 26 then spAddr srcSp c.srcEnd else insAddr srcSp (wAt w 1).toNat (fld (wAt w 3) 31 16),
    dst := if bit w0 26 then spAddr dstSp c.dstEnd else insAddr dstSp (wAt w 2).toNat (fld (wAt w 3) 15 0) }

/-- R316: the addresses of a MOVE are aligned where they must be. -/
def MoveArgs.aligned (a : MoveArgs) : Bool :=
  (a.srcSp = 0 || a.src % 4 = 0) && (a.dstSp = 0 || a.dst % 4 = 0) && ((a.srcSp = 0 && a.dstSp = 0) || a.len % 4 = 0)

/-- R316: a MOVE reads DRAM: all of it, or its end, where it starts in table memory. -/
def MoveArgs.fromDram (a : MoveArgs) : Bool := a.srcSp ≠ 0 && dramBase < a.src + if a.srcSp = 1 then a.len else 4

/-- R329: the reads of a MOVE from DRAM: by 64-byte units, or of one word again and again. -/
def MoveArgs.parts (a : MoveArgs) : List (Nat × Nat) :=
  if a.srcSp = 1 then splitReq (a.len + 1) a.src a.len else List.replicate (a.len / 4) (a.src, 4)

/-- R316, R329: the reads of a MOVE from DRAM are issued, up to the first that is refused; those of table memory
before it bring their bytes at once. -/
def State.moveRead (s : State) (n : Nat) (a : MoveArgs) : State :=
  let r := hostReq (s.chanOwner n)
  let who : DramUser := .dma (Fin.ofNat 16 n)
  let go := a.parts.takeWhile fun p => ! s.intRefused r p.1 false
  let tab := go.takeWhile fun p => p.1 < dramBase
  let drm := go.drop tab.length
  let had := tab.map fun p => ({ len := p.2, data := some ((List.range p.2).map fun i => s.tableByte (p.1 + i)) } : DmaPart)
  let out := drm.mapIdx fun i p => ({ no := s.dram.nextRd + i, len := p.2 } : DmaPart)
  let rest := (a.parts.drop go.length).map fun p => ({ len := p.2, data := some [] } : DmaPart)
  let s := s.setChan n { s.chan n with rd := had ++ out ++ rest }
  let s := tab.foldl (fun st p => (st.reach r (st.tableDom p.1)).2) s
  let s := if drm.isEmpty then s else (s.reach r domDram).2
  drm.foldl (fun st p => st.dramRead1 who p.1 p.2) s

/-- R316: the bytes that a MOVE's DRAM reads brought before the first that was refused, and the poisoned ranges
among them. -/
def partBytes : List DmaPart → Nat → List Byte × List (Nat × Nat)
  | [], _ => ([], [])
  | p :: t, k =>
    let b := p.data.getD []
    if b.length < p.len then ([], [])
    else
      let r := partBytes t (k + p.len)
      (b ++ r.1, if p.bad then (k, p.len) :: r.2 else r.2)

/-- R317: a MOVE has copied what it could. Of a channel that its own write has stopped nothing more follows (R311,
R318). -/
def Moving.done (m : Moving) (n : Nat) (a : MoveArgs) : State :=
  let s := m.s
  if ! s.chanRuns n then s
  else if m.moved = 0 then s.insDone n 0 m.err
  else
    let s := if a.dstSp = 0 then s else s.setChan n { s.chan n with out := (s.chan n).out + 1 }
    s.insWait n m.moved m.err (bit (wAt (s.chan n).instr 0) 27) (if a.dstSp = 0 then 0 else 1)

/-- R313-R317: MOVE. One that reads DRAM issues its reads first, and copies once they have been served. -/
def State.move (s : State) (n : Nat) (data : List Byte) (ok : Bool) : State :=
  let c := s.chan n
  let a := c.moveArgs
  let step (sp x : Nat) : Nat := if sp = 2 then x else x + a.len
  if c.rd ≠ [] then
    if c.rd.all fun p => p.data.isSome then
      let b := partBytes c.rd 0
      let s := s.setChan n { c with rd := [], srcEnd := step a.srcSp a.src, dstEnd := step a.dstSp a.dst }
      (s.copy n a.srcSp a.dstSp a.src a.dst a.len (some b.1) b.2 (if b.1.length < a.len then 3 else 0)).done n a
    else s
  else if a.aligned && a.fromDram && a.parts ≠ [] then s.moveRead n a
  else
    let s := s.setChan n { c with srcEnd := step a.srcSp a.src, dstEnd := step a.dstSp a.dst }
    if ! a.aligned then s.insDone n 0 4
    else if a.srcSp = 0 then
      ((s.readHost48 (s.chanOwner n) a.src a.len).copy n 0 a.dstSp a.src a.dst a.len (some data) [] (if ok then 0 else 1)).done n a
    else (s.copy n a.srcSp a.dstSp a.src a.dst a.len none [] 0).done n a

/-! ### The other instructions (R314) -/

/-- R314: LOOP. -/
def State.loop (s : State) (n : Nat) : State :=
  let c := s.chan n
  let w := c.instr
  let k := fld (wAt w 0) 25 24
  let held := tget (fun _ => 0) c.ctr k
  let left := (if held = 0 then (wAt w 1).toNat + 1 else held) - 1
  let s := s.setChan n { c with ctr := tset (fun _ => 0) c.ctr k left }
  if 0 < left then s.goIns n (fld (wAt w 0) 15 0) else s.goIns n (c.pc + 1)

/-- R313: the internal word that a WAIT polls. -/
def waitAddr (w : List Word) : Nat := (wAt w 1).toNat + fld (wAt w 0) 7 0 * 2 ^ 32

/-- R314: WAIT begins. -/
def State.waitIns (s : State) (n : Nat) : State :=
  let c := s.chan n
  let w := c.instr
  let t := fld (wAt w 0) 23 8
  let poll := bit (wAt w 0) 25
  if poll && waitAddr w % 4 ≠ 0 then s.insDone n 0 4
  else s.setChan n { c with waiting := true, pollAt := s.mono, waitAt := if poll && t = 0 then none else some (s.mono + t * 1000) }

/-- R11, R314: the word that a poll sees, where its access is not refused. -/
def State.pollWord (s : State) (n a : Nat) : Option Word :=
  let r := hostReq (s.chanOwner n)
  if s.intRefused r a false then none
  else if a < 2 ^ 32 then some (s.accRead r a true).1
  else if a < dramBase then some (s.tableWord a)
  else some (s.dramWord a)

/-- R314: what a poll of a WAIT read: none where the access was refused. -/
def State.polled (s : State) (n : Nat) (w : List Word) (got : Option Word) : State :=
  match got with
  | none => s.insDone n 0 3
  | some v => if v &&& wAt w 3 = wAt w 2 then s.insDone n 0 0 else s

/-- R314: a poll of a WAIT falls due: one each microsecond, until TIME has passed. -/
def State.pollDue (s : State) (n : Nat) : Bool :=
  let c := s.chan n
  decide (c.pollAt ≤ s.mono) && (match c.waitAt with
    | some t => decide (s.mono < t)
    | none => true)

/-- R314: one poll of a WAIT. -/
def State.pollIns (s : State) (n : Nat) : State :=
  (s.setChan n { s.chan n with pollAt := s.mono + 1000 }).polled n (s.chan n).instr (s.pollWord n (waitAddr (s.chan n).instr))

/-- R314: the TIME of a WAIT has passed. -/
def State.waitEnd (s : State) (n : Nat) : State :=
  if bit (wAt (s.chan n).instr 0) 25 then s.insDone n 0 5 else s.insDone n 0 0

/-- R314: SIGNALED is set by an instruction with INT 1. -/
def State.sigInt (s : State) (n : Nat) (int : Bool) : State :=
  s.setChan n { s.chan n with signaled := (s.chan n).signaled || int }

/-- R314: SIGNAL: the write, then SIGNALED. Of a channel that its own write has stopped nothing more follows (R311,
R318). -/
def State.signal (s : State) (n : Nat) : State :=
  let w := (s.chan n).instr
  let w0 := wAt w 0
  let int := bit w0 26
  let sp := fld w0 25 24
  let a := insAddr sp (wAt w 1).toNat (fld (wAt w 3) 15 0)
  if sp = 3 then (s.sigInt n int).insDone n 0 0
  else if sp ≠ 0 && a % 4 ≠ 0 then (s.sigInt n int).insDone n 0 4
  else if sp ≠ 0 && s.intRefused (hostReq (s.chanOwner n)) a true then (s.sigInt n int).insDone n 0 3
  else if sp = 0 then
    let t := (s.toHost48 (s.chanOwner n) a (leBytes (wAt w 2))).sigInt n int
    (t.setChan n { t.chan n with hostEnd := spAddr 0 (a + 3), hostOut := true }).insWait n 4 0 (bit w0 27) 0
  else
    let t := s.intWrite n a (wAt w 2)
    if ! t.chanRuns n then t
    else
      let t := t.sigInt n int
      (t.setChan n { t.chan n with out := (t.chan n).out + 1 }).insWait n 4 0 (bit w0 27) 1

/-- R314: END. -/
def State.endIns (s : State) (n : Nat) : State :=
  let c := s.chan n
  (s.setChan n { c with st := .done, ended := true }).sigInt n (bit (wAt c.instr 0) 26)

/-- R315: a write to internal space is acknowledged, or (`host`) the flushing read of the writes to host memory
comes back or fails. Writes that went out after that read was sent need one of their own. A failure is the error of
the barrier whose writes were to be confirmed (ERR 2), and is remembered for the next FENCE otherwise. -/
def State.ackWrite (s : State) (n : Nat) (host ok : Bool) : State :=
  let c := s.chan n
  let own := c.barWait && c.barSp = 0 && ! c.hostOut
  let c :=
    if ! host then { c with out := c.out - 1 }
    else if ok then { c with flush := false }
    else if own then { c with flush := false, barErr := if c.barErr = 0 then 2 else c.barErr }
    else { c with flush := false, werr := 2 }
  let s := s.setChan n c
  let s := if host then s.tlp (s.chanOwner n) else s
  if ! c.barWait then s
  else if c.writesOut c.barSp then (if c.barSp = 1 then s else s.confirm n)
  else s.barDone n

/-- R312, R317: a read of the program ends: its instructions replace those fetched before, or the failure
stops the channel. -/
def State.progDone (s : State) (n : Nat) (prog : Option (List (List Word))) : State :=
  let s := s.tlp (s.chanOwner n)
  let c := s.chan n
  match prog with
  | none => s.stopChan n 2
  | some l =>
    let ins := (List.range (min 16 l.length)).foldl
      (fun t i => tset (fun _ => []) t ((c.pc + i) % 2 ^ 16) (padTo 4 ((l[i]?).getD []))) ([] : Tab (List Word))
    (s.setChan n { c with ins := ins }).nextIns n

/-- A channel's owner is there, and the channel runs. -/
def State.chanOn (s : State) (n : Nat) : Bool :=
  s.hostOn (s.chanOwner n) && s.hostReach (s.chanOwner n) && (s.chan n).st = .running

/-- A channel is at an instruction of an operation, ready to execute it. -/
def State.atIns (s : State) (n op : Nat) : Bool :=
  let c := s.chan n
  s.chanOn n && ! c.waiting && ! c.barWait && c.instr ≠ [] && insOp c.instr = op && ! insBad c.instr c.pc

/-! ### Meanings -/

/-- PROGRAM_FETCH (R312, R317). -/
def execProgramFetch (ch : Fin 16) (prog : Option (List (List Word))) (s : State) : Host.Outcome State Fault Refusal :=
  act (s.chanOn ch && (s.chan ch).instr = []) (fun s => s.progDone ch prog) s

/-- MOVE (R313-R317): `src` are the bytes that a host source returned, all of them or (`srcOk` false) those before
its read failed. -/
def execMove (ch : Fin 16) (src : List Byte) (srcOk : Bool) (s : State) : Host.Outcome State Fault Refusal :=
  act (s.atIns ch 1) (fun s => s.move ch src srcOk) s

/-- LOOP (R314). -/
def execLoop (ch : Fin 16) (s : State) : Host.Outcome State Fault Refusal :=
  act (s.atIns ch 2) (fun s => s.loop ch) s

/-- WAIT (R314). -/
def execWait (ch : Fin 16) (s : State) : Host.Outcome State Fault Refusal :=
  act (s.atIns ch 3) (fun s => s.waitIns ch) s

/-- WAIT_POLL (R314, R11). -/
def execWaitPoll (ch : Fin 16) (s : State) : Host.Outcome State Fault Refusal :=
  act (s.chanOn ch && (s.chan ch).waiting && bit (wAt (s.chan ch).instr 0) 25 && s.pollDue ch)
    (fun s => s.pollIns ch) s

/-- WAIT_EXPIRY (R314). -/
def execWaitExpiry (ch : Fin 16) (s : State) : Host.Outcome State Fault Refusal :=
  act (s.chanOn ch && (s.chan ch).waiting && (match (s.chan ch).waitAt with
    | some t => t ≤ s.mono
    | none => false)) (fun s => s.waitEnd ch) s

/-- SIGNAL (R314, R315). -/
def execSignal (ch : Fin 16) (s : State) : Host.Outcome State Fault Refusal :=
  act (s.atIns ch 4) (fun s => s.signal ch) s

/-- FENCE (R314, R315). -/
def execFence (ch : Fin 16) (s : State) : Host.Outcome State Fault Refusal :=
  act (s.atIns ch 5) (fun s => s.insWait ch 0 0 true 2) s

/-- NOP (R313): nothing, and no status word (R317). -/
def execNop (ch : Fin 16) (s : State) : Host.Outcome State Fault Refusal :=
  act (s.atIns ch 6) (fun s => s.goIns ch ((s.chan ch).pc + 1)) s

/-- END (R314). -/
def execDmaEnd (ch : Fin 16) (s : State) : Host.Outcome State Fault Refusal :=
  act (s.atIns ch 7) (fun s => s.endIns ch) s

/-- WRITE_ACKNOWLEDGE (R315). -/
def execWriteAcknowledge (ch : Fin 16) (host ok : Bool) (s : State) : Host.Outcome State Fault Refusal :=
  act (s.live && (if host then (s.chan ch).flush else 0 < (s.chan ch).out)) (fun s => s.ackWrite ch host ok) s

end Sys2Proof.Machine
end

