-- ==== Sys2Proof/Machine/Sections.lean ====
section
/-! DEFINITION. The sections of the frozen state (R406): their sizes, and the word at each byte offset. What the
spec names and gives a layout has it; what it only names is laid out as log entry 27 says. -/

namespace Sys2Proof.Machine

open Sys2Proof

/-! ### Sizes and the directory -/

/-- R406: the size of a section in 4 KiB units; sections 11 and 12 are empty when FZ_PAYLOAD is blown. -/
def State.secSize (s : State) (k : Nat) : Nat :=
  if s.fuses.payload && (k = 11 || k = 12) then 0
  else wAt ([0, 16, 16, 576, 128, 8192, 4096, 11264, 24576, 9216, 4096, 8192, 65536] : List Word) k |>.toNat

/-- R406: the sections of a mask that have content, in order, with their lengths. -/
def State.sections (s : State) (mask : Word) : List (Nat × Nat) :=
  (((List.range 13).drop 1).filter fun k => bit mask k && 0 < s.secSize k).map fun k => (k, s.secSize k)

/-- R407: the start of a section among those sent, in 4 KiB units from the directory. -/
def secStart : List (Nat × Nat) → Nat → Nat → Option Nat
  | [], _, _ => none
  | (j, n) :: t, k, at_ => if j = k then some at_ else secStart t k (at_ + n)

/-- R407: word i of the directory; the OFFSET of a section that is not sent is a value the spec does not
give (log entry 4). -/
def State.dirWord (s : State) (mask : Word) (i : Nat) : Word :=
  let secs := s.sections mask
  let k := (i - 6) / 2
  match i with
  | 0 => 0x465A0100
  | 1 => bitsOf (secs.map Prod.fst)
  | 2 => lo32 s.frz.time
  | 3 => hi32 s.frz.time
  | 4 => s.frzStat
  | 5 => s.fuseStat
  | _ =>
    if i < 8 || 31 < i then 0
    else
      match secStart secs k 1 with
      | some o => if i % 2 = 0 then wd o else wd (s.secSize k)
      | none => if i % 2 = 0 then Config.freeWord (s.free + i) else 0

/-! ### Sections 1 and 2: identity, faults and registers -/

/-- R411: the internal addresses of all registers of one instance of a block. -/
def Blk.addrs (b : Blk) (k : Nat) : List Nat :=
  b.rows.flatMap fun r => (List.range r.mi).flatMap fun i => (List.range r.mj).map fun j =>
    b.place.1 + k * b.place.2.2 + r.off + i * r.si + j * r.sj

/-- R406, R411: the addresses of all registers, in order. -/
def allRegs : List Nat := ((Blk.all.flatMap fun b => (List.range b.place.2.1).flatMap b.addrs)).mergeSort

/-- R11: the peek value of the register at an address. -/
def State.peekVal (s : State) (a : Nat) : Word := ((regAt a).map (s.regVal .chain)).getD 0

/-- R406: the registers of section 1: identity and straps, fuses, and the fault collector. -/
def faultRegs : List Nat := (Blk.addrs .chip 0 ++ Blk.addrs .fuse 0 ++ Blk.addrs .flt 0).mergeSort

/-- R350: the four words of a history record. -/
def HistRec.words (r : HistRec) : List Word := [lo32 r.time, hi32 r.time, r.info, r.head]

/-- R406: section 1: address and value pairs of its registers, from 0x8000 the history queue, oldest record
first, and from 0x9000 the flip-flop record. -/
def State.sec1 (s : State) (off : Nat) : Word :=
  if off < 0x8000 then
    match faultRegs[off / 8]? with
    | some a => if off % 8 = 0 then wd a else s.peekVal a
    | none => 0
  else if off < 0x9000 then wAt (((s.flt.hist[(off - 0x8000) / 16]?).map HistRec.words).getD []) (off % 16 / 4)
  else if off < 0x9010 then wAt ((s.flt.flop.map HistRec.words).getD []) (off % 16 / 4)
  else 0

/-- R406: section 2: address and value pairs of the registers, as many as it has room for. -/
def State.sec2 (s : State) (off : Nat) : Word :=
  match allRegs[off / 8]? with
  | some a => if off % 8 = 0 then wd a else s.peekVal a
  | none => 0

/-! ### Section 3: threads, delay registers, lock lines -/

/-- R131: a lock line in a word: held, releasing, its holder, and how many wait. -/
def LockLine.word (l : LockLine) : Word :=
  flag 31 l.owner.isSome ||| flag 30 l.releasing ||| put 23 16 (l.owner.getD 0) ||| put 7 0 l.waiters.length

/-- R355: a delay-register set in 32 words: the key, the lookup record from word 16, the stamp's EPOCH in bit 31
of word 24, and from word 25 the digests of the primary and of the sentinel. -/
def Sample.word (x : Sample) (i : Nat) : Word :=
  if i < 16 then leWord x.key (4 * i)
  else if i < 24 then wAt x.lrec (i - 16)
  else if i = 24 then flag 31 x.stamp.epoch ||| flag 30 x.p1.isSome ||| flag 29 x.s1.isSome ||| put 9 5 x.engine ||| put 2 0 x.thread
  else if i = 25 then x.p1.getD 0
  else if i = 26 then x.s1.getD 0
  else 0

/-- R406: a cluster's part of section 3 behind the threads, 2 KiB: 64 lock lines, the torn bits, and from word 128
the eight delay-register sets. -/
def State.secClu (s : State) (c i : Nat) : Word :=
  if s.nClusters ≤ c then 0
  else if i < 64 then (s.lockLine c i).word
  else if i < 66 then s.rg .necLockTorn c (i - 64)
  else if i < 128 then 0
  else if i < 384 then (tget (fun _ => {}) (s.clu c).samples ((i - 128) / 32)).word ((i - 128) % 32)
  else 0

/-- R406: section 3: every thread in the layout of R401, then the clusters. -/
def State.sec3 (s : State) (off : Nat) : Word :=
  let k := off / 256
  if k < 64 * 136 then (if s.nClusters ≤ k / 136 then 0 else s.thrWord k (off % 256 / 4))
  else s.secClu ((off - 64 * 136 * 256) / 2048) (off % 2048 / 4)

/-! ### Sections 4 and 5: queues, buckets, descriptors -/

/-- R406: a bucket in four words: its settings, and its tokens as a number of 64 bits. -/
def State.bucketWord (s : State) (b : Bucket) (i : Nat) : Word :=
  let t : BitVec 64 := BitVec.ofInt 64 (b.bytes s.mono)
  wAt [b.lo, b.hi, lo32 t, hi32 t] i

/-- R406: a queue in four words: its head and tail descriptors in bits 19:0, with bit 31 set where there is one,
and its deficit. -/
def State.queueWord (s : State) (q i : Nat) : Word :=
  let l := s.queue q
  let one (o : Option Nat) : Word := (o.map fun d => flag 31 true ||| put 19 0 d).getD 0
  wAt [one l.head?, one l.getLast?, wd (tget (fun _ => 0) s.sched.deficit q)] i

/-- R406: section 4: 2,592 queues, from 0xB000 the shapers, from 0x16000 the policers, and from 0x57000 one bit for
each descriptor, 1 where it is free. -/
def State.sec4 (s : State) (off : Nat) : Word :=
  let i := off % 16 / 4
  if off < 0xA200 then s.queueWord (off / 16) i
  else if off < 0xB000 then 0
  else if off < 0x16000 then s.bucketWord (s.shpB ((off - 0xB000) / 16)) i
  else if off < 0x57000 then s.bucketWord (s.polB ((off - 0x16000) / 16)) i
  else if off < 0x77000 then
    let d := (off - 0x57000) * 8
    bitsOf ((List.range 32).filter fun j => ! (tkeys s.buf.descs).contains (d + j))
  else 0

/-- R205: the descriptor behind one in its queue. -/
def State.descNext (s : State) (d : Nat) : Option Nat :=
  s.buf.queues.findSome? fun e => ((e.2.dropWhile (· ≠ d))[1]?)

/-- R205: word i of a descriptor. -/
def State.descWord (s : State) (d i : Nat) : Word :=
  let x := s.desc d
  let nx := s.descNext d
  if (tkeys s.buf.descs).contains d then
    wAt [put 31 12 (nx.getD 0) ||| flag 11 nx.isNone ||| flag 10 x.shared ||| flag 9 x.epoch ||| flag 8 x.direct ||| put 7 0 x.lport,
         put 31 12 x.buf ||| put 11 0 x.member,
         wd x.time,
         put 31 16 (x.time / 2 ^ 32) ||| put 15 14 x.pool ||| put 13 0 x.len,
         put 31 24 x.popAt ||| flag 23 x.pushEn ||| put 22 11 x.template ||| put 10 4 x.gap ||| flag 3 x.set0En ||| flag 2 x.set1En,
         x.set0Val,
         put 31 24 x.set0Off ||| put 23 16 x.set1Off,
         x.set1Val] i
  else Config.freeWord (s.free + 32 * d + 4 * i)

/-! ### Sections 6 and 7: tables -/

/-- R150: the states of a node, in the order of their codes. -/
def NodeState.code : NodeState → Nat
  | .free => 0
  | .staged => 1
  | .live => 2
  | .retiring => 3

/-- R217: a word of list memory, two targets of 16 bits: the lists of the slots one behind the other, each in whole
blocks of 8 targets. -/
def repWord : List (Nat × RepEntry) → Nat → Word
  | [], _ => 0
  | e :: t, w =>
    let n := 4 * listBlocks e.2.targets
    let one (j : Nat) : Nat := (e.2.targets[j]?).getD 0
    if w < n then put 31 16 (one (2 * w + 1)) ||| put 15 0 (one (2 * w)) else repWord t (w - n)

/-- R217: a slot of the replication table in two words: LIFE, VALID and COUNT, and the first block of its list. -/
def State.repHead (s : State) (k i : Nat) : Word :=
  let e := s.repSlot k
  if i = 0 then put 31 30 e.life ||| flag 29 e.valid ||| put 8 0 e.targets.length
  else wd ((s.tbl.rep.filter fun x => x.1 < k).foldl (fun a x => a + listBlocks x.2.targets) 0)

/-- R406: section 6: the station master, its overflow entries from 0x800000, the neighbour master from 0x840000,
the associative master, the trees and the copy tables as the table memory space holds them (R425) from 0xA40000,
0xAC0000 and 0xC40000, two bits of state for each node from 0xDE0000, the registers of epoch control from
0xDF0000, the slots of the replication table from 0xE00000, their lists from 0xE80000 and the SPILL flags (R91) from
0xF80000; the rest are free values. -/
def State.sec6 (s : State) (off : Nat) : Word :=
  let w := off % 16 / 4
  if off < 0x800000 then wAt (tget (fun _ => []) s.tbl.sta (off / 16)) w
  else if off < 0x840000 then wAt (tget (fun _ => []) s.tbl.sta (524288 + (off - 0x800000) / 16)) w
  else if off < 0xA40000 then nbrUnitWord s.tbl.nbr ((off - 0x840000) / 16) w
  else if off < 0xAC0000 then s.tableWord (0x104800000 + (off - 0xA40000))
  else if off < 0xC40000 then s.tableWord (0x105000000 + (off - 0xAC0000))
  else if off < 0xDC1000 then s.tableWord (0x106000000 + (off - 0xC40000))
  else if off < 0xDE0000 then 0
  else if off < 0xDE3000 then
    let n := (off - 0xDE0000) * 4
    (List.range 16).foldl (fun a j => a ||| put (2 * j + 1) (2 * j) (s.nodeSt (n + j)).code) 0
  else if off < 0xDF0000 then 0
  else if off < 0xDF0100 then s.peekVal (0x3010000 + (off - 0xDF0000))
  else if off < 0xE00000 then Config.freeWord (s.free + off)
  else if off < 0xE80000 then s.repHead ((off - 0xE00000) / 8) (off % 8 / 4)
  else if off < 0xF80000 then repWord s.tbl.rep ((off - 0xE80000) / 4)
  else if off < 0xF84000 then
    bitsOf ((List.range 32).filter fun j => tget (fun _ => false) s.tbl.spill ((off - 0xF80000) * 8 + j))
  else Config.freeWord (s.free + off)

/-- R2: the variant has the replica of a pair of port groups. -/
def State.hasReplica (s : State) (k : Nat) : Bool := 2 * k < s.nGroups

/-- R406, R75: byte `o` of a unit of a pipe's associative copy, in 14 bytes: its slice's value and care, five bytes
each, and word 16 of its entry. -/
def State.ascByte (s : State) (u o : Nat) : Byte :=
  let pipe := u / 4096
  let bank := u % 4096 / 512
  let w := widthUnits (tget (fun _ => 0) s.tbl.ascCW (pipe * 8 + bank))
  let e := tget (fun _ => []) s.tbl.ascC (pipe * 4096 + 512 * bank + u % 512 / w)
  let j := u % 512 % w
  if s.nGroups ≤ pipe / 6 then 0
  else if o < 5 then bAt (wordBytes [wAt e (4 * j), wAt e (4 * j + 1)]) o
  else if o < 10 then bAt (wordBytes [wAt e (4 * j + 2), wAt e (4 * j + 3)]) (o - 5)
  else bAt (leBytes (wAt e 16)) (o - 10)

/-- R406: section 7: the station replicas and the neighbour replicas in order, each as R425 places it, from
0x2900000 a bit for each station entry of a replica that is its hit bit, and from 0x2942000 the associative copies of
the 48 pipes, by units; the rest are free values. -/
def State.sec7 (s : State) (off : Nat) : Word :=
  let w := off % 16 / 4
  if off < 0x2100000 then
    let k := off / 0x840000
    if s.hasReplica k then wAt (tget (fun _ => []) s.tbl.staR (k * 2 ^ 20 + off % 0x840000 / 16)) w else 0
  else if off < 0x2900000 then
    let k := (off - 0x2100000) / 0x200000
    if s.hasReplica k then nbrUnitWord s.tbl.nbrR (k * 2 ^ 18 + (off - 0x2100000) % 0x200000 / 16) w else 0
  else if off < 0x2942000 then
    let o := off - 0x2900000
    let k := o / 0x10800
    if s.hasReplica k then
      bitsOf ((List.range 32).filter fun j => tget (fun _ => false) s.tbl.hit (k * 2 ^ 20 + o % 0x10800 * 8 + j))
    else 0
  else if off < 0x2BE2000 then
    let o := off - 0x2942000
    leWord ((List.range 4).map fun i => s.ascByte ((o + i) / 14) ((o + i) % 14)) 0
  else Config.freeWord (s.free + off)

/-! ### Sections 8-12: memories -/

/-- R406: section 9: the control stores, 18 bytes per microword. -/
def State.sec9 (s : State) (off : Nat) : Word :=
  let byte (o : Nat) : Byte :=
    let m := o / 18
    if s.nClusters ≤ m / 32768 then 0
    else BitVec.ofNat 8 ((tget (fun _ => (0 : BitVec 144)) s.cstore m).toNat >>> (8 * (o % 18)))
  leWord ((List.range 4).map fun i => byte (off + i)) 0

/-- The byte at an offset of a holding store, where its frames stand one behind the other, each in whole units of 256
bytes (R113). -/
def heldByte : List Pkt → Nat → Option Byte
  | [], _ => none
  | p :: t, o => if o < 256 * p.units then p.bytes[o]? else heldByte t (o - 256 * p.units)

/-- R406, R25: section 11: the 4 MiB holding stores of the groups, with the bytes of the frames in each; every other
byte is a free value. -/
def State.sec11 (s : State) (off : Nat) : Word :=
  let g := off / 0x400000
  let l := (s.pkts.filter fun e => e.2.stamp.lport / 32 == g).map Prod.snd
  if s.nGroups ≤ g then 0
  else leWord ((List.range 4).map fun i =>
    (heldByte l (off % 0x400000 + i)).getD ((Config.freeWord (s.free + off + i)).setWidth 8)) 0

/-- R406, R199: section 12: the bytes of the frames stored in the buffer, at their cells; every other byte is a free
value. -/
def State.sec12 (s : State) (off : Nat) : Word :=
  let here := s.buf.bufs.find? fun e => e.1 * 256 ≤ off && off < (e.1 + poolCells e.2.pool) * 256
  match here with
  | some (b, x) =>
    let o := off - b * 256
    leWord ((List.range 4).map fun i => (x.bytes[o + i]?).getD ((Config.freeWord (s.free + off + i)).setWidth 8)) 0
  | none => Config.freeWord (s.free + off)

/-- R406: the word at a byte offset of a section. What is not there in the variant reads zero. -/
def State.secWord (s : State) (sec off : Nat) : Word :=
  match sec with
  | 1 => s.sec1 off
  | 2 => s.sec2 off
  | 3 => s.sec3 off
  | 4 => s.sec4 off
  | 5 => s.descWord (off / 32) (off % 32 / 4)
  | 6 => s.sec6 off
  | 7 => s.sec7 off
  | 8 => if s.nClusters ≤ off / 0x180000 then 0 else wAt (tget (fun _ => []) s.tbl.treeG (off / 0x180000 / 8 * 65536 + off % 0x180000 / 32)) (off % 32 / 4)
  | 9 => s.sec9 off
  | 10 => if s.nClusters ≤ off / 0x40000 then 0 else tget (fun _ => 0) (s.clu (off / 0x40000)).scratch (off % 0x40000 / 4)
  | 11 => s.sec11 off
  | 12 => s.sec12 off
  | _ => 0

/-- R407: the words of one 4 KiB burst; section 0 is the directory. -/
def State.burst (s : State) (mask : Word) (sec n : Nat) : List Word :=
  (List.range 1024).map fun i => if sec = 0 then s.dirWord mask i else s.secWord sec (4096 * n + 4 * i)

end Sys2Proof.Machine
end

