-- ==== Sys2Proof/Machine/Chain.lean ====
section
/-! DEFINITION. The Tchilin chain (R386-R395), freeze (R402-R405), read-out and the freeze image
(R406-R408), and fuses (R409, R410). -/

namespace Sys2Proof.Machine

open Sys2Proof

/-! ### Frames (R387) -/

/-- R387: CMD of a frame. -/
def frmCmd (f : List Word) : Nat := fld (wAt f 0) 11 8

/-- R387: DEST of a frame. -/
def frmDest (f : List Word) : Nat := fld (wAt f 0) 23 18

/-- R387: VER_MAJOR of a frame. -/
def frmVer (f : List Word) : Nat := fld (wAt f 0) 31 28

/-- R387: LEN of a frame. -/
def frmLen (f : List Word) : Nat := fld (wAt f 2) 15 0

/-- R387, R389: the internal address of a request; version 1 has no high part. -/
def frmAddr (f : List Word) : Nat := (wAt f 1).toNat + if frmVer f = 1 then 0 else fld (wAt f 2) 31 24 * 2 ^ 32

/-- R387: data word i of a frame. -/
def frmData (f : List Word) (i : Nat) : Word := wAt f (3 + i)

/-- R387, R445: a frame's words with its CRC word. -/
def sealFrame (f : List Word) : List Word := f ++ [(crc16 (wordBytes f)).setWidth 32]

/-- R387, R388: the words of a received frame without its CRC word, where its length and CRC check. -/
def openFrame (f : List Word) : Option (List Word) :=
  let b := f.take (f.length - 1)
  if 4 ≤ f.length && f.length = 4 + frmLen f && (crc16 (wordBytes b)) = (wAt f (f.length - 1)).setWidth 16
  then some b else none

/-- R388: the unit's own frames leave, in their order, once no frame waits to be forwarded. -/
def State.chainFlush (s : State) : State :=
  if s.chain.fwd.isEmpty then
    s.chain.own.foldl (fun st f => st.emit (.chain f)) { s with chain := { s.chain with own := [] } }
  else s

/-- R387, R389, R391: a unit's own frame to the controller, answering the command and TAG of a request. Frames that
wait to be forwarded take precedence (R388). -/
def State.chainSend (s : State) (w0 : Word) (ver addr status : Nat) (data : List Word) : State :=
  let h := put 31 28 ver ||| put 23 18 63 ||| put 17 12 s.chain.addr ||| (w0 &&& 0xFFF)
  let f := sealFrame ([h, wd addr, put 31 24 (addr / 2 ^ 32) ||| put 23 16 status ||| put 15 0 data.length] ++ data)
  ({ s with chain := { s.chain with own := s.chain.own ++ [f] } } : State).chainFlush

/-- R389, R391: the response to a request, in its version. -/
def State.reply (s : State) (f : List Word) (status : Nat) (data : List Word) : State :=
  s.chainSend (wAt f 0) (frmVer f) (frmAddr f) status data

/-- R389-R391: the status of a request that is refused whatever the device's state. -/
def frmRefusal (f : List Word) : Option Nat :=
  let c := frmCmd f
  if c = 0 || c = 1 || 10 < c then some 1
  else if frmVer f = 1 && (c = 9 || c = 10) then some 1
  else if 1024 < frmLen f then some 8
  else none

/-- R389: requests are answered in order of arrival: those that are refused whatever the state are answered
as they come up. -/
def State.chainQueue (s : State) : List (List Word) → State
  | [] => { s with chain := { s.chain with q := [] } }
  | f :: t =>
    match frmRefusal f with
    | some st => (s.reply f st []).chainQueue t
    | none => { s with chain := { s.chain with q := f :: t } }

/-- R393: a broadcast command: ENUM, FREEZE or RESET with its word, in a version that the unit serves. -/
def frmBroadcast (f : List Word) : Bool :=
  frmDest f = 0 && (frmVer f = 1 || frmVer f = 2) && frmLen f = 1 && (frmCmd f = 1 || frmCmd f = 6 || frmCmd f = 7)

/-- R393: a frame as received is a broadcast command. -/
def isBroadcast (words : List Word) : Bool := ((openFrame words).map frmBroadcast).getD false

/-- R388: frames are forwarded in their order, up to the next broadcast command, which waits for its effect; after
them, what the unit has to send. -/
def State.forwardAll (s : State) : List (List Word) → State
  | [] => ({ s with chain := { s.chain with fwd := [] } } : State).chainFlush
  | f :: t => if isBroadcast f then { s with chain := { s.chain with fwd := f :: t } } else (s.emit (.chain f)).forwardAll t

/-- R388: a frame to be forwarded joins those that wait behind a broadcast command. -/
def State.chainForward (s : State) (words : List Word) : State := s.forwardAll (s.chain.fwd ++ [words])

/-- R388, R389: a chain frame has been received whole. -/
def State.chainRx (s : State) (words : List Word) : State :=
  match openFrame words with
  | none => ((s.bump .chnCrcErr 0 0).raise { src := 5, cls := .blue, code := 0x1C }).chainForward words
  | some f =>
    if frmDest f ≠ 0 && frmDest f = s.chain.addr then
      if frmVer f ≠ 1 && frmVer f ≠ 2 then s.chainSend (wAt f 0) 2 (frmAddr f) 7 []
      else if 4 ≤ s.chain.q.length then s.reply f 4 []
      else s.chainQueue (s.chain.q ++ [f])
    else s.chainForward words

/-- R388: the request at the front: a broadcast command, which forwarding puts first, or the oldest of the unit's
own. -/
def State.chainReq (s : State) : List Word :=
  match s.chain.fwd with
  | f :: _ => f.take (f.length - 1)
  | [] => (s.chain.q[0]?).getD []

/-- The request at the front is of a command. -/
def State.chainHead (s : State) (cmd : Nat) : Bool := (! s.chain.fwd.isEmpty || ! s.chain.q.isEmpty) && frmCmd s.chainReq = cmd

/-- The oldest of the unit's own requests has been served. -/
def State.ownPop (s : State) : State := s.chainQueue (s.chain.q.drop 1)

/-- The request at the front has been served. -/
def State.chainPop (s : State) : State := if s.chain.fwd.isEmpty then s.ownPop else s.forwardAll (s.chain.fwd.drop 1)

/-- The request at the front is answered. -/
def State.answer (s : State) (status : Nat) (data : List Word) : State := (s.reply s.chainReq status data).chainPop

/-- R391: IDENT and FREEZE to a device carry no data. -/
def frmBare (f : List Word) : Bool := frmLen f = 0

/-! ### Broadcast commands (R393) -/

/-- R388, R393: the frame at the front is forwarded with its broadcast word updated. -/
def State.passOn (s : State) (w : Word) : State := (s.emit (.chain (sealFrame (setAt s.chainReq 3 w)))).chainPop

/-- R393: the broadcast word after a terminating unit. -/
def State.termWord (s : State) (w : Word) : Word := w ||| flag 31 s.straps.chnTerm

/-- R393: the broadcast word after a unit that acts. -/
def State.actWord (s : State) (w : Word) : Word := s.termWord (setFld w 5 0 (fld w 5 0 + 1))

/-- R393: ENUM. -/
def State.enumUnit (s : State) : State :=
  let w := frmData s.chainReq 0
  let n := fld w 5 0
  if n < 62 then
    ({ s with chain := { s.chain with addr := n + 1, overflow := false } } : State).passOn (s.actWord w)
  else ({ s with chain := { s.chain with addr := 0, overflow := true } } : State).passOn (s.termWord w ||| flag 30 true)

/-- R402, R391: FREEZE, broadcast or to this device. -/
def State.chainFreeze (s : State) : State :=
  if frmDest s.chainReq = 0 then (s.passOn (s.actWord (frmData s.chainReq 0))).freezeLatch 2 0 0 true
  else if frmBare s.chainReq then (s.answer 0 []).freezeLatch 2 0 0 true
  else s.answer 8 []

/-- R390, R391, R393: RESET, broadcast or to this device; the answer is sent before the reset begins. -/
def State.chainReset (s : State) : State :=
  let w := frmData s.chainReq 0
  let ok := frmLen s.chainReq = 1 && fld w 15 8 = 0xC4
  if frmDest s.chainReq = 0 then
    if ok then (s.passOn (s.actWord w)).chipReset else s.passOn (s.termWord w)
  else if ok then (s.answer 0 []).chipReset
  else s.answer 8 []

/-! ### IDENT, PEEK, READ, WRITE (R390-R396) -/

/-- R392: the words of IDENT. -/
def State.identWords (s : State) : List Word :=
  [put 31 16 0x1F3B ||| put 15 0 s.ident.variant.device,
   put 31 24 s.ident.revision.toNat ||| put 23 16 s.ident.variant.code ||| s.fuseStat,
   s.chnStat, s.frzStat, lo32 s.ident.serial, hi32 s.ident.serial, 0, 0]

/-- R392, R391: IDENT. -/
def State.identCmd (s : State) : State := if frmBare s.chainReq then s.answer 0 s.identWords else s.answer 8 []

/-- R391: the end of the internal map. -/
def mapEnd : Nat := dramBase + 4 * slotSize

/-- R391: the `n` words from an address, aligned, lie below a limit. -/
def chainSpan (a n limit : Nat) : Bool := a % 4 = 0 && a + 4 * n ≤ limit

/-- R396: the word that a chain peek returns, none where its block sleeps; a Pale domain is woken for it, as for
every access (R277). While the device is frozen, every domain returns its frozen values and DRAM none. -/
def State.chainPeek (s : State) (a : Nat) : Option Word × State :=
  if ! s.live then
    if a < 2 ^ 32 then
      match msixAt a with
      | some (h, i) => (some (s.msixRead h i), s)
      | none => (some (((regAt a).map (s.regVal .chain)).getD 0), s)
    else if a < dramBase then (some (s.tableWord a), s)
    else (none, s)
  else
    match s.intDom .chain a with
    | none => (some (s.accRead .chain a true).1, s)
    | some k =>
      let t := s.reach .chain k true
      if ! t.1 then (none, t.2)
      else if a < 2 ^ 32 then (some (t.2.accRead .chain a true).1, t.2)
      else if a < dramBase then (some (t.2.tableWord a), t.2)
      else if t.2.inService a then (some (t.2.dramWord a), t.2)
      else (none, t.2)

/-- The words of a list of results, none where one is missing. -/
def allSome (l : List (Option Word)) : Option (List Word) :=
  l.foldr (fun o t => o.bind fun w => t.map fun r => w :: r) (some [])

/-- R395: a peek of words in order of address. -/
def State.peekAll (s : State) (a n : Nat) : List (Option Word) × State :=
  (List.range n).foldl (fun t i =>
    let u := t.2.chainPeek (a + 4 * i)
    (t.1 ++ [u.1], u.2)) ([], s)

/-- R391, R395: a peek is answered with its words, or with ASLEEP and words that read zero. -/
def State.peekAnswer (s : State) (a n : Nat) : State :=
  let t := s.peekAll a n
  match allSome t.1 with
  | some l => t.2.answer 0 l
  | none => t.2.answer 5 (List.replicate n 0)

/-- R391: N of a PEEK or READ is in range. -/
def chainCount (f : List Word) : Bool := frmLen f = 1 && 1 ≤ (frmData f 0).toNat && (frmData f 0).toNat ≤ 1024

/-- R390, R395, R396, R410: PEEK. -/
def State.peekCmd (s : State) : State :=
  let f := s.chainReq
  let a := frmAddr f
  let n := (frmData f 0).toNat
  if ! chainCount f then s.answer 8 []
  else if ! chainSpan a n mapEnd then s.answer 2 []
  else if s.fuses.debug && 2 ^ 32 < a + 4 * n then s.answer 3 []
  else s.peekAnswer a n

/-- R395: ordinary reads of words, in order of address. -/
def State.readWords (s : State) (a n : Nat) : List Word × State :=
  (List.range n).foldl (fun t i =>
    let u := t.2.accRead .chain (a + 4 * i) false
    (t.1 ++ [u.1], u.2)) ([], s)

/-- R391: a block among the words does not answer. -/
def State.anyAsleep (s : State) (a n : Nat) : Bool :=
  (List.range n).any fun i =>
    match s.intDom .chain (a + 4 * i) with
    | some k => ! (s.reach .chain k).1
    | none => false

/-- R390, R395: READ; while the device is frozen it acts as PEEK. -/
def State.readCmd (s : State) : State :=
  let f := s.chainReq
  let a := frmAddr f
  let n := (frmData f 0).toNat
  if ! chainCount f then s.answer 8 []
  else if ! chainSpan a n (2 ^ 32) then s.answer 2 []
  else if ! s.live then s.peekAnswer a n
  else if s.anyAsleep a n then s.answer 5 (List.replicate n 0)
  else
    let t := s.readWords a n
    t.2.answer 0 t.1

/-- R391, R320: the `n` words from an address of DRAM space are in service. -/
def State.dramSpan (s : State) (a n : Nat) : Bool := (List.range n).all fun i => s.inService (a + 4 * i)

/-- R391, R396: a WRITE of DRAM space. -/
def State.chainStore (s : State) (a : Nat) (ws : List Word) : State :=
  let t := s.reach .chain domDram
  if t.1 && s.dramSpan a ws.length then (t.2.answer 0 []).dramWrite .chain a (wordBytes ws) else s.answer 5 []

/-- R390, R391, R410: WRITE; the answer precedes what the writes bring about. -/
def State.writeCmd (s : State) : State :=
  let f := s.chainReq
  let a := frmAddr f
  let n := frmLen f
  if s.fuses.debug then s.answer 3 []
  else if ! s.live then s.answer 9 []
  else if n = 0 then s.answer 8 []
  else if dramBase ≤ a && chainSpan a n mapEnd then s.chainStore a ((f.drop 3).take n)
  else if ! chainSpan a n (2 ^ 32) then s.answer 2 []
  else if s.anyAsleep a n then s.answer 5 []
  else (List.range n).foldl (fun st i => st.accWrite .chain (a + 4 * i) (frmData f i)) (s.answer 0 [])

/-! ### Read-out and image (R406-R408) -/

/-- R407, R410: READOUT; a mask of 0 ends a read-out in progress. -/
def State.readoutCmd (s : State) : State :=
  let f := s.chainReq
  let mask := frmData f 0
  if s.fuses.debug then s.answer 3 []
  else if frmLen f ≠ 1 then s.answer 8 []
  else if s.live then s.answer 6 []
  else if mask = 0 then ({ s with chain := { s.chain with readout := none } } : State).answer 0 []
  else
    let key := (wAt f 0).toNat + mask.toNat * 2 ^ 32
    ({ s with chain := { s.chain with readout := some (key, 0, (0, 1) :: s.sections mask) } } : State).chainPop

/-- R407: the next burst of a read-out. -/
def State.nextBurst (s : State) : State :=
  match s.chain.readout with
  | some (key, n, (sec, len) :: t) =>
    let w0 := wd key
    let mask := wd (key / 2 ^ 32)
    let left := if n + 1 < len then some (key, n + 1, (sec, len) :: t) else if t = [] then none else some (key, 0, t)
    let s := s.chainSend w0 (fld w0 31 28) (sec * 2 ^ 32 + 4096 * n) 0 (s.burst mask sec n)
    { s with chain := { s.chain with readout := left }, free := s.free + 2 ^ 32 }
  | _ => { s with chain := { s.chain with readout := none } }

/-- R408, R410: IMAGE: it keeps its place among the requests until its answer is sent (R389). -/
def State.imageCmd (s : State) : State :=
  let f := s.chainReq
  if s.fuses.debug then s.answer 3 []
  else if frmLen f ≠ 1 then s.answer 8 []
  else if s.live then s.answer 6 []
  else if ! s.frz.frzEn || ! s.frz.frzOk then s.answer 10 []
  else { s with chain := { s.chain with imaging := some f } }

/-- R408: one section, or the directory, is copied to an address of DRAM. -/
def State.imageSec (s : State) (mask : Word) (sec len a : Nat) : State :=
  (List.range len).foldl (fun st n =>
    let b := wordBytes (st.burst mask sec n)
    (List.range 16).foldl (fun u i => u.dramLay (a + 4096 * n + 256 * i) (slice b (256 * i) 256)) st) s

/-- R408: the directory and the selected sections are copied to the freeze image area. -/
def State.imageCopy (s : State) (mask : Word) : State :=
  match s.frzArea with
  | none => s
  | some (_, a) =>
    let t := ((0, 1) :: s.sections mask).foldl (fun (st : State × Nat) p =>
      (st.1.imageSec mask p.1 p.2 st.2, st.2 + 4096 * p.2)) (s, a)
    { t.1 with free := t.1.free + 2 ^ 32 }

/-- R408: the copy ends, and its response is sent. -/
def State.imageDone (s : State) : State :=
  match s.chain.imaging with
  | some f => (({ s with chain := { s.chain with imaging := none } } : State).imageCopy (frmData f 0)).reply f 0 [] |>.ownPop
  | none => s

/-! ### Fuses (R409, R410) -/

/-- R390, R409: BLOW with its KEY and fuse: it keeps its place among the requests until its answer is sent
(R389). -/
def State.blowCmd (s : State) : State :=
  let f := s.chainReq
  let w := frmData f 0
  if frmLen f = 1 && fld w 31 24 = 0xB7 && (fld w 1 0 = 1 || fld w 1 0 = 2) then
    { s with chain := { s.chain with blowing := some f } }
  else s.answer 8 []

/-- R409: the blow completes. -/
def State.blowDone (s : State) : State :=
  match s.chain.blowing with
  | some f =>
    let one := fld (frmData f 0) 1 0 = 1
    let z := s.fuses
    let fuses := if one then { z with payload := true } else { z with debug := true }
    ({ s with fuses := fuses, chain := { s.chain with blowing := none } } : State).reply f 0 [] |>.ownPop
  | none => s

/-! ### Freeze (R402, R403) -/

/-- R403: step 5: the clocks stop, and the links go down. -/
def State.stopClocks (s : State) : State :=
  let s : State := { s with frz := { s.frz with stopped := true, freeAt := s.free } }
  (s.setHst 0 { s.hst 0 with linkUp := false }).setHst 1 { (s.setHst 0 { s.hst 0 with linkUp := false }).hst 1 with linkUp := false }

/-! ### Meanings -/

/-- CHAIN_FRAME (R386-R389). -/
def execChainFrame (words : List Word) (s : State) : Host.Outcome State Fault Refusal :=
  act true (fun s => s.chainRx words) s

/-- ENUM (R393). -/
def execEnum (s : State) : Host.Outcome State Fault Refusal := act (s.chainHead 1) (fun s => s.enumUnit) s

/-- IDENT (R391, R392). -/
def execIdent (s : State) : Host.Outcome State Fault Refusal := act (s.chainHead 2) (fun s => s.identCmd) s

/-- PEEK (R395, R396). -/
def execPeek (s : State) : Host.Outcome State Fault Refusal := act (s.chainHead 3) (fun s => s.peekCmd) s

/-- CHAIN_READ (R395). -/
def execChainRead (s : State) : Host.Outcome State Fault Refusal := act (s.chainHead 4) (fun s => s.readCmd) s

/-- CHAIN_WRITE (R390). -/
def execChainWrite (s : State) : Host.Outcome State Fault Refusal := act (s.chainHead 5) (fun s => s.writeCmd) s

/-- FREEZE (R402). -/
def execFreeze (s : State) : Host.Outcome State Fault Refusal := act (s.chainHead 6) (fun s => s.chainFreeze) s

/-- RESET of the chain (R390, R382). -/
def execChainReset (s : State) : Host.Outcome State Fault Refusal := act (s.chainHead 7) (fun s => s.chainReset) s

/-- READOUT (R407): one that starts a read-out waits for the end of that in progress. -/
def execReadout (s : State) : Host.Outcome State Fault Refusal :=
  act (s.chainHead 8 && (s.chain.readout.isNone || frmData s.chainReq 0 = 0)) (fun s => s.readoutCmd) s

/-- The next burst of a read-out (R407). -/
def execReadoutBurst (s : State) : Host.Outcome State Fault Refusal :=
  act s.chain.readout.isSome (fun s => s.nextBurst) s

/-- IMAGE (R408): one waits for the end of that in progress. -/
def execImage (s : State) : Host.Outcome State Fault Refusal :=
  act (s.chainHead 9 && s.chain.imaging.isNone) (fun s => s.imageCmd) s

/-- IMAGE_COPY_DONE (R408). -/
def execImageCopyDone (s : State) : Host.Outcome State Fault Refusal :=
  act s.chain.imaging.isSome (fun s => s.imageDone) s

/-- BLOW (R409): one waits for the end of that in progress. -/
def execBlow (s : State) : Host.Outcome State Fault Refusal :=
  act (s.chainHead 10 && s.chain.blowing.isNone) (fun s => s.blowCmd) s

/-- FUSE_BLOWN (R409). -/
def execFuseBlown (s : State) : Host.Outcome State Fault Refusal :=
  act s.chain.blowing.isSome (fun s => s.blowDone) s

/-- ASSERT (R404): a write of CHN_FRZ_CTL with ASSERT and its KEY. -/
def execAssert (_r : Req) (v : Word) (s : State) : Host.Outcome State Fault Refusal :=
  act s.regOn (fun s => s.writeFrzCtl (setFld (v ||| flag 31 true) 7 0 0xF2)) s

/-- FREEZE_N_LOW (R402, R436): the line is seen low. -/
def execFreezeNLow (s : State) : Host.Outcome State Fault Refusal :=
  act (s.live && s.frz.honour && bit (s.rg .chnFrzCtl) 30) (fun s => s.freezeLatch 4 0 0 false) s

/-- FREEZE_N_HIGH (R402): not while this device drives the line. -/
def execFreezeNHigh (s : State) : Host.Outcome State Fault Refusal :=
  act (! s.frz.drives) (fun s => { s with frz := { s.frz with honour := true } }) s

/-- CLOCK_STOP (R403). -/
def execClockStop (s : State) : Host.Outcome State Fault Refusal :=
  act (s.frz.frozen && ! s.frz.stopped && s.frz.at_ + 2560 ≤ s.mono) (fun s => s.stopClocks) s

end Sys2Proof.Machine
end

