-- ==== Sys2Proof/Machine/Dispatch.lean ====
section
/-! DEFINITION. The meaning of each command, one arm per constructor. -/

namespace Sys2Proof.Machine

open Sys2Proof

/-- The effect of one command on everything but the queue. -/
def exec (i : Instr) (s : State) : Host.Outcome State Fault Refusal :=
  match i with
  | .receiveFrame lp bytes aligned sof slots => Sys2Proof.Machine.execReceiveFrame lp bytes aligned sof slots s
  | .overflowSearch pg => Sys2Proof.Machine.execOverflowSearch pg s
  | .dispatch pg => Sys2Proof.Machine.execDispatch pg s
  | .microwordIssue c e t slot upset => Sys2Proof.Machine.execMicrowordIssue c e t slot upset s
  | .treeReadReturn c e t ecc => Sys2Proof.Machine.execTreeReadReturn c e t ecc s
  | .scratchLoadReturn c e t ecc => Sys2Proof.Machine.execScratchLoadReturn c e t ecc s
  | .counterAddReturn c e t => Sys2Proof.Machine.execCounterAddReturn c e t s
  | .storeBufferDrain c e t ecc => Sys2Proof.Machine.execStoreBufferDrain c e t ecc s
  | .lockGrant c line => Sys2Proof.Machine.execLockGrant c line s
  | .backgroundStart c e t => Sys2Proof.Machine.execBackgroundStart c e t s
  | .resequence lp => Sys2Proof.Machine.execResequence lp s
  | .police pg holdEcc buf => Sys2Proof.Machine.execPolice pg holdEcc buf s
  | .replicaEnqueue q n => Sys2Proof.Machine.execReplicaEnqueue q n s
  | .schedulerPick lp => Sys2Proof.Machine.execSchedulerPick lp s
  | .egressReadStart lp delay ecc => Sys2Proof.Machine.execEgressReadStart lp delay ecc s
  | .transmitEnd lp => Sys2Proof.Machine.execTransmitEnd lp s
  | .hostQueuePick h => Sys2Proof.Machine.execHostQueuePick h s
  | .puntWrite h => Sys2Proof.Machine.execPuntWrite h s
  | .portDownFlush u n => Sys2Proof.Machine.execPortDownFlush u n s
  | .ageCheck q n => Sys2Proof.Machine.execAgeCheck q n s
  | .portCfgWrite r pg p v => Sys2Proof.Machine.execPortCfgWrite r pg p v s
  | .subPortEnable r lp v => Sys2Proof.Machine.execSubPortEnable r lp v s
  | .subPortDisable r lp v => Sys2Proof.Machine.execSubPortDisable r lp v s
  | .trainingComplete lp => Sys2Proof.Machine.execTrainingComplete lp s
  | .upHoldExpiry lp => Sys2Proof.Machine.execUpHoldExpiry lp s
  | .linkFault lp am lf rf hs => Sys2Proof.Machine.execLinkFault lp am lf rf hs s
  | .downHoldExpiry lp => Sys2Proof.Machine.execDownHoldExpiry lp s
  | .subPortAutoResume lp => Sys2Proof.Machine.execSubPortAutoResume lp s
  | .expanderInit r pg v => Sys2Proof.Machine.execExpanderInit r pg v s
  | .cagePoll pg inputs => Sys2Proof.Machine.execCagePoll pg inputs s
  | .expanderOutputWrite pg e => Sys2Proof.Machine.execExpanderOutputWrite pg e s
  | .moduleTransfer r pg v => Sys2Proof.Machine.execModuleTransfer r pg v s
  | .transferSegment pg e data => Sys2Proof.Machine.execTransferSegment pg e data s
  | .stretchTimeout pg expander => Sys2Proof.Machine.execStretchTimeout pg expander s
  | .pwrSettleExpiry cg => Sys2Proof.Machine.execPwrSettleExpiry cg s
  | .releaseTimeout cg => Sys2Proof.Machine.execReleaseTimeout cg s
  | .powerOn r cg => Sys2Proof.Machine.execPowerOn r cg s
  | .highPower r cg => Sys2Proof.Machine.execHighPower r cg s
  | .lowPower r cg => Sys2Proof.Machine.execLowPower r cg s
  | .release r cg => Sys2Proof.Machine.execRelease r cg s
  | .resetPulse r cg => Sys2Proof.Machine.execResetPulse r cg s
  | .cancel r cg => Sys2Proof.Machine.execCancel r cg s
  | .ascCopyWrite pipe => Sys2Proof.Machine.execAscCopyWrite pipe s
  | .ascCompare unit upsets => Sys2Proof.Machine.execAscCompare unit upsets s
  | .ascRepair pipe => Sys2Proof.Machine.execAscRepair pipe s
  | .learnInsert => Sys2Proof.Machine.execLearnInsert s
  | .ageingVisit => Sys2Proof.Machine.execAgeingVisit s
  | .read data ok => Sys2Proof.Machine.execRead data ok s
  | .writeIndex data => Sys2Proof.Machine.execWriteIndex data s
  | .insert data => Sys2Proof.Machine.execInsert data s
  | .delete data => Sys2Proof.Machine.execDelete data s
  | .search data ok => Sys2Proof.Machine.execSearch data ok s
  | .treeWrite data => Sys2Proof.Machine.execTreeWrite data s
  | .treeRetire => Sys2Proof.Machine.execTreeRetire s
  | .setRoot => Sys2Proof.Machine.execSetRoot s
  | .beginStage => Sys2Proof.Machine.execBeginStage s
  | .waitingBeginStage => Sys2Proof.Machine.execWaitingBeginStage s
  | .commit => Sys2Proof.Machine.execCommit s
  | .pipeFlip pipe => Sys2Proof.Machine.execPipeFlip pipe s
  | .commitComplete => Sys2Proof.Machine.execCommitComplete s
  | .flipTimeout => Sys2Proof.Machine.execFlipTimeout s
  | .drainComplete => Sys2Proof.Machine.execDrainComplete s
  | .drainTimeout => Sys2Proof.Machine.execDrainTimeout s
  | .epochFlush n => Sys2Proof.Machine.execEpochFlush n s
  | .settleSweep n => Sys2Proof.Machine.execSettleSweep n s
  | .abortStage => Sys2Proof.Machine.execAbortStage s
  | .forceAbort r v => Sys2Proof.Machine.execForceAbort r v s
  | .abortSweep n => Sys2Proof.Machine.execAbortSweep n s
  | .bulkStage subs => Sys2Proof.Machine.execBulkStage subs s
  | .flushLearned => Sys2Proof.Machine.execFlushLearned s
  | .settleWait => Sys2Proof.Machine.execSettleWait s
  | .ageNow => Sys2Proof.Machine.execAgeNow s
  | .setWidth => Sys2Proof.Machine.execSetWidth s
  | .tblCmdGo r bank v => Sys2Proof.Machine.execTblCmdGo r bank v s
  | .clusterReset r c v => Sys2Proof.Machine.execClusterReset r c v s
  | .clusterResetComplete c => Sys2Proof.Machine.execClusterResetComplete c s
  | .slotInvalidate r c v => Sys2Proof.Machine.execSlotInvalidate r c v s
  | .activeSlot r c v => Sys2Proof.Machine.execActiveSlot r c v s
  | .admitWrite r c v => Sys2Proof.Machine.execAdmit r c v s
  | .slotTableSwitch c => Sys2Proof.Machine.execSlotTableSwitch c s
  | .imageLoadStart r v => Sys2Proof.Machine.execImageLoadStart r v s
  | .imageLoadAbort r v => Sys2Proof.Machine.execImageLoadAbort r v s
  | .imageData r v => Sys2Proof.Machine.execImageData r v s
  | .imageFillComplete => Sys2Proof.Machine.execImageFillComplete s
  | .digestCompare c set => Sys2Proof.Machine.execDigestCompare c set s
  | .digestRecheck c set => Sys2Proof.Machine.execDigestRecheck c set s
  | .spareTaken c => Sys2Proof.Machine.execSpareTaken c s
  | .knownAnswerSelfTest c fail => Sys2Proof.Machine.execKnownAnswerSelfTest c fail s
  | .rearm r c v fail => Sys2Proof.Machine.execRearm r c v fail s
  | .sentinelRotation c => Sys2Proof.Machine.execSentinelRotation c s
  | .rotationComplete c => Sys2Proof.Machine.execRotationComplete c s
  | .retireWrite r c v => Sys2Proof.Machine.execRetireWrite r c v s
  | .chipCommit r v => Sys2Proof.Machine.execChipCommit r v s
  | .intervalClose => Sys2Proof.Machine.execIntervalClose s
  | .ledgerCheck => Sys2Proof.Machine.execLedgerCheck s
  | .histogramPeriodEnd => Sys2Proof.Machine.execHistogramPeriodEnd s
  | .digestBatchEmit => Sys2Proof.Machine.execDigestBatchEmit s
  | .bandwidthWindowEnd => Sys2Proof.Machine.execBandwidthWindowEnd s
  | .peakClearPort r v => Sys2Proof.Machine.execPeakClearPort r v s
  | .peakClearAll r v => Sys2Proof.Machine.execPeakClearAll r v s
  | .counterGroupClear r hi v => Sys2Proof.Machine.execCounterGroupClear r hi v s
  | .imbalancePop r => Sys2Proof.Machine.execImbalancePop r s
  | .mcLogPop r c => Sys2Proof.Machine.execMcLogPop r c s
  | .historyPop r ecc => Sys2Proof.Machine.execHistoryPop r ecc s
  | .counterReadClear p => Sys2Proof.Machine.execCounterReadClear p s
  | .lowWordLatch p => Sys2Proof.Machine.execLowWordLatch p s
  | .registerWrite p v => Sys2Proof.Machine.execRegisterWrite p v s
  | .misalignedAccess h addr write => Sys2Proof.Machine.execMisalignedAccess h addr write s
  | .unsupportedRequest h kind => Sys2Proof.Machine.execUnsupportedRequest h kind s
  | .bar4Access h off len write => Sys2Proof.Machine.execBar4Access h off len write s
  | .vectorUnmask h vec => Sys2Proof.Machine.execVectorUnmask h vec s
  | .l0sEntry h => Sys2Proof.Machine.execL0sEntry h s
  | .l1Entry h => Sys2Proof.Machine.execL1Entry h s
  | .linkUp h width speed => Sys2Proof.Machine.execLinkUp h width speed s
  | .linkDown h => Sys2Proof.Machine.execLinkDown h s
  | .hotReset h => Sys2Proof.Machine.execHotReset h s
  | .functionLevelReset h => Sys2Proof.Machine.execFunctionLevelReset h s
  | .perstAssert h => Sys2Proof.Machine.execPerstAssert h s
  | .busMasterDisable h => Sys2Proof.Machine.execBusMasterDisable h s
  | .leave r h v => Sys2Proof.Machine.execLeave r h v s
  | .present r h v => Sys2Proof.Machine.execPresent r h v s
  | .paleReturn k => Sys2Proof.Machine.execPaleReturn k s
  | .rngNudge r h v => Sys2Proof.Machine.execRngNudge r h v s
  | .doorbellPoll h => Sys2Proof.Machine.execDoorbellPoll h s
  | .doorbellFetchComplete h words => Sys2Proof.Machine.execDoorbellFetchComplete h words s
  | .descriptorFetch h t => Sys2Proof.Machine.execDescriptorFetch h t s
  | .descriptorFetchComplete h t descs => Sys2Proof.Machine.execDescriptorFetchComplete h t descs s
  | .writeBack h t => Sys2Proof.Machine.execWriteBack h t s
  | .ringEnable r h t v count => Sys2Proof.Machine.execRingEnable r h t v count s
  | .ringDisable r h t v => Sys2Proof.Machine.execRingDisable r h t v s
  | .injectPipelineEntry h j slots macWaiting late => Sys2Proof.Machine.execInjectPipelineEntry h j slots macWaiting late s
  | .injectDirectEntry h j buf => Sys2Proof.Machine.execInjectDirectEntry h j buf s
  | .injectDataRead h j data => Sys2Proof.Machine.execInjectDataRead h j data s
  | .dmaGo r ch v => Sys2Proof.Machine.execDmaGo r ch v s
  | .dmaAbort r ch v => Sys2Proof.Machine.execDmaAbort r ch v s
  | .programFetch ch prog => Sys2Proof.Machine.execProgramFetch ch prog s
  | .move ch src srcOk => Sys2Proof.Machine.execMove ch src srcOk s
  | .loop ch => Sys2Proof.Machine.execLoop ch s
  | .wait ch => Sys2Proof.Machine.execWait ch s
  | .waitPoll ch => Sys2Proof.Machine.execWaitPoll ch s
  | .waitExpiry ch => Sys2Proof.Machine.execWaitExpiry ch s
  | .signal ch => Sys2Proof.Machine.execSignal ch s
  | .fence ch => Sys2Proof.Machine.execFence ch s
  | .nop ch => Sys2Proof.Machine.execNop ch s
  | .dmaEnd ch => Sys2Proof.Machine.execDmaEnd ch s
  | .writeAcknowledge ch host ok => Sys2Proof.Machine.execWriteAcknowledge ch host ok s
  | .train r v => Sys2Proof.Machine.execTrain r v s
  | .trainingDone c ok => Sys2Proof.Machine.execTrainingDone c ok s
  | .refresh c rank postpone => Sys2Proof.Machine.execRefresh c rank postpone s
  | .temperatureRead c hot => Sys2Proof.Machine.execTemperatureRead c hot s
  | .zqCalibration c ok => Sys2Proof.Machine.execZqCalibration c ok s
  | .dqsOscillatorCheck c ok => Sys2Proof.Machine.execDqsOscillatorCheck c ok s
  | .dramRequest who addr len write => Sys2Proof.Machine.execDramRequest who addr len write s
  | .dramRead c pick ecc => Sys2Proof.Machine.execDramRead c pick ecc s
  | .dramWrite c pick => Sys2Proof.Machine.execDramWrite c pick s
  | .writeDrain c => Sys2Proof.Machine.execWriteDrain c s
  | .selfRefreshEntry c => Sys2Proof.Machine.execSelfRefreshEntry c s
  | .selfRefreshExit c => Sys2Proof.Machine.execSelfRefreshExit c s
  | .patrolScrub c ecc => Sys2Proof.Machine.execPatrolScrub c ecc s
  | .migrationChunk c eccs => Sys2Proof.Machine.execMigrationChunk c eccs s
  | .offline r c v => Sys2Proof.Machine.execOffline r c v s
  | .dramResume r c v => Sys2Proof.Machine.execDramResume r c v s
  | .migrate r c v => Sys2Proof.Machine.execMigrate r c v s
  | .faultWindowEnd => Sys2Proof.Machine.execFaultWindowEnd s
  | .historyLost r v => Sys2Proof.Machine.execHistoryLost r v s
  | .sramScrub m idx ecc => Sys2Proof.Machine.execSramScrub m idx ecc s
  | .controlStoreScrub c slot addr upset => Sys2Proof.Machine.execControlStoreScrub c slot addr upset s
  | .ageingMeasure m drift => Sys2Proof.Machine.execAgeingMeasure m drift s
  | .onlineTestStart r v => Sys2Proof.Machine.execOnlineTestStart r v s
  | .onlineTestEnd failed engines checker => Sys2Proof.Machine.execOnlineTestEnd failed engines checker s
  | .quadrantOffline r v => Sys2Proof.Machine.execQuadrantOffline r v s
  | .shadeRequest r k v => Sys2Proof.Machine.execShadeRequest r k v s
  | .shadeStep k => Sys2Proof.Machine.execShadeStep k s
  | .domainReset r k v => Sys2Proof.Machine.execDomainReset r k v s
  | .reloadStart r v => Sys2Proof.Machine.execReloadStart r v s
  | .reloadComplete pg => Sys2Proof.Machine.execReloadComplete pg s
  | .ppsEdge => Sys2Proof.Machine.execPpsEdge s
  | .ppsFault => Sys2Proof.Machine.execPpsFault s
  | .timeSetSec r v => Sys2Proof.Machine.execTimeSetSec r v s
  | .powerOnReset straps senseFault => Sys2Proof.Machine.execPowerOnReset straps senseFault s
  | .chipReset r v => Sys2Proof.Machine.execChipReset r v s
  | .fwdEn r v => Sys2Proof.Machine.execFwdEn r v s
  | .pllLock k => Sys2Proof.Machine.execPllLock k s
  | .rail loss detail => Sys2Proof.Machine.execRail loss detail s
  | .thermalEvent temp => Sys2Proof.Machine.execThermalEvent temp s
  | .chainFrame words => Sys2Proof.Machine.execChainFrame words s
  | .enum => Sys2Proof.Machine.execEnum s
  | .ident => Sys2Proof.Machine.execIdent s
  | .peek => Sys2Proof.Machine.execPeek s
  | .chainRead => Sys2Proof.Machine.execChainRead s
  | .chainWrite => Sys2Proof.Machine.execChainWrite s
  | .freeze => Sys2Proof.Machine.execFreeze s
  | .chainReset => Sys2Proof.Machine.execChainReset s
  | .readout => Sys2Proof.Machine.execReadout s
  | .readoutBurst => Sys2Proof.Machine.execReadoutBurst s
  | .image => Sys2Proof.Machine.execImage s
  | .imageCopyDone => Sys2Proof.Machine.execImageCopyDone s
  | .blow => Sys2Proof.Machine.execBlow s
  | .fuseBlown => Sys2Proof.Machine.execFuseBlown s
  | .assert r v => Sys2Proof.Machine.execAssert r v s
  | .freezeNLow => Sys2Proof.Machine.execFreezeNLow s
  | .clockStop => Sys2Proof.Machine.execClockStop s
  | .halt r v => Sys2Proof.Machine.execHalt r v s
  | .forceHalt r v => Sys2Proof.Machine.execForceHalt r v s
  | .resume r v => Sys2Proof.Machine.execResume r v s
  | .step r v => Sys2Proof.Machine.execStep r v s
  | .abortPkt r v => Sys2Proof.Machine.execAbortPkt r v s
  | .haltMaxExpiry c e t => Sys2Proof.Machine.execHaltMaxExpiry c e t s
  | .alignmentMarkerLock lp => Sys2Proof.Machine.execAlignmentMarkerLock lp s
  | .serdesCal sx refLost => Sys2Proof.Machine.execSerdesCal sx refLost s
  | .bridgeLane ev detail => Sys2Proof.Machine.execBridgeLane ev detail s
  | .coalescingTimeExpiry h t => Sys2Proof.Machine.execCoalescingTimeExpiry h t s
  | .freezeNHigh => Sys2Proof.Machine.execFreezeNHigh s
  | .bufferWriteEnd b => Sys2Proof.Machine.execBufferWriteEnd b s

end Sys2Proof.Machine
end

