-- ==== Sys2Proof/Safety.lean ====
section
/-! DEFINITION. The terms in which claims are stated: a command that completes, a block that register
accesses reach, and what no command may alter. -/

namespace Sys2Proof.Machine

open Sys2Proof

/-- A command answers a next state, of which `p` holds. -/
def Completes (i : Instr) (s : State) (p : State → Prop) : Prop := ∃ t, exec i s = .next t ∧ p t

/-- A command answers the state `t`, as the interrupt unit leaves it (R280-R283). -/
def Becomes (i : Instr) (s t : State) : Prop := exec i s = .next t.intSweep

/-- R277, R374, R403: register accesses to a block of power domain `k` are served, and an access alone
changes nothing: registers are served, the domain is not fused off, is Active and in no step, and no
access has woken it from Pale. -/
def State.Open (s : State) (k : Nat) : Prop :=
  s.regOn = true ∧ s.fusedDom k = false ∧ (s.dmn k).shade = .active ∧ (s.dmn k).moving = false ∧
    (s.dmn k).woken = none

/-- R247: an account's running balance: what has entered it, less what has left it, less the frames that it
holds. -/
def State.running (s : State) (acct : Nat) : Int :=
  (allTerms.foldl (fun (d : Int) t =>
    let c : Nat := tget (fun _ => 0) s.led.cnt (acct * 16 + t.idx)
    if t.enters then d + c else d - c) 0) - (s.heldBy acct : Nat)

/-- R409, R417: what the factory fixed is as it was, and a fuse that was blown is blown. -/
def State.FuseSafe (s t : State) : Prop :=
  t.ident = s.ident ∧ (s.fuses.factory = true → t.fuses.factory = true) ∧
    (s.fuses.payload = true → t.fuses.payload = true) ∧ (s.fuses.debug = true → t.fuses.debug = true)

/-- R4: the state of a production part: the factory fuse is blown. -/
def State.Production (s : State) : Prop := s.fuses.factory = true

/-- What `f` shows of a state is, after the command, what it was: of every state, whatever the command
does there. -/
def Keeps {α : Type} (i : Instr) (f : State → α) : Prop := ∀ s t, exec i s = .next t → f t = f s

/-- The same, of every state of which `p` holds. -/
def KeepsWhere {α : Type} (p : State → Prop) (i : Instr) (f : State → α) : Prop :=
  ∀ s t, p s → exec i s = .next t → f t = f s

/-- R353: no buffer and no frame in a holding store is marked as having failed a scrub. -/
def State.Sound (s : State) : Prop := (∀ b, (s.bufr b).ecc = false) ∧ ∀ k, (s.pkt k).holdEcc = false

/-- A state with nothing of what a woken port group does (R277, R370, R375): its domain, its role in the frames'
path, its clusters' roles, a replica that it did not keep, and its buckets, which it fills (R233). -/
def State.besideWoken (s : State) : State :=
  { s with
    clusters := [], dom := [], groups := [], reload := {}, sched := { s.sched with pol := [] },
    tbl := { s.tbl with staR := [], nbrR := [] } }

/-- A state with nothing of links, rings, registers and what leaves the block. -/
def State.besideRings (s : State) : State :=
  { s with hosts := [], rings := [], held := [], out := [] }

/-- A state with nothing of DMA channels, registers, links and what leaves the block. -/
def State.besideDma (s : State) : State :=
  { s with dma := [], hosts := [], held := [], out := [] }

/-- A state with nothing of DRAM. -/
def State.besideDram (s : State) : State :=
  { s with dram := {}, free := 0, hosts := [], out := [] }

/-- A state with nothing of the chain unit. -/
def State.besideChain (s : State) : State :=
  { s with chain := {}, free := 0, hosts := [], out := [] }

/-- A state with nothing of the chain unit, the freeze, and what a freeze halts. -/
def State.besideFreeze (s : State) : State :=
  { s with
    chain := {}, frz := {}, clusters := [], threads := [], dram := {}, dma := [], free := 0, held := [],
    hosts := [], out := [] }

/-- A state with nothing of clusters and their threads. -/
def State.besideThreads (s : State) : State :=
  { s with clusters := [], threads := [], hosts := [], out := [] }

/-- A state with nothing of a packet's way through the engines. -/
def State.besidePackets (s : State) : State :=
  { s with
    clusters := [], dbg := [], dom := [], dram := {}, groups := [], held := [], hosts := [], led := {},
    out := [], pkts := [], reseq := [], rings := [], tel := {}, threads := [], wide := [] }

/-- A state with nothing of images and control stores. -/
def State.besideCode (s : State) : State :=
  { s with
    clusters := [], cstore := [], dom := [], groups := [], held := [], hosts := [], img := {}, led := {},
    out := [], tel := {} }

/-- A state with nothing of the command unit and the epoch unit. -/
def State.besideCommands (s : State) : State :=
  { s with cu := {}, epc := {}, free := 0, held := [], hosts := [], out := [], rings := [] }

/-- A state with nothing of tables, their commands and the epoch unit, and of what a port group does that their writes
wake (R444). -/
def State.besideTables (s : State) : State :=
  { s with
    clusters := [], cu := {}, dom := [], epc := {}, free := 0, groups := [], held := [], hosts := [],
    led := {}, out := [], reload := {}, rings := [], sched := { s.sched with pol := [] }, tbl := {}, tel := {} }

/-- A state with nothing of ports, queues, schedulers and buffers. -/
def State.besidePorts (s : State) : State :=
  { s with
    buf := {}, dram := {}, groups := [], held := [], hosts := [], led := {}, out := [], ports := [],
    reseq := [], rxAt := [], sched := {}, tel := {}, wide := [] }

/-- A state with nothing of ports and cages. -/
def State.besideCages (s : State) : State :=
  { s with
    buf := {}, buses := [], cages := [], clusters := [], dom := [], dram := {}, groups := [], held := [],
    hosts := [], led := {}, out := [], ports := [], rxAt := [], sched := {}, tel := {}, wide := [] }

/-- A state with nothing of what a host owns and holds. -/
def State.besideHost (s : State) : State :=
  { s with
    buf := {}, cu := {}, dma := [], dram := {}, epc := {}, groups := [], held := [], hosts := [],
    latch := [], led := {}, out := [], priv := [], rings := [], sched := {}, tel := {}, wide := [] }

/-- A state with nothing of the ledger and telemetry. -/
def State.besideLedger (s : State) : State :=
  { s with
    clusters := [], dom := [], dram := {}, groups := [], held := [], hosts := [], led := {}, out := [],
    rings := [], tel := {}, time := {}, wide := [] }

/-- A state with nothing of frames on their way, and the lookups they make. -/
def State.besideFrames (s : State) : State :=
  { s with
    buf := {}, clusters := [], cu := {}, dom := [], dram := {}, groups := [], held := [], hosts := [],
    led := {}, nextPkt := 0, out := [], pkts := [], ports := [], reseq := [], rings := [], sched := {},
    tbl := { s.tbl with hit := [] }, tel := {}, wide := [] }

/-- A state with nothing of the fault collector and its tests. -/
def State.besideFaults (s : State) : State :=
  { s with clusters := [], flt := {}, held := [], hosts := [], out := [] }

/-- A state with nothing of DRAM, and what an access to it wakes. -/
def State.besideQueues (s : State) : State :=
  { s with
    clusters := [], dom := [], dram := {}, groups := [], held := [], hosts := [], led := {}, out := [],
    tel := {}, free := 0 }

end Sys2Proof.Machine
end

