-- ==== Sys2Proof/Certificates/Slice0/Obligations.lean ====
section
/-! DEFINITION. The statements for the provers: what each command does, command family by command family,
and what no command may do. A clause about a command gives the state and the operands alone, and
concludes that the command completes and what then holds. -/

open Sys2Proof Sys2Proof.Machine

/-! ### The machine as a whole -/

/-- A step with a command at the front of the queue is that command, run on the state with the queue's rest.
-/
def Obligations.StepRunsFront : Prop :=
  ∀ (c : Instr) (rest : List Instr) (s : State),
    s.pending = c :: rest → Machine.step s = exec c { s with pending := rest }

/-- R379: with no command waiting, a step is a count of the time base: while the clocks run, device time
advances by one but for trimming, and nothing but the time unit changes, unless the time reached ends the
ledger's interval: then the counting points close with it (R251). That an empty queue stands for the passing
of time is the model's choice (log entry 1). -/
def Obligations.IdleStepIsTime : Prop :=
  ∀ s : State, s.pending = [] →
    ∃ t, Machine.step s = .next t ∧
      (s.frz.stopped = true ∨ s.clkOk 153 = false → t = s) ∧
      (s.frz.stopped = false → s.clkOk 153 = true →
        (s.time.trim = 0 → t.now = s.now + 1) ∧
        (s.led.open_ = false ∨ s.isActive domTel = false ∨ t.now < s.ledEnd → t = { s with time := t.time }) ∧
        (s.led.open_ = true → s.isActive domTel = true → s.ledEnd ≤ t.now →
          t = ({ s with time := t.time } : State).closePoints))

/-- R409: no step, whatever its command, restores a blown fuse; none alters what the factory fixed, and each
takes at most the front command off the queue. -/
def Obligations.FusesStayBlown : Prop :=
  ∀ s t : State, Machine.step s = .next t → s.FuseSafe t ∧ t.pending = s.pending.tail

/-- R4: every step keeps a production part a production part. -/
def Obligations.ProductionKept : Prop :=
  ∀ s t : State, s.Production → Machine.step s = .next t → t.Production

/-- R320: the contents of DRAM are kept in one form, in which equal contents are equal data: every step
leaves them so. That the form is kept as a list of addresses that do not hold what an unlisted address reads
as is the model's own (log entry 3). -/
def Obligations.DramStaysCanonical : Prop :=
  ∀ s t : State, twf s.dramDflt s.dram.mem = true → Machine.step s = .next t →
    twf t.dramDflt t.dram.mem = true

/-- R4, R172, R370: at reset the factory fuse is blown, no command waits, the epoch unit is IDLE with Cobalt
current and Amber staging and no owner, and the port groups are Black. -/
def Obligations.ResetHolds : Prop :=
  State.reset.Production ∧ State.reset.pending = [] ∧ State.reset.epc.num = 0 ∧ State.reset.epc.c = false ∧
    State.reset.epc.s = true ∧ State.reset.epc.owner = none ∧ State.reset.epc.st = .idle ∧
    twf State.reset.dramDflt State.reset.dram.mem = true ∧
    ∀ n : Fin 8, (State.reset.dmn (domPg n)).shade = .black

/-! ### Sub-ports and flush (R49-R57) -/

/-- R49, R53, R55: the commands on a port's configuration and on the enable of a sub-port. A write of the
configuration keeps MODE while a sub-port of the port is enabled or the value is reserved, and MEDIA where that is
reserved; AN_EN and LT_EN take the values written. That a disable
leaves CFG_ERR 0 is the model's choice, since R54 does not say it (log entry 66). R57, R225: a flush engine
discards the first marked head that it finds in its unit's queues, with the unit's reason, and that alone;
with none left it has nothing to do, and a run of more is that over again. -/
def Obligations.PortControl : Prop :=
  (∀ (s : State) (r : Req) (pg p : Fin 8) (v : Word), s.Open (domPg pg) →
    Completes (.portCfgWrite r pg p v) s fun t =>
      fld (t.rg .pgPortCfg pg p) 2 0 =
        (if fld v 2 0 ≤ 5 ∧ ∀ u : Fin 4, s.lpEn (32 * pg + 4 * p + u) = false then fld v 2 0
          else fld (s.rg .pgPortCfg pg p) 2 0) ∧
      fld (t.rg .pgPortCfg pg p) 5 4 = (if fld v 5 4 = 3 then fld (s.rg .pgPortCfg pg p) 5 4 else fld v 5 4) ∧
      bit (t.rg .pgPortCfg pg p) 6 = bit v 6 ∧ bit (t.rg .pgPortCfg pg p) 7 = bit v 7 ∧
      bit (t.rg .pgPortCfg pg p) 3 = false ∧ fld (t.rg .pgPortCfg pg p) 31 8 = 0 ∧
      t.ports = s.ports ∧ t.wide = s.wide) ∧
  (∀ (s : State) (r : Req) (lp : Fin 256) (v : Word), s.Open (domPg (lp / 32)) → s.lpEn lp = false →
    (s.port lp).st = .disabled →
    let s' := s.setRg .macCtl (lp / 32) (lp % 32) ((v ||| flag 15 true) &&& 0xFFFFBFFF)
    Completes (.subPortEnable r lp v) s fun t =>
      (t.port lp).cfg = s'.laneWords lp ∧
      (t.port lp).cfgErr =
        ! (modeHas (s'.mode lp) (lp % 4) && lanesOk (s'.laneWords lp) && s'.isActive (domSx (lp / 32))) ∧
      ((t.port lp).cfgErr = false → (t.port lp).st = if s'.trains lp then .training else .aligning)) ∧
  (∀ (s : State) (r : Req) (lp : Fin 256) (v : Word), s.Open (domPg (lp / 32)) → s.lpEn lp = true →
    Completes (.subPortDisable r lp v) s fun t =>
      (t.port lp).st = .disabled ∧ (t.port lp).cfgErr = false ∧ (t.port lp).amLock = false) ∧
  (∀ (s : State) (u : FlushUnit) (n : Nat), s.live = true → s.clkOk 144 = true → s.flushDue u = true →
    let head := (flushQueues u).1.find? s.flushHead
    (head = none ∨ n = 0 → Becomes (.portDownFlush u n) s s) ∧
    (∀ q d l, head = some q → s.queue q = d :: l →
      Completes (.portDownFlush u 1) s (fun t => t.queue q = l ∧ ∀ q', q' ≠ q → t.queue q' = s.queue q') ∧
      Becomes (.portDownFlush u (n + 1)) s
        ((((s.popQueue q).queueEmptied q).dropDesc d (flushQueues u).2).flushUnit u n)))

/-- R45, R54, R55: the events that move a sub-port between its link states. A sub-port that locks enters UP
at once where its UP_HOLD has passed already, as one of 0 has. One that a cage or its SX domain forced down
is enabled again with the lane fields as they then are, and is TRAINING or ALIGNING, or has CFG_ERR. The
times run with elapsed time (log entry 68). -/
def Obligations.LinkStates : Prop :=
  ∀ (s : State) (lp : Fin 256), s.pgOn (lp / 32) = true →
    ((s.port lp).st = .training → Completes (.trainingComplete lp) s fun t => (t.port lp).st = .aligning) ∧
    ((s.port lp).st = .aligning → Completes (.alignmentMarkerLock lp) s fun t =>
      (t.port lp).amLock = true ∧ (t.port lp).localFault = false ∧ (t.port lp).remoteFault = false ∧
        (t.port lp).hiSer = false ∧
        (t.port lp).st =
          if (s.port lp).clearSince.getD s.mono + s.upHold lp ≤ s.mono ∧ s.laneHeld lp = false then .up
          else .aligning) ∧
    (∀ t0, (s.port lp).st = .aligning → (s.port lp).clear = true → (s.port lp).clearSince = some t0 →
      t0 + s.upHold lp ≤ s.mono → s.laneHeld lp = false →
      Completes (.upHoldExpiry lp) s fun t => (t.port lp).st = .up) ∧
    (∀ am lf rf hs : Bool, (s.port lp).st = .up → (am && ! lf && ! rf && ! hs) = false →
      Completes (.linkFault lp am lf rf hs) s fun t => (t.port lp).st = .hold ∧ t.buf = s.buf) ∧
    ((s.port lp).st = .hold → (s.port lp).holdSince + s.downHold lp ≤ s.mono →
      Completes (.downHoldExpiry lp) s fun t =>
        (t.port lp).st = if (s.port lp).clear then .up else if s.trains lp then .training else .aligning) ∧
    ((s.port lp).st = .disabled → s.lpEn lp = true → (s.port lp).bySx = true ∨ (s.port lp).byCage = true →
      (s.port lp).byIso = false → s.isActive (domSx (lp / 32)) = true →
      ((s.port lp).byCage = true → (s.cageSt (lp / 4)).powered = true) →
      let ok := modeHas (s.mode lp) (lp % 4) && lanesOk (s.laneWords lp)
      Completes (.subPortAutoResume lp) s fun t =>
        (t.port lp).cfg = s.laneWords lp ∧ (t.port lp).bySx = false ∧ (t.port lp).byCage = false ∧
          (t.port lp).cfgErr = ! ok ∧
          (t.port lp).st = if ok = false then .disabled else if s.trains lp then .training else .aligning)

/-! ### Cages (R60-R69) -/

/-- R63-R66: the cage bus: its start, its polls, its output writes and module transfers. A poll reads of each
expander that answers the presence, button and interrupt of its cages: presence is confirmed or lost, and a
press counts, when two polls agree. An expander that fails is tried again, after three retries it is lost, its
cages are in BUS_LOST, and nothing of them changes; a bus found held low is cleared. R437: a target that stretches
the clock too long is a module, whose transfer ends with ERR, or an expander of a poll or an output write, which
counts as one that does not answer; the bus is cleared either way. The clauses in which an expander may be lost are
about ports whose cage-bus event does not reset the chip (R344). What a write of CAGE_XFER_CTL during a transfer does
to its later segments (log entry 66), and that they go on when their cage leaves its powered states (log entry 81),
are the model's choice. The times run with elapsed time (log entry 68). -/
def Obligations.CageBus : Prop :=
  (∀ (s : State) (r : Req) (pg : Fin 8) (v : Word), s.Open (domPg pg) → bit v 24 = true →
    pollRefused v (s.rg .cageExpCfg pg) = false → bit (s.rg .cageBusCfg pg) 24 = false →
    Completes (.expanderInit r pg v) s fun t => (t.bus pg).polling = true ∧ (t.bus pg).writes = []) ∧
  (∀ (s : State) (pg : Fin 8) (l : List ExpRead) (k : Fin 4), s.pgOn pg = true → (s.bus pg).polling = true →
    (s.bus pg).lastPoll + s.pollPeriod pg ≤ s.mono →
    s.reactions (48 + pg) .orange < 16 →
    let fails := tget (fun _ => 0) (s.bus pg).fails k
    (∀ w, l[k.val]? = some (.data w) → Completes (.cagePoll pg l) s fun t =>
      (t.bus pg).lastPoll = s.mono ∧ (t.bus pg).lost.contains k.val = false ∧ tget (fun _ => 0) (t.bus pg).fails k = 0 ∧
      ∀ j : Fin 2,
        let c := 8 * pg.val + 2 * k.val + j.val
        let b := w.toNat / 256 ^ j.val % 256
        let x := s.cage c
        let y := t.cage c
        let pressed := b / 4 % 2 = 0 ∧ x.btnSeen = true ∧ x.btn = false
        y.prsSeen = (b % 2 == 0) ∧ y.modInt = (b / 2 % 2 == 0) ∧ y.btnSeen = (b / 4 % 2 == 0) ∧
        (x.st = .empty → y.st = if b % 2 = 0 then .detect else .empty) ∧
        (x.st = .detect → b % 2 = 1 → y.st = .empty) ∧
        (x.st = .detect → b % 2 = 0 → y.prs = true ∧
          y.st = if bit (s.rg .cageCtl pg (c % 8)) 0 = true ∨ pressed then .powering else .safe) ∧
        (x.st ≠ .empty → x.st ≠ .detect → x.prs = true → x.prsSeen = false → b % 2 = 1 →
          y.st = .empty ∧ y.prs = false) ∧
        (x.st ≠ .empty → x.st ≠ .detect → x.prsSeen = true ∨ x.prs = false ∨ b % 2 = 0 →
          y.st =
            if ¬ pressed then x.st
            else if x.st = .lowPower ∨ x.st = .highPower then .releaseReq
            else if x.st = .releaseReq then x.earlier
            else if x.st = .safe then .powering else x.st)) ∧
    (∀ e, l[k.val]? = some (.failed e) → Completes (.cagePoll pg l) s fun t =>
      (∀ j : Fin 2, t.cage (8 * pg.val + 2 * k.val + j.val) = s.cage (8 * pg.val + 2 * k.val + j.val)) ∧
        tget (fun _ => 0) (t.bus pg).fails k = fails + 1 ∧
        (t.bus pg).lost.contains k.val = ((s.bus pg).lost.contains k.val || decide (3 ≤ fails)) ∧
        (e = .heldLow → Out.busClear pg ∈ t.out))) ∧
  (∀ (s : State) (pg : Fin 8) (k : Nat) (l : List Nat), s.pgOn pg = true → (s.bus pg).polling = true →
    (s.bus pg).writes = k :: l → (s.bus pg).retry.contains k = false →
    Completes (.expanderOutputWrite pg .ack) s fun t =>
      (∀ i : Fin 2, let c := 8 * pg + 2 * k + i
        (t.cage c).outs = (s.cage c).want ∧
        ((s.cage c).st = .releasing → (s.cage c).off = true → (t.cage c).st = .safe)) ∧
      ((s.cage (8 * pg + 2 * k)).off = false → (s.cage (8 * pg + 2 * k + 1)).off = false →
        (t.bus pg).writes = l)) ∧
  (∀ (s : State) (pg : Fin 8) (k : Nat) (l : List Nat) (e : BusEnd), s.pgOn pg = true →
    (s.bus pg).polling = true → (s.bus pg).writes = k :: l → (s.bus pg).retry.contains k = false → e ≠ .ack →
    s.reactions (48 + pg) .orange < 16 →
    Completes (.expanderOutputWrite pg e) s fun t =>
      t.cages = s.cages ∧ (t.bus pg).retry.contains k = true ∧ (e = .heldLow → Out.busClear pg ∈ t.out)) ∧
  (∀ (s : State) (r : Req) (pg : Fin 8) (v : Word), s.Open (domPg pg) → (s.bus pg).go = false → bit v 31 = true →
    Completes (.moduleTransfer r pg v) s fun t =>
      (t.bus pg).go = ((s.cageSt (8 * pg + fld v 6 4)).powered && decide (fld v 21 14 + fld v 13 7 ≤ 255)) ∧
        (t.bus pg).err = ! (t.bus pg).go) ∧
  (∀ (s : State) (pg : Fin 8) (e : BusEnd) (data : List Byte), s.pgOn pg = true → (s.bus pg).go = true →
    let len := fld (s.rg .cageXferCtl pg) 13 7 + 1
    let done := (s.bus pg).done + min 16 (len - (s.bus pg).done)
    Completes (.transferSegment pg e data) s fun t =>
      if e = .ack then (t.bus pg).done = done ∧ (t.bus pg).go = decide (done < len)
      else (t.bus pg).go = false ∧ (t.bus pg).err = true ∧ (e = .heldLow → Out.busClear pg ∈ t.out)) ∧
  (∀ (s : State) (pg : Fin 8), s.pgOn pg = true → (s.bus pg).go = true →
    Completes (.stretchTimeout pg none) s fun t =>
      (t.bus pg).go = false ∧ (t.bus pg).err = true ∧ Out.busClear pg ∈ t.out ∧ t.cages = s.cages) ∧
  (∀ (s : State) (pg : Fin 8) (k : Fin 4), s.pgOn pg = true → (s.bus pg).polling = true →
    (s.bus pg).retry.contains k.val = false → s.reactions (48 + pg) .orange < 16 →
    let fails := tget (fun _ => 0) (s.bus pg).fails k
    Completes (.stretchTimeout pg (some k)) s fun t =>
      tget (fun _ => 0) (t.bus pg).fails k = fails + 1 ∧ (t.bus pg).retry.contains k.val = true ∧
        (t.bus pg).lost.contains k.val = ((s.bus pg).lost.contains k.val || decide (3 ≤ fails)) ∧
        (t.bus pg).go = (s.bus pg).go ∧ Out.busClear pg ∈ t.out ∧ t.cages = s.cages)

/-- R66, R68: the cage states: the host's commands and the times; RELEASING ends only with the write of power
and reset that its second time asks for. The times run with elapsed time (log entry 68). -/
def Obligations.CageStates : Prop :=
  (∀ (s : State) (r : Req) (c : Fin 64), s.Open (domPg (c / 8)) →
    (s.cageSt c = .safe → Completes (.powerOn r c) s fun t => (t.cage c).st = .powering) ∧
    (s.cageSt c = .lowPower → Completes (.highPower r c) s fun t => (t.cage c).st = .highPower) ∧
    (s.cageSt c = .highPower → Completes (.lowPower r c) s fun t => (t.cage c).st = .lowPower) ∧
    (s.cageSt c = .lowPower ∨ s.cageSt c = .highPower ∨ s.cageSt c = .releaseReq →
      Completes (.release r c) s fun t => (t.cage c).st = .releasing) ∧
    (s.cageSt c = .lowPower ∨ s.cageSt c = .highPower →
      Completes (.resetPulse r c) s fun t => (t.cage c).st = (s.cage c).st ∧ (t.cage c).pulse = true) ∧
    (s.cageSt c = .releaseReq → Completes (.cancel r c) s fun t => (t.cage c).st = (s.cage c).earlier)) ∧
  (∀ (s : State) (c : Fin 64) (t0 : Nat), s.pgOn (c / 8) = true → s.busLost c = false →
    (s.cage c).settle = some t0 → t0 + s.pwrSettle c ≤ s.mono →
    Completes (.pwrSettleExpiry c) s fun t =>
      ((s.cage c).st = .powering → (t.cage c).st = .lowPower) ∧
        ((s.cage c).st = .releasing → (t.cage c).st = .releasing ∧ (t.cage c).off = true) ∧
        ((s.cage c).st.powered = true → (t.cage c).st = (s.cage c).st ∧ (t.cage c).pulse = false)) ∧
  (∀ (s : State) (c : Fin 64), s.pgOn (c / 8) = true → s.cageSt c = .releaseReq →
    let w := s.rg .cageCtl (c / 8) (c % 8)
    fld w 9 2 ≠ 0 → (s.cage c).reqSince + fld w 9 2 * 1000000000 ≤ s.mono →
    Completes (.releaseTimeout c) s fun t =>
      (t.cage c).st = if bit w 1 then .releasing else (s.cage c).earlier)

/-! ### Frames on their way to the engines (R47, R70, R92) -/

/-- R47, R70, R383, R421: a frame that fails a check of the MAC is counted, and nothing else happens. One
that passes is counted as received, and then is refused at stamping and dropped with the reason of the
refusal, or takes a header slot and goes on to the parser. R25, R70: what a header slot gives a frame: its
time, the parity of its pipe, its port and member, the port's next sequence number and its pipe; the port's
sequence advances modulo 65,536, the rotation goes past the pipe, and the holding store is charged. -/
def Obligations.Reception : Prop :=
  (∀ (s : State) (lp : Fin 256) (f : List Byte) (ok : Bool) (sof : Nat) (slots : BitVec 6),
    s.pgOn (lp / 32) = true → (s.port lp).st.down = false →
    (∀ c, s.macFail lp f ok = some c →
      Becomes (.receiveFrame lp f ok sof slots) s (s.bump c (lp / 32) (lp % 32))) ∧
    (s.macFail lp f ok = none →
      let m := (s.addCtr .macRxOkLo (lp / 32) (lp % 32)).addLine lp 0 f.length
      (∀ r, s.stampCheck lp f.length slots = .inl r →
        Becomes (.receiveFrame lp f ok sof slots) s
          ((m.book lp s.epc.c .inn).drop .stamping r
            { lp := lp, par := s.epc.c, time := sof % 2 ^ 48, flen := f.length, bytes := f })) ∧
      (∀ p, s.stampCheck lp f.length slots = .inr p →
        let a := m.accept lp f sof p false
        Becomes (.receiveFrame lp f ok sof slots) s
          ((a.2.book lp ((((s.grp (lp / 32)).par[p]?).getD false)) .inn).parse a.1)))) ∧
  (∀ (s : State) (lp : Nat) (f : List Byte) (time pipe : Nat) (inj : Bool),
    let par := ((s.grp (lp / 32)).par[pipe]?).getD false
    let a := s.accept lp f time pipe inj
    (a.2.pkt a.1).stamp = { time := time % 2 ^ 48, epoch := par, lport := lp, member := s.memberOf lp par, seq := (s.port lp).seqNext, pipe := pipe, inject := inj } ∧
    (a.2.pkt a.1).bytes = f ∧ (a.2.port lp).seqNext = ((s.port lp).seqNext + 1) % 65536 ∧
    (a.2.grp (lp / 32)).rot = (pipe + 1) % 6 ∧
    (a.2.grp (lp / 32)).holdUnits = (s.grp (lp / 32)).holdUnits + (f.length + 255) / 256 ∧
    (∀ q, q ≠ lp → a.2.port q = s.port q) ∧ (∀ n, n ≠ lp / 32 → a.2.grp n = s.grp n))

/-- R90, R92: the search that has waited longest is served, for the address that its frame's bucket read used: with a
hit its result is recorded; either way its frame goes on once no search of its is outstanding. R96-R98, R101: a notice whose key has no entry is
inserted as a learned entry in the first room of its bucket, and where there is no room the table stays and
the key is no longer among the suppressed. R98, R99: one whose key has an entry takes a learned entry of
another target to its own, and is discarded where the entry is static or has that target; no other entry
changes. A visit of the ageing sweep goes on to the next entry, leaves a skipped one alone, clears the hit
bits and AGE1 of one that was hit, sets AGE1 of one that was not, and removes one whose AGE1 was set before.
-/
def Obligations.StationLookups : Prop :=
  (∀ (s : State) (pg : Fin 8) (x : Search) (l : List Search), s.pgOn pg = true → (s.grp pg).searches = x :: l →
    let p := s.pkt x.pkt
    let mac := macAt p.bytes (p.staOff + if x.source then 6 else 0)
    let w := (s.setGrp pg { s.grp pg with searches := l }).setPkt x.pkt
      (if x.source then { p with needSa := false } else { p with needDa := false })
    let hit := s.overflowHit (pg / 2) (recBd p.lrec) mac p.stamp.epoch
    (hit = none → Becomes (.overflowSearch pg) s (w.afterLookups x.pkt)) ∧
    (∀ key, hit = some key →
      Becomes (.overflowSearch pg) s ((w.lookHit x.pkt x.source key).afterLookups x.pkt))) ∧
  (∀ (s : State) (x : Notice) (l : List Notice) (key : Nat), s.tblOn = true → s.cu.notices = x :: l →
    s.staFind (x.key / 2 ^ 48) (x.key % 2 ^ 48) = [] →
    s.staRoom (x.key / 2 ^ 48) (x.key % 2 ^ 48) = some key →
    Completes .learnInsert s fun t =>
      t.sta key = [wd (x.key % 2 ^ 48),
        put 31 30 0 ||| put 29 16 (x.key / 2 ^ 48) ||| put 15 0 (x.key % 2 ^ 48 / 2 ^ 32),
        lrnTarget x.lport x.member x.lag, flag 31 true ||| flag 29 true] ∧
      t.cu.notices = l ∧ t.tagOf 0 key = 3 ∧ ∀ k, k ≠ key → t.sta k = s.sta k) ∧
  (∀ (s : State) (x : Notice) (l : List Notice), s.tblOn = true → s.cu.notices = x :: l →
    s.staFind (x.key / 2 ^ 48) (x.key % 2 ^ 48) = [] → s.staRoom (x.key / 2 ^ 48) (x.key % 2 ^ 48) = none →
    Completes .learnInsert s fun t => t.tbl = s.tbl ∧ t.cu.notices = l ∧ t.suppressed x.pg x.key = false) ∧
  (∀ (s : State) (x : Notice) (l : List Notice) (key life : Nat), s.tblOn = true → s.cu.notices = x :: l →
    s.staFind (x.key / 2 ^ 48) (x.key % 2 ^ 48) = [(key, life)] → life ≠ 2 →
    let e := s.sta key
    let w2 := lrnTarget x.lport x.member x.lag
    Completes .learnInsert s fun t =>
      t.cu.notices = l ∧ (∀ k, k ≠ key → t.sta k = s.sta k) ∧
      if bit (wAt e 3) 29 = true ∧ bit (wAt e 3) 30 = false ∧ tgtDiffers (wAt e 2) w2 = true then
        t.sta key = setAt e 2 w2 ∧ t.tagOf 0 key = 3
      else t.tbl = s.tbl) ∧
  (∀ s : State, s.tblOn = true → s.ageDue = true →
    let key := s.cu.ageCursor
    Completes .ageingVisit s fun t =>
      t.cu.ageCursor = (key + 1) % 540672 ∧ t.cu.ageAt = s.mono ∧
      (ageSkips (s.sta key) = true → t.tbl.sta = s.tbl.sta) ∧
      (s.ageOut key = true → t.sta key = []) ∧
      (ageSkips (s.sta key) = false → s.hitAny key = true → bit (wAt (t.sta key) 3) 28 = false ∧ t.hitAny key = false ∧
        t.sta key = setAt (s.sta key) 3 (wAt (s.sta key) 3 &&& ~~~ flag 28 true)) ∧
      (ageSkips (s.sta key) = false → s.hitAny key = false → bit (wAt (s.sta key) 3) 28 = false →
        t.sta key = setAt (s.sta key) 3 (wAt (s.sta key) 3 ||| flag 28 true)) ∧
      ∀ k, k ≠ key → t.sta k = s.sta k)

/-! ### Nirum engines (R111-R137) -/

/-- R112, R113: the head of the class whose turn it is goes to the thread that the dispatcher picks; with no
eligible cluster it is dropped with reason 0x09. R112, R133, R156: a thread that is given a packet of which
no sample is due runs the program from the packet entry of the active slot, with a budget of 96 microwords
and the verdict of dispatch. R137: background work runs from the background entry of the active slot, for 32
microwords; what a thread must meet for it beyond being IDLE is the model's choice (log entry 84). -/
def Obligations.Dispatching : Prop :=
  (∀ (s : State) (pg : Fin 8) (k : Nat) (l : List Nat), s.pgOn pg = true →
    let cls := (s.grp pg).rr % 4
    tget (fun _ => []) (s.grp pg).waitq cls = k :: l →
    let el := (groupClusters pg).filter fun c => s.eligible c (s.pkt k).stamp.epoch
    (el = [] → Becomes (.dispatch pg) s ((s.popClass pg cls).handDrop k 0x09 (s.verdict0 (s.pkt k)))) ∧
    (∀ (c e th : Nat) (s' : State), el ≠ [] → s.pickCluster el cls = (some (c, e, th), s') →
      Becomes (.dispatch pg) s ((s'.popClass pg cls).place k c e th))) ∧
  (∀ (s : State) (k c e th : Nat), ((s.clu c).dispatched + 1) % 2 ^ s.sentLog2 c ≠ 0 →
    let t := (s.place k c e th).thr (thrKey c e th)
    t.st = .run ∧ t.pc = (s.slot c (s.activeSlotOf c)).pktEntry ∧ t.budget = 96 ∧ t.pkt = some k ∧
      t.verdict = s.verdict0 (s.pkt k) ∧ t.bg = false ∧
      ((s.place k c e th).clu c).dispatched = (s.clu c).dispatched + 1) ∧
  (∀ (s : State) (c : Fin 64) (e : Fin 17) (th : Fin 8), s.cluRuns c = true → s.mayBackground c e th = true →
    Completes (.backgroundStart c e th) s fun t =>
      let x := t.thr (thrKey c e th)
      x.st = .run ∧ x.bg = true ∧ x.bgLeft = 32 ∧ x.pc = (s.slot c (s.activeSlotOf c)).bgEntry ∧
        x.pkt = none ∧ (∀ k, k ≠ thrKey c e th → t.thr k = s.thr k) ∧ t.buf = s.buf ∧ t.dram = s.dram)

/-- R123, R125-R131, R133-R135: the issue of one microword of a packet's thread. A thread with no budget left
overruns, and so does one at its tree reads' limit of 40; a word of wrong parity is a machine check of cause
1, looked at before the word's fields, and an illegal word of the cause found (the order is the model's, log
entry 17). A legal word on a thread that is not profiled takes one from the budget; its ALUs write their
results and flags, its verdict field is written, its branch gives the next address and the stack, and its
memory operation asks for a node, a load or an old count, or buffers a store, held inside a locked sequence.
LOCK first asks for its line, and waits. UNLOCK ends the sequence and releases its held stores, and its line
once none of the sequence is left. END makes the thread IDLE, or halts it there if it is to halt (log entry
52), and hands its packet off with the verdict. -/
def Obligations.MicrowordIssue : Prop :=
  ∀ (s : State) (c : Fin 64) (e : Fin 17) (th : Fin 8) (slot : Fin 16) (up : BitVec 144),
    s.cluRuns c = true → s.mayIssue c e th slot = true →
    let k := thrKey c e th
    let t := s.thr k
    let w := s.cword c (s.activeSlotOf c) t.pc ^^^ up
    let m := microOf w
    let i := Instr.microwordIssue c e th slot up
    t.bg = false →
    (t.budget = 0 → Becomes i s (s.overrun k)) ∧
    (t.budget ≠ 0 → parityOk w = false → Becomes i s (s.machineCheck k 1 t.no t.pc 0)) ∧
    (t.budget ≠ 0 → parityOk w = true → m.memOp = 1 → 40 ≤ t.tsteps → Becomes i s (s.overrun k)) ∧
    (∀ cause, t.budget ≠ 0 → parityOk w = true → m.memOp ≠ 1 ∨ t.tsteps < 40 →
      microCheck (s.thrCtx k) t m = some cause → Becomes i s (s.machineCheck k cause t.no t.pc 0)) ∧
    (t.budget ≠ 0 → parityOk w = true → microCheck (s.thrCtx k) t m = none → t.trig = [] →
      bit (s.rg .pmcProfCfg) 31 = false → (m.memOp = 1 → t.tsteps < 40) →
      (m.memOp = 3 ∨ m.memOp = 4 → t.sb.length < 8) →
      let r := aluRun (s.thrCtx k) t m
      let cond := condHolds (s.thrCtx k) t m
      let a := fld (srcVal (s.thrCtx k) t m m.memAddr) 15 0
      let seq := t.lock.isSome
      let real := t.sample.isNone
      let sb := t.sb ++
        if m.memOp = 3 ∧ real = true then
          [{ cadd := false, held := seq, seq := seq, no := t.no, addr := a, data := dataVal t m.memDst }]
        else if m.memOp = 4 ∧ real = true then
          [{ cadd := true, no := t.no, addr := a,
             data := if 32768 ≤ m.imm then wd (0xFFFF0000 + m.imm) else wd m.imm }]
        else []
      (m.lock = 0 ∨ m.lock = 1 ∧ seq = true → m.nxtOp ≠ 8 → Completes i s fun s' =>
        let t' := s'.thr k
        t'.pc =
          (if m.nxtOp = 1 ∨ m.nxtOp = 3 ∨ (m.nxtOp = 2 ∨ m.nxtOp = 4) ∧ cond = true then m.nxtAddr
          else if m.nxtOp = 5 ∨ m.nxtOp = 6 ∧ cond = true then (t.stack.getLast?).getD 0
          else if m.nxtOp = 7 then m.nxtAddr / 16 * 16 + t.mway
          else (t.pc + 1) % 16384) ∧
        t'.stack =
          (if m.nxtOp = 3 ∨ m.nxtOp = 4 ∧ cond = true then t.stack ++ [(t.pc + 1) % 16384]
          else if m.nxtOp = 5 ∨ m.nxtOp = 6 ∧ cond = true then t.stack.dropLast else t.stack) ∧
        t'.budget = t.budget - 1 ∧ t'.g = r.g ∧ t'.fa = r.fa ∧ t'.fb = r.fb ∧ t'.mway = r.mway ∧
        t'.verdict = vdRun (s.thrCtx k) t m ∧ t'.sb = sb ∧ t'.lock = t.lock ∧
        t'.rdTree = t.rdTree ++ (if m.memOp = 1 then [(t.no, t.pc, a)] else []) ∧
        t'.rdLoad = t.rdLoad ++ (if m.memOp = 2 then [(t.no, t.pc, a, s.ownStore c t a)] else []) ∧
        t'.rdCount = t.rdCount ++ (if m.memOp = 4 ∧ real = true then [(t.no, t.pc, none)] else []) ∧
        t'.tsteps = (if m.memOp = 1 then t.tsteps + 1 else t.tsteps) ∧
        (∀ j, j ≠ k → s'.thr j = s.thr j) ∧ (∀ d b, s'.scratch d b = s.scratch d b) ∧
        s'.tbl = s.tbl ∧ s'.buf = s.buf ∧ s'.dram = s.dram) ∧
      (m.lock = 1 → seq = false → real = true → Completes i s fun s' =>
        let x := s.lockLine c (m.imm % 64)
        let t' := s'.thr k
        t'.want = some (m.imm % 64) ∧ t'.lock = none ∧ t'.pc = t.pc ∧ t'.budget = t.budget ∧ t'.sb = t.sb ∧
        (s'.lockLine c (m.imm % 64)).owner = x.owner ∧
        (s'.lockLine c (m.imm % 64)).waiters =
          if t.sb = [] ∧ x.waiters.contains (k % 136) = false then x.waiters ++ [k % 136] else x.waiters) ∧
      (∀ l, m.lock = 2 → t.lock = some l → Completes i s fun s' =>
        let t' := s'.thr k
        t'.lock = none ∧ t'.lockLen = 0 ∧ t'.sb = sb.map (fun e => { e with held := false }) ∧
        t'.budget = t.budget - 1 ∧
        ((s.lockLine c l).owner = some (k % 136) →
          (s'.lockLine c l).owner = if (sb.any fun e => e.seq) = true then some (k % 136) else none)) ∧
      (∀ p, m.nxtOp = 8 → m.lock = 0 → t.pkt = some p →
        let q := s.pkt p
        let v := vdRun (s.thrCtx k) t m
        let pr := s.cpRead (q.stamp.lport / 32) 4 q.stamp.epoch (pktProfile q)
        Completes i s fun s' =>
          let t' := s'.thr k
          t'.st = (if t.haltReq = true ∨ t.stepping ≠ 0 then .halted else .idle) ∧ t'.pkt = none ∧ t'.sb = sb ∧
          s'.held26 q.stamp.lport = s.held26 q.stamp.lport ++
            [(q.stamp.seq, match s.resolve q pr v with
              | .inl _ => .gone
              | .inr d => .pass p d)]))

/-- R121, R127, R130, R134: the returns of a thread's memory operations, oldest first, write its node, its
loaded word or its old count; one with an uncorrectable error is a machine check, and where the work that
asked for it has ended the record and the fault alone (log entry 69). R130, R131: the oldest
entry of a store buffer that is not held reaches its scratch word, and no other word of scratch changes; a
counter add whose word is uncorrectable has no effect on it (R135); a free lock line goes to the first of its
requesters. That a load reads scratch at its return is the model's choice (log entry 84). -/
def Obligations.ThreadMemory : Prop :=
  (∀ (s : State) (c : Fin 64) (e : Fin 17) (th : Fin 8), s.cluRuns c = true →
    let k := thrKey c e th
    let t := s.thr k
    (∀ no pc n l, t.rdTree = (no, pc, n) :: l →
      (Completes (.treeReadReturn c e th false) s fun s' =>
        (s'.thr k).n = padTo 8 (tget (fun _ => []) s.tbl.treeG (c / 8 * 65536 + n)) ∧ (s'.thr k).rdTree = l ∧
          (s'.thr k).g = t.g) ∧
      (t.late no = false → Becomes (.treeReadReturn c e th true) s
        ((s.setThr k { t with rdTree := l }).machineCheck k 6 no pc n)) ∧
      (t.late no = true → Becomes (.treeReadReturn c e th true) s
        ((s.setThr k { t with rdTree := l }).mcRecord k 6 pc n))) ∧
    (∀ no pc a own l, t.rdLoad = (no, pc, a, own) :: l →
      (Completes (.scratchLoadReturn c e th false) s fun s' =>
        (s'.thr k).scr = own.getD (s.scratch c a) ∧ (s'.thr k).rdLoad = l ∧ (s'.thr k).g = t.g) ∧
      (t.late no = false → Becomes (.scratchLoadReturn c e th true) s
        ((s.setThr k { t with rdLoad := l }).machineCheck k 5 no pc a)) ∧
      (t.late no = true → Becomes (.scratchLoadReturn c e th true) s
        ((s.setThr k { t with rdLoad := l }).mcRecord k 5 pc a))) ∧
    (∀ no pc v l, t.rdCount = (no, pc, some v) :: l →
      Completes (.counterAddReturn c e th) s fun s' =>
        (s'.thr k).cnt = v ∧ (s'.thr k).rdCount = l ∧ (s'.thr k).g = t.g)) ∧
  (∀ (s : State) (c : Fin 64) (e : Fin 17) (th : Fin 8) (ecc : Bool) (x : SbEntry) (l : List SbEntry),
    s.cluDrains c = true → (s.thr (thrKey c e th)).sb = x :: l → x.held = false →
    (ecc = false ∨ x.cadd = false → Completes (.storeBufferDrain c e th ecc) s fun t =>
      t.scratch c x.addr = sbApply (s.scratch c x.addr) x ∧ (t.thr (thrKey c e th)).sb = l ∧
        (∀ a, a ≠ x.addr → t.scratch c a = s.scratch c a) ∧
        ∀ d a, d ≠ (c : Nat) → t.scratch d a = s.scratch d a) ∧
    (x.cadd = true → Becomes (.storeBufferDrain c e th true) s
      ((s.putThr (thrKey c e th) { s.thr (thrKey c e th) with sb := l, full := false }).addFails
        (thrKey c e th) x))) ∧
  (∀ (s : State) (c line : Fin 64) (me : Nat) (l : List Nat), s.cluRuns c = true →
    (s.lockLine c line).owner = none → (s.lockLine c line).waiters = me :: l →
    Completes (.lockGrant c line) s fun t =>
      (t.lockLine c line).owner = some me ∧ (t.lockLine c line).waiters = l ∧
        (t.thr (c * 136 + me)).lock = some (line : Nat) ∧ (t.thr (c * 136 + me)).want = none ∧
        ∀ d a, t.scratch d a = s.scratch d a)

/-! ### From the resequencer to the line (R26, R208-R242) -/

/-- R26, R232: the next item of a port's sequence is released, a frame among them to the policers; the
policer unit drops the frame at its head or sends it to admission. R113, R221: the oldest descriptor of a
pending replica queue joins its queue; a buffer's write ends. -/
def Obligations.ReleaseAndPolice : Prop :=
  (∀ (s : State) (lp : Fin 256) (i : SeqItem), s.pgOn (lp / 32) = true → s.seqNext? lp = some i →
    Completes (.resequence lp) s fun t =>
      (t.port lp).seqRel = ((s.port lp).seqRel + 1) % 65536 ∧
        t.held26 lp = (s.held26 lp).filter (fun e => e.1 != (s.port lp).seqRel) ∧
        (t.grp (lp / 32)).polq = (s.grp (lp / 32)).polq ++
          (match i with
            | .gone => []
            | .pass k d => [(k, d)]) ∧
        t.buf = s.buf ∧ t.led = s.led ∧ t.tbl = s.tbl) ∧
  (∀ (s : State) (pg : Fin 8) (ecc : Bool) (b k : Nat) (d : Target) (l : List (Nat × Target)),
    s.pgOn pg = true → s.clkOk 144 = true → (s.grp pg).polq = (k, d) :: l →
    let r := (s.setGrp pg { s.grp pg with polq := l }).policed k
    (r.1 = true → Becomes (.police pg ecc b) s (r.2.admitFrame k d (ecc || (r.2.pkt k).holdEcc) b)) ∧
    (r.1 = false → Becomes (.police pg ecc b) s r.2)) ∧
  (∀ (s : State) (i : Fin 9) (x : Machine.Pending) (l : List Machine.Pending), s.live = true → s.clkOk 144 = true →
    tget (fun _ => []) s.buf.pend i = x :: l →
    Completes (.replicaEnqueue i 1) s fun t =>
      tget (fun _ => []) t.buf.pend i = l ∧ t.queue x.queue = s.queue x.queue ++ [x.desc] ∧
        ∀ q, q ≠ x.queue → t.queue q = s.queue q) ∧
  (∀ (s : State) (b : Nat), s.live = true → s.clkOk 144 = true → 0 < (s.bufr b).refs → (s.bufr b).written = false →
    Completes (.bufferWriteEnd b) s fun t =>
      t.bufr b = { s.bufr b with written := true, hold := false } ∧ t.buf.queues = s.buf.queues ∧
        ∀ k, k ≠ b → t.bufr k = s.bufr k)

/-- R238, R239, R242, R248: a scheduler's pick takes the head of the queue that its turns come to, once a queue whose
LEVEL has changed has lost the grant of its old level; the egress pipe
reads a picked frame, and hands it to the MAC after its delay; the end of its transmission puts the frame on
the line and counts it, or ends a bad one in error and drops it with reason 0x2F. -/
def Obligations.Transmission : Prop :=
  (∀ (s s' : State) (lp : Fin 256) (lvl q d : Nat) (l : List Nat), s.pgOn (lp / 32) = true →
    s.clkOk 144 = true → s.mayPick lp = true → s.pickLevel lp = some lvl → State.serve lp lvl 500 (s.takeGrants lp) = some (q, s') →
    s'.queue q = d :: l →
    Completes (.schedulerPick lp) s fun t =>
      t.pickedOf lp = s'.pickedOf lp ++ [{ desc := d, queue := q, at_ := s'.now }] ∧ t.queue q = l ∧
        ∀ k, k ≠ q → t.queue k = s'.queue k) ∧
  (∀ (s : State) (lp : Nat),
    (∀ lvl < 2, (s.takeGrants lp).grantOf lp lvl = (s.grantOf lp lvl).filter fun q => s.qLevel q == lvl) ∧
    ∀ q, (s.takeGrants lp).qLevel q = s.qLevel q) ∧
  (∀ (s : State) (lp : Fin 256) (delay : Nat) (ecc : Bool) (p : Picked), s.pgOn (lp / 32) = true →
    s.clkOk 144 = true → s.readable lp = some p →
    let b := (s.desc p.desc).buf
    let bad := ecc || (s.bufr b).ecc
    let u := if bad then s.bufBad b else s
    Becomes (.egressReadStart lp delay ecc) s (u.setPicked lp ((u.pickedOf lp).map fun x => if x = p then
      { p with tout := some (s.now + delay), bad := bad, frame := finished (s.descFrame (lp / 32) p.desc) }
      else x))) ∧
  (∀ (s : State) (lp : Fin 256) (p : Picked) (l : List Picked) (t0 : Nat), s.pgOn (lp / 32) = true →
    s.clkOk (64 + lp / 32) = true → s.pickedOf lp = p :: l → p.tout = some t0 → t0 ≤ s.now →
    let u := s.setPicked lp l
    (p.bad = false → Becomes (.transmitEnd lp) s
      ((((u.addCtr .macTxOkLo (lp / 32) (lp % 32)).addLine lp 1 (s.desc p.desc).len).emit
        (.tx lp p.frame true)).leave p.desc p.queue t0)) ∧
    (p.bad = true → Becomes (.transmitEnd lp) s
      (((u.bump .macTxErrEof (lp / 32) (lp % 32)).emit (.tx lp p.frame false)).dropDesc p.desc 0x2F)))

/-- R224, R304-R306: a host's scheduler picks the head of its next ready queue; a picked frame that is stored
whole is written into punt buffers and leaves, or is dropped with reason 0x2F where its read is uncorrectable,
which is an event (R348). R257: its sojourn ends with that writing, DEDUCED from the time at which the writing
begins (log entry 71). An age checker discards a head older than the limit with reason 0x2D. -/
def Obligations.HostQueues : Prop :=
  (∀ (s : State) (h : Fin 2) (j d : Nat) (l : List Nat), s.hostOn h = true → s.hostOk h = true →
    s.clkOk 144 = true → s.hostNext h = some j → s.queue (2560 + 16 * h + j) = d :: l →
    Completes (.hostQueuePick h) s fun t =>
      t.hostPicked h = s.hostPicked h ++ [{ desc := d, queue := 2560 + 16 * h + j, at_ := s.now }] ∧
        t.queue (2560 + 16 * h + j) = l ∧ t.buf.bufs = s.buf.bufs) ∧
  (∀ (s : State) (h : Fin 2) (p : Picked) (l : List Picked), s.hostOn h = true → s.hostOk h = true →
    s.clkOk 144 = true → s.hostPicked h = p :: l → (s.bufr (s.desc p.desc).buf).written = true →
    let u : State := { s with sched := { s.sched with hostPick := tset (fun _ => []) s.sched.hostPick h l } }
    let r := 16 + (p.queue - 2560) % 16
    ((s.bufr (s.desc p.desc).buf).ecc = true →
      Becomes (.puntWrite h) s ((u.bufBad (s.desc p.desc).buf).dropDesc p.desc 0x2F)) ∧
    ((s.bufr (s.desc p.desc).buf).ecc = false → Becomes (.puntWrite h) s
      ((State.puntAll h r (u.puntWords p.desc p.queue s.now) (s.desc p.desc).epoch true
        (puntSplit (s.ring h r).posted (u.puntBytes p.desc)) u).leave p.desc p.queue s.now))) ∧
  (∀ (s : State) (q : Fin 2592) (d : Nat) (l : List Nat), s.live = true → s.clkOk 144 = true → s.ageOn q = true →
    s.queue q = d :: l → s.ageLimit < age48 s.now (s.desc d).time →
    Becomes (.ageCheck q 1) s (s.discardHead q 0x2D))

/-! ### Table commands (R74-R80, R150, R177-R179, R190-R198) -/

/-- R190, R194: a table command that a check refuses changes no table: it completes with the check's status.
The commands of staging itself meet the checks of their own words first. -/
def Obligations.TableChecks : Prop :=
  ∀ (s : State) (c : TCmd) (data : Option (List Word)) (ok : Bool) (st : Nat), s.tblOn = true →
    s.cuHead = some c → s.cuPop.cmdCheck c = some st →
    let t := (s.cuPop.complete c { status := st }).cuTidy
    t.tbl = s.tbl ∧ t.epc = s.epc ∧
    (c.op = 1 → Becomes (.read data ok) s t) ∧ (c.op = 2 → Becomes (.writeIndex data) s t) ∧
    (c.op = 3 → Becomes (.insert data) s t) ∧ (c.op = 4 → Becomes (.delete data) s t) ∧
    (c.op = 5 → Becomes (.search data ok) s t) ∧ (c.op = 6 → Becomes (.treeWrite data) s t) ∧
    (c.op = 7 → Becomes .treeRetire s t) ∧ (c.op = 8 → Becomes .setRoot s t) ∧
    (c.op = 13 → Becomes .flushLearned s t) ∧ (c.op = 15 → Becomes .ageNow s t) ∧
    (c.op = 16 → Becomes .setWidth s t) ∧ (c.op = 14 → Becomes .settleWait s t) ∧
    (formCheck c = some st →
      (c.op = 9 → Becomes .beginStage s t) ∧ (c.op = 10 → s.cu.fan = [] → Becomes .commit s t) ∧
      (c.op = 11 → Becomes .abortStage s t))

/-- R190, R191, R193: a table command that passes its checks and has its data runs on the tables, and then
completes; a BULK_STAGE runs its sub-descriptors. READ answers an entry that the parity named sees, and its
LIFE, of the replica named for a key, of the master copies for an index or a row; SEARCH answers the place and
the entry of a key in the master copy; either fails with NOT_FOUND where there is none, and none changes a
table. -/
def Obligations.TableCommands : Prop :=
  (∀ (s : State) (c : TCmd) (data : Option (List Word)) (ok : Bool) (ws : List Word), s.tblOn = true →
    s.cuHead = some c →
    let u := s.cuPop
    let ran (r : CmdRes) (k : Bool) := (State.finish c r k).cuTidy
    (c.op = 12 → ∀ subs, Becomes (.bulkStage subs) s (ran (u.bulk c subs) true)) ∧
    (u.cmdCheck c = none → u.cmdData c data = some ws →
      (c.op = 1 → c.table ≤ 1 → Becomes (.read data ok) s (ran (u.readRun c ws) ok)) ∧
      (c.op = 1 → 1 < c.table → Becomes (.read data ok) s (ran (u.readRun c []) ok)) ∧
      (c.op = 2 → Becomes (.writeIndex data) s (ran (u.writeRun c ws) true)) ∧
      (c.op = 3 → Becomes (.insert data) s (ran (u.insertRun c ws) true)) ∧
      (c.op = 4 → c.table ≤ 1 → Becomes (.delete data) s (ran (u.deleteRun c ws) true)) ∧
      (c.op = 4 → 1 < c.table → Becomes (.delete data) s (ran (u.deleteRun c []) true)) ∧
      (c.op = 5 → Becomes (.search data ok) s (ran (u.searchRun c ws) ok)) ∧
      (c.op = 6 → Becomes (.treeWrite data) s (ran (u.treeWriteRun c ws) true))) ∧
    (u.cmdCheck c = none →
      (c.op = 7 → Becomes .treeRetire s (ran (u.treeRetireRun c) true)) ∧
      (c.op = 8 → Becomes .setRoot s (ran (u.setRootRun c) true)) ∧
      (c.op = 13 → Becomes .flushLearned s (ran (u.flushRun c) true)) ∧
      (c.op = 15 → Becomes .ageNow s (ran u.ageRun true)) ∧
      (c.op = 16 → Becomes .setWidth s (ran (u.widthRun c) true)))) ∧
  (∀ (s : State) (c : TCmd) (ws : List Word),
    let par := bit c.arg0 0
    let sees (life : Nat) := lifeSees life par s.epc.s
    let nb := padTo c.count ws
    let give (r0 : Word) (e : List Word) : CmdRes := { cpl := { r0 := r0 }, st := s, out := some e }
    let read (all : Tab (List Word)) (size : Nat) (is : List Word → Bool) (life : List Word → Nat) : Prop :=
      (∀ e, (s.readRun c ws).out = some e → s.readRun c ws = give (wd (life e)) e ∧ is e = true ∧
        sees (life e) = true ∧ ∃ x ∈ all, x.1 / size = fld c.arg0 2 1 ∧ x.2 = e) ∧
      ((s.readRun c ws).out = none → s.readRun c ws = failWith s 0x07 ∧
        ∀ x ∈ all, x.1 / size = fld c.arg0 2 1 → is x.2 = true → sees (life x.2) = false)
    let search (found : List (Nat × Nat)) (entry : Nat → List Word) (code : Nat → Word) : Prop :=
      (∀ e, (s.searchRun c ws).out = some e → ∃ x ∈ found, sees x.2 = true ∧ e = entry x.1 ∧
        s.searchRun c ws = give (code x.1) e) ∧
      ((s.searchRun c ws).out = none → s.searchRun c ws = failWith s 0x07 ∧ ∀ x ∈ found, sees x.2 = false)
    (c.table = 0 → read s.tbl.staR (2 ^ 20) (staIs (staBd ws) (staMac ws)) (fun e => lifeOf (wAt e 1))) ∧
    (c.table = 1 → nbrKindOk nb c.count = true →
      read s.tbl.nbrR (2 ^ 18) (nbrIs (nbrV6 nb) (fld (nbrLifeWord nb) 29 16) (nbrAddr nb))
        (fun e => lifeOf (nbrLifeWord e))) ∧
    (c.table = 2 → s.ascIndexOk c.index = true → s.readRun c ws =
      if (s.asc c.index).words = [] then failWith s 0x07
      else give (wd (s.asc c.index).life.code) (s.asc c.index).words) ∧
    (c.table = 3 → c.index < 49152 →
      s.readRun c ws = give 0 (padTo 8 (tget (fun _ => []) s.tbl.tree c.index))) ∧
    (4 ≤ c.table → c.table ≤ 9 → c.index < cpSize c.table → c.table ≠ 8 ∨ c.index < s.nPorts →
      s.readRun c ws = give 0 (s.cpMaster c.table par c.index)) ∧
    (c.table = 10 → c.index < 32768 →
      (∀ e, (s.readRun c ws).out = some e → ∃ x ∈ s.repFind c.index, sees x.2 = true ∧
        e = repWords (s.repSlot x.1) ∧ s.readRun c ws = give (wd x.2) e) ∧
      ((s.readRun c ws).out = none → s.readRun c ws = failWith s 0x07 ∧
        ∀ x ∈ s.repFind c.index, sees x.2 = false)) ∧
    (c.table = 0 → search (s.staFind (staBd ws) (staMac ws)) s.sta staSlotCode) ∧
    (c.table = 1 → nbrKindOk nb c.count = true →
      search (s.nbrFind (nbrV6 nb) (fld (nbrLifeWord nb) 29 16) (nbrAddr nb)) s.nbr wd))

/-- R87, R89, R102, R177, R191, R217: an INSERT of a station or neighbour key, or of a replication list, that
has no entry writes the entry at the room found, ALWAYS where it is unstaged and FROM_NEXT where it is staged,
and no other entry of the master copy; a DELETE of a key's one ALWAYS entry marks it UNTIL_NEXT where it is
staged, and removes it where not. A list takes its blocks of the list memory and gives them back, and is
refused where there are too few. R179, R191, R194: an INSERT of a key with an ALWAYS entry, staged, and one of
a key with a staged entry, unstaged, are refused and leave the state as it is; so is a DELETE of a key with no
entry. That RESULT0 of a list is its slot is the model's choice (log entry 42). -/
def Obligations.KeyedEntries : Prop :=
  (∀ (s : State) (c : TCmd) (e : List Word) (key : Nat), s.staCheck e = none →
    s.staFind (staBd e) (staMac e) = [] → s.staRoom (staBd e) (staMac e) = some key →
    let r := s.staInsert c e
    r.cpl.status = 0 ∧ r.cpl.r0 = staSlotCode key ∧ r.st.sta key = staWithLife e (b2n c.staged) ∧
      r.st.tagOf c.table key = reqNum c.req ∧ ∀ k, k ≠ key → r.st.sta k = s.sta k) ∧
  (∀ (s : State) (c : TCmd) (e : List Word) (key : Nat),
    s.staFind (staBd e) (staMac e) = [(key, 0)] →
    let r := s.staDelete c e
    r.cpl.status = 0 ∧ r.st.sta key = (if c.staged then staWithLife (s.sta key) 2 else []) ∧
      ∀ k, k ≠ key → r.st.sta k = s.sta k) ∧
  (∀ (s : State) (c : TCmd) (e : List Word) (key : Nat),
    (s.staCheck e = none → c.staged = true → s.staFind (staBd e) (staMac e) = [(key, 0)] →
      s.staInsert c e = failWith s 0x08) ∧
    (s.staCheck e = none → c.staged = false → s.staFind (staBd e) (staMac e) = [(key, 1)] →
      s.staInsert c e = failWith s 0x0B) ∧
    (s.staFind (staBd e) (staMac e) = [] → s.staDelete c e = failWith s 0x07)) ∧
  (∀ (s : State) (c : TCmd) (e : List Word),
    let found := s.nbrFind (nbrV6 e) (fld (nbrLifeWord e) 29 16) (nbrAddr e)
    (∀ key, nbrCheck e c.count = none → found = [] →
      s.nbrRoom (nbrV6 e) (fld (nbrLifeWord e) 29 16) (nbrAddr e) = some key →
      let r := s.nbrInsert c e
      r.cpl.status = 0 ∧ r.cpl.r0 = wd key ∧ r.st.nbr key = nbrWithLife e (b2n c.staged) ∧
        r.st.tagOf c.table key = reqNum c.req ∧ ∀ k, k ≠ key → r.st.nbr k = s.nbr k) ∧
    (∀ key, nbrKindOk e c.count = true → found = [(key, 0)] →
      let r := s.nbrDelete c e
      r.cpl.status = 0 ∧ r.st.nbr key = (if c.staged then nbrWithLife (s.nbr key) 2 else []) ∧
        ∀ k, k ≠ key → r.st.nbr k = s.nbr k) ∧
    (∀ key, nbrCheck e c.count = none → c.staged = true → found = [(key, 0)] → s.nbrInsert c e = failWith s 0x08) ∧
    (∀ key, nbrCheck e c.count = none → c.staged = false → found = [(key, 1)] → s.nbrInsert c e = failWith s 0x0B) ∧
    (nbrKindOk e c.count = true → found = [] → s.nbrDelete c e = failWith s 0x07)) ∧
  (∀ (s : State) (c : TCmd) (ws : List Word) (l : List Nat), c.index < 32768 →
    let found := s.repFind c.index
    (s.repParse ws = .inr l → found = [] →
      let k := 2 * c.index
      let r := s.repInsert c ws
      (listBlocks l ≤ s.tbl.listFree →
        r.cpl.status = 0 ∧ r.cpl.r0 = wd k ∧
          r.st.repSlot k = { valid := true, life := b2n c.staged, targets := l } ∧
          r.st.tbl.listFree + listBlocks l = s.tbl.listFree + listBlocks (s.repSlot k).targets ∧
          ∀ j, j ≠ k → r.st.repSlot j = s.repSlot j) ∧
      (s.tbl.listFree < listBlocks l → r = failWith s 0x06)) ∧
    (∀ k, found = [(k, 0)] →
      let r := s.repDelete c
      r.cpl.status = 0 ∧ r.st.repSlot k = (if c.staged then { s.repSlot k with life := 2 } else {}) ∧
        r.st.tbl.listFree = s.tbl.listFree + (if c.staged then 0 else listBlocks (s.repSlot k).targets) ∧
        ∀ j, j ≠ k → r.st.repSlot j = s.repSlot j) ∧
    (∀ k, s.repParse ws = .inr l → c.staged = true → found = [(k, 0)] → s.repInsert c ws = failWith s 0x08) ∧
    (∀ k, s.repParse ws = .inr l → c.staged = false → found = [(k, 1)] → s.repInsert c ws = failWith s 0x0B) ∧
    (found = [] → s.repDelete c = failWith s 0x07))

/-- R150, R177: TREE_WRITE takes a FREE node to STAGED and writes it, TREE_RETIRE a LIVE node to RETIRING,
and SET_ROOT writes the root of the staging parity only; a write to a node that is not FREE is refused.
R169, R177: a staged WRITE_INDEX of a copy table writes the master copy of parity S and marks the entry
dirty; the copy of parity C keeps its entry. R74, R75, R77, R177, R178: a WRITE_INDEX of an associative entry
stores its units with bit 39 of slice 0 for parity S where it is staged and without where not, and launches it
to the pipes of the groups that are lit; a DELETE removes the entry, or rewrites one that was ALWAYS for
parity C; SET_WIDTH sets the width of an empty bank. -/
def Obligations.IndexedEntries : Prop :=
  (∀ (s : State) (c : TCmd) (ws : List Word),
    (c.index < 49152 → s.nodeSt c.index = .free → nodeOk (padTo 8 ws) = true →
      let r := s.treeWriteRun c ws
      r.cpl.status = 0 ∧ r.st.nodeSt c.index = .staged ∧
        tget (fun _ => []) r.st.tbl.tree c.index = padTo 8 ws ∧
        ∀ i, i ≠ c.index → r.st.nodeSt i = s.nodeSt i ∧
          tget (fun _ => []) r.st.tbl.tree i = tget (fun _ => []) s.tbl.tree i) ∧
    (c.index < 49152 → s.nodeSt c.index ≠ .free → s.treeWriteRun c ws = failWith s 0x0C) ∧
    (c.index < 49152 → s.nodeSt c.index = .live →
      (s.treeRetireRun c).st.nodeSt c.index = .retiring ∧ (s.treeRetireRun c).st.tbl.tree = s.tbl.tree) ∧
    ((c.arg0.setWidth 16 : BitVec 16).toNat < 49152 →
      let e := (s.setRootRun c).st.epc
      if s.epc.s then e.rootA = c.arg0.setWidth 16 ∧ e.rootC = s.epc.rootC
      else e.rootC = c.arg0.setWidth 16 ∧ e.rootA = s.epc.rootA)) ∧
  (∀ (s : State) (c : TCmd) (ws : List Word), c.staged = true → c.index < cpSize c.table →
    (c.table = 8 → c.index < s.nPorts) → c.table < 16 →
    s.cpCheck c.table c.index (padTo (cpWords c.table) ws) [s.epc.s] = none →
    let r := s.cpWrite c ws
    r.cpl.status = 0 ∧ r.st.cpMaster c.table s.epc.s c.index = padTo (cpWords c.table) ws ∧
      r.st.cpDirty c.table c.index = true ∧
      ∀ i, i < 65536 → r.st.cpMaster c.table (! s.epc.s) i = s.cpMaster c.table (! s.epc.s) i) ∧
  (∀ (s : State) (c : TCmd) (ws : List Word), s.ascIndexOk c.index = true →
    let units := widthUnits (s.ascWidth (c.index / 512))
    let old := s.asc c.index
    let goes (r : CmdRes) (e : AscEntry) : Prop :=
      r.cpl.status = 0 ∧ r.st.asc c.index = e ∧ (∀ k, k ≠ c.index → r.st.asc k = s.asc k) ∧
        (r.fans.map fun f => (f.idx, f.words, f.width)) = [(c.index, e.words, none)] ∧
        ∀ f ∈ r.fans, ∀ p, p ∈ f.left ↔ p / 6 < s.nGroups ∧ s.isLit (domPg (p / 6)) = true
    (ascOk ws units = true →
      (c.staged = true → old.words = [] ∨ old.life = .fromNext →
        goes (s.ascWrite c ws) { words := ascStore ws units true s.epc.s, life := .fromNext }) ∧
      (c.staged = true → old.words ≠ [] → old.life ≠ .fromNext → s.ascWrite c ws = failWith s 0x06) ∧
      (c.staged = false → old.life = .always →
        goes (s.ascWrite c ws) { words := ascStore ws units false false, life := .always }) ∧
      (c.staged = false → old.life ≠ .always → s.ascWrite c ws = failWith s 0x0B)) ∧
    (old.words = [] → s.ascDelete c = failWith s 0x07) ∧
    (old.words ≠ [] →
      (c.staged = true → old.life = .always → goes (s.ascDelete c) (ascMarked old units s.epc.c)) ∧
      (c.staged = true → old.life = .fromNext → goes (s.ascDelete c) {}) ∧
      (c.staged = true → old.life = .untilNext →
        (s.ascDelete c).cpl.status = 0 ∧ (s.ascDelete c).st.tbl = s.tbl ∧ (s.ascDelete c).fans = []) ∧
      (c.staged = false → old.life = .always → goes (s.ascDelete c) {}) ∧
      (c.staged = false → old.life ≠ .always → s.ascDelete c = failWith s 0x0B))) ∧
  (∀ (s : State) (c : TCmd), c.index / 512 < 8 → fld c.arg0 1 0 ≠ 3 → s.ascValid (c.index / 512) = 0 →
    let r := s.widthRun c
    r.cpl.status = 0 ∧ r.st.ascWidth (c.index / 512) = fld c.arg0 1 0 ∧ r.st.tbl.asc = s.tbl.asc ∧
      ∀ b, b ≠ c.index / 512 → r.st.ascWidth b = s.ascWidth b)

/-- R198: a write of a bank's TBL_CMD_GO with GO 1, while the bank is not BUSY, queues the bank's descriptor behind the
commands that wait, with the bank's requester and its next sequence number, and makes the bank BUSY; commands that come
to the head with an undefined opcode complete (R191); any other write is ignored. R77, R79, R80: a pipe's
copy takes the first associative write that it has yet to take, once that write's time has come; the
comparison of a unit finds every copy of an Active group that differs; and a differing copy is rewritten
from the master copy. -/
def Obligations.CommandUnit : Prop :=
  (∀ (s : State) (r : Req) (b : Fin 3) (v : Word), s.Open domTbl →
    let n := (s.cu.seqs[b.val]?).getD 0
    let c : TCmd := {
      src := .bank (if b = 0 then .host0 else if b = 1 then .host1 else .chain), handle := put 31 28 15 ||| put 27 0 n,
      desc := (List.range 8).map fun i => s.rg .tblDesc 0 i b }
    let u : State := { s with
      cu := { s.cu with q := s.cu.q ++ [c], busy := s.cu.busy.set b true, seqs := s.cu.seqs.set b ((n + 1) % 2 ^ 28) } }
    (bit v 31 = true → s.cu.busy[b.val]? = some false → Becomes (.tblCmdGo r b v) s u.cuTidy) ∧
    ((∀ x, u.cuHead = some x → opDefined x.op = true) → u.cuTidy = u) ∧
    (bit v 31 = false ∨ s.cu.busy[b.val]? = some true → Becomes (.tblCmdGo r b v) s s)) ∧
  (∀ (s : State) (pipe : Fin 48) (f : Fan), s.tblOn = true → s.fanNext pipe = some f → f.at_ ≤ s.mono →
    s.isLit (domPg (pipe / 6)) = true →
    let l := fanTake pipe s.cu.fan
    let u := s.ascTake pipe f
    Becomes (.ascCopyWrite pipe) s
      ((({ u with cu := { u.cu with fan := l } } : State).fanDone l.length).cuTidy)) ∧
  (∀ (s : State) (unit : Fin 512), s.tblOn = true → s.cu.fan = [] →
    Completes (.ascCompare unit []) s fun t =>
      t.tbl = s.tbl ∧ ∀ n < s.nGroups, s.isActive (domPg n) = true → ∀ p < 6, ∀ b < 8,
        s.ascDiffers (6 * n + p) b unit = true → (6 * n + p, 512 * b + unit) ∈ t.cu.repairs) ∧
  (∀ (s : State) (pipe : Fin 48) (r : Nat × Nat), s.tblOn = true → s.pgOn (pipe / 6) = true →
    s.cu.repairs.find? (fun r => r.1 == (pipe : Nat)) = some r →
    let bank := r.2 / 512
    let k := s.ascUnitKey bank (r.2 % 512)
    let tbl := { s.tbl with
      ascC := tset (fun _ => []) s.tbl.ascC (pipe * 4096 + k) (s.asc k).words,
      ascCW := tset (fun _ => 0) s.tbl.ascCW (pipe * 8 + bank) (s.ascWidth bank) }
    let u : State := { s with tbl := tbl, cu := { s.cu with repairs := s.cu.repairs.erase r } }
    Becomes (.ascRepair pipe) s
      (((u.bump .ascSearchesLost (pipe / 6) 0).bump .tblAscMismatch 0 0).raise
        { src := 13, cls := .blue, code := 0x0C, info := put 15 12 (pipe % 6) ||| put 11 9 bank ||| put 8 0 (r.2 % 512) }))

/-! ### Epochs (R169-R189) -/

/-- R175, R176: a BEGIN_STAGE that finds the unit IDLE, at the head of the queue or waiting, opens staging:
its requester owns it with its token, and the staging parity takes the command's schema, the current root
and TBL_LAG_SEED; one that finds staging open is refused. -/
def Obligations.StagingOpens : Prop :=
  ∀ (s : State) (c : TCmd), s.tblOn = true →
    let e := { s.epc with st := .staging, owner := some c.req, token := c.token, touched := [] }
    let e := if s.epc.s then { e with schemaA := c.arg0.setWidth 4, rootA := s.epc.rootC, seedA := s.rg .tblLagSeed }
      else { e with schemaC := c.arg0.setWidth 4, rootC := s.epc.rootA, seedC := s.rg .tblLagSeed }
    (s.cuHead = some c → c.op = 9 → formCheck c = none → s.cu.beginWait = [] → s.epc.st = .idle →
      Completes .beginStage s fun t => t.epc = e ∧ t.tbl = s.tbl) ∧
    (s.cuHead = some c → c.op = 9 → formCheck c = none → s.cu.beginWait = [] → s.epc.st = .staging →
      Becomes .beginStage s
        ((s.cuPop.complete c { status := if s.epc.owner = some c.req then 0x10 else 0x09 }).cuTidy)) ∧
    (∀ l, s.cu.beginWait = c :: l → s.epc.st = .idle →
      Completes .waitingBeginStage s fun t => t.epc = e ∧ t.tbl = s.tbl)

/-- R171, R180, R181: a COMMIT of the owner's staging whose schema is served increments the epoch number,
makes every STAGED node LIVE and sends the flip to the pipes of every Active group; a pipe that takes it
stamps with the new parity; once all have, C is the new parity, ownership is released and the settle drains.
-/
def Obligations.CommitFlips : Prop :=
  (∀ (s : State) (c : TCmd), s.tblOn = true → s.cuHead = some c → c.op = 10 → formCheck c = none → s.cu.fan = [] →
    s.stageCheck c = none → s.schemaServed (s.schemaOf s.epc.s) = true →
    Completes .commit s fun t =>
      t.epc.num = s.epc.num + 1 ∧ t.epc.st = .flipping ∧ t.epc.c = s.epc.c ∧ t.epc.s = s.epc.s ∧
        t.epc.flipTime = BitVec.ofNat 64 s.now ∧
        t.tbl = { s.tbl with node := liveNodes s.tbl.node } ∧
        ∀ n < s.nGroups, s.isActive (domPg n) = true → (t.grp n).flip = List.replicate 6 true) ∧
  (∀ (s : State) (pipe : Fin 48), s.pgOn (pipe / 6) = true →
    ((s.grp (pipe / 6)).flip[pipe.val % 6]?).getD false = true →
    Becomes (.pipeFlip pipe) s (s.setGrp (pipe / 6) { s.grp (pipe / 6) with
      par := (s.grp (pipe / 6)).par.set (pipe % 6) (bit s.epc.num 0), flip := (s.grp (pipe / 6)).flip.set (pipe % 6) false })) ∧
  (∀ s : State, s.tblOn = true → s.epc.st = .flipping → s.flipDone = true →
    Completes .commitComplete s fun t =>
      t.epc = { s.epc with c := bit s.epc.num 0, st := .draining, owner := none, token := 0, commitBy := none, committed := true } ∧
        t.tbl = s.tbl) ∧
  (∀ s : State, s.tblOn = true → s.epc.st = .flipping → s.flipDone = false → s.epc.flipAt + 1000 ≤ s.mono →
    Becomes .flipTimeout s ((List.range s.nGroups).foldl State.lateGroup s))

/-- R183, R184: the settle drains until no frame of the old parity is held, or until its time is over; then
it flushes until none is; then it sweeps the touched tables in order, entry by entry. R183: at the end of
the sweep S takes the complement of C and the unit is IDLE; R189: at the end of an abort the root and the
seed of S are those of C again, and ownership is released. R184, R189: what a sweep does to a station entry:
a settle makes a FROM_NEXT entry ALWAYS and removes an UNTIL_NEXT one, an abort does the reverse; an ALWAYS
entry is left alone, and so is every other key. Which entries count as restored is the model's choice (log entry
85). -/
def Obligations.SettlePhases : Prop :=
  (∀ s : State, s.tblOn = true → s.epc.st = .draining → s.oldGone = true → sweepOrder s.epc.touched ≠ [] →
    let u := s.dropOldSamples
    Becomes .drainComplete s { u with epc := { u.epc with st := .sweeping, sweepTabs := sweepOrder u.epc.touched, sweepPos := 0 } } ∧
    ∀ c < s.nClusters, ∀ e ∈ (u.clu c).samples, e.2.stamp.epoch = s.epc.c) ∧
  (∀ s : State, s.tblOn = true → s.epc.st = .draining → s.oldGone = true → sweepOrder s.epc.touched = [] →
    Completes .drainComplete s fun t => t.epc.st = .idle ∧ t.epc.s = ! s.epc.c ∧ t.epc.c = s.epc.c) ∧
  (∀ s : State, s.tblOn = true → s.epc.st = .draining → s.oldGone = false → s.epc.flipAt + s.drainMax ≤ s.mono →
    Becomes .drainTimeout s { s with epc := { s.epc with st := .flushing } }) ∧
  (∀ (s : State) (n : Nat), s.tblOn = true → s.epc.st = .flushing →
    let u := s.flushStale n
    (u.oldGone = false → Becomes (.epochFlush n) s u) ∧ (u.oldGone = true → Becomes (.epochFlush n) s u.toSweep)) ∧
  (∀ (s : State) (n i : Nat) (l : List Nat), s.tblOn = true → s.epc.st = .sweeping → s.epc.sweepTabs = i :: l →
    let r := s.sweepTable .settle i s.epc.sweepPos n
    let u := r.2.2
    (r.2.1 = false → u.epc.sweepTabs = i :: l → Becomes (.settleSweep n) s
      { u with epc := { u.epc with restored := u.epc.restored + r.1, sweepPos := min (sweepSize i) (s.epc.sweepPos + n) } }) ∧
    (r.2.1 = true → l = [] → Becomes (.settleSweep n) s
      ({ u with epc := { u.epc with restored := u.epc.restored + r.1, sweepTabs := [], sweepPos := 0 } } : State).settleDone)) ∧
  (∀ s : State,
    (s.settleDone.epc.st = .idle ∧ s.settleDone.epc.s = ! s.epc.c ∧ s.settleDone.epc.c = s.epc.c ∧
      s.settleDone.epc.num = s.epc.num ∧ s.settleDone.cu.settleWait = [] ∧ s.settleDone.tbl = s.tbl) ∧
    (s.abortEnd.epc.st = .idle ∧ s.abortEnd.epc.owner = none ∧ s.abortEnd.epc.num = s.epc.num ∧
      s.abortEnd.epc.rootA = (if s.epc.s then s.epc.rootC else s.epc.rootA) ∧
      s.abortEnd.epc.rootC = (if s.epc.s then s.epc.rootC else s.epc.rootA) ∧
      s.abortEnd.epc.seedA = (if s.epc.s then s.epc.seedC else s.epc.seedA) ∧
      s.abortEnd.epc.seedC = (if s.epc.s then s.epc.seedC else s.epc.seedA) ∧ s.abortEnd.tbl = s.tbl)) ∧
  (∀ (s : State) (w : Sweep) (k : Nat),
    let e := s.sta k
    let t := (s.sweepSta w k).2
    (lifeOf (wAt e 1) = 0 → s.sweepSta w k = (false, s)) ∧
    (lifeOf (wAt e 1) = 1 → w = .settle →
      t.sta k = setAt (staWithLife e 0) 3 (wAt e 3 &&& ~~~ flag 28 true)) ∧
    (lifeOf (wAt e 1) = 2 → w = .settle → t.sta k = []) ∧
    (lifeOf (wAt e 1) = 1 → w = .abort → t.sta k = []) ∧
    (lifeOf (wAt e 1) = 2 → w = .abort → t.sta k = staWithLife e 0) ∧
    ∀ j, j ≠ k → t.sta j = s.sta j)

/-- R173, R183, R189: ABORT_STAGE by the owner and a write of EPC_CFG with FORCE_ABORT 1 make an open
staging ABORTING; the abort's sweep goes over the touched tables, and which entries it counts as restored is the
model's choice (log entry 85); a SETTLE_WAIT completes at once in IDLE and STAGING and waits otherwise. -/
def Obligations.AbortAndWait : Prop :=
  (∀ (s : State) (c : TCmd), s.tblOn = true → s.cuHead = some c → c.op = 11 → formCheck c = none → s.stageCheck c = none →
    Completes .abortStage s fun t =>
      t.epc = { s.epc with st := .aborting, abortBy := some c, forced := false, commitBy := none, sweepTabs := sweepOrder s.epc.touched, sweepPos := 0, restored := 0 } ∧
        t.tbl = s.tbl) ∧
  (∀ (s : State) (r : Req) (v : Word), s.Open domTbl → bit v 31 = true → s.epc.st = .staging →
    Completes (.forceAbort r v) s fun t =>
      t.epc = { s.epc with st := .aborting, abortBy := none, forced := true, commitBy := none, sweepTabs := sweepOrder s.epc.touched, sweepPos := 0, restored := 0 } ∧
        t.rg .epcCfg = v &&& 0xFFFF ∧ t.tbl = s.tbl) ∧
  (∀ (s : State) (n i : Nat), s.tblOn = true → s.epc.st = .aborting → s.epc.sweepTabs = [i] →
    let r := s.sweepTable .abort i s.epc.sweepPos n
    let u := r.2.2
    r.2.1 = true → Becomes (.abortSweep n) s
      ({ u with epc := { u.epc with restored := u.epc.restored + r.1, sweepTabs := [], sweepPos := 0 } } : State).abortEnd) ∧
  (∀ (s : State) (c : TCmd), s.tblOn = true → s.cuHead = some c → c.op = 14 → s.cuPop.cmdCheck c = none →
    (s.epc.st = .idle ∨ s.epc.st = .staging →
      Becomes .settleWait s ((s.cuPop.complete c { r0 := s.epc.num }).cuTidy)) ∧
    (s.epc.st ≠ .idle → s.epc.st ≠ .staging →
      Completes .settleWait s fun t => t.cu.settleWait = s.cu.settleWait ++ [c] ∧ t.epc = s.epc))

/-! ### Clusters and images (R119, R136, R138, R143-R146) -/

/-- R119, R136, R138, R146, R361: a write of NEC_CTL with RESET 1 clears the cluster's threads and lock lines
and ADMIT, drops each packet of its threads at its place in the port's order, and starts its reset, which ends
100 ns later; one with ADMIT 0 clears ADMIT and gives up the cluster's samples, and its re-executions with
them; one with an INVAL bit makes a slot invalid that is not the active
slot of an admitted cluster; one of a drained cluster selects the active slot; one with ADMIT 1 admits a
cluster whose active slot is valid, whose group is not stale and which is in no reset. The slot table switch
takes a committed table. -/
def Obligations.ClusterControl : Prop :=
  (∀ (s : State) (r : Req) (c : Fin 64) (v : Word), s.Open (domPg (c / 8)) →
    Completes (.clusterReset r c v) s fun t =>
      (t.clu c).resetting = true ∧ (t.clu c).resetAt = s.mono ∧ (t.clu c).locks = [] ∧ t.admits c = false ∧
        (∀ k : Nat, k / 136 = c → t.thr k = {}) ∧
        ∀ k p : Nat, k / 136 = c → (s.thr k).sample = none → (s.thr k).pkt = some p →
          ((s.pkt p).stamp.seq, SeqItem.gone) ∈ t.held26 (s.pkt p).stamp.lport ∧ t.pkt p = {}) ∧
  (∀ (s : State) (r : Req) (c : Fin 64) (v : Word), s.Open (domPg (c / 8)) → bit v 31 = false → bit v 0 = false →
    Completes (.admitWrite r c v) s fun t =>
      t.admits c = false ∧ (t.clu c).locks = (s.clu c).locks ∧
        (s.admits c = true → (t.clu c).samples = [] ∧
          ∀ k i : Nat, k / 136 = c → (s.thr k).sample = some i → (s.clu c).samples.any (fun e => e.1 == i) = true →
            (t.thr k).st = .idle ∧ (t.thr k).sample = none) ∧
        ∀ k, (s.thr k).sample = none → t.thr k = s.thr k) ∧
  (∀ (s : State) (c : Fin 64), s.cluOn c = true → (s.clu c).resetting = true →
    (s.clu c).resetAt + 100 ≤ s.mono →
    Becomes (.clusterResetComplete c) s (s.setClu c { s.clu c with resetting := false })) ∧
  (∀ (s : State) (r : Req) (c : Fin 64) (i : Fin 2) (v : Word), s.Open (domPg (c / 8)) → bit v 31 = false →
    bit v (29 + i) = true → s.activeSlotOf c ≠ i ∨ s.admits c = false →
    Completes (.slotInvalidate r c v) s fun t => (t.slot c i).valid = false) ∧
  (∀ (s : State) (r : Req) (c : Fin 64) (v : Word), s.Open (domPg (c / 8)) → bit v 31 = false →
    s.drainedClu c = true → Completes (.activeSlot r c v) s fun t => t.activeSlotOf c = b2n (bit v 16)) ∧
  (∀ (s : State) (r : Req) (c : Fin 64) (v : Word), s.Open (domPg (c / 8)) → bit v 31 = false → bit v 30 = false →
    bit v 29 = false → bit v 0 = true → b2n (bit v 16) = s.activeSlotOf c →
    (s.slot c (s.activeSlotOf c)).valid = true → s.reload.stale.contains (c / 8 : Nat) = false →
    (s.clu c).resetting = false →
    Completes (.admitWrite r c v) s fun t => t.admits c = true ∧ t.activeSlotOf c = s.activeSlotOf c) ∧
  (∀ (s : State) (c : Fin 64), s.cluOn c = true → Becomes (.slotTableSwitch c) s
    (s.setClu c { s.clu c with slotTab := (s.clu c).slotNew.getD (s.clu c).slotTab, slotNew := none }))

/-- R144, R145: the image port: a write of TBL_IMG_CTL with START 1 begins a load of the selected slot of
the selected clusters of Active groups, one with ABORT 1 ends a load in progress with status 7; a data word
of the header joins it, and the last one makes the target slots invalid, or fails the load with the status of
what it finds; a data word that completes a microword writes it into the slot of every target cluster, or
fails the load as PARITY; the CRC word fails the load as CRC where it does not check, as FORMAT where the
schema section's format is not 1, and else the target slots are valid once the fill has ended; the fill ends
with the words beyond the image zero, and with the load where its CRC word has checked. -/
def Obligations.ImageLoad : Prop :=
  (∀ (s : State) (r : Req) (v : Word), s.Open domTbl →
    Completes (.imageLoadStart r v) s fun t =>
      t.img = { state := 1, slot := b2n (bit v 16), clusters := (List.range 64).filter fun c => bit v (8 + c / 8) && bit v (c % 8) && s.isActive (domPg (c / 8)), loads := s.img.loads } ∧
        t.cstore = s.cstore ∧ t.clusters = s.clusters) ∧
  (∀ (s : State) (r : Req) (v : Word), s.Open domTbl → bit v 31 = false → s.img.busy = true →
    Completes (.imageLoadAbort r v) s fun t =>
      t.img = { s.img with state := 4, status := 7 } ∧ t.cstore = s.cstore ∧ t.clusters = s.clusters) ∧
  (∀ (s : State) (r : Req) (v : Word), s.Open domTbl → s.img.state = 1 → s.img.crcOk = false →
    s.img.hdr.length < 15 →
    Becomes (.imageData r v) s (s.setImg { s.img with
      bytes := s.img.bytes + 4, hdr := s.img.hdr ++ [v], crc := crc32 s.img.crc (leBytes v) })) ∧
  (∀ (s : State) (r : Req) (v : Word), s.Open domTbl → s.img.busy = true → s.img.crcOk = false →
    Becomes (.imageData r v) s (s.imgData v)) ∧
  (∀ (s : State) (r : Req) (v : Word), s.Open domTbl → s.img.state = 1 → s.img.crcOk = false →
    s.img.hdr.length = 15 →
    let h := s.img.hdr ++ [v]
    Completes (.imageData r v) s fun t =>
      t.img.bytes = s.img.bytes + 4 ∧ t.cstore = s.cstore ∧
      (s.imgHeader h = 0 → t.img.state = 2 ∧ t.img.hdr = h ∧
        ∀ c ∈ s.img.clusters, s.img.slot < (s.clu c).slots.length → (t.slot c s.img.slot).valid = false) ∧
      (s.imgHeader h ≠ 0 → t.img.state = 4 ∧ t.img.status = s.imgHeader h ∧ t.clusters = s.clusters)) ∧
  (∀ (s : State) (r : Req) (v : Word), s.Open domTbl → s.img.state = 2 → s.img.crcOk = false →
    let x := s.img
    let w := microBytes (x.acc ++ leBytes v)
    x.bytes < 64 + imgWordsLen x.hdr → 14 ≤ x.acc.length → x.acc.length < 18 →
    x.word < fld (wAt x.hdr 3) 14 0 → x.word < 16384 → x.slot < 2 →
    Completes (.imageData r v) s fun t =>
      (parityOk w = true → (∀ c ∈ x.clusters, t.cword c x.slot x.word = w) ∧ t.img.word = x.word + 1 ∧
        t.img.acc = (x.acc ++ leBytes v).drop 18 ∧
        ∀ c i a, i < 2 → a < 16384 → c ∉ x.clusters ∨ i ≠ x.slot ∨ a ≠ x.word → t.cword c i a = s.cword c i a) ∧
      (parityOk w = false → t.img.state = 4 ∧ t.img.status = 4 ∧ t.cstore = s.cstore)) ∧
  (∀ (s : State) (r : Req) (v : Word), s.Open domTbl → s.img.state = 2 → s.img.crcOk = false →
    let x := s.img
    64 + imgWordsLen x.hdr + (wAt x.hdr 5).toNat ≤ x.bytes →
    Completes (.imageData r v) s fun t =>
      t.cstore = s.cstore ∧
      (v ≠ ~~~ x.crc → t.img.state = 4 ∧ t.img.status = 5) ∧
      (v = ~~~ x.crc → x.treeFmt ≠ 1 → t.img.state = 4 ∧ t.img.status = 1) ∧
      (v = ~~~ x.crc → x.treeFmt = 1 → t.img.state = (if x.filled then 3 else 2) ∧ t.img.crcOk = true ∧
        (x.filled = true → ∀ c ∈ x.clusters, x.slot < (s.clu c).slots.length →
          (t.slot c x.slot).valid = true ∧ (t.slot c x.slot).pktEntry = fld (wAt x.hdr 4) 13 0 ∧
            (t.slot c x.slot).words = fld (wAt x.hdr 3) 14 0))) ∧
  (∀ s : State, s.tblOn = true → s.img.state = 2 → s.img.filled = false →
    Completes .imageFillComplete s fun t =>
      (∀ c ∈ s.img.clusters, ∀ a, fld (wAt s.img.hdr 3) 14 0 ≤ a → a < 16384 → s.img.slot < 2 →
        t.cword c s.img.slot a = 0) ∧
      t.img.state = (if s.img.crcOk then 3 else 2) ∧ t.img.filled = true)

/-! ### Sentinels (R355-R364) -/

/-- R356-R359: a sample whose digests are equal is freed, one whose digests differ waits for its recheck; a
free thread of the primary engine and the sentinel's thread of the set then run the sample again, and their
two digests decide whether the event is transient, the engine is retired or the checker is at fault; a
self-test that passes is recorded, and one that fails is a checker fault. R358-R364, R400: the spare takes
the place of a retired engine whose threads are done; REARM ends a checker fault, or, with the spare halted,
asks for the self-test that will; the sentinel's role rotates to the next engine that is not retired; a write
of FLT_RETIREc retires each engine whose bit is set and that is not retired, in their order. That the recheck takes the
lowest-numbered free thread is the model's choice (log entry 36). -/
def Obligations.Sentinels : Prop :=
  (∀ (s : State) (c : Fin 64) (i : Fin 8) (x : Sample) (p d : Word), s.cluOn c = true →
    s.sample c i = some x → x.recheck = false → x.void = false → x.p1 = some p → x.s1 = some d →
    Completes (.digestCompare c i) s fun t =>
      t.sample c i = (if p = d then none else some { x with recheck := true }) ∧
        (∀ j, j ≠ (i : Nat) → t.sample c j = s.sample c j) ∧ t.tbl = s.tbl ∧ t.buf = s.buf) ∧
  (∀ (s : State) (c : Fin 64) (i : Fin 8) (x : Sample), s.cluOn c = true → s.sample c i = some x →
    x.recheck = true →
    (∀ th : Nat, x.again = false →
      (List.range 8).find? (fun t => decide ((s.thr (thrKey c x.engine t)).st = .idle) &&
        ! (x.engine == (s.clu c).sentinel && t == i.val)) = some th →
      (s.thr (thrKey c (s.clu c).sentinel i)).st = .idle →
      Becomes (.digestRecheck c i) s
        (((s.setSample c i (some { x with again := true, prim := some (thrKey c x.engine th) })).reexec c
          x.engine th i x).reexec c (s.clu c).sentinel i i x)) ∧
    (∀ p2 s2 : Word, x.again = true → x.void = false → x.p2 = some p2 → x.s2 = some s2 →
      let u := (s.sentEntry p2 s2 3 x c).setSample c i none
      (p2 = s2 → Becomes (.digestRecheck c i) s (u.raise
        { src := 64 + c / 8, cls := .blue, code := 7, info := infoCET c x.engine 0 (b2n (decide (x.p1 ≠ some p2))) })) ∧
      (p2 ≠ s2 → (s.clu c).selfTest = true → Becomes (.digestRecheck c i) s (u.retire c x.engine 1)) ∧
      (p2 ≠ s2 → (s.clu c).selfTest = false → Becomes (.digestRecheck c i) s (u.checkerFault c 0)))) ∧
  (∀ (s : State) (c : Fin 64), s.cluOn c = true → (s.clu c).sentinel < 17 →
    (s.clu c).rearm = true ∨ (s.sentEn c = true ∧ (s.clu c).checker = false) → s.spareHalted c = false →
    Completes (.knownAnswerSelfTest c none) s (fun t =>
      t.clu c = { s.clu c with selfTest := true, checker := false, rearm := false } ∧ t.threads = s.threads) ∧
    ∀ k : Fin 16, Becomes (.knownAnswerSelfTest c (some k)) s
      ((s.setClu c { s.clu c with rearm := false }).checkerFault c k)) ∧
  (∀ (s : State) (c : Fin 64) (e : Nat), s.cluOn c = true → (s.clu c).sentinel < 17 →
    (s.clu c).spareDue = some e → s.engineBusy c e = false →
    let u := s.dropSamples c
    Becomes (.spareTaken c) s
      ((u.setClu c { u.clu c with sentinel := 31, spareUsed := true, spareDue := none, rotating := none }).raise
        { src := 56 + c / 8, cls := .orange, code := 9, info := infoCET c (s.clu c).sentinel 0 0 })) ∧
  (∀ (s : State) (r : Req) (c : Fin 64) (v : Word), s.Open (domPg (c / 8)) → bit v 30 = true →
    (s.clu c).sentinel < 17 →
    Completes (.rearm r c v none) s fun t =>
      t.clu c = (if s.spareHalted c then { s.clu c with rearm := true }
        else { s.clu c with selfTest := true, checker := false, rearm := false }) ∧
        t.rg .necSentCfg c = v &&& 0x800F001F ∧ t.threads = s.threads) ∧
  (∀ (s : State) (c : Fin 64) (e : Nat), s.cluOn c = true → (s.clu c).sentinel < 17 →
    (s.clu c).spareUsed = false → (s.clu c).spareDue = none → (s.clu c).checker = false →
    (s.clu c).rotating = none → s.now % 86400000000000 = c * 1350000000000 → s.nextSentinel c = some e →
    Becomes (.sentinelRotation c) s (s.setClu c { s.clu c with rotating := some e })) ∧
  (∀ (s : State) (c : Fin 64) (e : Nat), s.cluOn c = true → (s.clu c).sentinel < 17 →
    (s.clu c).rotating = some e → s.engineBusy c e = false →
    Becomes (.rotationComplete c) s
      (s.setClu c { s.clu c with sentinel := e, rotating := none, selfTest := false })) ∧
  (∀ (s : State) (r : Req) (c : Fin 64) (v : Word), s.regOn = true → c.val < s.nClusters →
    Becomes (.retireWrite r c v) s (((List.range 17).filter (bit v)).foldl (fun u e => u.retire c e 4) s)) ∧
  (∀ (s : State) (c e : Nat), s.isRetired c e = true → s.retire c e 4 = s)

/-! ### Faults, scrubbing and tests (R342-R367) -/

/-- R343, R349, R350: whatever reactions an event has, its record joins the history, while the history
memory works and is not full. -/
def Obligations.FaultIsRecorded : Prop :=
  ∀ (s : State) (e : FaultEv), s.flt.lost = false → s.flt.hist.length < 32 →
    ∃ n < 32, (s.raiseCore e).flt.hist = s.flt.hist ++ [mkHist s.now e n]

/-- R347, R350, R352, R364: the end of a fault window clears the Blue counts and the charges of engines; a
read of FLT_HIST_HEAD answers the head record and takes it off; a write of FLT_STATUS3 with HISTORY_LOST 1
takes the history memory back into service with what the flip-flops hold. R226, R365, R367: a measured drift
below both limits is kept and raises nothing; a test whose precondition holds starts, one whose precondition
fails ends at once as not run, and one that finds nothing passes; a quadrant goes offline. The collector's
windows, measurements and tests go on in a frozen device until its clocks stop (R24). -/
def Obligations.FaultHistoryAndTests : Prop :=
  (∀ s : State, s.regOn = true →
    let w := max 1 (fld (s.rg .fltCfg) 15 0) * 1000000000
    s.now % w = 0 ∨ s.now / w ≠ s.flt.winStart / w →
    Becomes .faultWindowEnd s { s with
      flt := { s.flt with blue := [], winStart := s.now },
      clusters := s.clusters.map fun e => (e.1, { e.2 with pcharge := [] }) }) ∧
  (∀ (s : State) (r : Req) (v : Word), s.regOn = true → bit v 31 = true → s.flt.lost = true →
    Completes (.historyLost r v) s fun t =>
      t.flt = { s.flt with lost := false, hist := s.flt.flop.toList, flop := none } ∧
        t.rg .fltStatus3 = s.rg .fltStatus3 &&& ~~~ (v &&& 0x80070000)) ∧
  (∀ (s : State) (r : Req) (x : HistRec) (l : List HistRec), s.live = true → s.flt.lost = false →
    s.flt.hist = x :: l →
    Becomes (.historyPop r false) s
      ((s.emit (.readData r x.head)).histPop) ∧ (s.emit (.readData r x.head)).histPop.flt.hist = l) ∧
  (∀ (s : State) (m : Fin 20) (d : BitVec 16), s.regOn = true → s.monitorOn m = true →
    d.toNat < fld (s.rg .fltAgeCfg) 31 16 → d.toNat < fld (s.rg .fltAgeCfg) 15 0 →
    Becomes (.ageingMeasure m d) s { s with flt := { s.flt with drift := tset (fun _ => 0) s.flt.drift m d } }) ∧
  (∀ (s : State) (r : Req) (v : Word), s.regOn = true → s.flt.testGo = false → bit v 31 = true →
    let u := s.setRg .fltTest 0 0 (v &&& 0x0300003F)
    Completes (.onlineTestStart r v) s fun t =>
      if u.testPre (fld v 25 24) (fld v 5 0) then t.flt = { s.flt with testGo := true, testRes := 0, testAt := s.mono }
      else t.flt = { s.flt with testRes := 3 } ∧ t.groups = s.groups) ∧
  (∀ (s : State) (checker : Bool), s.regOn = true → s.flt.testGo = true →
    s.flt.testAt + testTime (fld (s.rg .fltTest) 25 24) ≤ s.mono →
    (fld (s.rg .fltTest) 25 24 = 0 → checker = false) →
    Completes (.onlineTestEnd false 0 checker) s fun t =>
      t.flt = { s.flt with testGo := false, testRes := 1 } ∧ t.held = s.held ∧ t.buf = s.buf) ∧
  (∀ (s : State) (r : Req) (i : Fin 4), s.regOn = true → s.buf.offline = [] →
    Completes (.quadrantOffline r (flag i true)) s fun t => t.buf.offline = [(i : Nat)] ∧ t.buf.bufs = s.buf.bufs)

/-- R353, R354: a scrub of a good word changes nothing; of a corrected one, raises a Blue event. An
uncorrectable word of a replica, of tree memory or of a copy table is rewritten from the master copy; one of
the master copies is repaired where an Active replica or copy holds it, else it is Crimson; one of scratch is
rewritten as zero; one of a queue, shaper or policer state has its entry reset; one of a held buffer or frame
marks it; one of the history memory takes that out of service; the others are events alone. How the words of
the master copies and of queue state are numbered is the model's choice (log entry 9), and which frame a word
of a holding store belongs to (log entry 70). The scrub of a control store takes a bad word from a partner,
or asks for the image again. R348, R431: the events of the bridge and of a SerDes chiplet are raised with
their source and class; that the latter's INFO is the chiplet's number is the model's choice (log entry 82). A
failed calibration takes its chiplet's sub-ports down, and a lost reference is shown lost (R418). -/
def Obligations.Scrubbing : Prop :=
  (∀ (s : State) (m : Sram) (i : Nat), s.live = true → s.sramOn m = true →
    Becomes (.sramScrub m i .good) s s ∧
    ((∀ h, m ≠ .hostIf h) → Becomes (.sramScrub m i .corrected) s
      (s.raise { src := sramSource m, cls := .blue, code := 1, info := sramInfo m i }))) ∧
  (∀ (s : State) (k : Fin 4) (i : Nat), s.live = true → s.sramOn (.station k) = true →
    Becomes (.sramScrub (.station k) i .uncorrectable) s
      (({ s with tbl := { s.tbl with staR := tset (fun _ => []) s.tbl.staR (k * 2 ^ 20 + i) (s.sta i) } } : State).raise
        { src := 16 + k, cls := .blue, code := 3, info := put 23 0 i })) ∧
  (∀ (s : State) (i : Nat), s.live = true →
    let bad (m : Sram) (u : State) (cls : FClass) (code : Nat) : Prop :=
      s.sramOn m = true → Becomes (.sramScrub m i .uncorrectable) s
        (u.raise { src := sramSource m, cls := cls, code := code, info := sramInfo m i })
    (∀ k : Fin 4, bad (.neighbour k) { s with
      tbl := { s.tbl with nbrR := tset (fun _ => []) s.tbl.nbrR (k * 2 ^ 18 + i) (s.nbr i) } } .blue 3) ∧
    (∀ c : Fin 64, bad (.treeMem c) { s with
      tbl := { s.tbl with
        treeG := tset (fun _ => []) s.tbl.treeG (c / 8 * 65536 + i) (tget (fun _ => []) s.tbl.tree i) } } .blue 3) ∧
    (∀ n : Fin 8, bad (.copyTab n) { s with
      tbl := { s.tbl with cpG := tset cpReset s.tbl.cpG (n * 2 ^ 22 + i) (tget cpReset s.tbl.cp i) } } .blue 3) ∧
    (s.masterHeld i = true → bad .masters s .blue 3) ∧ (s.masterHeld i = false → bad .masters s .crimson 2) ∧
    (∀ c : Fin 64, bad (.scratch c)
      (s.setClu c { s.clu c with scratch := tset (fun _ => 0) (s.clu c).scratch i 0 }) .orange 2) ∧
    (∀ n : Fin 8, bad (.queueState n) (s.resetQueueState n i) .orange 2) ∧
    (∀ q : Fin 4, ∀ e ∈ s.buf.bufs.find? (fun e =>
        decide (e.1 ≤ q * 64 * 4096 + i / 32) && decide (q * 64 * 4096 + i / 32 < e.1 + poolCells e.2.pool)),
      bad (.buffer q) (s.setBuf e.1 { e.2 with ecc := true }) .blue 2) ∧
    (∀ n : Fin 8, bad (.holding n) (s.markHold n i) .blue 2) ∧
    (∀ n : Fin 8, bad (.pipeState n) s .crimson 2) ∧ bad .descriptor s .crimson 2 ∧
    bad .ringMem s .orange 2 ∧ bad .telemetryMem s .orange 2 ∧ (∀ h : Fin 2, bad (.hostIf h) s .orange 2) ∧
    bad .repList s .blue 3) ∧
  (∀ (s : State) (i : Nat), s.regOn = true → s.sramOn .history = true → s.flt.lost = false →
    Completes (.sramScrub .history i .uncorrectable) s fun t => t.flt.lost = true ∧ t.flt.hist = []) ∧
  (∀ (s : State) (c : Fin 64) (i : Fin 2) (a : Fin 16384) (up : BitVec 144), s.cluOn c = true →
    let u := s.setCword c i a (s.cword c i a ^^^ up)
    (parityOk (s.cword c i a ^^^ up) = true → Becomes (.controlStoreScrub c i a up) s u) ∧
    (∀ d, parityOk (s.cword c i a ^^^ up) = false → u.partner c i a = some d →
      Becomes (.controlStoreScrub c i a up) s ((u.setCword c i a (u.cword d i a)).raise
        { src := 56 + c / 8, cls := .blue, code := 6, info := infoCET c 0 0 a })) ∧
    (parityOk (s.cword c i a ^^^ up) = false → u.partner c i a = none →
      Becomes (.controlStoreScrub c i a up) s
        (u.raise { src := 56 + c / 8, cls := .orange, code := 2, info := infoCET c 0 0 a }))) ∧
  (∀ (s : State) (d : Word), s.regOn = true →
    Becomes (.bridgeLane .retry d) s (s.raise { src := 28, cls := .blue, code := 0x18, info := d }) ∧
    Becomes (.bridgeLane .lane d) s (s.raise { src := 28, cls := .orange, code := 0x19, info := d }) ∧
    Becomes (.bridgeLane .uncorrectable d) s (s.raise { src := 28, cls := .crimson, code := 2, info := d })) ∧
  (∀ (s : State) (sx : Fin 8), s.regOn = true →
    (s.isActive (domSx sx) = true → Becomes (.serdesCal sx false) s
      ((s.raise { src := 48 + sx, cls := .orange, code := 0x1D, info := wd sx }).sxDown sx)) ∧
    (s.isActive (domSx sx) = true → s.straps.refsel = false → Becomes (.serdesCal sx true) s
      ((({ s with clk := { s.clk with
          sxRef := s.clk.sxRef &&& ~~~ (BitVec.ofNat 8 (2 ^ sx.val)) } } : State).raise
        { src := 48 + sx, cls := .orange, code := 0x1D, info := wd sx }).sxDown sx)) ∧
    (s.isActive (domSx sx) = false → s.straps.refsel = false → Completes (.serdesCal sx true) s fun t =>
      t.clk.sxRef.getLsbD sx = false ∧ t.flt = s.flt ∧ t.ports = s.ports))

/-! ### Power, resets, time and clocks (R369-R385, R429-R438) -/

/-- R370-R374: a write of PWR_DOMk whose target the domain accepts sets TARGET, and MOVING while the domain
is elsewhere; one it does not accept is REFUSED. A step brings the domain to the next shade, up, or down where
it may leave and has nothing to wait for; a step down that the domain may not take is refused. A woken domain
returns to Pale. No other domain changes its shade or its TARGET. R369, R382: a write of PWR_DOMk with RESET 1
takes a domain above 2 to Black, from where it moves up to Active. The time until a woken domain returns runs
with elapsed time (log entry 68). -/
def Obligations.PowerShades : Prop :=
  (∀ (s : State) (r : Req) (k : Fin 26) (v : Word) (x : Shade), s.regOn = true → s.fusedDom k = false →
    bit v 23 = false → Shade.ofCode (fld v 31 29) = some x → (s.dmn k).resetting = false →
    Completes (.shadeRequest r k v) s fun t =>
      (t.dmn k).shade = (s.dmn k).shade ∧ (∀ j, j ≠ (k : Nat) → t.dmn j = s.dmn j) ∧
        if accepts k x && (x = .active || s.mayLeave k) then
          (t.dmn k).target = x ∧ (t.dmn k).moving = ((s.dmn k).step.isSome || decide ((s.dmn k).shade ≠ x))
        else (t.dmn k).refused = true ∧ ((s.dmn k).moving = false → (t.dmn k).target = (s.dmn k).target)) ∧
  (∀ (s : State) (k : Fin 26) (x : Shade), s.live = true →
    (s.dmn k).step = some x ∨ ((s.dmn k).step = none ∧ (s.dmn k).moving = true ∧
      nextShade k (s.dmn k).shade.code (s.dmn k).goal.code = some x) →
    (x.code < (s.dmn k).shade.code →
      ((s.dmn k).step = none → (s.dmn k).shade = .black → s.mayRise k = true) →
      Completes (.shadeStep k) s fun t => (t.dmn k).shade = x ∧
        ∀ j, j ≠ (k : Nat) → (t.dmn j).shade = (s.dmn j).shade ∧ (t.dmn j).target = (s.dmn j).target) ∧
    ((s.dmn k).shade.code < x.code → ((s.dmn k).step = none → s.mayLeave k = true) → s.stepWait k x = true →
      Completes (.shadeStep k) s fun t => (t.dmn k).shade = x) ∧
    ((s.dmn k).shade.code < x.code → (s.dmn k).step = none → s.mayLeave k = false →
      Completes (.shadeStep k) s fun t =>
        t.dmn k = { s.dmn k with target := (s.dmn k).shade, refused := true, moving := false, woken := none } ∧
          t.held = s.held ∧ t.tbl = s.tbl)) ∧
  (∀ (s : State) (k : Fin 26) (t0 : Nat), s.live = true → (s.dmn k).woken = some t0 → t0 + 10000 ≤ s.mono →
    (s.dmn k).shade = .active → s.mayLeave k = true → s.stepWait k .pale = true →
    Completes (.paleReturn k) s fun t => (t.dmn k).shade = .pale ∧ (t.dmn k).woken = none) ∧
  (∀ (s : State) (r : Req) (k : Fin 26) (v : Word), s.regOn = true → s.fusedDom k = false → 3 ≤ k.val →
    Completes (.domainReset r k v) s fun t =>
      (t.dmn k).shade = .black ∧ (t.dmn k).moving = true ∧ (t.dmn k).resetting = true ∧
        ∀ j, j ≠ (k : Nat) → t.dmn j = s.dmn j)

/-- R375, R376: a write of PWR_RELOAD starts the reload of every Active group named that has no admitted
cluster; at its end the group's trees are those of the masters, and it is stale no more. -/
def Obligations.Reloading : Prop :=
  (∀ (s : State) (r : Req) (v : Word), s.regOn = true →
    Completes (.reloadStart r v) s fun t =>
      t.tbl = s.tbl ∧ ∀ n < s.nGroups, bit v n = true → s.isActive (domPg n) = true →
        (groupClusters n).all (fun c => ! s.admits c) = true → n ∈ t.reload.go) ∧
  (∀ (s : State) (n : Fin 8), s.tblOn = true → s.reload.go.contains (n : Nat) = true →
    Completes (.reloadComplete n) s fun t =>
      (n : Nat) ∉ t.reload.go ∧ (n : Nat) ∉ t.reload.stale ∧ t.tbl.tree = s.tbl.tree ∧
      (∀ i < 65536, tget (fun _ => []) t.tbl.treeG (n * 65536 + i) = tget (fun _ => []) s.tbl.tree i) ∧
      ((∀ e ∈ s.tbl.tree, e.1 < 65536) →
        ∀ j : Nat, j / 65536 ≠ n → tget (fun _ => []) t.tbl.treeG j = tget (fun _ => []) s.tbl.treeG j))

/-- R379, R380: an accepted edge whose error is below the threshold is trimmed out at up to 100 ppm, and no step
is taken; one whose error is not is a step to the whole second, and one that TIME_SET_SEC has armed a step to
its second; a missing edge raises PPS_FAULT; a write of TIME_SET_SEC arms the next edge while PPS_EN is 1, and
steps device time at once where it is 0. The edges count while the time base has its clock, in a frozen device too,
until its clocks stop (R24, R378). That the trim is a rate in force until the next edge is the model's
reading (log entry 35), and that the times between edges run with elapsed time (log entry 68). -/
def Obligations.DeviceTime : Prop :=
  (∀ s : State, s.timeOn = true → s.ppsEn = true → s.time.edgeSeen = false ∨ s.time.ref + 900000000 ≤ s.mono →
    let e := ppsErr s.now
    let thr := max 1 (fld (s.rg .timeCtl) 15 0) * 1000
    (s.time.armed = none → e.natAbs < thr →
      Becomes .ppsEdge s { s with time := { s.time with err := wd (satInt 32 e), edgeSeen := true, missed := false, trim := max (-100000) (min 100000 e), frac := 0, ref := s.mono } }) ∧
    (s.time.armed = none → thr ≤ e.natAbs → Completes .ppsEdge s fun t =>
      t.now = ((s.now : Int) - e).toNat % 2 ^ 64 ∧ t.time.err = wd (satInt 32 e) ∧ t.time.trim = s.time.trim) ∧
    (∀ sec, s.time.armed = some sec → Completes .ppsEdge s fun t =>
      t.now = sec * 1000000000 % 2 ^ 64 ∧ t.time.armed = none)) ∧
  (∀ s : State, s.timeOn = true → s.ppsEn = true → s.time.missed = false → s.time.ref + 1100000000 ≤ s.mono →
    Becomes .ppsFault s (({ s with time := { s.time with missed := true } } : State).raise
      { src := 2, cls := .blue, code := 0x1B })) ∧
  (∀ (s : State) (r : Req) (v : Word), s.regOn = true →
    Completes (.timeSetSec r v) s fun t =>
      t.rg .timeSetSec = v ∧
        if s.ppsEn then t.now = s.now ∧ t.time.armed = some v.toNat
        else t.now = v.toNat * 1000000000 % 2 ^ 64)

/-- R381-R384, R428, R429: a power-on reset leaves the state of the reset, but for what the factory fixed, the fuses,
the straps as sampled, the commands that wait, what has left the device, and, of DRAM, how often its devices have lost
their contents, which is once more; so does the loss of a rail that the reset watches; a rail below its minimum is an
event, and the loss of VDDQ_DDR or of a channel's devices' supply loses their contents, the former with what the
reaction to its event still wrote there. What a lost byte reads as from then on is a free value (log entry 5). A chip reset and FWD_EN are writes of CHIP_CTL; the chain's
requests go on waiting through the former (R24, R389). R378, R415, R418, R438: a PLL that loses
lock while its domain runs stops its clock domain, and raises an event, whose INFO is the clock domain's
number by the model's choice (log entry 82); the reference that it follows is then shown as measured. A
junction temperature at least 5 °C below the variant's limit clears both warnings, and one at the limit raises
the first. -/
def Obligations.ResetsAndClocks : Prop :=
  (∀ (s : State) (b : BitVec 4) (d : Word) (c : Fin 4),
    let ev (u : State) := u.raise { src := 4, cls := .crimson, code := 0x16, info := d }
    (∃ u : State, Becomes (.powerOnReset b false) s u ∧ Becomes (.rail (.por b false) d) s u ∧
      u = { State.reset with
        pending := s.pending, ident := s.ident, fuses := s.fuses, free := s.free, out := s.out,
        straps := { pcieMode := b.getLsbD 0, refsel := b.getLsbD 1, chnTerm := b.getLsbD 2, testMode := b.getLsbD 3 },
        dram := { State.reset.dram with ch := u.dram.ch } } ∧
      ∀ k < 4, u.dch k = { undef := (s.dch k).undef + 1 }) ∧
    Completes (.rail (.por b true) d) s (fun t => ∃ n < 32,
      t.flt.hist = [mkHist 0 { src := 1, cls := .orange, code := 0x1A } n]) ∧
    Becomes (.rail .below d) s (ev s) ∧
    Becomes (.rail .ddrRail d) s ((List.range 4).foldl State.dramBlank (ev s)) ∧
    Completes (.rail (.ddrDevices c) d) s (fun t =>
      (t.dch c).undef = (s.dch c).undef + 1 ∧ (t.dch c).poison = [] ∧
      (∀ x : Nat, x / 2 ^ 38 = c → t.dramGet x = Config.dramByte ((s.dch c).undef + 1) x) ∧
      (∀ x : Nat, x / 2 ^ 38 ≠ c → t.dramGet x = s.dramGet x) ∧ ∀ e, e ≠ c.val → t.dch e = s.dch e)) ∧
  (∀ (s : State) (r : Req) (v : Word), s.regOn = true → bit v 31 = true → fld v 7 0 = 0xC4 →
    Becomes (.chipReset r v) s s.chipReset ∧ s.chipReset.time = s.time ∧ s.chipReset.flt.hist = s.flt.hist ∧
      s.chipReset.dom = State.reset.dom ∧ s.chipReset.tbl = {} ∧ s.chipReset.buf = {} ∧
      s.chipReset.chain.q = s.chain.q) ∧
  (∀ (s : State) (r : Req) (v : Word), s.regOn = true → bit v 31 = false → bit v 8 = true →
    Completes (.fwdEn r v) s fun t => t.rg .chipCtl = s.rg .chipCtl ||| 0x100) ∧
  (∀ (s : State) (k : Fin 156), s.regOn = true → 64 ≤ k.val → k.val ≠ 154 → s.clkOk k = true →
    s.fusedDom (clkDomain k) = false → s.pllRuns k = true →
    let pcie := k.val = 146 ∨ k.val = 147
    Becomes (.pllLock k) s (({ s with clk := { s.clk with
        lost := s.clk.lost ++ [k.val],
        pcieRef := if pcie then false else s.clk.pcieRef,
        sysRef := if pcie ∨ k.val < 72 then s.clk.sysRef else false } } : State).raise
      { src := 3, cls := .crimson, code := 0x15, info := wd k })) ∧
  (∀ (s : State) (x : Int), x ≤ (s.ident.variant.tjMax : Int) - 5 →
    Becomes (.thermalEvent x) s { s with flt := { s.flt with hotWarn := false, hotCrit := false } }) ∧
  (∀ (s : State) (x : Int), (s.ident.variant.tjMax : Int) ≤ x →
    x < (s.ident.variant.tjMax : Int) + 10 → s.flt.hotWarn = false → s.flt.hotCrit = false →
    Becomes (.thermalEvent x) s (({ s with flt := { s.flt with hotWarn := true, hotCrit := false } } : State).raise
      { src := 4, cls := .orange, code := 0x13, info := BitVec.ofInt 32 x }))

/-! ### Ledger and telemetry (R141, R246-R268) -/

/-- R246-R250: the counting of a term moves the running balance of a port's account and of its group's by the
frames counted, up where they enter and down where they leave, and that of no other account. A descriptor that
is dropped at egress is counted as it ceases to be held, so that it leaves every running balance as it was. -/
def Obligations.CountingBalances : Prop :=
  (∀ (s : State) (lp : Nat) (par : Bool) (x : Term) (n a : Nat), lp < 256 →
    (s.book lp par x n).running a = s.running a +
      (if inAcct a lp par then (if x.enters then (n : Int) else - (n : Int)) else 0)) ∧
  ∀ (s : State) (d r a : Nat), twf (fun _ => ({} : Desc)) s.buf.descs = true → d ∈ tkeys s.buf.descs →
    (s.desc d).lport < 256 → (s.dropDesc d r).running a = s.running a

/-- R249-R255: an interval's close moves every count of the running interval to the closed one, unless its
points have closed with its boundary already, as the model has them all do at once (log entry 72); it is then
to be checked, and frames stay where they are; the check of an interval in which no account fails places no
record of imbalance, and that of one in which one account fails places one for each of its failed checks, with
its difference, counts it once and raises LEDGER_IMBALANCE. R258, R259, R263: the end of a
histogram period empties the bins; a waiting batch of digests is emitted; the end of a bandwidth window gives
every port and direction its rate and its peak. R141, R255, R259, R260: the writes that clear peaks and
counter groups clear those they name and no other; a read of a record FIFO's head answers it and takes it
off. -/
def Obligations.TelemetryIntervals : Prop :=
  (∀ s : State, s.telOn = true → s.ledDue = true →
    (s.led.latched = false → Completes .intervalClose s fun t =>
      t.led.lat = s.led.cnt ∧ t.led.cnt = [] ∧ t.led.heldPrev = s.led.held ∧ t.led.held = s.heldAll ∧
        t.led.rsnLat = s.led.rsn ∧ t.led.rsn = [] ∧ t.led.due = true ∧ t.led.latched = false ∧
        t.led.absentLat = s.absentNow ∧ t.led.imb = s.led.imb ∧ t.buf = s.buf ∧ t.pkts = s.pkts ∧ t.tbl = s.tbl) ∧
    (s.led.latched = true → Completes .intervalClose s fun t =>
      t.led.lat = s.led.lat ∧ t.led.cnt = s.led.cnt ∧ t.led.held = s.led.held ∧ t.led.due = true ∧
        t.led.latched = false ∧ t.clusters = s.clusters ∧ t.buf = s.buf ∧ t.tbl = s.tbl)) ∧
  (∀ s : State, s.telOn = true → s.led.due = true → s.failing = [] →
    Completes .ledgerCheck s fun t =>
      t.led = { s.led with due := false } ∧ t.buf = s.buf ∧ t.tbl = s.tbl ∧ t.flt = s.flt) ∧
  (∀ (s : State) (group par : Bool) (index : Nat), s.telOn = true → s.led.due = true →
    s.failing = [(group, index, par)] → s.reactions 26 .orange < 2 → s.flt.lost = false →
    s.flt.hist.length < 32 →
    let fails := s.acctFails (group, index, par)
    let intv := lo32 (s.ctr .ledIntvLo 0 0)
    s.led.imb.length + fails.length ≤ 16 →
    Completes .ledgerCheck s fun t =>
      t.led = { s.led with
        due := false,
        imb := s.led.imb ++ fails.map fun f =>
          { intv := intv, diff := wd (satInt 32 f.2),
            head := flag 31 true ||| flag 30 group ||| flag 29 par ||| flag 28 f.1 ||| put 7 0 index } } ∧
      t.rg .ledImbCount = wd (sat 32 ((s.rg .ledImbCount).toNat + 1)) ∧
      ∃ n < 32, t.flt.hist = s.flt.hist ++ [mkHist s.now { src := 26, cls := .orange, code := 0x0D, info := intv } n]) ∧
  (∀ s : State, s.telOn = true → s.tel.periodDue = true →
    Completes .histogramPeriodEnd s fun t =>
      t.tel.bins = [] ∧ t.tel.enq = [] ∧ t.tel.refused = [] ∧ t.tel.periodDue = false ∧ t.led = s.led) ∧
  (∀ s : State, s.telOn = true → s.tel.digs ≠ [] → s.tel.digAt + 10000 ≤ s.now →
    Completes .digestBatchEmit s fun t => t.tel.digs = [] ∧ t.led = s.led) ∧
  (∀ s : State, s.telOn = true → s.bwEnd ≤ s.now →
    let rate (i : Nat) := tget (fun _ => 0) s.tel.bwWin i * 8 / s.tel.bwLen % 2 ^ 21
    Completes .bandwidthWindowEnd s fun t =>
      t.tel.bwWin = [] ∧ t.tel.bwStart = s.bwEnd ∧
        ∀ i < 512, tget (fun _ => 0) t.tel.bwLast i = rate i ∧
          tget (fun _ => 0) t.tel.bwPeak i = max (rate i) (tget (fun _ => 0) s.tel.bwPeak i)) ∧
  (∀ (s : State) (r : Req) (v : Word), s.Open domTel →
    let lp := fld (s.pv r (regAddr .telBwIdx 0 0 0)) 7 0
    (bit v 1 = false → Completes (.peakClearPort r v) s fun t =>
      ∀ i, tget (fun _ => 0) t.tel.bwPeak i = if i / 2 = lp then 0 else tget (fun _ => 0) s.tel.bwPeak i) ∧
    Completes (.peakClearAll r v) s (fun t => t.tel.bwPeak = [] ∧ t.tel.bwLast = s.tel.bwLast)) ∧
  (∀ (s : State) (r : Req) (hi : Bool) (v : Word), s.Open domTel →
    Completes (.counterGroupClear r hi v) s fun t =>
      ∀ n < 1024, t.ctr .pmcCntLo 0 n =
        if n / 512 = b2n hi ∧ bit v (n / 16 % 32) = true then 0 else s.ctr .pmcCntLo 0 n) ∧
  (∀ (s : State) (r : Req) (x : ImbRec) (l : List ImbRec), s.Open domTel → s.live = true → s.led.imb = x :: l →
    Becomes (.imbalancePop r) s
      (({ s with led := { s.led with imb := l } } : State).emit (.readData r x.head))) ∧
  (∀ (s : State) (r : Req) (c : Fin 64) (w : Word) (l : List Word), s.Open (domPg (c / 8)) → s.live = true →
    (s.clu c).mcLog = w :: l →
    Becomes (.mcLogPop r c) s ((s.setClu c { s.clu c with mcLog := l }).emit (.readData r w)))

/-! ### Register accesses (R8-R12, R273-R291) -/

/-- R10: what a write leaves of a stored word, bit by bit: an RW bit takes the value written, an RW1C bit to
which 1 is written is 0, and every other bit keeps its value. -/
def Obligations.WrittenBits : Prop :=
  ∀ (x : RegRow) (old v : Word) (i : Nat),
    (x.written old v).getLsbD i =
      (if x.w1c.getLsbD i && v.getLsbD i then false else if x.rw.getLsbD i then v.getLsbD i else old.getLsbD i)

/-- R10: an access to an internal address that names a register in no power domain, or in one that serves it,
is a write of that register, or a read that answers its value and clears its RC bits. -/
def Obligations.RegisterPaths : Prop :=
  ∀ (s : State) (r : Req) (a : Nat) (x : RegAt), s.regOn = true → a < 2 ^ 32 → a % 4 = 0 → msixAt a = none →
    regAt a = some x → (s.domOf r x = none ∨ ∃ k, s.domOf r x = some k ∧ s.Open k) →
    (∀ v, x.row.name ≠ .chipCommit →
      Becomes (.registerWrite (.internal r a) v) s (s.writeReg r x v)) ∧
    (s.live = true → s.dead x = false →
      x.row.name ∉ [RegName.histHead, .ledImbHead, .necMcLog, .polDrops, .sxlRxStat, .clkDom, .clkRefStat, .sxlPrbsErr] →
      x.row.kind = .plain → x.row.rc ≠ 0 →
      Becomes (.counterReadClear (.internal r a)) s
        (({ s with held := tset heldReset s.held x.addr (tget heldReset s.held x.addr &&& ~~~ x.row.rc) } : State).emit
          (.readData r (s.regVal r x))))

/-- R9: a read of the low word of a 64-bit counter, by its internal address or through a window of BAR0, answers
it and latches the high word for its requester; a read of the high word answers what is latched for its
requester; and each requester has its own latch. A counter that a running receiver advances (log entry 77) is answered and latched as it then stands; one that none
advances is left as it was. The eight names left out are of registers whose reads do more, none of them a
64-bit counter. -/
def Obligations.CounterHalves : Prop :=
  ∀ (s : State) (r : Req) (a : Nat) (x : RegAt), s.regOn = true → a < 2 ^ 32 → a % 4 = 0 → msixAt a = none →
    regAt a = some x → (s.domOf r x = none ∨ ∃ k, s.domOf r x = some k ∧ s.Open k) → s.live = true →
    s.dead x = false →
    x.row.name ∉ [RegName.histHead, .ledImbHead, .necMcLog, .polDrops, .sxlRxStat, .clkDom, .clkRefStat, .sxlPrbsErr] →
    let high := (x.above.map (s.regVal r)).getD 0
    let latched (t : State) (q : Req) : Word := tget (fun _ => 0) t.latch (reqNum q)
    (x.row.kind = .ctrLo →
      (Completes (.lowWordLatch (.internal r a)) s fun t =>
        (∃ u : State, t = (u.emit (.readData r (s.regVal r x))).intSweep) ∧
          latched t r = high ∧ ∀ q, q ≠ r → latched t q = latched s q) ∧
      (s.rxRuns x.row.name x.k x.j = false → Becomes (.lowWordLatch (.internal r a)) s
        ((s.setLatch (reqNum r) high).emit (.readData r (s.regVal r x))))) ∧
    (x.row.kind = .ctrHi → Completes (.lowWordLatch (.internal r a)) s fun t =>
      t = (s.emit (.readData r (latched s r))).intSweep ∧ ∀ q, latched t q = latched s q) ∧
    (∀ (h : Fin 2) (off : Nat), r = hostReq h → s.hostServes h = true → (s.hst h).mse = true → off < 2 ^ 26 →
      msixBar off = none → s.window h off = some (a, false) →
      (x.row.kind = .ctrLo → Completes (.lowWordLatch (.bar0 h off)) s fun t =>
        (∃ u : State, t = (u.hostWordOut h (s.regVal r x)).intSweep) ∧ latched t r = high ∧
          ∀ q, q ≠ r → latched t q = latched s q) ∧
      (x.row.kind = .ctrHi → Completes (.lowWordLatch (.bar0 h off)) s fun t =>
        t = ((s.tlp h).hostWordOut h (latched s r)).intSweep ∧ ∀ q, latched t q = latched s q))

/-- R412: an aligned address that names no register reads zero and peeks zero, and a write to it is ignored,
by its internal address and through an enabled window: a write leaves what a read leaves, no fault is raised and
PCI_UNMAPPED counts nothing. Where the power domain that holds the address is open, or none does, nothing changes
but, through a window, the time of the link's last packet; what an access does to a domain that is not open is
said in `HostAccesses`. A peek over the chain answers at any time while the device is frozen. -/
def Obligations.NamelessAddresses : Prop :=
  ∀ (s : State) (a : Nat), a < 2 ^ 32 → a % 4 = 0 → msixAt a = none → regAt a = none →
    let open_ := s.intDom .chain a = none ∨ ∃ k, s.intDom .chain a = some k ∧ s.Open k
    ((s.chainPeek a).1.getD 0 = 0) ∧ (s.live = false ∨ open_ → s.chainPeek a = (some 0, s)) ∧
    (∀ (r : Req) (v : Word), s.regOn = true → ∃ u : State, (open_ → u = s) ∧ u.flt = s.flt ∧
      (∀ h : Fin 2, u.rg .pciUnmapped h = s.rg .pciUnmapped h) ∧
      Becomes (.registerWrite (.internal r a) v) s u ∧
      Becomes (.counterReadClear (.internal r a)) s (u.emit (.readData r 0)) ∧
      Becomes (.lowWordLatch (.internal r a)) s (u.emit (.readData r 0))) ∧
    (∀ (h : Fin 2) (off : Nat) (peek : Bool) (v : Word), s.hostServes h = true → (s.hst h).mse = true →
      off < 2 ^ 26 → off % 4 = 0 → msixBar off = none → s.window h off = some (a, peek) → open_ →
      Becomes (.registerWrite (.bar0 h off) v) s (s.tlp h) ∧
      Becomes (.counterReadClear (.bar0 h off)) s ((s.tlp h).hostWordOut h 0) ∧
      Becomes (.lowWordLatch (.bar0 h off)) s ((s.tlp h).hostWordOut h 0) ∧
      ((s.hst h).cpls = [] → ((s.tlp h).hostWordOut h 0).out = .barData h 0 false :: s.out))

/-- R8, R271, R273, R277, R280, R281: a host's access of another size or alignment is logged, writes nothing and
reads zero; while Memory Space Enable is 0 no access is claimed (log entry 25); an unsupported request is
answered as such; an access through a disabled BAR4 window is counted and reads zero, and one to DRAM in service
is queued there, a read with its completion among those that the function is owed. R261: a read of a counter's
low word through BAR2 latches its high word in the latch that the host has for BAR2, which a read of the high
word there answers; one without permission reads zero. An access to an address that names no register, in a
block that a power domain holds, reaches that domain, which is DEDUCED (log entry 26). R12, R200, R291: a
CHIP_COMMIT of the carve takes the requester's staging copies, and refuses counts that sum to more than 256;
one that names no 64-bit configuration register is logged for a host. -/
def Obligations.HostAccesses : Prop :=
  (∀ (s : State) (h : Fin 2), s.hostServes h = true →
    (∀ k, Becomes (.unsupportedRequest h k) s ((s.tlp h).cplPut h { unsup := true })) ∧
    ((s.hst h).mse = false →
      (∀ a, Becomes (.misalignedAccess h a true) s (s.tlp h) ∧
        Becomes (.misalignedAccess h a false) s ((s.tlp h).cplPut h { unsup := true })) ∧
      (∀ off len, off < 2 ^ 32 → Becomes (.bar4Access h off len none) s ((s.tlp h).cplPut h { unsup := true }) ∧
        ∀ b, Becomes (.bar4Access h off len (some b)) s (s.tlp h))) ∧
    ((s.hst h).mse = true →
      (∀ a, Becomes (.misalignedAccess h a true) s ((s.tlp h).hostAccess h a) ∧
        Becomes (.misalignedAccess h a false) s (((s.tlp h).hostAccess h a).hostWordOut h 0)) ∧
      (∀ off len, off < 2 ^ 32 → s.window4 h off = none →
        Becomes (.bar4Access h off len none) s (((s.tlp h).unmapped h).cplPut h { data := zeros len }) ∧
        ∀ b, Becomes (.bar4Access h off len (some b)) s ((s.tlp h).unmapped h)) ∧
      (∀ off len a, off < 2 ^ 32 → s.window4 h off = some a → dramBase ≤ a → s.Open domDram →
        s.inService a = true → s.live = true → len ≤ 2 ^ 28 - off % 2 ^ 28 →
        Becomes (.bar4Access h off len none) s
          (((s.tlp h).cplPut h {
            need := (List.range (splitReq (len + 1) a len).length).map (s.dram.nextRd + ·), addr := a,
            data := zeros len }).dramRead (hostUser h) a len) ∧
        ∀ b, Becomes (.bar4Access h off len (some b)) s ((s.tlp h).dramWrite (hostUser h) a (b.take len))))) ∧
  (∀ (s : State) (h : Fin 2) (n : Nat), s.hostServes h = true → (s.hst h).mse = true → n < 1024 →
    s.Open domTel →
    let v := s.ctr .pmcCntLo 0 n
    (s.userMay h n = true →
      Becomes (.lowWordLatch (.bar2 h (8 * n))) s
        (((s.tlp h).setLatch (3 + h) (hi32 v)).hostWordOut h (lo32 v)) ∧
      Becomes (.lowWordLatch (.bar2 h (8 * n + 4))) s
        ((s.tlp h).hostWordOut h (tget (fun _ => 0) s.latch (3 + h)))) ∧
    (s.userMay h n = false → Becomes (.lowWordLatch (.bar2 h (8 * n))) s ((s.tlp h).hostWordOut h 0) ∧
      Becomes (.lowWordLatch (.bar2 h (8 * n + 4))) s ((s.tlp h).hostWordOut h 0))) ∧
  (∀ (s : State) (r : Req) (a k : Nat) (v : Word), s.regOn = true → a < 2 ^ 32 → a % 4 = 0 → msixAt a = none →
    regAt a = none → s.intDom r a = some k →
    Becomes (.registerWrite (.internal r a) v) s (s.reach r k).2 ∧
    Becomes (.counterReadClear (.internal r a)) s ((s.reach r k).2.emit (.readData r 0)) ∧
    Becomes (.lowWordLatch (.internal r a)) s ((s.reach r k).2.emit (.readData r 0))) ∧
  (∀ (s : State) (r : Req) (v : Word), s.regOn = true →
    let a := (v &&& 0xFFFFFFFC).toNat
    let w := s.staged r a
    let n := [fld w.1 8 0, fld w.1 24 16, fld w.2 8 0, fld w.2 24 16]
    (a = regAddr .bufCarveLo 0 0 0 → 256 < n.foldl (· + ·) 0 →
      Becomes (.chipCommit r v) s { s with buf := { s.buf with carveErr := true } }) ∧
    (a = regAddr .bufCarveLo 0 0 0 → n.foldl (· + ·) 0 ≤ 256 →
      Becomes (.chipCommit r v) s (s.commitCarve w.1 w.2)) ∧
    (regAt a = none → r = .host0 → Becomes (.chipCommit r v) s
      (s.raise { src := 8, cls := .blue, code := 0x11, info := wd a })))

/-! ### PCI Express and rings (R269-R309) -/

/-- R269, R284, R286, R290: the host unmasks a vector; a link goes to L0s or to L1 when it may; it comes up
with its width, at most four lanes in dual-host mode, and its speed, and the host is told the latency.
R288-R290: each event that loses a present host does so with its cause, and takes its link down where the link
is what is lost, as it is DEDUCED to be in a hot reset and with PERST (log entry 50); PRESENT returns a host
whose bus mastering is on. -/
def Obligations.LinkEvents : Prop :=
  (∀ (s : State) (h : Fin 2), s.hostOn h = true →
    (∀ vec : Fin 128, (s.hst h).linkUp = true → (s.hst h).mse = true → Becomes (.vectorUnmask h vec) s
      ((s.tlp h).setHst h { (s.tlp h).hst h with
        msix := tset msixReset (s.hst h).msix (4 * vec.val + 3) ((s.hst h).msixW (4 * vec.val + 3) &&& 0xFFFFFFFE) })) ∧
    (s.mayL0s h = true → Becomes (.l0sEntry h) s (s.setHst h { s.hst h with pm := .l0s })) ∧
    (s.mayL1 h = true → Becomes (.l1Entry h) s (s.setHst h { s.hst h with pm := (s.hst h).l1State })) ∧
    (∀ w sp, s.hostIn h = true → (s.hst h).linkUp = false → Becomes (.linkUp h w sp) s
      ((s.setHst h { s.hst h with linkUp := true, width := min w (if s.straps.pcieMode then 4 else 8), speed := min sp 5, perst := false, lastTlp := s.mono, pm := .l0 }).sendLtr h))) ∧
  (∀ (s : State) (h : Fin 2), (s.hst h).present = true → s.hostIn h = true →
    ((s.hst h).linkUp = true →
      Becomes (.linkDown h) s (s.hostLoss h 1 true) ∧ Becomes (.hotReset h) s (s.hostLoss h 2 true) ∧
      (s.hostOn h = true → Becomes (.functionLevelReset h) s (s.hostLoss h 3 false)) ∧
      (s.hostOn h = true → (s.hst h).bme = true → Becomes (.busMasterDisable h) s (s.hostLoss h 5 false))) ∧
    Becomes (.perstAssert h) s ((s.hostLoss h 4 true).setHst h { (s.hostLoss h 4 true).hst h with perst := true }) ∧
    (∀ r v, s.regOn = true → mayBank r h = true → Becomes (.leave r h v) s (s.hostLoss h 6 false))) ∧
  (∀ (s : State) (r : Req) (h : Fin 2) (v : Word), s.regOn = true → mayBank r h = true → bit v 1 = false →
    (s.hst h).bme = true → s.hostIn h = true →
    Becomes (.present r h v) s (s.setHst h { s.hst h with present := true }))

/-- R288, R289, R189: the loss of a host into whose punt rings no frame is being written leaves its function
at reset but for its cause, its count of losses, the subsystem word that the chain gave it, which PERST alone
takes (log entry 75), the state of PERST and, where only the function is lost, its link; its rings and DMA
channels are at reset, the other host's are as they were, its reads of DRAM and those of its channels are
dropped, and its open staging is being aborted. -/
def Obligations.HostLoss : Prop :=
  ∀ (s : State) (h : Fin 2) (cause : Nat) (off : Bool), s.hostPicked h = [] →
    let t := s.hostLoss h cause off
    t.hst h = { linkUp := ! off && (s.hst h).linkUp, width := if off then 0 else (s.hst h).width, speed := if off then 0 else (s.hst h).speed, loss := cause, losses := min ((s.hst h).losses + 1) 255, perst := (s.hst h).perst || decide (cause = 4), subsys := if cause = 4 then none else (s.hst h).subsys } ∧
    t.hst (1 - h) = s.hst (1 - h) ∧ (∀ i < 52, t.ring h i = {}) ∧
    (∀ i < 52, t.ring (1 - h) i = s.ring (1 - h) i) ∧
    (∀ n, s.chanOwner n = h → t.chan n = {}) ∧ (∀ n, s.chanOwner n ≠ h → t.chan n = s.chan n) ∧
    (∀ c < 4, (t.dch c).rq = (s.dch c).rq.filter (fun r => ! s.readFor h r.who) ∧ (t.dch c).wq = (s.dch c).wq) ∧
    t.dram.mem = s.dram.mem ∧
    (s.epc.owner = some (hostReq h) → s.epc.st = .staging → t.epc.st = .aborting) ∧
    (s.epc.owner ≠ some (hostReq h) → t.epc.st = s.epc.st ∧ t.epc.owner = s.epc.owner ∧ t.epc.num = s.epc.num)

/-- R295: a nudge or a poll starts a fetch of the doorbell record, or asks for one more while one runs; its
end gives every ring its host count, or sets DB_FAULT. R294-R299: the rings fetch in round robin, each as many
descriptors as may be, and they are taken in ring order; a failed fetch stops the ring with cause 2; the device
count is written back, and with it the twelve zero words at the end of its area, by the model's choice of the
moment (log entry 64). Enabling an idle ring starts its device count at 0, which is to be written back where it
was another, and takes the host count of the record; disabling it clears its error. -/
def Obligations.RingFetches : Prop :=
  (∀ (s : State) (h : Fin 2),
    let started := (s.setHst h { s.hst h with fetching := true, polled := s.mono }).readHost h (s.dbAddr h) 256
    (∀ r v, s.live = true → mayBank r h = true → bit (s.rg .rngCtl h) 31 = true → s.hostReach h = true →
      ((s.hst h).fetching = false → Becomes (.rngNudge r h v) s started) ∧
      ((s.hst h).fetching = true → Becomes (.rngNudge r h v) s (s.setHst h { s.hst h with again := true }))) ∧
    (s.hostOn h = true → s.hostReach h = true → bit (s.rg .rngCtl h) 31 = false → (s.hst h).fetching = false →
      (s.hst h).polled + s.pollTime h ≤ s.mono → Becomes (.doorbellPoll h) s started) ∧
    (s.hostOn h = true → (s.hst h).fetching = true → (s.hst h).again = false →
      let idle := (s.setHst h { s.hst h with fetching := false, again := false }).tlp h
      Becomes (.doorbellFetchComplete h none) s (idle.orRg .rngErr h 0 (flag 31 true)) ∧
      ∀ ws, Becomes (.doorbellFetchComplete h (some ws)) s
        ((List.range 52).foldl (fun st t => st.takeCount h t (wAt ws t)) idle))) ∧
  (∀ (s : State) (h : Fin 2) (t : Fin 52), s.hostOn h = true → s.hostReach h = true → s.fetchNext h = some t.val →
    let n := s.fetchCount h t
    let r := s.ring h t
    let u := if t.val < 8 then s.moveOwed h t (· + n) else s
    let v := u.setRing h t { u.ring h t with inFlight := n }
    n ≠ 0 ∧ Becomes (.descriptorFetch h t) s
      ((v.setHst h { v.hst h with rr := (t + 1) % 52 }).readHost h (r.base + r.fetched.toNat % r.size * 32) (32 * n))) ∧
  (∀ (s : State) (h t : Nat), s.fetchNext h = some t → t < 52 ∧ s.fetchCount h t ≠ 0 ∧
    ∀ i < (t + 52 - (s.hst h).rr % 52) % 52, s.fetchCount h (((s.hst h).rr + i) % 52) = 0) ∧
  (∀ (s : State) (h : Fin 2) (t : Fin 52), s.hostOn h = true → 0 < (s.ring h t).inFlight →
    (∀ ds, let l := (List.range (s.ring h t).inFlight).map fun i => (ds[i]?).getD []
      (t.val < 8 → Becomes (.descriptorFetchComplete h t (some ds)) s ((s.tlp h).takeCmds h t l)) ∧
      (8 ≤ t.val → t.val < 32 → Becomes (.descriptorFetchComplete h t (some ds)) s ((s.tlp h).takePosted h t l)) ∧
      (32 ≤ t.val → Becomes (.descriptorFetchComplete h t (some ds)) s ((s.tlp h).takeInj h t l))) ∧
    (t.val < 8 →
      let u := (s.tlp h).moveOwed h t (· - (s.ring h t).inFlight)
      Becomes (.descriptorFetchComplete h t none) s
        ((u.setRing h t { u.ring h t with inFlight := 0 }).ringErr h t 2)) ∧
    (8 ≤ t.val → Becomes (.descriptorFetchComplete h t none) s
      (((s.tlp h).setRing h t { s.ring h t with inFlight := 0 }).ringErr h t 2))) ∧
  (∀ (s : State) (h : Fin 2) (t : Fin 52), s.hostOn h = true → s.hostReach h = true → (s.ring h t).wbDue = true →
    Becomes (.writeBack h t) s ((((s.setRing h t { s.ring h t with wbDue := false }).tlp h).emit
      (.hostWrite h (s.wbAddr h + 4 * t) [(s.ring h t).dev])).emit (.hostWrite h (s.wbAddr h + 208) (List.replicate 12 0)))) ∧
  (∀ (s : State) (r : Req) (h : Fin 2) (t : Fin 52) (v c : Word), s.live = true → mayBank r h = true →
    ((s.ring h t).en = false → s.ringIdle h t = true →
      Completes (.ringEnable r h t v c) s fun u =>
        (u.ring h t).en = true ∧ (u.ring h t).used = true ∧ (u.ring h t).dev = 0 ∧ (u.ring h t).fetched = 0 ∧
          (u.ring h t).host = c ∧ ((u.ring h t).wbDue = true ↔ (s.ring h t).wbDue = true ∨ (s.ring h t).dev ≠ 0) ∧
          (u.ring h t).log2 = max 6 (min 16 (fld v 27 24)) ∧ (u.ring h t).gen = fld v 23 17) ∧
    Completes (.ringDisable r h t v) s (fun u => (u.ring h t).en = false ∧ (u.ring h t).err = false)) ∧
  (∀ (s : State) (h : Fin 2) (t : Fin 52), s.hostOn h = true →
    (s.ring h t).level (16 ≤ t.val && t.val < 32) s.mono = true → Becomes (.coalescingTimeExpiry h t) s s)

/-- R29, R307-R309: the next frame of an inject ring is read, and is dealt to the pipes or goes to
admission, the latter while no frame of its group waits there; one that is refused is finished with its
status. -/
def Obligations.Injection : Prop :=
  ∀ (s : State) (h : Fin 2) (j : Fin 16), s.hostOn h = true →
    (∀ x l (slots : BitVec 6), (s.ring h (32 + j)).inj = x :: l → x.direct = false → s.clkOk (72 + x.lp / 32) = true →
      (∀ st r, s.injWhy x = some (st, r) → Becomes (.injectPipelineEntry h j slots false false) s
        (s.injRefuse h (32 + j) st r x)) ∧
      (∀ f, s.injWhy x = none → x.data = some f → (s.nextPipe (x.lp / 32) slots).isSome = true →
        Becomes (.injectPipelineEntry h j slots false false) s
          ((s.deal x.lp (withFcs f) s.now slots true).injFinish h (32 + j) 0))) ∧
    (∀ x l b, (s.ring h (32 + j)).inj = x :: l → x.direct = true → s.clkOk 144 = true →
      (∀ st r, s.injWhy x = some (st, r) →
        Becomes (.injectDirectEntry h j b) s (s.injRefuse h (32 + j) st r x)) ∧
      (∀ f, s.injWhy x = none → x.data = some f →
        ((s.grp (x.lp / 32)).polq = [] →
          Becomes (.injectDirectEntry h j b) s ((s.injAdmit x f b).injFinish h (32 + j) 0)) ∧
        ((s.grp (x.lp / 32)).polq ≠ [] → Becomes (.injectDirectEntry h j b) s s))) ∧
    (∀ x f, s.hostReach h = true → (s.ring h (32 + j)).inj.find? s.injUnread = some x →
      let r := s.ring h (32 + j)
      Becomes (.injectDataRead h j (some f)) s
        ((s.setRing h (32 + j) { r with inj := r.inj.set (r.inj.idxOf x) { x with data := some (slice f 0 x.len) } }).readHost
          h (addr64 (wAt x.desc 0) (wAt x.desc 1)) x.len))

/-! ### DMA (R312-R318) -/

/-- R312, R317, R318: GO starts a channel that is not running at instruction 0; ABORT stops a running one; a
read of the program replaces the instructions held, and one that fails stops the channel. R313-R315: LOOP
counts down a loaded counter and goes back while any is left; WAIT waits for its time or for its poll, one each
microsecond, with elapsed time (log entry 68); NOP goes on; END ends the program; an acknowledged write is
outstanding no more, and a barrier that waited for the writes of its space is then complete; a flushing read that
fails is the error of the barrier that sent it for its own writes, and else is left for the next FENCE. -/
def Obligations.DmaFlow : Prop :=
  (∀ (s : State) (r : Req) (ch : Fin 16) (v : Word), s.live = true → s.mayChan r ch = true →
    ((s.chan ch).st ≠ .running → Completes (.dmaGo r ch v) s fun t =>
      (t.chan ch).st = .running ∧ (t.chan ch).pc = 0 ∧ (t.chan ch).run = (s.chan ch).run + 1 ∧
        (t.chan ch).ins = [] ∧ (t.chan ch).srcEnd = (s.chan ch).srcEnd ∧ (t.chan ch).dstEnd = (s.chan ch).dstEnd ∧
        (t.chan ch).out = (s.chan ch).out ∧ ∀ n, n ≠ (ch : Nat) → t.chan n = s.chan n) ∧
    ((s.chan ch).st = .running → Becomes (.dmaAbort r ch v) s (s.setChan ch
      { s.chan ch with st := .aborted, ended := true, waitAt := none, waiting := false, barWait := false, rd := [] }))) ∧
  (∀ (s : State) (ch : Fin 16), s.chanOn ch = true → (s.chan ch).instr = [] →
    Becomes (.programFetch ch none) s ((s.tlp (s.chanOwner ch)).stopChan ch 2) ∧
    ∀ l, Completes (.programFetch ch (some l)) s fun t =>
      (t.chan ch).pc = (s.chan ch).pc ∧
        ∀ i < min 16 l.length, (s.chan ch).pc + i < 65536 →
          tget (fun _ => []) (t.chan ch).ins ((s.chan ch).pc + i) = padTo 4 ((l[i]?).getD [])) ∧
  (∀ (s : State) (ch : Fin 16),
    let c := s.chan ch
    let w := c.instr
    let w0 := wAt w 0
    let k := fld w0 25 24
    let held := tget (fun _ => 0) c.ctr k
    let left := if held = 0 then (wAt w 1).toNat else held - 1
    (s.atIns ch 2 = true → Completes (.loop ch) s fun t =>
      tget (fun _ => 0) (t.chan ch).ctr k = left ∧
        (t.chan ch).pc = (if 0 < left then fld w0 15 0 else (c.pc + 1) % 65536)) ∧
    (s.atIns ch 3 = true → (bit w0 25 = false ∨ waitAddr w % 4 = 0) → Becomes (.wait ch) s
      (s.setChan ch { c with waiting := true, pollAt := s.mono, waitAt := if bit w0 25 && fld w0 23 8 = 0 then none else some (s.mono + fld w0 23 8 * 1000) })) ∧
    (s.atIns ch 3 = true → bit w0 25 = true → waitAddr w % 4 ≠ 0 → Becomes (.wait ch) s (s.insDone ch 0 4)) ∧
    (s.chanOn ch = true → c.waiting = true → bit w0 25 = true → s.pollDue ch = true →
      let u := s.setChan ch { c with pollAt := s.mono + 1000 }
      (s.pollWord ch (waitAddr w) = none → Becomes (.waitPoll ch) s (u.insDone ch 0 3)) ∧
      (∀ v, s.pollWord ch (waitAddr w) = some v →
        (v &&& wAt w 3 = wAt w 2 → Becomes (.waitPoll ch) s (u.insDone ch 0 0)) ∧
        (v &&& wAt w 3 ≠ wAt w 2 → Becomes (.waitPoll ch) s u))) ∧
    (∀ t0, s.chanOn ch = true → c.waiting = true → c.waitAt = some t0 → t0 ≤ s.mono →
      Becomes (.waitExpiry ch) s (s.insDone ch 0 (if bit w0 25 then 5 else 0))) ∧
    (s.atIns ch 6 = true → Completes (.nop ch) s fun t =>
      (t.chan ch).pc = (c.pc + 1) % 65536 ∧ (t.chan ch).ins = c.ins ∧ t.held = s.held) ∧
    (s.atIns ch 7 = true → Becomes (.dmaEnd ch) s
      (s.setChan ch { c with st := .done, ended := true, signaled := c.signaled || bit w0 26 })) ∧
    (∀ ok : Bool, s.live = true → 0 < c.out →
      let u := s.setChan ch { c with out := c.out - 1 }
      (c.barWait = false ∨ c.barSp = 1 ∧ 1 < c.out → Becomes (.writeAcknowledge ch false ok) s u) ∧
      (c.barWait = true → c.out = 1 → c.barSp = 1 →
        Becomes (.writeAcknowledge ch false ok) s (u.insDone ch c.moved c.barErr)) ∧
      (c.barWait = true → c.out = 1 → c.barSp = 2 → c.hostOut = false → c.flush = false →
        Becomes (.writeAcknowledge ch false ok) s
          ((u.setChan ch { u.chan ch with werr := 0 }).insDone ch c.moved c.werr))) ∧
    (∀ ok : Bool, s.live = true → c.flush = true →
      let failed := if ok then c.werr else 2
      let u := (s.setChan ch { c with flush := false, werr := failed }).tlp (s.chanOwner ch)
      (c.barWait = false → Becomes (.writeAcknowledge ch true ok) s u) ∧
      (c.barWait = true → c.hostOut = false → c.barSp = 0 →
        let e := if ok = false ∧ c.barErr = 0 then 2 else c.barErr
        Becomes (.writeAcknowledge ch true ok) s
          (((s.setChan ch { c with flush := false, barErr := e }).tlp (s.chanOwner ch)).insDone ch c.moved e)) ∧
      (c.barWait = true → c.hostOut = false → c.barSp = 2 → c.out = 0 →
        Becomes (.writeAcknowledge ch true ok) s
          ((u.setChan ch { u.chan ch with werr := 0 }).insDone ch c.moved failed))))

/-- R313-R317: MOVE copies, from a host's memory with the bytes that came back, from DRAM once its reads have been
served, and from elsewhere in internal space at once; it counts one outstanding write where it moved anything
there, and a misaligned one fails with code 4 and moves nothing. SIGNAL writes its word, or only signals, and
is then SIGNALED; one whose write is refused fails with code 3. Nothing more follows where an instruction's own write
has stopped its channel or frozen the device (R311, R318, R403; log entry 55). FENCE waits for every outstanding write and reports what failed before; BAR waits
for the writes of the instruction's own space, which are confirmed in their order (log entry 74: addresses of host
memory go round at 2^48). -/
def Obligations.DmaData : Prop :=
  (∀ (s : State) (ch : Fin 16) (data : List Byte) (ok : Bool), s.atIns ch 1 = true →
    let c := s.chan ch
    let a := c.moveArgs
    let ends (sp x : Nat) : Nat := if sp = 2 then x else x + a.len
    let u := s.setChan ch { c with rd := [], srcEnd := ends a.srcSp a.src, dstEnd := ends a.dstSp a.dst }
    let fin (m : Moving) : State :=
      if m.s.chanRuns ch = false then m.s
      else if m.moved = 0 then m.s.insDone ch 0 m.err
      else
        let v := if a.dstSp = 0 then m.s else m.s.setChan ch { m.s.chan ch with out := (m.s.chan ch).out + 1 }
        v.insWait ch m.moved m.err (bit (wAt (v.chan ch).instr 0) 27) (if a.dstSp = 0 then 0 else 1)
    (c.rd = [] →
      (a.aligned = false → Becomes (.move ch data ok) s (u.insDone ch 0 4)) ∧
      (a.aligned = true → a.srcSp = 0 → Becomes (.move ch data ok) s
        (fin ((u.readHost48 (s.chanOwner ch) a.src a.len).copy ch 0 a.dstSp a.src a.dst a.len (some data) [] (if ok then 0 else 1)))) ∧
      (a.aligned = true → a.srcSp = 1 → a.src + a.len ≤ dramBase ∨ a.len = 0 → Becomes (.move ch data ok) s
        (fin (u.copy ch 1 a.dstSp a.src a.dst a.len none [] 0))) ∧
      (a.aligned = true → a.srcSp = 1 → dramBase < a.src + a.len → 0 < a.len →
        Becomes (.move ch data ok) s (s.moveRead ch a)) ∧
      (a.aligned = true → a.srcSp = 2 → a.src < dramBase ∨ a.len = 0 → Becomes (.move ch data ok) s
        (fin (u.copy ch 2 a.dstSp a.src a.dst a.len none [] 0))) ∧
      (a.aligned = true → a.srcSp = 2 → dramBase ≤ a.src → 4 ≤ a.len →
        Becomes (.move ch data ok) s (s.moveRead ch a))) ∧
    (c.rd ≠ [] →
      ((c.rd.all fun p => p.data.isSome) = true →
        let b := partBytes c.rd 0
        Becomes (.move ch data ok) s
          (fin (u.copy ch a.srcSp a.dstSp a.src a.dst a.len (some b.1) b.2 (if b.1.length < a.len then 3 else 0)))) ∧
      ((c.rd.all fun p => p.data.isSome) = false → Becomes (.move ch data ok) s s))) ∧
  (∀ (s : State) (ch : Fin 16), s.atIns ch 4 = true →
    let w := (s.chan ch).instr
    let w0 := wAt w 0
    let sp := fld w0 25 24
    let a := insAddr sp (wAt w 1).toNat (fld (wAt w 3) 15 0)
    let sig (x : State) : State := x.setChan ch { x.chan ch with signaled := (x.chan ch).signaled || bit w0 26 }
    (sp = 3 → Becomes (.signal ch) s ((sig s).insDone ch 0 0)) ∧
    (sp = 0 →
      let v := sig (s.toHost48 (s.chanOwner ch) a (leBytes (wAt w 2)))
      Becomes (.signal ch) s ((v.setChan ch
        { v.chan ch with hostEnd := (a + 3) % 2 ^ 48, hostOut := true }).insWait ch 4 0 (bit w0 27) 0)) ∧
    (sp = 1 ∨ sp = 2 →
      (a % 4 ≠ 0 → Becomes (.signal ch) s ((sig s).insDone ch 0 4)) ∧
      (a % 4 = 0 → s.intRefused (hostReq (s.chanOwner ch)) a true = true →
        Becomes (.signal ch) s ((sig s).insDone ch 0 3)) ∧
      (a % 4 = 0 → s.intRefused (hostReq (s.chanOwner ch)) a true = false →
        let u := s.intWrite ch a (wAt w 2)
        let v := sig u
        (u.chanRuns ch = false → Becomes (.signal ch) s u) ∧
        (u.chanRuns ch = true → Becomes (.signal ch) s
          ((v.setChan ch { v.chan ch with out := (v.chan ch).out + 1 }).insWait ch 4 0 (bit w0 27) 1))))) ∧
  (∀ (s : State) (ch : Fin 16), s.atIns ch 5 = true →
    let c := s.chan ch
    let u := s.setChan ch { c with barWait := true, barSp := 2, barErr := 0, moved := 0 }
    (c.out = 0 → c.hostOut = false → c.flush = false → Becomes (.fence ch) s
      ((u.setChan ch { u.chan ch with werr := 0 }).insDone ch 0 c.werr)) ∧
    (0 < c.out ∨ c.hostOut = true ∨ c.flush = true → Becomes (.fence ch) s (u.confirm ch))) ∧
  (∀ (s : State) (ch : Fin 16) (moved err sp : Nat),
    let c := s.chan ch
    let u := s.setChan ch { c with barWait := true, barSp := sp, barErr := err, moved := moved }
    s.insWait ch moved err false sp = s.insDone ch moved err ∧
    (sp = 1 → 0 < c.out → s.insWait ch moved err true sp = u) ∧
    (sp = 0 → c.hostOut = true ∨ c.flush = true → s.insWait ch moved err true sp = u.confirm ch) ∧
    (sp = 1 ∧ c.out = 0 ∨ sp = 0 ∧ c.hostOut = false ∧ c.flush = false →
      s.insWait ch moved err true sp = u.insDone ch moved err))

/-! ### DRAM (R319-R341) -/

/-- R329, R330: the issue of a queued write stores its bytes in the rank that serves its address and nowhere else,
and takes it off the queue; a read that is served brings what it was to return and leaves memory as it is. A read
accepted returns the data of every write accepted before it; a write accepted replaces the bytes that queued writes
hold, and joins the queue unless one of them holds all of it. R320, R329, R332: a read outside service answers zero
at once, and a write is discarded. Writes drain once 48 wait or one has waited 20 µs, down to 16. An idle channel,
and one whose domain is no longer lit, enters self-refresh; it leaves it for a request, after the checks of R327 where
it was there for 100 ms. The times run with elapsed time (log entry 68). -/
def Obligations.DramService : Prop :=
  (∀ (s : State) (c : Fin 4) (i : Nat) (r : DReq), s.dramOn c = true →
    (s.dch c).st = .service ∨ (s.dch c).st = .migrating → (s.dch c).rq = [] ∨ (s.dch c).drain = true →
    i < 64 → (s.dch c).wq[i]? = some r →
    let p := s.dramPlace c (r.addr % slotSize)
    Completes (.dramWrite c i) s fun t =>
      (∀ x, t.dramGet x = if p ≤ x ∧ x < p + r.data.length then (r.data[x - p]?).getD 0 else s.dramGet x) ∧
      (t.dch c).wq = withoutAt (s.dch c).wq i ∧ (t.dch c).rq = (s.dch c).rq ∧
      (t.dch c).drain = ((s.dch c).drain && decide (17 < (s.dch c).wq.length)) ∧
      ∀ d, d ≠ (c : Nat) → t.dch d = s.dch d) ∧
  (∀ (s : State) (c : Fin 4) (i : Nat) (r : DReq), s.dramOn c = true →
    (s.dch c).st = .service ∨ (s.dch c).st = .migrating → (s.dch c).drain = false → i < 64 →
    (s.dch c).rq[i]? = some r → r.full = true ∨ r.bad = false ∧ s.poisoned c (r.addr % slotSize) = false →
    Completes (.dramRead c i .good) s fun t =>
      (t.dch c).rq = withoutAt (s.dch c).rq i ∧ (t.dch c).wq = (s.dch c).wq ∧ t.dram.mem = s.dram.mem ∧
        t.held = s.held ∧
        (r.who = .telemetry ∨ r.who = .chain → t.out = .dramData r.who r.addr r.data false :: s.out)) ∧
  (∀ (s : State) (who : DramUser) (a len : Nat), s.live = true →
    Becomes (.dramRequest who a len none) s (s.dramRead who a len) ∧
    (∀ b, Becomes (.dramRequest who a len (some b)) s (s.dramWrite who a b)) ∧
    (∀ c off, dramChan a = some (c, off) → s.inService a = true → s.isActive domDram = true →
      (0 < len → a % 64 + len ≤ 64 → Completes (.dramRequest who a len none) s fun t =>
        t.dch c = { s.dch c with rq := (s.dch c).rq ++ [{
          who := who, no := s.dram.nextRd, full := s.heldByWrites c a len, bad := s.poisoned c off, addr := a,
          len := len, data := (List.range len).map fun k => s.dramNow (a + k), at_ := s.mono }] }) ∧
      (∀ b : List Byte, 0 < b.length → a % 64 + b.length ≤ 64 →
        Completes (.dramRequest who a len (some b)) s fun t =>
          (∀ x, t.dramNow x = if a ≤ x ∧ x < a + b.length then (b[x - a]?).getD 0 else s.dramNow x) ∧
          ((t.dch c).wq.length = (s.dch c).wq.length +
            if (s.dch c).wq.any fun r => r.covers a b.length then 0 else 1) ∧
          (t.dch c).rq = (s.dch c).rq ∧ t.dram.mem = s.dram.mem)) ∧
    (s.inService a = false ∨ s.isActive domDram = false →
      (0 < len → a % 64 + len ≤ 64 → Becomes (.dramRequest who a len none) s
        ({ s with dram := { s.dram with nextRd := s.dram.nextRd + 1 } }.dramAnswer who s.dram.nextRd a (zeros len) false)) ∧
      (∀ b : List Byte, 0 < b.length → a % 64 + b.length ≤ 64 →
        Becomes (.dramRequest who a len (some b)) s s))) ∧
  (∀ (s : State) (c : Fin 4), s.dramOn c = true →
    (48 ≤ (s.dch c).wq.length ∨ ∃ r ∈ (s.dch c).wq, r.at_ + 20000 ≤ s.mono) →
    Becomes (.writeDrain c) s (s.setDch c { s.dch c with drain := true })) ∧
  (∀ (s : State) (c : Fin 4), s.live = true → (s.dch c).st = .service → s.srIdle c = true ∨ s.isLit domDram = false →
    Completes (.selfRefreshEntry c) s fun t =>
      (t.dch c).st = .selfRefresh ∧ (t.dch c).srSince = s.mono ∧ t.dram.mem = s.dram.mem) ∧
  (∀ (s : State) (c : Fin 4), s.dramOn c = true → (s.dch c).st = .selfRefresh →
    (s.dch c).rq ≠ [] ∨ (s.dch c).wq ≠ [] ∨ (s.dch c).exitDue = true →
    Completes (.selfRefreshExit c) s fun t =>
      (t.dch c).st = .service ∧ (t.dch c).idleSince = s.mono ∧ (t.dch c).rq = (s.dch c).rq ∧ t.dram.mem = s.dram.mem ∧
        (t.dch c).zqAt = if (s.dch c).srSince + 100000000 ≤ s.mono then s.mono else (s.dch c).zqAt)

/-- R323, R325, R326, R335, R338, R339: while no channel is in use, a write of DRC_CFG with TRAIN 1 and a
configuration that the device supports brings every channel of CH_EN up, with the spare in use where REPL_VALID says
so, and takes the others to UNUSED; training that succeeds puts a channel into service, and keeps its contents where
RETAIN is 1; OFFLINE takes a serving channel out of service with its queues empty, and a FROZEN one as it is; RESUME
and MIGRATE act on a channel in the states they are for, and leave memory as it was. -/
def Obligations.DramStates : Prop :=
  (∀ (s : State) (r : Req) (v : Word), s.Open domDram → bit v 31 = true →
    (∀ c < 4, (s.dch c).st.idle = true) → drcOk (v &&& 0x4F0F0F07) = true →
    Completes (.train r v) s fun t => t.rg .drcCfg = v &&& 0x4F0F0F07 ∧ t.dram.mem = s.dram.mem ∧
      ∀ c < 4, if bit v (24 + c) then (t.dch c).st = .training ∧ (t.dch c).cfgErr = false ∧ (t.dch c).rq = [] ∧
          (t.dch c).wq = [] ∧
          (t.dch c).spareUsed = (bit (s.rg .drcChCtl 0 c) 3 && decide (rankCount v = 4) && bit (s.rg .drcChCtl 0 c) 6)
        else (t.dch c).st = .unused) ∧
  (∀ (s : State) (c : Fin 4), s.dramOn c = true → (s.dch c).st = .training →
    Completes (.trainingDone c true) s fun t =>
      (t.dch c).st = .service ∧ (bit (s.rg .drcCfg) 30 = true → ∀ x, t.dramGet x = s.dramGet x) ∧
        (bit (s.rg .drcCfg) 30 = false → (t.dch c).undef = (s.dch c).undef + 1) ∧
        ∀ x : Nat, x / 2 ^ 38 ≠ c → t.dramGet x = s.dramGet x) ∧
  (∀ (s : State) (r : Req) (c : Fin 4) (v : Word), s.Open domDram →
    (fld v 31 29 = 1 →
      ((s.dch c).st.serves = true →
        Completes (.offline r c v) s fun t => (t.dch c).st = .offline ∧ (t.dch c).rq = [] ∧ (t.dch c).wq = []) ∧
      ((s.dch c).st = .frozen →
        Completes (.offline r c v) s fun t => (t.dch c).st = .offline ∧ t.dram.mem = s.dram.mem)) ∧
    (fld v 31 29 = 2 → (s.dch c).st = .frozen →
      Completes (.dramResume r c v) s fun t => (t.dch c).st = .service ∧ t.dram.mem = s.dram.mem) ∧
    (fld v 31 29 = 3 → (s.dch c).st = .service → s.spareFree c = true →
      fld v 1 0 ≠ fld (s.rg .drcChCtl 0 c) 1 0 →
      Completes (.migrate r c v) s fun t =>
        (t.dch c).st = .migrating ∧ (t.dch c).migRank = fld v 1 0 ∧ (t.dch c).migPtr = 0 ∧ t.dram.mem = s.dram.mem))

/-- R327, R328, R334, R336: the periodic work of a channel: a refresh that waits for reads is owed, and one
issued owes none, and the next is due a tREFI later, the ranks spread evenly over it (when the first of each rank is
due is the model's choice: log entry 87); a good calibration is only
logged, and a failed one is an event (its INFO, the channel, is the model's choice: log entry 82); the patrol scrub
goes on to the next address, and begins a round once in 24 hours; a migration copies a chunk to the spare and goes on
to the next, and its last puts the spare in the rank's place, in REPL_VALID and REPLACED too. The times run with
elapsed time (log entry 68). -/
def Obligations.DramUpkeep : Prop :=
  (∀ (s : State) (c rk : Fin 4), s.dramOn c = true → (s.dch c).st.awake = true →
    rk.val < rankCount (s.rg .drcCfg) → ((s.dch c).spareUsed && rk.val == (s.dch c).retired) = false →
    s.refDue c rk = true →
    let owed (t : State) := tget (fun _ => 0) (t.dch c).postponed rk
    let next (t : State) := t.refNext c rk = s.refNext c rk + (if (s.dch c).hot then 1950 else 3900)
    Completes (.refresh c rk false) s (fun t => owed t = 0 ∧ next t ∧ t.dram.mem = s.dram.mem) ∧
    ((s.dch c).rq ≠ [] → owed s < 4 →
      Completes (.refresh c rk true) s fun t => owed t = owed s + 1 ∧ next t ∧ t.dram.mem = s.dram.mem)) ∧
  (∀ (s : State) (c rk : Fin 4), (s.dch c).refAt = [] → s.refNext c rk = (s.dch c).upSince +
    (if (s.dch c).hot then 1950 else 3900) * (rk + 1) / max 1 (rankCount (s.rg .drcCfg))) ∧
  (∀ (s : State) (c : Fin 4) (hot : Bool), s.dramOn c = true → (s.dch c).st = .service ∨ (s.dch c).st = .migrating →
    (s.dch c).tempAt + 256000 ≤ s.mono →
    Completes (.temperatureRead c hot) s fun t => (t.dch c).hot = hot ∧ t.dram.mem = s.dram.mem) ∧
  (∀ (s : State) (c : Fin 4), s.dramOn c = true → (s.dch c).st = .service ∨ (s.dch c).st = .migrating →
    let bad : FaultEv := { src := 84, cls := .orange, code := 0x1F, info := wd c }
    let zq := (s.setDch c { s.dch c with zqAt := s.mono }).dlogAll c [8]
    let osc := (s.setDch c { s.dch c with oscAt := s.mono }).dlogAll c [9]
    (s.calDue c 8 = true →
      Becomes (.zqCalibration c true) s zq ∧ Becomes (.zqCalibration c false) s (zq.raise bad)) ∧
    (s.calDue c 9 = true →
      Becomes (.dqsOscillatorCheck c true) s osc ∧ Becomes (.dqsOscillatorCheck c false) s (osc.raise bad)) ∧
    (s.patrolDue c = true → s.poisoned c (s.dch c).scrubPtr = false → Becomes (.patrolScrub c .good) s
      ((s.setDch c { s.dch c with
        scrubPtr := ((s.dch c).scrubPtr + 64) % max 64 (s.usable c),
        scrubFrom := if (s.dch c).scrubPtr = 0 then some s.mono else (s.dch c).scrubFrom }).dlogAcc c 2
          (s.rankServing c (s.dch c).scrubPtr)))) ∧
  (∀ (s : State) (c : Fin 4), s.dramOn c = true → (s.dch c).st = .migrating →
    let r := (s.dch c).migRank
    let p := (s.dch c).migPtr
    let x := rankPlace c r + p
    let y := rankPlace c (fld (s.rg .drcChCtl 0 c) 1 0) + p
    (∀ i < 4, s.poisonedAt c (x + 64 * i) = false) →
    Completes (.migrationChunk c []) s fun t =>
      (∀ z, t.dramGet z = if y ≤ z ∧ z < y + 256 then s.dramGet (x + (z - y)) else s.dramGet z) ∧
      if rankSize (s.rg .drcCfg) ≤ p + 256 then
        (t.dch c).st = .service ∧ (t.dch c).spareUsed = true ∧ (t.dch c).retired = r ∧ (t.dch c).migDone = true ∧
          fld (t.rg .drcChCtl 0 c) 6 4 = (4 + r) % 8
      else (t.dch c).st = .migrating ∧ (t.dch c).migPtr = p + 256 ∧ (t.dch c).migRank = r ∧ (t.dch c).rq = (s.dch c).rq ∧
        (t.dch c).wq = (s.dch c).wq)

/-! ### Chain, freeze, fuses and debug (R386-R410) -/

/-- R387-R389: a chain frame whose CRC fails is counted, reported and forwarded; one for another unit is
forwarded, behind a broadcast command that waits for its effect; a frame of the unit's own leaves at once where none
waits to be forwarded, and else after them; a request of this unit waits its turn, or is
answered at once where its version, its length or a full queue refuses it. R390-R396: the chain's requests: ENUM
gives the unit the next address; IDENT, and a PEEK or READ that is in range, are answered with their words; a WRITE
is answered, and then its words are written in order; a data word with IDENT is refused. -/
def Obligations.ChainRequests : Prop :=
  (∀ (s : State) (f : List Word),
    (openFrame f = none → Becomes (.chainFrame f) s
      (((s.bump .chnCrcErr 0 0).raise { src := 5, cls := .blue, code := 0x1C }).chainForward f)) ∧
    (∀ b, openFrame f = some b →
      (frmDest b = 0 ∨ frmDest b ≠ s.chain.addr → Becomes (.chainFrame f) s (s.chainForward f)) ∧
      (frmDest b ≠ 0 → frmDest b = s.chain.addr →
        (frmVer b ≠ 1 → frmVer b ≠ 2 → Becomes (.chainFrame f) s (s.chainSend (wAt b 0) 2 (frmAddr b) 7 [])) ∧
        (frmVer b = 1 ∨ frmVer b = 2 →
          (4 ≤ s.chain.q.length → Becomes (.chainFrame f) s (s.reply b 4 [])) ∧
          (∀ st, frmRefusal b = some st → s.chain.q = [] → Becomes (.chainFrame f) s (s.reply b st [])) ∧
          (frmRefusal b = none → s.chain.q = [] →
            Becomes (.chainFrame f) s { s with chain := { s.chain with q := [b] } })))) ∧
    (s.chain.fwd = [] → isBroadcast f = false → s.chainForward f = (s.emit (.chain f)).chainFlush) ∧
    (s.chain.fwd = [] → isBroadcast f = true → s.chainForward f = { s with chain := { s.chain with fwd := [f] } }) ∧
    (∀ g l, s.chain.fwd = g :: l → isBroadcast g = true →
      s.chainForward f = { s with chain := { s.chain with fwd := g :: l ++ [f] } })) ∧
  (∀ (s : State) (w : Word) (ver addr status : Nat) (data : List Word),
    let out := sealFrame ([put 31 28 ver ||| put 23 18 63 ||| put 17 12 s.chain.addr ||| (w &&& 0xFFF), wd addr,
      put 31 24 (addr / 2 ^ 32) ||| put 23 16 status ||| put 15 0 data.length] ++ data)
    (s.chain.fwd = [] → s.chain.own = [] → s.chainSend w ver addr status data = s.emit (.chain out)) ∧
    (s.chain.fwd ≠ [] → s.chainSend w ver addr status data =
      { s with chain := { s.chain with own := s.chain.own ++ [out] } })) ∧
  (∀ s : State,
    let f := s.chainReq
    let a := frmAddr f
    let n := (frmData f 0).toNat
    (s.chainHead 1 = true → fld (frmData f 0) 5 0 < 62 →
      Completes .enum s fun t => t.chain.addr = fld (frmData f 0) 5 0 + 1 ∧ t.chain.overflow = false ∧ t.held = s.held) ∧
    (s.chainHead 2 = true →
      (frmLen f = 0 → Becomes .ident s (s.answer 0 s.identWords)) ∧
      (frmLen f ≠ 0 → Becomes .ident s (s.answer 8 []))) ∧
    (s.chainHead 3 = true → chainCount f = true → chainSpan a n mapEnd = true →
      (s.fuses.debug && decide (2 ^ 32 < a + 4 * n)) = false → Becomes .peek s (s.peekAnswer a n)) ∧
    (s.chainHead 4 = true → chainCount f = true → chainSpan a n (2 ^ 32) = true → s.live = true →
      s.anyAsleep a n = false →
      Becomes .chainRead s ((s.readWords a n).2.answer 0 (s.readWords a n).1)) ∧
    (s.chainHead 5 = true → s.fuses.debug = false → s.live = true → frmLen f ≠ 0 →
      chainSpan a (frmLen f) (2 ^ 32) = true → s.anyAsleep a (frmLen f) = false →
      Becomes .chainWrite s ((List.range (frmLen f)).foldl
        (fun st i => st.accWrite .chain (a + 4 * i) (frmData f i)) (s.answer 0 []))) ∧
    (s.chainHead 5 = true → s.fuses.debug = false → s.live = true → frmLen f ≠ 0 → dramBase ≤ a →
      chainSpan a (frmLen f) mapEnd = true → s.Open domDram →
      let ws := (f.drop 3).take (frmLen f)
      s.dramSpan a ws.length = true → Becomes .chainWrite s ((s.answer 0 []).dramWrite .chain a (wordBytes ws))) ∧
    (s.chainHead 7 = true → frmDest f ≠ 0 → frmLen f = 1 → fld (frmData f 0) 15 8 = 0xC4 →
      Becomes .chainReset s (s.answer 0 []).chipReset))

/-- R402-R405: the four origins of a freeze: each latches it with its number and the device time, and says
whether this device drives the line; 2,560 ns later, in elapsed time (log entry 68), the clocks stop; a line seen
high is honoured from then on. R407-R409: a READOUT or IMAGE of a frozen device begins, burst follows burst, and the copy ends; a BLOW
with its KEY begins, and blows its fuse and no other. -/
def Obligations.FrozenDevice : Prop :=
  (∀ s : State, s.live = true →
    let is (t : State) (n : Nat) (d : Bool) := t.frz.frozen = true ∧ t.frz.stopped = false ∧ t.frz.origin = n ∧
      t.frz.time = BitVec.ofNat 64 s.now ∧ t.frz.drives = d ∧ t.tbl = s.tbl
    (s.chainHead 6 = true → frmDest s.chainReq = 0 ∨ frmLen s.chainReq = 0 → Completes .freeze s fun t => is t 2 true) ∧
    (∀ r v, s.regOn = true → Completes (.assert r v) s fun t => is t 3 true) ∧
    (s.frz.honour = true → bit (s.rg .chnFrzCtl) 30 = true → Completes .freezeNLow s fun t => is t 4 false)) ∧
  (∀ s : State, s.frz.frozen = true → s.frz.stopped = false → s.frz.at_ + 2560 ≤ s.mono →
    Completes .clockStop s fun t => t.frz = { s.frz with stopped := true, freeAt := s.free } ∧ t.held = s.held ∧ t.tbl = s.tbl) ∧
  (∀ s : State, s.frz.drives = false → Becomes .freezeNHigh s { s with frz := { s.frz with honour := true } }) ∧
  (∀ s : State,
    let f := s.chainReq
    let w := frmData f 0
    (s.chainHead 8 = true → s.chain.readout = none → s.fuses.debug = false → frmLen f = 1 → s.live = false →
      w ≠ 0 →
      Completes .readout s fun t =>
        t.chain.readout = some ((wAt f 0).toNat + w.toNat * 2 ^ 32, 0, (0, 1) :: s.sections w) ∧ t.frz = s.frz) ∧
    (∀ key n sec len l, s.chain.readout = some (key, n, (sec, len) :: l) → n + 1 < len →
      Completes .readoutBurst s fun t =>
        t.chain.readout = some (key, n + 1, (sec, len) :: l) ∧ t.frz = s.frz ∧ t.tbl = s.tbl) ∧
    (s.chainHead 9 = true → s.chain.imaging = none → s.fuses.debug = false → frmLen f = 1 → s.live = false →
      s.frz.frzEn = true → s.frz.frzOk = true →
      Completes .image s fun t => t.chain.imaging = some f ∧ t.dram = s.dram) ∧
    (∀ g, s.chain.imaging = some g →
      Completes .imageCopyDone s fun t => t.chain.imaging = none ∧ t.frz = s.frz ∧ t.tbl = s.tbl) ∧
    (s.chainHead 10 = true → s.chain.blowing = none → frmLen f = 1 → fld w 31 24 = 0xB7 →
      (fld w 1 0 = 1 ∨ fld w 1 0 = 2) →
      Completes .blow s fun t => t.chain.blowing = some f ∧ t.fuses = s.fuses) ∧
    (∀ g, s.chain.blowing = some g →
      Completes .fuseBlown s fun t =>
        t.chain.blowing = none ∧
          t.fuses = if fld (frmData g 0) 1 0 = 1 then { s.fuses with payload := true } else { s.fuses with debug := true }))

/-- R397-R399: a write of DBG_CMD that names one thread: HALT halts a thread that holds no lock line, and
FORCE_HALT any; RESUME and STEP run one that is halted and awaits nothing; ABORT_PKT makes it IDLE, and so
does HALT_MAX for one that holds a packet, in elapsed time (log entry 68). -/
def Obligations.Debugging : Prop :=
  (∀ (s : State) (r : Req) (v : Word), s.regOn = true → s.fuses.debug = false → s.dbgBusy r = false →
    s.frz.frozen = false → fld v 27 26 = 0 → s.dbgTargetOk v = true →
    let k := thrKey (fld v 25 20) (fld v 19 15) (fld v 14 12)
    let x := s.thr k
    (x.lock = none → Completes (.halt r v) s fun t => (t.thr k).st = .halted ∧ (t.dbgOp r).result = 0) ∧
    Completes (.forceHalt r v) s (fun t => (t.thr k).st = .halted ∧ (t.dbgOp r).result = 0) ∧
    (x.st = .halted → x.prior ≠ .idle → x.await = 0 → x.want = none → x.full = false → x.haltReq = false →
      x.stepping = 0 → Completes (.resume r v) s (fun t => (t.thr k).st = .run ∧ (t.thr k).pc = x.pc) ∧
      Completes (.step r v) s (fun t => (t.thr k).st = .run ∧ (t.thr k).stepping = 1 ∧ (t.thr k).pc = x.pc)) ∧
    (x.st = .halted → Completes (.abortPkt r v) s fun t => (t.thr k).st = .idle ∧ (t.thr k).pkt = none)) ∧
  (∀ (s : State) (c : Fin 64) (e : Fin 17) (th : Fin 8), s.cluOn c = true →
    let k := thrKey c e th
    (s.thr k).st = .halted → (s.thr k).pkt ≠ none → fld (s.rg .dbgCfg) 15 0 ≠ 0 →
    (s.thr k).haltAt + 1000 * fld (s.rg .dbgCfg) 15 0 ≤ s.mono →
    Completes (.haltMaxExpiry c e th) s fun t => (t.thr k).st = .idle ∧ (t.thr k).pkt = none)

/-! ### Frames: what a family of commands leaves as it was -/

/-- The commands named here, of the links, of the host functions and of the rings, leave what they are not about as
it was: a link or a ring command touches no unit of the frames' path, no table and no engine; a command that
loses a host touches no table, no port and no engine, and one that brings descriptors of commands, punt buffers or
frames no port, no frame and no engine. Not named are register writes and misaligned accesses, which may reach any unit
or raise an event (R342). -/
def Obligations.HostFrames : Prop :=
  (∀ x0 x1 x2, Keeps (.linkUp x0 x1 x2) State.besideRings) ∧ (∀ x0, Keeps (.l0sEntry x0) State.besideRings) ∧
  (∀ x0, Keeps (.l1Entry x0) State.besideRings) ∧ (∀ x0 x1, Keeps (.vectorUnmask x0 x1) State.besideRings) ∧
  (∀ x0 x1, Keeps (.unsupportedRequest x0 x1) State.besideRings) ∧
  (∀ x0 x1, Keeps (.coalescingTimeExpiry x0 x1) State.besideRings) ∧
  (∀ x0 x1 x2, Keeps (.rngNudge x0 x1 x2) State.besideRings) ∧
  (∀ x0, Keeps (.doorbellPoll x0) State.besideRings) ∧
  (∀ x0 x1, Keeps (.doorbellFetchComplete x0 x1) State.besideRings) ∧
  (∀ x0 x1, Keeps (.descriptorFetch x0 x1) State.besideRings) ∧
  (∀ x0 x1 x2, Keeps (.descriptorFetchComplete x0 x1 x2) (·.besideHost.besideTables)) ∧
  (∀ x0 x1, Keeps (.writeBack x0 x1) State.besideRings) ∧
  (∀ x0 x1 x2, Keeps (.injectDataRead x0 x1 x2) State.besideRings) ∧
  (∀ x0 x1 x2 x3 x4, Keeps (.ringEnable x0 x1 x2 x3 x4) State.besideRings) ∧
  (∀ x0 x1 x2 x3, Keeps (.ringDisable x0 x1 x2 x3) State.besideRings) ∧
  (∀ x0, Keeps (.busMasterDisable x0) State.besideHost) ∧
  (∀ x0, Keeps (.functionLevelReset x0) State.besideHost) ∧ (∀ x0, Keeps (.hotReset x0) State.besideHost) ∧
  (∀ x0 x1 x2, Keeps (.leave x0 x1 x2) State.besideHost) ∧ (∀ x0, Keeps (.linkDown x0) State.besideHost) ∧
  (∀ x0, Keeps (.perstAssert x0) State.besideHost) ∧ (∀ x0 x1 x2, Keeps (.present x0 x1 x2) State.besideHost)

/-- The commands named here, of DMA, DRAM, the chain, the freeze, the faults' windows and tests, the sentinels and the
engines, leave what they are not about as it was: DMA programs and DRAM requests touch no table, no port and
no frame, the chain's answers and the freeze no table, no frame and no ledger, a dispatch or a halt no
table, no code and no port. An access to a sleeping port group wakes it, with what that brings (R370, R375). A store
buffer and a return are held to this where what they read is good, training and calibrations where they succeed, and a
self-test where it passes: otherwise they raise an event, whose reaction may be anything (R342). So may a microword, a
read of DRAM, a patrol scrub, a chunk of a migration, a chain frame, a sentinel's recheck, rearm, retirement or spare
taken, and a scrub; and a MOVE, a SIGNAL and the chain's peek, read, write and reset may reach any register. These are
not named. -/
def Obligations.EngineFrames : Prop :=
  (∀ x0 x1 x2, Keeps (.dmaGo x0 x1 x2) State.besideDma) ∧
  (∀ x0 x1 x2, Keeps (.dmaAbort x0 x1 x2) State.besideDma) ∧ (∀ x0, Keeps (.dmaEnd x0) State.besideDma) ∧
  (∀ x0, Keeps (.loop x0) State.besideDma) ∧ (∀ x0, Keeps (.nop x0) State.besideDma) ∧
  (∀ x0 x1, Keeps (.programFetch x0 x1) State.besideDma) ∧ (∀ x0, Keeps (.fence x0) State.besideDma) ∧
  (∀ x0, Keeps (.wait x0) State.besideDma) ∧ (∀ x0, Keeps (.waitExpiry x0) State.besideDma) ∧
  (∀ x0, Keeps (.waitPoll x0) State.besideDma) ∧
  (∀ x0 x1 x2, Keeps (.writeAcknowledge x0 x1 x2) State.besideDma) ∧
  (∀ x0 x1 x2 x3, Keeps (.dramRequest x0 x1 x2 x3) (fun s => { s.besideDram with dma := [] })) ∧
  (∀ x0, Keeps (.writeDrain x0) State.besideDram) ∧ (∀ x0 x1, Keeps (.dramWrite x0 x1) State.besideDram) ∧
  (∀ x0 x1 x2, Keeps (.refresh x0 x1 x2) State.besideDram) ∧
  (∀ x0, Keeps (.selfRefreshEntry x0) State.besideDram) ∧ (∀ x0, Keeps (.selfRefreshExit x0) State.besideDram) ∧
  (∀ x0 x1, Keeps (.temperatureRead x0 x1) State.besideDram) ∧
  (∀ x0, Keeps (.trainingDone x0 true) State.besideDram) ∧ (∀ x0, Keeps (.zqCalibration x0 true) State.besideDram) ∧
  (∀ x0, Keeps (.dqsOscillatorCheck x0 true) State.besideDram) ∧
  (∀ x0 x1, Keeps (.train x0 x1) State.besideQueues) ∧
  (∀ x0 x1 x2, Keeps (.offline x0 x1 x2) (fun s => { s.besideQueues with dma := [] })) ∧
  (∀ x0 x1 x2, Keeps (.dramResume x0 x1 x2) (fun s => { s.besideQueues with dma := [] })) ∧
  (∀ x0 x1 x2, Keeps (.migrate x0 x1 x2) (fun s => { s.besideQueues with dma := [] })) ∧
  (∀ x0 x1 x2 x3, Keeps (.bar4Access x0 x1 x2 x3) (·.besideWoken.besideQueues)) ∧ Keeps .enum State.besideChain ∧
  Keeps .ident State.besideChain ∧ Keeps .image State.besideChain ∧ Keeps .readout State.besideChain ∧
  Keeps .readoutBurst State.besideChain ∧ Keeps .blow State.besideChain ∧
  Keeps .imageCopyDone (·.besideChain.besideDram) ∧ Keeps .fuseBlown (fun s => { s.besideChain with fuses := {} }) ∧
  Keeps .clockStop State.besideFreeze ∧
  Keeps .freezeNHigh State.besideFreeze ∧ Keeps .freeze State.besideFreeze ∧
  (∀ x0 x1, Keeps (.assert x0 x1) State.besideFreeze) ∧ Keeps .freezeNLow State.besideFreeze ∧
  (∀ x0, Keeps (.clusterResetComplete x0) State.besideThreads) ∧
  (∀ x0, Keeps (.rotationComplete x0) State.besideThreads) ∧
  (∀ x0, Keeps (.sentinelRotation x0) State.besideThreads) ∧
  (∀ x0, Keeps (.slotTableSwitch x0) State.besideThreads) ∧
  (∀ x0 x1 x2, Keeps (.backgroundStart x0 x1 x2) State.besideThreads) ∧
  (∀ x0 x1, Keeps (.lockGrant x0 x1) State.besideThreads) ∧
  (∀ x0 x1 x2, Keeps (.storeBufferDrain x0 x1 x2 false) State.besideThreads) ∧
  (∀ x0 x1 x2, Keeps (.treeReadReturn x0 x1 x2 false) State.besideThreads) ∧
  (∀ x0 x1 x2, Keeps (.scratchLoadReturn x0 x1 x2 false) State.besideThreads) ∧
  (∀ x0 x1 x2, Keeps (.counterAddReturn x0 x1 x2) State.besideThreads) ∧
  (∀ x0, Keeps (.knownAnswerSelfTest x0 none) State.besideThreads) ∧
  (∀ x0 x1, Keeps (.digestCompare x0 x1) State.besidePackets) ∧
  (∀ x0, Keeps (.dispatch x0) State.besidePackets) ∧
  (∀ x0 x1 x2, Keeps (.haltMaxExpiry x0 x1 x2) State.besidePackets) ∧
  (∀ x0 x1, Keeps (.abortPkt x0 x1) State.besidePackets) ∧
  (∀ x0 x1, Keeps (.forceHalt x0 x1) State.besidePackets) ∧ (∀ x0 x1, Keeps (.halt x0 x1) State.besidePackets) ∧
  (∀ x0 x1, Keeps (.resume x0 x1) State.besidePackets) ∧ (∀ x0 x1, Keeps (.step x0 x1) State.besidePackets) ∧
  (∀ x0 x1 x2, Keeps (.admitWrite x0 x1 x2) (·.besideWoken.besidePackets)) ∧
  (∀ x0 x1 x2, Keeps (.activeSlot x0 x1 x2) (·.besideWoken.besidePackets)) ∧
  (∀ x0 x1 x2, Keeps (.slotInvalidate x0 x1 x2) (·.besideWoken.besidePackets)) ∧
  (∀ x0 x1 x2, Keeps (.clusterReset x0 x1 x2) (·.besideWoken.besidePackets)) ∧ Keeps .faultWindowEnd State.besideFaults ∧
  (∀ x0 x1, Keeps (.historyLost x0 x1) State.besideFaults) ∧
  (∀ x0 x1, Keeps (.onlineTestStart x0 x1) State.besideFaults) ∧
  (∀ x0 x1, Keeps (.imageLoadStart x0 x1) State.besideCode) ∧
  (∀ x0 x1, Keeps (.imageLoadAbort x0 x1) State.besideCode) ∧
  (∀ x0 x1, Keeps (.imageData x0 x1) State.besideCode) ∧ Keeps .imageFillComplete State.besideCode

/-- The commands named here, of the command unit and of the epoch unit, leave what they are not about as it was: none
but the flush of the old epoch's frames touches a port, a frame, a buffer, a thread or DRAM, and those that only read,
wait, or open and close a staging touch no table. Not named are the repair of an associative copy and the timeout of a
flip, which raise an event, whose reaction may be anything (R342). -/
def Obligations.TableFrames : Prop :=
  (∀ x0 x1, Keeps (.read x0 x1) State.besideCommands) ∧ (∀ x0 x1, Keeps (.search x0 x1) State.besideCommands) ∧
  Keeps .settleWait State.besideCommands ∧ Keeps .abortStage State.besideCommands ∧
  Keeps .beginStage State.besideCommands ∧ Keeps .drainComplete (·.besideCommands.besideThreads) ∧
  Keeps .drainTimeout (·.besideCommands.besideThreads) ∧ Keeps .setRoot State.besideCommands ∧
  Keeps .waitingBeginStage State.besideCommands ∧ (∀ x0, Keeps (.pipeFlip x0) (fun s => { s.besideRings with groups := [] })) ∧
  Keeps .commitComplete State.besideCommands ∧
  (∀ x0, Keeps (.epochFlush x0) (·.besideCommands.besidePackets.besidePorts)) ∧ (∀ x0, Keeps (.insert x0) State.besideTables) ∧
  (∀ x0, Keeps (.delete x0) State.besideTables) ∧ (∀ x0, Keeps (.treeWrite x0) State.besideTables) ∧
  (∀ x0, Keeps (.writeIndex x0) State.besideTables) ∧ Keeps .setWidth State.besideTables ∧
  Keeps .flushLearned State.besideTables ∧ Keeps .ageNow State.besideTables ∧
  (∀ x0, Keeps (.bulkStage x0) State.besideTables) ∧ Keeps .treeRetire State.besideTables ∧
  Keeps .commit State.besideTables ∧ (∀ x0, Keeps (.settleSweep x0) State.besideTables) ∧
  (∀ x0, Keeps (.abortSweep x0) State.besideTables) ∧ Keeps .learnInsert State.besideTables ∧
  Keeps .ageingVisit State.besideTables ∧ (∀ x0, Keeps (.ascCopyWrite x0) State.besideTables) ∧
  (∀ x0 x1, Keeps (.ascCompare x0 x1) State.besideTables) ∧
  (∀ x0 x1 x2, Keeps (.tblCmdGo x0 x1 x2) State.besideTables) ∧
  (∀ x0 x1, Keeps (.forceAbort x0 x1) State.besideTables) ∧
  (∀ x0 x1, Keeps (.reloadStart x0 x1) State.besideTables) ∧
  (∀ x0, Keeps (.reloadComplete x0) State.besideTables)

/-- The commands named here, of ports, cages, queues, schedulers, the ledger and telemetry, leave what they are not about
as it was: none writes a copy table, an epoch, a thread's registers, a control store or a DMA channel. A frame whose buffer
or holding-store words cannot be read also raises an event, whose reaction may be anything (R342), so the commands that
read them are held to this where the words are good; so are the cage bus's polls, output writes and stretched clocks
where every expander answers, and the ledger's check, which may raise an event, is not named. -/
def Obligations.PortFrames : Prop :=
  (∀ x0, Keeps (.trainingComplete x0) State.besidePorts) ∧
  (∀ x0, Keeps (.alignmentMarkerLock x0) State.besidePorts) ∧
  (∀ x0, Keeps (.upHoldExpiry x0) State.besidePorts) ∧
  (∀ x0 x1 x2 x3 x4, Keeps (.linkFault x0 x1 x2 x3 x4) State.besidePorts) ∧
  (∀ x0, Keeps (.downHoldExpiry x0) State.besidePorts) ∧
  (∀ x0, Keeps (.subPortAutoResume x0) (fun s => { s.besidePorts with clk := {} })) ∧
  (∀ x0 x1, Keeps (.portDownFlush x0 x1) State.besidePorts) ∧
  (∀ x0, Keeps (.transmitEnd x0) State.besidePorts) ∧ (∀ x0 x1, Keeps (.ageCheck x0 x1) State.besidePorts) ∧
  (∀ x0, Keeps (.schedulerPick x0) State.besidePorts) ∧
  (∀ x0 x1, KeepsWhere State.Sound (.egressReadStart x0 x1 false) State.besidePorts) ∧
  (∀ x0, Keeps (.bufferWriteEnd x0) State.besidePorts) ∧
  (∀ x0 x1, Keeps (.replicaEnqueue x0 x1) State.besidePorts) ∧
  (∀ x0, Keeps (.hostQueuePick x0) State.besidePorts) ∧ (∀ x0, Keeps (.resequence x0) State.besidePorts) ∧
  (∀ x0 x1, Keeps (.quadrantOffline x0 x1) State.besidePorts) ∧
  (∀ x0 x1 x2 x3 x4, Keeps (.receiveFrame x0 x1 x2 x3 x4) State.besideFrames) ∧
  (∀ x0 x1 x2 x3 x4, Keeps (.injectPipelineEntry x0 x1 x2 x3 x4) State.besideFrames) ∧
  (∀ x0, Keeps (.overflowSearch x0) State.besideFrames) ∧
  (∀ x0 x1, KeepsWhere State.Sound (.police x0 false x1) (·.besideWoken.besideFrames)) ∧
  (∀ x0 x1 x2, Keeps (.injectDirectEntry x0 x1 x2) State.besideFrames) ∧
  (∀ x0, KeepsWhere State.Sound (.puntWrite x0) State.besideFrames) ∧
  (∀ x0 x1 x2, Keeps (.subPortEnable x0 x1 x2) (·.besideWoken.besideCages)) ∧
  (∀ x0 x1 x2, Keeps (.subPortDisable x0 x1 x2) (·.besideWoken.besideCages)) ∧
  (∀ x0 x1, Keeps (.cancel x0 x1) (·.besideWoken.besideCages)) ∧
  (∀ x0 x1 x2, Keeps (.expanderInit x0 x1 x2) (·.besideWoken.besideCages)) ∧
  (∀ x0 x1, Keeps (.highPower x0 x1) (·.besideWoken.besideCages)) ∧ (∀ x0 x1, Keeps (.lowPower x0 x1) (·.besideWoken.besideCages)) ∧
  (∀ x0 x1, Keeps (.powerOn x0 x1) (·.besideWoken.besideCages)) ∧ (∀ x0 x1, Keeps (.release x0 x1) (·.besideWoken.besideCages)) ∧
  (∀ x0 x1, Keeps (.resetPulse x0 x1) (·.besideWoken.besideCages)) ∧
  (∀ x0, Keeps (.pwrSettleExpiry x0) State.besideCages) ∧ (∀ x0, Keeps (.releaseTimeout x0) State.besideCages) ∧
  (∀ x0 x1 x2, Keeps (.moduleTransfer x0 x1 x2) (·.besideWoken.besideCages)) ∧
  (∀ x0 x1 x2, Keeps (.transferSegment x0 x1 x2) State.besideCages) ∧
  (∀ x0 a b c d, Keeps (.cagePoll x0 [.data a, .data b, .data c, .data d]) State.besideCages) ∧
  (∀ x0, Keeps (.expanderOutputWrite x0 .ack) State.besideCages) ∧ (∀ x0, Keeps (.stretchTimeout x0 none) State.besideCages) ∧
  Keeps .intervalClose State.besideLedger ∧
  Keeps .bandwidthWindowEnd State.besideLedger ∧ Keeps .histogramPeriodEnd State.besideLedger ∧
  Keeps .digestBatchEmit State.besideLedger ∧ (∀ x0 x1, Keeps (.peakClearAll x0 x1) State.besideLedger) ∧
  (∀ x0 x1, Keeps (.peakClearPort x0 x1) State.besideLedger) ∧
  (∀ x0 x1 x2, Keeps (.counterGroupClear x0 x1 x2) State.besideLedger) ∧
  (∀ x0, Keeps (.imbalancePop x0) State.besideLedger) ∧ (∀ x0 x1, Keeps (.mcLogPop x0 x1) (·.besideWoken.besideLedger)) ∧
  (∀ x0 x1 x2 x3, Keeps (.portCfgWrite x0 x1 x2 x3) (·.besideWoken.besideLedger)) ∧ Keeps .ppsEdge State.besideLedger ∧
  (∀ x0 x1, Keeps (.timeSetSec x0 x1) State.besideLedger)
end

