-- ==== Sys2Proof/Laws/Tab.lean ====
section
/-! SUPPORT. Sparse tables: what is read after a write, and the canonical form, which every operation
keeps. -/

namespace Sys2Proof.Machine

open Sys2Proof

variable {α : Type}

theorem tget_tdel (d : Nat → α) (t : Tab α) (k j : Nat) :
    tget d (tdel t k) j = if j = k then d j else tget d t j := by
  induction t with
  | nil => simp [tdel, tget]
  | cons e t ih =>
    obtain ⟨a, v⟩ := e
    by_cases h : k = a
    · subst h
      by_cases hj : j = k
      · subst hj; simp only [tdel, if_true, ih]
      · simp [tdel, tget, ih, hj]
    · by_cases hj : j = a
      · subst hj
        simp [tdel, tget, h, Ne.symm h]
      · simp [tdel, tget, h, hj, ih]

theorem tget_tins (d : Nat → α) (t : Tab α) (k j : Nat) (x : α) :
    tget d (tins t k x) j = if j = k then x else tget d t j := by
  induction t with
  | nil => simp [tins, tget]
  | cons e t ih =>
    obtain ⟨a, v⟩ := e
    by_cases h1 : k < a
    · simp [tins, tget, h1]
    · by_cases h2 : k = a
      · subst h2
        by_cases hj : j = k <;> simp [tins, tget, hj]
      · by_cases hj : j = a
        · subst hj
          simp [tins, tget, h1, h2, Ne.symm h2]
        · simp [tins, tget, h1, h2, hj, ih]

/-- A read after a write. -/
@[simp] theorem tget_tset [DecidableEq α] (d : Nat → α) (t : Tab α) (k j : Nat) (x : α) :
    tget d (tset d t k x) j = if j = k then x else tget d t j := by
  unfold tset
  by_cases h : x = d k
  · by_cases hj : j = k
    · subst hj; simp [tget_tdel, h]
    · simp [tget_tdel, h, hj]
  · simp [h, tget_tins]

@[simp] theorem tget_tmod [DecidableEq α] (d : Nat → α) (t : Tab α) (k j : Nat) (f : α → α) :
    tget d (tmod d t k f) j = if j = k then f (tget d t k) else tget d t j := by
  simp [tmod]

@[simp] theorem tget_tdrop (d : Nat → α) (p : Nat → Bool) (t : Tab α) (k : Nat) :
    tget d (tdrop p t) k = if p k then d k else tget d t k := by
  induction t with
  | nil => simp [tdrop, tget]
  | cons e t ih =>
    obtain ⟨a, v⟩ := e
    unfold tdrop at ih ⊢
    by_cases h : p a
    · by_cases hk : k = a
      · subst hk; simp [h] at ih ⊢; exact ih
      · simp [h, tget, hk, ih]
    · by_cases hk : k = a
      · subst hk; simp [h, tget]
      · simp [h, tget, hk, ih]

/-! ### The canonical form -/

/-- Keys strictly rising, each above a bound. -/
def above (n : Nat) : Tab α → Prop
  | [] => True
  | (a, _) :: t => n < a ∧ above a t

theorem rising_cons (a : Nat) (v : α) (t : Tab α) : rising ((a, v) :: t) = true ↔ above a t := by
  induction t generalizing a v with
  | nil => simp [rising, above]
  | cons e t ih =>
    obtain ⟨b, w⟩ := e
    simp only [rising, above, Bool.and_eq_true, decide_eq_true_eq, ih]

theorem above_mono {n m : Nat} (h : n ≤ m) (t : Tab α) (ht : above m t) : above n t := by
  cases t with
  | nil => trivial
  | cons e t => exact ⟨Nat.lt_of_le_of_lt h ht.1, ht.2⟩

theorem above_filter (p : Nat × α → Bool) (n : Nat) (t : Tab α) (h : above n t) : above n (t.filter p) := by
  induction t generalizing n with
  | nil => trivial
  | cons e t ih =>
    obtain ⟨a, v⟩ := e
    simp only [List.filter_cons]
    split
    · exact ⟨h.1, ih a h.2⟩
    · exact ih n (above_mono (Nat.le_of_lt h.1) t h.2)

theorem tdel_eq_filter (t : Tab α) (k : Nat) : tdel t k = t.filter fun e => ! decide (k = e.1) := by
  induction t with
  | nil => rfl
  | cons e t ih =>
    obtain ⟨a, v⟩ := e
    by_cases h : k = a
    · subst h; simp [tdel, ih]
    · simp [tdel, h, ih]

theorem above_tins (t : Tab α) (n k : Nat) (x : α) (h : above n t) (hk : n < k) : above n (tins t k x) := by
  induction t generalizing n with
  | nil => exact ⟨hk, trivial⟩
  | cons e t ih =>
    obtain ⟨a, v⟩ := e
    unfold tins
    split
    · exact ⟨hk, ‹k < a›, h.2⟩
    · split
      · next e => subst e; exact h
      · exact ⟨h.1, ih a h.2 (by omega)⟩

theorem rising_iff (t : Tab α) : rising t = true ↔ t = [] ∨ ∃ a v r, t = (a, v) :: r ∧ above a r := by
  cases t with
  | nil => simp [rising]
  | cons e t => obtain ⟨a, v⟩ := e; simp [rising_cons]

theorem rising_tins (t : Tab α) (k : Nat) (x : α) (h : rising t = true) : rising (tins t k x) = true := by
  cases t with
  | nil => rfl
  | cons e t =>
    obtain ⟨a, v⟩ := e
    rw [rising_cons] at h
    unfold tins
    split
    · rw [rising_cons]; exact ⟨‹_›, h⟩
    · split
      · next e => subst e; rw [rising_cons]; exact h
      · rw [rising_cons]; exact above_tins t a k x h (by omega)

theorem rising_filter (p : Nat × α → Bool) (t : Tab α) (h : rising t = true) : rising (t.filter p) = true := by
  induction t with
  | nil => rfl
  | cons e t ih =>
    obtain ⟨a, v⟩ := e
    rw [rising_cons] at h
    simp only [List.filter_cons]
    split
    · rw [rising_cons]; exact above_filter p a t h
    · refine ih ?_
      cases t with
      | nil => rfl
      | cons e t => obtain ⟨b, w⟩ := e; rw [rising_cons]; exact h.2

theorem mem_tins (t : Tab α) (k : Nat) (x : α) (e : Nat × α) (h : e ∈ tins t k x) : e = (k, x) ∨ e ∈ t := by
  induction t with
  | nil => simpa [tins] using h
  | cons f t ih =>
    obtain ⟨a, v⟩ := f
    unfold tins at h
    split at h
    · simpa using h
    · split at h
      · rcases List.mem_cons.mp h with h | h
        · exact .inl h
        · exact .inr (List.mem_cons_of_mem _ h)
      · rcases List.mem_cons.mp h with h | h
        · exact .inr (h ▸ List.mem_cons_self ..)
        · exact (ih h).imp_right (List.mem_cons_of_mem _)

/-- The canonical form, as two properties. -/
theorem twf_iff [DecidableEq α] (d : Nat → α) (t : Tab α) :
    twf d t = true ↔ rising t = true ∧ ∀ e ∈ t, e.2 ≠ d e.1 := by
  simp [twf, List.all_eq_true]

/-- A write keeps the canonical form. -/
theorem twf_tset [DecidableEq α] (d : Nat → α) (t : Tab α) (k : Nat) (x : α) (h : twf d t = true) :
    twf d (tset d t k x) = true := by
  rw [twf_iff] at h ⊢
  unfold tset
  split
  · rw [tdel_eq_filter]
    exact ⟨rising_filter _ t h.1, fun e he => h.2 e (List.mem_of_mem_filter he)⟩
  · refine ⟨rising_tins t k x h.1, fun e he => ?_⟩
    rcases mem_tins t k x e he with rfl | he
    · assumption
    · exact h.2 e he

/-- So does a change of one entry. -/
theorem twf_tmod [DecidableEq α] (d : Nat → α) (t : Tab α) (k : Nat) (f : α → α) (h : twf d t = true) :
    twf d (tmod d t k f) = true := twf_tset d t k _ h

/-- So does a loss of entries. -/
theorem twf_tdrop [DecidableEq α] (d : Nat → α) (p : Nat → Bool) (t : Tab α) (h : twf d t = true) :
    twf d (tdrop p t) = true := by
  rw [twf_iff] at h ⊢
  exact ⟨rising_filter _ t h.1, fun e he => h.2 e (List.mem_of_mem_filter he)⟩

end Sys2Proof.Machine
end

