-- ==== Sys2Proof/Laws/State.lean ====
section
/-! SUPPORT. One lemma for each field of `State` and each update of it, and what each part reads as after
an update. -/

namespace Sys2Proof.Machine

open Sys2Proof

theorem mk_pending (x1 x2 x3 x4 x5 x6 x7 x8 x9 x10 x11 x12 x13 x14 x15 x16 x17 x18 x19 x20 x21 x22 x23 x24 x25 x26 x27 x28 x29 x30 x31 x32 x33 x34 x35 x36 x37 x38 x39 x40 x41) :
    (State.mk x1 x2 x3 x4 x5 x6 x7 x8 x9 x10 x11 x12 x13 x14 x15 x16 x17 x18 x19 x20 x21 x22 x23 x24 x25 x26 x27 x28 x29 x30 x31 x32 x33 x34 x35 x36 x37 x38 x39 x40 x41).pending = x1 := rfl

theorem mk_ident (x1 x2 x3 x4 x5 x6 x7 x8 x9 x10 x11 x12 x13 x14 x15 x16 x17 x18 x19 x20 x21 x22 x23 x24 x25 x26 x27 x28 x29 x30 x31 x32 x33 x34 x35 x36 x37 x38 x39 x40 x41) :
    (State.mk x1 x2 x3 x4 x5 x6 x7 x8 x9 x10 x11 x12 x13 x14 x15 x16 x17 x18 x19 x20 x21 x22 x23 x24 x25 x26 x27 x28 x29 x30 x31 x32 x33 x34 x35 x36 x37 x38 x39 x40 x41).ident = x2 := rfl

theorem mk_straps (x1 x2 x3 x4 x5 x6 x7 x8 x9 x10 x11 x12 x13 x14 x15 x16 x17 x18 x19 x20 x21 x22 x23 x24 x25 x26 x27 x28 x29 x30 x31 x32 x33 x34 x35 x36 x37 x38 x39 x40 x41) :
    (State.mk x1 x2 x3 x4 x5 x6 x7 x8 x9 x10 x11 x12 x13 x14 x15 x16 x17 x18 x19 x20 x21 x22 x23 x24 x25 x26 x27 x28 x29 x30 x31 x32 x33 x34 x35 x36 x37 x38 x39 x40 x41).straps = x3 := rfl

theorem mk_fuses (x1 x2 x3 x4 x5 x6 x7 x8 x9 x10 x11 x12 x13 x14 x15 x16 x17 x18 x19 x20 x21 x22 x23 x24 x25 x26 x27 x28 x29 x30 x31 x32 x33 x34 x35 x36 x37 x38 x39 x40 x41) :
    (State.mk x1 x2 x3 x4 x5 x6 x7 x8 x9 x10 x11 x12 x13 x14 x15 x16 x17 x18 x19 x20 x21 x22 x23 x24 x25 x26 x27 x28 x29 x30 x31 x32 x33 x34 x35 x36 x37 x38 x39 x40 x41).fuses = x4 := rfl

theorem mk_time (x1 x2 x3 x4 x5 x6 x7 x8 x9 x10 x11 x12 x13 x14 x15 x16 x17 x18 x19 x20 x21 x22 x23 x24 x25 x26 x27 x28 x29 x30 x31 x32 x33 x34 x35 x36 x37 x38 x39 x40 x41) :
    (State.mk x1 x2 x3 x4 x5 x6 x7 x8 x9 x10 x11 x12 x13 x14 x15 x16 x17 x18 x19 x20 x21 x22 x23 x24 x25 x26 x27 x28 x29 x30 x31 x32 x33 x34 x35 x36 x37 x38 x39 x40 x41).time = x5 := rfl

theorem mk_held (x1 x2 x3 x4 x5 x6 x7 x8 x9 x10 x11 x12 x13 x14 x15 x16 x17 x18 x19 x20 x21 x22 x23 x24 x25 x26 x27 x28 x29 x30 x31 x32 x33 x34 x35 x36 x37 x38 x39 x40 x41) :
    (State.mk x1 x2 x3 x4 x5 x6 x7 x8 x9 x10 x11 x12 x13 x14 x15 x16 x17 x18 x19 x20 x21 x22 x23 x24 x25 x26 x27 x28 x29 x30 x31 x32 x33 x34 x35 x36 x37 x38 x39 x40 x41).held = x6 := rfl

theorem mk_wide (x1 x2 x3 x4 x5 x6 x7 x8 x9 x10 x11 x12 x13 x14 x15 x16 x17 x18 x19 x20 x21 x22 x23 x24 x25 x26 x27 x28 x29 x30 x31 x32 x33 x34 x35 x36 x37 x38 x39 x40 x41) :
    (State.mk x1 x2 x3 x4 x5 x6 x7 x8 x9 x10 x11 x12 x13 x14 x15 x16 x17 x18 x19 x20 x21 x22 x23 x24 x25 x26 x27 x28 x29 x30 x31 x32 x33 x34 x35 x36 x37 x38 x39 x40 x41).wide = x7 := rfl

theorem mk_rxAt (x1 x2 x3 x4 x5 x6 x7 x8 x9 x10 x11 x12 x13 x14 x15 x16 x17 x18 x19 x20 x21 x22 x23 x24 x25 x26 x27 x28 x29 x30 x31 x32 x33 x34 x35 x36 x37 x38 x39 x40 x41) :
    (State.mk x1 x2 x3 x4 x5 x6 x7 x8 x9 x10 x11 x12 x13 x14 x15 x16 x17 x18 x19 x20 x21 x22 x23 x24 x25 x26 x27 x28 x29 x30 x31 x32 x33 x34 x35 x36 x37 x38 x39 x40 x41).rxAt = x8 := rfl

theorem mk_priv (x1 x2 x3 x4 x5 x6 x7 x8 x9 x10 x11 x12 x13 x14 x15 x16 x17 x18 x19 x20 x21 x22 x23 x24 x25 x26 x27 x28 x29 x30 x31 x32 x33 x34 x35 x36 x37 x38 x39 x40 x41) :
    (State.mk x1 x2 x3 x4 x5 x6 x7 x8 x9 x10 x11 x12 x13 x14 x15 x16 x17 x18 x19 x20 x21 x22 x23 x24 x25 x26 x27 x28 x29 x30 x31 x32 x33 x34 x35 x36 x37 x38 x39 x40 x41).priv = x9 := rfl

theorem mk_latch (x1 x2 x3 x4 x5 x6 x7 x8 x9 x10 x11 x12 x13 x14 x15 x16 x17 x18 x19 x20 x21 x22 x23 x24 x25 x26 x27 x28 x29 x30 x31 x32 x33 x34 x35 x36 x37 x38 x39 x40 x41) :
    (State.mk x1 x2 x3 x4 x5 x6 x7 x8 x9 x10 x11 x12 x13 x14 x15 x16 x17 x18 x19 x20 x21 x22 x23 x24 x25 x26 x27 x28 x29 x30 x31 x32 x33 x34 x35 x36 x37 x38 x39 x40 x41).latch = x10 := rfl

theorem mk_dom (x1 x2 x3 x4 x5 x6 x7 x8 x9 x10 x11 x12 x13 x14 x15 x16 x17 x18 x19 x20 x21 x22 x23 x24 x25 x26 x27 x28 x29 x30 x31 x32 x33 x34 x35 x36 x37 x38 x39 x40 x41) :
    (State.mk x1 x2 x3 x4 x5 x6 x7 x8 x9 x10 x11 x12 x13 x14 x15 x16 x17 x18 x19 x20 x21 x22 x23 x24 x25 x26 x27 x28 x29 x30 x31 x32 x33 x34 x35 x36 x37 x38 x39 x40 x41).dom = x11 := rfl

theorem mk_reload (x1 x2 x3 x4 x5 x6 x7 x8 x9 x10 x11 x12 x13 x14 x15 x16 x17 x18 x19 x20 x21 x22 x23 x24 x25 x26 x27 x28 x29 x30 x31 x32 x33 x34 x35 x36 x37 x38 x39 x40 x41) :
    (State.mk x1 x2 x3 x4 x5 x6 x7 x8 x9 x10 x11 x12 x13 x14 x15 x16 x17 x18 x19 x20 x21 x22 x23 x24 x25 x26 x27 x28 x29 x30 x31 x32 x33 x34 x35 x36 x37 x38 x39 x40 x41).reload = x12 := rfl

theorem mk_clk (x1 x2 x3 x4 x5 x6 x7 x8 x9 x10 x11 x12 x13 x14 x15 x16 x17 x18 x19 x20 x21 x22 x23 x24 x25 x26 x27 x28 x29 x30 x31 x32 x33 x34 x35 x36 x37 x38 x39 x40 x41) :
    (State.mk x1 x2 x3 x4 x5 x6 x7 x8 x9 x10 x11 x12 x13 x14 x15 x16 x17 x18 x19 x20 x21 x22 x23 x24 x25 x26 x27 x28 x29 x30 x31 x32 x33 x34 x35 x36 x37 x38 x39 x40 x41).clk = x13 := rfl

theorem mk_ports (x1 x2 x3 x4 x5 x6 x7 x8 x9 x10 x11 x12 x13 x14 x15 x16 x17 x18 x19 x20 x21 x22 x23 x24 x25 x26 x27 x28 x29 x30 x31 x32 x33 x34 x35 x36 x37 x38 x39 x40 x41) :
    (State.mk x1 x2 x3 x4 x5 x6 x7 x8 x9 x10 x11 x12 x13 x14 x15 x16 x17 x18 x19 x20 x21 x22 x23 x24 x25 x26 x27 x28 x29 x30 x31 x32 x33 x34 x35 x36 x37 x38 x39 x40 x41).ports = x14 := rfl

theorem mk_cages (x1 x2 x3 x4 x5 x6 x7 x8 x9 x10 x11 x12 x13 x14 x15 x16 x17 x18 x19 x20 x21 x22 x23 x24 x25 x26 x27 x28 x29 x30 x31 x32 x33 x34 x35 x36 x37 x38 x39 x40 x41) :
    (State.mk x1 x2 x3 x4 x5 x6 x7 x8 x9 x10 x11 x12 x13 x14 x15 x16 x17 x18 x19 x20 x21 x22 x23 x24 x25 x26 x27 x28 x29 x30 x31 x32 x33 x34 x35 x36 x37 x38 x39 x40 x41).cages = x15 := rfl

theorem mk_buses (x1 x2 x3 x4 x5 x6 x7 x8 x9 x10 x11 x12 x13 x14 x15 x16 x17 x18 x19 x20 x21 x22 x23 x24 x25 x26 x27 x28 x29 x30 x31 x32 x33 x34 x35 x36 x37 x38 x39 x40 x41) :
    (State.mk x1 x2 x3 x4 x5 x6 x7 x8 x9 x10 x11 x12 x13 x14 x15 x16 x17 x18 x19 x20 x21 x22 x23 x24 x25 x26 x27 x28 x29 x30 x31 x32 x33 x34 x35 x36 x37 x38 x39 x40 x41).buses = x16 := rfl

theorem mk_groups (x1 x2 x3 x4 x5 x6 x7 x8 x9 x10 x11 x12 x13 x14 x15 x16 x17 x18 x19 x20 x21 x22 x23 x24 x25 x26 x27 x28 x29 x30 x31 x32 x33 x34 x35 x36 x37 x38 x39 x40 x41) :
    (State.mk x1 x2 x3 x4 x5 x6 x7 x8 x9 x10 x11 x12 x13 x14 x15 x16 x17 x18 x19 x20 x21 x22 x23 x24 x25 x26 x27 x28 x29 x30 x31 x32 x33 x34 x35 x36 x37 x38 x39 x40 x41).groups = x17 := rfl

theorem mk_pkts (x1 x2 x3 x4 x5 x6 x7 x8 x9 x10 x11 x12 x13 x14 x15 x16 x17 x18 x19 x20 x21 x22 x23 x24 x25 x26 x27 x28 x29 x30 x31 x32 x33 x34 x35 x36 x37 x38 x39 x40 x41) :
    (State.mk x1 x2 x3 x4 x5 x6 x7 x8 x9 x10 x11 x12 x13 x14 x15 x16 x17 x18 x19 x20 x21 x22 x23 x24 x25 x26 x27 x28 x29 x30 x31 x32 x33 x34 x35 x36 x37 x38 x39 x40 x41).pkts = x18 := rfl

theorem mk_nextPkt (x1 x2 x3 x4 x5 x6 x7 x8 x9 x10 x11 x12 x13 x14 x15 x16 x17 x18 x19 x20 x21 x22 x23 x24 x25 x26 x27 x28 x29 x30 x31 x32 x33 x34 x35 x36 x37 x38 x39 x40 x41) :
    (State.mk x1 x2 x3 x4 x5 x6 x7 x8 x9 x10 x11 x12 x13 x14 x15 x16 x17 x18 x19 x20 x21 x22 x23 x24 x25 x26 x27 x28 x29 x30 x31 x32 x33 x34 x35 x36 x37 x38 x39 x40 x41).nextPkt = x19 := rfl

theorem mk_reseq (x1 x2 x3 x4 x5 x6 x7 x8 x9 x10 x11 x12 x13 x14 x15 x16 x17 x18 x19 x20 x21 x22 x23 x24 x25 x26 x27 x28 x29 x30 x31 x32 x33 x34 x35 x36 x37 x38 x39 x40 x41) :
    (State.mk x1 x2 x3 x4 x5 x6 x7 x8 x9 x10 x11 x12 x13 x14 x15 x16 x17 x18 x19 x20 x21 x22 x23 x24 x25 x26 x27 x28 x29 x30 x31 x32 x33 x34 x35 x36 x37 x38 x39 x40 x41).reseq = x20 := rfl

theorem mk_clusters (x1 x2 x3 x4 x5 x6 x7 x8 x9 x10 x11 x12 x13 x14 x15 x16 x17 x18 x19 x20 x21 x22 x23 x24 x25 x26 x27 x28 x29 x30 x31 x32 x33 x34 x35 x36 x37 x38 x39 x40 x41) :
    (State.mk x1 x2 x3 x4 x5 x6 x7 x8 x9 x10 x11 x12 x13 x14 x15 x16 x17 x18 x19 x20 x21 x22 x23 x24 x25 x26 x27 x28 x29 x30 x31 x32 x33 x34 x35 x36 x37 x38 x39 x40 x41).clusters = x21 := rfl

theorem mk_threads (x1 x2 x3 x4 x5 x6 x7 x8 x9 x10 x11 x12 x13 x14 x15 x16 x17 x18 x19 x20 x21 x22 x23 x24 x25 x26 x27 x28 x29 x30 x31 x32 x33 x34 x35 x36 x37 x38 x39 x40 x41) :
    (State.mk x1 x2 x3 x4 x5 x6 x7 x8 x9 x10 x11 x12 x13 x14 x15 x16 x17 x18 x19 x20 x21 x22 x23 x24 x25 x26 x27 x28 x29 x30 x31 x32 x33 x34 x35 x36 x37 x38 x39 x40 x41).threads = x22 := rfl

theorem mk_cstore (x1 x2 x3 x4 x5 x6 x7 x8 x9 x10 x11 x12 x13 x14 x15 x16 x17 x18 x19 x20 x21 x22 x23 x24 x25 x26 x27 x28 x29 x30 x31 x32 x33 x34 x35 x36 x37 x38 x39 x40 x41) :
    (State.mk x1 x2 x3 x4 x5 x6 x7 x8 x9 x10 x11 x12 x13 x14 x15 x16 x17 x18 x19 x20 x21 x22 x23 x24 x25 x26 x27 x28 x29 x30 x31 x32 x33 x34 x35 x36 x37 x38 x39 x40 x41).cstore = x23 := rfl

theorem mk_img (x1 x2 x3 x4 x5 x6 x7 x8 x9 x10 x11 x12 x13 x14 x15 x16 x17 x18 x19 x20 x21 x22 x23 x24 x25 x26 x27 x28 x29 x30 x31 x32 x33 x34 x35 x36 x37 x38 x39 x40 x41) :
    (State.mk x1 x2 x3 x4 x5 x6 x7 x8 x9 x10 x11 x12 x13 x14 x15 x16 x17 x18 x19 x20 x21 x22 x23 x24 x25 x26 x27 x28 x29 x30 x31 x32 x33 x34 x35 x36 x37 x38 x39 x40 x41).img = x24 := rfl

theorem mk_tbl (x1 x2 x3 x4 x5 x6 x7 x8 x9 x10 x11 x12 x13 x14 x15 x16 x17 x18 x19 x20 x21 x22 x23 x24 x25 x26 x27 x28 x29 x30 x31 x32 x33 x34 x35 x36 x37 x38 x39 x40 x41) :
    (State.mk x1 x2 x3 x4 x5 x6 x7 x8 x9 x10 x11 x12 x13 x14 x15 x16 x17 x18 x19 x20 x21 x22 x23 x24 x25 x26 x27 x28 x29 x30 x31 x32 x33 x34 x35 x36 x37 x38 x39 x40 x41).tbl = x25 := rfl

theorem mk_cu (x1 x2 x3 x4 x5 x6 x7 x8 x9 x10 x11 x12 x13 x14 x15 x16 x17 x18 x19 x20 x21 x22 x23 x24 x25 x26 x27 x28 x29 x30 x31 x32 x33 x34 x35 x36 x37 x38 x39 x40 x41) :
    (State.mk x1 x2 x3 x4 x5 x6 x7 x8 x9 x10 x11 x12 x13 x14 x15 x16 x17 x18 x19 x20 x21 x22 x23 x24 x25 x26 x27 x28 x29 x30 x31 x32 x33 x34 x35 x36 x37 x38 x39 x40 x41).cu = x26 := rfl

theorem mk_epc (x1 x2 x3 x4 x5 x6 x7 x8 x9 x10 x11 x12 x13 x14 x15 x16 x17 x18 x19 x20 x21 x22 x23 x24 x25 x26 x27 x28 x29 x30 x31 x32 x33 x34 x35 x36 x37 x38 x39 x40 x41) :
    (State.mk x1 x2 x3 x4 x5 x6 x7 x8 x9 x10 x11 x12 x13 x14 x15 x16 x17 x18 x19 x20 x21 x22 x23 x24 x25 x26 x27 x28 x29 x30 x31 x32 x33 x34 x35 x36 x37 x38 x39 x40 x41).epc = x27 := rfl

theorem mk_buf (x1 x2 x3 x4 x5 x6 x7 x8 x9 x10 x11 x12 x13 x14 x15 x16 x17 x18 x19 x20 x21 x22 x23 x24 x25 x26 x27 x28 x29 x30 x31 x32 x33 x34 x35 x36 x37 x38 x39 x40 x41) :
    (State.mk x1 x2 x3 x4 x5 x6 x7 x8 x9 x10 x11 x12 x13 x14 x15 x16 x17 x18 x19 x20 x21 x22 x23 x24 x25 x26 x27 x28 x29 x30 x31 x32 x33 x34 x35 x36 x37 x38 x39 x40 x41).buf = x28 := rfl

theorem mk_sched (x1 x2 x3 x4 x5 x6 x7 x8 x9 x10 x11 x12 x13 x14 x15 x16 x17 x18 x19 x20 x21 x22 x23 x24 x25 x26 x27 x28 x29 x30 x31 x32 x33 x34 x35 x36 x37 x38 x39 x40 x41) :
    (State.mk x1 x2 x3 x4 x5 x6 x7 x8 x9 x10 x11 x12 x13 x14 x15 x16 x17 x18 x19 x20 x21 x22 x23 x24 x25 x26 x27 x28 x29 x30 x31 x32 x33 x34 x35 x36 x37 x38 x39 x40 x41).sched = x29 := rfl

theorem mk_led (x1 x2 x3 x4 x5 x6 x7 x8 x9 x10 x11 x12 x13 x14 x15 x16 x17 x18 x19 x20 x21 x22 x23 x24 x25 x26 x27 x28 x29 x30 x31 x32 x33 x34 x35 x36 x37 x38 x39 x40 x41) :
    (State.mk x1 x2 x3 x4 x5 x6 x7 x8 x9 x10 x11 x12 x13 x14 x15 x16 x17 x18 x19 x20 x21 x22 x23 x24 x25 x26 x27 x28 x29 x30 x31 x32 x33 x34 x35 x36 x37 x38 x39 x40 x41).led = x30 := rfl

theorem mk_tel (x1 x2 x3 x4 x5 x6 x7 x8 x9 x10 x11 x12 x13 x14 x15 x16 x17 x18 x19 x20 x21 x22 x23 x24 x25 x26 x27 x28 x29 x30 x31 x32 x33 x34 x35 x36 x37 x38 x39 x40 x41) :
    (State.mk x1 x2 x3 x4 x5 x6 x7 x8 x9 x10 x11 x12 x13 x14 x15 x16 x17 x18 x19 x20 x21 x22 x23 x24 x25 x26 x27 x28 x29 x30 x31 x32 x33 x34 x35 x36 x37 x38 x39 x40 x41).tel = x31 := rfl

theorem mk_hosts (x1 x2 x3 x4 x5 x6 x7 x8 x9 x10 x11 x12 x13 x14 x15 x16 x17 x18 x19 x20 x21 x22 x23 x24 x25 x26 x27 x28 x29 x30 x31 x32 x33 x34 x35 x36 x37 x38 x39 x40 x41) :
    (State.mk x1 x2 x3 x4 x5 x6 x7 x8 x9 x10 x11 x12 x13 x14 x15 x16 x17 x18 x19 x20 x21 x22 x23 x24 x25 x26 x27 x28 x29 x30 x31 x32 x33 x34 x35 x36 x37 x38 x39 x40 x41).hosts = x32 := rfl

theorem mk_rings (x1 x2 x3 x4 x5 x6 x7 x8 x9 x10 x11 x12 x13 x14 x15 x16 x17 x18 x19 x20 x21 x22 x23 x24 x25 x26 x27 x28 x29 x30 x31 x32 x33 x34 x35 x36 x37 x38 x39 x40 x41) :
    (State.mk x1 x2 x3 x4 x5 x6 x7 x8 x9 x10 x11 x12 x13 x14 x15 x16 x17 x18 x19 x20 x21 x22 x23 x24 x25 x26 x27 x28 x29 x30 x31 x32 x33 x34 x35 x36 x37 x38 x39 x40 x41).rings = x33 := rfl

theorem mk_dma (x1 x2 x3 x4 x5 x6 x7 x8 x9 x10 x11 x12 x13 x14 x15 x16 x17 x18 x19 x20 x21 x22 x23 x24 x25 x26 x27 x28 x29 x30 x31 x32 x33 x34 x35 x36 x37 x38 x39 x40 x41) :
    (State.mk x1 x2 x3 x4 x5 x6 x7 x8 x9 x10 x11 x12 x13 x14 x15 x16 x17 x18 x19 x20 x21 x22 x23 x24 x25 x26 x27 x28 x29 x30 x31 x32 x33 x34 x35 x36 x37 x38 x39 x40 x41).dma = x34 := rfl

theorem mk_dram (x1 x2 x3 x4 x5 x6 x7 x8 x9 x10 x11 x12 x13 x14 x15 x16 x17 x18 x19 x20 x21 x22 x23 x24 x25 x26 x27 x28 x29 x30 x31 x32 x33 x34 x35 x36 x37 x38 x39 x40 x41) :
    (State.mk x1 x2 x3 x4 x5 x6 x7 x8 x9 x10 x11 x12 x13 x14 x15 x16 x17 x18 x19 x20 x21 x22 x23 x24 x25 x26 x27 x28 x29 x30 x31 x32 x33 x34 x35 x36 x37 x38 x39 x40 x41).dram = x35 := rfl

theorem mk_flt (x1 x2 x3 x4 x5 x6 x7 x8 x9 x10 x11 x12 x13 x14 x15 x16 x17 x18 x19 x20 x21 x22 x23 x24 x25 x26 x27 x28 x29 x30 x31 x32 x33 x34 x35 x36 x37 x38 x39 x40 x41) :
    (State.mk x1 x2 x3 x4 x5 x6 x7 x8 x9 x10 x11 x12 x13 x14 x15 x16 x17 x18 x19 x20 x21 x22 x23 x24 x25 x26 x27 x28 x29 x30 x31 x32 x33 x34 x35 x36 x37 x38 x39 x40 x41).flt = x36 := rfl

theorem mk_chain (x1 x2 x3 x4 x5 x6 x7 x8 x9 x10 x11 x12 x13 x14 x15 x16 x17 x18 x19 x20 x21 x22 x23 x24 x25 x26 x27 x28 x29 x30 x31 x32 x33 x34 x35 x36 x37 x38 x39 x40 x41) :
    (State.mk x1 x2 x3 x4 x5 x6 x7 x8 x9 x10 x11 x12 x13 x14 x15 x16 x17 x18 x19 x20 x21 x22 x23 x24 x25 x26 x27 x28 x29 x30 x31 x32 x33 x34 x35 x36 x37 x38 x39 x40 x41).chain = x37 := rfl

theorem mk_frz (x1 x2 x3 x4 x5 x6 x7 x8 x9 x10 x11 x12 x13 x14 x15 x16 x17 x18 x19 x20 x21 x22 x23 x24 x25 x26 x27 x28 x29 x30 x31 x32 x33 x34 x35 x36 x37 x38 x39 x40 x41) :
    (State.mk x1 x2 x3 x4 x5 x6 x7 x8 x9 x10 x11 x12 x13 x14 x15 x16 x17 x18 x19 x20 x21 x22 x23 x24 x25 x26 x27 x28 x29 x30 x31 x32 x33 x34 x35 x36 x37 x38 x39 x40 x41).frz = x38 := rfl

theorem mk_dbg (x1 x2 x3 x4 x5 x6 x7 x8 x9 x10 x11 x12 x13 x14 x15 x16 x17 x18 x19 x20 x21 x22 x23 x24 x25 x26 x27 x28 x29 x30 x31 x32 x33 x34 x35 x36 x37 x38 x39 x40 x41) :
    (State.mk x1 x2 x3 x4 x5 x6 x7 x8 x9 x10 x11 x12 x13 x14 x15 x16 x17 x18 x19 x20 x21 x22 x23 x24 x25 x26 x27 x28 x29 x30 x31 x32 x33 x34 x35 x36 x37 x38 x39 x40 x41).dbg = x39 := rfl

theorem mk_free (x1 x2 x3 x4 x5 x6 x7 x8 x9 x10 x11 x12 x13 x14 x15 x16 x17 x18 x19 x20 x21 x22 x23 x24 x25 x26 x27 x28 x29 x30 x31 x32 x33 x34 x35 x36 x37 x38 x39 x40 x41) :
    (State.mk x1 x2 x3 x4 x5 x6 x7 x8 x9 x10 x11 x12 x13 x14 x15 x16 x17 x18 x19 x20 x21 x22 x23 x24 x25 x26 x27 x28 x29 x30 x31 x32 x33 x34 x35 x36 x37 x38 x39 x40 x41).free = x40 := rfl

theorem mk_out (x1 x2 x3 x4 x5 x6 x7 x8 x9 x10 x11 x12 x13 x14 x15 x16 x17 x18 x19 x20 x21 x22 x23 x24 x25 x26 x27 x28 x29 x30 x31 x32 x33 x34 x35 x36 x37 x38 x39 x40 x41) :
    (State.mk x1 x2 x3 x4 x5 x6 x7 x8 x9 x10 x11 x12 x13 x14 x15 x16 x17 x18 x19 x20 x21 x22 x23 x24 x25 x26 x27 x28 x29 x30 x31 x32 x33 x34 x35 x36 x37 x38 x39 x40 x41).out = x41 := rfl

@[simp] theorem State.setDmn_pending (s : State) (k : Nat) (x : Domain) : (s.setDmn k x).pending = s.pending := by unfold State.setDmn; exact mk_pending ..
@[simp] theorem State.setDmn_ident (s : State) (k : Nat) (x : Domain) : (s.setDmn k x).ident = s.ident := by unfold State.setDmn; exact mk_ident ..
@[simp] theorem State.setDmn_straps (s : State) (k : Nat) (x : Domain) : (s.setDmn k x).straps = s.straps := by unfold State.setDmn; exact mk_straps ..
@[simp] theorem State.setDmn_fuses (s : State) (k : Nat) (x : Domain) : (s.setDmn k x).fuses = s.fuses := by unfold State.setDmn; exact mk_fuses ..
@[simp] theorem State.setDmn_time (s : State) (k : Nat) (x : Domain) : (s.setDmn k x).time = s.time := by unfold State.setDmn; exact mk_time ..
@[simp] theorem State.setDmn_held (s : State) (k : Nat) (x : Domain) : (s.setDmn k x).held = s.held := by unfold State.setDmn; exact mk_held ..
@[simp] theorem State.setDmn_wide (s : State) (k : Nat) (x : Domain) : (s.setDmn k x).wide = s.wide := by unfold State.setDmn; exact mk_wide ..
@[simp] theorem State.setDmn_rxAt (s : State) (k : Nat) (x : Domain) : (s.setDmn k x).rxAt = s.rxAt := by unfold State.setDmn; exact mk_rxAt ..
@[simp] theorem State.setDmn_priv (s : State) (k : Nat) (x : Domain) : (s.setDmn k x).priv = s.priv := by unfold State.setDmn; exact mk_priv ..
@[simp] theorem State.setDmn_latch (s : State) (k : Nat) (x : Domain) : (s.setDmn k x).latch = s.latch := by unfold State.setDmn; exact mk_latch ..
@[simp] theorem State.setDmn_reload (s : State) (k : Nat) (x : Domain) : (s.setDmn k x).reload = s.reload := by unfold State.setDmn; exact mk_reload ..
@[simp] theorem State.setDmn_clk (s : State) (k : Nat) (x : Domain) : (s.setDmn k x).clk = s.clk := by unfold State.setDmn; exact mk_clk ..
@[simp] theorem State.setDmn_ports (s : State) (k : Nat) (x : Domain) : (s.setDmn k x).ports = s.ports := by unfold State.setDmn; exact mk_ports ..
@[simp] theorem State.setDmn_cages (s : State) (k : Nat) (x : Domain) : (s.setDmn k x).cages = s.cages := by unfold State.setDmn; exact mk_cages ..
@[simp] theorem State.setDmn_buses (s : State) (k : Nat) (x : Domain) : (s.setDmn k x).buses = s.buses := by unfold State.setDmn; exact mk_buses ..
@[simp] theorem State.setDmn_groups (s : State) (k : Nat) (x : Domain) : (s.setDmn k x).groups = s.groups := by unfold State.setDmn; exact mk_groups ..
@[simp] theorem State.setDmn_pkts (s : State) (k : Nat) (x : Domain) : (s.setDmn k x).pkts = s.pkts := by unfold State.setDmn; exact mk_pkts ..
@[simp] theorem State.setDmn_nextPkt (s : State) (k : Nat) (x : Domain) : (s.setDmn k x).nextPkt = s.nextPkt := by unfold State.setDmn; exact mk_nextPkt ..
@[simp] theorem State.setDmn_reseq (s : State) (k : Nat) (x : Domain) : (s.setDmn k x).reseq = s.reseq := by unfold State.setDmn; exact mk_reseq ..
@[simp] theorem State.setDmn_clusters (s : State) (k : Nat) (x : Domain) : (s.setDmn k x).clusters = s.clusters := by unfold State.setDmn; exact mk_clusters ..
@[simp] theorem State.setDmn_threads (s : State) (k : Nat) (x : Domain) : (s.setDmn k x).threads = s.threads := by unfold State.setDmn; exact mk_threads ..
@[simp] theorem State.setDmn_cstore (s : State) (k : Nat) (x : Domain) : (s.setDmn k x).cstore = s.cstore := by unfold State.setDmn; exact mk_cstore ..
@[simp] theorem State.setDmn_img (s : State) (k : Nat) (x : Domain) : (s.setDmn k x).img = s.img := by unfold State.setDmn; exact mk_img ..
@[simp] theorem State.setDmn_tbl (s : State) (k : Nat) (x : Domain) : (s.setDmn k x).tbl = s.tbl := by unfold State.setDmn; exact mk_tbl ..
@[simp] theorem State.setDmn_cu (s : State) (k : Nat) (x : Domain) : (s.setDmn k x).cu = s.cu := by unfold State.setDmn; exact mk_cu ..
@[simp] theorem State.setDmn_epc (s : State) (k : Nat) (x : Domain) : (s.setDmn k x).epc = s.epc := by unfold State.setDmn; exact mk_epc ..
@[simp] theorem State.setDmn_buf (s : State) (k : Nat) (x : Domain) : (s.setDmn k x).buf = s.buf := by unfold State.setDmn; exact mk_buf ..
@[simp] theorem State.setDmn_sched (s : State) (k : Nat) (x : Domain) : (s.setDmn k x).sched = s.sched := by unfold State.setDmn; exact mk_sched ..
@[simp] theorem State.setDmn_led (s : State) (k : Nat) (x : Domain) : (s.setDmn k x).led = s.led := by unfold State.setDmn; exact mk_led ..
@[simp] theorem State.setDmn_tel (s : State) (k : Nat) (x : Domain) : (s.setDmn k x).tel = s.tel := by unfold State.setDmn; exact mk_tel ..
@[simp] theorem State.setDmn_hosts (s : State) (k : Nat) (x : Domain) : (s.setDmn k x).hosts = s.hosts := by unfold State.setDmn; exact mk_hosts ..
@[simp] theorem State.setDmn_rings (s : State) (k : Nat) (x : Domain) : (s.setDmn k x).rings = s.rings := by unfold State.setDmn; exact mk_rings ..
@[simp] theorem State.setDmn_dma (s : State) (k : Nat) (x : Domain) : (s.setDmn k x).dma = s.dma := by unfold State.setDmn; exact mk_dma ..
@[simp] theorem State.setDmn_dram (s : State) (k : Nat) (x : Domain) : (s.setDmn k x).dram = s.dram := by unfold State.setDmn; exact mk_dram ..
@[simp] theorem State.setDmn_flt (s : State) (k : Nat) (x : Domain) : (s.setDmn k x).flt = s.flt := by unfold State.setDmn; exact mk_flt ..
@[simp] theorem State.setDmn_chain (s : State) (k : Nat) (x : Domain) : (s.setDmn k x).chain = s.chain := by unfold State.setDmn; exact mk_chain ..
@[simp] theorem State.setDmn_frz (s : State) (k : Nat) (x : Domain) : (s.setDmn k x).frz = s.frz := by unfold State.setDmn; exact mk_frz ..
@[simp] theorem State.setDmn_dbg (s : State) (k : Nat) (x : Domain) : (s.setDmn k x).dbg = s.dbg := by unfold State.setDmn; exact mk_dbg ..
@[simp] theorem State.setDmn_free (s : State) (k : Nat) (x : Domain) : (s.setDmn k x).free = s.free := by unfold State.setDmn; exact mk_free ..
@[simp] theorem State.setDmn_out (s : State) (k : Nat) (x : Domain) : (s.setDmn k x).out = s.out := by unfold State.setDmn; exact mk_out ..

@[simp] theorem State.setRg_pending (s : State) (n : RegName) (k j : Nat) (v : Word) (i : Nat) : (s.setRg n k j v i).pending = s.pending := by unfold State.setRg; exact mk_pending ..
@[simp] theorem State.setRg_ident (s : State) (n : RegName) (k j : Nat) (v : Word) (i : Nat) : (s.setRg n k j v i).ident = s.ident := by unfold State.setRg; exact mk_ident ..
@[simp] theorem State.setRg_straps (s : State) (n : RegName) (k j : Nat) (v : Word) (i : Nat) : (s.setRg n k j v i).straps = s.straps := by unfold State.setRg; exact mk_straps ..
@[simp] theorem State.setRg_fuses (s : State) (n : RegName) (k j : Nat) (v : Word) (i : Nat) : (s.setRg n k j v i).fuses = s.fuses := by unfold State.setRg; exact mk_fuses ..
@[simp] theorem State.setRg_time (s : State) (n : RegName) (k j : Nat) (v : Word) (i : Nat) : (s.setRg n k j v i).time = s.time := by unfold State.setRg; exact mk_time ..
@[simp] theorem State.setRg_wide (s : State) (n : RegName) (k j : Nat) (v : Word) (i : Nat) : (s.setRg n k j v i).wide = s.wide := by unfold State.setRg; exact mk_wide ..
@[simp] theorem State.setRg_rxAt (s : State) (n : RegName) (k j : Nat) (v : Word) (i : Nat) : (s.setRg n k j v i).rxAt = s.rxAt := by unfold State.setRg; exact mk_rxAt ..
@[simp] theorem State.setRg_priv (s : State) (n : RegName) (k j : Nat) (v : Word) (i : Nat) : (s.setRg n k j v i).priv = s.priv := by unfold State.setRg; exact mk_priv ..
@[simp] theorem State.setRg_latch (s : State) (n : RegName) (k j : Nat) (v : Word) (i : Nat) : (s.setRg n k j v i).latch = s.latch := by unfold State.setRg; exact mk_latch ..
@[simp] theorem State.setRg_dom (s : State) (n : RegName) (k j : Nat) (v : Word) (i : Nat) : (s.setRg n k j v i).dom = s.dom := by unfold State.setRg; exact mk_dom ..
@[simp] theorem State.setRg_reload (s : State) (n : RegName) (k j : Nat) (v : Word) (i : Nat) : (s.setRg n k j v i).reload = s.reload := by unfold State.setRg; exact mk_reload ..
@[simp] theorem State.setRg_clk (s : State) (n : RegName) (k j : Nat) (v : Word) (i : Nat) : (s.setRg n k j v i).clk = s.clk := by unfold State.setRg; exact mk_clk ..
@[simp] theorem State.setRg_ports (s : State) (n : RegName) (k j : Nat) (v : Word) (i : Nat) : (s.setRg n k j v i).ports = s.ports := by unfold State.setRg; exact mk_ports ..
@[simp] theorem State.setRg_cages (s : State) (n : RegName) (k j : Nat) (v : Word) (i : Nat) : (s.setRg n k j v i).cages = s.cages := by unfold State.setRg; exact mk_cages ..
@[simp] theorem State.setRg_buses (s : State) (n : RegName) (k j : Nat) (v : Word) (i : Nat) : (s.setRg n k j v i).buses = s.buses := by unfold State.setRg; exact mk_buses ..
@[simp] theorem State.setRg_groups (s : State) (n : RegName) (k j : Nat) (v : Word) (i : Nat) : (s.setRg n k j v i).groups = s.groups := by unfold State.setRg; exact mk_groups ..
@[simp] theorem State.setRg_pkts (s : State) (n : RegName) (k j : Nat) (v : Word) (i : Nat) : (s.setRg n k j v i).pkts = s.pkts := by unfold State.setRg; exact mk_pkts ..
@[simp] theorem State.setRg_nextPkt (s : State) (n : RegName) (k j : Nat) (v : Word) (i : Nat) : (s.setRg n k j v i).nextPkt = s.nextPkt := by unfold State.setRg; exact mk_nextPkt ..
@[simp] theorem State.setRg_reseq (s : State) (n : RegName) (k j : Nat) (v : Word) (i : Nat) : (s.setRg n k j v i).reseq = s.reseq := by unfold State.setRg; exact mk_reseq ..
@[simp] theorem State.setRg_clusters (s : State) (n : RegName) (k j : Nat) (v : Word) (i : Nat) : (s.setRg n k j v i).clusters = s.clusters := by unfold State.setRg; exact mk_clusters ..
@[simp] theorem State.setRg_threads (s : State) (n : RegName) (k j : Nat) (v : Word) (i : Nat) : (s.setRg n k j v i).threads = s.threads := by unfold State.setRg; exact mk_threads ..
@[simp] theorem State.setRg_cstore (s : State) (n : RegName) (k j : Nat) (v : Word) (i : Nat) : (s.setRg n k j v i).cstore = s.cstore := by unfold State.setRg; exact mk_cstore ..
@[simp] theorem State.setRg_img (s : State) (n : RegName) (k j : Nat) (v : Word) (i : Nat) : (s.setRg n k j v i).img = s.img := by unfold State.setRg; exact mk_img ..
@[simp] theorem State.setRg_tbl (s : State) (n : RegName) (k j : Nat) (v : Word) (i : Nat) : (s.setRg n k j v i).tbl = s.tbl := by unfold State.setRg; exact mk_tbl ..
@[simp] theorem State.setRg_cu (s : State) (n : RegName) (k j : Nat) (v : Word) (i : Nat) : (s.setRg n k j v i).cu = s.cu := by unfold State.setRg; exact mk_cu ..
@[simp] theorem State.setRg_epc (s : State) (n : RegName) (k j : Nat) (v : Word) (i : Nat) : (s.setRg n k j v i).epc = s.epc := by unfold State.setRg; exact mk_epc ..
@[simp] theorem State.setRg_buf (s : State) (n : RegName) (k j : Nat) (v : Word) (i : Nat) : (s.setRg n k j v i).buf = s.buf := by unfold State.setRg; exact mk_buf ..
@[simp] theorem State.setRg_sched (s : State) (n : RegName) (k j : Nat) (v : Word) (i : Nat) : (s.setRg n k j v i).sched = s.sched := by unfold State.setRg; exact mk_sched ..
@[simp] theorem State.setRg_led (s : State) (n : RegName) (k j : Nat) (v : Word) (i : Nat) : (s.setRg n k j v i).led = s.led := by unfold State.setRg; exact mk_led ..
@[simp] theorem State.setRg_tel (s : State) (n : RegName) (k j : Nat) (v : Word) (i : Nat) : (s.setRg n k j v i).tel = s.tel := by unfold State.setRg; exact mk_tel ..
@[simp] theorem State.setRg_hosts (s : State) (n : RegName) (k j : Nat) (v : Word) (i : Nat) : (s.setRg n k j v i).hosts = s.hosts := by unfold State.setRg; exact mk_hosts ..
@[simp] theorem State.setRg_rings (s : State) (n : RegName) (k j : Nat) (v : Word) (i : Nat) : (s.setRg n k j v i).rings = s.rings := by unfold State.setRg; exact mk_rings ..
@[simp] theorem State.setRg_dma (s : State) (n : RegName) (k j : Nat) (v : Word) (i : Nat) : (s.setRg n k j v i).dma = s.dma := by unfold State.setRg; exact mk_dma ..
@[simp] theorem State.setRg_dram (s : State) (n : RegName) (k j : Nat) (v : Word) (i : Nat) : (s.setRg n k j v i).dram = s.dram := by unfold State.setRg; exact mk_dram ..
@[simp] theorem State.setRg_flt (s : State) (n : RegName) (k j : Nat) (v : Word) (i : Nat) : (s.setRg n k j v i).flt = s.flt := by unfold State.setRg; exact mk_flt ..
@[simp] theorem State.setRg_chain (s : State) (n : RegName) (k j : Nat) (v : Word) (i : Nat) : (s.setRg n k j v i).chain = s.chain := by unfold State.setRg; exact mk_chain ..
@[simp] theorem State.setRg_frz (s : State) (n : RegName) (k j : Nat) (v : Word) (i : Nat) : (s.setRg n k j v i).frz = s.frz := by unfold State.setRg; exact mk_frz ..
@[simp] theorem State.setRg_dbg (s : State) (n : RegName) (k j : Nat) (v : Word) (i : Nat) : (s.setRg n k j v i).dbg = s.dbg := by unfold State.setRg; exact mk_dbg ..
@[simp] theorem State.setRg_free (s : State) (n : RegName) (k j : Nat) (v : Word) (i : Nat) : (s.setRg n k j v i).free = s.free := by unfold State.setRg; exact mk_free ..
@[simp] theorem State.setRg_out (s : State) (n : RegName) (k j : Nat) (v : Word) (i : Nat) : (s.setRg n k j v i).out = s.out := by unfold State.setRg; exact mk_out ..

@[simp] theorem State.orRg_pending (s : State) (n : RegName) (k j : Nat) (v : Word) : (s.orRg n k j v).pending = s.pending := by unfold State.orRg; exact State.setRg_pending ..
@[simp] theorem State.orRg_ident (s : State) (n : RegName) (k j : Nat) (v : Word) : (s.orRg n k j v).ident = s.ident := by unfold State.orRg; exact State.setRg_ident ..
@[simp] theorem State.orRg_straps (s : State) (n : RegName) (k j : Nat) (v : Word) : (s.orRg n k j v).straps = s.straps := by unfold State.orRg; exact State.setRg_straps ..
@[simp] theorem State.orRg_fuses (s : State) (n : RegName) (k j : Nat) (v : Word) : (s.orRg n k j v).fuses = s.fuses := by unfold State.orRg; exact State.setRg_fuses ..
@[simp] theorem State.orRg_time (s : State) (n : RegName) (k j : Nat) (v : Word) : (s.orRg n k j v).time = s.time := by unfold State.orRg; exact State.setRg_time ..
@[simp] theorem State.orRg_wide (s : State) (n : RegName) (k j : Nat) (v : Word) : (s.orRg n k j v).wide = s.wide := by unfold State.orRg; exact State.setRg_wide ..
@[simp] theorem State.orRg_rxAt (s : State) (n : RegName) (k j : Nat) (v : Word) : (s.orRg n k j v).rxAt = s.rxAt := by unfold State.orRg; exact State.setRg_rxAt ..
@[simp] theorem State.orRg_priv (s : State) (n : RegName) (k j : Nat) (v : Word) : (s.orRg n k j v).priv = s.priv := by unfold State.orRg; exact State.setRg_priv ..
@[simp] theorem State.orRg_latch (s : State) (n : RegName) (k j : Nat) (v : Word) : (s.orRg n k j v).latch = s.latch := by unfold State.orRg; exact State.setRg_latch ..
@[simp] theorem State.orRg_dom (s : State) (n : RegName) (k j : Nat) (v : Word) : (s.orRg n k j v).dom = s.dom := by unfold State.orRg; exact State.setRg_dom ..
@[simp] theorem State.orRg_reload (s : State) (n : RegName) (k j : Nat) (v : Word) : (s.orRg n k j v).reload = s.reload := by unfold State.orRg; exact State.setRg_reload ..
@[simp] theorem State.orRg_clk (s : State) (n : RegName) (k j : Nat) (v : Word) : (s.orRg n k j v).clk = s.clk := by unfold State.orRg; exact State.setRg_clk ..
@[simp] theorem State.orRg_ports (s : State) (n : RegName) (k j : Nat) (v : Word) : (s.orRg n k j v).ports = s.ports := by unfold State.orRg; exact State.setRg_ports ..
@[simp] theorem State.orRg_cages (s : State) (n : RegName) (k j : Nat) (v : Word) : (s.orRg n k j v).cages = s.cages := by unfold State.orRg; exact State.setRg_cages ..
@[simp] theorem State.orRg_buses (s : State) (n : RegName) (k j : Nat) (v : Word) : (s.orRg n k j v).buses = s.buses := by unfold State.orRg; exact State.setRg_buses ..
@[simp] theorem State.orRg_groups (s : State) (n : RegName) (k j : Nat) (v : Word) : (s.orRg n k j v).groups = s.groups := by unfold State.orRg; exact State.setRg_groups ..
@[simp] theorem State.orRg_pkts (s : State) (n : RegName) (k j : Nat) (v : Word) : (s.orRg n k j v).pkts = s.pkts := by unfold State.orRg; exact State.setRg_pkts ..
@[simp] theorem State.orRg_nextPkt (s : State) (n : RegName) (k j : Nat) (v : Word) : (s.orRg n k j v).nextPkt = s.nextPkt := by unfold State.orRg; exact State.setRg_nextPkt ..
@[simp] theorem State.orRg_reseq (s : State) (n : RegName) (k j : Nat) (v : Word) : (s.orRg n k j v).reseq = s.reseq := by unfold State.orRg; exact State.setRg_reseq ..
@[simp] theorem State.orRg_clusters (s : State) (n : RegName) (k j : Nat) (v : Word) : (s.orRg n k j v).clusters = s.clusters := by unfold State.orRg; exact State.setRg_clusters ..
@[simp] theorem State.orRg_threads (s : State) (n : RegName) (k j : Nat) (v : Word) : (s.orRg n k j v).threads = s.threads := by unfold State.orRg; exact State.setRg_threads ..
@[simp] theorem State.orRg_cstore (s : State) (n : RegName) (k j : Nat) (v : Word) : (s.orRg n k j v).cstore = s.cstore := by unfold State.orRg; exact State.setRg_cstore ..
@[simp] theorem State.orRg_img (s : State) (n : RegName) (k j : Nat) (v : Word) : (s.orRg n k j v).img = s.img := by unfold State.orRg; exact State.setRg_img ..
@[simp] theorem State.orRg_tbl (s : State) (n : RegName) (k j : Nat) (v : Word) : (s.orRg n k j v).tbl = s.tbl := by unfold State.orRg; exact State.setRg_tbl ..
@[simp] theorem State.orRg_cu (s : State) (n : RegName) (k j : Nat) (v : Word) : (s.orRg n k j v).cu = s.cu := by unfold State.orRg; exact State.setRg_cu ..
@[simp] theorem State.orRg_epc (s : State) (n : RegName) (k j : Nat) (v : Word) : (s.orRg n k j v).epc = s.epc := by unfold State.orRg; exact State.setRg_epc ..
@[simp] theorem State.orRg_buf (s : State) (n : RegName) (k j : Nat) (v : Word) : (s.orRg n k j v).buf = s.buf := by unfold State.orRg; exact State.setRg_buf ..
@[simp] theorem State.orRg_sched (s : State) (n : RegName) (k j : Nat) (v : Word) : (s.orRg n k j v).sched = s.sched := by unfold State.orRg; exact State.setRg_sched ..
@[simp] theorem State.orRg_led (s : State) (n : RegName) (k j : Nat) (v : Word) : (s.orRg n k j v).led = s.led := by unfold State.orRg; exact State.setRg_led ..
@[simp] theorem State.orRg_tel (s : State) (n : RegName) (k j : Nat) (v : Word) : (s.orRg n k j v).tel = s.tel := by unfold State.orRg; exact State.setRg_tel ..
@[simp] theorem State.orRg_hosts (s : State) (n : RegName) (k j : Nat) (v : Word) : (s.orRg n k j v).hosts = s.hosts := by unfold State.orRg; exact State.setRg_hosts ..
@[simp] theorem State.orRg_rings (s : State) (n : RegName) (k j : Nat) (v : Word) : (s.orRg n k j v).rings = s.rings := by unfold State.orRg; exact State.setRg_rings ..
@[simp] theorem State.orRg_dma (s : State) (n : RegName) (k j : Nat) (v : Word) : (s.orRg n k j v).dma = s.dma := by unfold State.orRg; exact State.setRg_dma ..
@[simp] theorem State.orRg_dram (s : State) (n : RegName) (k j : Nat) (v : Word) : (s.orRg n k j v).dram = s.dram := by unfold State.orRg; exact State.setRg_dram ..
@[simp] theorem State.orRg_flt (s : State) (n : RegName) (k j : Nat) (v : Word) : (s.orRg n k j v).flt = s.flt := by unfold State.orRg; exact State.setRg_flt ..
@[simp] theorem State.orRg_chain (s : State) (n : RegName) (k j : Nat) (v : Word) : (s.orRg n k j v).chain = s.chain := by unfold State.orRg; exact State.setRg_chain ..
@[simp] theorem State.orRg_frz (s : State) (n : RegName) (k j : Nat) (v : Word) : (s.orRg n k j v).frz = s.frz := by unfold State.orRg; exact State.setRg_frz ..
@[simp] theorem State.orRg_dbg (s : State) (n : RegName) (k j : Nat) (v : Word) : (s.orRg n k j v).dbg = s.dbg := by unfold State.orRg; exact State.setRg_dbg ..
@[simp] theorem State.orRg_free (s : State) (n : RegName) (k j : Nat) (v : Word) : (s.orRg n k j v).free = s.free := by unfold State.orRg; exact State.setRg_free ..
@[simp] theorem State.orRg_out (s : State) (n : RegName) (k j : Nat) (v : Word) : (s.orRg n k j v).out = s.out := by unfold State.orRg; exact State.setRg_out ..

@[simp] theorem State.bump_pending (s : State) (n : RegName) (k j c : Nat) : (s.bump n k j c).pending = s.pending := by unfold State.bump; exact State.setRg_pending ..
@[simp] theorem State.bump_ident (s : State) (n : RegName) (k j c : Nat) : (s.bump n k j c).ident = s.ident := by unfold State.bump; exact State.setRg_ident ..
@[simp] theorem State.bump_straps (s : State) (n : RegName) (k j c : Nat) : (s.bump n k j c).straps = s.straps := by unfold State.bump; exact State.setRg_straps ..
@[simp] theorem State.bump_fuses (s : State) (n : RegName) (k j c : Nat) : (s.bump n k j c).fuses = s.fuses := by unfold State.bump; exact State.setRg_fuses ..
@[simp] theorem State.bump_time (s : State) (n : RegName) (k j c : Nat) : (s.bump n k j c).time = s.time := by unfold State.bump; exact State.setRg_time ..
@[simp] theorem State.bump_wide (s : State) (n : RegName) (k j c : Nat) : (s.bump n k j c).wide = s.wide := by unfold State.bump; exact State.setRg_wide ..
@[simp] theorem State.bump_rxAt (s : State) (n : RegName) (k j c : Nat) : (s.bump n k j c).rxAt = s.rxAt := by unfold State.bump; exact State.setRg_rxAt ..
@[simp] theorem State.bump_priv (s : State) (n : RegName) (k j c : Nat) : (s.bump n k j c).priv = s.priv := by unfold State.bump; exact State.setRg_priv ..
@[simp] theorem State.bump_latch (s : State) (n : RegName) (k j c : Nat) : (s.bump n k j c).latch = s.latch := by unfold State.bump; exact State.setRg_latch ..
@[simp] theorem State.bump_dom (s : State) (n : RegName) (k j c : Nat) : (s.bump n k j c).dom = s.dom := by unfold State.bump; exact State.setRg_dom ..
@[simp] theorem State.bump_reload (s : State) (n : RegName) (k j c : Nat) : (s.bump n k j c).reload = s.reload := by unfold State.bump; exact State.setRg_reload ..
@[simp] theorem State.bump_clk (s : State) (n : RegName) (k j c : Nat) : (s.bump n k j c).clk = s.clk := by unfold State.bump; exact State.setRg_clk ..
@[simp] theorem State.bump_ports (s : State) (n : RegName) (k j c : Nat) : (s.bump n k j c).ports = s.ports := by unfold State.bump; exact State.setRg_ports ..
@[simp] theorem State.bump_cages (s : State) (n : RegName) (k j c : Nat) : (s.bump n k j c).cages = s.cages := by unfold State.bump; exact State.setRg_cages ..
@[simp] theorem State.bump_buses (s : State) (n : RegName) (k j c : Nat) : (s.bump n k j c).buses = s.buses := by unfold State.bump; exact State.setRg_buses ..
@[simp] theorem State.bump_groups (s : State) (n : RegName) (k j c : Nat) : (s.bump n k j c).groups = s.groups := by unfold State.bump; exact State.setRg_groups ..
@[simp] theorem State.bump_pkts (s : State) (n : RegName) (k j c : Nat) : (s.bump n k j c).pkts = s.pkts := by unfold State.bump; exact State.setRg_pkts ..
@[simp] theorem State.bump_nextPkt (s : State) (n : RegName) (k j c : Nat) : (s.bump n k j c).nextPkt = s.nextPkt := by unfold State.bump; exact State.setRg_nextPkt ..
@[simp] theorem State.bump_reseq (s : State) (n : RegName) (k j c : Nat) : (s.bump n k j c).reseq = s.reseq := by unfold State.bump; exact State.setRg_reseq ..
@[simp] theorem State.bump_clusters (s : State) (n : RegName) (k j c : Nat) : (s.bump n k j c).clusters = s.clusters := by unfold State.bump; exact State.setRg_clusters ..
@[simp] theorem State.bump_threads (s : State) (n : RegName) (k j c : Nat) : (s.bump n k j c).threads = s.threads := by unfold State.bump; exact State.setRg_threads ..
@[simp] theorem State.bump_cstore (s : State) (n : RegName) (k j c : Nat) : (s.bump n k j c).cstore = s.cstore := by unfold State.bump; exact State.setRg_cstore ..
@[simp] theorem State.bump_img (s : State) (n : RegName) (k j c : Nat) : (s.bump n k j c).img = s.img := by unfold State.bump; exact State.setRg_img ..
@[simp] theorem State.bump_tbl (s : State) (n : RegName) (k j c : Nat) : (s.bump n k j c).tbl = s.tbl := by unfold State.bump; exact State.setRg_tbl ..
@[simp] theorem State.bump_cu (s : State) (n : RegName) (k j c : Nat) : (s.bump n k j c).cu = s.cu := by unfold State.bump; exact State.setRg_cu ..
@[simp] theorem State.bump_epc (s : State) (n : RegName) (k j c : Nat) : (s.bump n k j c).epc = s.epc := by unfold State.bump; exact State.setRg_epc ..
@[simp] theorem State.bump_buf (s : State) (n : RegName) (k j c : Nat) : (s.bump n k j c).buf = s.buf := by unfold State.bump; exact State.setRg_buf ..
@[simp] theorem State.bump_sched (s : State) (n : RegName) (k j c : Nat) : (s.bump n k j c).sched = s.sched := by unfold State.bump; exact State.setRg_sched ..
@[simp] theorem State.bump_led (s : State) (n : RegName) (k j c : Nat) : (s.bump n k j c).led = s.led := by unfold State.bump; exact State.setRg_led ..
@[simp] theorem State.bump_tel (s : State) (n : RegName) (k j c : Nat) : (s.bump n k j c).tel = s.tel := by unfold State.bump; exact State.setRg_tel ..
@[simp] theorem State.bump_hosts (s : State) (n : RegName) (k j c : Nat) : (s.bump n k j c).hosts = s.hosts := by unfold State.bump; exact State.setRg_hosts ..
@[simp] theorem State.bump_rings (s : State) (n : RegName) (k j c : Nat) : (s.bump n k j c).rings = s.rings := by unfold State.bump; exact State.setRg_rings ..
@[simp] theorem State.bump_dma (s : State) (n : RegName) (k j c : Nat) : (s.bump n k j c).dma = s.dma := by unfold State.bump; exact State.setRg_dma ..
@[simp] theorem State.bump_dram (s : State) (n : RegName) (k j c : Nat) : (s.bump n k j c).dram = s.dram := by unfold State.bump; exact State.setRg_dram ..
@[simp] theorem State.bump_flt (s : State) (n : RegName) (k j c : Nat) : (s.bump n k j c).flt = s.flt := by unfold State.bump; exact State.setRg_flt ..
@[simp] theorem State.bump_chain (s : State) (n : RegName) (k j c : Nat) : (s.bump n k j c).chain = s.chain := by unfold State.bump; exact State.setRg_chain ..
@[simp] theorem State.bump_frz (s : State) (n : RegName) (k j c : Nat) : (s.bump n k j c).frz = s.frz := by unfold State.bump; exact State.setRg_frz ..
@[simp] theorem State.bump_dbg (s : State) (n : RegName) (k j c : Nat) : (s.bump n k j c).dbg = s.dbg := by unfold State.bump; exact State.setRg_dbg ..
@[simp] theorem State.bump_free (s : State) (n : RegName) (k j c : Nat) : (s.bump n k j c).free = s.free := by unfold State.bump; exact State.setRg_free ..
@[simp] theorem State.bump_out (s : State) (n : RegName) (k j c : Nat) : (s.bump n k j c).out = s.out := by unfold State.bump; exact State.setRg_out ..

@[simp] theorem State.bumpHigh_pending (s : State) (n : RegName) (k j : Nat) : (s.bumpHigh n k j).pending = s.pending := by unfold State.bumpHigh; exact State.setRg_pending ..
@[simp] theorem State.bumpHigh_ident (s : State) (n : RegName) (k j : Nat) : (s.bumpHigh n k j).ident = s.ident := by unfold State.bumpHigh; exact State.setRg_ident ..
@[simp] theorem State.bumpHigh_straps (s : State) (n : RegName) (k j : Nat) : (s.bumpHigh n k j).straps = s.straps := by unfold State.bumpHigh; exact State.setRg_straps ..
@[simp] theorem State.bumpHigh_fuses (s : State) (n : RegName) (k j : Nat) : (s.bumpHigh n k j).fuses = s.fuses := by unfold State.bumpHigh; exact State.setRg_fuses ..
@[simp] theorem State.bumpHigh_time (s : State) (n : RegName) (k j : Nat) : (s.bumpHigh n k j).time = s.time := by unfold State.bumpHigh; exact State.setRg_time ..
@[simp] theorem State.bumpHigh_wide (s : State) (n : RegName) (k j : Nat) : (s.bumpHigh n k j).wide = s.wide := by unfold State.bumpHigh; exact State.setRg_wide ..
@[simp] theorem State.bumpHigh_rxAt (s : State) (n : RegName) (k j : Nat) : (s.bumpHigh n k j).rxAt = s.rxAt := by unfold State.bumpHigh; exact State.setRg_rxAt ..
@[simp] theorem State.bumpHigh_priv (s : State) (n : RegName) (k j : Nat) : (s.bumpHigh n k j).priv = s.priv := by unfold State.bumpHigh; exact State.setRg_priv ..
@[simp] theorem State.bumpHigh_latch (s : State) (n : RegName) (k j : Nat) : (s.bumpHigh n k j).latch = s.latch := by unfold State.bumpHigh; exact State.setRg_latch ..
@[simp] theorem State.bumpHigh_dom (s : State) (n : RegName) (k j : Nat) : (s.bumpHigh n k j).dom = s.dom := by unfold State.bumpHigh; exact State.setRg_dom ..
@[simp] theorem State.bumpHigh_reload (s : State) (n : RegName) (k j : Nat) : (s.bumpHigh n k j).reload = s.reload := by unfold State.bumpHigh; exact State.setRg_reload ..
@[simp] theorem State.bumpHigh_clk (s : State) (n : RegName) (k j : Nat) : (s.bumpHigh n k j).clk = s.clk := by unfold State.bumpHigh; exact State.setRg_clk ..
@[simp] theorem State.bumpHigh_ports (s : State) (n : RegName) (k j : Nat) : (s.bumpHigh n k j).ports = s.ports := by unfold State.bumpHigh; exact State.setRg_ports ..
@[simp] theorem State.bumpHigh_cages (s : State) (n : RegName) (k j : Nat) : (s.bumpHigh n k j).cages = s.cages := by unfold State.bumpHigh; exact State.setRg_cages ..
@[simp] theorem State.bumpHigh_buses (s : State) (n : RegName) (k j : Nat) : (s.bumpHigh n k j).buses = s.buses := by unfold State.bumpHigh; exact State.setRg_buses ..
@[simp] theorem State.bumpHigh_groups (s : State) (n : RegName) (k j : Nat) : (s.bumpHigh n k j).groups = s.groups := by unfold State.bumpHigh; exact State.setRg_groups ..
@[simp] theorem State.bumpHigh_pkts (s : State) (n : RegName) (k j : Nat) : (s.bumpHigh n k j).pkts = s.pkts := by unfold State.bumpHigh; exact State.setRg_pkts ..
@[simp] theorem State.bumpHigh_nextPkt (s : State) (n : RegName) (k j : Nat) : (s.bumpHigh n k j).nextPkt = s.nextPkt := by unfold State.bumpHigh; exact State.setRg_nextPkt ..
@[simp] theorem State.bumpHigh_reseq (s : State) (n : RegName) (k j : Nat) : (s.bumpHigh n k j).reseq = s.reseq := by unfold State.bumpHigh; exact State.setRg_reseq ..
@[simp] theorem State.bumpHigh_clusters (s : State) (n : RegName) (k j : Nat) : (s.bumpHigh n k j).clusters = s.clusters := by unfold State.bumpHigh; exact State.setRg_clusters ..
@[simp] theorem State.bumpHigh_threads (s : State) (n : RegName) (k j : Nat) : (s.bumpHigh n k j).threads = s.threads := by unfold State.bumpHigh; exact State.setRg_threads ..
@[simp] theorem State.bumpHigh_cstore (s : State) (n : RegName) (k j : Nat) : (s.bumpHigh n k j).cstore = s.cstore := by unfold State.bumpHigh; exact State.setRg_cstore ..
@[simp] theorem State.bumpHigh_img (s : State) (n : RegName) (k j : Nat) : (s.bumpHigh n k j).img = s.img := by unfold State.bumpHigh; exact State.setRg_img ..
@[simp] theorem State.bumpHigh_tbl (s : State) (n : RegName) (k j : Nat) : (s.bumpHigh n k j).tbl = s.tbl := by unfold State.bumpHigh; exact State.setRg_tbl ..
@[simp] theorem State.bumpHigh_cu (s : State) (n : RegName) (k j : Nat) : (s.bumpHigh n k j).cu = s.cu := by unfold State.bumpHigh; exact State.setRg_cu ..
@[simp] theorem State.bumpHigh_epc (s : State) (n : RegName) (k j : Nat) : (s.bumpHigh n k j).epc = s.epc := by unfold State.bumpHigh; exact State.setRg_epc ..
@[simp] theorem State.bumpHigh_buf (s : State) (n : RegName) (k j : Nat) : (s.bumpHigh n k j).buf = s.buf := by unfold State.bumpHigh; exact State.setRg_buf ..
@[simp] theorem State.bumpHigh_sched (s : State) (n : RegName) (k j : Nat) : (s.bumpHigh n k j).sched = s.sched := by unfold State.bumpHigh; exact State.setRg_sched ..
@[simp] theorem State.bumpHigh_led (s : State) (n : RegName) (k j : Nat) : (s.bumpHigh n k j).led = s.led := by unfold State.bumpHigh; exact State.setRg_led ..
@[simp] theorem State.bumpHigh_tel (s : State) (n : RegName) (k j : Nat) : (s.bumpHigh n k j).tel = s.tel := by unfold State.bumpHigh; exact State.setRg_tel ..
@[simp] theorem State.bumpHigh_hosts (s : State) (n : RegName) (k j : Nat) : (s.bumpHigh n k j).hosts = s.hosts := by unfold State.bumpHigh; exact State.setRg_hosts ..
@[simp] theorem State.bumpHigh_rings (s : State) (n : RegName) (k j : Nat) : (s.bumpHigh n k j).rings = s.rings := by unfold State.bumpHigh; exact State.setRg_rings ..
@[simp] theorem State.bumpHigh_dma (s : State) (n : RegName) (k j : Nat) : (s.bumpHigh n k j).dma = s.dma := by unfold State.bumpHigh; exact State.setRg_dma ..
@[simp] theorem State.bumpHigh_dram (s : State) (n : RegName) (k j : Nat) : (s.bumpHigh n k j).dram = s.dram := by unfold State.bumpHigh; exact State.setRg_dram ..
@[simp] theorem State.bumpHigh_flt (s : State) (n : RegName) (k j : Nat) : (s.bumpHigh n k j).flt = s.flt := by unfold State.bumpHigh; exact State.setRg_flt ..
@[simp] theorem State.bumpHigh_chain (s : State) (n : RegName) (k j : Nat) : (s.bumpHigh n k j).chain = s.chain := by unfold State.bumpHigh; exact State.setRg_chain ..
@[simp] theorem State.bumpHigh_frz (s : State) (n : RegName) (k j : Nat) : (s.bumpHigh n k j).frz = s.frz := by unfold State.bumpHigh; exact State.setRg_frz ..
@[simp] theorem State.bumpHigh_dbg (s : State) (n : RegName) (k j : Nat) : (s.bumpHigh n k j).dbg = s.dbg := by unfold State.bumpHigh; exact State.setRg_dbg ..
@[simp] theorem State.bumpHigh_free (s : State) (n : RegName) (k j : Nat) : (s.bumpHigh n k j).free = s.free := by unfold State.bumpHigh; exact State.setRg_free ..
@[simp] theorem State.bumpHigh_out (s : State) (n : RegName) (k j : Nat) : (s.bumpHigh n k j).out = s.out := by unfold State.bumpHigh; exact State.setRg_out ..

@[simp] theorem State.addCtr_pending (s : State) (n : RegName) (k j c : Nat) : (s.addCtr n k j c).pending = s.pending := by unfold State.addCtr; exact mk_pending ..
@[simp] theorem State.addCtr_ident (s : State) (n : RegName) (k j c : Nat) : (s.addCtr n k j c).ident = s.ident := by unfold State.addCtr; exact mk_ident ..
@[simp] theorem State.addCtr_straps (s : State) (n : RegName) (k j c : Nat) : (s.addCtr n k j c).straps = s.straps := by unfold State.addCtr; exact mk_straps ..
@[simp] theorem State.addCtr_fuses (s : State) (n : RegName) (k j c : Nat) : (s.addCtr n k j c).fuses = s.fuses := by unfold State.addCtr; exact mk_fuses ..
@[simp] theorem State.addCtr_time (s : State) (n : RegName) (k j c : Nat) : (s.addCtr n k j c).time = s.time := by unfold State.addCtr; exact mk_time ..
@[simp] theorem State.addCtr_held (s : State) (n : RegName) (k j c : Nat) : (s.addCtr n k j c).held = s.held := by unfold State.addCtr; exact mk_held ..
@[simp] theorem State.addCtr_rxAt (s : State) (n : RegName) (k j c : Nat) : (s.addCtr n k j c).rxAt = s.rxAt := by unfold State.addCtr; exact mk_rxAt ..
@[simp] theorem State.addCtr_priv (s : State) (n : RegName) (k j c : Nat) : (s.addCtr n k j c).priv = s.priv := by unfold State.addCtr; exact mk_priv ..
@[simp] theorem State.addCtr_latch (s : State) (n : RegName) (k j c : Nat) : (s.addCtr n k j c).latch = s.latch := by unfold State.addCtr; exact mk_latch ..
@[simp] theorem State.addCtr_dom (s : State) (n : RegName) (k j c : Nat) : (s.addCtr n k j c).dom = s.dom := by unfold State.addCtr; exact mk_dom ..
@[simp] theorem State.addCtr_reload (s : State) (n : RegName) (k j c : Nat) : (s.addCtr n k j c).reload = s.reload := by unfold State.addCtr; exact mk_reload ..
@[simp] theorem State.addCtr_clk (s : State) (n : RegName) (k j c : Nat) : (s.addCtr n k j c).clk = s.clk := by unfold State.addCtr; exact mk_clk ..
@[simp] theorem State.addCtr_ports (s : State) (n : RegName) (k j c : Nat) : (s.addCtr n k j c).ports = s.ports := by unfold State.addCtr; exact mk_ports ..
@[simp] theorem State.addCtr_cages (s : State) (n : RegName) (k j c : Nat) : (s.addCtr n k j c).cages = s.cages := by unfold State.addCtr; exact mk_cages ..
@[simp] theorem State.addCtr_buses (s : State) (n : RegName) (k j c : Nat) : (s.addCtr n k j c).buses = s.buses := by unfold State.addCtr; exact mk_buses ..
@[simp] theorem State.addCtr_groups (s : State) (n : RegName) (k j c : Nat) : (s.addCtr n k j c).groups = s.groups := by unfold State.addCtr; exact mk_groups ..
@[simp] theorem State.addCtr_pkts (s : State) (n : RegName) (k j c : Nat) : (s.addCtr n k j c).pkts = s.pkts := by unfold State.addCtr; exact mk_pkts ..
@[simp] theorem State.addCtr_nextPkt (s : State) (n : RegName) (k j c : Nat) : (s.addCtr n k j c).nextPkt = s.nextPkt := by unfold State.addCtr; exact mk_nextPkt ..
@[simp] theorem State.addCtr_reseq (s : State) (n : RegName) (k j c : Nat) : (s.addCtr n k j c).reseq = s.reseq := by unfold State.addCtr; exact mk_reseq ..
@[simp] theorem State.addCtr_clusters (s : State) (n : RegName) (k j c : Nat) : (s.addCtr n k j c).clusters = s.clusters := by unfold State.addCtr; exact mk_clusters ..
@[simp] theorem State.addCtr_threads (s : State) (n : RegName) (k j c : Nat) : (s.addCtr n k j c).threads = s.threads := by unfold State.addCtr; exact mk_threads ..
@[simp] theorem State.addCtr_cstore (s : State) (n : RegName) (k j c : Nat) : (s.addCtr n k j c).cstore = s.cstore := by unfold State.addCtr; exact mk_cstore ..
@[simp] theorem State.addCtr_img (s : State) (n : RegName) (k j c : Nat) : (s.addCtr n k j c).img = s.img := by unfold State.addCtr; exact mk_img ..
@[simp] theorem State.addCtr_tbl (s : State) (n : RegName) (k j c : Nat) : (s.addCtr n k j c).tbl = s.tbl := by unfold State.addCtr; exact mk_tbl ..
@[simp] theorem State.addCtr_cu (s : State) (n : RegName) (k j c : Nat) : (s.addCtr n k j c).cu = s.cu := by unfold State.addCtr; exact mk_cu ..
@[simp] theorem State.addCtr_epc (s : State) (n : RegName) (k j c : Nat) : (s.addCtr n k j c).epc = s.epc := by unfold State.addCtr; exact mk_epc ..
@[simp] theorem State.addCtr_buf (s : State) (n : RegName) (k j c : Nat) : (s.addCtr n k j c).buf = s.buf := by unfold State.addCtr; exact mk_buf ..
@[simp] theorem State.addCtr_sched (s : State) (n : RegName) (k j c : Nat) : (s.addCtr n k j c).sched = s.sched := by unfold State.addCtr; exact mk_sched ..
@[simp] theorem State.addCtr_led (s : State) (n : RegName) (k j c : Nat) : (s.addCtr n k j c).led = s.led := by unfold State.addCtr; exact mk_led ..
@[simp] theorem State.addCtr_tel (s : State) (n : RegName) (k j c : Nat) : (s.addCtr n k j c).tel = s.tel := by unfold State.addCtr; exact mk_tel ..
@[simp] theorem State.addCtr_hosts (s : State) (n : RegName) (k j c : Nat) : (s.addCtr n k j c).hosts = s.hosts := by unfold State.addCtr; exact mk_hosts ..
@[simp] theorem State.addCtr_rings (s : State) (n : RegName) (k j c : Nat) : (s.addCtr n k j c).rings = s.rings := by unfold State.addCtr; exact mk_rings ..
@[simp] theorem State.addCtr_dma (s : State) (n : RegName) (k j c : Nat) : (s.addCtr n k j c).dma = s.dma := by unfold State.addCtr; exact mk_dma ..
@[simp] theorem State.addCtr_dram (s : State) (n : RegName) (k j c : Nat) : (s.addCtr n k j c).dram = s.dram := by unfold State.addCtr; exact mk_dram ..
@[simp] theorem State.addCtr_flt (s : State) (n : RegName) (k j c : Nat) : (s.addCtr n k j c).flt = s.flt := by unfold State.addCtr; exact mk_flt ..
@[simp] theorem State.addCtr_chain (s : State) (n : RegName) (k j c : Nat) : (s.addCtr n k j c).chain = s.chain := by unfold State.addCtr; exact mk_chain ..
@[simp] theorem State.addCtr_frz (s : State) (n : RegName) (k j c : Nat) : (s.addCtr n k j c).frz = s.frz := by unfold State.addCtr; exact mk_frz ..
@[simp] theorem State.addCtr_dbg (s : State) (n : RegName) (k j c : Nat) : (s.addCtr n k j c).dbg = s.dbg := by unfold State.addCtr; exact mk_dbg ..
@[simp] theorem State.addCtr_free (s : State) (n : RegName) (k j c : Nat) : (s.addCtr n k j c).free = s.free := by unfold State.addCtr; exact mk_free ..
@[simp] theorem State.addCtr_out (s : State) (n : RegName) (k j c : Nat) : (s.addCtr n k j c).out = s.out := by unfold State.addCtr; exact mk_out ..

@[simp] theorem State.setPv_pending (s : State) (r : Req) (a : Nat) (v : Word) : (s.setPv r a v).pending = s.pending := by unfold State.setPv; exact mk_pending ..
@[simp] theorem State.setPv_ident (s : State) (r : Req) (a : Nat) (v : Word) : (s.setPv r a v).ident = s.ident := by unfold State.setPv; exact mk_ident ..
@[simp] theorem State.setPv_straps (s : State) (r : Req) (a : Nat) (v : Word) : (s.setPv r a v).straps = s.straps := by unfold State.setPv; exact mk_straps ..
@[simp] theorem State.setPv_fuses (s : State) (r : Req) (a : Nat) (v : Word) : (s.setPv r a v).fuses = s.fuses := by unfold State.setPv; exact mk_fuses ..
@[simp] theorem State.setPv_time (s : State) (r : Req) (a : Nat) (v : Word) : (s.setPv r a v).time = s.time := by unfold State.setPv; exact mk_time ..
@[simp] theorem State.setPv_held (s : State) (r : Req) (a : Nat) (v : Word) : (s.setPv r a v).held = s.held := by unfold State.setPv; exact mk_held ..
@[simp] theorem State.setPv_wide (s : State) (r : Req) (a : Nat) (v : Word) : (s.setPv r a v).wide = s.wide := by unfold State.setPv; exact mk_wide ..
@[simp] theorem State.setPv_rxAt (s : State) (r : Req) (a : Nat) (v : Word) : (s.setPv r a v).rxAt = s.rxAt := by unfold State.setPv; exact mk_rxAt ..
@[simp] theorem State.setPv_latch (s : State) (r : Req) (a : Nat) (v : Word) : (s.setPv r a v).latch = s.latch := by unfold State.setPv; exact mk_latch ..
@[simp] theorem State.setPv_dom (s : State) (r : Req) (a : Nat) (v : Word) : (s.setPv r a v).dom = s.dom := by unfold State.setPv; exact mk_dom ..
@[simp] theorem State.setPv_reload (s : State) (r : Req) (a : Nat) (v : Word) : (s.setPv r a v).reload = s.reload := by unfold State.setPv; exact mk_reload ..
@[simp] theorem State.setPv_clk (s : State) (r : Req) (a : Nat) (v : Word) : (s.setPv r a v).clk = s.clk := by unfold State.setPv; exact mk_clk ..
@[simp] theorem State.setPv_ports (s : State) (r : Req) (a : Nat) (v : Word) : (s.setPv r a v).ports = s.ports := by unfold State.setPv; exact mk_ports ..
@[simp] theorem State.setPv_cages (s : State) (r : Req) (a : Nat) (v : Word) : (s.setPv r a v).cages = s.cages := by unfold State.setPv; exact mk_cages ..
@[simp] theorem State.setPv_buses (s : State) (r : Req) (a : Nat) (v : Word) : (s.setPv r a v).buses = s.buses := by unfold State.setPv; exact mk_buses ..
@[simp] theorem State.setPv_groups (s : State) (r : Req) (a : Nat) (v : Word) : (s.setPv r a v).groups = s.groups := by unfold State.setPv; exact mk_groups ..
@[simp] theorem State.setPv_pkts (s : State) (r : Req) (a : Nat) (v : Word) : (s.setPv r a v).pkts = s.pkts := by unfold State.setPv; exact mk_pkts ..
@[simp] theorem State.setPv_nextPkt (s : State) (r : Req) (a : Nat) (v : Word) : (s.setPv r a v).nextPkt = s.nextPkt := by unfold State.setPv; exact mk_nextPkt ..
@[simp] theorem State.setPv_reseq (s : State) (r : Req) (a : Nat) (v : Word) : (s.setPv r a v).reseq = s.reseq := by unfold State.setPv; exact mk_reseq ..
@[simp] theorem State.setPv_clusters (s : State) (r : Req) (a : Nat) (v : Word) : (s.setPv r a v).clusters = s.clusters := by unfold State.setPv; exact mk_clusters ..
@[simp] theorem State.setPv_threads (s : State) (r : Req) (a : Nat) (v : Word) : (s.setPv r a v).threads = s.threads := by unfold State.setPv; exact mk_threads ..
@[simp] theorem State.setPv_cstore (s : State) (r : Req) (a : Nat) (v : Word) : (s.setPv r a v).cstore = s.cstore := by unfold State.setPv; exact mk_cstore ..
@[simp] theorem State.setPv_img (s : State) (r : Req) (a : Nat) (v : Word) : (s.setPv r a v).img = s.img := by unfold State.setPv; exact mk_img ..
@[simp] theorem State.setPv_tbl (s : State) (r : Req) (a : Nat) (v : Word) : (s.setPv r a v).tbl = s.tbl := by unfold State.setPv; exact mk_tbl ..
@[simp] theorem State.setPv_cu (s : State) (r : Req) (a : Nat) (v : Word) : (s.setPv r a v).cu = s.cu := by unfold State.setPv; exact mk_cu ..
@[simp] theorem State.setPv_epc (s : State) (r : Req) (a : Nat) (v : Word) : (s.setPv r a v).epc = s.epc := by unfold State.setPv; exact mk_epc ..
@[simp] theorem State.setPv_buf (s : State) (r : Req) (a : Nat) (v : Word) : (s.setPv r a v).buf = s.buf := by unfold State.setPv; exact mk_buf ..
@[simp] theorem State.setPv_sched (s : State) (r : Req) (a : Nat) (v : Word) : (s.setPv r a v).sched = s.sched := by unfold State.setPv; exact mk_sched ..
@[simp] theorem State.setPv_led (s : State) (r : Req) (a : Nat) (v : Word) : (s.setPv r a v).led = s.led := by unfold State.setPv; exact mk_led ..
@[simp] theorem State.setPv_tel (s : State) (r : Req) (a : Nat) (v : Word) : (s.setPv r a v).tel = s.tel := by unfold State.setPv; exact mk_tel ..
@[simp] theorem State.setPv_hosts (s : State) (r : Req) (a : Nat) (v : Word) : (s.setPv r a v).hosts = s.hosts := by unfold State.setPv; exact mk_hosts ..
@[simp] theorem State.setPv_rings (s : State) (r : Req) (a : Nat) (v : Word) : (s.setPv r a v).rings = s.rings := by unfold State.setPv; exact mk_rings ..
@[simp] theorem State.setPv_dma (s : State) (r : Req) (a : Nat) (v : Word) : (s.setPv r a v).dma = s.dma := by unfold State.setPv; exact mk_dma ..
@[simp] theorem State.setPv_dram (s : State) (r : Req) (a : Nat) (v : Word) : (s.setPv r a v).dram = s.dram := by unfold State.setPv; exact mk_dram ..
@[simp] theorem State.setPv_flt (s : State) (r : Req) (a : Nat) (v : Word) : (s.setPv r a v).flt = s.flt := by unfold State.setPv; exact mk_flt ..
@[simp] theorem State.setPv_chain (s : State) (r : Req) (a : Nat) (v : Word) : (s.setPv r a v).chain = s.chain := by unfold State.setPv; exact mk_chain ..
@[simp] theorem State.setPv_frz (s : State) (r : Req) (a : Nat) (v : Word) : (s.setPv r a v).frz = s.frz := by unfold State.setPv; exact mk_frz ..
@[simp] theorem State.setPv_dbg (s : State) (r : Req) (a : Nat) (v : Word) : (s.setPv r a v).dbg = s.dbg := by unfold State.setPv; exact mk_dbg ..
@[simp] theorem State.setPv_free (s : State) (r : Req) (a : Nat) (v : Word) : (s.setPv r a v).free = s.free := by unfold State.setPv; exact mk_free ..
@[simp] theorem State.setPv_out (s : State) (r : Req) (a : Nat) (v : Word) : (s.setPv r a v).out = s.out := by unfold State.setPv; exact mk_out ..

@[simp] theorem State.emit_pending (s : State) (o : Out) : (s.emit o).pending = s.pending := by unfold State.emit; exact mk_pending ..
@[simp] theorem State.emit_ident (s : State) (o : Out) : (s.emit o).ident = s.ident := by unfold State.emit; exact mk_ident ..
@[simp] theorem State.emit_straps (s : State) (o : Out) : (s.emit o).straps = s.straps := by unfold State.emit; exact mk_straps ..
@[simp] theorem State.emit_fuses (s : State) (o : Out) : (s.emit o).fuses = s.fuses := by unfold State.emit; exact mk_fuses ..
@[simp] theorem State.emit_time (s : State) (o : Out) : (s.emit o).time = s.time := by unfold State.emit; exact mk_time ..
@[simp] theorem State.emit_held (s : State) (o : Out) : (s.emit o).held = s.held := by unfold State.emit; exact mk_held ..
@[simp] theorem State.emit_wide (s : State) (o : Out) : (s.emit o).wide = s.wide := by unfold State.emit; exact mk_wide ..
@[simp] theorem State.emit_rxAt (s : State) (o : Out) : (s.emit o).rxAt = s.rxAt := by unfold State.emit; exact mk_rxAt ..
@[simp] theorem State.emit_priv (s : State) (o : Out) : (s.emit o).priv = s.priv := by unfold State.emit; exact mk_priv ..
@[simp] theorem State.emit_latch (s : State) (o : Out) : (s.emit o).latch = s.latch := by unfold State.emit; exact mk_latch ..
@[simp] theorem State.emit_dom (s : State) (o : Out) : (s.emit o).dom = s.dom := by unfold State.emit; exact mk_dom ..
@[simp] theorem State.emit_reload (s : State) (o : Out) : (s.emit o).reload = s.reload := by unfold State.emit; exact mk_reload ..
@[simp] theorem State.emit_clk (s : State) (o : Out) : (s.emit o).clk = s.clk := by unfold State.emit; exact mk_clk ..
@[simp] theorem State.emit_ports (s : State) (o : Out) : (s.emit o).ports = s.ports := by unfold State.emit; exact mk_ports ..
@[simp] theorem State.emit_cages (s : State) (o : Out) : (s.emit o).cages = s.cages := by unfold State.emit; exact mk_cages ..
@[simp] theorem State.emit_buses (s : State) (o : Out) : (s.emit o).buses = s.buses := by unfold State.emit; exact mk_buses ..
@[simp] theorem State.emit_groups (s : State) (o : Out) : (s.emit o).groups = s.groups := by unfold State.emit; exact mk_groups ..
@[simp] theorem State.emit_pkts (s : State) (o : Out) : (s.emit o).pkts = s.pkts := by unfold State.emit; exact mk_pkts ..
@[simp] theorem State.emit_nextPkt (s : State) (o : Out) : (s.emit o).nextPkt = s.nextPkt := by unfold State.emit; exact mk_nextPkt ..
@[simp] theorem State.emit_reseq (s : State) (o : Out) : (s.emit o).reseq = s.reseq := by unfold State.emit; exact mk_reseq ..
@[simp] theorem State.emit_clusters (s : State) (o : Out) : (s.emit o).clusters = s.clusters := by unfold State.emit; exact mk_clusters ..
@[simp] theorem State.emit_threads (s : State) (o : Out) : (s.emit o).threads = s.threads := by unfold State.emit; exact mk_threads ..
@[simp] theorem State.emit_cstore (s : State) (o : Out) : (s.emit o).cstore = s.cstore := by unfold State.emit; exact mk_cstore ..
@[simp] theorem State.emit_img (s : State) (o : Out) : (s.emit o).img = s.img := by unfold State.emit; exact mk_img ..
@[simp] theorem State.emit_tbl (s : State) (o : Out) : (s.emit o).tbl = s.tbl := by unfold State.emit; exact mk_tbl ..
@[simp] theorem State.emit_cu (s : State) (o : Out) : (s.emit o).cu = s.cu := by unfold State.emit; exact mk_cu ..
@[simp] theorem State.emit_epc (s : State) (o : Out) : (s.emit o).epc = s.epc := by unfold State.emit; exact mk_epc ..
@[simp] theorem State.emit_buf (s : State) (o : Out) : (s.emit o).buf = s.buf := by unfold State.emit; exact mk_buf ..
@[simp] theorem State.emit_sched (s : State) (o : Out) : (s.emit o).sched = s.sched := by unfold State.emit; exact mk_sched ..
@[simp] theorem State.emit_led (s : State) (o : Out) : (s.emit o).led = s.led := by unfold State.emit; exact mk_led ..
@[simp] theorem State.emit_tel (s : State) (o : Out) : (s.emit o).tel = s.tel := by unfold State.emit; exact mk_tel ..
@[simp] theorem State.emit_hosts (s : State) (o : Out) : (s.emit o).hosts = s.hosts := by unfold State.emit; exact mk_hosts ..
@[simp] theorem State.emit_rings (s : State) (o : Out) : (s.emit o).rings = s.rings := by unfold State.emit; exact mk_rings ..
@[simp] theorem State.emit_dma (s : State) (o : Out) : (s.emit o).dma = s.dma := by unfold State.emit; exact mk_dma ..
@[simp] theorem State.emit_dram (s : State) (o : Out) : (s.emit o).dram = s.dram := by unfold State.emit; exact mk_dram ..
@[simp] theorem State.emit_flt (s : State) (o : Out) : (s.emit o).flt = s.flt := by unfold State.emit; exact mk_flt ..
@[simp] theorem State.emit_chain (s : State) (o : Out) : (s.emit o).chain = s.chain := by unfold State.emit; exact mk_chain ..
@[simp] theorem State.emit_frz (s : State) (o : Out) : (s.emit o).frz = s.frz := by unfold State.emit; exact mk_frz ..
@[simp] theorem State.emit_dbg (s : State) (o : Out) : (s.emit o).dbg = s.dbg := by unfold State.emit; exact mk_dbg ..
@[simp] theorem State.emit_free (s : State) (o : Out) : (s.emit o).free = s.free := by unfold State.emit; exact mk_free ..

@[simp] theorem State.setPort_pending (s : State) (lp : Nat) (x : SubPort) : (s.setPort lp x).pending = s.pending := by unfold State.setPort; exact mk_pending ..
@[simp] theorem State.setPort_ident (s : State) (lp : Nat) (x : SubPort) : (s.setPort lp x).ident = s.ident := by unfold State.setPort; exact mk_ident ..
@[simp] theorem State.setPort_straps (s : State) (lp : Nat) (x : SubPort) : (s.setPort lp x).straps = s.straps := by unfold State.setPort; exact mk_straps ..
@[simp] theorem State.setPort_fuses (s : State) (lp : Nat) (x : SubPort) : (s.setPort lp x).fuses = s.fuses := by unfold State.setPort; exact mk_fuses ..
@[simp] theorem State.setPort_time (s : State) (lp : Nat) (x : SubPort) : (s.setPort lp x).time = s.time := by unfold State.setPort; exact mk_time ..
@[simp] theorem State.setPort_held (s : State) (lp : Nat) (x : SubPort) : (s.setPort lp x).held = s.held := by unfold State.setPort; exact mk_held ..
@[simp] theorem State.setPort_wide (s : State) (lp : Nat) (x : SubPort) : (s.setPort lp x).wide = s.wide := by unfold State.setPort; exact mk_wide ..
@[simp] theorem State.setPort_rxAt (s : State) (lp : Nat) (x : SubPort) : (s.setPort lp x).rxAt = s.rxAt := by unfold State.setPort; exact mk_rxAt ..
@[simp] theorem State.setPort_priv (s : State) (lp : Nat) (x : SubPort) : (s.setPort lp x).priv = s.priv := by unfold State.setPort; exact mk_priv ..
@[simp] theorem State.setPort_latch (s : State) (lp : Nat) (x : SubPort) : (s.setPort lp x).latch = s.latch := by unfold State.setPort; exact mk_latch ..
@[simp] theorem State.setPort_dom (s : State) (lp : Nat) (x : SubPort) : (s.setPort lp x).dom = s.dom := by unfold State.setPort; exact mk_dom ..
@[simp] theorem State.setPort_reload (s : State) (lp : Nat) (x : SubPort) : (s.setPort lp x).reload = s.reload := by unfold State.setPort; exact mk_reload ..
@[simp] theorem State.setPort_clk (s : State) (lp : Nat) (x : SubPort) : (s.setPort lp x).clk = s.clk := by unfold State.setPort; exact mk_clk ..
@[simp] theorem State.setPort_cages (s : State) (lp : Nat) (x : SubPort) : (s.setPort lp x).cages = s.cages := by unfold State.setPort; exact mk_cages ..
@[simp] theorem State.setPort_buses (s : State) (lp : Nat) (x : SubPort) : (s.setPort lp x).buses = s.buses := by unfold State.setPort; exact mk_buses ..
@[simp] theorem State.setPort_groups (s : State) (lp : Nat) (x : SubPort) : (s.setPort lp x).groups = s.groups := by unfold State.setPort; exact mk_groups ..
@[simp] theorem State.setPort_pkts (s : State) (lp : Nat) (x : SubPort) : (s.setPort lp x).pkts = s.pkts := by unfold State.setPort; exact mk_pkts ..
@[simp] theorem State.setPort_nextPkt (s : State) (lp : Nat) (x : SubPort) : (s.setPort lp x).nextPkt = s.nextPkt := by unfold State.setPort; exact mk_nextPkt ..
@[simp] theorem State.setPort_reseq (s : State) (lp : Nat) (x : SubPort) : (s.setPort lp x).reseq = s.reseq := by unfold State.setPort; exact mk_reseq ..
@[simp] theorem State.setPort_clusters (s : State) (lp : Nat) (x : SubPort) : (s.setPort lp x).clusters = s.clusters := by unfold State.setPort; exact mk_clusters ..
@[simp] theorem State.setPort_threads (s : State) (lp : Nat) (x : SubPort) : (s.setPort lp x).threads = s.threads := by unfold State.setPort; exact mk_threads ..
@[simp] theorem State.setPort_cstore (s : State) (lp : Nat) (x : SubPort) : (s.setPort lp x).cstore = s.cstore := by unfold State.setPort; exact mk_cstore ..
@[simp] theorem State.setPort_img (s : State) (lp : Nat) (x : SubPort) : (s.setPort lp x).img = s.img := by unfold State.setPort; exact mk_img ..
@[simp] theorem State.setPort_tbl (s : State) (lp : Nat) (x : SubPort) : (s.setPort lp x).tbl = s.tbl := by unfold State.setPort; exact mk_tbl ..
@[simp] theorem State.setPort_cu (s : State) (lp : Nat) (x : SubPort) : (s.setPort lp x).cu = s.cu := by unfold State.setPort; exact mk_cu ..
@[simp] theorem State.setPort_epc (s : State) (lp : Nat) (x : SubPort) : (s.setPort lp x).epc = s.epc := by unfold State.setPort; exact mk_epc ..
@[simp] theorem State.setPort_buf (s : State) (lp : Nat) (x : SubPort) : (s.setPort lp x).buf = s.buf := by unfold State.setPort; exact mk_buf ..
@[simp] theorem State.setPort_sched (s : State) (lp : Nat) (x : SubPort) : (s.setPort lp x).sched = s.sched := by unfold State.setPort; exact mk_sched ..
@[simp] theorem State.setPort_led (s : State) (lp : Nat) (x : SubPort) : (s.setPort lp x).led = s.led := by unfold State.setPort; exact mk_led ..
@[simp] theorem State.setPort_tel (s : State) (lp : Nat) (x : SubPort) : (s.setPort lp x).tel = s.tel := by unfold State.setPort; exact mk_tel ..
@[simp] theorem State.setPort_hosts (s : State) (lp : Nat) (x : SubPort) : (s.setPort lp x).hosts = s.hosts := by unfold State.setPort; exact mk_hosts ..
@[simp] theorem State.setPort_rings (s : State) (lp : Nat) (x : SubPort) : (s.setPort lp x).rings = s.rings := by unfold State.setPort; exact mk_rings ..
@[simp] theorem State.setPort_dma (s : State) (lp : Nat) (x : SubPort) : (s.setPort lp x).dma = s.dma := by unfold State.setPort; exact mk_dma ..
@[simp] theorem State.setPort_dram (s : State) (lp : Nat) (x : SubPort) : (s.setPort lp x).dram = s.dram := by unfold State.setPort; exact mk_dram ..
@[simp] theorem State.setPort_flt (s : State) (lp : Nat) (x : SubPort) : (s.setPort lp x).flt = s.flt := by unfold State.setPort; exact mk_flt ..
@[simp] theorem State.setPort_chain (s : State) (lp : Nat) (x : SubPort) : (s.setPort lp x).chain = s.chain := by unfold State.setPort; exact mk_chain ..
@[simp] theorem State.setPort_frz (s : State) (lp : Nat) (x : SubPort) : (s.setPort lp x).frz = s.frz := by unfold State.setPort; exact mk_frz ..
@[simp] theorem State.setPort_dbg (s : State) (lp : Nat) (x : SubPort) : (s.setPort lp x).dbg = s.dbg := by unfold State.setPort; exact mk_dbg ..
@[simp] theorem State.setPort_free (s : State) (lp : Nat) (x : SubPort) : (s.setPort lp x).free = s.free := by unfold State.setPort; exact mk_free ..
@[simp] theorem State.setPort_out (s : State) (lp : Nat) (x : SubPort) : (s.setPort lp x).out = s.out := by unfold State.setPort; exact mk_out ..

@[simp] theorem State.setCage_pending (s : State) (c : Nat) (x : Cage) : (s.setCage c x).pending = s.pending := by unfold State.setCage; exact mk_pending ..
@[simp] theorem State.setCage_ident (s : State) (c : Nat) (x : Cage) : (s.setCage c x).ident = s.ident := by unfold State.setCage; exact mk_ident ..
@[simp] theorem State.setCage_straps (s : State) (c : Nat) (x : Cage) : (s.setCage c x).straps = s.straps := by unfold State.setCage; exact mk_straps ..
@[simp] theorem State.setCage_fuses (s : State) (c : Nat) (x : Cage) : (s.setCage c x).fuses = s.fuses := by unfold State.setCage; exact mk_fuses ..
@[simp] theorem State.setCage_time (s : State) (c : Nat) (x : Cage) : (s.setCage c x).time = s.time := by unfold State.setCage; exact mk_time ..
@[simp] theorem State.setCage_held (s : State) (c : Nat) (x : Cage) : (s.setCage c x).held = s.held := by unfold State.setCage; exact mk_held ..
@[simp] theorem State.setCage_wide (s : State) (c : Nat) (x : Cage) : (s.setCage c x).wide = s.wide := by unfold State.setCage; exact mk_wide ..
@[simp] theorem State.setCage_rxAt (s : State) (c : Nat) (x : Cage) : (s.setCage c x).rxAt = s.rxAt := by unfold State.setCage; exact mk_rxAt ..
@[simp] theorem State.setCage_priv (s : State) (c : Nat) (x : Cage) : (s.setCage c x).priv = s.priv := by unfold State.setCage; exact mk_priv ..
@[simp] theorem State.setCage_latch (s : State) (c : Nat) (x : Cage) : (s.setCage c x).latch = s.latch := by unfold State.setCage; exact mk_latch ..
@[simp] theorem State.setCage_dom (s : State) (c : Nat) (x : Cage) : (s.setCage c x).dom = s.dom := by unfold State.setCage; exact mk_dom ..
@[simp] theorem State.setCage_reload (s : State) (c : Nat) (x : Cage) : (s.setCage c x).reload = s.reload := by unfold State.setCage; exact mk_reload ..
@[simp] theorem State.setCage_clk (s : State) (c : Nat) (x : Cage) : (s.setCage c x).clk = s.clk := by unfold State.setCage; exact mk_clk ..
@[simp] theorem State.setCage_ports (s : State) (c : Nat) (x : Cage) : (s.setCage c x).ports = s.ports := by unfold State.setCage; exact mk_ports ..
@[simp] theorem State.setCage_buses (s : State) (c : Nat) (x : Cage) : (s.setCage c x).buses = s.buses := by unfold State.setCage; exact mk_buses ..
@[simp] theorem State.setCage_groups (s : State) (c : Nat) (x : Cage) : (s.setCage c x).groups = s.groups := by unfold State.setCage; exact mk_groups ..
@[simp] theorem State.setCage_pkts (s : State) (c : Nat) (x : Cage) : (s.setCage c x).pkts = s.pkts := by unfold State.setCage; exact mk_pkts ..
@[simp] theorem State.setCage_nextPkt (s : State) (c : Nat) (x : Cage) : (s.setCage c x).nextPkt = s.nextPkt := by unfold State.setCage; exact mk_nextPkt ..
@[simp] theorem State.setCage_reseq (s : State) (c : Nat) (x : Cage) : (s.setCage c x).reseq = s.reseq := by unfold State.setCage; exact mk_reseq ..
@[simp] theorem State.setCage_clusters (s : State) (c : Nat) (x : Cage) : (s.setCage c x).clusters = s.clusters := by unfold State.setCage; exact mk_clusters ..
@[simp] theorem State.setCage_threads (s : State) (c : Nat) (x : Cage) : (s.setCage c x).threads = s.threads := by unfold State.setCage; exact mk_threads ..
@[simp] theorem State.setCage_cstore (s : State) (c : Nat) (x : Cage) : (s.setCage c x).cstore = s.cstore := by unfold State.setCage; exact mk_cstore ..
@[simp] theorem State.setCage_img (s : State) (c : Nat) (x : Cage) : (s.setCage c x).img = s.img := by unfold State.setCage; exact mk_img ..
@[simp] theorem State.setCage_tbl (s : State) (c : Nat) (x : Cage) : (s.setCage c x).tbl = s.tbl := by unfold State.setCage; exact mk_tbl ..
@[simp] theorem State.setCage_cu (s : State) (c : Nat) (x : Cage) : (s.setCage c x).cu = s.cu := by unfold State.setCage; exact mk_cu ..
@[simp] theorem State.setCage_epc (s : State) (c : Nat) (x : Cage) : (s.setCage c x).epc = s.epc := by unfold State.setCage; exact mk_epc ..
@[simp] theorem State.setCage_buf (s : State) (c : Nat) (x : Cage) : (s.setCage c x).buf = s.buf := by unfold State.setCage; exact mk_buf ..
@[simp] theorem State.setCage_sched (s : State) (c : Nat) (x : Cage) : (s.setCage c x).sched = s.sched := by unfold State.setCage; exact mk_sched ..
@[simp] theorem State.setCage_led (s : State) (c : Nat) (x : Cage) : (s.setCage c x).led = s.led := by unfold State.setCage; exact mk_led ..
@[simp] theorem State.setCage_tel (s : State) (c : Nat) (x : Cage) : (s.setCage c x).tel = s.tel := by unfold State.setCage; exact mk_tel ..
@[simp] theorem State.setCage_hosts (s : State) (c : Nat) (x : Cage) : (s.setCage c x).hosts = s.hosts := by unfold State.setCage; exact mk_hosts ..
@[simp] theorem State.setCage_rings (s : State) (c : Nat) (x : Cage) : (s.setCage c x).rings = s.rings := by unfold State.setCage; exact mk_rings ..
@[simp] theorem State.setCage_dma (s : State) (c : Nat) (x : Cage) : (s.setCage c x).dma = s.dma := by unfold State.setCage; exact mk_dma ..
@[simp] theorem State.setCage_dram (s : State) (c : Nat) (x : Cage) : (s.setCage c x).dram = s.dram := by unfold State.setCage; exact mk_dram ..
@[simp] theorem State.setCage_flt (s : State) (c : Nat) (x : Cage) : (s.setCage c x).flt = s.flt := by unfold State.setCage; exact mk_flt ..
@[simp] theorem State.setCage_chain (s : State) (c : Nat) (x : Cage) : (s.setCage c x).chain = s.chain := by unfold State.setCage; exact mk_chain ..
@[simp] theorem State.setCage_frz (s : State) (c : Nat) (x : Cage) : (s.setCage c x).frz = s.frz := by unfold State.setCage; exact mk_frz ..
@[simp] theorem State.setCage_dbg (s : State) (c : Nat) (x : Cage) : (s.setCage c x).dbg = s.dbg := by unfold State.setCage; exact mk_dbg ..
@[simp] theorem State.setCage_free (s : State) (c : Nat) (x : Cage) : (s.setCage c x).free = s.free := by unfold State.setCage; exact mk_free ..
@[simp] theorem State.setCage_out (s : State) (c : Nat) (x : Cage) : (s.setCage c x).out = s.out := by unfold State.setCage; exact mk_out ..

@[simp] theorem State.setBus_pending (s : State) (n : Nat) (x : CageBus) : (s.setBus n x).pending = s.pending := by unfold State.setBus; exact mk_pending ..
@[simp] theorem State.setBus_ident (s : State) (n : Nat) (x : CageBus) : (s.setBus n x).ident = s.ident := by unfold State.setBus; exact mk_ident ..
@[simp] theorem State.setBus_straps (s : State) (n : Nat) (x : CageBus) : (s.setBus n x).straps = s.straps := by unfold State.setBus; exact mk_straps ..
@[simp] theorem State.setBus_fuses (s : State) (n : Nat) (x : CageBus) : (s.setBus n x).fuses = s.fuses := by unfold State.setBus; exact mk_fuses ..
@[simp] theorem State.setBus_time (s : State) (n : Nat) (x : CageBus) : (s.setBus n x).time = s.time := by unfold State.setBus; exact mk_time ..
@[simp] theorem State.setBus_held (s : State) (n : Nat) (x : CageBus) : (s.setBus n x).held = s.held := by unfold State.setBus; exact mk_held ..
@[simp] theorem State.setBus_wide (s : State) (n : Nat) (x : CageBus) : (s.setBus n x).wide = s.wide := by unfold State.setBus; exact mk_wide ..
@[simp] theorem State.setBus_rxAt (s : State) (n : Nat) (x : CageBus) : (s.setBus n x).rxAt = s.rxAt := by unfold State.setBus; exact mk_rxAt ..
@[simp] theorem State.setBus_priv (s : State) (n : Nat) (x : CageBus) : (s.setBus n x).priv = s.priv := by unfold State.setBus; exact mk_priv ..
@[simp] theorem State.setBus_latch (s : State) (n : Nat) (x : CageBus) : (s.setBus n x).latch = s.latch := by unfold State.setBus; exact mk_latch ..
@[simp] theorem State.setBus_dom (s : State) (n : Nat) (x : CageBus) : (s.setBus n x).dom = s.dom := by unfold State.setBus; exact mk_dom ..
@[simp] theorem State.setBus_reload (s : State) (n : Nat) (x : CageBus) : (s.setBus n x).reload = s.reload := by unfold State.setBus; exact mk_reload ..
@[simp] theorem State.setBus_clk (s : State) (n : Nat) (x : CageBus) : (s.setBus n x).clk = s.clk := by unfold State.setBus; exact mk_clk ..
@[simp] theorem State.setBus_ports (s : State) (n : Nat) (x : CageBus) : (s.setBus n x).ports = s.ports := by unfold State.setBus; exact mk_ports ..
@[simp] theorem State.setBus_cages (s : State) (n : Nat) (x : CageBus) : (s.setBus n x).cages = s.cages := by unfold State.setBus; exact mk_cages ..
@[simp] theorem State.setBus_groups (s : State) (n : Nat) (x : CageBus) : (s.setBus n x).groups = s.groups := by unfold State.setBus; exact mk_groups ..
@[simp] theorem State.setBus_pkts (s : State) (n : Nat) (x : CageBus) : (s.setBus n x).pkts = s.pkts := by unfold State.setBus; exact mk_pkts ..
@[simp] theorem State.setBus_nextPkt (s : State) (n : Nat) (x : CageBus) : (s.setBus n x).nextPkt = s.nextPkt := by unfold State.setBus; exact mk_nextPkt ..
@[simp] theorem State.setBus_reseq (s : State) (n : Nat) (x : CageBus) : (s.setBus n x).reseq = s.reseq := by unfold State.setBus; exact mk_reseq ..
@[simp] theorem State.setBus_clusters (s : State) (n : Nat) (x : CageBus) : (s.setBus n x).clusters = s.clusters := by unfold State.setBus; exact mk_clusters ..
@[simp] theorem State.setBus_threads (s : State) (n : Nat) (x : CageBus) : (s.setBus n x).threads = s.threads := by unfold State.setBus; exact mk_threads ..
@[simp] theorem State.setBus_cstore (s : State) (n : Nat) (x : CageBus) : (s.setBus n x).cstore = s.cstore := by unfold State.setBus; exact mk_cstore ..
@[simp] theorem State.setBus_img (s : State) (n : Nat) (x : CageBus) : (s.setBus n x).img = s.img := by unfold State.setBus; exact mk_img ..
@[simp] theorem State.setBus_tbl (s : State) (n : Nat) (x : CageBus) : (s.setBus n x).tbl = s.tbl := by unfold State.setBus; exact mk_tbl ..
@[simp] theorem State.setBus_cu (s : State) (n : Nat) (x : CageBus) : (s.setBus n x).cu = s.cu := by unfold State.setBus; exact mk_cu ..
@[simp] theorem State.setBus_epc (s : State) (n : Nat) (x : CageBus) : (s.setBus n x).epc = s.epc := by unfold State.setBus; exact mk_epc ..
@[simp] theorem State.setBus_buf (s : State) (n : Nat) (x : CageBus) : (s.setBus n x).buf = s.buf := by unfold State.setBus; exact mk_buf ..
@[simp] theorem State.setBus_sched (s : State) (n : Nat) (x : CageBus) : (s.setBus n x).sched = s.sched := by unfold State.setBus; exact mk_sched ..
@[simp] theorem State.setBus_led (s : State) (n : Nat) (x : CageBus) : (s.setBus n x).led = s.led := by unfold State.setBus; exact mk_led ..
@[simp] theorem State.setBus_tel (s : State) (n : Nat) (x : CageBus) : (s.setBus n x).tel = s.tel := by unfold State.setBus; exact mk_tel ..
@[simp] theorem State.setBus_hosts (s : State) (n : Nat) (x : CageBus) : (s.setBus n x).hosts = s.hosts := by unfold State.setBus; exact mk_hosts ..
@[simp] theorem State.setBus_rings (s : State) (n : Nat) (x : CageBus) : (s.setBus n x).rings = s.rings := by unfold State.setBus; exact mk_rings ..
@[simp] theorem State.setBus_dma (s : State) (n : Nat) (x : CageBus) : (s.setBus n x).dma = s.dma := by unfold State.setBus; exact mk_dma ..
@[simp] theorem State.setBus_dram (s : State) (n : Nat) (x : CageBus) : (s.setBus n x).dram = s.dram := by unfold State.setBus; exact mk_dram ..
@[simp] theorem State.setBus_flt (s : State) (n : Nat) (x : CageBus) : (s.setBus n x).flt = s.flt := by unfold State.setBus; exact mk_flt ..
@[simp] theorem State.setBus_chain (s : State) (n : Nat) (x : CageBus) : (s.setBus n x).chain = s.chain := by unfold State.setBus; exact mk_chain ..
@[simp] theorem State.setBus_frz (s : State) (n : Nat) (x : CageBus) : (s.setBus n x).frz = s.frz := by unfold State.setBus; exact mk_frz ..
@[simp] theorem State.setBus_dbg (s : State) (n : Nat) (x : CageBus) : (s.setBus n x).dbg = s.dbg := by unfold State.setBus; exact mk_dbg ..
@[simp] theorem State.setBus_free (s : State) (n : Nat) (x : CageBus) : (s.setBus n x).free = s.free := by unfold State.setBus; exact mk_free ..
@[simp] theorem State.setBus_out (s : State) (n : Nat) (x : CageBus) : (s.setBus n x).out = s.out := by unfold State.setBus; exact mk_out ..

@[simp] theorem State.setGrp_pending (s : State) (n : Nat) (x : Group) : (s.setGrp n x).pending = s.pending := by unfold State.setGrp; exact mk_pending ..
@[simp] theorem State.setGrp_ident (s : State) (n : Nat) (x : Group) : (s.setGrp n x).ident = s.ident := by unfold State.setGrp; exact mk_ident ..
@[simp] theorem State.setGrp_straps (s : State) (n : Nat) (x : Group) : (s.setGrp n x).straps = s.straps := by unfold State.setGrp; exact mk_straps ..
@[simp] theorem State.setGrp_fuses (s : State) (n : Nat) (x : Group) : (s.setGrp n x).fuses = s.fuses := by unfold State.setGrp; exact mk_fuses ..
@[simp] theorem State.setGrp_time (s : State) (n : Nat) (x : Group) : (s.setGrp n x).time = s.time := by unfold State.setGrp; exact mk_time ..
@[simp] theorem State.setGrp_held (s : State) (n : Nat) (x : Group) : (s.setGrp n x).held = s.held := by unfold State.setGrp; exact mk_held ..
@[simp] theorem State.setGrp_wide (s : State) (n : Nat) (x : Group) : (s.setGrp n x).wide = s.wide := by unfold State.setGrp; exact mk_wide ..
@[simp] theorem State.setGrp_rxAt (s : State) (n : Nat) (x : Group) : (s.setGrp n x).rxAt = s.rxAt := by unfold State.setGrp; exact mk_rxAt ..
@[simp] theorem State.setGrp_priv (s : State) (n : Nat) (x : Group) : (s.setGrp n x).priv = s.priv := by unfold State.setGrp; exact mk_priv ..
@[simp] theorem State.setGrp_latch (s : State) (n : Nat) (x : Group) : (s.setGrp n x).latch = s.latch := by unfold State.setGrp; exact mk_latch ..
@[simp] theorem State.setGrp_dom (s : State) (n : Nat) (x : Group) : (s.setGrp n x).dom = s.dom := by unfold State.setGrp; exact mk_dom ..
@[simp] theorem State.setGrp_reload (s : State) (n : Nat) (x : Group) : (s.setGrp n x).reload = s.reload := by unfold State.setGrp; exact mk_reload ..
@[simp] theorem State.setGrp_clk (s : State) (n : Nat) (x : Group) : (s.setGrp n x).clk = s.clk := by unfold State.setGrp; exact mk_clk ..
@[simp] theorem State.setGrp_ports (s : State) (n : Nat) (x : Group) : (s.setGrp n x).ports = s.ports := by unfold State.setGrp; exact mk_ports ..
@[simp] theorem State.setGrp_cages (s : State) (n : Nat) (x : Group) : (s.setGrp n x).cages = s.cages := by unfold State.setGrp; exact mk_cages ..
@[simp] theorem State.setGrp_buses (s : State) (n : Nat) (x : Group) : (s.setGrp n x).buses = s.buses := by unfold State.setGrp; exact mk_buses ..
@[simp] theorem State.setGrp_pkts (s : State) (n : Nat) (x : Group) : (s.setGrp n x).pkts = s.pkts := by unfold State.setGrp; exact mk_pkts ..
@[simp] theorem State.setGrp_nextPkt (s : State) (n : Nat) (x : Group) : (s.setGrp n x).nextPkt = s.nextPkt := by unfold State.setGrp; exact mk_nextPkt ..
@[simp] theorem State.setGrp_reseq (s : State) (n : Nat) (x : Group) : (s.setGrp n x).reseq = s.reseq := by unfold State.setGrp; exact mk_reseq ..
@[simp] theorem State.setGrp_clusters (s : State) (n : Nat) (x : Group) : (s.setGrp n x).clusters = s.clusters := by unfold State.setGrp; exact mk_clusters ..
@[simp] theorem State.setGrp_threads (s : State) (n : Nat) (x : Group) : (s.setGrp n x).threads = s.threads := by unfold State.setGrp; exact mk_threads ..
@[simp] theorem State.setGrp_cstore (s : State) (n : Nat) (x : Group) : (s.setGrp n x).cstore = s.cstore := by unfold State.setGrp; exact mk_cstore ..
@[simp] theorem State.setGrp_img (s : State) (n : Nat) (x : Group) : (s.setGrp n x).img = s.img := by unfold State.setGrp; exact mk_img ..
@[simp] theorem State.setGrp_tbl (s : State) (n : Nat) (x : Group) : (s.setGrp n x).tbl = s.tbl := by unfold State.setGrp; exact mk_tbl ..
@[simp] theorem State.setGrp_cu (s : State) (n : Nat) (x : Group) : (s.setGrp n x).cu = s.cu := by unfold State.setGrp; exact mk_cu ..
@[simp] theorem State.setGrp_epc (s : State) (n : Nat) (x : Group) : (s.setGrp n x).epc = s.epc := by unfold State.setGrp; exact mk_epc ..
@[simp] theorem State.setGrp_buf (s : State) (n : Nat) (x : Group) : (s.setGrp n x).buf = s.buf := by unfold State.setGrp; exact mk_buf ..
@[simp] theorem State.setGrp_sched (s : State) (n : Nat) (x : Group) : (s.setGrp n x).sched = s.sched := by unfold State.setGrp; exact mk_sched ..
@[simp] theorem State.setGrp_led (s : State) (n : Nat) (x : Group) : (s.setGrp n x).led = s.led := by unfold State.setGrp; exact mk_led ..
@[simp] theorem State.setGrp_tel (s : State) (n : Nat) (x : Group) : (s.setGrp n x).tel = s.tel := by unfold State.setGrp; exact mk_tel ..
@[simp] theorem State.setGrp_hosts (s : State) (n : Nat) (x : Group) : (s.setGrp n x).hosts = s.hosts := by unfold State.setGrp; exact mk_hosts ..
@[simp] theorem State.setGrp_rings (s : State) (n : Nat) (x : Group) : (s.setGrp n x).rings = s.rings := by unfold State.setGrp; exact mk_rings ..
@[simp] theorem State.setGrp_dma (s : State) (n : Nat) (x : Group) : (s.setGrp n x).dma = s.dma := by unfold State.setGrp; exact mk_dma ..
@[simp] theorem State.setGrp_dram (s : State) (n : Nat) (x : Group) : (s.setGrp n x).dram = s.dram := by unfold State.setGrp; exact mk_dram ..
@[simp] theorem State.setGrp_flt (s : State) (n : Nat) (x : Group) : (s.setGrp n x).flt = s.flt := by unfold State.setGrp; exact mk_flt ..
@[simp] theorem State.setGrp_chain (s : State) (n : Nat) (x : Group) : (s.setGrp n x).chain = s.chain := by unfold State.setGrp; exact mk_chain ..
@[simp] theorem State.setGrp_frz (s : State) (n : Nat) (x : Group) : (s.setGrp n x).frz = s.frz := by unfold State.setGrp; exact mk_frz ..
@[simp] theorem State.setGrp_dbg (s : State) (n : Nat) (x : Group) : (s.setGrp n x).dbg = s.dbg := by unfold State.setGrp; exact mk_dbg ..
@[simp] theorem State.setGrp_free (s : State) (n : Nat) (x : Group) : (s.setGrp n x).free = s.free := by unfold State.setGrp; exact mk_free ..
@[simp] theorem State.setGrp_out (s : State) (n : Nat) (x : Group) : (s.setGrp n x).out = s.out := by unfold State.setGrp; exact mk_out ..

@[simp] theorem State.setPkt_pending (s : State) (k : Nat) (x : Pkt) : (s.setPkt k x).pending = s.pending := by unfold State.setPkt; exact mk_pending ..
@[simp] theorem State.setPkt_ident (s : State) (k : Nat) (x : Pkt) : (s.setPkt k x).ident = s.ident := by unfold State.setPkt; exact mk_ident ..
@[simp] theorem State.setPkt_straps (s : State) (k : Nat) (x : Pkt) : (s.setPkt k x).straps = s.straps := by unfold State.setPkt; exact mk_straps ..
@[simp] theorem State.setPkt_fuses (s : State) (k : Nat) (x : Pkt) : (s.setPkt k x).fuses = s.fuses := by unfold State.setPkt; exact mk_fuses ..
@[simp] theorem State.setPkt_time (s : State) (k : Nat) (x : Pkt) : (s.setPkt k x).time = s.time := by unfold State.setPkt; exact mk_time ..
@[simp] theorem State.setPkt_held (s : State) (k : Nat) (x : Pkt) : (s.setPkt k x).held = s.held := by unfold State.setPkt; exact mk_held ..
@[simp] theorem State.setPkt_wide (s : State) (k : Nat) (x : Pkt) : (s.setPkt k x).wide = s.wide := by unfold State.setPkt; exact mk_wide ..
@[simp] theorem State.setPkt_rxAt (s : State) (k : Nat) (x : Pkt) : (s.setPkt k x).rxAt = s.rxAt := by unfold State.setPkt; exact mk_rxAt ..
@[simp] theorem State.setPkt_priv (s : State) (k : Nat) (x : Pkt) : (s.setPkt k x).priv = s.priv := by unfold State.setPkt; exact mk_priv ..
@[simp] theorem State.setPkt_latch (s : State) (k : Nat) (x : Pkt) : (s.setPkt k x).latch = s.latch := by unfold State.setPkt; exact mk_latch ..
@[simp] theorem State.setPkt_dom (s : State) (k : Nat) (x : Pkt) : (s.setPkt k x).dom = s.dom := by unfold State.setPkt; exact mk_dom ..
@[simp] theorem State.setPkt_reload (s : State) (k : Nat) (x : Pkt) : (s.setPkt k x).reload = s.reload := by unfold State.setPkt; exact mk_reload ..
@[simp] theorem State.setPkt_clk (s : State) (k : Nat) (x : Pkt) : (s.setPkt k x).clk = s.clk := by unfold State.setPkt; exact mk_clk ..
@[simp] theorem State.setPkt_ports (s : State) (k : Nat) (x : Pkt) : (s.setPkt k x).ports = s.ports := by unfold State.setPkt; exact mk_ports ..
@[simp] theorem State.setPkt_cages (s : State) (k : Nat) (x : Pkt) : (s.setPkt k x).cages = s.cages := by unfold State.setPkt; exact mk_cages ..
@[simp] theorem State.setPkt_buses (s : State) (k : Nat) (x : Pkt) : (s.setPkt k x).buses = s.buses := by unfold State.setPkt; exact mk_buses ..
@[simp] theorem State.setPkt_groups (s : State) (k : Nat) (x : Pkt) : (s.setPkt k x).groups = s.groups := by unfold State.setPkt; exact mk_groups ..
@[simp] theorem State.setPkt_nextPkt (s : State) (k : Nat) (x : Pkt) : (s.setPkt k x).nextPkt = s.nextPkt := by unfold State.setPkt; exact mk_nextPkt ..
@[simp] theorem State.setPkt_reseq (s : State) (k : Nat) (x : Pkt) : (s.setPkt k x).reseq = s.reseq := by unfold State.setPkt; exact mk_reseq ..
@[simp] theorem State.setPkt_clusters (s : State) (k : Nat) (x : Pkt) : (s.setPkt k x).clusters = s.clusters := by unfold State.setPkt; exact mk_clusters ..
@[simp] theorem State.setPkt_threads (s : State) (k : Nat) (x : Pkt) : (s.setPkt k x).threads = s.threads := by unfold State.setPkt; exact mk_threads ..
@[simp] theorem State.setPkt_cstore (s : State) (k : Nat) (x : Pkt) : (s.setPkt k x).cstore = s.cstore := by unfold State.setPkt; exact mk_cstore ..
@[simp] theorem State.setPkt_img (s : State) (k : Nat) (x : Pkt) : (s.setPkt k x).img = s.img := by unfold State.setPkt; exact mk_img ..
@[simp] theorem State.setPkt_tbl (s : State) (k : Nat) (x : Pkt) : (s.setPkt k x).tbl = s.tbl := by unfold State.setPkt; exact mk_tbl ..
@[simp] theorem State.setPkt_cu (s : State) (k : Nat) (x : Pkt) : (s.setPkt k x).cu = s.cu := by unfold State.setPkt; exact mk_cu ..
@[simp] theorem State.setPkt_epc (s : State) (k : Nat) (x : Pkt) : (s.setPkt k x).epc = s.epc := by unfold State.setPkt; exact mk_epc ..
@[simp] theorem State.setPkt_buf (s : State) (k : Nat) (x : Pkt) : (s.setPkt k x).buf = s.buf := by unfold State.setPkt; exact mk_buf ..
@[simp] theorem State.setPkt_sched (s : State) (k : Nat) (x : Pkt) : (s.setPkt k x).sched = s.sched := by unfold State.setPkt; exact mk_sched ..
@[simp] theorem State.setPkt_led (s : State) (k : Nat) (x : Pkt) : (s.setPkt k x).led = s.led := by unfold State.setPkt; exact mk_led ..
@[simp] theorem State.setPkt_tel (s : State) (k : Nat) (x : Pkt) : (s.setPkt k x).tel = s.tel := by unfold State.setPkt; exact mk_tel ..
@[simp] theorem State.setPkt_hosts (s : State) (k : Nat) (x : Pkt) : (s.setPkt k x).hosts = s.hosts := by unfold State.setPkt; exact mk_hosts ..
@[simp] theorem State.setPkt_rings (s : State) (k : Nat) (x : Pkt) : (s.setPkt k x).rings = s.rings := by unfold State.setPkt; exact mk_rings ..
@[simp] theorem State.setPkt_dma (s : State) (k : Nat) (x : Pkt) : (s.setPkt k x).dma = s.dma := by unfold State.setPkt; exact mk_dma ..
@[simp] theorem State.setPkt_dram (s : State) (k : Nat) (x : Pkt) : (s.setPkt k x).dram = s.dram := by unfold State.setPkt; exact mk_dram ..
@[simp] theorem State.setPkt_flt (s : State) (k : Nat) (x : Pkt) : (s.setPkt k x).flt = s.flt := by unfold State.setPkt; exact mk_flt ..
@[simp] theorem State.setPkt_chain (s : State) (k : Nat) (x : Pkt) : (s.setPkt k x).chain = s.chain := by unfold State.setPkt; exact mk_chain ..
@[simp] theorem State.setPkt_frz (s : State) (k : Nat) (x : Pkt) : (s.setPkt k x).frz = s.frz := by unfold State.setPkt; exact mk_frz ..
@[simp] theorem State.setPkt_dbg (s : State) (k : Nat) (x : Pkt) : (s.setPkt k x).dbg = s.dbg := by unfold State.setPkt; exact mk_dbg ..
@[simp] theorem State.setPkt_free (s : State) (k : Nat) (x : Pkt) : (s.setPkt k x).free = s.free := by unfold State.setPkt; exact mk_free ..
@[simp] theorem State.setPkt_out (s : State) (k : Nat) (x : Pkt) : (s.setPkt k x).out = s.out := by unfold State.setPkt; exact mk_out ..

@[simp] theorem State.setClu_pending (s : State) (c : Nat) (x : Cluster) : (s.setClu c x).pending = s.pending := by unfold State.setClu; exact mk_pending ..
@[simp] theorem State.setClu_ident (s : State) (c : Nat) (x : Cluster) : (s.setClu c x).ident = s.ident := by unfold State.setClu; exact mk_ident ..
@[simp] theorem State.setClu_straps (s : State) (c : Nat) (x : Cluster) : (s.setClu c x).straps = s.straps := by unfold State.setClu; exact mk_straps ..
@[simp] theorem State.setClu_fuses (s : State) (c : Nat) (x : Cluster) : (s.setClu c x).fuses = s.fuses := by unfold State.setClu; exact mk_fuses ..
@[simp] theorem State.setClu_time (s : State) (c : Nat) (x : Cluster) : (s.setClu c x).time = s.time := by unfold State.setClu; exact mk_time ..
@[simp] theorem State.setClu_held (s : State) (c : Nat) (x : Cluster) : (s.setClu c x).held = s.held := by unfold State.setClu; exact mk_held ..
@[simp] theorem State.setClu_wide (s : State) (c : Nat) (x : Cluster) : (s.setClu c x).wide = s.wide := by unfold State.setClu; exact mk_wide ..
@[simp] theorem State.setClu_rxAt (s : State) (c : Nat) (x : Cluster) : (s.setClu c x).rxAt = s.rxAt := by unfold State.setClu; exact mk_rxAt ..
@[simp] theorem State.setClu_priv (s : State) (c : Nat) (x : Cluster) : (s.setClu c x).priv = s.priv := by unfold State.setClu; exact mk_priv ..
@[simp] theorem State.setClu_latch (s : State) (c : Nat) (x : Cluster) : (s.setClu c x).latch = s.latch := by unfold State.setClu; exact mk_latch ..
@[simp] theorem State.setClu_dom (s : State) (c : Nat) (x : Cluster) : (s.setClu c x).dom = s.dom := by unfold State.setClu; exact mk_dom ..
@[simp] theorem State.setClu_reload (s : State) (c : Nat) (x : Cluster) : (s.setClu c x).reload = s.reload := by unfold State.setClu; exact mk_reload ..
@[simp] theorem State.setClu_clk (s : State) (c : Nat) (x : Cluster) : (s.setClu c x).clk = s.clk := by unfold State.setClu; exact mk_clk ..
@[simp] theorem State.setClu_ports (s : State) (c : Nat) (x : Cluster) : (s.setClu c x).ports = s.ports := by unfold State.setClu; exact mk_ports ..
@[simp] theorem State.setClu_cages (s : State) (c : Nat) (x : Cluster) : (s.setClu c x).cages = s.cages := by unfold State.setClu; exact mk_cages ..
@[simp] theorem State.setClu_buses (s : State) (c : Nat) (x : Cluster) : (s.setClu c x).buses = s.buses := by unfold State.setClu; exact mk_buses ..
@[simp] theorem State.setClu_groups (s : State) (c : Nat) (x : Cluster) : (s.setClu c x).groups = s.groups := by unfold State.setClu; exact mk_groups ..
@[simp] theorem State.setClu_pkts (s : State) (c : Nat) (x : Cluster) : (s.setClu c x).pkts = s.pkts := by unfold State.setClu; exact mk_pkts ..
@[simp] theorem State.setClu_nextPkt (s : State) (c : Nat) (x : Cluster) : (s.setClu c x).nextPkt = s.nextPkt := by unfold State.setClu; exact mk_nextPkt ..
@[simp] theorem State.setClu_reseq (s : State) (c : Nat) (x : Cluster) : (s.setClu c x).reseq = s.reseq := by unfold State.setClu; exact mk_reseq ..
@[simp] theorem State.setClu_threads (s : State) (c : Nat) (x : Cluster) : (s.setClu c x).threads = s.threads := by unfold State.setClu; exact mk_threads ..
@[simp] theorem State.setClu_cstore (s : State) (c : Nat) (x : Cluster) : (s.setClu c x).cstore = s.cstore := by unfold State.setClu; exact mk_cstore ..
@[simp] theorem State.setClu_img (s : State) (c : Nat) (x : Cluster) : (s.setClu c x).img = s.img := by unfold State.setClu; exact mk_img ..
@[simp] theorem State.setClu_tbl (s : State) (c : Nat) (x : Cluster) : (s.setClu c x).tbl = s.tbl := by unfold State.setClu; exact mk_tbl ..
@[simp] theorem State.setClu_cu (s : State) (c : Nat) (x : Cluster) : (s.setClu c x).cu = s.cu := by unfold State.setClu; exact mk_cu ..
@[simp] theorem State.setClu_epc (s : State) (c : Nat) (x : Cluster) : (s.setClu c x).epc = s.epc := by unfold State.setClu; exact mk_epc ..
@[simp] theorem State.setClu_buf (s : State) (c : Nat) (x : Cluster) : (s.setClu c x).buf = s.buf := by unfold State.setClu; exact mk_buf ..
@[simp] theorem State.setClu_sched (s : State) (c : Nat) (x : Cluster) : (s.setClu c x).sched = s.sched := by unfold State.setClu; exact mk_sched ..
@[simp] theorem State.setClu_led (s : State) (c : Nat) (x : Cluster) : (s.setClu c x).led = s.led := by unfold State.setClu; exact mk_led ..
@[simp] theorem State.setClu_tel (s : State) (c : Nat) (x : Cluster) : (s.setClu c x).tel = s.tel := by unfold State.setClu; exact mk_tel ..
@[simp] theorem State.setClu_hosts (s : State) (c : Nat) (x : Cluster) : (s.setClu c x).hosts = s.hosts := by unfold State.setClu; exact mk_hosts ..
@[simp] theorem State.setClu_rings (s : State) (c : Nat) (x : Cluster) : (s.setClu c x).rings = s.rings := by unfold State.setClu; exact mk_rings ..
@[simp] theorem State.setClu_dma (s : State) (c : Nat) (x : Cluster) : (s.setClu c x).dma = s.dma := by unfold State.setClu; exact mk_dma ..
@[simp] theorem State.setClu_dram (s : State) (c : Nat) (x : Cluster) : (s.setClu c x).dram = s.dram := by unfold State.setClu; exact mk_dram ..
@[simp] theorem State.setClu_flt (s : State) (c : Nat) (x : Cluster) : (s.setClu c x).flt = s.flt := by unfold State.setClu; exact mk_flt ..
@[simp] theorem State.setClu_chain (s : State) (c : Nat) (x : Cluster) : (s.setClu c x).chain = s.chain := by unfold State.setClu; exact mk_chain ..
@[simp] theorem State.setClu_frz (s : State) (c : Nat) (x : Cluster) : (s.setClu c x).frz = s.frz := by unfold State.setClu; exact mk_frz ..
@[simp] theorem State.setClu_dbg (s : State) (c : Nat) (x : Cluster) : (s.setClu c x).dbg = s.dbg := by unfold State.setClu; exact mk_dbg ..
@[simp] theorem State.setClu_free (s : State) (c : Nat) (x : Cluster) : (s.setClu c x).free = s.free := by unfold State.setClu; exact mk_free ..
@[simp] theorem State.setClu_out (s : State) (c : Nat) (x : Cluster) : (s.setClu c x).out = s.out := by unfold State.setClu; exact mk_out ..

@[simp] theorem State.setThr_pending (s : State) (k : Nat) (x : Thread) : (s.setThr k x).pending = s.pending := by unfold State.setThr; exact mk_pending ..
@[simp] theorem State.setThr_ident (s : State) (k : Nat) (x : Thread) : (s.setThr k x).ident = s.ident := by unfold State.setThr; exact mk_ident ..
@[simp] theorem State.setThr_straps (s : State) (k : Nat) (x : Thread) : (s.setThr k x).straps = s.straps := by unfold State.setThr; exact mk_straps ..
@[simp] theorem State.setThr_fuses (s : State) (k : Nat) (x : Thread) : (s.setThr k x).fuses = s.fuses := by unfold State.setThr; exact mk_fuses ..
@[simp] theorem State.setThr_time (s : State) (k : Nat) (x : Thread) : (s.setThr k x).time = s.time := by unfold State.setThr; exact mk_time ..
@[simp] theorem State.setThr_held (s : State) (k : Nat) (x : Thread) : (s.setThr k x).held = s.held := by unfold State.setThr; exact mk_held ..
@[simp] theorem State.setThr_wide (s : State) (k : Nat) (x : Thread) : (s.setThr k x).wide = s.wide := by unfold State.setThr; exact mk_wide ..
@[simp] theorem State.setThr_rxAt (s : State) (k : Nat) (x : Thread) : (s.setThr k x).rxAt = s.rxAt := by unfold State.setThr; exact mk_rxAt ..
@[simp] theorem State.setThr_priv (s : State) (k : Nat) (x : Thread) : (s.setThr k x).priv = s.priv := by unfold State.setThr; exact mk_priv ..
@[simp] theorem State.setThr_latch (s : State) (k : Nat) (x : Thread) : (s.setThr k x).latch = s.latch := by unfold State.setThr; exact mk_latch ..
@[simp] theorem State.setThr_dom (s : State) (k : Nat) (x : Thread) : (s.setThr k x).dom = s.dom := by unfold State.setThr; exact mk_dom ..
@[simp] theorem State.setThr_reload (s : State) (k : Nat) (x : Thread) : (s.setThr k x).reload = s.reload := by unfold State.setThr; exact mk_reload ..
@[simp] theorem State.setThr_clk (s : State) (k : Nat) (x : Thread) : (s.setThr k x).clk = s.clk := by unfold State.setThr; exact mk_clk ..
@[simp] theorem State.setThr_ports (s : State) (k : Nat) (x : Thread) : (s.setThr k x).ports = s.ports := by unfold State.setThr; exact mk_ports ..
@[simp] theorem State.setThr_cages (s : State) (k : Nat) (x : Thread) : (s.setThr k x).cages = s.cages := by unfold State.setThr; exact mk_cages ..
@[simp] theorem State.setThr_buses (s : State) (k : Nat) (x : Thread) : (s.setThr k x).buses = s.buses := by unfold State.setThr; exact mk_buses ..
@[simp] theorem State.setThr_groups (s : State) (k : Nat) (x : Thread) : (s.setThr k x).groups = s.groups := by unfold State.setThr; exact mk_groups ..
@[simp] theorem State.setThr_pkts (s : State) (k : Nat) (x : Thread) : (s.setThr k x).pkts = s.pkts := by unfold State.setThr; exact mk_pkts ..
@[simp] theorem State.setThr_nextPkt (s : State) (k : Nat) (x : Thread) : (s.setThr k x).nextPkt = s.nextPkt := by unfold State.setThr; exact mk_nextPkt ..
@[simp] theorem State.setThr_reseq (s : State) (k : Nat) (x : Thread) : (s.setThr k x).reseq = s.reseq := by unfold State.setThr; exact mk_reseq ..
@[simp] theorem State.setThr_clusters (s : State) (k : Nat) (x : Thread) : (s.setThr k x).clusters = s.clusters := by unfold State.setThr; exact mk_clusters ..
@[simp] theorem State.setThr_cstore (s : State) (k : Nat) (x : Thread) : (s.setThr k x).cstore = s.cstore := by unfold State.setThr; exact mk_cstore ..
@[simp] theorem State.setThr_img (s : State) (k : Nat) (x : Thread) : (s.setThr k x).img = s.img := by unfold State.setThr; exact mk_img ..
@[simp] theorem State.setThr_tbl (s : State) (k : Nat) (x : Thread) : (s.setThr k x).tbl = s.tbl := by unfold State.setThr; exact mk_tbl ..
@[simp] theorem State.setThr_cu (s : State) (k : Nat) (x : Thread) : (s.setThr k x).cu = s.cu := by unfold State.setThr; exact mk_cu ..
@[simp] theorem State.setThr_epc (s : State) (k : Nat) (x : Thread) : (s.setThr k x).epc = s.epc := by unfold State.setThr; exact mk_epc ..
@[simp] theorem State.setThr_buf (s : State) (k : Nat) (x : Thread) : (s.setThr k x).buf = s.buf := by unfold State.setThr; exact mk_buf ..
@[simp] theorem State.setThr_sched (s : State) (k : Nat) (x : Thread) : (s.setThr k x).sched = s.sched := by unfold State.setThr; exact mk_sched ..
@[simp] theorem State.setThr_led (s : State) (k : Nat) (x : Thread) : (s.setThr k x).led = s.led := by unfold State.setThr; exact mk_led ..
@[simp] theorem State.setThr_tel (s : State) (k : Nat) (x : Thread) : (s.setThr k x).tel = s.tel := by unfold State.setThr; exact mk_tel ..
@[simp] theorem State.setThr_hosts (s : State) (k : Nat) (x : Thread) : (s.setThr k x).hosts = s.hosts := by unfold State.setThr; exact mk_hosts ..
@[simp] theorem State.setThr_rings (s : State) (k : Nat) (x : Thread) : (s.setThr k x).rings = s.rings := by unfold State.setThr; exact mk_rings ..
@[simp] theorem State.setThr_dma (s : State) (k : Nat) (x : Thread) : (s.setThr k x).dma = s.dma := by unfold State.setThr; exact mk_dma ..
@[simp] theorem State.setThr_dram (s : State) (k : Nat) (x : Thread) : (s.setThr k x).dram = s.dram := by unfold State.setThr; exact mk_dram ..
@[simp] theorem State.setThr_flt (s : State) (k : Nat) (x : Thread) : (s.setThr k x).flt = s.flt := by unfold State.setThr; exact mk_flt ..
@[simp] theorem State.setThr_chain (s : State) (k : Nat) (x : Thread) : (s.setThr k x).chain = s.chain := by unfold State.setThr; exact mk_chain ..
@[simp] theorem State.setThr_frz (s : State) (k : Nat) (x : Thread) : (s.setThr k x).frz = s.frz := by unfold State.setThr; exact mk_frz ..
@[simp] theorem State.setThr_dbg (s : State) (k : Nat) (x : Thread) : (s.setThr k x).dbg = s.dbg := by unfold State.setThr; exact mk_dbg ..
@[simp] theorem State.setThr_free (s : State) (k : Nat) (x : Thread) : (s.setThr k x).free = s.free := by unfold State.setThr; exact mk_free ..
@[simp] theorem State.setThr_out (s : State) (k : Nat) (x : Thread) : (s.setThr k x).out = s.out := by unfold State.setThr; exact mk_out ..

@[simp] theorem State.setHst_pending (s : State) (h : Nat) (x : HostFn) : (s.setHst h x).pending = s.pending := by unfold State.setHst; exact mk_pending ..
@[simp] theorem State.setHst_ident (s : State) (h : Nat) (x : HostFn) : (s.setHst h x).ident = s.ident := by unfold State.setHst; exact mk_ident ..
@[simp] theorem State.setHst_straps (s : State) (h : Nat) (x : HostFn) : (s.setHst h x).straps = s.straps := by unfold State.setHst; exact mk_straps ..
@[simp] theorem State.setHst_fuses (s : State) (h : Nat) (x : HostFn) : (s.setHst h x).fuses = s.fuses := by unfold State.setHst; exact mk_fuses ..
@[simp] theorem State.setHst_time (s : State) (h : Nat) (x : HostFn) : (s.setHst h x).time = s.time := by unfold State.setHst; exact mk_time ..
@[simp] theorem State.setHst_held (s : State) (h : Nat) (x : HostFn) : (s.setHst h x).held = s.held := by unfold State.setHst; exact mk_held ..
@[simp] theorem State.setHst_wide (s : State) (h : Nat) (x : HostFn) : (s.setHst h x).wide = s.wide := by unfold State.setHst; exact mk_wide ..
@[simp] theorem State.setHst_rxAt (s : State) (h : Nat) (x : HostFn) : (s.setHst h x).rxAt = s.rxAt := by unfold State.setHst; exact mk_rxAt ..
@[simp] theorem State.setHst_priv (s : State) (h : Nat) (x : HostFn) : (s.setHst h x).priv = s.priv := by unfold State.setHst; exact mk_priv ..
@[simp] theorem State.setHst_latch (s : State) (h : Nat) (x : HostFn) : (s.setHst h x).latch = s.latch := by unfold State.setHst; exact mk_latch ..
@[simp] theorem State.setHst_dom (s : State) (h : Nat) (x : HostFn) : (s.setHst h x).dom = s.dom := by unfold State.setHst; exact mk_dom ..
@[simp] theorem State.setHst_reload (s : State) (h : Nat) (x : HostFn) : (s.setHst h x).reload = s.reload := by unfold State.setHst; exact mk_reload ..
@[simp] theorem State.setHst_clk (s : State) (h : Nat) (x : HostFn) : (s.setHst h x).clk = s.clk := by unfold State.setHst; exact mk_clk ..
@[simp] theorem State.setHst_ports (s : State) (h : Nat) (x : HostFn) : (s.setHst h x).ports = s.ports := by unfold State.setHst; exact mk_ports ..
@[simp] theorem State.setHst_cages (s : State) (h : Nat) (x : HostFn) : (s.setHst h x).cages = s.cages := by unfold State.setHst; exact mk_cages ..
@[simp] theorem State.setHst_buses (s : State) (h : Nat) (x : HostFn) : (s.setHst h x).buses = s.buses := by unfold State.setHst; exact mk_buses ..
@[simp] theorem State.setHst_groups (s : State) (h : Nat) (x : HostFn) : (s.setHst h x).groups = s.groups := by unfold State.setHst; exact mk_groups ..
@[simp] theorem State.setHst_pkts (s : State) (h : Nat) (x : HostFn) : (s.setHst h x).pkts = s.pkts := by unfold State.setHst; exact mk_pkts ..
@[simp] theorem State.setHst_nextPkt (s : State) (h : Nat) (x : HostFn) : (s.setHst h x).nextPkt = s.nextPkt := by unfold State.setHst; exact mk_nextPkt ..
@[simp] theorem State.setHst_reseq (s : State) (h : Nat) (x : HostFn) : (s.setHst h x).reseq = s.reseq := by unfold State.setHst; exact mk_reseq ..
@[simp] theorem State.setHst_clusters (s : State) (h : Nat) (x : HostFn) : (s.setHst h x).clusters = s.clusters := by unfold State.setHst; exact mk_clusters ..
@[simp] theorem State.setHst_threads (s : State) (h : Nat) (x : HostFn) : (s.setHst h x).threads = s.threads := by unfold State.setHst; exact mk_threads ..
@[simp] theorem State.setHst_cstore (s : State) (h : Nat) (x : HostFn) : (s.setHst h x).cstore = s.cstore := by unfold State.setHst; exact mk_cstore ..
@[simp] theorem State.setHst_img (s : State) (h : Nat) (x : HostFn) : (s.setHst h x).img = s.img := by unfold State.setHst; exact mk_img ..
@[simp] theorem State.setHst_tbl (s : State) (h : Nat) (x : HostFn) : (s.setHst h x).tbl = s.tbl := by unfold State.setHst; exact mk_tbl ..
@[simp] theorem State.setHst_cu (s : State) (h : Nat) (x : HostFn) : (s.setHst h x).cu = s.cu := by unfold State.setHst; exact mk_cu ..
@[simp] theorem State.setHst_epc (s : State) (h : Nat) (x : HostFn) : (s.setHst h x).epc = s.epc := by unfold State.setHst; exact mk_epc ..
@[simp] theorem State.setHst_buf (s : State) (h : Nat) (x : HostFn) : (s.setHst h x).buf = s.buf := by unfold State.setHst; exact mk_buf ..
@[simp] theorem State.setHst_sched (s : State) (h : Nat) (x : HostFn) : (s.setHst h x).sched = s.sched := by unfold State.setHst; exact mk_sched ..
@[simp] theorem State.setHst_led (s : State) (h : Nat) (x : HostFn) : (s.setHst h x).led = s.led := by unfold State.setHst; exact mk_led ..
@[simp] theorem State.setHst_tel (s : State) (h : Nat) (x : HostFn) : (s.setHst h x).tel = s.tel := by unfold State.setHst; exact mk_tel ..
@[simp] theorem State.setHst_rings (s : State) (h : Nat) (x : HostFn) : (s.setHst h x).rings = s.rings := by unfold State.setHst; exact mk_rings ..
@[simp] theorem State.setHst_dma (s : State) (h : Nat) (x : HostFn) : (s.setHst h x).dma = s.dma := by unfold State.setHst; exact mk_dma ..
@[simp] theorem State.setHst_dram (s : State) (h : Nat) (x : HostFn) : (s.setHst h x).dram = s.dram := by unfold State.setHst; exact mk_dram ..
@[simp] theorem State.setHst_flt (s : State) (h : Nat) (x : HostFn) : (s.setHst h x).flt = s.flt := by unfold State.setHst; exact mk_flt ..
@[simp] theorem State.setHst_chain (s : State) (h : Nat) (x : HostFn) : (s.setHst h x).chain = s.chain := by unfold State.setHst; exact mk_chain ..
@[simp] theorem State.setHst_frz (s : State) (h : Nat) (x : HostFn) : (s.setHst h x).frz = s.frz := by unfold State.setHst; exact mk_frz ..
@[simp] theorem State.setHst_dbg (s : State) (h : Nat) (x : HostFn) : (s.setHst h x).dbg = s.dbg := by unfold State.setHst; exact mk_dbg ..
@[simp] theorem State.setHst_free (s : State) (h : Nat) (x : HostFn) : (s.setHst h x).free = s.free := by unfold State.setHst; exact mk_free ..
@[simp] theorem State.setHst_out (s : State) (h : Nat) (x : HostFn) : (s.setHst h x).out = s.out := by unfold State.setHst; exact mk_out ..

@[simp] theorem State.setRing_pending (s : State) (h t : Nat) (x : Ring) : (s.setRing h t x).pending = s.pending := by unfold State.setRing; exact mk_pending ..
@[simp] theorem State.setRing_ident (s : State) (h t : Nat) (x : Ring) : (s.setRing h t x).ident = s.ident := by unfold State.setRing; exact mk_ident ..
@[simp] theorem State.setRing_straps (s : State) (h t : Nat) (x : Ring) : (s.setRing h t x).straps = s.straps := by unfold State.setRing; exact mk_straps ..
@[simp] theorem State.setRing_fuses (s : State) (h t : Nat) (x : Ring) : (s.setRing h t x).fuses = s.fuses := by unfold State.setRing; exact mk_fuses ..
@[simp] theorem State.setRing_time (s : State) (h t : Nat) (x : Ring) : (s.setRing h t x).time = s.time := by unfold State.setRing; exact mk_time ..
@[simp] theorem State.setRing_held (s : State) (h t : Nat) (x : Ring) : (s.setRing h t x).held = s.held := by unfold State.setRing; exact mk_held ..
@[simp] theorem State.setRing_wide (s : State) (h t : Nat) (x : Ring) : (s.setRing h t x).wide = s.wide := by unfold State.setRing; exact mk_wide ..
@[simp] theorem State.setRing_rxAt (s : State) (h t : Nat) (x : Ring) : (s.setRing h t x).rxAt = s.rxAt := by unfold State.setRing; exact mk_rxAt ..
@[simp] theorem State.setRing_priv (s : State) (h t : Nat) (x : Ring) : (s.setRing h t x).priv = s.priv := by unfold State.setRing; exact mk_priv ..
@[simp] theorem State.setRing_latch (s : State) (h t : Nat) (x : Ring) : (s.setRing h t x).latch = s.latch := by unfold State.setRing; exact mk_latch ..
@[simp] theorem State.setRing_dom (s : State) (h t : Nat) (x : Ring) : (s.setRing h t x).dom = s.dom := by unfold State.setRing; exact mk_dom ..
@[simp] theorem State.setRing_reload (s : State) (h t : Nat) (x : Ring) : (s.setRing h t x).reload = s.reload := by unfold State.setRing; exact mk_reload ..
@[simp] theorem State.setRing_clk (s : State) (h t : Nat) (x : Ring) : (s.setRing h t x).clk = s.clk := by unfold State.setRing; exact mk_clk ..
@[simp] theorem State.setRing_ports (s : State) (h t : Nat) (x : Ring) : (s.setRing h t x).ports = s.ports := by unfold State.setRing; exact mk_ports ..
@[simp] theorem State.setRing_cages (s : State) (h t : Nat) (x : Ring) : (s.setRing h t x).cages = s.cages := by unfold State.setRing; exact mk_cages ..
@[simp] theorem State.setRing_buses (s : State) (h t : Nat) (x : Ring) : (s.setRing h t x).buses = s.buses := by unfold State.setRing; exact mk_buses ..
@[simp] theorem State.setRing_groups (s : State) (h t : Nat) (x : Ring) : (s.setRing h t x).groups = s.groups := by unfold State.setRing; exact mk_groups ..
@[simp] theorem State.setRing_pkts (s : State) (h t : Nat) (x : Ring) : (s.setRing h t x).pkts = s.pkts := by unfold State.setRing; exact mk_pkts ..
@[simp] theorem State.setRing_nextPkt (s : State) (h t : Nat) (x : Ring) : (s.setRing h t x).nextPkt = s.nextPkt := by unfold State.setRing; exact mk_nextPkt ..
@[simp] theorem State.setRing_reseq (s : State) (h t : Nat) (x : Ring) : (s.setRing h t x).reseq = s.reseq := by unfold State.setRing; exact mk_reseq ..
@[simp] theorem State.setRing_clusters (s : State) (h t : Nat) (x : Ring) : (s.setRing h t x).clusters = s.clusters := by unfold State.setRing; exact mk_clusters ..
@[simp] theorem State.setRing_threads (s : State) (h t : Nat) (x : Ring) : (s.setRing h t x).threads = s.threads := by unfold State.setRing; exact mk_threads ..
@[simp] theorem State.setRing_cstore (s : State) (h t : Nat) (x : Ring) : (s.setRing h t x).cstore = s.cstore := by unfold State.setRing; exact mk_cstore ..
@[simp] theorem State.setRing_img (s : State) (h t : Nat) (x : Ring) : (s.setRing h t x).img = s.img := by unfold State.setRing; exact mk_img ..
@[simp] theorem State.setRing_tbl (s : State) (h t : Nat) (x : Ring) : (s.setRing h t x).tbl = s.tbl := by unfold State.setRing; exact mk_tbl ..
@[simp] theorem State.setRing_cu (s : State) (h t : Nat) (x : Ring) : (s.setRing h t x).cu = s.cu := by unfold State.setRing; exact mk_cu ..
@[simp] theorem State.setRing_epc (s : State) (h t : Nat) (x : Ring) : (s.setRing h t x).epc = s.epc := by unfold State.setRing; exact mk_epc ..
@[simp] theorem State.setRing_buf (s : State) (h t : Nat) (x : Ring) : (s.setRing h t x).buf = s.buf := by unfold State.setRing; exact mk_buf ..
@[simp] theorem State.setRing_sched (s : State) (h t : Nat) (x : Ring) : (s.setRing h t x).sched = s.sched := by unfold State.setRing; exact mk_sched ..
@[simp] theorem State.setRing_led (s : State) (h t : Nat) (x : Ring) : (s.setRing h t x).led = s.led := by unfold State.setRing; exact mk_led ..
@[simp] theorem State.setRing_tel (s : State) (h t : Nat) (x : Ring) : (s.setRing h t x).tel = s.tel := by unfold State.setRing; exact mk_tel ..
@[simp] theorem State.setRing_hosts (s : State) (h t : Nat) (x : Ring) : (s.setRing h t x).hosts = s.hosts := by unfold State.setRing; exact mk_hosts ..
@[simp] theorem State.setRing_dma (s : State) (h t : Nat) (x : Ring) : (s.setRing h t x).dma = s.dma := by unfold State.setRing; exact mk_dma ..
@[simp] theorem State.setRing_dram (s : State) (h t : Nat) (x : Ring) : (s.setRing h t x).dram = s.dram := by unfold State.setRing; exact mk_dram ..
@[simp] theorem State.setRing_flt (s : State) (h t : Nat) (x : Ring) : (s.setRing h t x).flt = s.flt := by unfold State.setRing; exact mk_flt ..
@[simp] theorem State.setRing_chain (s : State) (h t : Nat) (x : Ring) : (s.setRing h t x).chain = s.chain := by unfold State.setRing; exact mk_chain ..
@[simp] theorem State.setRing_frz (s : State) (h t : Nat) (x : Ring) : (s.setRing h t x).frz = s.frz := by unfold State.setRing; exact mk_frz ..
@[simp] theorem State.setRing_dbg (s : State) (h t : Nat) (x : Ring) : (s.setRing h t x).dbg = s.dbg := by unfold State.setRing; exact mk_dbg ..
@[simp] theorem State.setRing_free (s : State) (h t : Nat) (x : Ring) : (s.setRing h t x).free = s.free := by unfold State.setRing; exact mk_free ..
@[simp] theorem State.setRing_out (s : State) (h t : Nat) (x : Ring) : (s.setRing h t x).out = s.out := by unfold State.setRing; exact mk_out ..

@[simp] theorem State.setChan_pending (s : State) (n : Nat) (x : Chan) : (s.setChan n x).pending = s.pending := by unfold State.setChan; exact mk_pending ..
@[simp] theorem State.setChan_ident (s : State) (n : Nat) (x : Chan) : (s.setChan n x).ident = s.ident := by unfold State.setChan; exact mk_ident ..
@[simp] theorem State.setChan_straps (s : State) (n : Nat) (x : Chan) : (s.setChan n x).straps = s.straps := by unfold State.setChan; exact mk_straps ..
@[simp] theorem State.setChan_fuses (s : State) (n : Nat) (x : Chan) : (s.setChan n x).fuses = s.fuses := by unfold State.setChan; exact mk_fuses ..
@[simp] theorem State.setChan_time (s : State) (n : Nat) (x : Chan) : (s.setChan n x).time = s.time := by unfold State.setChan; exact mk_time ..
@[simp] theorem State.setChan_held (s : State) (n : Nat) (x : Chan) : (s.setChan n x).held = s.held := by unfold State.setChan; exact mk_held ..
@[simp] theorem State.setChan_wide (s : State) (n : Nat) (x : Chan) : (s.setChan n x).wide = s.wide := by unfold State.setChan; exact mk_wide ..
@[simp] theorem State.setChan_rxAt (s : State) (n : Nat) (x : Chan) : (s.setChan n x).rxAt = s.rxAt := by unfold State.setChan; exact mk_rxAt ..
@[simp] theorem State.setChan_priv (s : State) (n : Nat) (x : Chan) : (s.setChan n x).priv = s.priv := by unfold State.setChan; exact mk_priv ..
@[simp] theorem State.setChan_latch (s : State) (n : Nat) (x : Chan) : (s.setChan n x).latch = s.latch := by unfold State.setChan; exact mk_latch ..
@[simp] theorem State.setChan_dom (s : State) (n : Nat) (x : Chan) : (s.setChan n x).dom = s.dom := by unfold State.setChan; exact mk_dom ..
@[simp] theorem State.setChan_reload (s : State) (n : Nat) (x : Chan) : (s.setChan n x).reload = s.reload := by unfold State.setChan; exact mk_reload ..
@[simp] theorem State.setChan_clk (s : State) (n : Nat) (x : Chan) : (s.setChan n x).clk = s.clk := by unfold State.setChan; exact mk_clk ..
@[simp] theorem State.setChan_ports (s : State) (n : Nat) (x : Chan) : (s.setChan n x).ports = s.ports := by unfold State.setChan; exact mk_ports ..
@[simp] theorem State.setChan_cages (s : State) (n : Nat) (x : Chan) : (s.setChan n x).cages = s.cages := by unfold State.setChan; exact mk_cages ..
@[simp] theorem State.setChan_buses (s : State) (n : Nat) (x : Chan) : (s.setChan n x).buses = s.buses := by unfold State.setChan; exact mk_buses ..
@[simp] theorem State.setChan_groups (s : State) (n : Nat) (x : Chan) : (s.setChan n x).groups = s.groups := by unfold State.setChan; exact mk_groups ..
@[simp] theorem State.setChan_pkts (s : State) (n : Nat) (x : Chan) : (s.setChan n x).pkts = s.pkts := by unfold State.setChan; exact mk_pkts ..
@[simp] theorem State.setChan_nextPkt (s : State) (n : Nat) (x : Chan) : (s.setChan n x).nextPkt = s.nextPkt := by unfold State.setChan; exact mk_nextPkt ..
@[simp] theorem State.setChan_reseq (s : State) (n : Nat) (x : Chan) : (s.setChan n x).reseq = s.reseq := by unfold State.setChan; exact mk_reseq ..
@[simp] theorem State.setChan_clusters (s : State) (n : Nat) (x : Chan) : (s.setChan n x).clusters = s.clusters := by unfold State.setChan; exact mk_clusters ..
@[simp] theorem State.setChan_threads (s : State) (n : Nat) (x : Chan) : (s.setChan n x).threads = s.threads := by unfold State.setChan; exact mk_threads ..
@[simp] theorem State.setChan_cstore (s : State) (n : Nat) (x : Chan) : (s.setChan n x).cstore = s.cstore := by unfold State.setChan; exact mk_cstore ..
@[simp] theorem State.setChan_img (s : State) (n : Nat) (x : Chan) : (s.setChan n x).img = s.img := by unfold State.setChan; exact mk_img ..
@[simp] theorem State.setChan_tbl (s : State) (n : Nat) (x : Chan) : (s.setChan n x).tbl = s.tbl := by unfold State.setChan; exact mk_tbl ..
@[simp] theorem State.setChan_cu (s : State) (n : Nat) (x : Chan) : (s.setChan n x).cu = s.cu := by unfold State.setChan; exact mk_cu ..
@[simp] theorem State.setChan_epc (s : State) (n : Nat) (x : Chan) : (s.setChan n x).epc = s.epc := by unfold State.setChan; exact mk_epc ..
@[simp] theorem State.setChan_buf (s : State) (n : Nat) (x : Chan) : (s.setChan n x).buf = s.buf := by unfold State.setChan; exact mk_buf ..
@[simp] theorem State.setChan_sched (s : State) (n : Nat) (x : Chan) : (s.setChan n x).sched = s.sched := by unfold State.setChan; exact mk_sched ..
@[simp] theorem State.setChan_led (s : State) (n : Nat) (x : Chan) : (s.setChan n x).led = s.led := by unfold State.setChan; exact mk_led ..
@[simp] theorem State.setChan_tel (s : State) (n : Nat) (x : Chan) : (s.setChan n x).tel = s.tel := by unfold State.setChan; exact mk_tel ..
@[simp] theorem State.setChan_hosts (s : State) (n : Nat) (x : Chan) : (s.setChan n x).hosts = s.hosts := by unfold State.setChan; exact mk_hosts ..
@[simp] theorem State.setChan_rings (s : State) (n : Nat) (x : Chan) : (s.setChan n x).rings = s.rings := by unfold State.setChan; exact mk_rings ..
@[simp] theorem State.setChan_dram (s : State) (n : Nat) (x : Chan) : (s.setChan n x).dram = s.dram := by unfold State.setChan; exact mk_dram ..
@[simp] theorem State.setChan_flt (s : State) (n : Nat) (x : Chan) : (s.setChan n x).flt = s.flt := by unfold State.setChan; exact mk_flt ..
@[simp] theorem State.setChan_chain (s : State) (n : Nat) (x : Chan) : (s.setChan n x).chain = s.chain := by unfold State.setChan; exact mk_chain ..
@[simp] theorem State.setChan_frz (s : State) (n : Nat) (x : Chan) : (s.setChan n x).frz = s.frz := by unfold State.setChan; exact mk_frz ..
@[simp] theorem State.setChan_dbg (s : State) (n : Nat) (x : Chan) : (s.setChan n x).dbg = s.dbg := by unfold State.setChan; exact mk_dbg ..
@[simp] theorem State.setChan_free (s : State) (n : Nat) (x : Chan) : (s.setChan n x).free = s.free := by unfold State.setChan; exact mk_free ..
@[simp] theorem State.setChan_out (s : State) (n : Nat) (x : Chan) : (s.setChan n x).out = s.out := by unfold State.setChan; exact mk_out ..

@[simp] theorem State.setDch_pending (s : State) (c : Nat) (x : DCh) : (s.setDch c x).pending = s.pending := by unfold State.setDch; exact mk_pending ..
@[simp] theorem State.setDch_ident (s : State) (c : Nat) (x : DCh) : (s.setDch c x).ident = s.ident := by unfold State.setDch; exact mk_ident ..
@[simp] theorem State.setDch_straps (s : State) (c : Nat) (x : DCh) : (s.setDch c x).straps = s.straps := by unfold State.setDch; exact mk_straps ..
@[simp] theorem State.setDch_fuses (s : State) (c : Nat) (x : DCh) : (s.setDch c x).fuses = s.fuses := by unfold State.setDch; exact mk_fuses ..
@[simp] theorem State.setDch_time (s : State) (c : Nat) (x : DCh) : (s.setDch c x).time = s.time := by unfold State.setDch; exact mk_time ..
@[simp] theorem State.setDch_held (s : State) (c : Nat) (x : DCh) : (s.setDch c x).held = s.held := by unfold State.setDch; exact mk_held ..
@[simp] theorem State.setDch_wide (s : State) (c : Nat) (x : DCh) : (s.setDch c x).wide = s.wide := by unfold State.setDch; exact mk_wide ..
@[simp] theorem State.setDch_rxAt (s : State) (c : Nat) (x : DCh) : (s.setDch c x).rxAt = s.rxAt := by unfold State.setDch; exact mk_rxAt ..
@[simp] theorem State.setDch_priv (s : State) (c : Nat) (x : DCh) : (s.setDch c x).priv = s.priv := by unfold State.setDch; exact mk_priv ..
@[simp] theorem State.setDch_latch (s : State) (c : Nat) (x : DCh) : (s.setDch c x).latch = s.latch := by unfold State.setDch; exact mk_latch ..
@[simp] theorem State.setDch_dom (s : State) (c : Nat) (x : DCh) : (s.setDch c x).dom = s.dom := by unfold State.setDch; exact mk_dom ..
@[simp] theorem State.setDch_reload (s : State) (c : Nat) (x : DCh) : (s.setDch c x).reload = s.reload := by unfold State.setDch; exact mk_reload ..
@[simp] theorem State.setDch_clk (s : State) (c : Nat) (x : DCh) : (s.setDch c x).clk = s.clk := by unfold State.setDch; exact mk_clk ..
@[simp] theorem State.setDch_ports (s : State) (c : Nat) (x : DCh) : (s.setDch c x).ports = s.ports := by unfold State.setDch; exact mk_ports ..
@[simp] theorem State.setDch_cages (s : State) (c : Nat) (x : DCh) : (s.setDch c x).cages = s.cages := by unfold State.setDch; exact mk_cages ..
@[simp] theorem State.setDch_buses (s : State) (c : Nat) (x : DCh) : (s.setDch c x).buses = s.buses := by unfold State.setDch; exact mk_buses ..
@[simp] theorem State.setDch_groups (s : State) (c : Nat) (x : DCh) : (s.setDch c x).groups = s.groups := by unfold State.setDch; exact mk_groups ..
@[simp] theorem State.setDch_pkts (s : State) (c : Nat) (x : DCh) : (s.setDch c x).pkts = s.pkts := by unfold State.setDch; exact mk_pkts ..
@[simp] theorem State.setDch_nextPkt (s : State) (c : Nat) (x : DCh) : (s.setDch c x).nextPkt = s.nextPkt := by unfold State.setDch; exact mk_nextPkt ..
@[simp] theorem State.setDch_reseq (s : State) (c : Nat) (x : DCh) : (s.setDch c x).reseq = s.reseq := by unfold State.setDch; exact mk_reseq ..
@[simp] theorem State.setDch_clusters (s : State) (c : Nat) (x : DCh) : (s.setDch c x).clusters = s.clusters := by unfold State.setDch; exact mk_clusters ..
@[simp] theorem State.setDch_threads (s : State) (c : Nat) (x : DCh) : (s.setDch c x).threads = s.threads := by unfold State.setDch; exact mk_threads ..
@[simp] theorem State.setDch_cstore (s : State) (c : Nat) (x : DCh) : (s.setDch c x).cstore = s.cstore := by unfold State.setDch; exact mk_cstore ..
@[simp] theorem State.setDch_img (s : State) (c : Nat) (x : DCh) : (s.setDch c x).img = s.img := by unfold State.setDch; exact mk_img ..
@[simp] theorem State.setDch_tbl (s : State) (c : Nat) (x : DCh) : (s.setDch c x).tbl = s.tbl := by unfold State.setDch; exact mk_tbl ..
@[simp] theorem State.setDch_cu (s : State) (c : Nat) (x : DCh) : (s.setDch c x).cu = s.cu := by unfold State.setDch; exact mk_cu ..
@[simp] theorem State.setDch_epc (s : State) (c : Nat) (x : DCh) : (s.setDch c x).epc = s.epc := by unfold State.setDch; exact mk_epc ..
@[simp] theorem State.setDch_buf (s : State) (c : Nat) (x : DCh) : (s.setDch c x).buf = s.buf := by unfold State.setDch; exact mk_buf ..
@[simp] theorem State.setDch_sched (s : State) (c : Nat) (x : DCh) : (s.setDch c x).sched = s.sched := by unfold State.setDch; exact mk_sched ..
@[simp] theorem State.setDch_led (s : State) (c : Nat) (x : DCh) : (s.setDch c x).led = s.led := by unfold State.setDch; exact mk_led ..
@[simp] theorem State.setDch_tel (s : State) (c : Nat) (x : DCh) : (s.setDch c x).tel = s.tel := by unfold State.setDch; exact mk_tel ..
@[simp] theorem State.setDch_hosts (s : State) (c : Nat) (x : DCh) : (s.setDch c x).hosts = s.hosts := by unfold State.setDch; exact mk_hosts ..
@[simp] theorem State.setDch_rings (s : State) (c : Nat) (x : DCh) : (s.setDch c x).rings = s.rings := by unfold State.setDch; exact mk_rings ..
@[simp] theorem State.setDch_dma (s : State) (c : Nat) (x : DCh) : (s.setDch c x).dma = s.dma := by unfold State.setDch; exact mk_dma ..
@[simp] theorem State.setDch_flt (s : State) (c : Nat) (x : DCh) : (s.setDch c x).flt = s.flt := by unfold State.setDch; exact mk_flt ..
@[simp] theorem State.setDch_chain (s : State) (c : Nat) (x : DCh) : (s.setDch c x).chain = s.chain := by unfold State.setDch; exact mk_chain ..
@[simp] theorem State.setDch_frz (s : State) (c : Nat) (x : DCh) : (s.setDch c x).frz = s.frz := by unfold State.setDch; exact mk_frz ..
@[simp] theorem State.setDch_dbg (s : State) (c : Nat) (x : DCh) : (s.setDch c x).dbg = s.dbg := by unfold State.setDch; exact mk_dbg ..
@[simp] theorem State.setDch_free (s : State) (c : Nat) (x : DCh) : (s.setDch c x).free = s.free := by unfold State.setDch; exact mk_free ..
@[simp] theorem State.setDch_out (s : State) (c : Nat) (x : DCh) : (s.setDch c x).out = s.out := by unfold State.setDch; exact mk_out ..

@[simp] theorem State.setImg_pending (s : State) (x : ImagePort) : (s.setImg x).pending = s.pending := by unfold State.setImg; exact mk_pending ..
@[simp] theorem State.setImg_ident (s : State) (x : ImagePort) : (s.setImg x).ident = s.ident := by unfold State.setImg; exact mk_ident ..
@[simp] theorem State.setImg_straps (s : State) (x : ImagePort) : (s.setImg x).straps = s.straps := by unfold State.setImg; exact mk_straps ..
@[simp] theorem State.setImg_fuses (s : State) (x : ImagePort) : (s.setImg x).fuses = s.fuses := by unfold State.setImg; exact mk_fuses ..
@[simp] theorem State.setImg_time (s : State) (x : ImagePort) : (s.setImg x).time = s.time := by unfold State.setImg; exact mk_time ..
@[simp] theorem State.setImg_held (s : State) (x : ImagePort) : (s.setImg x).held = s.held := by unfold State.setImg; exact mk_held ..
@[simp] theorem State.setImg_wide (s : State) (x : ImagePort) : (s.setImg x).wide = s.wide := by unfold State.setImg; exact mk_wide ..
@[simp] theorem State.setImg_rxAt (s : State) (x : ImagePort) : (s.setImg x).rxAt = s.rxAt := by unfold State.setImg; exact mk_rxAt ..
@[simp] theorem State.setImg_priv (s : State) (x : ImagePort) : (s.setImg x).priv = s.priv := by unfold State.setImg; exact mk_priv ..
@[simp] theorem State.setImg_latch (s : State) (x : ImagePort) : (s.setImg x).latch = s.latch := by unfold State.setImg; exact mk_latch ..
@[simp] theorem State.setImg_dom (s : State) (x : ImagePort) : (s.setImg x).dom = s.dom := by unfold State.setImg; exact mk_dom ..
@[simp] theorem State.setImg_reload (s : State) (x : ImagePort) : (s.setImg x).reload = s.reload := by unfold State.setImg; exact mk_reload ..
@[simp] theorem State.setImg_clk (s : State) (x : ImagePort) : (s.setImg x).clk = s.clk := by unfold State.setImg; exact mk_clk ..
@[simp] theorem State.setImg_ports (s : State) (x : ImagePort) : (s.setImg x).ports = s.ports := by unfold State.setImg; exact mk_ports ..
@[simp] theorem State.setImg_cages (s : State) (x : ImagePort) : (s.setImg x).cages = s.cages := by unfold State.setImg; exact mk_cages ..
@[simp] theorem State.setImg_buses (s : State) (x : ImagePort) : (s.setImg x).buses = s.buses := by unfold State.setImg; exact mk_buses ..
@[simp] theorem State.setImg_groups (s : State) (x : ImagePort) : (s.setImg x).groups = s.groups := by unfold State.setImg; exact mk_groups ..
@[simp] theorem State.setImg_pkts (s : State) (x : ImagePort) : (s.setImg x).pkts = s.pkts := by unfold State.setImg; exact mk_pkts ..
@[simp] theorem State.setImg_nextPkt (s : State) (x : ImagePort) : (s.setImg x).nextPkt = s.nextPkt := by unfold State.setImg; exact mk_nextPkt ..
@[simp] theorem State.setImg_reseq (s : State) (x : ImagePort) : (s.setImg x).reseq = s.reseq := by unfold State.setImg; exact mk_reseq ..
@[simp] theorem State.setImg_clusters (s : State) (x : ImagePort) : (s.setImg x).clusters = s.clusters := by unfold State.setImg; exact mk_clusters ..
@[simp] theorem State.setImg_threads (s : State) (x : ImagePort) : (s.setImg x).threads = s.threads := by unfold State.setImg; exact mk_threads ..
@[simp] theorem State.setImg_cstore (s : State) (x : ImagePort) : (s.setImg x).cstore = s.cstore := by unfold State.setImg; exact mk_cstore ..
@[simp] theorem State.setImg_tbl (s : State) (x : ImagePort) : (s.setImg x).tbl = s.tbl := by unfold State.setImg; exact mk_tbl ..
@[simp] theorem State.setImg_cu (s : State) (x : ImagePort) : (s.setImg x).cu = s.cu := by unfold State.setImg; exact mk_cu ..
@[simp] theorem State.setImg_epc (s : State) (x : ImagePort) : (s.setImg x).epc = s.epc := by unfold State.setImg; exact mk_epc ..
@[simp] theorem State.setImg_buf (s : State) (x : ImagePort) : (s.setImg x).buf = s.buf := by unfold State.setImg; exact mk_buf ..
@[simp] theorem State.setImg_sched (s : State) (x : ImagePort) : (s.setImg x).sched = s.sched := by unfold State.setImg; exact mk_sched ..
@[simp] theorem State.setImg_led (s : State) (x : ImagePort) : (s.setImg x).led = s.led := by unfold State.setImg; exact mk_led ..
@[simp] theorem State.setImg_tel (s : State) (x : ImagePort) : (s.setImg x).tel = s.tel := by unfold State.setImg; exact mk_tel ..
@[simp] theorem State.setImg_hosts (s : State) (x : ImagePort) : (s.setImg x).hosts = s.hosts := by unfold State.setImg; exact mk_hosts ..
@[simp] theorem State.setImg_rings (s : State) (x : ImagePort) : (s.setImg x).rings = s.rings := by unfold State.setImg; exact mk_rings ..
@[simp] theorem State.setImg_dma (s : State) (x : ImagePort) : (s.setImg x).dma = s.dma := by unfold State.setImg; exact mk_dma ..
@[simp] theorem State.setImg_dram (s : State) (x : ImagePort) : (s.setImg x).dram = s.dram := by unfold State.setImg; exact mk_dram ..
@[simp] theorem State.setImg_flt (s : State) (x : ImagePort) : (s.setImg x).flt = s.flt := by unfold State.setImg; exact mk_flt ..
@[simp] theorem State.setImg_chain (s : State) (x : ImagePort) : (s.setImg x).chain = s.chain := by unfold State.setImg; exact mk_chain ..
@[simp] theorem State.setImg_frz (s : State) (x : ImagePort) : (s.setImg x).frz = s.frz := by unfold State.setImg; exact mk_frz ..
@[simp] theorem State.setImg_dbg (s : State) (x : ImagePort) : (s.setImg x).dbg = s.dbg := by unfold State.setImg; exact mk_dbg ..
@[simp] theorem State.setImg_free (s : State) (x : ImagePort) : (s.setImg x).free = s.free := by unfold State.setImg; exact mk_free ..
@[simp] theorem State.setImg_out (s : State) (x : ImagePort) : (s.setImg x).out = s.out := by unfold State.setImg; exact mk_out ..

@[simp] theorem State.setQueue_pending (s : State) (q : Nat) (l : List Nat) : (s.setQueue q l).pending = s.pending := by unfold State.setQueue; exact mk_pending ..
@[simp] theorem State.setQueue_ident (s : State) (q : Nat) (l : List Nat) : (s.setQueue q l).ident = s.ident := by unfold State.setQueue; exact mk_ident ..
@[simp] theorem State.setQueue_straps (s : State) (q : Nat) (l : List Nat) : (s.setQueue q l).straps = s.straps := by unfold State.setQueue; exact mk_straps ..
@[simp] theorem State.setQueue_fuses (s : State) (q : Nat) (l : List Nat) : (s.setQueue q l).fuses = s.fuses := by unfold State.setQueue; exact mk_fuses ..
@[simp] theorem State.setQueue_time (s : State) (q : Nat) (l : List Nat) : (s.setQueue q l).time = s.time := by unfold State.setQueue; exact mk_time ..
@[simp] theorem State.setQueue_held (s : State) (q : Nat) (l : List Nat) : (s.setQueue q l).held = s.held := by unfold State.setQueue; exact mk_held ..
@[simp] theorem State.setQueue_wide (s : State) (q : Nat) (l : List Nat) : (s.setQueue q l).wide = s.wide := by unfold State.setQueue; exact mk_wide ..
@[simp] theorem State.setQueue_rxAt (s : State) (q : Nat) (l : List Nat) : (s.setQueue q l).rxAt = s.rxAt := by unfold State.setQueue; exact mk_rxAt ..
@[simp] theorem State.setQueue_priv (s : State) (q : Nat) (l : List Nat) : (s.setQueue q l).priv = s.priv := by unfold State.setQueue; exact mk_priv ..
@[simp] theorem State.setQueue_latch (s : State) (q : Nat) (l : List Nat) : (s.setQueue q l).latch = s.latch := by unfold State.setQueue; exact mk_latch ..
@[simp] theorem State.setQueue_dom (s : State) (q : Nat) (l : List Nat) : (s.setQueue q l).dom = s.dom := by unfold State.setQueue; exact mk_dom ..
@[simp] theorem State.setQueue_reload (s : State) (q : Nat) (l : List Nat) : (s.setQueue q l).reload = s.reload := by unfold State.setQueue; exact mk_reload ..
@[simp] theorem State.setQueue_clk (s : State) (q : Nat) (l : List Nat) : (s.setQueue q l).clk = s.clk := by unfold State.setQueue; exact mk_clk ..
@[simp] theorem State.setQueue_ports (s : State) (q : Nat) (l : List Nat) : (s.setQueue q l).ports = s.ports := by unfold State.setQueue; exact mk_ports ..
@[simp] theorem State.setQueue_cages (s : State) (q : Nat) (l : List Nat) : (s.setQueue q l).cages = s.cages := by unfold State.setQueue; exact mk_cages ..
@[simp] theorem State.setQueue_buses (s : State) (q : Nat) (l : List Nat) : (s.setQueue q l).buses = s.buses := by unfold State.setQueue; exact mk_buses ..
@[simp] theorem State.setQueue_groups (s : State) (q : Nat) (l : List Nat) : (s.setQueue q l).groups = s.groups := by unfold State.setQueue; exact mk_groups ..
@[simp] theorem State.setQueue_pkts (s : State) (q : Nat) (l : List Nat) : (s.setQueue q l).pkts = s.pkts := by unfold State.setQueue; exact mk_pkts ..
@[simp] theorem State.setQueue_nextPkt (s : State) (q : Nat) (l : List Nat) : (s.setQueue q l).nextPkt = s.nextPkt := by unfold State.setQueue; exact mk_nextPkt ..
@[simp] theorem State.setQueue_reseq (s : State) (q : Nat) (l : List Nat) : (s.setQueue q l).reseq = s.reseq := by unfold State.setQueue; exact mk_reseq ..
@[simp] theorem State.setQueue_clusters (s : State) (q : Nat) (l : List Nat) : (s.setQueue q l).clusters = s.clusters := by unfold State.setQueue; exact mk_clusters ..
@[simp] theorem State.setQueue_threads (s : State) (q : Nat) (l : List Nat) : (s.setQueue q l).threads = s.threads := by unfold State.setQueue; exact mk_threads ..
@[simp] theorem State.setQueue_cstore (s : State) (q : Nat) (l : List Nat) : (s.setQueue q l).cstore = s.cstore := by unfold State.setQueue; exact mk_cstore ..
@[simp] theorem State.setQueue_img (s : State) (q : Nat) (l : List Nat) : (s.setQueue q l).img = s.img := by unfold State.setQueue; exact mk_img ..
@[simp] theorem State.setQueue_tbl (s : State) (q : Nat) (l : List Nat) : (s.setQueue q l).tbl = s.tbl := by unfold State.setQueue; exact mk_tbl ..
@[simp] theorem State.setQueue_cu (s : State) (q : Nat) (l : List Nat) : (s.setQueue q l).cu = s.cu := by unfold State.setQueue; exact mk_cu ..
@[simp] theorem State.setQueue_epc (s : State) (q : Nat) (l : List Nat) : (s.setQueue q l).epc = s.epc := by unfold State.setQueue; exact mk_epc ..
@[simp] theorem State.setQueue_sched (s : State) (q : Nat) (l : List Nat) : (s.setQueue q l).sched = s.sched := by unfold State.setQueue; exact mk_sched ..
@[simp] theorem State.setQueue_led (s : State) (q : Nat) (l : List Nat) : (s.setQueue q l).led = s.led := by unfold State.setQueue; exact mk_led ..
@[simp] theorem State.setQueue_tel (s : State) (q : Nat) (l : List Nat) : (s.setQueue q l).tel = s.tel := by unfold State.setQueue; exact mk_tel ..
@[simp] theorem State.setQueue_hosts (s : State) (q : Nat) (l : List Nat) : (s.setQueue q l).hosts = s.hosts := by unfold State.setQueue; exact mk_hosts ..
@[simp] theorem State.setQueue_rings (s : State) (q : Nat) (l : List Nat) : (s.setQueue q l).rings = s.rings := by unfold State.setQueue; exact mk_rings ..
@[simp] theorem State.setQueue_dma (s : State) (q : Nat) (l : List Nat) : (s.setQueue q l).dma = s.dma := by unfold State.setQueue; exact mk_dma ..
@[simp] theorem State.setQueue_dram (s : State) (q : Nat) (l : List Nat) : (s.setQueue q l).dram = s.dram := by unfold State.setQueue; exact mk_dram ..
@[simp] theorem State.setQueue_flt (s : State) (q : Nat) (l : List Nat) : (s.setQueue q l).flt = s.flt := by unfold State.setQueue; exact mk_flt ..
@[simp] theorem State.setQueue_chain (s : State) (q : Nat) (l : List Nat) : (s.setQueue q l).chain = s.chain := by unfold State.setQueue; exact mk_chain ..
@[simp] theorem State.setQueue_frz (s : State) (q : Nat) (l : List Nat) : (s.setQueue q l).frz = s.frz := by unfold State.setQueue; exact mk_frz ..
@[simp] theorem State.setQueue_dbg (s : State) (q : Nat) (l : List Nat) : (s.setQueue q l).dbg = s.dbg := by unfold State.setQueue; exact mk_dbg ..
@[simp] theorem State.setQueue_free (s : State) (q : Nat) (l : List Nat) : (s.setQueue q l).free = s.free := by unfold State.setQueue; exact mk_free ..
@[simp] theorem State.setQueue_out (s : State) (q : Nat) (l : List Nat) : (s.setQueue q l).out = s.out := by unfold State.setQueue; exact mk_out ..

@[simp] theorem State.dramSet_pending (s : State) (a : Nat) (b : Byte) : (s.dramSet a b).pending = s.pending := by unfold State.dramSet; exact mk_pending ..
@[simp] theorem State.dramSet_ident (s : State) (a : Nat) (b : Byte) : (s.dramSet a b).ident = s.ident := by unfold State.dramSet; exact mk_ident ..
@[simp] theorem State.dramSet_straps (s : State) (a : Nat) (b : Byte) : (s.dramSet a b).straps = s.straps := by unfold State.dramSet; exact mk_straps ..
@[simp] theorem State.dramSet_fuses (s : State) (a : Nat) (b : Byte) : (s.dramSet a b).fuses = s.fuses := by unfold State.dramSet; exact mk_fuses ..
@[simp] theorem State.dramSet_time (s : State) (a : Nat) (b : Byte) : (s.dramSet a b).time = s.time := by unfold State.dramSet; exact mk_time ..
@[simp] theorem State.dramSet_held (s : State) (a : Nat) (b : Byte) : (s.dramSet a b).held = s.held := by unfold State.dramSet; exact mk_held ..
@[simp] theorem State.dramSet_wide (s : State) (a : Nat) (b : Byte) : (s.dramSet a b).wide = s.wide := by unfold State.dramSet; exact mk_wide ..
@[simp] theorem State.dramSet_rxAt (s : State) (a : Nat) (b : Byte) : (s.dramSet a b).rxAt = s.rxAt := by unfold State.dramSet; exact mk_rxAt ..
@[simp] theorem State.dramSet_priv (s : State) (a : Nat) (b : Byte) : (s.dramSet a b).priv = s.priv := by unfold State.dramSet; exact mk_priv ..
@[simp] theorem State.dramSet_latch (s : State) (a : Nat) (b : Byte) : (s.dramSet a b).latch = s.latch := by unfold State.dramSet; exact mk_latch ..
@[simp] theorem State.dramSet_dom (s : State) (a : Nat) (b : Byte) : (s.dramSet a b).dom = s.dom := by unfold State.dramSet; exact mk_dom ..
@[simp] theorem State.dramSet_reload (s : State) (a : Nat) (b : Byte) : (s.dramSet a b).reload = s.reload := by unfold State.dramSet; exact mk_reload ..
@[simp] theorem State.dramSet_clk (s : State) (a : Nat) (b : Byte) : (s.dramSet a b).clk = s.clk := by unfold State.dramSet; exact mk_clk ..
@[simp] theorem State.dramSet_ports (s : State) (a : Nat) (b : Byte) : (s.dramSet a b).ports = s.ports := by unfold State.dramSet; exact mk_ports ..
@[simp] theorem State.dramSet_cages (s : State) (a : Nat) (b : Byte) : (s.dramSet a b).cages = s.cages := by unfold State.dramSet; exact mk_cages ..
@[simp] theorem State.dramSet_buses (s : State) (a : Nat) (b : Byte) : (s.dramSet a b).buses = s.buses := by unfold State.dramSet; exact mk_buses ..
@[simp] theorem State.dramSet_groups (s : State) (a : Nat) (b : Byte) : (s.dramSet a b).groups = s.groups := by unfold State.dramSet; exact mk_groups ..
@[simp] theorem State.dramSet_pkts (s : State) (a : Nat) (b : Byte) : (s.dramSet a b).pkts = s.pkts := by unfold State.dramSet; exact mk_pkts ..
@[simp] theorem State.dramSet_nextPkt (s : State) (a : Nat) (b : Byte) : (s.dramSet a b).nextPkt = s.nextPkt := by unfold State.dramSet; exact mk_nextPkt ..
@[simp] theorem State.dramSet_reseq (s : State) (a : Nat) (b : Byte) : (s.dramSet a b).reseq = s.reseq := by unfold State.dramSet; exact mk_reseq ..
@[simp] theorem State.dramSet_clusters (s : State) (a : Nat) (b : Byte) : (s.dramSet a b).clusters = s.clusters := by unfold State.dramSet; exact mk_clusters ..
@[simp] theorem State.dramSet_threads (s : State) (a : Nat) (b : Byte) : (s.dramSet a b).threads = s.threads := by unfold State.dramSet; exact mk_threads ..
@[simp] theorem State.dramSet_cstore (s : State) (a : Nat) (b : Byte) : (s.dramSet a b).cstore = s.cstore := by unfold State.dramSet; exact mk_cstore ..
@[simp] theorem State.dramSet_img (s : State) (a : Nat) (b : Byte) : (s.dramSet a b).img = s.img := by unfold State.dramSet; exact mk_img ..
@[simp] theorem State.dramSet_tbl (s : State) (a : Nat) (b : Byte) : (s.dramSet a b).tbl = s.tbl := by unfold State.dramSet; exact mk_tbl ..
@[simp] theorem State.dramSet_cu (s : State) (a : Nat) (b : Byte) : (s.dramSet a b).cu = s.cu := by unfold State.dramSet; exact mk_cu ..
@[simp] theorem State.dramSet_epc (s : State) (a : Nat) (b : Byte) : (s.dramSet a b).epc = s.epc := by unfold State.dramSet; exact mk_epc ..
@[simp] theorem State.dramSet_buf (s : State) (a : Nat) (b : Byte) : (s.dramSet a b).buf = s.buf := by unfold State.dramSet; exact mk_buf ..
@[simp] theorem State.dramSet_sched (s : State) (a : Nat) (b : Byte) : (s.dramSet a b).sched = s.sched := by unfold State.dramSet; exact mk_sched ..
@[simp] theorem State.dramSet_led (s : State) (a : Nat) (b : Byte) : (s.dramSet a b).led = s.led := by unfold State.dramSet; exact mk_led ..
@[simp] theorem State.dramSet_tel (s : State) (a : Nat) (b : Byte) : (s.dramSet a b).tel = s.tel := by unfold State.dramSet; exact mk_tel ..
@[simp] theorem State.dramSet_hosts (s : State) (a : Nat) (b : Byte) : (s.dramSet a b).hosts = s.hosts := by unfold State.dramSet; exact mk_hosts ..
@[simp] theorem State.dramSet_rings (s : State) (a : Nat) (b : Byte) : (s.dramSet a b).rings = s.rings := by unfold State.dramSet; exact mk_rings ..
@[simp] theorem State.dramSet_dma (s : State) (a : Nat) (b : Byte) : (s.dramSet a b).dma = s.dma := by unfold State.dramSet; exact mk_dma ..
@[simp] theorem State.dramSet_flt (s : State) (a : Nat) (b : Byte) : (s.dramSet a b).flt = s.flt := by unfold State.dramSet; exact mk_flt ..
@[simp] theorem State.dramSet_chain (s : State) (a : Nat) (b : Byte) : (s.dramSet a b).chain = s.chain := by unfold State.dramSet; exact mk_chain ..
@[simp] theorem State.dramSet_frz (s : State) (a : Nat) (b : Byte) : (s.dramSet a b).frz = s.frz := by unfold State.dramSet; exact mk_frz ..
@[simp] theorem State.dramSet_dbg (s : State) (a : Nat) (b : Byte) : (s.dramSet a b).dbg = s.dbg := by unfold State.dramSet; exact mk_dbg ..
@[simp] theorem State.dramSet_free (s : State) (a : Nat) (b : Byte) : (s.dramSet a b).free = s.free := by unfold State.dramSet; exact mk_free ..
@[simp] theorem State.dramSet_out (s : State) (a : Nat) (b : Byte) : (s.dramSet a b).out = s.out := by unfold State.dramSet; exact mk_out ..

@[simp] theorem State.intSweep_pending (s : State) : s.intSweep.pending = s.pending := by unfold State.intSweep; exact mk_pending ..
@[simp] theorem State.intSweep_ident (s : State) : s.intSweep.ident = s.ident := by unfold State.intSweep; exact mk_ident ..
@[simp] theorem State.intSweep_straps (s : State) : s.intSweep.straps = s.straps := by unfold State.intSweep; exact mk_straps ..
@[simp] theorem State.intSweep_fuses (s : State) : s.intSweep.fuses = s.fuses := by unfold State.intSweep; exact mk_fuses ..
@[simp] theorem State.intSweep_time (s : State) : s.intSweep.time = s.time := by unfold State.intSweep; exact mk_time ..
@[simp] theorem State.intSweep_held (s : State) : s.intSweep.held = s.held := by unfold State.intSweep; exact mk_held ..
@[simp] theorem State.intSweep_wide (s : State) : s.intSweep.wide = s.wide := by unfold State.intSweep; exact mk_wide ..
@[simp] theorem State.intSweep_rxAt (s : State) : s.intSweep.rxAt = s.rxAt := by unfold State.intSweep; exact mk_rxAt ..
@[simp] theorem State.intSweep_priv (s : State) : s.intSweep.priv = s.priv := by unfold State.intSweep; exact mk_priv ..
@[simp] theorem State.intSweep_latch (s : State) : s.intSweep.latch = s.latch := by unfold State.intSweep; exact mk_latch ..
@[simp] theorem State.intSweep_dom (s : State) : s.intSweep.dom = s.dom := by unfold State.intSweep; exact mk_dom ..
@[simp] theorem State.intSweep_reload (s : State) : s.intSweep.reload = s.reload := by unfold State.intSweep; exact mk_reload ..
@[simp] theorem State.intSweep_clk (s : State) : s.intSweep.clk = s.clk := by unfold State.intSweep; exact mk_clk ..
@[simp] theorem State.intSweep_ports (s : State) : s.intSweep.ports = s.ports := by unfold State.intSweep; exact mk_ports ..
@[simp] theorem State.intSweep_cages (s : State) : s.intSweep.cages = s.cages := by unfold State.intSweep; exact mk_cages ..
@[simp] theorem State.intSweep_buses (s : State) : s.intSweep.buses = s.buses := by unfold State.intSweep; exact mk_buses ..
@[simp] theorem State.intSweep_groups (s : State) : s.intSweep.groups = s.groups := by unfold State.intSweep; exact mk_groups ..
@[simp] theorem State.intSweep_pkts (s : State) : s.intSweep.pkts = s.pkts := by unfold State.intSweep; exact mk_pkts ..
@[simp] theorem State.intSweep_nextPkt (s : State) : s.intSweep.nextPkt = s.nextPkt := by unfold State.intSweep; exact mk_nextPkt ..
@[simp] theorem State.intSweep_reseq (s : State) : s.intSweep.reseq = s.reseq := by unfold State.intSweep; exact mk_reseq ..
@[simp] theorem State.intSweep_clusters (s : State) : s.intSweep.clusters = s.clusters := by unfold State.intSweep; exact mk_clusters ..
@[simp] theorem State.intSweep_threads (s : State) : s.intSweep.threads = s.threads := by unfold State.intSweep; exact mk_threads ..
@[simp] theorem State.intSweep_cstore (s : State) : s.intSweep.cstore = s.cstore := by unfold State.intSweep; exact mk_cstore ..
@[simp] theorem State.intSweep_img (s : State) : s.intSweep.img = s.img := by unfold State.intSweep; exact mk_img ..
@[simp] theorem State.intSweep_tbl (s : State) : s.intSweep.tbl = s.tbl := by unfold State.intSweep; exact mk_tbl ..
@[simp] theorem State.intSweep_cu (s : State) : s.intSweep.cu = s.cu := by unfold State.intSweep; exact mk_cu ..
@[simp] theorem State.intSweep_epc (s : State) : s.intSweep.epc = s.epc := by unfold State.intSweep; exact mk_epc ..
@[simp] theorem State.intSweep_buf (s : State) : s.intSweep.buf = s.buf := by unfold State.intSweep; exact mk_buf ..
@[simp] theorem State.intSweep_sched (s : State) : s.intSweep.sched = s.sched := by unfold State.intSweep; exact mk_sched ..
@[simp] theorem State.intSweep_led (s : State) : s.intSweep.led = s.led := by unfold State.intSweep; exact mk_led ..
@[simp] theorem State.intSweep_tel (s : State) : s.intSweep.tel = s.tel := by unfold State.intSweep; exact mk_tel ..
@[simp] theorem State.intSweep_rings (s : State) : s.intSweep.rings = s.rings := by unfold State.intSweep; exact mk_rings ..
@[simp] theorem State.intSweep_dma (s : State) : s.intSweep.dma = s.dma := by unfold State.intSweep; exact mk_dma ..
@[simp] theorem State.intSweep_dram (s : State) : s.intSweep.dram = s.dram := by unfold State.intSweep; exact mk_dram ..
@[simp] theorem State.intSweep_flt (s : State) : s.intSweep.flt = s.flt := by unfold State.intSweep; exact mk_flt ..
@[simp] theorem State.intSweep_chain (s : State) : s.intSweep.chain = s.chain := by unfold State.intSweep; exact mk_chain ..
@[simp] theorem State.intSweep_frz (s : State) : s.intSweep.frz = s.frz := by unfold State.intSweep; exact mk_frz ..
@[simp] theorem State.intSweep_dbg (s : State) : s.intSweep.dbg = s.dbg := by unfold State.intSweep; exact mk_dbg ..
@[simp] theorem State.intSweep_free (s : State) : s.intSweep.free = s.free := by unfold State.intSweep; exact mk_free ..

@[simp] theorem State.dmn_setDmn (s : State) (a b : Nat) (x : Domain) : (s.setDmn a x).dmn b = if b = a then x else s.dmn b := by
  simp [State.dmn, State.setDmn]

@[simp] theorem State.port_setPort (s : State) (a b : Nat) (x : SubPort) : (s.setPort a x).port b = if b = a then x else s.port b := by
  simp [State.port, State.setPort]

@[simp] theorem State.cage_setCage (s : State) (a b : Nat) (x : Cage) : (s.setCage a x).cage b = if b = a then x else s.cage b := by
  simp [State.cage, State.setCage]

@[simp] theorem State.bus_setBus (s : State) (a b : Nat) (x : CageBus) : (s.setBus a x).bus b = if b = a then x else s.bus b := by
  simp [State.bus, State.setBus]

@[simp] theorem State.grp_setGrp (s : State) (a b : Nat) (x : Group) : (s.setGrp a x).grp b = if b = a then x else s.grp b := by
  simp [State.grp, State.setGrp]

@[simp] theorem State.pkt_setPkt (s : State) (a b : Nat) (x : Pkt) : (s.setPkt a x).pkt b = if b = a then x else s.pkt b := by
  simp [State.pkt, State.setPkt]

@[simp] theorem State.clu_setClu (s : State) (a b : Nat) (x : Cluster) : (s.setClu a x).clu b = if b = a then x else s.clu b := by
  simp [State.clu, State.setClu]

@[simp] theorem State.thr_setThr (s : State) (a b : Nat) (x : Thread) : (s.setThr a x).thr b = if b = a then x else s.thr b := by
  simp [State.thr, State.setThr]

@[simp] theorem State.hst_setHst (s : State) (a b : Nat) (x : HostFn) : (s.setHst a x).hst b = if b = a then x else s.hst b := by
  simp [State.hst, State.setHst]

@[simp] theorem State.chan_setChan (s : State) (a b : Nat) (x : Chan) : (s.setChan a x).chan b = if b = a then x else s.chan b := by
  simp [State.chan, State.setChan]

@[simp] theorem State.dch_setDch (s : State) (a b : Nat) (x : DCh) : (s.setDch a x).dch b = if b = a then x else s.dch b := by
  simp [State.dch, State.setDch]

@[simp] theorem State.ring_setRing (s : State) (h t : Nat) (x : Ring) : (s.setRing h t x).ring h t = x := by
  simp [State.ring, State.setRing]

@[simp] theorem State.rg_setRg (s : State) (n : RegName) (k j i : Nat) (v : Word) : (s.setRg n k j v i).rg n k j i = v := by
  simp [State.rg, State.setRg]

@[simp] theorem State.pv_setPv (s : State) (r : Req) (a : Nat) (v : Word) : (s.setPv r a v).pv r a = v := by
  simp [State.pv, State.setPv]

@[simp] theorem State.queue_setQueue (s : State) (q p : Nat) (l : List Nat) : (s.setQueue q l).queue p = if p = q then l else s.queue p := by
  simp [State.queue, State.setQueue]

/-- A read of DRAM after a write. -/
@[simp] theorem State.dramGet_dramSet (s : State) (a b : Nat) (v : Byte) : (s.dramSet a v).dramGet b = if b = a then v else s.dramGet b := by
  exact tget_tset _ _ _ _ _

/-- Bytes written to DRAM leave what unlisted bytes read as. -/
theorem State.dramPut_dflt (s : State) (a : Nat) (l : List Byte) : (s.dramPut a l).dramDflt = s.dramDflt := by
  induction l generalizing s a with
  | nil => rfl
  | cons b l ih => exact ih _ _

/-- Bytes written to DRAM keep its canonical form. -/
theorem State.dramPut_wf (s : State) (a : Nat) (l : List Byte) (h : twf s.dramDflt s.dram.mem = true) :
    twf s.dramDflt (s.dramPut a l).dram.mem = true := by
  induction l generalizing s a with
  | nil => exact h
  | cons b l ih => exact ih (s.dramSet a b) (a + 1) (twf_tset _ _ _ _ h)

/-- Bytes written to DRAM, read back. -/
theorem State.dramGet_dramPut (s : State) (a b : Nat) (l : List Byte) :
    (s.dramPut a l).dramGet b = if a ≤ b ∧ b < a + l.length then (l[b - a]?).getD 0 else s.dramGet b := by
  induction l generalizing s a with
  | nil => simp [State.dramPut]
  | cons x l ih =>
    simp only [State.dramPut, ih, State.dramGet_dramSet, List.length_cons]
    by_cases h1 : b = a
    · subst h1; simp
    · by_cases h2 : a ≤ b
      · have h3 : b - a = (b - (a + 1)) + 1 := by omega
        by_cases h4 : b < a + 1 + l.length
        · rw [if_pos (by omega), if_pos (by omega), h3, List.getElem?_cons_succ]
        · rw [if_neg (by omega), if_neg h1, if_neg (by omega)]
      · rw [if_neg (by omega), if_neg h1, if_neg (by omega)]

/-! ### Register accesses -/

/-- R374: an access to an Active domain that no access has woken leaves it as it is. -/
theorem State.wake_active (s : State) (k : Nat) (h1 : (s.dmn k).shade = .active) (h2 : (s.dmn k).woken = none) :
    s.wake k = s := by
  simp [State.wake, h1, h2]

/-- R277: an access that a domain serves. -/
theorem State.reach_active (s : State) (r : Req) (k : Nat) (peek : Bool) (h0 : s.fusedDom k = false)
    (h1 : (s.dmn k).shade = .active) (h2 : (s.dmn k).moving = false) (h3 : (s.dmn k).woken = none) :
    s.reach r k peek = (true, s) := by
  simp [State.reach, h0, h1, h2, h3, State.wake_active, State.isActive]

/-- R277: what is done through an access that a domain serves. -/
theorem State.access_active (s : State) (r : Req) (k : Nat) (f : State → State) (h0 : s.fusedDom k = false)
    (h1 : (s.dmn k).shade = .active) (h2 : (s.dmn k).moving = false) (h3 : (s.dmn k).woken = none) :
    s.access r k f = f s := by
  simp [State.access, State.reach_active, h0, h1, h2, h3]

/-- A meaning answers a next state. -/
theorem act_next (c : Bool) (f : State → State) (s : State) : act c f s = .next (if c then (f s).intSweep else s) := rfl

end Sys2Proof.Machine
end

