-- ==== Sys2Proof/Laws/Frames.lean ====
section
/-! SUPPORT. How a frame of a command is shown: from what its operation leaves as it was. The sweep of the
interrupts is beside every frame. -/

namespace Sys2Proof.Machine

open Sys2Proof

/-- A command whose operation leaves what `g` shows as it was keeps it. -/
theorem keeps_of_act {α : Type} (g : State → α) (i : Instr) (c : State → Bool) (f : State → State)
    (h : ∀ s, exec i s = act (c s) f s) (hs : ∀ s, g s.intSweep = g s) (hf : ∀ s, c s = true → g (f s) = g s) :
    Keeps i g := by
  intro s t ht
  rw [h, act_next] at ht
  injection ht with ht
  subst ht
  split
  · exact (hs _).trans (hf s ‹_›)
  · rfl

/-- The same, of the states of which `p` holds. -/
theorem keepsWhere_of_act {α : Type} (p : State → Prop) (g : State → α) (i : Instr) (c : State → Bool)
    (f : State → State) (h : ∀ s, exec i s = act (c s) f s) (hs : ∀ s, g s.intSweep = g s)
    (hf : ∀ s, p s → c s = true → g (f s) = g s) : KeepsWhere p i g := by
  intro s t hp ht
  rw [h, act_next] at ht
  injection ht with ht
  subst ht
  split
  · exact (hs _).trans (hf s hp ‹_›)
  · rfl

/-- A loop of operations that each leave what `g` shows as it was. -/
theorem foldl_same {α β : Type} (g : State → β) (f : State → α → State) (h : ∀ s a, g (f s a) = g s) (l : List α)
    (s : State) : g (l.foldl f s) = g s := by
  induction l generalizing s with
  | nil => rfl
  | cons a t ih => exact (ih _).trans (h s a)

/-- A choice between operations that each leave what `g` shows as it was. -/
theorem ite_same {β : Type} (g : State → β) (c : Prop) [Decidable c] (a b s : State) (ha : g a = g s) (hb : g b = g s) :
    g (if c then a else b) = g s := by split <;> assumption

theorem State.besideRings_intSweep (s : State) : s.intSweep.besideRings = s.besideRings := by
  unfold State.besideRings; simp

theorem State.besideDma_intSweep (s : State) : s.intSweep.besideDma = s.besideDma := by
  unfold State.besideDma; simp

theorem State.besideDram_intSweep (s : State) : s.intSweep.besideDram = s.besideDram := by
  unfold State.besideDram; simp

theorem State.besideChain_intSweep (s : State) : s.intSweep.besideChain = s.besideChain := by
  unfold State.besideChain; simp

theorem State.besideFreeze_intSweep (s : State) : s.intSweep.besideFreeze = s.besideFreeze := by
  unfold State.besideFreeze; simp

theorem State.besideThreads_intSweep (s : State) : s.intSweep.besideThreads = s.besideThreads := by
  unfold State.besideThreads; simp

theorem State.besidePackets_intSweep (s : State) : s.intSweep.besidePackets = s.besidePackets := by
  unfold State.besidePackets; simp

theorem State.besideCode_intSweep (s : State) : s.intSweep.besideCode = s.besideCode := by
  unfold State.besideCode; simp

theorem State.besideCommands_intSweep (s : State) : s.intSweep.besideCommands = s.besideCommands := by
  unfold State.besideCommands; simp

theorem State.besideTables_intSweep (s : State) : s.intSweep.besideTables = s.besideTables := by
  unfold State.besideTables; simp

theorem State.besidePorts_intSweep (s : State) : s.intSweep.besidePorts = s.besidePorts := by
  unfold State.besidePorts; simp

theorem State.besideCages_intSweep (s : State) : s.intSweep.besideCages = s.besideCages := by
  unfold State.besideCages; simp

theorem State.besideHost_intSweep (s : State) : s.intSweep.besideHost = s.besideHost := by
  unfold State.besideHost; simp

theorem State.besideLedger_intSweep (s : State) : s.intSweep.besideLedger = s.besideLedger := by
  unfold State.besideLedger; simp

theorem State.besideFrames_intSweep (s : State) : s.intSweep.besideFrames = s.besideFrames := by
  unfold State.besideFrames; simp

theorem State.besideFaults_intSweep (s : State) : s.intSweep.besideFaults = s.besideFaults := by
  unfold State.besideFaults; simp

theorem State.besideQueues_intSweep (s : State) : s.intSweep.besideQueues = s.besideQueues := by
  unfold State.besideQueues; simp

theorem State.woken_besidePackets_intSweep (s : State) :
    s.intSweep.besideWoken.besidePackets = s.besideWoken.besidePackets := by
  unfold State.besideWoken State.besidePackets; simp

theorem State.woken_besideCages_intSweep (s : State) :
    s.intSweep.besideWoken.besideCages = s.besideWoken.besideCages := by
  unfold State.besideWoken State.besideCages; simp

theorem State.woken_besideLedger_intSweep (s : State) :
    s.intSweep.besideWoken.besideLedger = s.besideWoken.besideLedger := by
  unfold State.besideWoken State.besideLedger; simp

theorem State.woken_besideQueues_intSweep (s : State) :
    s.intSweep.besideWoken.besideQueues = s.besideWoken.besideQueues := by
  unfold State.besideWoken State.besideQueues; simp

theorem State.woken_besideFrames_intSweep (s : State) :
    s.intSweep.besideWoken.besideFrames = s.besideWoken.besideFrames := by
  unfold State.besideWoken State.besideFrames; simp

end Sys2Proof.Machine
end

