-- ==== Sys2Proof/Laws/Keep.lean ====
section
/-! SUPPORT. No operation but the blow of a fuse alters the queue, what the factory fixed, or the fuses:
one lemma per operation, and `act_keep` for a meaning. A lemma's proof unfolds one operation and cites
the lemmas of those it calls. -/

namespace Sys2Proof.Machine

open Sys2Proof

set_option linter.unusedSimpArgs false
set_option linter.unusedVariables false
set_option linter.unusedTactic false
set_option linter.unreachableTactic false

/-- The queue, what the factory fixed, and the fuses. -/
def State.keep (s : State) : List Instr × Ident × Fuses := (s.pending, s.ident, s.fuses)

theorem keep_eta (s : State) : (s.pending, s.ident, s.fuses) = s.keep := id rfl

theorem keep_mk (x1 x2 x3 x4 x5 x6 x7 x8 x9 x10 x11 x12 x13 x14 x15 x16 x17 x18 x19 x20 x21 x22 x23 x24 x25 x26 x27 x28 x29 x30 x31 x32 x33 x34 x35 x36 x37 x38 x39 x40 x41) :
    (State.mk x1 x2 x3 x4 x5 x6 x7 x8 x9 x10 x11 x12 x13 x14 x15 x16 x17 x18 x19 x20 x21 x22 x23 x24 x25 x26 x27 x28 x29 x30 x31 x32 x33 x34 x35 x36 x37 x38 x39 x40 x41).keep = (x1, x2, x4) := id rfl


theorem foldl_keep {α : Type} (f : State → α → State) (h : ∀ s a, (f s a).keep = s.keep) (l : List α) (s : State) :
    (l.foldl f s).keep = s.keep := by
  induction l generalizing s with
  | nil => rfl
  | cons a t ih => exact (ih _).trans (h s a)

theorem foldl_keep2 {α β : Type} (f : β × State → α → β × State) (h : ∀ s a, (f s a).2.keep = s.2.keep) (l : List α)
    (s : β × State) : (l.foldl f s).2.keep = s.2.keep := by
  induction l generalizing s with
  | nil => rfl
  | cons a t ih => exact (ih _).trans (h s a)

theorem ite_keep (c : Prop) [Decidable c] (a b : State) (k) (ha : a.keep = k) (hb : b.keep = k) :
    (if c then a else b).keep = k := by split <;> assumption


theorem ite_keep2 {β : Type} (c : Prop) [Decidable c] (p q : β × State) :
    (if c then p else q).2.keep = if c then p.2.keep else q.2.keep := by split <;> rfl

theorem cutK (a s : State) {P : Prop} (h1 : a.keep = s.keep) (h2 : a.keep = s.keep → P) : P := h2 h1

theorem pairK {β : Type} {p : β × State} {o : β} {t : State} (h : p = (o, t)) : t.keep = p.2.keep := by rw [h]

theorem State.setRg_keep (s : State) (n : RegName) (k : ℕ) (j : ℕ) (v : Word) (i : optParam ℕ 0) : (State.setRg s n k j v i).keep = s.keep := by
  unfold State.setRg
  simp only [↓keep_mk, ↓keep_eta]

theorem State.bump_keep (s : State) (n : RegName) (k : ℕ) (j : ℕ) (c : optParam ℕ 1) : (State.bump s n k j c).keep = s.keep := by
  unfold State.bump
  simp only [↓State.setRg_keep]

theorem State.emit_keep (s : State) (o : Out) : (State.emit s o).keep = s.keep := by
  unfold State.emit
  simp only [↓keep_mk, ↓keep_eta]

theorem State.setHst_keep (s : State) (h : ℕ) (x : HostFn) : (State.setHst s h x).keep = s.keep := by
  unfold State.setHst
  simp only [↓keep_mk, ↓keep_eta]

theorem State.toHost_keep (s : State) (h : ℕ) (a : ℕ) (bytes : List Byte) : (State.toHost s h a bytes).keep = s.keep := by
  unfold State.toHost
  simp only [↓State.emit_keep, ↓State.setHst_keep]

theorem State.toHost48_keep (s : State) (h : ℕ) (a : ℕ) (b : List Byte) : (State.toHost48 s h a b).keep = s.keep := by
  unfold State.toHost48
  try dsimp only
  repeat' first
    | (simp only [↓State.toHost_keep, ↓keep_mk, ↓keep_eta]; done)
    | (refine ite_keep _ _ _ _ ?_ ?_)
    | split
    | (simp only [↓State.toHost_keep, ↓keep_mk, ↓keep_eta])

theorem State.insStatus_keep (s : State) (n : ℕ) (moved : ℕ) (err : ℕ) : (State.insStatus s n moved err).keep = s.keep := by
  unfold State.insStatus
  dsimp only
  repeat' split
  all_goals simp only [↓State.bump_keep, ↓State.toHost48_keep]

theorem State.setChan_keep (s : State) (n : ℕ) (x : Chan) : (State.setChan s n x).keep = s.keep := by
  unfold State.setChan
  simp only [↓keep_mk, ↓keep_eta]

theorem State.tlp_keep (s : State) (h : ℕ) : (State.tlp s h).keep = s.keep := by
  unfold State.tlp
  simp only [↓State.setHst_keep]

theorem State.readHost_keep (s : State) (h : ℕ) (a : ℕ) (len : ℕ) : (State.readHost s h a len).keep = s.keep := by
  unfold State.readHost
  simp only [↓State.emit_keep, ↓State.tlp_keep]

theorem State.readHost48_keep (s : State) (h : ℕ) (a : ℕ) (len : ℕ) : (State.readHost48 s h a len).keep = s.keep := by
  unfold State.readHost48
  try dsimp only
  repeat' first
    | (simp only [↓State.readHost_keep, ↓keep_mk, ↓keep_eta]; done)
    | (refine ite_keep _ _ _ _ ?_ ?_)
    | split
    | (simp only [↓State.readHost_keep, ↓keep_mk, ↓keep_eta])

theorem State.fetchProg_keep (s : State) (n : ℕ) : (State.fetchProg s n).keep = s.keep := by
  unfold State.fetchProg
  simp only [↓State.readHost48_keep]

theorem State.stopChan_keep (s : State) (n : ℕ) (err : ℕ) : (State.stopChan s n err).keep = s.keep := by
  unfold State.stopChan
  simp only [↓State.setChan_keep]

theorem State.nextIns_keep (s : State) (n : ℕ) : (State.nextIns s n).keep = s.keep := by
  unfold State.nextIns
  dsimp only
  repeat' split
  all_goals simp only [↓State.fetchProg_keep, ↓State.stopChan_keep]

theorem State.goIns_keep (s : State) (n : ℕ) (pc : ℕ) : (State.goIns s n pc).keep = s.keep := by
  unfold State.goIns
  simp only [↓State.nextIns_keep, ↓State.setChan_keep]

theorem State.insDone_keep (s : State) (n : ℕ) (moved : ℕ) (err : ℕ) : (State.insDone s n moved err).keep = s.keep := by
  unfold State.insDone
  simp only [↓State.insStatus_keep, ↓State.setChan_keep, ↓State.goIns_keep]

theorem State.barDone_keep (s : State) (n : ℕ) : (State.barDone s n).keep = s.keep := by
  unfold State.barDone
  try dsimp only
  repeat' first
    | (simp only [↓State.insDone_keep, ↓State.setChan_keep, ↓keep_mk, ↓keep_eta]; done)
    | (refine ite_keep _ _ _ _ ?_ ?_)
    | split
    | (simp only [↓State.insDone_keep, ↓State.setChan_keep, ↓keep_mk, ↓keep_eta])

theorem State.confirm_keep (s : State) (n : ℕ) : (State.confirm s n).keep = s.keep := by
  unfold State.confirm
  try dsimp only
  repeat' first
    | (simp only [↓State.readHost_keep, ↓State.setChan_keep, ↓keep_mk, ↓keep_eta]; done)
    | (refine ite_keep _ _ _ _ ?_ ?_)
    | split
    | (simp only [↓State.readHost_keep, ↓State.setChan_keep, ↓keep_mk, ↓keep_eta])

theorem State.insWait_keep (s : State) (n : ℕ) (moved : ℕ) (err : ℕ) (bar : Bool) (sp : ℕ) : (State.insWait s n moved err bar sp).keep = s.keep := by
  unfold State.insWait
  dsimp only
  repeat' split
  all_goals simp only [↓State.setChan_keep, ↓State.barDone_keep, ↓State.confirm_keep, ↓State.insDone_keep]

theorem Moving.done_keep (m : Moving) (n : ℕ) (a : MoveArgs) : (Moving.done m n a).keep = m.s.keep := by
  unfold Moving.done
  repeat' first
    | (simp only [↓State.insDone_keep, ↓State.setChan_keep, ↓State.insWait_keep, ↓keep_mk, ↓keep_eta, *]; done)
    | (intro x; refine cutK x m.s ?_ ?_; rotate_left; (clear_value x; intro hx); rotate_left; simp only [x])
    | (intro x; refine cutK x.2 m.s ?_ ?_; rotate_left; (clear_value x; intro hx); rotate_left; simp only [x])
    | (intro x; clear_value x)
    | lift_lets
    | (refine ite_keep _ _ _ _ ?_ ?_)
    | (split <;> try (rename_i heq; replace heq := pairK heq; simp only [↓State.insDone_keep, ↓State.setChan_keep, ↓State.insWait_keep, ↓keep_mk, ↓keep_eta, ite_keep2, ite_self, *] at heq))
    | (simp only [↓State.insDone_keep, ↓State.setChan_keep, ↓State.insWait_keep, ↓keep_mk, ↓keep_eta])

theorem State.sleepAcc_keep (s : State) (r : Req) : (State.sleepAcc s r).keep = s.keep := by
  unfold State.sleepAcc
  split <;> simp only [↓State.bump_keep]

theorem State.orRg_keep (s : State) (n : RegName) (k : ℕ) (j : ℕ) (v : Word) : (State.orRg s n k j v).keep = s.keep := by
  unfold State.orRg
  simp only [↓State.setRg_keep]

theorem State.poolStep_keep (s : State) (k : ℕ) : (State.poolStep s k).keep = s.keep := by
  unfold State.poolStep
  dsimp only
  repeat' split
  all_goals simp only [↓State.orRg_keep, ↓keep_mk, ↓keep_eta]

theorem State.poolSteps_keep (s : State) : (State.poolSteps s).keep = s.keep := by
  unfold State.poolSteps
  try dsimp only
  repeat' first
    | (simp only [↓State.poolStep_keep, ↓keep_mk, ↓keep_eta]; done)
    | (refine (foldl_keep _ ?_ _ _).trans ?_)
    | (refine (foldl_keep2 _ ?_ _ _).trans ?_)
    | (intro _ _; try dsimp only)
    | (refine ite_keep _ _ _ _ ?_ ?_)
    | split
    | (simp only [↓State.poolStep_keep, ↓keep_mk, ↓keep_eta])

theorem State.quadStep_keep (s : State) (k : ℕ) : (State.quadStep s k).keep = s.keep := by
  unfold State.quadStep
  try dsimp only
  repeat' first
    | (simp only [↓State.poolSteps_keep, ↓keep_mk, ↓keep_eta]; done)
    | (refine ite_keep _ _ _ _ ?_ ?_)
    | split
    | (simp only [↓State.poolSteps_keep, ↓keep_mk, ↓keep_eta])

theorem State.setGrp_keep (s : State) (n : ℕ) (x : Group) : (State.setGrp s n x).keep = s.keep := by
  unfold State.setGrp
  simp only [↓keep_mk, ↓keep_eta]

theorem State.fillPols_keep (s : State) (n : ℕ) : (State.fillPols s n).keep = s.keep := by
  unfold State.fillPols
  try dsimp only
  repeat' first
    | (simp only [↓State.setGrp_keep, ↓keep_mk, ↓keep_eta]; done)
    | (refine ite_keep _ _ _ _ ?_ ?_)
    | split
    | (simp only [↓State.setGrp_keep, ↓keep_mk, ↓keep_eta])

theorem State.emptyReplica_keep (s : State) (k : ℕ) : (State.emptyReplica s k).keep = s.keep := by
  unfold State.emptyReplica
  try dsimp only
  repeat' first
    | (simp only [↓keep_mk, ↓keep_eta]; done)
    | (refine ite_keep _ _ _ _ ?_ ?_)
    | split
    | (simp only [↓keep_mk, ↓keep_eta])

theorem State.setClu_keep (s : State) (c : ℕ) (x : Cluster) : (State.setClu s c x).keep = s.keep := by
  unfold State.setClu
  simp only [↓keep_mk, ↓keep_eta]

theorem State.takeRoles_keep (s : State) (c : ℕ) : (State.takeRoles s c).keep = s.keep := by
  unfold State.takeRoles
  dsimp only
  split <;> simp only [↓State.setClu_keep]

theorem State.absentAnew_keep (s : State) : (State.absentAnew s).keep = s.keep := by
  unfold State.absentAnew
  try dsimp only
  repeat' first
    | (simp only [↓State.setGrp_keep, ↓keep_mk, ↓keep_eta]; done)
    | (refine (foldl_keep _ ?_ _ _).trans ?_)
    | (refine (foldl_keep2 _ ?_ _ _).trans ?_)
    | (intro _ _; try dsimp only)
    | (refine ite_keep _ _ _ _ ?_ ?_)
    | split
    | (simp only [↓State.setGrp_keep, ↓keep_mk, ↓keep_eta])

theorem State.ledOpen_keep (s : State) : (State.ledOpen s).keep = s.keep := by
  unfold State.ledOpen
  try dsimp only
  repeat' first
    | (simp only [↓State.absentAnew_keep, ↓keep_mk, ↓keep_eta]; done)
    | (refine ite_keep _ _ _ _ ?_ ?_)
    | split
    | (simp only [↓State.absentAnew_keep, ↓keep_mk, ↓keep_eta])

theorem State.setDch_keep (s : State) (c : ℕ) (x : DCh) : (State.setDch s c x).keep = s.keep := by
  unfold State.setDch
  simp only [↓keep_mk, ↓keep_eta]

theorem State.exitDue_keep (s : State) (c : ℕ) : (State.exitDue s c).keep = s.keep := by
  unfold State.exitDue
  try dsimp only
  repeat' first
    | (simp only [↓State.setDch_keep, ↓keep_mk, ↓keep_eta]; done)
    | (refine ite_keep _ _ _ _ ?_ ?_)
    | split
    | (simp only [↓State.setDch_keep, ↓keep_mk, ↓keep_eta])

theorem State.becomeActive_keep (s : State) (k : ℕ) : (State.becomeActive s k).keep = s.keep := by
  unfold State.becomeActive
  try dsimp only
  repeat' first
    | (simp only [↓State.setGrp_keep, ↓State.fillPols_keep, ↓State.emptyReplica_keep, ↓State.takeRoles_keep, ↓State.ledOpen_keep, ↓State.exitDue_keep, ↓keep_mk, ↓keep_eta]; done)
    | (refine (foldl_keep _ ?_ _ _).trans ?_)
    | (refine (foldl_keep2 _ ?_ _ _).trans ?_)
    | (intro _ _; try dsimp only)
    | (refine ite_keep _ _ _ _ ?_ ?_)
    | split
    | (simp only [↓State.setGrp_keep, ↓State.fillPols_keep, ↓State.emptyReplica_keep, ↓State.takeRoles_keep, ↓State.ledOpen_keep, ↓State.exitDue_keep, ↓keep_mk, ↓keep_eta])

theorem State.setDmn_keep (s : State) (k : ℕ) (d : Domain) : (State.setDmn s k d).keep = s.keep := by
  unfold State.setDmn
  simp only [↓keep_mk, ↓keep_eta]

theorem State.wake_keep (s : State) (k : ℕ) : (State.wake s k).keep = s.keep := by
  unfold State.wake
  dsimp only
  repeat' split
  all_goals simp only [↓State.quadStep_keep, ↓State.becomeActive_keep, ↓State.setDmn_keep]

theorem State.reach_keep (s : State) (r : Req) (k : ℕ) (peek : optParam Bool false) : (State.reach s r k peek).2.keep = s.keep := by
  unfold State.reach
  dsimp only
  repeat' split
  all_goals simp only [↓State.sleepAcc_keep, ↓State.wake_keep]

theorem State.reachUnnamed_keep (s : State) (r : Req) (a : ℕ) (peek : Bool) : (State.reachUnnamed s r a peek).keep = s.keep := by
  unfold State.reachUnnamed
  try dsimp only
  repeat' first
    | (simp only [↓State.reach_keep, ↓keep_mk, ↓keep_eta]; done)
    | (refine ite_keep _ _ _ _ ?_ ?_)
    | split
    | (simp only [↓State.reach_keep, ↓keep_mk, ↓keep_eta])

theorem State.histPop_keep (s : State) : (State.histPop s).keep = s.keep := by
  unfold State.histPop
  split <;> simp only [↓keep_mk, ↓keep_eta]

theorem State.imbPop_keep (s : State) : (State.imbPop s).keep = s.keep := by
  unfold State.imbPop
  simp only [↓keep_mk, ↓keep_eta]

theorem State.mcPop_keep (s : State) (c : ℕ) : (State.mcPop s c).keep = s.keep := by
  unfold State.mcPop
  simp only [↓State.setClu_keep]

theorem State.setPol_keep (s : State) (p : ℕ) (b : Bucket) : (State.setPol s p b).keep = s.keep := by
  unfold State.setPol
  simp only [↓keep_mk, ↓keep_eta]

theorem State.fresh_keep (s : State) : (State.fresh s).2.keep = s.keep := by
  unfold State.fresh
  simp only [↓keep_mk, ↓keep_eta]

theorem State.addCtr_keep (s : State) (n : RegName) (k : ℕ) (j : ℕ) (c : optParam ℕ 1) : (State.addCtr s n k j c).keep = s.keep := by
  unfold State.addCtr
  simp only [↓keep_mk, ↓keep_eta]

theorem State.rxStore_keep (s : State) (port : ℕ) : (State.rxStore s port).keep = s.keep := by
  unfold State.rxStore
  try dsimp only
  repeat' first
    | (simp only [↓State.bump_keep, ↓State.addCtr_keep, ↓keep_mk, ↓keep_eta]; done)
    | (refine (foldl_keep _ ?_ _ _).trans ?_)
    | (refine (foldl_keep2 _ ?_ _ _).trans ?_)
    | (intro _ _; try dsimp only)
    | (refine ite_keep _ _ _ _ ?_ ?_)
    | split
    | (simp only [↓State.bump_keep, ↓State.addCtr_keep, ↓keep_mk, ↓keep_eta])

theorem State.setLatch_keep (s : State) (k : ℕ) (v : Word) : (State.setLatch s k v).keep = s.keep := by
  unfold State.setLatch
  simp only [↓keep_mk, ↓keep_eta]

theorem State.readEffect_keep (s : State) (r : Req) (x : RegAt) : (State.readEffect s r x).keep = s.keep := by
  unfold State.readEffect
  dsimp only
  repeat' split
  all_goals simp only [↓State.histPop_keep, ↓State.imbPop_keep, ↓State.mcPop_keep, ↓State.setPol_keep, ↓State.fresh_keep, ↓State.rxStore_keep, ↓State.setLatch_keep, ↓keep_mk, ↓keep_eta]

theorem State.readReg_keep (s : State) (r : Req) (x : RegAt) (peek : Bool) : (State.readReg s r x peek).2.keep = s.keep := by
  unfold State.readReg
  split <;> simp only [↓State.readEffect_keep]

theorem State.accRead_keep (s : State) (r : Req) (a : ℕ) (peek : Bool) : (State.accRead s r a peek).2.keep = s.keep := by
  unfold State.accRead
  dsimp only
  repeat' split
  all_goals simp only [↓State.reachUnnamed_keep, ↓State.readReg_keep, ↓State.reach_keep]

theorem State.intRead_keep (s : State) (n : ℕ) (a : ℕ) : (State.intRead s n a).2.keep = s.keep := by
  unfold State.intRead
  dsimp only
  repeat' split
  all_goals simp only [↓State.accRead_keep, ↓State.reach_keep]

theorem State.access_keep (s : State) (r : Req) (k : Nat) (f : State → State) (h : ∀ s, (f s).keep = s.keep) :
    (s.access r k f).keep = s.keep := by
  unfold State.access
  dsimp only
  split
  · exact (h _).trans (State.reach_keep ..)
  · exact State.reach_keep ..
theorem State.logHist_keep (s : State) (r : HistRec) : (State.logHist s r).keep = s.keep := by
  unfold State.logHist
  dsimp only
  repeat' split
  all_goals simp only [↓State.bump_keep, ↓keep_mk, ↓keep_eta]

theorem State.logStatus_keep (s : State) (e : FaultEv) (int : Bool) : (State.logStatus s e int).keep = s.keep := by
  unfold State.logStatus
  split <;> simp only [↓State.orRg_keep]

theorem State.markFlush_keep (s : State) (qs : ℕ → Bool) : (State.markFlush s qs).keep = s.keep := by
  unfold State.markFlush
  try dsimp only
  repeat' first
    | (simp only [↓keep_mk, ↓keep_eta]; done)
    | (refine ite_keep _ _ _ _ ?_ ?_)
    | split
    | (simp only [↓keep_mk, ↓keep_eta])

theorem State.setPort_keep (s : State) (lp : ℕ) (p : SubPort) : (State.setPort s lp p).keep = s.keep := by
  unfold State.setPort
  simp only [↓keep_mk, ↓keep_eta]

theorem State.moveMember_keep (s : State) (m : ℕ) (f : ℕ → ℕ) : (State.moveMember s m f).keep = s.keep := by
  unfold State.moveMember
  simp only [↓keep_mk, ↓keep_eta]

theorem State.freeHold_keep (s : State) (p : Pkt) : (State.freeHold s p).keep = s.keep := by
  unfold State.freeHold
  simp only [↓State.setGrp_keep]

theorem State.setBlk_keep (s : State) (b : ℕ) (x : Block) : (State.setBlk s b x).keep = s.keep := by
  unfold State.setBlk
  simp only [↓keep_mk, ↓keep_eta]

theorem State.setBuf_keep (s : State) (b : ℕ) (x : Buf) : (State.setBuf s b x).keep = s.keep := by
  unfold State.setBuf
  simp only [↓keep_mk, ↓keep_eta]

theorem State.relBuf_keep (s : State) (b : ℕ) : (State.relBuf s b).keep = s.keep := by
  unfold State.relBuf
  dsimp only
  repeat' split
  all_goals simp only [↓State.moveMember_keep, ↓State.freeHold_keep, ↓State.setBlk_keep, ↓State.poolSteps_keep, ↓State.setBuf_keep]

theorem State.relDesc_keep (s : State) (d : ℕ) : (State.relDesc s d).keep = s.keep := by
  unfold State.relDesc
  simp only [↓State.relBuf_keep, ↓keep_mk, ↓keep_eta]

theorem State.telLost_keep (s : State) (k : ℕ) (n : ℕ) : (State.telLost s k n).keep = s.keep := by
  unfold State.telLost
  simp only [↓State.bump_keep]

theorem State.dramWrite1_keep (s : State) (who : DramUser) (a : ℕ) (bytes : List Byte) : (State.dramWrite1 s who a bytes).keep = s.keep := by
  unfold State.dramWrite1
  dsimp only
  repeat' split
  all_goals simp only [↓State.setDch_keep]

theorem State.dramWrite_keep (s : State) (who : DramUser) (a : ℕ) (bytes : List Byte) : (State.dramWrite s who a bytes).keep = s.keep := by
  unfold State.dramWrite
  try dsimp only
  repeat' first
    | (simp only [↓State.dramWrite1_keep, ↓keep_mk, ↓keep_eta]; done)
    | (refine (foldl_keep _ ?_ _ _).trans ?_)
    | (refine (foldl_keep2 _ ?_ _ _).trans ?_)
    | (intro _ _; try dsimp only)
    | (refine ite_keep _ _ _ _ ?_ ?_)
    | split
    | (simp only [↓State.dramWrite1_keep, ↓keep_mk, ↓keep_eta])

theorem State.toRegion_keep (s : State) (k : ℕ) (rec : List Byte) (n : ℕ) : (State.toRegion s k rec n).keep = s.keep := by
  unfold State.toRegion
  try dsimp only
  repeat' first
    | (simp only [↓State.dramWrite_keep, ↓State.telLost_keep, ↓keep_mk, ↓keep_eta]; done)
    | (refine (foldl_keep _ ?_ _ _).trans ?_)
    | (refine (foldl_keep2 _ ?_ _ _).trans ?_)
    | (intro _ _; try dsimp only)
    | (refine ite_keep _ _ _ _ ?_ ?_)
    | split
    | (simp only [↓State.dramWrite_keep, ↓State.telLost_keep, ↓keep_mk, ↓keep_eta])

theorem State.capture_keep (s : State) (b : Boundary) (code : ℕ) (d : DropInfo) : (State.capture s b code d).keep = s.keep := by
  unfold State.capture
  dsimp only
  repeat' split
  all_goals simp only [↓State.telLost_keep, ↓State.toRegion_keep, ↓keep_mk, ↓keep_eta]

theorem State.pmc_keep (s : State) (hit : Word → Bool) (n : ℕ) : (State.pmc s hit n).keep = s.keep := by
  unfold State.pmc
  split <;> simp only [↓keep_mk, ↓keep_eta]

theorem State.bookReason_keep (s : State) (lp : ℕ) (par : Bool) (code : ℕ) : (State.bookReason s lp par code).keep = s.keep := by
  unfold State.bookReason
  simp only [↓State.pmc_keep, ↓keep_mk, ↓keep_eta]

theorem State.book_keep (s : State) (lp : ℕ) (par : Bool) (t : Term) (n : optParam ℕ 1) : (State.book s lp par t n).keep = s.keep := by
  unfold State.book
  simp only [↓State.pmc_keep, ↓keep_mk, ↓keep_eta]

theorem State.drop_keep (s : State) (b : Boundary) (reason : ℕ) (d : DropInfo) : (State.drop s b reason d).keep = s.keep := by
  unfold State.drop
  simp only [↓State.capture_keep, ↓State.bookReason_keep, ↓State.book_keep]

theorem State.dropDesc_keep (s : State) (d : ℕ) (reason : ℕ) : (State.dropDesc s d reason).keep = s.keep := by
  unfold State.dropDesc
  simp only [↓State.relDesc_keep, ↓State.drop_keep]

theorem State.dropPicked_keep (s : State) (lp : Nat) : (s.dropPicked lp).keep = s.keep := by
  unfold State.dropPicked
  refine (foldl_keep _ (fun s p => ?_) _ _).trans rfl
  dsimp only
  rw [State.dropDesc_keep]
  exact ite_keep _ _ _ _ ((State.emit_keep ..).trans (State.bump_keep ..)) rfl
theorem State.bumpHigh_keep (s : State) (n : RegName) (k : ℕ) (j : ℕ) : (State.bumpHigh s n k j).keep = s.keep := by
  unfold State.bumpHigh
  simp only [↓State.setRg_keep]

theorem State.setLink_keep (s : State) (lp : ℕ) (st : LinkState) : (State.setLink s lp st).keep = s.keep := by
  unfold State.setLink
  dsimp only
  repeat' split
  all_goals simp only [↓State.rxStore_keep, ↓State.markFlush_keep, ↓State.setPort_keep, ↓State.orRg_keep, ↓State.dropPicked_keep, ↓State.bumpHigh_keep]

theorem State.forceDown_keep (s : State) (lp : ℕ) (why : SubPort → SubPort) : (State.forceDown s lp why).keep = s.keep := by
  unfold State.forceDown
  simp only [↓State.setLink_keep, ↓State.setPort_keep]

theorem State.setThr_keep (s : State) (k : ℕ) (x : Thread) : (State.setThr s k x).keep = s.keep := by
  unfold State.setThr
  simp only [↓keep_mk, ↓keep_eta]

theorem State.endReruns_keep (s : State) (c : ℕ) (gone : ℕ → Bool) : (State.endReruns s c gone).keep = s.keep := by
  unfold State.endReruns
  try dsimp only
  repeat' first
    | (simp only [↓State.setThr_keep, ↓keep_mk, ↓keep_eta]; done)
    | (refine (foldl_keep _ ?_ _ _).trans ?_)
    | (refine (foldl_keep2 _ ?_ _ _).trans ?_)
    | (intro _ _; try dsimp only)
    | (refine ite_keep _ _ _ _ ?_ ?_)
    | split
    | (simp only [↓State.setThr_keep, ↓keep_mk, ↓keep_eta])

theorem State.dropSamples_keep (s : State) (c : ℕ) (p : optParam (Sample → Bool) fun x => true) : (State.dropSamples s c p).keep = s.keep := by
  unfold State.dropSamples
  try dsimp only
  repeat' first
    | (simp only [↓State.setClu_keep, ↓State.bump_keep, ↓State.endReruns_keep, ↓keep_mk, ↓keep_eta]; done)
    | (refine ite_keep _ _ _ _ ?_ ?_)
    | split
    | (simp only [↓State.setClu_keep, ↓State.bump_keep, ↓State.endReruns_keep, ↓keep_mk, ↓keep_eta])

theorem State.clearAdmit_keep (s : State) (c : ℕ) : (State.clearAdmit s c).keep = s.keep := by
  unfold State.clearAdmit
  simp only [↓State.dropSamples_keep, ↓State.setRg_keep]

theorem State.dlogs_keep (s : State) (c : ℕ) (rank : ℕ) (cmds : List ℕ) : (State.dlogs s c rank cmds).keep = s.keep := by
  unfold State.dlogs
  try dsimp only
  repeat' first
    | (simp only [↓State.setDch_keep, ↓keep_mk, ↓keep_eta]; done)
    | (refine ite_keep _ _ _ _ ?_ ?_)
    | split
    | (simp only [↓State.setDch_keep, ↓keep_mk, ↓keep_eta])

theorem State.dlogAll_keep (s : State) (c : ℕ) (cmds : List ℕ) : (State.dlogAll s c cmds).keep = s.keep := by
  unfold State.dlogAll
  try dsimp only
  repeat' first
    | (simp only [↓State.dlogs_keep, ↓keep_mk, ↓keep_eta]; done)
    | (refine (foldl_keep _ ?_ _ _).trans ?_)
    | (refine (foldl_keep2 _ ?_ _ _).trans ?_)
    | (intro _ _; try dsimp only)
    | (refine ite_keep _ _ _ _ ?_ ?_)
    | split
    | (simp only [↓State.dlogs_keep, ↓keep_mk, ↓keep_eta])

theorem State.dramSet_keep (s : State) (x : ℕ) (b : Byte) : (State.dramSet s x b).keep = s.keep := by
  unfold State.dramSet
  simp only [↓keep_mk, ↓keep_eta]

theorem State.dramPut_keep (s : State) (a : Nat) (l : List Byte) : (s.dramPut a l).keep = s.keep := by
  induction l generalizing s a with
  | nil => rfl
  | cons b t ih => exact (ih _ _).trans (State.dramSet_keep s a b)
theorem State.dramStore_keep (s : State) (c : ℕ) (x : ℕ) (b : List Byte) : (State.dramStore s c x b).keep = s.keep := by
  unfold State.dramStore
  try dsimp only
  repeat' first
    | (simp only [↓State.dramPut_keep, ↓State.setDch_keep, ↓keep_mk, ↓keep_eta]; done)
    | (refine ite_keep _ _ _ _ ?_ ?_)
    | split
    | (simp only [↓State.dramPut_keep, ↓State.setDch_keep, ↓keep_mk, ↓keep_eta])

theorem State.dlogAcc_keep (s : State) (c : ℕ) (cmd : ℕ) (rank : ℕ) : (State.dlogAcc s c cmd rank).keep = s.keep := by
  unfold State.dlogAcc
  try dsimp only
  repeat' first
    | (simp only [↓State.setDch_keep, ↓keep_mk, ↓keep_eta]; done)
    | (refine ite_keep _ _ _ _ ?_ ?_)
    | split
    | (simp only [↓State.setDch_keep, ↓keep_mk, ↓keep_eta])

theorem State.issueWrite_keep (s : State) (c : ℕ) (r : DReq) : (State.issueWrite s c r).keep = s.keep := by
  unfold State.issueWrite
  try dsimp only
  repeat' first
    | (simp only [↓State.dramStore_keep, ↓State.dlogAcc_keep, ↓keep_mk, ↓keep_eta]; done)
    | (refine ite_keep _ _ _ _ ?_ ?_)
    | split
    | (simp only [↓State.dramStore_keep, ↓State.dlogAcc_keep, ↓keep_mk, ↓keep_eta])

theorem State.dramFlush_keep (s : State) (c : ℕ) : (State.dramFlush s c).keep = s.keep := by
  unfold State.dramFlush
  try dsimp only
  repeat' first
    | (simp only [↓State.issueWrite_keep, ↓State.setDch_keep, ↓keep_mk, ↓keep_eta]; done)
    | (refine (foldl_keep _ ?_ _ _).trans ?_)
    | (refine (foldl_keep2 _ ?_ _ _).trans ?_)
    | (intro _ _; try dsimp only)
    | (refine ite_keep _ _ _ _ ?_ ?_)
    | split
    | (simp only [↓State.issueWrite_keep, ↓State.setDch_keep, ↓keep_mk, ↓keep_eta])

theorem State.cplSend_keep (s : State) (h : Nat) (l : List HostCpl) : (s.cplSend h l).keep = s.keep := by
  induction l generalizing s with
  | nil => exact State.setHst_keep ..
  | cons c t ih =>
    unfold State.cplSend
    split
    · exact (ih _).trans ((State.emit_keep ..).trans (State.tlp_keep ..))
    · exact State.setHst_keep ..
theorem State.dramAnswer_keep (s : State) (who : DramUser) (no : ℕ) (a : ℕ) (b : List Byte) (bad : Bool) : (State.dramAnswer s who no a b bad).keep = s.keep := by
  unfold State.dramAnswer
  try dsimp only
  repeat' first
    | (simp only [↓State.cplSend_keep, ↓State.emit_keep, ↓State.tlp_keep, ↓State.setChan_keep, ↓keep_mk, ↓keep_eta]; done)
    | (refine ite_keep _ _ _ _ ?_ ?_)
    | split
    | (simp only [↓State.cplSend_keep, ↓State.emit_keep, ↓State.tlp_keep, ↓State.setChan_keep, ↓keep_mk, ↓keep_eta])

theorem State.dropRead_keep (s : State) (r : DReq) : (State.dropRead s r).keep = s.keep := by
  unfold State.dropRead
  try dsimp only
  repeat' first
    | (simp only [↓State.dramAnswer_keep, ↓State.sleepAcc_keep, ↓keep_mk, ↓keep_eta]; done)
    | (refine ite_keep _ _ _ _ ?_ ?_)
    | split
    | (simp only [↓State.dramAnswer_keep, ↓State.sleepAcc_keep, ↓keep_mk, ↓keep_eta])

theorem State.dropReads_keep (s : State) (c : ℕ) : (State.dropReads s c).keep = s.keep := by
  unfold State.dropReads
  try dsimp only
  repeat' first
    | (simp only [↓State.setDch_keep, ↓State.dropRead_keep, ↓keep_mk, ↓keep_eta]; done)
    | (refine (foldl_keep _ ?_ _ _).trans ?_)
    | (refine (foldl_keep2 _ ?_ _ _).trans ?_)
    | (intro _ _; try dsimp only)
    | (refine ite_keep _ _ _ _ ?_ ?_)
    | split
    | (simp only [↓State.setDch_keep, ↓State.dropRead_keep, ↓keep_mk, ↓keep_eta])

theorem State.dlogSre_keep (s : State) (c : ℕ) : (State.dlogSre s c).keep = s.keep := by
  unfold State.dlogSre
  try dsimp only
  repeat' first
    | (simp only [↓State.dlogs_keep, ↓keep_mk, ↓keep_eta]; done)
    | (refine (foldl_keep _ ?_ _ _).trans ?_)
    | (refine (foldl_keep2 _ ?_ _ _).trans ?_)
    | (intro _ _; try dsimp only)
    | (refine ite_keep _ _ _ _ ?_ ?_)
    | split
    | (simp only [↓State.dlogs_keep, ↓keep_mk, ↓keep_eta])

theorem State.enterSr_keep (s : State) (c : ℕ) : (State.enterSr s c).keep = s.keep := by
  unfold State.enterSr
  try dsimp only
  repeat' first
    | (simp only [↓State.dlogSre_keep, ↓State.setDch_keep, ↓keep_mk, ↓keep_eta]; done)
    | (refine ite_keep _ _ _ _ ?_ ?_)
    | split
    | (simp only [↓State.dlogSre_keep, ↓State.setDch_keep, ↓keep_mk, ↓keep_eta])

theorem State.moveRegions_keep (s : State) (c : ℕ) : (State.moveRegions s c).keep = s.keep := by
  unfold State.moveRegions
  try dsimp only
  repeat' first
    | (simp only [↓keep_mk, ↓keep_eta]; done)
    | (refine (foldl_keep _ ?_ _ _).trans ?_)
    | (refine (foldl_keep2 _ ?_ _ _).trans ?_)
    | (intro _ _; try dsimp only)
    | (refine ite_keep _ _ _ _ ?_ ?_)
    | split
    | (simp only [↓keep_mk, ↓keep_eta])

theorem State.setDramSt_keep (s : State) (c : ℕ) (st : DramState) : (State.setDramSt s c st).keep = s.keep := by
  unfold State.setDramSt
  dsimp only
  split <;> simp only [↓State.setDch_keep]

theorem State.dramOffline_keep (s : State) (c : Nat) : (s.dramOffline c).keep = s.keep := by
  unfold State.dramOffline
  split
  · extract_lets a s1 s2
    have h1 : s1.keep = s.keep := by
      simp only [s1]
      split
      · exact State.dlogAll_keep ..
      · rfl
    have h2 : s2.keep = s.keep := (State.dropReads_keep ..).trans ((State.dramFlush_keep ..).trans h1)
    clear_value s2
    rw [State.setDramSt_keep, State.moveRegions_keep]
    split
    · exact h2
    · exact (State.enterSr_keep ..).trans h2
  · split
    · exact (State.setDramSt_keep ..).trans ((State.moveRegions_keep ..).trans (State.enterSr_keep ..))
    · rfl
theorem State.isoUnit_keep (s : State) (src : ℕ) (code : ℕ) (info : Word) : (State.isoUnit s src code info).keep = s.keep := by
  unfold State.isoUnit
  try dsimp only
  repeat' first
    | (simp only [↓State.forceDown_keep, ↓State.poolSteps_keep, ↓State.setGrp_keep, ↓State.clearAdmit_keep, ↓State.dropSamples_keep, ↓State.setRg_keep, ↓State.dramOffline_keep, ↓keep_mk, ↓keep_eta]; done)
    | (refine (foldl_keep _ ?_ _ _).trans ?_)
    | (refine (foldl_keep2 _ ?_ _ _).trans ?_)
    | (intro _ _; try dsimp only)
    | (refine ite_keep _ _ _ _ ?_ ?_)
    | split
    | (simp only [↓State.forceDown_keep, ↓State.poolSteps_keep, ↓State.setGrp_keep, ↓State.clearAdmit_keep, ↓State.dropSamples_keep, ↓State.setRg_keep, ↓State.dramOffline_keep, ↓keep_mk, ↓keep_eta])

theorem State.sxDown_keep (s : State) (n : ℕ) : (State.sxDown s n).keep = s.keep := by
  unfold State.sxDown
  try dsimp only
  repeat' first
    | (simp only [↓State.forceDown_keep, ↓keep_mk, ↓keep_eta]; done)
    | (refine (foldl_keep _ ?_ _ _).trans ?_)
    | (refine (foldl_keep2 _ ?_ _ _).trans ?_)
    | (intro _ _; try dsimp only)
    | (refine ite_keep _ _ _ _ ?_ ?_)
    | split
    | (simp only [↓State.forceDown_keep, ↓keep_mk, ↓keep_eta])

theorem State.dramQuiet_keep (s : State) (c : ℕ) (st : DramState) : (State.dramQuiet s c st).keep = s.keep := by
  unfold State.dramQuiet
  try dsimp only
  repeat' first
    | (simp only [↓State.setDramSt_keep, ↓State.enterSr_keep, ↓State.dropReads_keep, ↓State.dramFlush_keep, ↓keep_mk, ↓keep_eta]; done)
    | (refine ite_keep _ _ _ _ ?_ ?_)
    | split
    | (simp only [↓State.setDramSt_keep, ↓State.enterSr_keep, ↓State.dropReads_keep, ↓State.dramFlush_keep, ↓keep_mk, ↓keep_eta])

theorem State.dramStop_keep (s : State) (c : ℕ) : (State.dramStop s c).keep = s.keep := by
  unfold State.dramStop
  try dsimp only
  repeat' first
    | (simp only [↓State.dramQuiet_keep, ↓keep_mk, ↓keep_eta]; done)
    | (refine ite_keep _ _ _ _ ?_ ?_)
    | split
    | (simp only [↓State.dramQuiet_keep, ↓keep_mk, ↓keep_eta])

theorem State.loseDram_keep (s : State) : (State.loseDram s).keep = s.keep := by
  unfold State.loseDram
  simp only [↓keep_mk, ↓keep_eta]

theorem State.loseTbl_keep (s : State) : (State.loseTbl s).keep = s.keep := by
  unfold State.loseTbl
  simp only [↓keep_mk, ↓keep_eta]

theorem State.loseTel_keep (s : State) : (State.loseTel s).keep = s.keep := by
  unfold State.loseTel
  simp only [↓keep_mk, ↓keep_eta]

theorem State.setPkt_keep (s : State) (k : ℕ) (x : Pkt) : (State.setPkt s k x).keep = s.keep := by
  unfold State.setPkt
  simp only [↓keep_mk, ↓keep_eta]

theorem State.dropPkt_keep (s : State) (k : ℕ) : (State.dropPkt s k).keep = s.keep := by
  unfold State.dropPkt
  simp only [↓State.setPkt_keep]

theorem State.loseFlight_keep (s : State) (n : ℕ) : (State.loseFlight s n).keep = s.keep := by
  unfold State.loseFlight
  try dsimp only
  repeat' first
    | (simp only [↓State.dropPkt_keep, ↓State.relDesc_keep, ↓keep_mk, ↓keep_eta]; done)
    | (refine (foldl_keep _ ?_ _ _).trans ?_)
    | (refine (foldl_keep2 _ ?_ _ _).trans ?_)
    | (intro _ _; try dsimp only)
    | (refine ite_keep _ _ _ _ ?_ ?_)
    | split
    | (simp only [↓State.dropPkt_keep, ↓State.relDesc_keep, ↓keep_mk, ↓keep_eta])

theorem State.loseReplica_keep (s : State) (n : ℕ) : (State.loseReplica s n).keep = s.keep := by
  unfold State.loseReplica
  try dsimp only
  repeat' first
    | (simp only [↓State.emptyReplica_keep, ↓keep_mk, ↓keep_eta]; done)
    | (refine ite_keep _ _ _ _ ?_ ?_)
    | split
    | (simp only [↓State.emptyReplica_keep, ↓keep_mk, ↓keep_eta])

theorem State.setStale_keep (s : State) (n : ℕ) : (State.setStale s n).keep = s.keep := by
  unfold State.setStale
  split <;> simp only [↓keep_mk, ↓keep_eta]

theorem State.losePg_keep (s : State) (n : Nat) : (s.losePg n).keep = s.keep := by
  unfold State.losePg
  extract_lets s1 s2 a1 a2 a3 pol p1 sched p2 tbl p3 s3 p4 s4
  have h1 : s1.keep = s.keep := State.loseFlight_keep ..
  have h2 : s2.keep = s1.keep := foldl_keep _ (fun s lp => State.forceDown_keep s lp id) _ _
  have h3 : s3.keep = s2.keep := by simp only [s3, keep_mk, keep_eta]
  have h4 : s4.keep = s3.keep := by simp only [s4, keep_mk, keep_eta]
  rw [State.loseReplica_keep, State.setStale_keep, h4, h3, h2, h1]
theorem State.loseQuad_keep (s : State) (i : ℕ) : (State.loseQuad s i).keep = s.keep := by
  unfold State.loseQuad
  try dsimp only
  repeat' first
    | (simp only [↓keep_mk, ↓keep_eta]; done)
    | (refine ite_keep _ _ _ _ ?_ ?_)
    | split
    | (simp only [↓keep_mk, ↓keep_eta])

theorem State.loseDom_keep (s : State) (k : ℕ) : (State.loseDom s k).keep = s.keep := by
  unfold State.loseDom
  try dsimp only
  repeat' first
    | (simp only [↓State.loseDram_keep, ↓State.loseTbl_keep, ↓State.loseTel_keep, ↓State.losePg_keep, ↓State.loseQuad_keep, ↓keep_mk, ↓keep_eta]; done)
    | (refine ite_keep _ _ _ _ ?_ ?_)
    | split
    | (simp only [↓State.loseDram_keep, ↓State.loseTbl_keep, ↓State.loseTel_keep, ↓State.losePg_keep, ↓State.loseQuad_keep, ↓keep_mk, ↓keep_eta])

theorem State.domReset_keep (s : State) (k : ℕ) : (State.domReset s k).keep = s.keep := by
  unfold State.domReset
  repeat' first
    | (simp only [↓State.sxDown_keep, ↓State.dramStop_keep, ↓State.setDmn_keep, ↓State.loseDom_keep, ↓State.poolSteps_keep, ↓keep_mk, ↓keep_eta, *]; done)
    | (intro x; refine cutK x s ?_ ?_; rotate_left; (clear_value x; intro hx); rotate_left; simp only [x])
    | (intro x; refine cutK x.2 s ?_ ?_; rotate_left; (clear_value x; intro hx); rotate_left; simp only [x])
    | (intro x; clear_value x)
    | (refine (foldl_keep _ (fun s _ => ?_) _ _).trans ?_)
    | (refine (foldl_keep2 _ (fun s _ => ?_) _ _).trans ?_)
    | lift_lets
    | (refine ite_keep _ _ _ _ ?_ ?_)
    | (split <;> try (rename_i heq; replace heq := pairK heq; simp only [↓State.sxDown_keep, ↓State.dramStop_keep, ↓State.setDmn_keep, ↓State.loseDom_keep, ↓State.poolSteps_keep, ↓keep_mk, ↓keep_eta, ite_keep2, ite_self, *] at heq))
    | (simp only [↓State.sxDown_keep, ↓State.dramStop_keep, ↓State.setDmn_keep, ↓State.loseDom_keep, ↓State.poolSteps_keep, ↓keep_mk, ↓keep_eta])

theorem State.loseBuffer_keep (s : State) : s.loseBuffer.keep = s.keep := by
  unfold State.loseBuffer
  extract_lets s1 bl bf
  have h1 : s1.keep = s.keep := by
    refine foldl_keep _ (fun s e => ?_) _ _
    split
    · exact State.freeHold_keep ..
    · rfl
  clear_value s1
  rw [State.poolSteps_keep, keep_mk, keep_eta, h1]
theorem State.bufReset_keep (s : State) : s.bufReset.keep = s.keep := by
  unfold State.bufReset
  dsimp only
  rw [keep_mk, keep_eta]
  exact (foldl_keep _ (fun s i => State.domReset_keep s _) _ _).trans (State.loseBuffer_keep s)
theorem State.markReset_keep (s : State) : (State.markReset s).keep = s.keep := by
  unfold State.markReset
  simp only [↓keep_mk, ↓keep_eta]

theorem State.seqPut_keep (s : State) (lp : ℕ) (seq : ℕ) (i : SeqItem) : (State.seqPut s lp seq i).keep = s.keep := by
  unfold State.seqPut
  simp only [↓keep_mk, ↓keep_eta]

theorem State.endPkt_keep (s : State) (k : ℕ) (b : Boundary) (reason : ℕ) : (State.endPkt s k b reason).keep = s.keep := by
  unfold State.endPkt
  simp only [↓State.freeHold_keep, ↓State.drop_keep, ↓State.dropPkt_keep, ↓State.seqPut_keep]

theorem State.seqStep_keep (s : State) (kind : ℕ) : (State.seqStep s kind).keep = s.keep := by
  unfold State.seqStep
  try dsimp only
  repeat' first
    | (simp only [↓keep_mk, ↓keep_eta]; done)
    | (refine ite_keep _ _ _ _ ?_ ?_)
    | split
    | (simp only [↓keep_mk, ↓keep_eta])

theorem State.setRing_keep (s : State) (h : ℕ) (t : ℕ) (x : Ring) : (State.setRing s h t x).keep = s.keep := by
  unfold State.setRing
  simp only [↓keep_mk, ↓keep_eta]

theorem State.toRing_keep (s : State) (k : ℕ) (h : ℕ) (t : ℕ) (rec : List Byte) (n : ℕ) : (State.toRing s k h t rec n).keep = s.keep := by
  unfold State.toRing
  dsimp only
  repeat' split
  all_goals simp only [↓State.seqStep_keep, ↓State.toHost_keep, ↓State.setRing_keep, ↓State.telLost_keep]

theorem State.export_keep (s : State) (kind : ℕ) (len : ℕ) (stamp : BitVec 64) (body : List Word) (n : optParam ℕ 1) : (State.export s kind len stamp body n).keep = s.keep := by
  unfold State.export
  dsimp only
  repeat' split
  all_goals simp only [↓State.seqStep_keep, ↓State.toRegion_keep, ↓State.toRing_keep, ↓keep_mk, ↓keep_eta]

theorem State.digestEmit_keep (s : State) : (State.digestEmit s).keep = s.keep := by
  unfold State.digestEmit
  dsimp only
  split <;> simp only [↓State.export_keep, ↓keep_mk, ↓keep_eta]

theorem State.digestEntry_keep (s : State) (digest : Word) (sent : Word) (kind : ℕ) (st : Stamp) (c : ℕ) (e : ℕ) (t : ℕ) : (State.digestEntry s digest sent kind st c e t).keep = s.keep := by
  unfold State.digestEntry
  dsimp only
  repeat' split
  all_goals simp only [↓State.telLost_keep, ↓State.digestEmit_keep, ↓keep_mk, ↓keep_eta]

theorem State.sealVerdict_keep (s : State) (k : ℕ) (v : List Word) (src : PuntSrc) : (State.sealVerdict s k v src).keep = s.keep := by
  unfold State.sealVerdict
  try dsimp only
  repeat' first
    | (simp only [↓State.setPkt_keep, ↓State.digestEntry_keep, ↓keep_mk, ↓keep_eta]; done)
    | (refine ite_keep _ _ _ _ ?_ ?_)
    | split
    | (simp only [↓State.setPkt_keep, ↓State.digestEntry_keep, ↓keep_mk, ↓keep_eta])

theorem State.handDrop_keep (s : State) (k : ℕ) (reason : ℕ) (v : List Word) : (State.handDrop s k reason v).keep = s.keep := by
  unfold State.handDrop
  simp only [↓State.endPkt_keep, ↓State.sealVerdict_keep]

theorem State.clusterReset_keep (s : State) (c : Nat) : (s.clusterReset c).keep = s.keep := by
  unfold State.clusterReset
  extract_lets s1 ks n s2 s3 s4 s5
  have h1 : s1.keep = s.keep := State.clearAdmit_keep ..
  have h2 : s2.keep = s1.keep := by
    refine foldl_keep _ (fun s k => ?_) _ _
    split
    · exact State.handDrop_keep ..
    · rfl
  have h3 : s3.keep = s2.keep := by simp only [s3, keep_mk, keep_eta]
  clear_value s1 s2 s3
  have h4 : s4.keep = s3.keep := by
    simp only [s4]
    split
    · rfl
    · exact State.bump_keep s3 .necSbDiscard c 0 n
  rw [State.setClu_keep, State.setRg_keep, State.setRg_keep, h4, h3, h2, h1]
theorem State.rstdUnit_keep (s : State) (src : ℕ) (code : ℕ) (info : Word) : (State.rstdUnit s src code info).keep = s.keep := by
  unfold State.rstdUnit
  dsimp only
  repeat' split
  all_goals simp only [↓State.bufReset_keep, ↓State.markReset_keep, ↓State.domReset_keep, ↓State.clusterReset_keep]

theorem State.setLine_keep (s : State) (c : ℕ) (l : ℕ) (x : LockLine) : (State.setLine s c l x).keep = s.keep := by
  unfold State.setLine
  simp only [↓State.setClu_keep]

theorem State.leaveLine_keep (s : State) (k : ℕ) : (State.leaveLine s k).2.keep = s.keep := by
  unfold State.leaveLine
  dsimp only
  repeat' split
  all_goals simp only [↓State.setLine_keep]

theorem State.breakLock_keep (s : State) (k : ℕ) : (State.breakLock s k).keep = s.keep := by
  unfold State.breakLock
  dsimp only
  repeat' split
  all_goals simp only [↓State.leaveLine_keep, ↓State.orRg_keep, ↓State.setThr_keep]

theorem State.dramFreeze_keep (s : State) (c : ℕ) : (State.dramFreeze s c).keep = s.keep := by
  unfold State.dramFreeze
  try dsimp only
  repeat' first
    | (simp only [↓State.enterSr_keep, ↓State.dramQuiet_keep, ↓keep_mk, ↓keep_eta]; done)
    | (refine ite_keep _ _ _ _ ?_ ?_)
    | split
    | (simp only [↓State.enterSr_keep, ↓State.dramQuiet_keep, ↓keep_mk, ↓keep_eta])

theorem State.freezeLatch_keep (s : State) (origin : ℕ) (source : ℕ) (event : ℕ) (drives : Bool) : (State.freezeLatch s origin source event drives).keep = s.keep := by
  unfold State.freezeLatch
  try dsimp only
  repeat' first
    | (simp only [↓State.emit_keep, ↓State.bump_keep, ↓State.breakLock_keep, ↓State.dramFreeze_keep, ↓keep_mk, ↓keep_eta]; done)
    | (refine (foldl_keep _ ?_ _ _).trans ?_)
    | (refine (foldl_keep2 _ ?_ _ _).trans ?_)
    | (intro _ _; try dsimp only)
    | (refine ite_keep _ _ _ _ ?_ ?_)
    | split
    | (simp only [↓State.emit_keep, ↓State.bump_keep, ↓State.breakLock_keep, ↓State.dramFreeze_keep, ↓keep_mk, ↓keep_eta])

theorem State.chipReset_keep (s : State) : s.chipReset.keep = s.keep := by
  unfold State.chipReset
  dsimp only
  rw [keep_mk, keep_eta]
  exact foldl_keep _ (fun s c => State.dramStop_keep s c) _ _
theorem State.raiseCore_keep (s : State) (e : FaultEv) : (State.raiseCore s e).keep = s.keep := by
  unfold State.raiseCore
  dsimp only
  repeat' split
  all_goals simp only [↓State.logHist_keep, ↓State.logStatus_keep, ↓State.orRg_keep, ↓State.isoUnit_keep, ↓State.rstdUnit_keep, ↓State.freezeLatch_keep, ↓State.chipReset_keep]

theorem State.raise_keep (s : State) (e : FaultEv) : (State.raise s e).keep = s.keep := by
  unfold State.raise
  dsimp only
  repeat' split
  all_goals simp only [↓State.raiseCore_keep, ↓keep_mk, ↓keep_eta]

theorem State.commitNone_keep (s : State) (r : Req) (a : ℕ) : (State.commitNone s r a).keep = s.keep := by
  unfold State.commitNone
  split <;> simp only [↓State.raise_keep]

theorem State.commitSlots_keep (s : State) (c : ℕ) (cls : Word) (pol : Word) : (State.commitSlots s c cls pol).keep = s.keep := by
  unfold State.commitSlots
  simp only [↓State.setClu_keep]

theorem State.carve_keep (s : State) (n : List Nat) : (s.carve n).keep = s.keep := by
  unfold State.carve
  rw [State.poolSteps_keep]
  exact foldl_keep _ (fun s k => State.setBlk_keep ..) _ _
theorem State.commitCarve_keep (s : State) (lo : Word) (hi : Word) : (State.commitCarve s lo hi).keep = s.keep := by
  unfold State.commitCarve
  dsimp only
  split <;> simp only [↓State.setRg_keep, ↓State.carve_keep, ↓keep_mk, ↓keep_eta]

theorem State.setIdx_keep (s : State) (o : Option Nat) (f : State → Nat → State) (h : ∀ s q, (f s q).keep = s.keep) :
    (s.setIdx o f).keep = s.keep := by
  unfold State.setIdx
  split
  · exact h ..
  · rfl
theorem State.setShp_keep (s : State) (i : ℕ) (b : Bucket) : (State.setShp s i b).keep = s.keep := by
  unfold State.setShp
  simp only [↓keep_mk, ↓keep_eta]

theorem State.commitReg_keep (s : State) (r : Req) (v : Word) : (State.commitReg s r v).keep = s.keep := by
  unfold State.commitReg
  repeat' first
    | (simp only [↓State.commitNone_keep, ↓State.access_keep, ↓State.commitSlots_keep, ↓State.commitCarve_keep, ↓State.setIdx_keep, ↓State.setPol_keep, ↓State.setShp_keep, ↓keep_mk, ↓keep_eta, *]; done)
    | (intro x; refine cutK x s ?_ ?_; rotate_left; (clear_value x; intro hx); rotate_left; simp only [x])
    | (intro x; refine cutK x.2 s ?_ ?_; rotate_left; (clear_value x; intro hx); rotate_left; simp only [x])
    | (intro x; clear_value x)
    | (refine State.setIdx_keep _ _ _ (fun s _ => ?_))
    | (refine (State.access_keep _ _ _ _ (fun s => ?_)).trans ?_)
    | lift_lets
    | (refine ite_keep _ _ _ _ ?_ ?_)
    | (split <;> try (rename_i heq; replace heq := pairK heq; simp only [↓State.commitNone_keep, ↓State.access_keep, ↓State.commitSlots_keep, ↓State.commitCarve_keep, ↓State.setIdx_keep, ↓State.setPol_keep, ↓State.setShp_keep, ↓keep_mk, ↓keep_eta, ite_keep2, ite_self, *] at heq))
    | (simp only [↓State.commitNone_keep, ↓State.access_keep, ↓State.commitSlots_keep, ↓State.commitCarve_keep, ↓State.setIdx_keep, ↓State.setPol_keep, ↓State.setShp_keep, ↓keep_mk, ↓keep_eta])

theorem State.msixWrite_keep (s : State) (h : ℕ) (i : ℕ) (v : Word) : (State.msixWrite s h i v).keep = s.keep := by
  unfold State.msixWrite
  split <;> simp only [↓State.setHst_keep]

theorem State.setPv_keep (s : State) (r : Req) (a : ℕ) (v : Word) : (State.setPv s r a v).keep = s.keep := by
  unfold State.setPv
  simp only [↓keep_mk, ↓keep_eta]

theorem State.writePlain_keep (s : State) (r : Req) (x : RegAt) (v : Word) : (State.writePlain s r x v).keep = s.keep := by
  unfold State.writePlain
  split <;> simp only [↓State.setPv_keep, ↓keep_mk, ↓keep_eta]

theorem State.startDone_keep (s : State) : (State.startDone s).keep = s.keep := by
  unfold State.startDone
  split <;> simp only [↓keep_mk, ↓keep_eta]

theorem State.writeChipCtl_keep (s : State) (v : Word) : (State.writeChipCtl s v).keep = s.keep := by
  unfold State.writeChipCtl
  try dsimp only
  repeat' first
    | (simp only [↓State.chipReset_keep, ↓State.startDone_keep, ↓State.orRg_keep, ↓keep_mk, ↓keep_eta]; done)
    | (refine ite_keep _ _ _ _ ?_ ?_)
    | split
    | (simp only [↓State.chipReset_keep, ↓State.startDone_keep, ↓State.orRg_keep, ↓keep_mk, ↓keep_eta])

theorem State.reRise_keep (s : State) (src : ℕ) : (State.reRise s src).keep = s.keep := by
  unfold State.reRise
  try dsimp only
  repeat' first
    | (simp only [↓State.setHst_keep, ↓keep_mk, ↓keep_eta]; done)
    | (refine (foldl_keep _ ?_ _ _).trans ?_)
    | (refine (foldl_keep2 _ ?_ _ _).trans ?_)
    | (intro _ _; try dsimp only)
    | (refine ite_keep _ _ _ _ ?_ ?_)
    | split
    | (simp only [↓State.setHst_keep, ↓keep_mk, ↓keep_eta])

theorem State.writeStatus3_keep (s : State) (v : Word) : (State.writeStatus3 s v).keep = s.keep := by
  unfold State.writeStatus3
  repeat' first
    | (simp only [↓State.reRise_keep, ↓State.setRg_keep, ↓keep_mk, ↓keep_eta, *]; done)
    | (intro x; refine cutK x s ?_ ?_; rotate_left; (clear_value x; intro hx); rotate_left; simp only [x])
    | (intro x; refine cutK x.2 s ?_ ?_; rotate_left; (clear_value x; intro hx); rotate_left; simp only [x])
    | (intro x; clear_value x)
    | (refine (foldl_keep _ (fun s _ => ?_) _ _).trans ?_)
    | (refine (foldl_keep2 _ (fun s _ => ?_) _ _).trans ?_)
    | lift_lets
    | (refine ite_keep _ _ _ _ ?_ ?_)
    | (split <;> try (rename_i heq; replace heq := pairK heq; simp only [↓State.reRise_keep, ↓State.setRg_keep, ↓keep_mk, ↓keep_eta, ite_keep2, ite_self, *] at heq))
    | (simp only [↓State.reRise_keep, ↓State.setRg_keep, ↓keep_mk, ↓keep_eta])

theorem State.writeTest_keep (s : State) (v : Word) : (State.writeTest s v).keep = s.keep := by
  unfold State.writeTest
  dsimp only
  repeat' split
  all_goals simp only [↓State.setRg_keep, ↓keep_mk, ↓keep_eta]

theorem State.retire_keep (s : State) (c : ℕ) (e : ℕ) (cause : ℕ) : (State.retire s c e cause).keep = s.keep := by
  unfold State.retire
  dsimp only
  repeat' split
  all_goals simp only [↓State.setClu_keep, ↓State.dropSamples_keep, ↓State.raise_keep, ↓keep_mk, ↓keep_eta]

theorem State.writeRetire_keep (s : State) (c : ℕ) (v : Word) : (State.writeRetire s c v).keep = s.keep := by
  unfold State.writeRetire
  try dsimp only
  repeat' first
    | (simp only [↓State.retire_keep, ↓keep_mk, ↓keep_eta]; done)
    | (refine (foldl_keep _ ?_ _ _).trans ?_)
    | (refine (foldl_keep2 _ ?_ _ _).trans ?_)
    | (intro _ _; try dsimp only)
    | (refine ite_keep _ _ _ _ ?_ ?_)
    | split
    | (simp only [↓State.retire_keep, ↓keep_mk, ↓keep_eta])

theorem State.refuseStep_keep (s : State) (k : ℕ) : (State.refuseStep s k).keep = s.keep := by
  unfold State.refuseStep
  simp only [↓State.setDmn_keep]

theorem State.stepBegin_keep (s : State) (k : ℕ) : (State.stepBegin s k).keep = s.keep := by
  unfold State.stepBegin
  try dsimp only
  repeat' first
    | (simp only [↓State.setDmn_keep, ↓State.refuseStep_keep, ↓keep_mk, ↓keep_eta]; done)
    | (refine ite_keep _ _ _ _ ?_ ?_)
    | split
    | (simp only [↓State.setDmn_keep, ↓State.refuseStep_keep, ↓keep_mk, ↓keep_eta])

theorem State.writeDom_keep (s : State) (k : ℕ) (v : Word) : (State.writeDom s k v).keep = s.keep := by
  unfold State.writeDom
  try dsimp only
  repeat' first
    | (simp only [↓State.stepBegin_keep, ↓State.setDmn_keep, ↓State.domReset_keep, ↓keep_mk, ↓keep_eta]; done)
    | (refine ite_keep _ _ _ _ ?_ ?_)
    | split
    | (simp only [↓State.stepBegin_keep, ↓State.setDmn_keep, ↓State.domReset_keep, ↓keep_mk, ↓keep_eta])

theorem State.writeReload_keep (s : State) (v : Word) : (State.writeReload s v).keep = s.keep := by
  unfold State.writeReload
  simp only [↓keep_mk, ↓keep_eta]

theorem State.writeTimeCtl_keep (s : State) (v : Word) : (State.writeTimeCtl s v).keep = s.keep := by
  unfold State.writeTimeCtl
  dsimp only
  split <;> simp only [↓State.setRg_keep, ↓keep_mk, ↓keep_eta]

theorem State.closeHold_keep (s : State) (c : ℕ) : (State.closeHold s c).keep = s.keep := by
  unfold State.closeHold
  simp only [↓State.setClu_keep]

theorem State.closePoints_keep (s : State) : (State.closePoints s).keep = s.keep := by
  unfold State.closePoints
  try dsimp only
  repeat' first
    | (simp only [↓State.absentAnew_keep, ↓State.closeHold_keep, ↓keep_mk, ↓keep_eta]; done)
    | (refine (foldl_keep _ ?_ _ _).trans ?_)
    | (refine (foldl_keep2 _ ?_ _ _).trans ?_)
    | (intro _ _; try dsimp only)
    | (refine ite_keep _ _ _ _ ?_ ?_)
    | split
    | (simp only [↓State.absentAnew_keep, ↓State.closeHold_keep, ↓keep_mk, ↓keep_eta])

theorem State.closeInterval_keep (s : State) : (State.closeInterval s).keep = s.keep := by
  unfold State.closeInterval
  try dsimp only
  repeat' first
    | (simp only [↓State.closePoints_keep, ↓State.addCtr_keep, ↓keep_mk, ↓keep_eta]; done)
    | (refine ite_keep _ _ _ _ ?_ ?_)
    | split
    | (simp only [↓State.closePoints_keep, ↓State.addCtr_keep, ↓keep_mk, ↓keep_eta])

theorem State.ledStep_keep (s : State) (t : ℕ) : (State.ledStep s t).keep = s.keep := by
  unfold State.ledStep
  repeat' first
    | (simp only [↓State.closeInterval_keep, ↓State.closePoints_keep, ↓keep_mk, ↓keep_eta, *]; done)
    | (intro x; refine cutK x s ?_ ?_; rotate_left; (clear_value x; intro hx); rotate_left; simp only [x])
    | (intro x; refine cutK x.2 s ?_ ?_; rotate_left; (clear_value x; intro hx); rotate_left; simp only [x])
    | (intro x; clear_value x)
    | lift_lets
    | (refine ite_keep _ _ _ _ ?_ ?_)
    | (split <;> try (rename_i heq; replace heq := pairK heq; simp only [↓State.closeInterval_keep, ↓State.closePoints_keep, ↓keep_mk, ↓keep_eta, ite_keep2, ite_self, *] at heq))
    | (simp only [↓State.closeInterval_keep, ↓State.closePoints_keep, ↓keep_mk, ↓keep_eta])

theorem State.timeStep_keep (s : State) (t : ℕ) : (State.timeStep s t).keep = s.keep := by
  unfold State.timeStep
  simp only [↓State.ledStep_keep, ↓keep_mk, ↓keep_eta]

theorem State.setSec_keep (s : State) (v : Word) : (State.setSec s v).keep = s.keep := by
  unfold State.setSec
  dsimp only
  split <;> simp only [↓State.setRg_keep, ↓State.timeStep_keep, ↓keep_mk, ↓keep_eta]

theorem State.dropHostPicks_keep (s : State) (h : ℕ) : (State.dropHostPicks s h).keep = s.keep := by
  unfold State.dropHostPicks
  try dsimp only
  repeat' first
    | (simp only [↓State.dropDesc_keep, ↓keep_mk, ↓keep_eta]; done)
    | (refine (foldl_keep _ ?_ _ _).trans ?_)
    | (refine (foldl_keep2 _ ?_ _ _).trans ?_)
    | (intro _ _; try dsimp only)
    | (refine ite_keep _ _ _ _ ?_ ?_)
    | split
    | (simp only [↓State.dropDesc_keep, ↓keep_mk, ↓keep_eta])

theorem State.cuForget_keep (s : State) (h : ℕ) : (State.cuForget s h).keep = s.keep := by
  unfold State.cuForget
  simp only [↓keep_mk, ↓keep_eta]

theorem State.keepReads_keep (s : State) (c : ℕ) (keep : DReq → Bool) : (State.keepReads s c keep).keep = s.keep := by
  unfold State.keepReads
  try dsimp only
  repeat' first
    | (simp only [↓State.setDch_keep, ↓keep_mk, ↓keep_eta]; done)
    | (refine ite_keep _ _ _ _ ?_ ?_)
    | split
    | (simp only [↓State.setDch_keep, ↓keep_mk, ↓keep_eta])

theorem State.startAbort_keep (s : State) (by_ : Option TCmd) (forced : Bool) : (State.startAbort s by_ forced).keep = s.keep := by
  unfold State.startAbort
  simp only [↓keep_mk, ↓keep_eta]

theorem State.hostLoss_keep (s : State) (h : ℕ) (cause : ℕ) (linkOff : Bool) : (State.hostLoss s h cause linkOff).keep = s.keep := by
  unfold State.hostLoss
  repeat' first
    | (simp only [↓State.markFlush_keep, ↓State.setHst_keep, ↓State.emit_keep, ↓State.dropHostPicks_keep, ↓State.cuForget_keep, ↓State.keepReads_keep, ↓State.startAbort_keep, ↓keep_mk, ↓keep_eta, *]; done)
    | (intro x; refine cutK x s ?_ ?_; rotate_left; (clear_value x; intro hx); rotate_left; simp only [x])
    | (intro x; refine cutK x.2 s ?_ ?_; rotate_left; (clear_value x; intro hx); rotate_left; simp only [x])
    | (intro x; clear_value x)
    | (refine (foldl_keep _ (fun s _ => ?_) _ _).trans ?_)
    | (refine (foldl_keep2 _ (fun s _ => ?_) _ _).trans ?_)
    | lift_lets
    | (refine ite_keep _ _ _ _ ?_ ?_)
    | (split <;> try (rename_i heq; replace heq := pairK heq; simp only [↓State.markFlush_keep, ↓State.setHst_keep, ↓State.emit_keep, ↓State.dropHostPicks_keep, ↓State.cuForget_keep, ↓State.keepReads_keep, ↓State.startAbort_keep, ↓keep_mk, ↓keep_eta, ite_keep2, ite_self, *] at heq))
    | (simp only [↓State.markFlush_keep, ↓State.setHst_keep, ↓State.emit_keep, ↓State.dropHostPicks_keep, ↓State.cuForget_keep, ↓State.keepReads_keep, ↓State.startAbort_keep, ↓keep_mk, ↓keep_eta])

theorem State.loseHost_keep (s : State) (h : ℕ) (cause : ℕ) (linkOff : Bool) : (State.loseHost s h cause linkOff).keep = s.keep := by
  unfold State.loseHost
  dsimp only
  split <;> simp only [↓State.hostLoss_keep, ↓State.setHst_keep]

theorem State.writeHostCtl_keep (s : State) (h : ℕ) (v : Word) : (State.writeHostCtl s h v).keep = s.keep := by
  unfold State.writeHostCtl
  dsimp only
  repeat' split
  all_goals simp only [↓State.loseHost_keep, ↓State.setHst_keep]

theorem State.sendLtr_keep (s : State) (h : ℕ) : (State.sendLtr s h).keep = s.keep := by
  unfold State.sendLtr
  split <;> simp only [↓State.emit_keep, ↓State.tlp_keep]

theorem State.writePmCfg_keep (s : State) (h : ℕ) (v : Word) : (State.writePmCfg s h v).keep = s.keep := by
  unfold State.writePmCfg
  dsimp only
  split <;> simp only [↓State.setRg_keep, ↓State.sendLtr_keep]

theorem State.dbStart_keep (s : State) (h : ℕ) : (State.dbStart s h).keep = s.keep := by
  unfold State.dbStart
  simp only [↓State.setHst_keep, ↓State.readHost_keep]

theorem State.dbWant_keep (s : State) (h : ℕ) : (State.dbWant s h).keep = s.keep := by
  unfold State.dbWant
  try dsimp only
  repeat' first
    | (simp only [↓State.setHst_keep, ↓State.dbStart_keep, ↓keep_mk, ↓keep_eta]; done)
    | (refine ite_keep _ _ _ _ ?_ ?_)
    | split
    | (simp only [↓State.setHst_keep, ↓State.dbStart_keep, ↓keep_mk, ↓keep_eta])

theorem State.nudge_keep (s : State) (h : ℕ) : (State.nudge s h).keep = s.keep := by
  unfold State.nudge
  try dsimp only
  repeat' first
    | (simp only [↓State.dbWant_keep, ↓keep_mk, ↓keep_eta]; done)
    | (refine ite_keep _ _ _ _ ?_ ?_)
    | split
    | (simp only [↓State.dbWant_keep, ↓keep_mk, ↓keep_eta])

theorem State.reRiseOf_keep (s : State) (h : ℕ) (src : ℕ) : (State.reRiseOf s h src).keep = s.keep := by
  unfold State.reRiseOf
  simp only [↓State.setHst_keep]

theorem State.ringErr_keep (s : State) (h : ℕ) (t : ℕ) (cause : ℕ) : (State.ringErr s h t cause).keep = s.keep := by
  unfold State.ringErr
  split <;> simp only [↓State.setRg_keep, ↓State.setRing_keep]

theorem State.ringStart_keep (s : State) (h : ℕ) (t : ℕ) (v : Word) (count : Option Word) : (State.ringStart s h t v count).keep = s.keep := by
  unfold State.ringStart
  try dsimp only
  repeat' first
    | (simp only [↓State.setRing_keep, ↓State.dbWant_keep, ↓State.readHost_keep, ↓State.ringErr_keep, ↓keep_mk, ↓keep_eta]; done)
    | (refine ite_keep _ _ _ _ ?_ ?_)
    | split
    | (simp only [↓State.setRing_keep, ↓State.dbWant_keep, ↓State.readHost_keep, ↓State.ringErr_keep, ↓keep_mk, ↓keep_eta])

theorem State.writeRngCfg_keep (s : State) (h : ℕ) (t : ℕ) (v : Word) (count : Option Word) : (State.writeRngCfg s h t v count).keep = s.keep := by
  unfold State.writeRngCfg
  dsimp only
  repeat' split
  all_goals simp only [↓State.setRg_keep, ↓State.ringStart_keep, ↓State.setRing_keep]

theorem State.abortDma_keep (s : State) (n : ℕ) : (State.abortDma s n).keep = s.keep := by
  unfold State.abortDma
  dsimp only
  split <;> simp only [↓State.setChan_keep]

theorem State.goDma_keep (s : State) (n : ℕ) : (State.goDma s n).keep = s.keep := by
  unfold State.goDma
  dsimp only
  split <;> simp only [↓State.setChan_keep, ↓State.readHost48_keep]

theorem State.writeDmaCtl_keep (s : State) (n : ℕ) (v : Word) : (State.writeDmaCtl s n v).keep = s.keep := by
  unfold State.writeDmaCtl
  try dsimp only
  repeat' first
    | (simp only [↓State.abortDma_keep, ↓State.goDma_keep, ↓keep_mk, ↓keep_eta]; done)
    | (refine ite_keep _ _ _ _ ?_ ?_)
    | split
    | (simp only [↓State.abortDma_keep, ↓State.goDma_keep, ↓keep_mk, ↓keep_eta])

theorem State.writeDmaStat_keep (s : State) (n : ℕ) (v : Word) : (State.writeDmaStat s n v).keep = s.keep := by
  unfold State.writeDmaStat
  simp only [↓State.setChan_keep, ↓State.reRiseOf_keep]

theorem State.complete_keep (s : State) (c : TCmd) (x : Cpl) : (State.complete s c x).keep = s.keep := by
  unfold State.complete
  try dsimp only
  repeat' first
    | (simp only [↓State.fresh_keep, ↓State.setRg_keep, ↓State.setRing_keep, ↓State.toHost_keep, ↓keep_mk, ↓keep_eta]; done)
    | (refine (foldl_keep _ ?_ _ _).trans ?_)
    | (refine (foldl_keep2 _ ?_ _ _).trans ?_)
    | (intro _ _; try dsimp only)
    | (refine ite_keep _ _ _ _ ?_ ?_)
    | split
    | (simp only [↓State.fresh_keep, ↓State.setRg_keep, ↓State.setRing_keep, ↓State.toHost_keep, ↓keep_mk, ↓keep_eta])

theorem State.cuPop_keep (s : State) : (State.cuPop s).keep = s.keep := by
  unfold State.cuPop
  split <;> simp only [↓keep_mk, ↓keep_eta]

theorem State.cuSkip_keep (n : Nat) (s : State) : (State.cuSkip n s).keep = s.keep := by
  induction n generalizing s with
  | zero => rfl
  | succ n ih =>
    unfold State.cuSkip
    split
    · split
      · rfl
      · rw [ih, State.complete_keep, State.cuPop_keep]
    · rfl
theorem State.cuTidy_keep (s : State) : (State.cuTidy s).keep = s.keep := by
  unfold State.cuTidy
  simp only [↓State.cuSkip_keep]

theorem State.submit_keep (s : State) (b : Req) (v : Word) : (State.submit s b v).keep = s.keep := by
  unfold State.submit
  dsimp only
  split <;> simp only [↓State.cuTidy_keep, ↓keep_mk, ↓keep_eta]

theorem State.setImg_keep (s : State) (x : ImagePort) : (State.setImg s x).keep = s.keep := by
  unfold State.setImg
  simp only [↓keep_mk, ↓keep_eta]

theorem State.imgFail_keep (s : State) (status : ℕ) : (State.imgFail s status).keep = s.keep := by
  unfold State.imgFail
  simp only [↓State.setImg_keep]

theorem State.writeImgCtl_keep (s : State) (v : Word) : (State.writeImgCtl s v).keep = s.keep := by
  unfold State.writeImgCtl
  dsimp only
  repeat' split
  all_goals simp only [↓State.setRg_keep, ↓State.imgFail_keep, ↓State.setImg_keep]

theorem State.invalSlot_keep (s : State) (c : ℕ) (i : ℕ) : (State.invalSlot s c i).keep = s.keep := by
  unfold State.invalSlot
  simp only [↓State.setClu_keep]

theorem State.imgBody_keep (s : State) (h : List Word) : (State.imgBody s h).keep = s.keep := by
  unfold State.imgBody
  try dsimp only
  repeat' first
    | (simp only [↓State.invalSlot_keep, ↓State.setImg_keep, ↓keep_mk, ↓keep_eta]; done)
    | (refine (foldl_keep _ ?_ _ _).trans ?_)
    | (refine (foldl_keep2 _ ?_ _ _).trans ?_)
    | (intro _ _; try dsimp only)
    | (refine ite_keep _ _ _ _ ?_ ?_)
    | split
    | (simp only [↓State.invalSlot_keep, ↓State.setImg_keep, ↓keep_mk, ↓keep_eta])

theorem State.setCword_keep (s : State) (c : ℕ) (slot : ℕ) (addr : ℕ) (w : BitVec 144) : (State.setCword s c slot addr w).keep = s.keep := by
  unfold State.setCword
  simp only [↓keep_mk, ↓keep_eta]

theorem State.imgWord_keep (s : State) : (State.imgWord s).keep = s.keep := by
  unfold State.imgWord
  try dsimp only
  repeat' first
    | (simp only [↓State.imgFail_keep, ↓State.setCword_keep, ↓State.setImg_keep, ↓keep_mk, ↓keep_eta]; done)
    | (refine (foldl_keep _ ?_ _ _).trans ?_)
    | (refine (foldl_keep2 _ ?_ _ _).trans ?_)
    | (intro _ _; try dsimp only)
    | (refine ite_keep _ _ _ _ ?_ ?_)
    | split
    | (simp only [↓State.imgFail_keep, ↓State.setCword_keep, ↓State.setImg_keep, ↓keep_mk, ↓keep_eta])

theorem State.imgDone_keep (s : State) : (State.imgDone s).keep = s.keep := by
  unfold State.imgDone
  try dsimp only
  repeat' first
    | (simp only [↓State.setClu_keep, ↓State.setImg_keep, ↓keep_mk, ↓keep_eta]; done)
    | (refine (foldl_keep _ ?_ _ _).trans ?_)
    | (refine (foldl_keep2 _ ?_ _ _).trans ?_)
    | (intro _ _; try dsimp only)
    | (refine ite_keep _ _ _ _ ?_ ?_)
    | split
    | (simp only [↓State.setClu_keep, ↓State.setImg_keep, ↓keep_mk, ↓keep_eta])

theorem State.imgFinish_keep (s : State) : (State.imgFinish s).keep = s.keep := by
  unfold State.imgFinish
  split <;> simp only [↓State.imgDone_keep]

theorem State.imgData_keep (s : State) (v : Word) : (State.imgData s v).keep = s.keep := by
  unfold State.imgData
  dsimp only
  repeat' split
  all_goals simp only [↓State.setImg_keep, ↓State.imgBody_keep, ↓State.imgFail_keep, ↓State.imgWord_keep, ↓State.imgFinish_keep]

theorem State.writeEpcCfg_keep (s : State) (v : Word) : (State.writeEpcCfg s v).keep = s.keep := by
  unfold State.writeEpcCfg
  dsimp only
  split <;> simp only [↓State.setRg_keep, ↓State.startAbort_keep]

theorem State.writePortCfg_keep (s : State) (pg : ℕ) (p : ℕ) (v : Word) : (State.writePortCfg s pg p v).keep = s.keep := by
  unfold State.writePortCfg
  simp only [↓State.setRg_keep]

theorem State.toAligning_keep (s : State) (lp : ℕ) : (State.toAligning s lp).keep = s.keep := by
  unfold State.toAligning
  simp only [↓State.setLink_keep, ↓State.setPort_keep]

theorem State.toDown_keep (s : State) (lp : ℕ) : (State.toDown s lp).keep = s.keep := by
  unfold State.toDown
  split <;> simp only [↓State.setLink_keep, ↓State.toAligning_keep]

theorem State.enableLp_keep (s : State) (lp : ℕ) : (State.enableLp s lp).keep = s.keep := by
  unfold State.enableLp
  dsimp only
  split <;> simp only [↓State.setPort_keep, ↓State.toDown_keep]

theorem State.writeMacCtl_keep (s : State) (lp : ℕ) (v : Word) : (State.writeMacCtl s lp v).keep = s.keep := by
  unfold State.writeMacCtl
  dsimp only
  repeat' split
  all_goals simp only [↓State.setRg_keep, ↓State.enableLp_keep, ↓State.forceDown_keep]

theorem State.setCage_keep (s : State) (c : ℕ) (x : Cage) : (State.setCage s c x).keep = s.keep := by
  unfold State.setCage
  simp only [↓keep_mk, ↓keep_eta]

theorem State.cageDown_keep (s : State) (c : ℕ) : (State.cageDown s c).keep = s.keep := by
  unfold State.cageDown
  try dsimp only
  repeat' first
    | (simp only [↓State.forceDown_keep, ↓keep_mk, ↓keep_eta]; done)
    | (refine (foldl_keep _ ?_ _ _).trans ?_)
    | (refine (foldl_keep2 _ ?_ _ _).trans ?_)
    | (intro _ _; try dsimp only)
    | (refine ite_keep _ _ _ _ ?_ ?_)
    | split
    | (simp only [↓State.forceDown_keep, ↓keep_mk, ↓keep_eta])

theorem State.cageStart_keep (s : State) (c : ℕ) : (State.cageStart s c).keep = s.keep := by
  unfold State.cageStart
  try dsimp only
  repeat' first
    | (simp only [↓State.setCage_keep, ↓State.cageDown_keep, ↓keep_mk, ↓keep_eta]; done)
    | (refine ite_keep _ _ _ _ ?_ ?_)
    | split
    | (simp only [↓State.setCage_keep, ↓State.cageDown_keep, ↓keep_mk, ↓keep_eta])

theorem State.setBus_keep (s : State) (n : ℕ) (x : CageBus) : (State.setBus s n x).keep = s.keep := by
  unfold State.setBus
  simp only [↓keep_mk, ↓keep_eta]

theorem State.expPut_keep (s : State) (n : ℕ) (k : ℕ) (cmd : ℕ) (v : ℕ) : (State.expPut s n k cmd v).keep = s.keep := by
  unfold State.expPut
  try dsimp only
  repeat' first
    | (simp only [↓State.emit_keep, ↓keep_mk, ↓keep_eta]; done)
    | (refine ite_keep _ _ _ _ ?_ ?_)
    | split
    | (simp only [↓State.emit_keep, ↓keep_mk, ↓keep_eta])

theorem State.writeBusCfg_keep (s : State) (n : ℕ) (v : Word) : (State.writeBusCfg s n v).keep = s.keep := by
  unfold State.writeBusCfg
  repeat' first
    | (simp only [↓State.setRg_keep, ↓State.cageStart_keep, ↓State.setBus_keep, ↓State.expPut_keep, ↓keep_mk, ↓keep_eta, *]; done)
    | (intro x; refine cutK x s ?_ ?_; rotate_left; (clear_value x; intro hx); rotate_left; simp only [x])
    | (intro x; refine cutK x.2 s ?_ ?_; rotate_left; (clear_value x; intro hx); rotate_left; simp only [x])
    | (intro x; clear_value x)
    | (refine (foldl_keep _ (fun s _ => ?_) _ _).trans ?_)
    | (refine (foldl_keep2 _ (fun s _ => ?_) _ _).trans ?_)
    | lift_lets
    | (refine ite_keep _ _ _ _ ?_ ?_)
    | (split <;> try (rename_i heq; replace heq := pairK heq; simp only [↓State.setRg_keep, ↓State.cageStart_keep, ↓State.setBus_keep, ↓State.expPut_keep, ↓keep_mk, ↓keep_eta, ite_keep2, ite_self, *] at heq))
    | (simp only [↓State.setRg_keep, ↓State.cageStart_keep, ↓State.setBus_keep, ↓State.expPut_keep, ↓keep_mk, ↓keep_eta])

theorem State.writeXfer_keep (s : State) (n : ℕ) (v : Word) : (State.writeXfer s n v).keep = s.keep := by
  unfold State.writeXfer
  dsimp only
  repeat' split
  all_goals simp only [↓State.setRg_keep, ↓State.setBus_keep]

theorem State.cageEvt_keep (s : State) (c : ℕ) (i : ℕ) : (State.cageEvt s c i).keep = s.keep := by
  unfold State.cageEvt
  simp only [↓State.orRg_keep]

theorem State.queueWrite_keep (s : State) (c : ℕ) : (State.queueWrite s c).keep = s.keep := by
  unfold State.queueWrite
  dsimp only
  split <;> simp only [↓State.setCage_keep, ↓State.setBus_keep]

theorem State.cageTo_keep (s : State) (c : ℕ) (st : CageState) : (State.cageTo s c st).keep = s.keep := by
  unfold State.cageTo
  dsimp only
  repeat' split
  all_goals simp only [↓State.cageDown_keep, ↓State.setCage_keep, ↓State.cageEvt_keep, ↓State.queueWrite_keep]

theorem State.cageCmd_keep (s : State) (c : ℕ) (code : ℕ) : (State.cageCmd s c code).keep = s.keep := by
  unfold State.cageCmd
  split <;> simp only [↓State.cageTo_keep, ↓State.queueWrite_keep, ↓State.setCage_keep]

theorem State.writeNecCtl_keep (s : State) (c : Nat) (v : Word) : (s.writeNecCtl c v).keep = s.keep := by
  unfold State.writeNecCtl
  extract_lets old act_ slot inval s1 ok adm s2 s3
  have hi : ∀ st i, (inval st i).keep = st.keep := by
    intro st i
    simp only [inval]
    split
    · exact State.invalSlot_keep ..
    · rfl
  have h1 : s1.keep = s.keep := (hi _ _).trans (hi _ _)
  have h2 : s2.keep = s1.keep := State.setRg_keep ..
  clear_value s1 s2
  have h3 : s3.keep = s2.keep := by
    simp only [s3]
    split
    · exact State.dropSamples_keep ..
    · rfl
  clear_value s3
  split
  · rw [State.clusterReset_keep, h3, h2, h1]
  · rw [h3, h2, h1]
theorem State.checkerFault_keep (s : State) (c : ℕ) (step : ℕ) : (State.checkerFault s c step).keep = s.keep := by
  unfold State.checkerFault
  simp only [↓State.setClu_keep, ↓State.dropSamples_keep, ↓State.raise_keep]

theorem State.selfTest_keep (s : State) (c : ℕ) (fail : Option ℕ) (resume : Bool) : (State.selfTest s c fail resume).keep = s.keep := by
  unfold State.selfTest
  split <;> simp only [↓State.setClu_keep, ↓State.checkerFault_keep]

theorem State.writeSentCfg_keep (s : State) (c : ℕ) (v : Word) (fail : Option ℕ) : (State.writeSentCfg s c v fail).keep = s.keep := by
  unfold State.writeSentCfg
  try dsimp only
  repeat' first
    | (simp only [↓State.setRg_keep, ↓State.setClu_keep, ↓State.selfTest_keep, ↓keep_mk, ↓keep_eta]; done)
    | (refine ite_keep _ _ _ _ ?_ ?_)
    | split
    | (simp only [↓State.setRg_keep, ↓State.setClu_keep, ↓State.selfTest_keep, ↓keep_mk, ↓keep_eta])

theorem State.writeQuad_keep (s : State) (v : Word) : (State.writeQuad s v).keep = s.keep := by
  unfold State.writeQuad
  dsimp only
  split <;> simp only [↓State.poolSteps_keep, ↓keep_mk, ↓keep_eta]

theorem State.bwClr_keep (s : State) (r : Req) (v : Word) : (State.bwClr s r v).keep = s.keep := by
  unfold State.bwClr
  simp only [↓keep_mk, ↓keep_eta]

theorem State.settleCap_keep (s : State) : (State.settleCap s).keep = s.keep := by
  unfold State.settleCap
  try dsimp only
  repeat' first
    | (simp only [↓keep_mk, ↓keep_eta]; done)
    | (refine ite_keep _ _ _ _ ?_ ?_)
    | split
    | (simp only [↓keep_mk, ↓keep_eta])

theorem State.pmcClr_keep (s : State) (hi : Bool) (v : Word) : (State.pmcClr s hi v).keep = s.keep := by
  unfold State.pmcClr
  simp only [↓keep_mk, ↓keep_eta]

theorem State.placeRgn_keep (s : State) (k : ℕ) : (State.placeRgn s k).keep = s.keep := by
  unfold State.placeRgn
  try dsimp only
  repeat' first
    | (simp only [↓keep_mk, ↓keep_eta]; done)
    | (refine ite_keep _ _ _ _ ?_ ?_)
    | split
    | (simp only [↓keep_mk, ↓keep_eta])

theorem State.unuse_keep (s : State) (c : ℕ) : (State.unuse s c).keep = s.keep := by
  unfold State.unuse
  try dsimp only
  repeat' first
    | (simp only [↓State.setDramSt_keep, ↓keep_mk, ↓keep_eta]; done)
    | (refine ite_keep _ _ _ _ ?_ ?_)
    | split
    | (simp only [↓State.setDramSt_keep, ↓keep_mk, ↓keep_eta])

theorem State.trainChannel_keep (s : State) (c : ℕ) : (State.trainChannel s c).keep = s.keep := by
  unfold State.trainChannel
  dsimp only
  split <;> simp only [↓State.setDramSt_keep, ↓State.setDch_keep]

theorem State.writeDrcCfg_keep (s : State) (v : Word) : (State.writeDrcCfg s v).keep = s.keep := by
  unfold State.writeDrcCfg
  try dsimp only
  repeat' first
    | (simp only [↓State.unuse_keep, ↓State.setRg_keep, ↓State.trainChannel_keep, ↓State.setDch_keep, ↓keep_mk, ↓keep_eta]; done)
    | (refine (foldl_keep _ ?_ _ _).trans ?_)
    | (refine (foldl_keep2 _ ?_ _ _).trans ?_)
    | (intro _ _; try dsimp only)
    | (refine ite_keep _ _ _ _ ?_ ?_)
    | split
    | (simp only [↓State.unuse_keep, ↓State.setRg_keep, ↓State.trainChannel_keep, ↓State.setDch_keep, ↓keep_mk, ↓keep_eta])

theorem State.startMigration_keep (s : State) (c : ℕ) (r : ℕ) : (State.startMigration s c r).keep = s.keep := by
  unfold State.startMigration
  simp only [↓State.setDch_keep, ↓State.setDramSt_keep]

theorem State.writeDrcCh_keep (s : State) (c : ℕ) (v : Word) : (State.writeDrcCh s c v).keep = s.keep := by
  unfold State.writeDrcCh
  dsimp only
  repeat' split
  all_goals simp only [↓State.setRg_keep, ↓State.dramOffline_keep, ↓State.setDramSt_keep, ↓State.setDch_keep, ↓State.startMigration_keep]

theorem State.writeDrcStat_keep (s : State) (c : ℕ) (v : Word) : (State.writeDrcStat s c v).keep = s.keep := by
  unfold State.writeDrcStat
  simp only [↓State.reRise_keep, ↓State.setDch_keep]

theorem State.writeFrzCtl_keep (s : State) (v : Word) : (State.writeFrzCtl s v).keep = s.keep := by
  unfold State.writeFrzCtl
  split <;> simp only [↓State.setRg_keep, ↓State.freezeLatch_keep]

theorem State.setDbgOp_keep (s : State) (r : Req) (x : DbgOp) : (State.setDbgOp s r x).keep = s.keep := by
  unfold State.setDbgOp
  simp only [↓keep_mk, ↓keep_eta]

theorem State.haltThread_keep (s : State) (k : ℕ) (no : ℕ) : (State.haltThread s k no).keep = s.keep := by
  unfold State.haltThread
  dsimp only
  repeat' split
  all_goals simp only [↓State.setThr_keep, ↓State.leaveLine_keep]

theorem State.forceHaltThread_keep (s : State) (k : ℕ) (no : ℕ) : (State.forceHaltThread s k no).keep = s.keep := by
  unfold State.forceHaltThread
  simp only [↓State.haltThread_keep, ↓State.breakLock_keep]

theorem State.putThr_keep (s : State) (k : ℕ) (t : Thread) : (State.putThr s k t).keep = s.keep := by
  unfold State.putThr
  simp only [↓State.setThr_keep]

theorem State.resumeThread_keep (s : State) (k : ℕ) : (State.resumeThread s k).keep = s.keep := by
  unfold State.resumeThread
  simp only [↓State.putThr_keep]

theorem State.stepThread_keep (s : State) (k : ℕ) (no : ℕ) : (State.stepThread s k no).keep = s.keep := by
  unfold State.stepThread
  dsimp only
  split <;> simp only [↓State.putThr_keep]

theorem State.passLine_keep (s : State) (k : ℕ) : (State.passLine s k).keep = s.keep := by
  unfold State.passLine
  try dsimp only
  repeat' first
    | (simp only [↓State.setLine_keep, ↓keep_mk, ↓keep_eta]; done)
    | (refine (foldl_keep _ ?_ _ _).trans ?_)
    | (refine (foldl_keep2 _ ?_ _ _).trans ?_)
    | (intro _ _; try dsimp only)
    | (refine ite_keep _ _ _ _ ?_ ?_)
    | split
    | (simp only [↓State.setLine_keep, ↓keep_mk, ↓keep_eta])

theorem State.dropLock_keep (s : State) (k : ℕ) (no : ℕ) : (State.dropLock s k no).keep = s.keep := by
  unfold State.dropLock
  simp only [↓State.leaveLine_keep, ↓State.passLine_keep, ↓State.setThr_keep]

theorem State.setSample_keep (s : State) (c : ℕ) (i : ℕ) (x : Option Sample) : (State.setSample s c i x).keep = s.keep := by
  unfold State.setSample
  simp only [↓State.setClu_keep]

theorem State.samplePrimary_keep (s : State) (k : ℕ) (d : Option Word) : (State.samplePrimary s k d).keep = s.keep := by
  unfold State.samplePrimary
  dsimp only
  split <;> simp only [↓State.setSample_keep]

theorem State.sampleSentinel_keep (s : State) (k : ℕ) (d : Option Word) : (State.sampleSentinel s k d).keep = s.keep := by
  unfold State.sampleSentinel
  dsimp only
  repeat' split
  all_goals simp only [↓State.setSample_keep]

theorem State.abortThread_keep (s : State) (k : ℕ) : (State.abortThread s k).keep = s.keep := by
  unfold State.abortThread
  dsimp only
  split <;> simp only [↓State.dropLock_keep, ↓State.handDrop_keep, ↓State.setThr_keep, ↓State.samplePrimary_keep, ↓State.sampleSentinel_keep]

theorem State.dbgAct_keep (s : State) (op : ℕ) (no : ℕ) (ks : List ℕ) : (State.dbgAct s op no ks).keep = s.keep := by
  unfold State.dbgAct
  try dsimp only
  repeat' first
    | (simp only [↓State.haltThread_keep, ↓State.forceHaltThread_keep, ↓State.resumeThread_keep, ↓State.stepThread_keep, ↓State.abortThread_keep, ↓keep_mk, ↓keep_eta]; done)
    | (refine (foldl_keep _ ?_ _ _).trans ?_)
    | (refine (foldl_keep2 _ ?_ _ _).trans ?_)
    | (intro _ _; try dsimp only)
    | (refine ite_keep _ _ _ _ ?_ ?_)
    | split
    | (simp only [↓State.haltThread_keep, ↓State.forceHaltThread_keep, ↓State.resumeThread_keep, ↓State.stepThread_keep, ↓State.abortThread_keep, ↓keep_mk, ↓keep_eta])

theorem State.writeDbg_keep (s : State) (r : Req) (v : Word) : (State.writeDbg s r v).keep = s.keep := by
  unfold State.writeDbg
  dsimp only
  repeat' split
  all_goals simp only [↓State.setDbgOp_keep, ↓State.dbgAct_keep]

theorem State.writeThrWord_keep (s : State) (r : Req) (i : ℕ) (v : Word) : (State.writeThrWord s r i v).keep = s.keep := by
  unfold State.writeThrWord
  dsimp only
  repeat' split
  all_goals simp only [↓State.setThr_keep]

theorem State.writeReg_keep (s : State) (r : Req) (x : RegAt) (v : Word) : (State.writeReg s r x v).keep = s.keep := by
  unfold State.writeReg
  repeat' first
    | (simp only [↓State.writePlain_keep, ↓State.writeChipCtl_keep, ↓State.writeStatus3_keep, ↓State.writeTest_keep, ↓State.writeRetire_keep, ↓State.writeDom_keep, ↓State.writeReload_keep, ↓State.writeTimeCtl_keep, ↓State.setSec_keep, ↓State.writeHostCtl_keep, ↓State.writePmCfg_keep, ↓State.nudge_keep, ↓State.reRiseOf_keep, ↓State.writeRngCfg_keep, ↓State.writeDmaCtl_keep, ↓State.writeDmaStat_keep, ↓State.submit_keep, ↓State.writeImgCtl_keep, ↓State.imgData_keep, ↓State.reRise_keep, ↓State.writeEpcCfg_keep, ↓State.writePortCfg_keep, ↓State.writeMacCtl_keep, ↓State.writeBusCfg_keep, ↓State.writeXfer_keep, ↓State.cageCmd_keep, ↓State.writeNecCtl_keep, ↓State.setPv_keep, ↓State.writeSentCfg_keep, ↓State.poolSteps_keep, ↓State.writeQuad_keep, ↓State.setIdx_keep, ↓State.bwClr_keep, ↓State.settleCap_keep, ↓State.pmcClr_keep, ↓State.placeRgn_keep, ↓State.writeDrcCfg_keep, ↓State.writeDrcCh_keep, ↓State.writeDrcStat_keep, ↓State.writeFrzCtl_keep, ↓State.writeDbg_keep, ↓State.writeThrWord_keep, ↓keep_mk, ↓keep_eta, *]; done)
    | (intro x; refine cutK x s ?_ ?_; rotate_left; (clear_value x; intro hx); rotate_left; simp only [x])
    | (intro x; refine cutK x.2 s ?_ ?_; rotate_left; (clear_value x; intro hx); rotate_left; simp only [x])
    | (intro x; clear_value x)
    | (refine State.setIdx_keep _ _ _ (fun s _ => ?_))
    | lift_lets
    | (refine ite_keep _ _ _ _ ?_ ?_)
    | (split <;> try (rename_i heq; replace heq := pairK heq; simp only [↓State.writePlain_keep, ↓State.writeChipCtl_keep, ↓State.writeStatus3_keep, ↓State.writeTest_keep, ↓State.writeRetire_keep, ↓State.writeDom_keep, ↓State.writeReload_keep, ↓State.writeTimeCtl_keep, ↓State.setSec_keep, ↓State.writeHostCtl_keep, ↓State.writePmCfg_keep, ↓State.nudge_keep, ↓State.reRiseOf_keep, ↓State.writeRngCfg_keep, ↓State.writeDmaCtl_keep, ↓State.writeDmaStat_keep, ↓State.submit_keep, ↓State.writeImgCtl_keep, ↓State.imgData_keep, ↓State.reRise_keep, ↓State.writeEpcCfg_keep, ↓State.writePortCfg_keep, ↓State.writeMacCtl_keep, ↓State.writeBusCfg_keep, ↓State.writeXfer_keep, ↓State.cageCmd_keep, ↓State.writeNecCtl_keep, ↓State.setPv_keep, ↓State.writeSentCfg_keep, ↓State.poolSteps_keep, ↓State.writeQuad_keep, ↓State.setIdx_keep, ↓State.bwClr_keep, ↓State.settleCap_keep, ↓State.pmcClr_keep, ↓State.placeRgn_keep, ↓State.writeDrcCfg_keep, ↓State.writeDrcCh_keep, ↓State.writeDrcStat_keep, ↓State.writeFrzCtl_keep, ↓State.writeDbg_keep, ↓State.writeThrWord_keep, ↓keep_mk, ↓keep_eta, ite_keep2, ite_self, *] at heq))
    | (simp only [↓State.writePlain_keep, ↓State.writeChipCtl_keep, ↓State.writeStatus3_keep, ↓State.writeTest_keep, ↓State.writeRetire_keep, ↓State.writeDom_keep, ↓State.writeReload_keep, ↓State.writeTimeCtl_keep, ↓State.setSec_keep, ↓State.writeHostCtl_keep, ↓State.writePmCfg_keep, ↓State.nudge_keep, ↓State.reRiseOf_keep, ↓State.writeRngCfg_keep, ↓State.writeDmaCtl_keep, ↓State.writeDmaStat_keep, ↓State.submit_keep, ↓State.writeImgCtl_keep, ↓State.imgData_keep, ↓State.reRise_keep, ↓State.writeEpcCfg_keep, ↓State.writePortCfg_keep, ↓State.writeMacCtl_keep, ↓State.writeBusCfg_keep, ↓State.writeXfer_keep, ↓State.cageCmd_keep, ↓State.writeNecCtl_keep, ↓State.setPv_keep, ↓State.writeSentCfg_keep, ↓State.poolSteps_keep, ↓State.writeQuad_keep, ↓State.setIdx_keep, ↓State.bwClr_keep, ↓State.settleCap_keep, ↓State.pmcClr_keep, ↓State.placeRgn_keep, ↓State.writeDrcCfg_keep, ↓State.writeDrcCh_keep, ↓State.writeDrcStat_keep, ↓State.writeFrzCtl_keep, ↓State.writeDbg_keep, ↓State.writeThrWord_keep, ↓keep_mk, ↓keep_eta])

theorem State.accWrite_keep (s : State) (r : Req) (a : Nat) (v : Word) : (s.accWrite r a v).keep = s.keep := by
  unfold State.accWrite
  split
  · exact ite_keep _ _ _ _ (State.msixWrite_keep ..) rfl
  · split
    · exact State.reachUnnamed_keep ..
    · refine ite_keep _ _ _ _ (State.commitReg_keep ..) ?_
      split
      · exact State.writeReg_keep ..
      · exact State.access_keep _ _ _ _ fun s => State.writeReg_keep ..
theorem State.intWrite_keep (s : State) (n : ℕ) (a : ℕ) (v : Word) : (State.intWrite s n a v).keep = s.keep := by
  unfold State.intWrite
  split <;> simp only [↓State.accWrite_keep, ↓State.dramWrite_keep, ↓State.reach_keep]

theorem Moving.word_keep (m : Moving) (n : ℕ) (got : Bool) (srcSp : ℕ) (dstSp : ℕ) (src : ℕ) (dst : ℕ) (data : List Byte) (k : ℕ) : (Moving.word m n got srcSp dstSp src dst data k).s.keep = m.s.keep := by
  unfold Moving.word
  dsimp only
  repeat' split
  all_goals simp only [↓State.intRead_keep, ↓State.intWrite_keep]

theorem State.abortEnd_keep (s : State) : (State.abortEnd s).keep = s.keep := by
  unfold State.abortEnd
  try dsimp only
  repeat' first
    | (simp only [↓State.complete_keep, ↓State.cuTidy_keep, ↓keep_mk, ↓keep_eta]; done)
    | (refine (foldl_keep _ ?_ _ _).trans ?_)
    | (refine (foldl_keep2 _ ?_ _ _).trans ?_)
    | (intro _ _; try dsimp only)
    | (refine ite_keep _ _ _ _ ?_ ?_)
    | split
    | (simp only [↓State.complete_keep, ↓State.cuTidy_keep, ↓keep_mk, ↓keep_eta])

theorem State.abortRun_keep (s : State) (c : TCmd) : (State.abortRun s c).keep = s.keep := by
  unfold State.abortRun
  split <;> simp only [↓State.complete_keep, ↓State.startAbort_keep]

theorem State.accept_keep (s : State) (lp : ℕ) (bytes : List Byte) (time : ℕ) (pipe : ℕ) (inject : Bool) : (State.accept s lp bytes time pipe inject).2.keep = s.keep := by
  unfold State.accept
  simp only [↓State.setPort_keep, ↓State.setGrp_keep, ↓State.setPkt_keep, ↓keep_mk, ↓keep_eta]

theorem State.takeBuf_keep (s : State) (k choice : Nat) (b blk : Nat) (t : State)
    (h : s.takeBuf k choice = some (b, blk, t)) : t.keep = s.keep := by
  unfold State.takeBuf at h
  obtain ⟨x, -, hx⟩ := Option.map_eq_some_iff.mp h
  have := congrArg (fun p => p.2.2.keep) hx
  dsimp only at this
  rw [← this, keep_mk, keep_eta, State.setBlk_keep]
theorem State.admitBuf_keep (s : State) (a : Adm) (buf : Option Nat) : (s.admitBuf a buf).2.keep = s.keep := by
  unfold State.admitBuf
  split
  · rfl
  · split
    · rfl
    · next h =>
      dsimp only
      rw [State.poolSteps_keep, State.setBuf_keep]
      exact State.takeBuf_keep _ _ _ _ _ _ h
theorem State.moveUsed_keep (s : State) (q : ℕ) (f : ℕ → ℕ) : (State.moveUsed s q f).keep = s.keep := by
  unfold State.moveUsed
  simp only [↓keep_mk, ↓keep_eta]

theorem State.pmcQueue_keep (s : State) (q : ℕ) (ev : ℕ) (n : optParam ℕ 1) : (State.pmcQueue s q ev n).keep = s.keep := by
  unfold State.pmcQueue
  simp only [↓State.pmc_keep]

theorem State.telCount_keep (s : State) (f : Telem → Telem) : (State.telCount s f).keep = s.keep := by
  unfold State.telCount
  split <;> simp only [↓keep_mk, ↓keep_eta]

theorem State.telEnq_keep (s : State) (q : ℕ) : (State.telEnq s q).keep = s.keep := by
  unfold State.telEnq
  simp only [↓State.pmcQueue_keep, ↓State.telCount_keep]

theorem State.setQueue_keep (s : State) (q : ℕ) (l : List ℕ) : (State.setQueue s q l).keep = s.keep := by
  unfold State.setQueue
  simp only [↓keep_mk, ↓keep_eta]

theorem State.enqueue_keep (s : State) (q : ℕ) (d : ℕ) : (State.enqueue s q d).keep = s.keep := by
  unfold State.enqueue
  simp only [↓State.telEnq_keep, ↓State.setQueue_keep]

theorem State.acceptOne_keep (s : State) (a : Adm) (q : ℕ) (shared : Bool) (buf : Option ℕ) : (State.acceptOne s a q shared buf).2.keep = s.keep := by
  unfold State.acceptOne
  dsimp only
  repeat' split
  all_goals simp only [↓State.admitBuf_keep, ↓State.moveMember_keep, ↓State.setBuf_keep, ↓State.moveUsed_keep, ↓State.enqueue_keep, ↓keep_mk, ↓keep_eta]

theorem State.imbPut_keep (s : State) (group : Bool) (par : Bool) (sum : Bool) (index : ℕ) (diff : ℤ) : (State.imbPut s group par sum index diff).keep = s.keep := by
  unfold State.imbPut
  split <;> simp only [↓State.bump_keep, ↓keep_mk, ↓keep_eta]

theorem State.acctFail_keep (s : State) (a : Bool × ℕ × Bool) : (State.acctFail s a).keep = s.keep := by
  unfold State.acctFail
  try dsimp only
  repeat' first
    | (simp only [↓State.bump_keep, ↓State.imbPut_keep, ↓keep_mk, ↓keep_eta]; done)
    | (refine (foldl_keep _ ?_ _ _).trans ?_)
    | (refine (foldl_keep2 _ ?_ _ _).trans ?_)
    | (intro _ _; try dsimp only)
    | (refine ite_keep _ _ _ _ ?_ ?_)
    | split
    | (simp only [↓State.bump_keep, ↓State.imbPut_keep, ↓keep_mk, ↓keep_eta])

theorem State.ackWrite_keep (s : State) (n : ℕ) (host : Bool) (ok : Bool) : (State.ackWrite s n host ok).keep = s.keep := by
  unfold State.ackWrite
  repeat' first
    | (simp only [↓State.setChan_keep, ↓State.tlp_keep, ↓State.confirm_keep, ↓State.barDone_keep, ↓keep_mk, ↓keep_eta, *]; done)
    | (intro x; refine cutK x s ?_ ?_; rotate_left; (clear_value x; intro hx); rotate_left; simp only [x])
    | (intro x; refine cutK x.2 s ?_ ?_; rotate_left; (clear_value x; intro hx); rotate_left; simp only [x])
    | (intro x; clear_value x)
    | lift_lets
    | (refine ite_keep _ _ _ _ ?_ ?_)
    | (split <;> try (rename_i heq; replace heq := pairK heq; simp only [↓State.setChan_keep, ↓State.tlp_keep, ↓State.confirm_keep, ↓State.barDone_keep, ↓keep_mk, ↓keep_eta, ite_keep2, ite_self, *] at heq))
    | (simp only [↓State.setChan_keep, ↓State.tlp_keep, ↓State.confirm_keep, ↓State.barDone_keep, ↓keep_mk, ↓keep_eta])

theorem State.pmcCluster_keep (s : State) (c : ℕ) (ev : ℕ) (n : optParam ℕ 1) : (State.pmcCluster s c ev n).keep = s.keep := by
  unfold State.pmcCluster
  simp only [↓State.pmc_keep]

theorem State.mcLog_keep (s : State) (c : ℕ) (e : ℕ) (t : ℕ) (cause : ℕ) (addr : ℕ) : (State.mcLog s c e t cause addr).keep = s.keep := by
  unfold State.mcLog
  dsimp only
  split <;> simp only [↓State.bump_keep, ↓State.setClu_keep]

theorem State.mcRecord_keep (s : State) (k : ℕ) (cause : ℕ) (addr : ℕ) (info : ℕ) : (State.mcRecord s k cause addr info).keep = s.keep := by
  unfold State.mcRecord
  try dsimp only
  repeat' first
    | (simp only [↓State.raise_keep, ↓State.pmcCluster_keep, ↓State.mcLog_keep, ↓keep_mk, ↓keep_eta]; done)
    | (refine ite_keep _ _ _ _ ?_ ?_)
    | split
    | (simp only [↓State.raise_keep, ↓State.pmcCluster_keep, ↓State.mcLog_keep, ↓keep_mk, ↓keep_eta])

theorem State.countHold_keep (s : State) (k : ℕ) : (State.countHold s k).keep = s.keep := by
  unfold State.countHold
  simp only [↓State.setClu_keep]

theorem State.csRepair_keep (s : State) (c : ℕ) (slot : ℕ) (addr : ℕ) : (State.csRepair s c slot addr).keep = s.keep := by
  unfold State.csRepair
  try dsimp only
  repeat' first
    | (simp only [↓State.raise_keep, ↓State.setCword_keep, ↓keep_mk, ↓keep_eta]; done)
    | (refine ite_keep _ _ _ _ ?_ ?_)
    | split
    | (simp only [↓State.raise_keep, ↓State.setCword_keep, ↓keep_mk, ↓keep_eta])

theorem State.afterParity_keep (s : State) (c : ℕ) (e : ℕ) (slot : ℕ) (addr : ℕ) : (State.afterParity s c e slot addr).keep = s.keep := by
  unfold State.afterParity
  dsimp only
  repeat' split
  all_goals simp only [↓State.setClu_keep, ↓State.retire_keep, ↓State.csRepair_keep]

theorem State.machineCheck_keep (s : State) (k : ℕ) (cause : ℕ) (no : ℕ) (addr : ℕ) (info : ℕ) : (State.machineCheck s k cause no addr info).keep = s.keep := by
  unfold State.machineCheck
  dsimp only
  repeat' split
  all_goals simp only [↓State.dropLock_keep, ↓State.setThr_keep, ↓State.samplePrimary_keep, ↓State.countHold_keep, ↓State.handDrop_keep, ↓State.sampleSentinel_keep, ↓State.mcRecord_keep, ↓State.afterParity_keep]

theorem State.readFails_keep (s : State) (k : ℕ) (cause : ℕ) (no : ℕ) (addr : ℕ) (info : ℕ) : (State.readFails s k cause no addr info).keep = s.keep := by
  unfold State.readFails
  try dsimp only
  repeat' first
    | (simp only [↓State.mcRecord_keep, ↓State.machineCheck_keep, ↓keep_mk, ↓keep_eta]; done)
    | (refine ite_keep _ _ _ _ ?_ ?_)
    | split
    | (simp only [↓State.mcRecord_keep, ↓State.machineCheck_keep, ↓keep_mk, ↓keep_eta])

theorem State.addFails_keep (s : State) (k : ℕ) (e : SbEntry) : (State.addFails s k e).keep = s.keep := by
  unfold State.addFails
  try dsimp only
  repeat' first
    | (simp only [↓State.readFails_keep, ↓State.putThr_keep, ↓keep_mk, ↓keep_eta]; done)
    | (refine ite_keep _ _ _ _ ?_ ?_)
    | split
    | (simp only [↓State.readFails_keep, ↓State.putThr_keep, ↓keep_mk, ↓keep_eta])

theorem State.addLine_keep (s : State) (lp : ℕ) (dir : ℕ) (len : ℕ) : (State.addLine s lp dir len).keep = s.keep := by
  unfold State.addLine
  simp only [↓State.telCount_keep, ↓keep_mk, ↓keep_eta]

theorem State.dropAt_keep (s : State) (k : ℕ) (b : Boundary) (reason : ℕ) : (State.dropAt s k b reason).keep = s.keep := by
  unfold State.dropAt
  simp only [↓State.dropPkt_keep, ↓State.freeHold_keep, ↓State.drop_keep]

theorem State.telRefused_keep (s : State) (q : ℕ) : (State.telRefused s q).keep = s.keep := by
  unfold State.telRefused
  simp only [↓State.pmcQueue_keep, ↓State.telCount_keep]

theorem State.holdBad_keep (s : State) (k : ℕ) : (State.holdBad s k).keep = s.keep := by
  unfold State.holdBad
  try dsimp only
  repeat' first
    | (simp only [↓State.fresh_keep, ↓State.raise_keep, ↓State.dropAt_keep, ↓keep_mk, ↓keep_eta]; done)
    | (refine ite_keep _ _ _ _ ?_ ?_)
    | split
    | (simp only [↓State.fresh_keep, ↓State.raise_keep, ↓State.dropAt_keep, ↓keep_mk, ↓keep_eta])

theorem State.admitSingle_keep (s : State) (k : ℕ) (q : ℕ) (a : Adm) (holdEcc : Bool) : (State.admitSingle s k q a holdEcc).keep = s.keep := by
  unfold State.admitSingle
  repeat' first
    | (simp only [↓State.dropAt_keep, ↓State.telRefused_keep, ↓State.holdBad_keep, ↓State.dropPkt_keep, ↓State.acceptOne_keep, ↓keep_mk, ↓keep_eta, *]; done)
    | (intro x; refine cutK x s ?_ ?_; rotate_left; (clear_value x; intro hx); rotate_left; simp only [x])
    | (intro x; refine cutK x.2 s ?_ ?_; rotate_left; (clear_value x; intro hx); rotate_left; simp only [x])
    | (intro x; clear_value x)
    | lift_lets
    | (refine ite_keep _ _ _ _ ?_ ?_)
    | (split <;> try (rename_i heq; replace heq := pairK heq; simp only [↓State.dropAt_keep, ↓State.telRefused_keep, ↓State.holdBad_keep, ↓State.dropPkt_keep, ↓State.acceptOne_keep, ↓keep_mk, ↓keep_eta, ite_keep2, ite_self, *] at heq))
    | (simp only [↓State.dropAt_keep, ↓State.telRefused_keep, ↓State.holdBad_keep, ↓State.dropPkt_keep, ↓State.acceptOne_keep, ↓keep_mk, ↓keep_eta])

theorem State.refuseRep_keep (s : State) (d : DropInfo) (q : Option ℕ) (order : ℕ) : (State.refuseRep s d q order).keep = s.keep := by
  unfold State.refuseRep
  split <;> simp only [↓State.bump_keep, ↓State.drop_keep, ↓State.telRefused_keep]

theorem State.admitMany_keep (a : Adm) (l : List (Option Nat)) (buf : Option Nat) (lost : Nat) (s : State) :
    (State.admitMany a l buf lost s).2.keep = s.keep := by
  have h : ∀ (buf : Option Nat) (st : State), (match buf with
      | some b => st.setBuf b { st.bufr b with refs := (st.bufr b).refs - 1 }
      | none => st : State).keep = st.keep := by
    intro buf st
    split
    · exact State.setBuf_keep ..
    · rfl
  induction l generalizing buf lost s with
  | nil => rfl
  | cons t l ih =>
    unfold State.admitMany
    dsimp only
    split
    · exact (ih _ _ _).trans ((h _ _).trans (State.refuseRep_keep ..))
    · split
      · exact (ih _ _ _).trans ((h _ _).trans (State.refuseRep_keep ..))
      · exact (ih _ _ _).trans (State.acceptOne_keep ..)
theorem State.admitGroup_keep (s : State) (k : ℕ) (g : ℕ) (mcq : ℕ) (a : Adm) (holdEcc : Bool) : (State.admitGroup s k g mcq a holdEcc).keep = s.keep := by
  unfold State.admitGroup
  repeat' first
    | (simp only [↓State.dropAt_keep, ↓State.holdBad_keep, ↓State.book_keep, ↓State.admitMany_keep, ↓State.dropPkt_keep, ↓State.freeHold_keep, ↓keep_mk, ↓keep_eta, *]; done)
    | (intro x; refine cutK x s ?_ ?_; rotate_left; (clear_value x; intro hx); rotate_left; simp only [x])
    | (intro x; refine cutK x.2 s ?_ ?_; rotate_left; (clear_value x; intro hx); rotate_left; simp only [x])
    | (intro x; clear_value x)
    | lift_lets
    | (refine ite_keep _ _ _ _ ?_ ?_)
    | (split <;> try (rename_i heq; replace heq := pairK heq; simp only [↓State.dropAt_keep, ↓State.holdBad_keep, ↓State.book_keep, ↓State.admitMany_keep, ↓State.dropPkt_keep, ↓State.freeHold_keep, ↓keep_mk, ↓keep_eta, ite_keep2, ite_self, *] at heq))
    | (simp only [↓State.dropAt_keep, ↓State.holdBad_keep, ↓State.book_keep, ↓State.admitMany_keep, ↓State.dropPkt_keep, ↓State.freeHold_keep, ↓keep_mk, ↓keep_eta])

theorem State.admitFrame_keep (s : State) (k : ℕ) (t : Target) (holdEcc : Bool) (choice : ℕ) : (State.admitFrame s k t holdEcc choice).keep = s.keep := by
  unfold State.admitFrame
  dsimp only
  repeat' split
  all_goals simp only [↓State.dropAt_keep, ↓State.admitSingle_keep, ↓State.admitGroup_keep]

theorem State.digSample_keep (s : State) (who : ℕ) : (State.digSample s who).2.keep = s.keep := by
  unfold State.digSample
  split <;> simp only [↓keep_mk, ↓keep_eta]

theorem State.handOff_keep (s : State) (k : ℕ) (v : List Word) (src : PuntSrc) : (State.handOff s k v src).keep = s.keep := by
  unfold State.handOff
  dsimp only
  repeat' split
  all_goals simp only [↓State.sealVerdict_keep, ↓State.endPkt_keep, ↓State.seqPut_keep]

theorem State.forward_keep (s : State) (k : ℕ) : (State.forward s k).keep = s.keep := by
  unfold State.forward
  dsimp only
  split <;> simp only [↓State.digSample_keep, ↓State.setPkt_keep, ↓State.handOff_keep, ↓State.setGrp_keep]

theorem State.lrnMove_keep (s : State) (lp : ℕ) (f : ℕ → ℕ) : (State.lrnMove s lp f).keep = s.keep := by
  unfold State.lrnMove
  simp only [↓State.setRg_keep]

theorem State.postNotice_keep (s : State) (x : Notice) : (s.postNotice x).keep = s.keep := by
  unfold State.postNotice
  split
  · exact State.bump_keep ..
  · simp only [keep_mk, keep_eta]
    rw [State.lrnMove_keep, State.setGrp_keep]
theorem State.learn_keep (s : State) (k : ℕ) (x : Notice) : (State.learn s k x).keep = s.keep := by
  unfold State.learn
  dsimp only
  repeat' split
  all_goals simp only [↓State.forward_keep, ↓State.postNotice_keep, ↓State.bumpHigh_keep, ↓State.endPkt_keep]

theorem State.decideLearn_keep (s : State) (k : ℕ) : (State.decideLearn s k).keep = s.keep := by
  unfold State.decideLearn
  dsimp only
  repeat' split
  all_goals simp only [↓State.forward_keep, ↓State.learn_keep, ↓State.endPkt_keep]

theorem State.afterLookups_keep (s : State) (k : ℕ) : (State.afterLookups s k).keep = s.keep := by
  unfold State.afterLookups
  split <;> simp only [↓State.decideLearn_keep]

theorem State.freezeChannel_keep (s : State) (c : Nat) : (s.freezeChannel c).keep = s.keep := by
  unfold State.freezeChannel
  dsimp only
  rw [State.setDramSt_keep, State.moveRegions_keep, State.setDch_keep]
  refine (foldl_keep _ (fun s i => ?_) _ _).trans
    ((foldl_keep _ (fun s r => State.dramAnswer_keep ..) _ _).trans (State.setDch_keep ..))
  split
  · rfl
  · exact State.telLost_keep ..
theorem State.afterUe_keep (s : State) (c : ℕ) (rank : ℕ) : (State.afterUe s c rank).keep = s.keep := by
  unfold State.afterUe
  dsimp only
  repeat' split
  all_goals simp only [↓State.freezeChannel_keep, ↓State.startMigration_keep]

theorem State.setGrant_keep (s : State) (lp : ℕ) (lvl : ℕ) (q : Option ℕ) : (State.setGrant s lp lvl q).keep = s.keep := by
  unfold State.setGrant
  simp only [↓keep_mk, ↓keep_eta]

theorem State.setDeficit_keep (s : State) (q : ℕ) (n : ℕ) : (State.setDeficit s q n).keep = s.keep := by
  unfold State.setDeficit
  simp only [↓keep_mk, ↓keep_eta]

theorem State.queueEmptied_keep (s : State) (q : ℕ) : (State.queueEmptied s q).keep = s.keep := by
  unfold State.queueEmptied
  try dsimp only
  repeat' first
    | (simp only [↓State.setGrant_keep, ↓State.setDeficit_keep, ↓keep_mk, ↓keep_eta]; done)
    | (refine (foldl_keep _ ?_ _ _).trans ?_)
    | (refine (foldl_keep2 _ ?_ _ _).trans ?_)
    | (intro _ _; try dsimp only)
    | (refine ite_keep _ _ _ _ ?_ ?_)
    | split
    | (simp only [↓State.setGrant_keep, ↓State.setDeficit_keep, ↓keep_mk, ↓keep_eta])

theorem State.popQueue_keep (s : State) (q : ℕ) : (State.popQueue s q).keep = s.keep := by
  unfold State.popQueue
  split <;> simp only [↓State.moveUsed_keep, ↓State.setQueue_keep]

theorem State.discardHead_keep (s : State) (q : ℕ) (reason : ℕ) : (State.discardHead s q reason).keep = s.keep := by
  unfold State.discardHead
  split <;> simp only [↓State.dropDesc_keep, ↓State.queueEmptied_keep, ↓State.popQueue_keep]

theorem State.ageHeads_keep (s : State) (q n : Nat) : (s.ageHeads q n).keep = s.keep := by
  induction n generalizing s with
  | zero => rfl
  | succ n ih =>
    unfold State.ageHeads
    split
    · rfl
    · split
      · rw [ih, State.discardHead_keep]
      · rfl
theorem State.hitClear_keep (s : State) (key : ℕ) : (State.hitClear s key).keep = s.keep := by
  unfold State.hitClear
  try dsimp only
  repeat' first
    | (simp only [↓keep_mk, ↓keep_eta]; done)
    | (refine (foldl_keep _ ?_ _ _).trans ?_)
    | (refine (foldl_keep2 _ ?_ _ _).trans ?_)
    | (intro _ _; try dsimp only)
    | (refine ite_keep _ _ _ _ ?_ ?_)
    | split
    | (simp only [↓keep_mk, ↓keep_eta])

theorem State.wakePg_keep (s : State) (n : ℕ) : (State.wakePg s n).keep = s.keep := by
  unfold State.wakePg
  split <;> simp only [↓State.wake_keep]

theorem State.onReplicas_keep (s : State) (f : ℕ → Tables → Tables) : (State.onReplicas s f).keep = s.keep := by
  unfold State.onReplicas
  try dsimp only
  repeat' first
    | (simp only [↓State.wakePg_keep, ↓State.setStale_keep, ↓keep_mk, ↓keep_eta]; done)
    | (refine (foldl_keep _ ?_ _ _).trans ?_)
    | (refine (foldl_keep2 _ ?_ _ _).trans ?_)
    | (intro _ _; try dsimp only)
    | (refine ite_keep _ _ _ _ ?_ ?_)
    | split
    | (simp only [↓State.wakePg_keep, ↓State.setStale_keep, ↓keep_mk, ↓keep_eta])

theorem State.staPut_keep (s : State) (key : ℕ) (e : List Word) : (State.staPut s key e).keep = s.keep := by
  unfold State.staPut
  simp only [↓State.onReplicas_keep, ↓keep_mk, ↓keep_eta]

theorem State.lrnDrop_keep (s : State) (key : ℕ) (e : List Word) : (State.lrnDrop s key e).keep = s.keep := by
  unfold State.lrnDrop
  dsimp only
  repeat' split
  all_goals simp only [↓State.lrnMove_keep, ↓keep_mk, ↓keep_eta]

theorem State.staRemove_keep (s : State) (key : ℕ) : (State.staRemove s key).keep = s.keep := by
  unfold State.staRemove
  simp only [↓State.hitClear_keep, ↓State.staPut_keep, ↓State.lrnDrop_keep]

theorem State.ageVisit_keep (s : State) (key : ℕ) : (State.ageVisit s key).keep = s.keep := by
  unfold State.ageVisit
  dsimp only
  repeat' split
  all_goals simp only [↓State.hitClear_keep, ↓State.staPut_keep, ↓State.staRemove_keep]

theorem State.spillVisit_keep (s : State) (b : ℕ) : (State.spillVisit s b).keep = s.keep := by
  unfold State.spillVisit
  split <;> simp only [↓keep_mk, ↓keep_eta]

theorem State.ageRun_keep (s : State) : (State.ageRun s).st.keep = s.keep := by
  unfold State.ageRun
  try dsimp only
  repeat' first
    | (simp only [↓State.ageVisit_keep, ↓State.spillVisit_keep, ↓keep_mk, ↓keep_eta]; done)
    | (refine (foldl_keep _ ?_ _ _).trans ?_)
    | (refine (foldl_keep2 _ ?_ _ _).trans ?_)
    | (intro _ _; try dsimp only)
    | (refine ite_keep _ _ _ _ ?_ ?_)
    | split
    | (simp only [↓State.ageVisit_keep, ↓State.spillVisit_keep, ↓keep_mk, ↓keep_eta])

theorem State.ageStep_keep (s : State) : (State.ageStep s).keep = s.keep := by
  unfold State.ageStep
  dsimp only
  split <;> simp only [↓State.ageVisit_keep, ↓State.spillVisit_keep, ↓keep_mk, ↓keep_eta]

theorem State.chainFlush_keep (s : State) : (State.chainFlush s).keep = s.keep := by
  unfold State.chainFlush
  try dsimp only
  repeat' first
    | (simp only [↓State.emit_keep, ↓keep_mk, ↓keep_eta]; done)
    | (refine (foldl_keep _ ?_ _ _).trans ?_)
    | (refine (foldl_keep2 _ ?_ _ _).trans ?_)
    | (intro _ _; try dsimp only)
    | (refine ite_keep _ _ _ _ ?_ ?_)
    | split
    | (simp only [↓State.emit_keep, ↓keep_mk, ↓keep_eta])

theorem State.chainSend_keep (s : State) (w0 : Word) (ver : ℕ) (addr : ℕ) (status : ℕ) (data : List Word) : (State.chainSend s w0 ver addr status data).keep = s.keep := by
  unfold State.chainSend
  try dsimp only
  repeat' first
    | (simp only [↓State.chainFlush_keep, ↓keep_mk, ↓keep_eta]; done)
    | (refine ite_keep _ _ _ _ ?_ ?_)
    | split
    | (simp only [↓State.chainFlush_keep, ↓keep_mk, ↓keep_eta])

theorem State.reply_keep (s : State) (f : List Word) (status : ℕ) (data : List Word) : (State.reply s f status data).keep = s.keep := by
  unfold State.reply
  simp only [↓State.chainSend_keep]

theorem State.chainQueue_keep (s : State) (l : List (List Word)) : (s.chainQueue l).keep = s.keep := by
  induction l generalizing s with
  | nil => rfl
  | cons f t ih =>
    unfold State.chainQueue
    generalize frmRefusal f = o
    cases o with
    | none => rfl
    | some st => exact (ih _).trans (State.reply_keep ..)
theorem State.ownPop_keep (s : State) : (State.ownPop s).keep = s.keep := by
  unfold State.ownPop
  try dsimp only
  repeat' first
    | (simp only [↓State.chainQueue_keep, ↓keep_mk, ↓keep_eta]; done)
    | (refine ite_keep _ _ _ _ ?_ ?_)
    | split
    | (simp only [↓State.chainQueue_keep, ↓keep_mk, ↓keep_eta])

theorem State.forwardAll_keep (s : State) (l : List (List Word)) : (s.forwardAll l).keep = s.keep := by
  induction l generalizing s with
  | nil => exact State.chainFlush_keep ..
  | cons f t ih =>
    unfold State.forwardAll
    split
    · rfl
    · exact (ih _).trans (State.emit_keep ..)
theorem State.chainPop_keep (s : State) : (State.chainPop s).keep = s.keep := by
  unfold State.chainPop
  try dsimp only
  repeat' first
    | (simp only [↓State.ownPop_keep, ↓State.forwardAll_keep, ↓keep_mk, ↓keep_eta]; done)
    | (refine ite_keep _ _ _ _ ?_ ?_)
    | split
    | (simp only [↓State.ownPop_keep, ↓State.forwardAll_keep, ↓keep_mk, ↓keep_eta])

theorem State.answer_keep (s : State) (status : ℕ) (data : List Word) : (State.answer s status data).keep = s.keep := by
  unfold State.answer
  simp only [↓State.chainPop_keep, ↓State.reply_keep]

theorem failWith_keep (s : State) (code : ℕ) : (failWith s code).st.keep = s.keep := by
  unfold failWith
  simp only [↓keep_mk]

theorem State.touch_keep (s : State) (c : TCmd) : (State.touch s c).keep = s.keep := by
  unfold State.touch
  split <;> simp only [↓keep_mk, ↓keep_eta]

theorem State.ascLaunch_keep (s : State) (idx : ℕ) (words : List Word) (width : Option ℕ) : (State.ascLaunch s idx words width).2.keep = s.keep := by
  unfold State.ascLaunch
  try dsimp only
  repeat' first
    | (simp only [↓State.wakePg_keep, ↓State.setStale_keep, ↓keep_mk, ↓keep_eta]; done)
    | (refine (foldl_keep _ ?_ _ _).trans ?_)
    | (refine (foldl_keep2 _ ?_ _ _).trans ?_)
    | (intro _ _; try dsimp only)
    | (refine ite_keep _ _ _ _ ?_ ?_)
    | split
    | (simp only [↓State.wakePg_keep, ↓State.setStale_keep, ↓keep_mk, ↓keep_eta])

theorem State.ascPut_keep (s : State) (idx : ℕ) (e : AscEntry) : (State.ascPut s idx e).2.keep = s.keep := by
  unfold State.ascPut
  simp only [↓State.ascLaunch_keep, ↓keep_mk, ↓keep_eta]

theorem State.setTag_keep (s : State) (table : ℕ) (idx : ℕ) (who : ℕ) : (State.setTag s table idx who).keep = s.keep := by
  unfold State.setTag
  simp only [↓keep_mk, ↓keep_eta]

theorem State.wrote_keep (s : State) (c : TCmd) (key : ℕ) (kept : Bool) : (State.wrote s c key kept).keep = s.keep := by
  unfold State.wrote
  simp only [↓State.setTag_keep]

theorem State.ascDelete_keep (s : State) (c : TCmd) : (State.ascDelete s c).st.keep = s.keep := by
  unfold State.ascDelete
  dsimp only
  repeat' split
  all_goals simp only [↓failWith_keep, ↓State.touch_keep, ↓State.ascPut_keep, ↓State.wrote_keep]

theorem State.ascFix_keep (s : State) (pipe : ℕ) : (State.ascFix s pipe).keep = s.keep := by
  unfold State.ascFix
  split <;> simp only [↓State.bump_keep, ↓State.raise_keep, ↓keep_mk, ↓keep_eta]

theorem State.ascUpset_keep (s : State) (pipe : ℕ) (bank : ℕ) (unit : ℕ) : (State.ascUpset s pipe bank unit).keep = s.keep := by
  unfold State.ascUpset
  simp only [↓keep_mk, ↓keep_eta]

theorem State.ascScan_keep (s : State) (unit : ℕ) (upsets : List (ℕ × ℕ)) : (State.ascScan s unit upsets).keep = s.keep := by
  unfold State.ascScan
  try dsimp only
  repeat' first
    | (simp only [↓State.ascUpset_keep, ↓keep_mk, ↓keep_eta]; done)
    | (refine (foldl_keep _ ?_ _ _).trans ?_)
    | (refine (foldl_keep2 _ ?_ _ _).trans ?_)
    | (intro _ _; try dsimp only)
    | (refine ite_keep _ _ _ _ ?_ ?_)
    | split
    | (simp only [↓State.ascUpset_keep, ↓keep_mk, ↓keep_eta])

theorem State.ascTake_keep (s : State) (pipe : ℕ) (f : Fan) : (State.ascTake s pipe f).keep = s.keep := by
  unfold State.ascTake
  simp only [↓State.bump_keep, ↓keep_mk, ↓keep_eta]

theorem State.ascWrite_keep (s : State) (c : TCmd) (ws : List Word) : (State.ascWrite s c ws).st.keep = s.keep := by
  unfold State.ascWrite
  dsimp only
  repeat' split
  all_goals simp only [↓failWith_keep, ↓State.ascPut_keep, ↓State.touch_keep, ↓State.wrote_keep]

theorem State.askLock_keep (s : State) (k : ℕ) (l : ℕ) : (State.askLock s k l).keep = s.keep := by
  unfold State.askLock
  dsimp only
  repeat' split
  all_goals simp only [↓State.setThr_keep, ↓State.putThr_keep, ↓State.setLine_keep]

theorem State.nextOrder_keep (s : State) (c : ℕ) : (State.nextOrder s c).2.keep = s.keep := by
  unfold State.nextOrder
  simp only [↓State.setClu_keep]

theorem State.background_keep (s : State) (c : ℕ) (e : ℕ) (t : ℕ) : (State.background s c e t).keep = s.keep := by
  unfold State.background
  simp only [↓State.nextOrder_keep, ↓State.setThr_keep]

theorem State.cplPut_keep (s : State) (h : ℕ) (c : HostCpl) : (State.cplPut s h c).keep = s.keep := by
  unfold State.cplPut
  try dsimp only
  repeat' first
    | (simp only [↓State.cplSend_keep, ↓keep_mk, ↓keep_eta]; done)
    | (refine ite_keep _ _ _ _ ?_ ?_)
    | split
    | (simp only [↓State.cplSend_keep, ↓keep_mk, ↓keep_eta])

theorem State.unclaimed_keep (s : State) (h : ℕ) (read : Bool) : (State.unclaimed s h read).keep = s.keep := by
  unfold State.unclaimed
  try dsimp only
  repeat' first
    | (simp only [↓State.cplPut_keep, ↓keep_mk, ↓keep_eta]; done)
    | (refine ite_keep _ _ _ _ ?_ ?_)
    | split
    | (simp only [↓State.cplPut_keep, ↓keep_mk, ↓keep_eta])

theorem State.bar_keep (s : State) (h : Nat) (read : Bool) (f : State → State) (hf : ∀ s, (f s).keep = s.keep) :
    (s.bar h read f).keep = s.keep := by
  unfold State.bar
  split
  · exact (hf _).trans (State.tlp_keep ..)
  · exact (State.unclaimed_keep ..).trans (State.tlp_keep ..)
theorem State.hostAccess_keep (s : State) (h : ℕ) (a : ℕ) : (State.hostAccess s h a).keep = s.keep := by
  unfold State.hostAccess
  simp only [↓State.raise_keep]

theorem State.unmapped_keep (s : State) (h : ℕ) : (State.unmapped s h).keep = s.keep := by
  unfold State.unmapped
  simp only [↓State.bump_keep]

theorem State.bar0Read_keep (s : State) (h : ℕ) (off : ℕ) : (State.bar0Read s h off).2.keep = s.keep := by
  unfold State.bar0Read
  try dsimp only
  repeat' first
    | (simp only [↓State.hostAccess_keep, ↓State.unmapped_keep, ↓State.accRead_keep, ↓keep_mk, ↓keep_eta]; done)
    | (refine ite_keep _ _ _ _ ?_ ?_)
    | split
    | (simp only [↓State.hostAccess_keep, ↓State.unmapped_keep, ↓State.accRead_keep, ↓keep_mk, ↓keep_eta])

theorem State.bar0Write_keep (s : State) (h : ℕ) (off : ℕ) (v : Word) : (State.bar0Write s h off v).keep = s.keep := by
  unfold State.bar0Write
  try dsimp only
  repeat' first
    | (simp only [↓State.msixWrite_keep, ↓State.hostAccess_keep, ↓State.unmapped_keep, ↓State.accWrite_keep, ↓keep_mk, ↓keep_eta]; done)
    | (refine ite_keep _ _ _ _ ?_ ?_)
    | split
    | (simp only [↓State.msixWrite_keep, ↓State.hostAccess_keep, ↓State.unmapped_keep, ↓State.accWrite_keep, ↓keep_mk, ↓keep_eta])

theorem State.bar2Read_keep (s : State) (h : ℕ) (off : ℕ) : (State.bar2Read s h off).2.keep = s.keep := by
  unfold State.bar2Read
  dsimp only
  repeat' split
  all_goals simp only [↓State.hostAccess_keep, ↓State.reach_keep, ↓State.setLatch_keep]

theorem State.dramRead1_keep (s : State) (who : DramUser) (a : ℕ) (n : ℕ) : (State.dramRead1 s who a n).keep = s.keep := by
  unfold State.dramRead1
  try dsimp only
  repeat' first
    | (simp only [↓State.dramAnswer_keep, ↓State.setDch_keep, ↓keep_mk, ↓keep_eta]; done)
    | (refine ite_keep _ _ _ _ ?_ ?_)
    | split
    | (simp only [↓State.dramAnswer_keep, ↓State.setDch_keep, ↓keep_mk, ↓keep_eta])

theorem State.dramRead_keep (s : State) (who : DramUser) (a : ℕ) (len : ℕ) : (State.dramRead s who a len).keep = s.keep := by
  unfold State.dramRead
  try dsimp only
  repeat' first
    | (simp only [↓State.dramRead1_keep, ↓keep_mk, ↓keep_eta]; done)
    | (refine (foldl_keep _ ?_ _ _).trans ?_)
    | (refine (foldl_keep2 _ ?_ _ _).trans ?_)
    | (intro _ _; try dsimp only)
    | (refine ite_keep _ _ _ _ ?_ ?_)
    | split
    | (simp only [↓State.dramRead1_keep, ↓keep_mk, ↓keep_eta])

theorem State.bar4_keep (s : State) (h : ℕ) (off : ℕ) (len : ℕ) (write : Option (List Byte)) : (State.bar4 s h off len write).keep = s.keep := by
  unfold State.bar4
  dsimp only
  repeat' split
  all_goals simp only [↓State.cplPut_keep, ↓State.unmapped_keep, ↓State.reach_keep, ↓State.dramWrite_keep, ↓State.dramRead_keep, ↓State.sleepAcc_keep]

theorem State.openStage_keep (s : State) (c : TCmd) : (State.openStage s c).keep = s.keep := by
  unfold State.openStage
  simp only [↓State.complete_keep, ↓keep_mk, ↓keep_eta]

theorem State.stageOpen_keep (s : State) (c : TCmd) : (State.stageOpen s c).keep = s.keep := by
  unfold State.stageOpen
  simp only [↓State.complete_keep]

theorem State.beginNext_keep (s : State) : (State.beginNext s).keep = s.keep := by
  unfold State.beginNext
  dsimp only
  repeat' split
  all_goals simp only [↓State.cuTidy_keep, ↓State.openStage_keep, ↓State.stageOpen_keep, ↓keep_mk, ↓keep_eta]

theorem State.begin__keep (s : State) (c : TCmd) : (State.begin_ s c).keep = s.keep := by
  unfold State.begin_
  dsimp only
  repeat' split
  all_goals simp only [↓State.openStage_keep, ↓State.stageOpen_keep, ↓keep_mk, ↓keep_eta]

theorem State.blowCmd_keep (s : State) : (State.blowCmd s).keep = s.keep := by
  unfold State.blowCmd
  dsimp only
  split <;> simp only [↓State.answer_keep, ↓keep_mk, ↓keep_eta]

theorem State.bufBad_keep (s : State) (b : ℕ) : (State.bufBad s b).keep = s.keep := by
  unfold State.bufBad
  try dsimp only
  repeat' first
    | (simp only [↓State.fresh_keep, ↓State.raise_keep, ↓keep_mk, ↓keep_eta]; done)
    | (refine ite_keep _ _ _ _ ?_ ?_)
    | split
    | (simp only [↓State.fresh_keep, ↓State.raise_keep, ↓keep_mk, ↓keep_eta])

theorem State.bufWritten_keep (s : State) (b : ℕ) : (State.bufWritten s b).keep = s.keep := by
  unfold State.bufWritten
  dsimp only
  repeat' split
  all_goals simp only [↓State.freeHold_keep, ↓State.setBuf_keep]

theorem State.cmdRun_keep (s : State) (c : TCmd) (d : Option (List Word)) (f : List Word → CmdRes)
    (h : ∀ ws, (f ws).st.keep = s.keep) : (s.cmdRun c d f).st.keep = s.keep := by
  unfold State.cmdRun
  split
  · rfl
  · split
    · split
      · exact h _
      · rfl
    · exact h _
theorem State.onGroups_keep (s : State) (f : ℕ → Tables → Tables) : (State.onGroups s f).keep = s.keep := by
  unfold State.onGroups
  try dsimp only
  repeat' first
    | (simp only [↓State.wakePg_keep, ↓State.setStale_keep, ↓keep_mk, ↓keep_eta]; done)
    | (refine (foldl_keep _ ?_ _ _).trans ?_)
    | (refine (foldl_keep2 _ ?_ _ _).trans ?_)
    | (intro _ _; try dsimp only)
    | (refine ite_keep _ _ _ _ ?_ ?_)
    | split
    | (simp only [↓State.wakePg_keep, ↓State.setStale_keep, ↓keep_mk, ↓keep_eta])

theorem State.cpPut_keep (s : State) (table : ℕ) (par : Bool) (idx : ℕ) (e : List Word) : (State.cpPut s table par idx e).keep = s.keep := by
  unfold State.cpPut
  simp only [↓State.onGroups_keep, ↓keep_mk, ↓keep_eta]

theorem State.setDirty_keep (s : State) (table : ℕ) (idx : ℕ) (b : Bool) : (State.setDirty s table idx b).keep = s.keep := by
  unfold State.setDirty
  simp only [↓keep_mk, ↓keep_eta]

theorem State.cpWrite_keep (s : State) (c : TCmd) (ws : List Word) : (State.cpWrite s c ws).st.keep = s.keep := by
  unfold State.cpWrite
  try dsimp only
  repeat' first
    | (simp only [↓failWith_keep, ↓State.cpPut_keep, ↓State.setDirty_keep, ↓State.touch_keep, ↓State.wrote_keep, ↓keep_mk, ↓keep_eta]; done)
    | (refine (foldl_keep _ ?_ _ _).trans ?_)
    | (refine (foldl_keep2 _ ?_ _ _).trans ?_)
    | (intro _ _; try dsimp only)
    | (refine ite_keep _ _ _ _ ?_ ?_)
    | split
    | (simp only [↓failWith_keep, ↓State.cpPut_keep, ↓State.setDirty_keep, ↓State.touch_keep, ↓State.wrote_keep, ↓keep_mk, ↓keep_eta])

theorem State.writeRun_keep (s : State) (c : TCmd) (ws : List Word) : (State.writeRun s c ws).st.keep = s.keep := by
  unfold State.writeRun
  split <;> simp only [↓State.ascWrite_keep, ↓State.cpWrite_keep]

theorem State.lrnAdd_keep (s : State) (e : List Word) : (State.lrnAdd s e).keep = s.keep := by
  unfold State.lrnAdd
  split <;> simp only [↓State.lrnMove_keep]

theorem State.staInsert_keep (s : State) (c : TCmd) (e : List Word) : (State.staInsert s c e).st.keep = s.keep := by
  unfold State.staInsert
  dsimp only
  repeat' split
  all_goals simp only [↓failWith_keep, ↓State.bump_keep, ↓State.lrnAdd_keep, ↓State.staPut_keep, ↓State.lrnDrop_keep, ↓State.touch_keep, ↓State.wrote_keep]

theorem State.nbrPut_keep (s : State) (key : ℕ) (e : List Word) : (State.nbrPut s key e).keep = s.keep := by
  unfold State.nbrPut
  simp only [↓State.onReplicas_keep, ↓keep_mk, ↓keep_eta]

theorem State.nbrInsert_keep (s : State) (c : TCmd) (e : List Word) : (State.nbrInsert s c e).st.keep = s.keep := by
  unfold State.nbrInsert
  dsimp only
  repeat' split
  all_goals simp only [↓failWith_keep, ↓State.nbrPut_keep, ↓State.touch_keep, ↓State.wrote_keep]

theorem State.repPut_keep (s : State) (k : ℕ) (e : RepEntry) : (State.repPut s k e).keep = s.keep := by
  unfold State.repPut
  simp only [↓keep_mk, ↓keep_eta]

theorem State.repInsert_keep (s : State) (c : TCmd) (ws : List Word) : (State.repInsert s c ws).st.keep = s.keep := by
  unfold State.repInsert
  dsimp only
  repeat' split
  all_goals simp only [↓failWith_keep, ↓State.repPut_keep, ↓State.touch_keep, ↓State.wrote_keep]

theorem State.insertRun_keep (s : State) (c : TCmd) (ws : List Word) : (State.insertRun s c ws).st.keep = s.keep := by
  unfold State.insertRun
  split <;> simp only [↓State.staInsert_keep, ↓State.nbrInsert_keep, ↓State.repInsert_keep]

theorem State.staDelete_keep (s : State) (c : TCmd) (e : List Word) : (State.staDelete s c e).st.keep = s.keep := by
  unfold State.staDelete
  dsimp only
  repeat' split
  all_goals simp only [↓failWith_keep, ↓State.wrote_keep, ↓State.staRemove_keep, ↓State.staPut_keep, ↓State.touch_keep]

theorem State.nbrDelete_keep (s : State) (c : TCmd) (e : List Word) : (State.nbrDelete s c e).st.keep = s.keep := by
  unfold State.nbrDelete
  dsimp only
  repeat' split
  all_goals simp only [↓failWith_keep, ↓State.wrote_keep, ↓State.nbrPut_keep, ↓State.touch_keep]

theorem State.repDelete_keep (s : State) (c : TCmd) : (State.repDelete s c).st.keep = s.keep := by
  unfold State.repDelete
  dsimp only
  repeat' split
  all_goals simp only [↓failWith_keep, ↓State.wrote_keep, ↓State.repPut_keep, ↓State.touch_keep]

theorem State.deleteRun_keep (s : State) (c : TCmd) (ws : List Word) : (State.deleteRun s c ws).st.keep = s.keep := by
  unfold State.deleteRun
  split <;> simp only [↓State.staDelete_keep, ↓State.nbrDelete_keep, ↓State.ascDelete_keep, ↓State.repDelete_keep]

theorem State.setNode_keep (s : State) (i : ℕ) (x : NodeState) : (State.setNode s i x).keep = s.keep := by
  unfold State.setNode
  simp only [↓keep_mk, ↓keep_eta]

theorem State.treePut_keep (s : State) (i : ℕ) (e : List Word) : (State.treePut s i e).keep = s.keep := by
  unfold State.treePut
  simp only [↓State.onGroups_keep, ↓keep_mk, ↓keep_eta]

theorem State.treeWriteRun_keep (s : State) (c : TCmd) (ws : List Word) : (State.treeWriteRun s c ws).st.keep = s.keep := by
  unfold State.treeWriteRun
  dsimp only
  repeat' split
  all_goals simp only [↓failWith_keep, ↓State.touch_keep, ↓State.wrote_keep, ↓State.setNode_keep, ↓State.treePut_keep]

theorem State.treeRetireRun_keep (s : State) (c : TCmd) : (State.treeRetireRun s c).st.keep = s.keep := by
  unfold State.treeRetireRun
  dsimp only
  repeat' split
  all_goals simp only [↓failWith_keep, ↓State.touch_keep, ↓State.setNode_keep]

theorem State.setRootOf_keep (s : State) (par : Bool) (v : BitVec 16) : (State.setRootOf s par v).keep = s.keep := by
  unfold State.setRootOf
  split <;> simp only [↓keep_mk, ↓keep_eta]

theorem State.setRootRun_keep (s : State) (c : TCmd) : (State.setRootRun s c).st.keep = s.keep := by
  unfold State.setRootRun
  dsimp only
  split <;> simp only [↓failWith_keep, ↓State.setRootOf_keep]

theorem State.subRun_keep (s : State) (c : TCmd) (d : Option (List Word)) : (State.subRun s c d).st.keep = s.keep := by
  unfold State.subRun
  repeat' first
    | (simp only [↓State.cmdRun_keep, ↓State.writeRun_keep, ↓State.insertRun_keep, ↓State.deleteRun_keep, ↓State.treeWriteRun_keep, ↓State.treeRetireRun_keep, ↓State.setRootRun_keep, ↓failWith_keep, ↓keep_mk, ↓keep_eta, *]; done)
    | (intro x; refine cutK x s ?_ ?_; rotate_left; (clear_value x; intro hx); rotate_left; simp only [x])
    | (intro x; refine cutK x.2 s ?_ ?_; rotate_left; (clear_value x; intro hx); rotate_left; simp only [x])
    | (intro x; clear_value x)
    | (refine State.cmdRun_keep _ _ _ _ (fun _ => ?_))
    | lift_lets
    | (refine ite_keep _ _ _ _ ?_ ?_)
    | (split <;> try (rename_i heq; replace heq := pairK heq; simp only [↓State.cmdRun_keep, ↓State.writeRun_keep, ↓State.insertRun_keep, ↓State.deleteRun_keep, ↓State.treeWriteRun_keep, ↓State.treeRetireRun_keep, ↓State.setRootRun_keep, ↓failWith_keep, ↓keep_mk, ↓keep_eta, ite_keep2, ite_self, *] at heq))
    | (simp only [↓State.cmdRun_keep, ↓State.writeRun_keep, ↓State.insertRun_keep, ↓State.deleteRun_keep, ↓State.treeWriteRun_keep, ↓State.treeRetireRun_keep, ↓State.setRootRun_keep, ↓failWith_keep, ↓keep_mk, ↓keep_eta])

theorem State.bulkRun_keep (c : TCmd) (l : List BulkSub) (i : Nat) (acc : CmdRes) :
    (State.bulkRun c l i acc).st.keep = acc.st.keep := by
  induction l generalizing i acc with
  | nil => rfl
  | cons b l ih =>
    unfold State.bulkRun
    extract_lets sub r o
    have hr : r.st.keep = acc.st.keep := by
      simp only [r]
      split
      · rfl
      · split
        · rfl
        · exact State.subRun_keep ..
    clear_value r
    split
    · exact (ih _ _).trans hr
    · exact hr
theorem State.bulk_keep (s : State) (c : TCmd) (subs : Option (List BulkSub)) : (State.bulk s c subs).st.keep = s.keep := by
  unfold State.bulk
  dsimp only
  repeat' split
  all_goals simp only [↓State.bulkRun_keep]

theorem State.busFail_keep (s : State) (n : ℕ) (e : BusEnd) : (State.busFail s n e).keep = s.keep := by
  unfold State.busFail
  try dsimp only
  repeat' first
    | (simp only [↓State.emit_keep, ↓keep_mk, ↓keep_eta]; done)
    | (refine ite_keep _ _ _ _ ?_ ?_)
    | split
    | (simp only [↓State.emit_keep, ↓keep_mk, ↓keep_eta])

theorem State.cagePress_keep (s : State) (c : ℕ) : (State.cagePress s c).keep = s.keep := by
  unfold State.cagePress
  dsimp only
  split <;> simp only [↓State.cageEvt_keep, ↓State.cageTo_keep]

theorem State.cageButton_keep (s : State) (c : ℕ) (p : Bool) : (State.cageButton s c p).keep = s.keep := by
  unfold State.cageButton
  dsimp only
  repeat' split
  all_goals simp only [↓State.setCage_keep, ↓State.cagePress_keep]

theorem State.cageIn_keep (s : State) (c : ℕ) : (State.cageIn s c).keep = s.keep := by
  unfold State.cageIn
  simp only [↓State.cageEvt_keep, ↓State.setCage_keep, ↓State.cageTo_keep]

theorem State.cagePresence_keep (s : State) (c : ℕ) (p : Bool) : (State.cagePresence s c p).keep = s.keep := by
  unfold State.cagePresence
  dsimp only
  repeat' split
  all_goals simp only [↓State.setCage_keep, ↓State.cageTo_keep, ↓State.cageIn_keep, ↓State.cageEvt_keep]

theorem State.cageInput_keep (s : State) (c : ℕ) (b : ℕ) : (State.cageInput s c b).keep = s.keep := by
  unfold State.cageInput
  dsimp only
  split <;> simp only [↓State.cageEvt_keep, ↓State.setCage_keep, ↓State.cagePresence_keep, ↓State.queueWrite_keep, ↓State.cageButton_keep]

theorem State.cageWritten_keep (s : State) (c : ℕ) : (State.cageWritten s c).keep = s.keep := by
  unfold State.cageWritten
  try dsimp only
  repeat' first
    | (simp only [↓State.setCage_keep, ↓State.cageTo_keep, ↓keep_mk, ↓keep_eta]; done)
    | (refine ite_keep _ _ _ _ ?_ ?_)
    | split
    | (simp only [↓State.setCage_keep, ↓State.cageTo_keep, ↓keep_mk, ↓keep_eta])

theorem State.calibrate_keep (s : State) (c : ℕ) (cmd : ℕ) (ok : Bool) : (State.calibrate s c cmd ok).keep = s.keep := by
  unfold State.calibrate
  try dsimp only
  repeat' first
    | (simp only [↓State.dlogAll_keep, ↓State.setDch_keep, ↓State.raise_keep, ↓keep_mk, ↓keep_eta]; done)
    | (refine ite_keep _ _ _ _ ?_ ?_)
    | split
    | (simp only [↓State.dlogAll_keep, ↓State.setDch_keep, ↓State.raise_keep, ↓keep_mk, ↓keep_eta])

theorem State.cfgWrite_keep (s : State) (h : ℕ) (off : ℕ) (v : Word) : (State.cfgWrite s h off v).keep = s.keep := by
  unfold State.cfgWrite
  dsimp only
  repeat' split
  all_goals simp only [↓State.setHst_keep, ↓State.loseHost_keep, ↓State.sendLtr_keep]

theorem State.chainForward_keep (s : State) (words : List Word) : (State.chainForward s words).keep = s.keep := by
  unfold State.chainForward
  try dsimp only
  repeat' first
    | (simp only [↓State.forwardAll_keep, ↓keep_mk, ↓keep_eta]; done)
    | (refine ite_keep _ _ _ _ ?_ ?_)
    | split
    | (simp only [↓State.forwardAll_keep, ↓keep_mk, ↓keep_eta])

theorem State.passOn_keep (s : State) (w : Word) : (State.passOn s w).keep = s.keep := by
  unfold State.passOn
  simp only [↓State.chainPop_keep, ↓State.emit_keep]

theorem State.chainFreeze_keep (s : State) : (State.chainFreeze s).keep = s.keep := by
  unfold State.chainFreeze
  repeat' first
    | (simp only [↓State.freezeLatch_keep, ↓State.passOn_keep, ↓State.answer_keep, ↓keep_mk, ↓keep_eta, *]; done)
    | (intro x; refine cutK x s ?_ ?_; rotate_left; (clear_value x; intro hx); rotate_left; simp only [x])
    | (intro x; refine cutK x.2 s ?_ ?_; rotate_left; (clear_value x; intro hx); rotate_left; simp only [x])
    | (intro x; clear_value x)
    | lift_lets
    | (refine ite_keep _ _ _ _ ?_ ?_)
    | (split <;> try (rename_i heq; replace heq := pairK heq; simp only [↓State.freezeLatch_keep, ↓State.passOn_keep, ↓State.answer_keep, ↓keep_mk, ↓keep_eta, ite_keep2, ite_self, *] at heq))
    | (simp only [↓State.freezeLatch_keep, ↓State.passOn_keep, ↓State.answer_keep, ↓keep_mk, ↓keep_eta])

theorem State.chainPeek_keep (s : State) (a : ℕ) : (State.chainPeek s a).2.keep = s.keep := by
  unfold State.chainPeek
  try dsimp only
  repeat' first
    | (simp only [↓State.accRead_keep, ↓State.reach_keep, ↓keep_mk, ↓keep_eta]; done)
    | (refine ite_keep _ _ _ _ ?_ ?_)
    | split
    | (simp only [↓State.accRead_keep, ↓State.reach_keep, ↓keep_mk, ↓keep_eta])

theorem State.chainReset_keep (s : State) : (State.chainReset s).keep = s.keep := by
  unfold State.chainReset
  dsimp only
  repeat' split
  all_goals simp only [↓State.chipReset_keep, ↓State.passOn_keep, ↓State.answer_keep]

theorem State.chainRx_keep (s : State) (words : List Word) : (State.chainRx s words).keep = s.keep := by
  unfold State.chainRx
  try dsimp only
  repeat' first
    | (simp only [↓State.chainForward_keep, ↓State.raise_keep, ↓State.bump_keep, ↓State.chainSend_keep, ↓State.reply_keep, ↓State.chainQueue_keep, ↓keep_mk, ↓keep_eta]; done)
    | (refine ite_keep _ _ _ _ ?_ ?_)
    | split
    | (simp only [↓State.chainForward_keep, ↓State.raise_keep, ↓State.bump_keep, ↓State.chainSend_keep, ↓State.reply_keep, ↓State.chainQueue_keep, ↓keep_mk, ↓keep_eta])

theorem State.chainStore_keep (s : State) (a : ℕ) (ws : List Word) : (State.chainStore s a ws).keep = s.keep := by
  unfold State.chainStore
  try dsimp only
  repeat' first
    | (simp only [↓State.reach_keep, ↓State.dramWrite_keep, ↓State.answer_keep, ↓keep_mk, ↓keep_eta]; done)
    | (refine ite_keep _ _ _ _ ?_ ?_)
    | split
    | (simp only [↓State.reach_keep, ↓State.dramWrite_keep, ↓State.answer_keep, ↓keep_mk, ↓keep_eta])

theorem State.portLedger_keep (s : State) (fails : List (Bool × ℕ × Bool)) (stamp : BitVec 64) (lp : ℕ) : (State.portLedger s fails stamp lp).keep = s.keep := by
  unfold State.portLedger
  simp only [↓State.export_keep]

theorem State.portReasons_keep (s : State) (stamp : BitVec 64) (lp : ℕ) : (State.portReasons s stamp lp).keep = s.keep := by
  unfold State.portReasons
  simp only [↓State.export_keep]

theorem State.groupLedger_keep (s : State) (fails : List (Bool × ℕ × Bool)) (stamp : BitVec 64) (n : ℕ) : (State.groupLedger s fails stamp n).keep = s.keep := by
  unfold State.groupLedger
  simp only [↓State.export_keep]

theorem State.countersRec_keep (s : State) (stamp : BitVec 64) : (State.countersRec s stamp).keep = s.keep := by
  unfold State.countersRec
  simp only [↓State.export_keep]

theorem State.checkLedger_keep (s : State) : (State.checkLedger s).keep = s.keep := by
  unfold State.checkLedger
  repeat' first
    | (simp only [↓State.acctFail_keep, ↓State.raise_keep, ↓State.portLedger_keep, ↓State.portReasons_keep, ↓State.groupLedger_keep, ↓State.countersRec_keep, ↓keep_mk, ↓keep_eta, *]; done)
    | (intro x; refine cutK x s ?_ ?_; rotate_left; (clear_value x; intro hx); rotate_left; simp only [x])
    | (intro x; refine cutK x.2 s ?_ ?_; rotate_left; (clear_value x; intro hx); rotate_left; simp only [x])
    | (intro x; clear_value x)
    | (refine (foldl_keep _ (fun s _ => ?_) _ _).trans ?_)
    | (refine (foldl_keep2 _ (fun s _ => ?_) _ _).trans ?_)
    | lift_lets
    | (refine ite_keep _ _ _ _ ?_ ?_)
    | (split <;> try (rename_i heq; replace heq := pairK heq; simp only [↓State.acctFail_keep, ↓State.raise_keep, ↓State.portLedger_keep, ↓State.portReasons_keep, ↓State.groupLedger_keep, ↓State.countersRec_keep, ↓keep_mk, ↓keep_eta, ite_keep2, ite_self, *] at heq))
    | (simp only [↓State.acctFail_keep, ↓State.raise_keep, ↓State.portLedger_keep, ↓State.portReasons_keep, ↓State.groupLedger_keep, ↓State.countersRec_keep, ↓keep_mk, ↓keep_eta])

theorem State.closeReached_keep (s : State) : (State.closeReached s).keep = s.keep := by
  unfold State.closeReached
  try dsimp only
  repeat' first
    | (simp only [↓State.closePoints_keep, ↓keep_mk, ↓keep_eta]; done)
    | (refine ite_keep _ _ _ _ ?_ ?_)
    | split
    | (simp only [↓State.closePoints_keep, ↓keep_mk, ↓keep_eta])

theorem State.cmdOut_keep (s : State) (c : TCmd) (ws : List Word) : (State.cmdOut s c ws).keep = s.keep := by
  unfold State.cmdOut
  try dsimp only
  repeat' first
    | (simp only [↓State.setRg_keep, ↓State.toHost_keep, ↓keep_mk, ↓keep_eta]; done)
    | (refine (foldl_keep _ ?_ _ _).trans ?_)
    | (refine (foldl_keep2 _ ?_ _ _).trans ?_)
    | (intro _ _; try dsimp only)
    | (refine ite_keep _ _ _ _ ?_ ?_)
    | split
    | (simp only [↓State.setRg_keep, ↓State.toHost_keep, ↓keep_mk, ↓keep_eta])

theorem State.commitEnd_keep (s : State) : (State.commitEnd s).keep = s.keep := by
  unfold State.commitEnd
  dsimp only
  split <;> simp only [↓State.startDone_keep, ↓State.complete_keep, ↓State.cuTidy_keep, ↓keep_mk, ↓keep_eta]

theorem State.sendFlip_keep (s : State) : (State.sendFlip s).keep = s.keep := by
  unfold State.sendFlip
  try dsimp only
  repeat' first
    | (simp only [↓State.setGrp_keep, ↓keep_mk, ↓keep_eta]; done)
    | (refine (foldl_keep _ ?_ _ _).trans ?_)
    | (refine (foldl_keep2 _ ?_ _ _).trans ?_)
    | (intro _ _; try dsimp only)
    | (refine ite_keep _ _ _ _ ?_ ?_)
    | split
    | (simp only [↓State.setGrp_keep, ↓keep_mk, ↓keep_eta])

theorem State.commitRun_keep (s : State) (c : TCmd) : (State.commitRun s c).keep = s.keep := by
  unfold State.commitRun
  dsimp only
  repeat' split
  all_goals simp only [↓State.complete_keep, ↓State.sendFlip_keep, ↓keep_mk, ↓keep_eta]

theorem State.sentEntry_keep (s : State) (digest : Word) (sent : Word) (kind : ℕ) (x : Sample) (c : ℕ) : (State.sentEntry s digest sent kind x c).keep = s.keep := by
  unfold State.sentEntry
  dsimp only
  split <;> simp only [↓State.digestEntry_keep]

theorem State.compareDigest_keep (s : State) (c : ℕ) (i : ℕ) (x : Sample) : (State.compareDigest s c i x).keep = s.keep := by
  unfold State.compareDigest
  try dsimp only
  repeat' first
    | (simp only [↓State.bump_keep, ↓State.endReruns_keep, ↓State.setSample_keep, ↓State.sentEntry_keep, ↓State.pmcCluster_keep, ↓keep_mk, ↓keep_eta]; done)
    | (refine ite_keep _ _ _ _ ?_ ?_)
    | split
    | (simp only [↓State.bump_keep, ↓State.endReruns_keep, ↓State.setSample_keep, ↓State.sentEntry_keep, ↓State.pmcCluster_keep, ↓keep_mk, ↓keep_eta])

theorem State.moveOut_keep (s : State) (h : ℕ) (dst : ℕ) (b : List Byte) (bad : List (ℕ × ℕ)) : (State.moveOut s h dst b bad).keep = s.keep := by
  unfold State.moveOut
  try dsimp only
  repeat' first
    | (simp only [↓State.toHost_keep, ↓State.emit_keep, ↓State.tlp_keep, ↓keep_mk, ↓keep_eta]; done)
    | (refine ite_keep _ _ _ _ ?_ ?_)
    | split
    | (simp only [↓State.toHost_keep, ↓State.emit_keep, ↓State.tlp_keep, ↓keep_mk, ↓keep_eta])

theorem State.copy_keep (s : State) (n srcSp dstSp src dst len : Nat) (data : Option (List Byte)) (bad : List (Nat × Nat))
    (fail : Nat) : (s.copy n srcSp dstSp src dst len data bad fail).s.keep = s.keep := by
  have hf : ∀ (l : List Nat) (b : Bool) (d : List Byte) (m : Moving),
      (l.foldl (fun m k => m.word n b srcSp dstSp src dst d k) m).s.keep = m.s.keep := by
    intro l b d
    induction l with
    | nil => exact fun _ => rfl
    | cons k l ih => exact fun m => (ih _).trans (Moving.word_keep ..)
  have ho : ∀ (c : Prop) [Decidable c] (a b : Moving), a.s.keep = s.keep → b.s.keep = s.keep →
      (if c then a else b).s.keep = s.keep := by intros; split <;> assumption
  unfold State.copy
  extract_lets got m1
  have h1 : m1.s.keep = s.keep := ho _ _ _ rfl (hf ..)
  clear_value m1
  have h2 : (if m1.toHost.isEmpty = true then m1 else
      let h := s.chanOwner n
      let top := 2 ^ 48 - dst
      let t := m1.s.moveOut h dst (m1.toHost.take top) (cutRanges bad 0 (min top m1.toHost.length))
      let t := t.moveOut h 0 (m1.toHost.drop top) (cutRanges bad top (m1.toHost.length - top))
      { m1 with s := t.setChan n { t.chan n with hostEnd := spAddr 0 (dst + m1.toHost.length - 1), hostOut := true } }).s.keep = s.keep := by
    refine ho _ _ _ h1 ?_
    simp only [State.setChan_keep, State.moveOut_keep, h1]
  split
  · exact h2
  · exact h2
theorem State.copyChunk_keep (s : State) (c : ℕ) (x : ℕ) (y : ℕ) (bad : Bool) : (State.copyChunk s c x y bad).keep = s.keep := by
  unfold State.copyChunk
  try dsimp only
  repeat' first
    | (simp only [↓State.dramStore_keep, ↓State.setDch_keep, ↓State.bump_keep, ↓keep_mk, ↓keep_eta]; done)
    | (refine ite_keep _ _ _ _ ?_ ?_)
    | split
    | (simp only [↓State.dramStore_keep, ↓State.setDch_keep, ↓State.bump_keep, ↓keep_mk, ↓keep_eta])

theorem State.count_keep (s : State) : (State.count s).keep = s.keep := by
  unfold State.count
  try dsimp only
  repeat' first
    | (simp only [↓keep_mk, ↓keep_eta]; done)
    | (refine ite_keep _ _ _ _ ?_ ?_)
    | split
    | (simp only [↓keep_mk, ↓keep_eta])

theorem State.profile_keep (s : State) (k : ℕ) (skid : ℕ) : (State.profile s k skid).keep = s.keep := by
  unfold State.profile
  dsimp only
  repeat' split
  all_goals simp only [↓State.telLost_keep, ↓State.export_keep, ↓keep_mk, ↓keep_eta]

theorem State.countIssue_keep (s : State) (k pc : Nat) : (s.countIssue k pc).keep = s.keep := by
  have hp : ∀ (b : Bool) (s : State), (if b = true then s.fresh else (0, s)).2.keep = s.keep := by
    intro b s; split
    · exact State.fresh_keep ..
    · rfl
  have hb : ∀ (b : Bool) (s : State) (c n : Nat), (if b = true then s.pmcCluster c n else s).keep = s.keep := by
    intro b s c n; split
    · exact State.pmcCluster_keep ..
    · rfl
  unfold State.countIssue
  dsimp only
  refine (foldl_keep _ (fun s e => State.profile_keep ..) _ _).trans ((State.setThr_keep ..).trans ?_)
  exact (hp _ _).trans ((hb _ _ _ _).trans ((State.pmcCluster_keep ..).trans (State.setClu_keep ..)))
theorem State.countReturn_keep (s : State) (k : ℕ) : (State.countReturn s k).keep = s.keep := by
  unfold State.countReturn
  dsimp only
  repeat' split
  all_goals simp only [↓State.putThr_keep]

theorem State.cuRun_keep (s : State) (f : State → TCmd → State) (h : ∀ s c, (f s c).keep = s.keep) :
    (s.cuRun f).keep = s.keep := by
  unfold State.cuRun
  split
  · rw [State.cuTidy_keep, h, State.cuPop_keep]
  · rfl
theorem State.takeCount_keep (s : State) (h : ℕ) (t : ℕ) (c : Word) : (State.takeCount s h t c).keep = s.keep := by
  unfold State.takeCount
  dsimp only
  repeat' split
  all_goals simp only [↓State.ringErr_keep, ↓State.setRing_keep]

theorem State.dbDone_keep (s : State) (h : ℕ) (words : Option (List Word)) : (State.dbDone s h words).keep = s.keep := by
  unfold State.dbDone
  repeat' first
    | (simp only [↓State.tlp_keep, ↓State.setHst_keep, ↓State.orRg_keep, ↓State.takeCount_keep, ↓State.dbStart_keep, ↓keep_mk, ↓keep_eta, *]; done)
    | (intro x; refine cutK x s ?_ ?_; rotate_left; (clear_value x; intro hx); rotate_left; simp only [x])
    | (intro x; refine cutK x.2 s ?_ ?_; rotate_left; (clear_value x; intro hx); rotate_left; simp only [x])
    | (intro x; clear_value x)
    | (refine (foldl_keep _ (fun s _ => ?_) _ _).trans ?_)
    | (refine (foldl_keep2 _ (fun s _ => ?_) _ _).trans ?_)
    | lift_lets
    | (refine ite_keep _ _ _ _ ?_ ?_)
    | (split <;> try (rename_i heq; replace heq := pairK heq; simp only [↓State.tlp_keep, ↓State.setHst_keep, ↓State.orRg_keep, ↓State.takeCount_keep, ↓State.dbStart_keep, ↓keep_mk, ↓keep_eta, ite_keep2, ite_self, *] at heq))
    | (simp only [↓State.tlp_keep, ↓State.setHst_keep, ↓State.orRg_keep, ↓State.takeCount_keep, ↓State.dbStart_keep, ↓keep_mk, ↓keep_eta])

theorem State.nbrLook_keep (s : State) (k : ℕ) (pr : List Word) : (State.nbrLook s k pr).keep = s.keep := by
  unfold State.nbrLook
  dsimp only
  split <;> simp only [↓State.setPkt_keep]

theorem State.lookHit_keep (s : State) (k : ℕ) (source : Bool) (key : ℕ) : (State.lookHit s k source key).keep = s.keep := by
  unfold State.lookHit
  split <;> simp only [↓State.setPkt_keep, ↓keep_mk, ↓keep_eta]

theorem State.lookup_keep (s : State) (k : ℕ) (source : Bool) (mac : ℕ) : (State.lookup s k source mac).keep = s.keep := by
  unfold State.lookup
  dsimp only
  repeat' split
  all_goals simp only [↓State.lookHit_keep, ↓State.bump_keep, ↓State.setPkt_keep, ↓State.setGrp_keep]

theorem State.lookups_keep (s : State) (k : ℕ) (pr : List Word) (nbr : Bool) : (State.lookups s k pr nbr).keep = s.keep := by
  unfold State.lookups
  split <;> simp only [↓State.setPkt_keep, ↓State.nbrLook_keep, ↓State.afterLookups_keep, ↓State.lookup_keep]

theorem State.l2Default_keep (s : State) (k : Nat) (pr : List Word) : (s.l2Default k pr).keep = s.keep := by
  unfold State.l2Default
  extract_lets p n nbr s1
  have h1 : s1.keep = s.keep := State.setPkt_keep ..
  clear_value s1 nbr
  split
  · exact (State.lookups_keep ..).trans h1
  · rw [State.forward_keep]
    exact ite_keep _ _ _ _ ((State.nbrLook_keep ..).trans h1) h1
theorem State.parse_keep (s : State) (k : ℕ) : (State.parse s k).keep = s.keep := by
  unfold State.parse
  dsimp only
  repeat' split
  all_goals simp only [↓State.setPkt_keep, ↓State.lookups_keep, ↓State.endPkt_keep, ↓State.l2Default_keep, ↓State.seqPut_keep]

theorem State.deal_keep (s : State) (lp : ℕ) (bytes : List Byte) (time : ℕ) (slots : BitVec 6) (inject : Bool) : (State.deal s lp bytes time slots inject).keep = s.keep := by
  unfold State.deal
  dsimp only
  split <;> simp only [↓State.drop_keep, ↓State.book_keep, ↓State.accept_keep, ↓State.parse_keep]

theorem State.deliver_keep (s : State) (k : ℕ) (v : List Word) (src : PuntSrc) : (State.deliver s k v src).keep = s.keep := by
  unfold State.deliver
  dsimp only
  repeat' split
  all_goals simp only [↓State.samplePrimary_keep, ↓State.countHold_keep, ↓State.handOff_keep, ↓State.setThr_keep, ↓State.pmcCluster_keep, ↓State.sampleSentinel_keep]

theorem State.moveOwed_keep (s : State) (h : ℕ) (t : ℕ) (f : ℕ → ℕ) : (State.moveOwed s h t f).keep = s.keep := by
  unfold State.moveOwed
  simp only [↓State.setRing_keep]

theorem State.takeCmds_keep (s : State) (h : ℕ) (t : ℕ) (ds : List (List Word)) : (State.takeCmds s h t ds).keep = s.keep := by
  unfold State.takeCmds
  simp only [↓State.setRing_keep, ↓State.wake_keep, ↓State.cuTidy_keep, ↓keep_mk, ↓keep_eta]

theorem State.takePosted_keep (s : State) (h : ℕ) (t : ℕ) (ds : List (List Word)) : (State.takePosted s h t ds).keep = s.keep := by
  unfold State.takePosted
  dsimp only
  split <;> simp only [↓State.setRing_keep, ↓State.ringErr_keep]

theorem State.takeInj_keep (s : State) (h : ℕ) (t : ℕ) (ds : List (List Word)) : (State.takeInj s h t ds).keep = s.keep := by
  unfold State.takeInj
  simp only [↓State.setRing_keep]

theorem State.descDone_keep (s : State) (h : ℕ) (t : ℕ) (descs : Option (List (List Word))) : (State.descDone s h t descs).keep = s.keep := by
  unfold State.descDone
  dsimp only
  repeat' split
  all_goals simp only [↓State.tlp_keep, ↓State.moveOwed_keep, ↓State.setRing_keep, ↓State.ringErr_keep, ↓State.takeCmds_keep, ↓State.takePosted_keep, ↓State.takeInj_keep]

theorem State.descStart_keep (s : State) (h : ℕ) (t : ℕ) : (State.descStart s h t).keep = s.keep := by
  unfold State.descStart
  dsimp only
  repeat' split
  all_goals simp only [↓State.moveOwed_keep, ↓State.setRing_keep, ↓State.setHst_keep, ↓State.readHost_keep]

theorem State.pickCluster_keep (s : State) (l : List ℕ) (cls : ℕ) : (State.pickCluster s l cls).2.keep = s.keep := by
  unfold State.pickCluster
  try dsimp only
  repeat' first
    | (simp only [↓State.setClu_keep, ↓keep_mk, ↓keep_eta]; done)
    | (refine (foldl_keep _ ?_ _ _).trans ?_)
    | (refine (foldl_keep2 _ ?_ _ _).trans ?_)
    | (intro _ _; try dsimp only)
    | (refine ite_keep _ _ _ _ ?_ ?_)
    | split
    | (simp only [↓State.setClu_keep, ↓keep_mk, ↓keep_eta])

theorem State.takeSample_keep (s : State) (c : ℕ) (e : ℕ) (t : ℕ) (p : Pkt) : (State.takeSample s c e t p).keep = s.keep := by
  unfold State.takeSample
  dsimp only
  repeat' split
  all_goals simp only [↓State.bump_keep, ↓State.setSample_keep, ↓State.nextOrder_keep, ↓State.setThr_keep]

theorem State.place_keep (s : State) (k : ℕ) (c : ℕ) (e : ℕ) (t : ℕ) : (State.place s k c e t).keep = s.keep := by
  unfold State.place
  dsimp only
  split <;> simp only [↓State.nextOrder_keep, ↓State.digSample_keep, ↓State.setPkt_keep, ↓State.setThr_keep, ↓State.pmcCluster_keep, ↓State.setClu_keep, ↓State.takeSample_keep]

theorem State.popClass_keep (s : State) (n : ℕ) (cls : ℕ) : (State.popClass s n cls).keep = s.keep := by
  unfold State.popClass
  simp only [↓State.setGrp_keep]

theorem State.tryClass_keep (s : State) (n cls : Nat) (t : State) (h : s.tryClass n cls = some t) : t.keep = s.keep := by
  unfold State.tryClass at h
  split at h
  · cases h
  · dsimp only at h
    split at h
    · cases h
      exact (State.handDrop_keep ..).trans (State.popClass_keep ..)
    · split at h
      · next e =>
        cases h
        rw [State.place_keep, State.popClass_keep, pairK e]
        exact State.pickCluster_keep ..
      · cases h
theorem State.dispatch_keep (s : State) (n : Nat) : (s.dispatch n).keep = s.keep := by
  unfold State.dispatch
  cases h : (List.range 4).findSome? fun d => s.tryClass n (((s.grp n).rr + d) % 4) with
  | none => rfl
  | some t =>
    obtain ⟨d, -, hd⟩ := List.exists_of_findSome?_eq_some h
    exact State.tryClass_keep _ _ _ _ hd
theorem State.dlog_keep (s : State) (c : ℕ) (cmd : ℕ) (rank : ℕ) : (State.dlog s c cmd rank).keep = s.keep := by
  unfold State.dlog
  try dsimp only
  repeat' first
    | (simp only [↓State.dlogs_keep, ↓keep_mk, ↓keep_eta]; done)
    | (refine ite_keep _ _ _ _ ?_ ?_)
    | split
    | (simp only [↓State.dlogs_keep, ↓keep_mk, ↓keep_eta])

theorem State.drain_keep (s : State) (k : ℕ) (ecc : Bool) : (State.drain s k ecc).keep = s.keep := by
  unfold State.drain
  dsimp only
  repeat' split
  all_goals simp only [↓State.addFails_keep, ↓State.putThr_keep, ↓State.setClu_keep, ↓State.passLine_keep, ↓State.askLock_keep]

theorem State.dramBlank_keep (s : State) (c : ℕ) : (State.dramBlank s c).keep = s.keep := by
  unfold State.dramBlank
  try dsimp only
  repeat' first
    | (simp only [↓State.setDch_keep, ↓keep_mk, ↓keep_eta]; done)
    | (refine ite_keep _ _ _ _ ?_ ?_)
    | split
    | (simp only [↓State.setDch_keep, ↓keep_mk, ↓keep_eta])

theorem State.dramLay_keep (s : State) (a : ℕ) (b : List Byte) : (State.dramLay s a b).keep = s.keep := by
  unfold State.dramLay
  try dsimp only
  repeat' first
    | (simp only [↓State.dramStore_keep, ↓keep_mk, ↓keep_eta]; done)
    | (refine ite_keep _ _ _ _ ?_ ?_)
    | split
    | (simp only [↓State.dramStore_keep, ↓keep_mk, ↓keep_eta])

theorem State.dropLate_keep (s : State) (k : ℕ) (reason : ℕ) : (State.dropLate s k reason).keep = s.keep := by
  unfold State.dropLate
  simp only [↓State.dropPkt_keep, ↓State.freeHold_keep, ↓State.drop_keep]

theorem State.dropOldSamples_keep (s : State) : (State.dropOldSamples s).keep = s.keep := by
  unfold State.dropOldSamples
  try dsimp only
  repeat' first
    | (simp only [↓State.dropSamples_keep, ↓keep_mk, ↓keep_eta]; done)
    | (refine (foldl_keep _ ?_ _ _).trans ?_)
    | (refine (foldl_keep2 _ ?_ _ _).trans ?_)
    | (intro _ _; try dsimp only)
    | (refine ite_keep _ _ _ _ ?_ ?_)
    | split
    | (simp only [↓State.dropSamples_keep, ↓keep_mk, ↓keep_eta])

theorem State.noteCe_keep (s : State) (c : ℕ) (rank : ℕ) : (State.noteCe s c rank).keep = s.keep := by
  unfold State.noteCe
  dsimp only
  split <;> simp only [↓State.setDch_keep, ↓State.startMigration_keep]

theorem State.recordUe_keep (s : State) (c : ℕ) (who : DramUser) (a : ℕ) (rank : ℕ) : (State.recordUe s c who a rank).keep = s.keep := by
  unfold State.recordUe
  simp only [↓State.fresh_keep, ↓State.bump_keep, ↓State.setDch_keep]

theorem State.eccOutcome_keep (s : State) (c : ℕ) (who : DramUser) (a : ℕ) (ecc : EccResult) (trigger : Bool) : (State.eccOutcome s c who a ecc trigger).keep = s.keep := by
  unfold State.eccOutcome
  dsimp only
  repeat' split
  all_goals simp only [↓State.raise_keep, ↓State.bump_keep, ↓State.noteCe_keep, ↓State.recordUe_keep, ↓State.afterUe_keep]

theorem State.endHold_keep (s : State) (lp : ℕ) : (State.endHold s lp).keep = s.keep := by
  unfold State.endHold
  split <;> simp only [↓State.setLink_keep, ↓State.toDown_keep]

theorem State.sigInt_keep (s : State) (n : ℕ) (int : Bool) : (State.sigInt s n int).keep = s.keep := by
  unfold State.sigInt
  try dsimp only
  repeat' first
    | (simp only [↓State.setChan_keep, ↓keep_mk, ↓keep_eta]; done)
    | (refine ite_keep _ _ _ _ ?_ ?_)
    | split
    | (simp only [↓State.setChan_keep, ↓keep_mk, ↓keep_eta])

theorem State.endIns_keep (s : State) (n : ℕ) : (State.endIns s n).keep = s.keep := by
  unfold State.endIns
  simp only [↓State.sigInt_keep, ↓State.setChan_keep]

theorem State.histRecord_keep (s : State) (q : ℕ) : (State.histRecord s q).keep = s.keep := by
  unfold State.histRecord
  simp only [↓State.export_keep]

theorem State.endPeriod_keep (s : State) : (State.endPeriod s).keep = s.keep := by
  unfold State.endPeriod
  try dsimp only
  repeat' first
    | (simp only [↓State.histRecord_keep, ↓keep_mk, ↓keep_eta]; done)
    | (refine (foldl_keep _ ?_ _ _).trans ?_)
    | (refine (foldl_keep2 _ ?_ _ _).trans ?_)
    | (intro _ _; try dsimp only)
    | (refine ite_keep _ _ _ _ ?_ ?_)
    | split
    | (simp only [↓State.histRecord_keep, ↓keep_mk, ↓keep_eta])

theorem State.setPicked_keep (s : State) (lp : ℕ) (l : List Picked) : (State.setPicked s lp l).keep = s.keep := by
  unfold State.setPicked
  simp only [↓keep_mk, ↓keep_eta]

theorem State.telBin_keep (s : State) (q : ℕ) (sojourn : ℕ) : (State.telBin s q sojourn).keep = s.keep := by
  unfold State.telBin
  simp only [↓State.telCount_keep]

theorem State.leave_keep (s : State) (d : ℕ) (q : ℕ) (tout : ℕ) : (State.leave s d q tout).keep = s.keep := by
  unfold State.leave
  simp only [↓State.relDesc_keep, ↓State.telBin_keep, ↓State.book_keep]

theorem State.endTx_keep (s : State) (lp : ℕ) : (State.endTx s lp).keep = s.keep := by
  unfold State.endTx
  dsimp only
  repeat' split
  all_goals simp only [↓State.setPicked_keep, ↓State.dropDesc_keep, ↓State.emit_keep, ↓State.bump_keep, ↓State.addLine_keep, ↓State.addCtr_keep, ↓State.leave_keep]

theorem State.endWindow_keep (s : State) : (State.endWindow s).keep = s.keep := by
  unfold State.endWindow
  simp only [↓keep_mk, ↓keep_eta]

theorem State.unkeep_keep (s : State) (n : ℕ) : (State.unkeep s n).keep = s.keep := by
  unfold State.unkeep
  try dsimp only
  repeat' first
    | (simp only [↓keep_mk, ↓keep_eta]; done)
    | (refine ite_keep _ _ _ _ ?_ ?_)
    | split
    | (simp only [↓keep_mk, ↓keep_eta])

theorem State.enterShade_keep (s : State) (k : ℕ) (x : Shade) : (State.enterShade s k x).keep = s.keep := by
  unfold State.enterShade
  repeat' first
    | (simp only [↓State.sxDown_keep, ↓State.dramStop_keep, ↓State.setGrp_keep, ↓State.unkeep_keep, ↓State.loseDom_keep, ↓State.setDmn_keep, ↓keep_mk, ↓keep_eta, *]; done)
    | (intro x; refine cutK x s ?_ ?_; rotate_left; (clear_value x; intro hx); rotate_left; simp only [x])
    | (intro x; refine cutK x.2 s ?_ ?_; rotate_left; (clear_value x; intro hx); rotate_left; simp only [x])
    | (intro x; clear_value x)
    | (refine (foldl_keep _ (fun s _ => ?_) _ _).trans ?_)
    | (refine (foldl_keep2 _ (fun s _ => ?_) _ _).trans ?_)
    | lift_lets
    | (refine ite_keep _ _ _ _ ?_ ?_)
    | (split <;> try (rename_i heq; replace heq := pairK heq; simp only [↓State.sxDown_keep, ↓State.dramStop_keep, ↓State.setGrp_keep, ↓State.unkeep_keep, ↓State.loseDom_keep, ↓State.setDmn_keep, ↓keep_mk, ↓keep_eta, ite_keep2, ite_self, *] at heq))
    | (simp only [↓State.sxDown_keep, ↓State.dramStop_keep, ↓State.setGrp_keep, ↓State.unkeep_keep, ↓State.loseDom_keep, ↓State.setDmn_keep, ↓keep_mk, ↓keep_eta])

theorem State.enumUnit_keep (s : State) : (State.enumUnit s).keep = s.keep := by
  unfold State.enumUnit
  dsimp only
  split <;> simp only [↓State.passOn_keep, ↓keep_mk, ↓keep_eta]

theorem State.unlockLine_keep (s : State) (k : ℕ) (l : ℕ) : (State.unlockLine s k l).keep = s.keep := by
  unfold State.unlockLine
  dsimp only
  split <;> simp only [↓State.passLine_keep, ↓State.setLine_keep]

theorem State.execMicro_keep (s : State) (k : ℕ) (c : Ctx) (m : Micro) : (State.execMicro s k c m).keep = s.keep := by
  unfold State.execMicro
  repeat' first
    | (simp only [↓State.setThr_keep, ↓State.pmcCluster_keep, ↓State.unlockLine_keep, ↓State.setClu_keep, ↓State.countIssue_keep, ↓State.deliver_keep, ↓State.nextOrder_keep, ↓State.putThr_keep, ↓keep_mk, ↓keep_eta, *]; done)
    | (intro x; refine cutK x s ?_ ?_; rotate_left; (clear_value x; intro hx); rotate_left; simp only [x])
    | (intro x; refine cutK x.2 s ?_ ?_; rotate_left; (clear_value x; intro hx); rotate_left; simp only [x])
    | (intro x; clear_value x)
    | lift_lets
    | (refine ite_keep _ _ _ _ ?_ ?_)
    | (split <;> try (rename_i heq; replace heq := pairK heq; simp only [↓State.setThr_keep, ↓State.pmcCluster_keep, ↓State.unlockLine_keep, ↓State.setClu_keep, ↓State.countIssue_keep, ↓State.deliver_keep, ↓State.nextOrder_keep, ↓State.putThr_keep, ↓keep_mk, ↓keep_eta, ite_keep2, ite_self, *] at heq))
    | (simp only [↓State.setThr_keep, ↓State.pmcCluster_keep, ↓State.unlockLine_keep, ↓State.setClu_keep, ↓State.countIssue_keep, ↓State.deliver_keep, ↓State.nextOrder_keep, ↓State.putThr_keep, ↓keep_mk, ↓keep_eta])

theorem State.expAnswer_keep (s : State) (n : ℕ) (k : ℕ) : (State.expAnswer s n k).keep = s.keep := by
  unfold State.expAnswer
  simp only [↓State.setBus_keep]

theorem State.expFail_keep (s : State) (n : ℕ) (k : ℕ) : (State.expFail s n k).keep = s.keep := by
  unfold State.expFail
  dsimp only
  split <;> simp only [↓State.setBus_keep, ↓State.raise_keep]

theorem State.expWrite_keep (s : State) (n : ℕ) (e : BusEnd) : (State.expWrite s n e).keep = s.keep := by
  unfold State.expWrite
  dsimp only
  repeat' split
  all_goals simp only [↓State.expPut_keep, ↓State.setBus_keep, ↓State.cageWritten_keep, ↓State.expFail_keep, ↓State.busFail_keep]

theorem State.fanDone_keep (n : Nat) (s : State) : (State.fanDone n s).keep = s.keep := by
  induction n generalizing s with
  | zero => rfl
  | succ n ih =>
    unfold State.fanDone
    split
    · rfl
    · split
      · dsimp only
        split
        · exact (ih _).trans (State.complete_keep ..)
        · exact ih _
      · rfl
theorem State.finish_keep (c : TCmd) (r : CmdRes) (ok : Bool) : (State.finish c r ok).keep = r.st.keep := by
  unfold State.finish
  dsimp only
  repeat' split
  all_goals simp only [↓State.complete_keep, ↓State.cmdOut_keep, ↓keep_mk, ↓keep_eta]

theorem State.flushRun_keep (s : State) (c : TCmd) : (State.flushRun s c).st.keep = s.keep := by
  unfold State.flushRun
  try dsimp only
  repeat' first
    | (simp only [↓failWith_keep, ↓State.staRemove_keep, ↓keep_mk, ↓keep_eta]; done)
    | (refine (foldl_keep _ ?_ _ _).trans ?_)
    | (refine (foldl_keep2 _ ?_ _ _).trans ?_)
    | (intro _ _; try dsimp only)
    | (refine ite_keep _ _ _ _ ?_ ?_)
    | split
    | (simp only [↓failWith_keep, ↓State.staRemove_keep, ↓keep_mk, ↓keep_eta])

theorem State.flushSome_keep (s : State) (qs : List Nat) (reason n : Nat) : (s.flushSome qs reason n).keep = s.keep := by
  induction n generalizing s with
  | zero => rfl
  | succ n ih =>
    unfold State.flushSome
    split
    · rw [ih, State.discardHead_keep]
    · rfl
theorem State.stalePkt_keep (s : State) (k : ℕ) : (State.stalePkt s k).keep = s.keep := by
  unfold State.stalePkt
  dsimp only
  repeat' split
  all_goals simp only [↓State.bump_keep, ↓State.dropLate_keep, ↓State.setGrp_keep, ↓State.samplePrimary_keep, ↓State.dropLock_keep, ↓State.setThr_keep, ↓State.endPkt_keep, ↓keep_mk, ↓keep_eta]

theorem State.staleDesc_keep (s : State) (d : ℕ) : (State.staleDesc s d).keep = s.keep := by
  unfold State.staleDesc
  dsimp only
  repeat' split
  all_goals simp only [↓State.bump_keep, ↓State.dropDesc_keep, ↓State.queueEmptied_keep, ↓State.moveUsed_keep, ↓State.setQueue_keep, ↓keep_mk, ↓keep_eta]

theorem State.flushStale_keep (s : State) (n : ℕ) : (State.flushStale s n).keep = s.keep := by
  unfold State.flushStale
  try dsimp only
  repeat' first
    | (simp only [↓State.stalePkt_keep, ↓State.staleDesc_keep, ↓keep_mk, ↓keep_eta]; done)
    | (refine (foldl_keep _ ?_ _ _).trans ?_)
    | (refine (foldl_keep2 _ ?_ _ _).trans ?_)
    | (intro _ _; try dsimp only)
    | (refine ite_keep _ _ _ _ ?_ ?_)
    | split
    | (simp only [↓State.stalePkt_keep, ↓State.staleDesc_keep, ↓keep_mk, ↓keep_eta])

theorem State.flushUnit_keep (s : State) (u : FlushUnit) (n : ℕ) : (State.flushUnit s u n).keep = s.keep := by
  unfold State.flushUnit
  try dsimp only
  repeat' first
    | (simp only [↓State.flushSome_keep, ↓keep_mk, ↓keep_eta]; done)
    | (refine ite_keep _ _ _ _ ?_ ?_)
    | split
    | (simp only [↓State.flushSome_keep, ↓keep_mk, ↓keep_eta])

theorem State.formed_keep (f : State → TCmd → State) (s : State) (c : TCmd) (hf : ∀ s c, (f s c).keep = s.keep) :
    (State.formed f s c).keep = s.keep := by
  unfold State.formed
  split
  · exact State.complete_keep ..
  · exact hf ..
theorem State.grant_keep (s : State) (c : ℕ) (l : ℕ) : (State.grant s c l).keep = s.keep := by
  unfold State.grant
  dsimp only
  split <;> simp only [↓State.setLine_keep, ↓State.putThr_keep]

theorem State.histFail_keep (s : State) (idx : ℕ) : (State.histFail s idx).keep = s.keep := by
  unfold State.histFail
  split <;> simp only [↓State.orRg_keep, ↓State.bump_keep, ↓State.raise_keep, ↓keep_mk, ↓keep_eta]

theorem State.hitSet_keep (s : State) (key : ℕ) : (State.hitSet s key).keep = s.keep := by
  unfold State.hitSet
  try dsimp only
  repeat' first
    | (simp only [↓State.onReplicas_keep, ↓keep_mk, ↓keep_eta]; done)
    | (refine ite_keep _ _ _ _ ?_ ?_)
    | split
    | (simp only [↓State.onReplicas_keep, ↓keep_mk, ↓keep_eta])

theorem State.hostPickRun_keep (s : State) (h : ℕ) : (State.hostPickRun s h).keep = s.keep := by
  unfold State.hostPickRun
  dsimp only
  repeat' split
  all_goals simp only [↓State.pmcQueue_keep, ↓State.popQueue_keep, ↓keep_mk, ↓keep_eta]

theorem State.hostWordOut_keep (s : State) (h : ℕ) (v : Word) : (State.hostWordOut s h v).keep = s.keep := by
  unfold State.hostWordOut
  try dsimp only
  repeat' first
    | (simp only [↓State.cplPut_keep, ↓keep_mk, ↓keep_eta]; done)
    | (refine ite_keep _ _ _ _ ?_ ?_)
    | split
    | (simp only [↓State.cplPut_keep, ↓keep_mk, ↓keep_eta])

theorem State.identCmd_keep (s : State) : (State.identCmd s).keep = s.keep := by
  unfold State.identCmd
  try dsimp only
  repeat' first
    | (simp only [↓State.answer_keep, ↓keep_mk, ↓keep_eta]; done)
    | (refine ite_keep _ _ _ _ ?_ ?_)
    | split
    | (simp only [↓State.answer_keep, ↓keep_mk, ↓keep_eta])

theorem State.imageCmd_keep (s : State) : (State.imageCmd s).keep = s.keep := by
  unfold State.imageCmd
  dsimp only
  repeat' split
  all_goals simp only [↓State.answer_keep, ↓keep_mk, ↓keep_eta]

theorem State.imageSec_keep (s : State) (mask : Word) (sec : ℕ) (len : ℕ) (a : ℕ) : (State.imageSec s mask sec len a).keep = s.keep := by
  unfold State.imageSec
  try dsimp only
  repeat' first
    | (simp only [↓State.dramLay_keep, ↓keep_mk, ↓keep_eta]; done)
    | (refine (foldl_keep _ ?_ _ _).trans ?_)
    | (refine (foldl_keep2 _ ?_ _ _).trans ?_)
    | (intro _ _; try dsimp only)
    | (refine ite_keep _ _ _ _ ?_ ?_)
    | split
    | (simp only [↓State.dramLay_keep, ↓keep_mk, ↓keep_eta])

theorem State.imageCopy_keep (s : State) (mask : Word) : (s.imageCopy mask).keep = s.keep := by
  have h : ∀ (l : List (Nat × Nat)) (p : State × Nat),
      (l.foldl (fun (st : State × Nat) p => (st.1.imageSec mask p.1 p.2 st.2, st.2 + 4096 * p.2)) p).1.keep = p.1.keep := by
    intro l
    induction l with
    | nil => exact fun _ => rfl
    | cons a l ih => exact fun p => (ih _).trans (State.imageSec_keep ..)
  unfold State.imageCopy
  split
  · rfl
  · exact h _ _
theorem State.imageDone_keep (s : State) : (State.imageDone s).keep = s.keep := by
  unfold State.imageDone
  split <;> simp only [↓State.ownPop_keep, ↓State.reply_keep, ↓State.imageCopy_keep, ↓keep_mk, ↓keep_eta]

theorem State.imgFill_keep (s : State) : (State.imgFill s).keep = s.keep := by
  unfold State.imgFill
  simp only [↓State.imgFinish_keep, ↓State.setImg_keep, ↓keep_mk, ↓keep_eta]

theorem State.injAdmit_keep (s : State) (x : InjDesc) (f : List Byte) (choice : ℕ) : (State.injAdmit s x f choice).keep = s.keep := by
  unfold State.injAdmit
  dsimp only
  split <;> simp only [↓State.setPkt_keep, ↓State.book_keep, ↓State.dropAt_keep, ↓State.admitSingle_keep, ↓keep_mk, ↓keep_eta]

theorem State.injFinish_keep (s : State) (h : ℕ) (t : ℕ) (status : ℕ) : (State.injFinish s h t status).keep = s.keep := by
  unfold State.injFinish
  simp only [↓State.toHost_keep, ↓State.setRing_keep]

theorem State.injRefuse_keep (s : State) (h : ℕ) (t : ℕ) (status : ℕ) (reason : ℕ) (x : InjDesc) : (State.injRefuse s h t status reason x).keep = s.keep := by
  unfold State.injRefuse
  simp only [↓State.injFinish_keep, ↓State.drop_keep, ↓State.book_keep]

theorem State.injDirect_keep (s : State) (h : ℕ) (t : ℕ) (choice : ℕ) : (State.injDirect s h t choice).keep = s.keep := by
  unfold State.injDirect
  try dsimp only
  repeat' first
    | (simp only [↓State.injRefuse_keep, ↓State.injFinish_keep, ↓State.injAdmit_keep, ↓keep_mk, ↓keep_eta]; done)
    | (refine ite_keep _ _ _ _ ?_ ?_)
    | split
    | (simp only [↓State.injRefuse_keep, ↓State.injFinish_keep, ↓State.injAdmit_keep, ↓keep_mk, ↓keep_eta])

theorem State.injLate_keep (s : State) (lp : ℕ) (bytes : List Byte) (slots : BitVec 6) : (State.injLate s lp bytes slots).keep = s.keep := by
  unfold State.injLate
  split <;> simp only [↓State.drop_keep, ↓State.book_keep, ↓State.accept_keep, ↓State.endPkt_keep]

theorem State.injPipe_keep (s : State) (h : ℕ) (t : ℕ) (slots : BitVec 6) (macWaiting : Bool) (late : Bool) : (State.injPipe s h t slots macWaiting late).keep = s.keep := by
  unfold State.injPipe
  try dsimp only
  repeat' first
    | (simp only [↓State.injRefuse_keep, ↓State.injFinish_keep, ↓State.injLate_keep, ↓State.deal_keep, ↓keep_mk, ↓keep_eta]; done)
    | (refine ite_keep _ _ _ _ ?_ ?_)
    | split
    | (simp only [↓State.injRefuse_keep, ↓State.injFinish_keep, ↓State.injLate_keep, ↓State.deal_keep, ↓keep_mk, ↓keep_eta])

theorem State.injRead_keep (s : State) (h : ℕ) (t : ℕ) (data : Option (List Byte)) : (State.injRead s h t data).keep = s.keep := by
  unfold State.injRead
  dsimp only
  split <;> simp only [↓State.setRing_keep, ↓State.readHost_keep]

theorem State.intSweep_keep (s : State) : (State.intSweep s).keep = s.keep := by
  unfold State.intSweep
  simp only [↓keep_mk, ↓keep_eta]

theorem State.overrun_keep (s : State) (k : ℕ) : (State.overrun s k).keep = s.keep := by
  unfold State.overrun
  dsimp only
  repeat' split
  all_goals simp only [↓State.dropLock_keep, ↓State.pmcCluster_keep, ↓State.bump_keep, ↓State.setThr_keep, ↓State.deliver_keep]

theorem State.tryIssue_keep (s : State) (k : ℕ) (c : Ctx) (m : Micro) : (State.tryIssue s k c m).keep = s.keep := by
  unfold State.tryIssue
  dsimp only
  repeat' split
  all_goals simp only [↓State.askLock_keep, ↓State.putThr_keep, ↓State.execMicro_keep]

theorem State.issue_keep (s : State) (k : ℕ) (upset : BitVec 144) : (State.issue s k upset).keep = s.keep := by
  unfold State.issue
  dsimp only
  repeat' split
  all_goals simp only [↓State.overrun_keep, ↓State.machineCheck_keep, ↓State.tryIssue_keep]

theorem State.lateGroup_keep (s : State) (n : ℕ) : (State.lateGroup s n).keep = s.keep := by
  unfold State.lateGroup
  try dsimp only
  repeat' first
    | (simp only [↓State.setGrp_keep, ↓State.raise_keep, ↓keep_mk, ↓keep_eta]; done)
    | (refine (foldl_keep _ ?_ _ _).trans ?_)
    | (refine (foldl_keep2 _ ?_ _ _).trans ?_)
    | (intro _ _; try dsimp only)
    | (refine ite_keep _ _ _ _ ?_ ?_)
    | split
    | (simp only [↓State.setGrp_keep, ↓State.raise_keep, ↓keep_mk, ↓keep_eta])

theorem State.learnFail_keep (s : State) (x : Notice) : (State.learnFail s x).keep = s.keep := by
  unfold State.learnFail
  try dsimp only
  repeat' first
    | (simp only [↓State.lrnMove_keep, ↓State.bump_keep, ↓State.setGrp_keep, ↓keep_mk, ↓keep_eta]; done)
    | (refine ite_keep _ _ _ _ ?_ ?_)
    | split
    | (simp only [↓State.lrnMove_keep, ↓State.bump_keep, ↓State.setGrp_keep, ↓keep_mk, ↓keep_eta])

theorem State.learnNew_keep (s : State) (x : Notice) (life : ℕ) : (State.learnNew s x life).keep = s.keep := by
  unfold State.learnNew
  try dsimp only
  repeat' first
    | (simp only [↓State.learnFail_keep, ↓State.lrnMove_keep, ↓State.hitSet_keep, ↓State.staPut_keep, ↓State.setTag_keep, ↓keep_mk, ↓keep_eta]; done)
    | (refine ite_keep _ _ _ _ ?_ ?_)
    | split
    | (simp only [↓State.learnFail_keep, ↓State.lrnMove_keep, ↓State.hitSet_keep, ↓State.staPut_keep, ↓State.setTag_keep, ↓keep_mk, ↓keep_eta])

theorem State.tryUp_keep (s : State) (lp : ℕ) : (State.tryUp s lp).keep = s.keep := by
  unfold State.tryUp
  dsimp only
  repeat' split
  all_goals simp only [↓State.setLink_keep]

theorem State.linkConds_keep (s : State) (lp : ℕ) (am : Bool) (lf : Bool) (rf : Bool) (hs : Bool) : (State.linkConds s lp am lf rf hs).keep = s.keep := by
  unfold State.linkConds
  dsimp only
  split <;> simp only [↓State.setPort_keep, ↓State.setLink_keep, ↓State.tryUp_keep]

theorem State.loadReturn_keep (s : State) (k : ℕ) (ecc : Bool) : (State.loadReturn s k ecc).keep = s.keep := by
  unfold State.loadReturn
  dsimp only
  repeat' split
  all_goals simp only [↓State.setThr_keep, ↓State.readFails_keep, ↓State.putThr_keep]

theorem State.loop_keep (s : State) (n : ℕ) : (State.loop s n).keep = s.keep := by
  unfold State.loop
  dsimp only
  repeat' split
  all_goals simp only [↓State.setChan_keep, ↓State.goIns_keep]

theorem State.markBuf_keep (s : State) (q : ℕ) (idx : ℕ) : (State.markBuf s q idx).keep = s.keep := by
  unfold State.markBuf
  dsimp only
  split <;> simp only [↓State.setBuf_keep]

theorem State.markHold_keep (s : State) (n : ℕ) (idx : ℕ) : (State.markHold s n idx).keep = s.keep := by
  unfold State.markHold
  try dsimp only
  repeat' first
    | (simp only [↓State.setPkt_keep, ↓keep_mk, ↓keep_eta]; done)
    | (refine ite_keep _ _ _ _ ?_ ?_)
    | split
    | (simp only [↓State.setPkt_keep, ↓keep_mk, ↓keep_eta])

theorem State.measureAge_keep (s : State) (m : ℕ) (drift : BitVec 16) : (State.measureAge s m drift).keep = s.keep := by
  unfold State.measureAge
  dsimp only
  repeat' split
  all_goals simp only [↓State.raise_keep, ↓keep_mk, ↓keep_eta]

theorem State.meetEntry_keep (s : State) (x : Notice) (key : ℕ) : (State.meetEntry s x key).keep = s.keep := by
  unfold State.meetEntry
  dsimp only
  split <;> simp only [↓State.staPut_keep, ↓State.lrnDrop_keep, ↓State.setTag_keep, ↓State.lrnMove_keep, ↓keep_mk, ↓keep_eta]

theorem State.migTo_keep (s : State) (c : ℕ) (ptr : ℕ) : (State.migTo s c ptr).keep = s.keep := by
  unfold State.migTo
  try dsimp only
  repeat' first
    | (simp only [↓State.setRg_keep, ↓State.setDramSt_keep, ↓State.setDch_keep, ↓keep_mk, ↓keep_eta]; done)
    | (refine ite_keep _ _ _ _ ?_ ?_)
    | split
    | (simp only [↓State.setRg_keep, ↓State.setDramSt_keep, ↓State.setDch_keep, ↓keep_mk, ↓keep_eta])

theorem State.migChunk_keep (s : State) (c : ℕ) (eccs : List EccResult) : (State.migChunk s c eccs).keep = s.keep := by
  unfold State.migChunk
  repeat' first
    | (simp only [↓State.dlogs_keep, ↓State.dlogAcc_keep, ↓State.copyChunk_keep, ↓State.eccOutcome_keep, ↓State.migTo_keep, ↓keep_mk, ↓keep_eta, *]; done)
    | (intro x; refine cutK x s ?_ ?_; rotate_left; (clear_value x; intro hx); rotate_left; simp only [x])
    | (intro x; refine cutK x.2 s ?_ ?_; rotate_left; (clear_value x; intro hx); rotate_left; simp only [x])
    | (intro x; clear_value x)
    | (refine (foldl_keep _ (fun s _ => ?_) _ _).trans ?_)
    | (refine (foldl_keep2 _ (fun s _ => ?_) _ _).trans ?_)
    | lift_lets
    | (refine ite_keep _ _ _ _ ?_ ?_)
    | (split <;> try (rename_i heq; replace heq := pairK heq; simp only [↓State.dlogs_keep, ↓State.dlogAcc_keep, ↓State.copyChunk_keep, ↓State.eccOutcome_keep, ↓State.migTo_keep, ↓keep_mk, ↓keep_eta, ite_keep2, ite_self, *] at heq))
    | (simp only [↓State.dlogs_keep, ↓State.dlogAcc_keep, ↓State.copyChunk_keep, ↓State.eccOutcome_keep, ↓State.migTo_keep, ↓keep_mk, ↓keep_eta])

theorem State.moveRead_keep (s : State) (n : ℕ) (a : MoveArgs) : (State.moveRead s n a).keep = s.keep := by
  unfold State.moveRead
  try dsimp only
  repeat' first
    | (simp only [↓State.setChan_keep, ↓State.reach_keep, ↓State.dramRead1_keep, ↓keep_mk, ↓keep_eta]; done)
    | (refine (foldl_keep _ ?_ _ _).trans ?_)
    | (refine (foldl_keep2 _ ?_ _ _).trans ?_)
    | (intro _ _; try dsimp only)
    | (refine ite_keep _ _ _ _ ?_ ?_)
    | split
    | (simp only [↓State.setChan_keep, ↓State.reach_keep, ↓State.dramRead1_keep, ↓keep_mk, ↓keep_eta])

theorem State.move_keep (s : State) (n : Nat) (data : List Byte) (ok : Bool) : (s.move n data ok).keep = s.keep := by
  unfold State.move
  dsimp only
  split
  · split
    · exact (Moving.done_keep ..).trans ((State.copy_keep ..).trans (State.setChan_keep ..))
    · rfl
  · split
    · exact State.moveRead_keep ..
    · split
      · exact (State.insDone_keep ..).trans (State.setChan_keep ..)
      · split
        · rw [Moving.done_keep, State.copy_keep, State.readHost48_keep, State.setChan_keep]
        · exact (Moving.done_keep ..).trans ((State.copy_keep ..).trans (State.setChan_keep ..))
theorem State.nextBurst_keep (s : State) : (State.nextBurst s).keep = s.keep := by
  unfold State.nextBurst
  split <;> simp only [↓State.chainSend_keep, ↓keep_mk, ↓keep_eta]

theorem State.noteIdle_keep (s : State) (c : ℕ) : (State.noteIdle s c).keep = s.keep := by
  unfold State.noteIdle
  dsimp only
  split <;> simp only [↓State.setDch_keep]

theorem State.paleBack_keep (s : State) (k : ℕ) : (State.paleBack s k).keep = s.keep := by
  unfold State.paleBack
  try dsimp only
  repeat' first
    | (simp only [↓State.refuseStep_keep, ↓State.enterShade_keep, ↓State.quadStep_keep, ↓State.setDmn_keep, ↓keep_mk, ↓keep_eta]; done)
    | (refine ite_keep _ _ _ _ ?_ ?_)
    | split
    | (simp only [↓State.refuseStep_keep, ↓State.enterShade_keep, ↓State.quadStep_keep, ↓State.setDmn_keep, ↓keep_mk, ↓keep_eta])

theorem State.patrol_keep (s : State) (c : ℕ) (ecc : EccResult) : (State.patrol s c ecc).keep = s.keep := by
  unfold State.patrol
  repeat' first
    | (simp only [↓State.setDch_keep, ↓State.dlogAcc_keep, ↓State.dlogs_keep, ↓State.eccOutcome_keep, ↓keep_mk, ↓keep_eta, *]; done)
    | (intro x; refine cutK x s ?_ ?_; rotate_left; (clear_value x; intro hx); rotate_left; simp only [x])
    | (intro x; refine cutK x.2 s ?_ ?_; rotate_left; (clear_value x; intro hx); rotate_left; simp only [x])
    | (intro x; clear_value x)
    | lift_lets
    | (refine ite_keep _ _ _ _ ?_ ?_)
    | (split <;> try (rename_i heq; replace heq := pairK heq; simp only [↓State.setDch_keep, ↓State.dlogAcc_keep, ↓State.dlogs_keep, ↓State.eccOutcome_keep, ↓keep_mk, ↓keep_eta, ite_keep2, ite_self, *] at heq))
    | (simp only [↓State.setDch_keep, ↓State.dlogAcc_keep, ↓State.dlogs_keep, ↓State.eccOutcome_keep, ↓keep_mk, ↓keep_eta])

theorem State.peekAll_keep (s : State) (a : ℕ) (n : ℕ) : (State.peekAll s a n).2.keep = s.keep := by
  unfold State.peekAll
  try dsimp only
  repeat' first
    | (simp only [↓State.chainPeek_keep, ↓keep_mk, ↓keep_eta]; done)
    | (refine (foldl_keep _ ?_ _ _).trans ?_)
    | (refine (foldl_keep2 _ ?_ _ _).trans ?_)
    | (intro _ _; try dsimp only)
    | (refine ite_keep _ _ _ _ ?_ ?_)
    | split
    | (simp only [↓State.chainPeek_keep, ↓keep_mk, ↓keep_eta])

theorem State.peekAnswer_keep (s : State) (a : ℕ) (n : ℕ) : (State.peekAnswer s a n).keep = s.keep := by
  unfold State.peekAnswer
  try dsimp only
  repeat' first
    | (simp only [↓State.peekAll_keep, ↓State.answer_keep, ↓keep_mk, ↓keep_eta]; done)
    | (refine ite_keep _ _ _ _ ?_ ?_)
    | split
    | (simp only [↓State.peekAll_keep, ↓State.answer_keep, ↓keep_mk, ↓keep_eta])

theorem State.peekCmd_keep (s : State) : (State.peekCmd s).keep = s.keep := by
  unfold State.peekCmd
  dsimp only
  repeat' split
  all_goals simp only [↓State.answer_keep, ↓State.peekAnswer_keep]

theorem State.pendStep_keep (s : State) (i n : Nat) : (s.pendStep i n).keep = s.keep := by
  induction n generalizing s with
  | zero => rfl
  | succ n ih =>
    unfold State.pendStep
    split
    · rfl
    · rw [ih, State.enqueue_keep, keep_mk, keep_eta]
theorem State.turn_keep (s : State) (lp lvl q : Nat) (t : State) (h : s.turn lp lvl = some (q, t)) : t.keep = s.keep := by
  unfold State.turn at h
  dsimp only at h
  split at h
  · cases h; rfl
  · obtain ⟨x, -, hx⟩ := Option.map_eq_some_iff.mp h
    have := congrArg (fun p => p.2.keep) hx
    dsimp only at this
    rw [← this, State.setDeficit_keep, keep_mk, keep_eta, State.setGrant_keep]
theorem State.serve_keep (lp lvl n : Nat) (s : State) (q : Nat) (t : State) (h : State.serve lp lvl n s = some (q, t)) :
    t.keep = s.keep := by
  induction n generalizing s with
  | zero => cases h
  | succ n ih =>
    unfold State.serve at h
    split at h
    · cases h
    · next e =>
      dsimp only at h
      have he := State.turn_keep _ _ _ _ _ e
      split at h
      · split at h
        · cases h
          exact ((State.setGrant_keep ..).trans (State.setDeficit_keep ..)).trans he
        · cases h
          exact (State.setDeficit_keep ..).trans he
      · exact (ih _ h).trans ((State.setGrant_keep ..).trans he)
theorem State.shpDebit_keep (s : State) (i : ℕ) (bytes : ℕ) : (State.shpDebit s i bytes).keep = s.keep := by
  unfold State.shpDebit
  simp only [↓State.setShp_keep]

theorem State.takeGrants_keep (s : State) (lp : ℕ) : (State.takeGrants s lp).keep = s.keep := by
  unfold State.takeGrants
  try dsimp only
  repeat' first
    | (simp only [↓State.setGrant_keep, ↓keep_mk, ↓keep_eta]; done)
    | (refine (foldl_keep _ ?_ _ _).trans ?_)
    | (refine (foldl_keep2 _ ?_ _ _).trans ?_)
    | (intro _ _; try dsimp only)
    | (refine ite_keep _ _ _ _ ?_ ?_)
    | split
    | (simp only [↓State.setGrant_keep, ↓keep_mk, ↓keep_eta])

theorem State.pick_keep (s : State) (lp : Nat) : (s.pick lp).keep = s.keep := by
  unfold State.pick
  split
  · rfl
  · split
    · rfl
    · next e =>
      have he := (State.serve_keep _ _ _ _ _ _ e).trans (State.takeGrants_keep _ _)
      split
      · exact he
      · dsimp only
        simp only [keep_mk, keep_eta, State.pmcQueue_keep, State.shpDebit_keep, State.popQueue_keep, he]
theorem State.pipeWrite_keep (s : State) (pipe : ℕ) : (State.pipeWrite s pipe).keep = s.keep := by
  unfold State.pipeWrite
  dsimp only
  repeat' split
  all_goals simp only [↓State.ascTake_keep, ↓State.setStale_keep, ↓State.cuTidy_keep, ↓State.fanDone_keep, ↓keep_mk, ↓keep_eta]

theorem State.pllLost_keep (s : State) (k : ℕ) : (State.pllLost s k).keep = s.keep := by
  unfold State.pllLost
  try dsimp only
  repeat' first
    | (simp only [↓State.raise_keep, ↓keep_mk, ↓keep_eta]; done)
    | (refine ite_keep _ _ _ _ ?_ ?_)
    | split
    | (simp only [↓State.raise_keep, ↓keep_mk, ↓keep_eta])

theorem State.polDebit_keep (s : State) (l : List (ℕ × ℕ)) (len : ℕ) : (State.polDebit s l len).keep = s.keep := by
  unfold State.polDebit
  try dsimp only
  repeat' first
    | (simp only [↓State.setPol_keep, ↓keep_mk, ↓keep_eta]; done)
    | (refine (foldl_keep _ ?_ _ _).trans ?_)
    | (refine (foldl_keep2 _ ?_ _ _).trans ?_)
    | (intro _ _; try dsimp only)
    | (refine ite_keep _ _ _ _ ?_ ?_)
    | split
    | (simp only [↓State.setPol_keep, ↓keep_mk, ↓keep_eta])

theorem State.polLoad_keep (s : State) (n : ℕ) (ops : ℕ) : (State.polLoad s n ops).keep = s.keep := by
  unfold State.polLoad
  try dsimp only
  repeat' first
    | (simp only [↓State.setGrp_keep, ↓keep_mk, ↓keep_eta]; done)
    | (refine ite_keep _ _ _ _ ?_ ?_)
    | split
    | (simp only [↓State.setGrp_keep, ↓keep_mk, ↓keep_eta])

theorem State.policed_keep (s : State) (k : ℕ) : (State.policed s k).2.keep = s.keep := by
  unfold State.policed
  dsimp only
  repeat' split
  all_goals simp only [↓State.bump_keep, ↓State.wake_keep, ↓State.dropAt_keep, ↓State.polLoad_keep, ↓State.setPol_keep, ↓State.polDebit_keep]

theorem State.police_keep (s : State) (n : ℕ) (holdEcc : Bool) (choice : ℕ) : (State.police s n holdEcc choice).keep = s.keep := by
  unfold State.police
  repeat' first
    | (simp only [↓State.policed_keep, ↓State.setGrp_keep, ↓State.admitFrame_keep, ↓keep_mk, ↓keep_eta, *]; done)
    | (intro x; refine cutK x s ?_ ?_; rotate_left; (clear_value x; intro hx); rotate_left; simp only [x])
    | (intro x; refine cutK x.2 s ?_ ?_; rotate_left; (clear_value x; intro hx); rotate_left; simp only [x])
    | (intro x; clear_value x)
    | lift_lets
    | (refine ite_keep _ _ _ _ ?_ ?_)
    | (split <;> try (rename_i heq; replace heq := pairK heq; simp only [↓State.policed_keep, ↓State.setGrp_keep, ↓State.admitFrame_keep, ↓keep_mk, ↓keep_eta, ite_keep2, ite_self, *] at heq))
    | (simp only [↓State.policed_keep, ↓State.setGrp_keep, ↓State.admitFrame_keep, ↓keep_mk, ↓keep_eta])

theorem State.pollExp_keep (s : State) (n : ℕ) (k : ℕ) (input : ExpRead) : (State.pollExp s n k input).keep = s.keep := by
  unfold State.pollExp
  split <;> simp only [↓State.emit_keep, ↓State.expFail_keep, ↓State.busFail_keep, ↓State.expAnswer_keep, ↓State.cageInput_keep]

theorem State.poll_keep (s : State) (n : ℕ) (inputs : List ExpRead) : (State.poll s n inputs).keep = s.keep := by
  unfold State.poll
  try dsimp only
  repeat' first
    | (simp only [↓State.setBus_keep, ↓State.pollExp_keep, ↓keep_mk, ↓keep_eta]; done)
    | (refine (foldl_keep _ ?_ _ _).trans ?_)
    | (refine (foldl_keep2 _ ?_ _ _).trans ?_)
    | (intro _ _; try dsimp only)
    | (refine ite_keep _ _ _ _ ?_ ?_)
    | split
    | (simp only [↓State.setBus_keep, ↓State.pollExp_keep, ↓keep_mk, ↓keep_eta])

theorem State.polled_keep (s : State) (n : ℕ) (w : List Word) (got : Option Word) : (State.polled s n w got).keep = s.keep := by
  unfold State.polled
  try dsimp only
  repeat' first
    | (simp only [↓State.insDone_keep, ↓keep_mk, ↓keep_eta]; done)
    | (refine ite_keep _ _ _ _ ?_ ?_)
    | split
    | (simp only [↓State.insDone_keep, ↓keep_mk, ↓keep_eta])

theorem State.pollIns_keep (s : State) (n : ℕ) : (State.pollIns s n).keep = s.keep := by
  unfold State.pollIns
  simp only [↓State.polled_keep, ↓State.setChan_keep]

theorem State.powerOn_keep (s : State) (straps : Straps) (senseFault : Bool) : (State.powerOn s straps senseFault).keep = s.keep := by
  unfold State.powerOn
  split <;> simp only [↓State.raise_keep, ↓keep_mk, ↓keep_eta]

theorem State.ppsAccept_keep (s : State) : (State.ppsAccept s).keep = s.keep := by
  unfold State.ppsAccept
  dsimp only
  repeat' split
  all_goals simp only [↓State.timeStep_keep, ↓keep_mk, ↓keep_eta]

theorem State.progDone_keep (s : State) (n : ℕ) (prog : Option (List (List Word))) : (State.progDone s n prog).keep = s.keep := by
  unfold State.progDone
  split <;> simp only [↓State.tlp_keep, ↓State.stopChan_keep, ↓State.nextIns_keep, ↓State.setChan_keep]

theorem State.puntOne_keep (s : State) (h : ℕ) (t : ℕ) (w3 : List Word) (par : Bool) (first : Bool) (last : Bool) (w : List Word) (bytes : List Byte) : (State.puntOne s h t w3 par first last w bytes).keep = s.keep := by
  unfold State.puntOne
  simp only [↓State.toHost_keep, ↓State.setRing_keep]

theorem State.puntAll_keep (h t : Nat) (w3 : List Word) (par first : Bool) (l : List (List Word × List Byte)) (s : State) :
    (State.puntAll h t w3 par first l s).keep = s.keep := by
  induction l generalizing first s with
  | nil => rfl
  | cons x l ih => exact (ih _ _).trans (State.puntOne_keep ..)
theorem State.puntRun_keep (s : State) (h : ℕ) : (State.puntRun s h).keep = s.keep := by
  unfold State.puntRun
  dsimp only
  repeat' split
  all_goals simp only [↓State.dropDesc_keep, ↓State.bufBad_keep, ↓State.leave_keep, ↓State.puntAll_keep, ↓keep_mk, ↓keep_eta]

theorem State.railLost_keep (s : State) (l : RailLoss) (detail : Word) : (s.railLost l detail).keep = s.keep := by
  unfold State.railLost
  dsimp only
  split
  · exact State.raise_keep ..
  · exact (foldl_keep _ (fun s c => State.dramBlank_keep s c) _ _).trans (State.raise_keep ..)
  · exact State.dramBlank_keep ..
  · exact State.powerOn_keep ..
theorem State.readWords_keep (s : State) (a : ℕ) (n : ℕ) : (State.readWords s a n).2.keep = s.keep := by
  unfold State.readWords
  try dsimp only
  repeat' first
    | (simp only [↓State.accRead_keep, ↓keep_mk, ↓keep_eta]; done)
    | (refine (foldl_keep _ ?_ _ _).trans ?_)
    | (refine (foldl_keep2 _ ?_ _ _).trans ?_)
    | (intro _ _; try dsimp only)
    | (refine ite_keep _ _ _ _ ?_ ?_)
    | split
    | (simp only [↓State.accRead_keep, ↓keep_mk, ↓keep_eta])

theorem State.readCmd_keep (s : State) : (State.readCmd s).keep = s.keep := by
  unfold State.readCmd
  dsimp only
  repeat' split
  all_goals simp only [↓State.answer_keep, ↓State.peekAnswer_keep, ↓State.readWords_keep]

theorem State.readPath_keep (s : State) (p : Path) : (s.readPath p).keep = s.keep := by
  unfold State.readPath
  split
  · exact State.bar_keep _ _ _ _ fun s => (State.hostWordOut_keep ..).trans (State.bar0Read_keep ..)
  · exact (State.hostWordOut_keep ..).trans (State.tlp_keep ..)
  · split
    · exact (State.emit_keep ..).trans (State.accRead_keep ..)
    · split
      · exact (State.emit_keep ..).trans (State.hostAccess_keep ..)
      · exact (State.emit_keep ..).trans (State.hostAccess_keep ..)
      · rfl
  · exact State.bar_keep _ _ _ _ fun s => (State.hostWordOut_keep ..).trans (State.bar2Read_keep ..)
  · exact State.emit_keep ..
theorem State.readRank_keep (s : State) (c : ℕ) (r : DReq) (ecc : EccResult) : (State.readRank s c r ecc).keep = s.keep := by
  unfold State.readRank
  try dsimp only
  repeat' first
    | (simp only [↓State.dlogAcc_keep, ↓State.dramAnswer_keep, ↓State.eccOutcome_keep, ↓State.noteIdle_keep, ↓keep_mk, ↓keep_eta]; done)
    | (refine ite_keep _ _ _ _ ?_ ?_)
    | split
    | (simp only [↓State.dlogAcc_keep, ↓State.dramAnswer_keep, ↓State.eccOutcome_keep, ↓State.noteIdle_keep, ↓keep_mk, ↓keep_eta])

theorem State.readRun_keep (s : State) (c : TCmd) (ws : List Word) : (State.readRun s c ws).st.keep = s.keep := by
  unfold State.readRun
  dsimp only
  repeat' split
  all_goals simp only [↓failWith_keep]

theorem State.readStart_keep (s : State) (lp : ℕ) (delay : ℕ) (ecc : Bool) : (State.readStart s lp delay ecc).keep = s.keep := by
  unfold State.readStart
  try dsimp only
  repeat' first
    | (simp only [↓State.bufBad_keep, ↓State.setPicked_keep, ↓keep_mk, ↓keep_eta]; done)
    | (refine ite_keep _ _ _ _ ?_ ?_)
    | split
    | (simp only [↓State.bufBad_keep, ↓State.setPicked_keep, ↓keep_mk, ↓keep_eta])

theorem State.readoutCmd_keep (s : State) : (State.readoutCmd s).keep = s.keep := by
  unfold State.readoutCmd
  dsimp only
  repeat' split
  all_goals simp only [↓State.answer_keep, ↓State.chainPop_keep, ↓keep_mk, ↓keep_eta]

theorem State.receive_keep (s : State) (lp : ℕ) (bytes : List Byte) (aligned : Bool) (sof : ℕ) (slots : BitVec 6) : (State.receive s lp bytes aligned sof slots).keep = s.keep := by
  unfold State.receive
  split <;> simp only [↓State.bump_keep, ↓State.deal_keep, ↓State.addLine_keep, ↓State.addCtr_keep]

theorem State.reexec_keep (s : State) (c : ℕ) (e : ℕ) (t : ℕ) (i : ℕ) (x : Sample) : (State.reexec s c e t i x).keep = s.keep := by
  unfold State.reexec
  try dsimp only
  repeat' first
    | (simp only [↓State.nextOrder_keep, ↓State.setThr_keep, ↓keep_mk, ↓keep_eta]; done)
    | (refine ite_keep _ _ _ _ ?_ ?_)
    | split
    | (simp only [↓State.nextOrder_keep, ↓State.setThr_keep, ↓keep_mk, ↓keep_eta])

theorem State.recheckStart_keep (s : State) (c : ℕ) (i : ℕ) (x : Sample) : (State.recheckStart s c i x).keep = s.keep := by
  unfold State.recheckStart
  try dsimp only
  repeat' first
    | (simp only [↓State.reexec_keep, ↓State.setSample_keep, ↓keep_mk, ↓keep_eta]; done)
    | (refine ite_keep _ _ _ _ ?_ ?_)
    | split
    | (simp only [↓State.reexec_keep, ↓State.setSample_keep, ↓keep_mk, ↓keep_eta])

theorem State.recheckDigest_keep (s : State) (c : ℕ) (i : ℕ) (x : Sample) (p2 : Word) (s2 : Word) : (State.recheckDigest s c i x p2 s2).keep = s.keep := by
  unfold State.recheckDigest
  dsimp only
  repeat' split
  all_goals simp only [↓State.setSample_keep, ↓State.sentEntry_keep, ↓State.raise_keep, ↓State.retire_keep, ↓State.checkerFault_keep]

theorem State.recheck_keep (s : State) (c : ℕ) (i : ℕ) (x : Sample) : (State.recheck s c i x).keep = s.keep := by
  unfold State.recheck
  try dsimp only
  repeat' first
    | (simp only [↓State.recheckStart_keep, ↓State.bump_keep, ↓State.endReruns_keep, ↓State.setSample_keep, ↓State.recheckDigest_keep, ↓keep_mk, ↓keep_eta]; done)
    | (refine ite_keep _ _ _ _ ?_ ?_)
    | split
    | (simp only [↓State.recheckStart_keep, ↓State.bump_keep, ↓State.endReruns_keep, ↓State.setSample_keep, ↓State.recheckDigest_keep, ↓keep_mk, ↓keep_eta])

theorem State.refreshRank_keep (s : State) (c : ℕ) (r : ℕ) (postpone : Bool) : (State.refreshRank s c r postpone).keep = s.keep := by
  unfold State.refreshRank
  try dsimp only
  repeat' first
    | (simp only [↓State.setDch_keep, ↓State.dlogs_keep, ↓keep_mk, ↓keep_eta]; done)
    | (refine ite_keep _ _ _ _ ?_ ?_)
    | split
    | (simp only [↓State.setDch_keep, ↓State.dlogs_keep, ↓keep_mk, ↓keep_eta])

theorem State.release26_keep (s : State) (lp : ℕ) : (State.release26 s lp).keep = s.keep := by
  unfold State.release26
  dsimp only
  repeat' split
  all_goals simp only [↓State.setPort_keep, ↓State.setGrp_keep, ↓keep_mk, ↓keep_eta]

theorem State.reloadGroup_keep (s : State) (n : ℕ) : (State.reloadGroup s n).keep = s.keep := by
  unfold State.reloadGroup
  simp only [↓keep_mk, ↓keep_eta]

theorem State.resetQueueState_keep (s : State) (n idx : Nat) : (s.resetQueueState n idx).keep = s.keep := by
  unfold State.resetQueueState
  split
  · extract_lets q d
    have hd : ∀ (st : State) (l : Nat), (d st l).keep = st.keep := by
      intro st l
      simp only [d]
      split
      · exact State.setGrant_keep ..
      · rfl
    exact (foldl_keep d hd _ _).trans (State.setDeficit_keep ..)
  · split
    · rfl
    · split <;> rfl
theorem State.riseNext_keep (s : State) : (State.riseNext s).keep = s.keep := by
  unfold State.riseNext
  try dsimp only
  repeat' first
    | (simp only [↓State.stepBegin_keep, ↓keep_mk, ↓keep_eta]; done)
    | (refine (foldl_keep _ ?_ _ _).trans ?_)
    | (refine (foldl_keep2 _ ?_ _ _).trans ?_)
    | (intro _ _; try dsimp only)
    | (refine ite_keep _ _ _ _ ?_ ?_)
    | split
    | (simp only [↓State.stepBegin_keep, ↓keep_mk, ↓keep_eta])

theorem State.sramBad_keep (s : State) (m : Sram) (idx : ℕ) : (State.sramBad s m idx).keep = s.keep := by
  unfold State.sramBad
  dsimp only
  repeat' split
  all_goals simp only [↓State.raise_keep, ↓State.markBuf_keep, ↓State.markHold_keep, ↓State.setClu_keep, ↓State.resetQueueState_keep, ↓State.histFail_keep, ↓keep_mk, ↓keep_eta]

theorem State.scrub_keep (s : State) (m : Sram) (idx : ℕ) (ecc : EccResult) : (State.scrub s m idx ecc).keep = s.keep := by
  unfold State.scrub
  try dsimp only
  repeat' first
    | (simp only [↓State.raise_keep, ↓State.sramBad_keep, ↓keep_mk, ↓keep_eta]; done)
    | (refine ite_keep _ _ _ _ ?_ ?_)
    | split
    | (simp only [↓State.raise_keep, ↓State.sramBad_keep, ↓keep_mk, ↓keep_eta])

theorem State.search_keep (s : State) (n : ℕ) : (State.search s n).keep = s.keep := by
  unfold State.search
  dsimp only
  repeat' split
  all_goals simp only [↓State.setGrp_keep, ↓State.setPkt_keep, ↓State.lookHit_keep, ↓State.afterLookups_keep]

theorem State.searchRun_keep (s : State) (c : TCmd) (ws : List Word) : (State.searchRun s c ws).st.keep = s.keep := by
  unfold State.searchRun
  dsimp only
  repeat' split
  all_goals simp only [↓failWith_keep]

theorem State.segPut_keep (s : State) (n : ℕ) (k : ℕ) : (State.segPut s n k).keep = s.keep := by
  unfold State.segPut
  try dsimp only
  repeat' first
    | (simp only [↓State.emit_keep, ↓keep_mk, ↓keep_eta]; done)
    | (refine ite_keep _ _ _ _ ?_ ?_)
    | split
    | (simp only [↓State.emit_keep, ↓keep_mk, ↓keep_eta])

theorem State.xferPut_keep (s : State) (n : ℕ) (off : ℕ) (data : List Byte) : (State.xferPut s n off data).keep = s.keep := by
  unfold State.xferPut
  try dsimp only
  repeat' first
    | (simp only [↓State.setRg_keep, ↓keep_mk, ↓keep_eta]; done)
    | (refine (foldl_keep _ ?_ _ _).trans ?_)
    | (refine (foldl_keep2 _ ?_ _ _).trans ?_)
    | (intro _ _; try dsimp only)
    | (refine ite_keep _ _ _ _ ?_ ?_)
    | split
    | (simp only [↓State.setRg_keep, ↓keep_mk, ↓keep_eta])

theorem State.segment_keep (s : State) (n : ℕ) (e : BusEnd) (data : List Byte) : (State.segment s n e data).keep = s.keep := by
  unfold State.segment
  dsimp only
  repeat' split
  all_goals simp only [↓State.segPut_keep, ↓State.busFail_keep, ↓State.setBus_keep, ↓State.xferPut_keep]

theorem State.serveNotice_keep (s : State) (x : Notice) : (State.serveNotice s x).keep = s.keep := by
  unfold State.serveNotice
  dsimp only
  repeat' split
  all_goals simp only [↓State.meetEntry_keep, ↓State.learnNew_keep]

theorem State.serveRead_keep (s : State) (c : ℕ) (pick : ℕ) (r : DReq) (ecc : EccResult) : (State.serveRead s c pick r ecc).keep = s.keep := by
  unfold State.serveRead
  dsimp only
  split <;> simp only [↓State.setDch_keep, ↓State.noteIdle_keep, ↓State.dramAnswer_keep, ↓State.readRank_keep]

theorem State.serveWrite_keep (s : State) (c : ℕ) (pick : ℕ) (r : DReq) : (State.serveWrite s c pick r).keep = s.keep := by
  unfold State.serveWrite
  simp only [↓State.noteIdle_keep, ↓State.issueWrite_keep, ↓State.setDch_keep]

theorem State.setSubsys_keep (s : State) (h : ℕ) (v : Word) : (State.setSubsys s h v).keep = s.keep := by
  unfold State.setSubsys
  try dsimp only
  repeat' first
    | (simp only [↓State.setHst_keep, ↓keep_mk, ↓keep_eta]; done)
    | (refine ite_keep _ _ _ _ ?_ ?_)
    | split
    | (simp only [↓State.setHst_keep, ↓keep_mk, ↓keep_eta])

theorem State.settleDone_keep (s : State) : (State.settleDone s).keep = s.keep := by
  unfold State.settleDone
  try dsimp only
  repeat' first
    | (simp only [↓State.cuTidy_keep, ↓State.complete_keep, ↓keep_mk, ↓keep_eta]; done)
    | (refine (foldl_keep _ ?_ _ _).trans ?_)
    | (refine (foldl_keep2 _ ?_ _ _).trans ?_)
    | (intro _ _; try dsimp only)
    | (refine ite_keep _ _ _ _ ?_ ?_)
    | split
    | (simp only [↓State.cuTidy_keep, ↓State.complete_keep, ↓keep_mk, ↓keep_eta])

theorem State.settleEnd_keep (s : State) (c : ℕ) : (State.settleEnd s c).keep = s.keep := by
  unfold State.settleEnd
  dsimp only
  split <;> simp only [↓State.setCage_keep, ↓State.cageTo_keep, ↓State.queueWrite_keep]

theorem State.settleWait_keep (s : State) (c : TCmd) : (State.settleWait s c).keep = s.keep := by
  unfold State.settleWait
  split <;> simp only [↓State.complete_keep, ↓keep_mk, ↓keep_eta]

theorem State.stepEnd_keep (s : State) (k : ℕ) (x : Shade) : (State.stepEnd s k x).keep = s.keep := by
  unfold State.stepEnd
  repeat' first
    | (simp only [↓State.enterShade_keep, ↓State.quadStep_keep, ↓State.setDmn_keep, ↓State.becomeActive_keep, ↓State.riseNext_keep, ↓State.stepBegin_keep, ↓keep_mk, ↓keep_eta, *]; done)
    | (intro x; refine cutK x s ?_ ?_; rotate_left; (clear_value x; intro hx); rotate_left; simp only [x])
    | (intro x; refine cutK x.2 s ?_ ?_; rotate_left; (clear_value x; intro hx); rotate_left; simp only [x])
    | (intro x; clear_value x)
    | lift_lets
    | (refine ite_keep _ _ _ _ ?_ ?_)
    | (split <;> try (rename_i heq; replace heq := pairK heq; simp only [↓State.enterShade_keep, ↓State.quadStep_keep, ↓State.setDmn_keep, ↓State.becomeActive_keep, ↓State.riseNext_keep, ↓State.stepBegin_keep, ↓keep_mk, ↓keep_eta, ite_keep2, ite_self, *] at heq))
    | (simp only [↓State.enterShade_keep, ↓State.quadStep_keep, ↓State.setDmn_keep, ↓State.becomeActive_keep, ↓State.riseNext_keep, ↓State.stepBegin_keep, ↓keep_mk, ↓keep_eta])

theorem State.shadeStep_keep (s : State) (k : ℕ) : (State.shadeStep s k).keep = s.keep := by
  unfold State.shadeStep
  dsimp only
  repeat' split
  all_goals simp only [↓State.stepBegin_keep, ↓State.stepEnd_keep]

theorem State.signal_keep (s : State) (n : ℕ) : (State.signal s n).keep = s.keep := by
  unfold State.signal
  dsimp only
  repeat' split
  all_goals simp only [↓State.insDone_keep, ↓State.sigInt_keep, ↓State.toHost48_keep, ↓State.insWait_keep, ↓State.setChan_keep, ↓State.intWrite_keep]

theorem State.upNow_keep (s : State) (c : ℕ) (cal : Bool) : (State.upNow s c cal).keep = s.keep := by
  unfold State.upNow
  try dsimp only
  repeat' first
    | (simp only [↓State.setDch_keep, ↓keep_mk, ↓keep_eta]; done)
    | (refine ite_keep _ _ _ _ ?_ ?_)
    | split
    | (simp only [↓State.setDch_keep, ↓keep_mk, ↓keep_eta])

theorem State.srExit_keep (s : State) (c : ℕ) : (State.srExit s c).keep = s.keep := by
  unfold State.srExit
  dsimp only
  split <;> simp only [↓State.setDramSt_keep, ↓State.upNow_keep, ↓State.dlogAll_keep]

theorem State.stopClocks_keep (s : State) : (State.stopClocks s).keep = s.keep := by
  unfold State.stopClocks
  simp only [↓State.setHst_keep, ↓keep_mk, ↓keep_eta]

theorem State.sweepAsc_keep (s : State) (w : Sweep) (k : ℕ) : (State.sweepAsc s w k).2.keep = s.keep := by
  unfold State.sweepAsc
  try dsimp only
  repeat' first
    | (simp only [↓State.ascPut_keep, ↓State.setTag_keep, ↓keep_mk, ↓keep_eta]; done)
    | (refine ite_keep _ _ _ _ ?_ ?_)
    | split
    | (simp only [↓State.ascPut_keep, ↓State.setTag_keep, ↓keep_mk, ↓keep_eta])

theorem State.sweepCp_keep (s : State) (w : Sweep) (table : ℕ) (idx : ℕ) : (State.sweepCp s w table idx).2.keep = s.keep := by
  unfold State.sweepCp
  simp only [↓State.setDirty_keep, ↓State.cpPut_keep]

theorem State.sweepEnd_keep (s : State) (w : Sweep) : (State.sweepEnd s w).keep = s.keep := by
  unfold State.sweepEnd
  try dsimp only
  repeat' first
    | (simp only [↓State.settleDone_keep, ↓State.abortEnd_keep, ↓keep_mk, ↓keep_eta]; done)
    | (refine ite_keep _ _ _ _ ?_ ?_)
    | split
    | (simp only [↓State.settleDone_keep, ↓State.abortEnd_keep, ↓keep_mk, ↓keep_eta])

theorem State.sweepNbr_keep (s : State) (w : Sweep) (k : ℕ) : (State.sweepNbr s w k).2.keep = s.keep := by
  unfold State.sweepNbr
  dsimp only
  split <;> simp only [↓State.nbrPut_keep, ↓State.setTag_keep]

theorem State.sweepNode_keep (s : State) (w : Sweep) (i : ℕ) : (State.sweepNode s w i).2.keep = s.keep := by
  unfold State.sweepNode
  split <;> simp only [↓State.setTag_keep, ↓State.setNode_keep, ↓State.treePut_keep]

theorem State.sweepRep_keep (s : State) (w : Sweep) (k : ℕ) : (State.sweepRep s w k).2.keep = s.keep := by
  unfold State.sweepRep
  dsimp only
  repeat' split
  all_goals simp only [↓State.repPut_keep, ↓State.setTag_keep]

theorem State.sweepSta_keep (s : State) (w : Sweep) (k : ℕ) : (State.sweepSta s w k).2.keep = s.keep := by
  unfold State.sweepSta
  dsimp only
  split <;> simp only [↓State.hitSet_keep, ↓State.staPut_keep, ↓State.setTag_keep, ↓State.staRemove_keep]

theorem visitAll_keep (f : State → Nat → Bool × State) (h : ∀ s k, (f s k).2.keep = s.keep) (l : List Nat) (s : State) :
    (visitAll f l s).2.keep = s.keep := by
  induction l generalizing s with
  | nil => rfl
  | cons k l ih => exact (ih _).trans (h _ _)
theorem State.sweepTable_keep (s : State) (w : Sweep) (table pos n : Nat) :
    (s.sweepTable w table pos n).2.2.keep = s.keep := by
  unfold State.sweepTable
  dsimp only
  split
  · exact visitAll_keep _ (fun s k => State.sweepSta_keep s w k) _ _
  · exact visitAll_keep _ (fun s k => State.sweepNbr_keep s w k) _ _
  · exact visitAll_keep _ (fun s k => State.sweepRep_keep s w k) _ _
  · exact visitAll_keep _ (fun s k => State.sweepAsc_keep s w k) _ _
  · exact visitAll_keep _ (fun s k => State.sweepNode_keep s w k) _ _
  · exact visitAll_keep _ (fun s k => State.sweepCp_keep s w _ k) _ _
theorem State.sweepRun_keep (s : State) (w : Sweep) (n : ℕ) : (State.sweepRun s w n).keep = s.keep := by
  unfold State.sweepRun
  split <;> simp only [↓State.sweepEnd_keep, ↓State.sweepTable_keep, ↓keep_mk, ↓keep_eta]

theorem State.takeFlip_keep (s : State) (pipe : ℕ) : (State.takeFlip s pipe).keep = s.keep := by
  unfold State.takeFlip
  simp only [↓State.setGrp_keep]

theorem State.takeSpare_keep (s : State) (c : ℕ) : (State.takeSpare s c).keep = s.keep := by
  unfold State.takeSpare
  simp only [↓State.dropSamples_keep, ↓State.setClu_keep, ↓State.raise_keep]

theorem State.testEnd_keep (s : State) (failed : Bool) (engines : BitVec 17) (checker : Bool) : (State.testEnd s failed engines checker).keep = s.keep := by
  unfold State.testEnd
  repeat' first
    | (simp only [↓State.raise_keep, ↓State.retire_keep, ↓State.checkerFault_keep, ↓State.isoUnit_keep, ↓keep_mk, ↓keep_eta, *]; done)
    | (intro x; refine cutK x s ?_ ?_; rotate_left; (clear_value x; intro hx); rotate_left; simp only [x])
    | (intro x; refine cutK x.2 s ?_ ?_; rotate_left; (clear_value x; intro hx); rotate_left; simp only [x])
    | (intro x; clear_value x)
    | (refine (foldl_keep _ (fun s _ => ?_) _ _).trans ?_)
    | (refine (foldl_keep2 _ (fun s _ => ?_) _ _).trans ?_)
    | lift_lets
    | (refine ite_keep _ _ _ _ ?_ ?_)
    | (split <;> try (rename_i heq; replace heq := pairK heq; simp only [↓State.raise_keep, ↓State.retire_keep, ↓State.checkerFault_keep, ↓State.isoUnit_keep, ↓keep_mk, ↓keep_eta, ite_keep2, ite_self, *] at heq))
    | (simp only [↓State.raise_keep, ↓State.retire_keep, ↓State.checkerFault_keep, ↓State.isoUnit_keep, ↓keep_mk, ↓keep_eta])

theorem State.thermal_keep (s : State) (t : ℤ) : (State.thermal s t).keep = s.keep := by
  unfold State.thermal
  dsimp only
  repeat' split
  all_goals simp only [↓State.raise_keep, ↓keep_mk, ↓keep_eta]

theorem State.tick_keep (s : State) : (State.tick s).keep = s.keep := by
  unfold State.tick
  try dsimp only
  repeat' first
    | (simp only [↓State.closeReached_keep, ↓State.count_keep, ↓keep_mk, ↓keep_eta]; done)
    | (refine ite_keep _ _ _ _ ?_ ?_)
    | split
    | (simp only [↓State.closeReached_keep, ↓State.count_keep, ↓keep_mk, ↓keep_eta])

theorem State.toSweep_keep (s : State) : (State.toSweep s).keep = s.keep := by
  unfold State.toSweep
  simp only [↓State.dropOldSamples_keep, ↓State.sweepEnd_keep, ↓keep_mk, ↓keep_eta]

theorem State.trainLog_keep (s : State) (c : ℕ) : (State.trainLog s c).keep = s.keep := by
  unfold State.trainLog
  try dsimp only
  repeat' first
    | (simp only [↓State.setDch_keep, ↓keep_mk, ↓keep_eta]; done)
    | (refine ite_keep _ _ _ _ ?_ ?_)
    | split
    | (simp only [↓State.setDch_keep, ↓keep_mk, ↓keep_eta])

theorem State.trainEnd_keep (s : State) (c : ℕ) (ok : Bool) : (State.trainEnd s c ok).keep = s.keep := by
  unfold State.trainEnd
  dsimp only
  repeat' split
  all_goals simp only [↓State.trainLog_keep, ↓State.setDch_keep, ↓State.setDramSt_keep, ↓State.upNow_keep, ↓State.raise_keep, ↓keep_mk, ↓keep_eta]

theorem State.treeReturn_keep (s : State) (k : ℕ) (ecc : Bool) : (State.treeReturn s k ecc).keep = s.keep := by
  unfold State.treeReturn
  dsimp only
  repeat' split
  all_goals simp only [↓State.setThr_keep, ↓State.readFails_keep, ↓State.putThr_keep]

theorem State.waitEnd_keep (s : State) (n : ℕ) : (State.waitEnd s n).keep = s.keep := by
  unfold State.waitEnd
  split <;> simp only [↓State.insDone_keep]

theorem State.waitIns_keep (s : State) (n : ℕ) : (State.waitIns s n).keep = s.keep := by
  unfold State.waitIns
  dsimp only
  split <;> simp only [↓State.insDone_keep, ↓State.setChan_keep]

theorem State.wbRun_keep (s : State) (h : ℕ) (t : ℕ) : (State.wbRun s h t).keep = s.keep := by
  unfold State.wbRun
  simp only [↓State.setRing_keep, ↓State.emit_keep, ↓State.tlp_keep]

theorem State.widthRun_keep (s : State) (c : TCmd) : (State.widthRun s c).st.keep = s.keep := by
  unfold State.widthRun
  dsimp only
  repeat' split
  all_goals simp only [↓failWith_keep, ↓State.ascLaunch_keep, ↓keep_mk, ↓keep_eta]

theorem State.writeCmd_keep (s : State) : (State.writeCmd s).keep = s.keep := by
  unfold State.writeCmd
  try dsimp only
  repeat' first
    | (simp only [↓State.answer_keep, ↓State.chainStore_keep, ↓State.accWrite_keep, ↓keep_mk, ↓keep_eta]; done)
    | (refine (foldl_keep _ ?_ _ _).trans ?_)
    | (refine (foldl_keep2 _ ?_ _ _).trans ?_)
    | (intro _ _; try dsimp only)
    | (refine ite_keep _ _ _ _ ?_ ?_)
    | split
    | (simp only [↓State.answer_keep, ↓State.chainStore_keep, ↓State.accWrite_keep, ↓keep_mk, ↓keep_eta])

theorem State.writePath_keep (s : State) (p : Path) (v : Word) : (s.writePath p v).keep = s.keep := by
  unfold State.writePath
  split
  · exact State.bar_keep _ _ _ _ fun s => State.bar0Write_keep ..
  · exact (State.cfgWrite_keep ..).trans (State.tlp_keep ..)
  · split
    · exact State.accWrite_keep ..
    · split
      · exact State.hostAccess_keep ..
      · exact State.hostAccess_keep ..
      · rfl
  · refine State.bar_keep _ _ _ _ fun s => ?_
    split
    · rfl
    · exact State.hostAccess_keep ..
  · exact State.setSubsys_keep ..

/-- A meaning whose effect keeps the three keeps them. -/
theorem act_keep (c : Bool) (f : State → State) (s t : State) (h : (f s).keep = s.keep) (e : act c f s = .next t) :
    t.keep = s.keep := by
  injection e with e
  rw [← e]
  split
  · exact (State.intSweep_keep _).trans h
  · rfl

end Sys2Proof.Machine
end

