-- ==== Sys2Proof/WellFormed.lean ====
section
/-! DEFINITION. What a command's operands must be beyond their types, and the check that a command which
breaks a rule fails. The meanings ask for none of this: they are total on every operand. -/

namespace Sys2Proof

/-- Why a command is not well formed. -/
inductive Complaint where
  /-- R379: device time is 64 bits. -/
  | time
  /-- R47: the MAC's longest frame is below 65,536 bytes. -/
  | frame
  /-- R60, R63: a poll reads four expanders. -/
  | expanders
  /-- R63: a segment is at most 16 bytes. -/
  | segment
  /-- R269: a link has 1, 2, 4 or 8 lanes, at one of five speeds. -/
  | link
  /-- R274: a request of a host lies in the BAR and has at most 4,096 bytes. -/
  | span
  /-- R295: the doorbell record is 64 words. -/
  | doorbell
  /-- R329: a DRAM queue has 64 places. -/
  | queue
  /-- R387: a frame of the chain has a header of three words, as many of data as its LEN of 16 bits says, and a
  CRC word; one cut short has fewer. -/
  | chain
  deriving DecidableEq, Repr

/-- The first rule that a command's operands break. -/
def Instr.complaint : Instr → Option Complaint
  | .receiveFrame _ f _ sof _ =>
    if sof < 2 ^ 64 then (if f.length < 2 ^ 16 then none else some .frame) else some .time
  | .cagePoll _ inputs =>
    if inputs.length = 4 then none else some .expanders
  | .transferSegment _ _ data =>
    if data.length ≤ 16 then none else some .segment
  | .linkUp h width speed =>
    if (if h = 0 then [1, 2, 4, 8] else [1, 2, 4]).contains width && 1 ≤ speed && speed ≤ 5 then none else some .link
  | .bar4Access _ off len write =>
    if off + len ≤ 2 ^ 32 && 1 ≤ len && len ≤ 4096 && (write.map List.length).getD len = len then none else some .span
  | .doorbellFetchComplete _ words =>
    if (words.getD (List.replicate 64 0)).length = 64 then none else some .doorbell
  | .dramRead _ pick _ =>
    if pick < 64 then none else some .queue
  | .dramWrite _ pick =>
    if pick < 64 then none else some .queue
  | .chainFrame words =>
    if 1 ≤ words.length && words.length ≤ 65539 then none else some .chain
  | .overflowSearch .. | .dispatch .. | .microwordIssue .. | .treeReadReturn .. | .scratchLoadReturn ..
  | .counterAddReturn .. | .storeBufferDrain .. | .lockGrant .. | .backgroundStart .. | .resequence ..
  | .police .. | .replicaEnqueue .. | .schedulerPick .. | .egressReadStart .. | .transmitEnd ..
  | .hostQueuePick .. | .puntWrite .. | .portDownFlush .. | .ageCheck .. | .portCfgWrite ..
  | .subPortEnable .. | .subPortDisable .. | .trainingComplete .. | .upHoldExpiry .. | .linkFault ..
  | .downHoldExpiry .. | .subPortAutoResume .. | .expanderInit .. | .expanderOutputWrite ..
  | .moduleTransfer .. | .stretchTimeout .. | .pwrSettleExpiry .. | .releaseTimeout .. | .powerOn ..
  | .highPower .. | .lowPower .. | .release .. | .resetPulse .. | .cancel .. | .ascCopyWrite ..
  | .ascCompare .. | .ascRepair .. | .learnInsert | .ageingVisit | .read .. | .writeIndex .. | .insert ..
  | .delete .. | .search .. | .treeWrite .. | .treeRetire | .setRoot | .beginStage | .waitingBeginStage
  | .commit | .pipeFlip .. | .commitComplete | .flipTimeout | .drainComplete | .drainTimeout
  | .epochFlush .. | .settleSweep .. | .abortStage | .forceAbort .. | .abortSweep .. | .bulkStage ..
  | .flushLearned | .settleWait | .ageNow | .setWidth | .tblCmdGo .. | .clusterReset ..
  | .clusterResetComplete .. | .slotInvalidate .. | .activeSlot .. | .admitWrite .. | .slotTableSwitch ..
  | .imageLoadStart .. | .imageLoadAbort .. | .imageData .. | .imageFillComplete | .digestCompare ..
  | .digestRecheck .. | .spareTaken .. | .knownAnswerSelfTest .. | .rearm .. | .sentinelRotation ..
  | .rotationComplete .. | .retireWrite .. | .chipCommit .. | .intervalClose | .ledgerCheck
  | .histogramPeriodEnd | .digestBatchEmit | .bandwidthWindowEnd | .peakClearPort .. | .peakClearAll ..
  | .counterGroupClear .. | .imbalancePop .. | .mcLogPop .. | .historyPop .. | .counterReadClear ..
  | .lowWordLatch .. | .registerWrite .. | .misalignedAccess .. | .unsupportedRequest ..
  | .vectorUnmask .. | .l0sEntry .. | .l1Entry .. | .linkDown .. | .hotReset .. | .functionLevelReset ..
  | .perstAssert .. | .busMasterDisable .. | .leave .. | .present .. | .paleReturn .. | .rngNudge ..
  | .doorbellPoll .. | .descriptorFetch .. | .descriptorFetchComplete .. | .writeBack .. | .ringEnable ..
  | .ringDisable .. | .injectPipelineEntry .. | .injectDirectEntry .. | .injectDataRead .. | .dmaGo ..
  | .dmaAbort .. | .programFetch .. | .move .. | .loop .. | .wait .. | .waitPoll .. | .waitExpiry ..
  | .signal .. | .fence .. | .nop .. | .dmaEnd .. | .writeAcknowledge .. | .train .. | .trainingDone ..
  | .refresh .. | .temperatureRead .. | .zqCalibration .. | .dqsOscillatorCheck .. | .dramRequest ..
  | .writeDrain .. | .selfRefreshEntry .. | .selfRefreshExit .. | .patrolScrub .. | .migrationChunk ..
  | .offline .. | .dramResume .. | .migrate .. | .faultWindowEnd | .historyLost .. | .sramScrub ..
  | .controlStoreScrub .. | .ageingMeasure .. | .onlineTestStart .. | .onlineTestEnd ..
  | .quadrantOffline .. | .shadeRequest .. | .shadeStep .. | .domainReset .. | .reloadStart ..
  | .reloadComplete .. | .ppsEdge | .ppsFault | .timeSetSec .. | .powerOnReset .. | .chipReset ..
  | .fwdEn .. | .pllLock .. | .rail .. | .thermalEvent .. | .enum | .ident | .peek | .chainRead
  | .chainWrite | .freeze | .chainReset | .readout | .readoutBurst | .image | .imageCopyDone | .blow
  | .fuseBlown | .assert .. | .freezeNLow | .clockStop | .halt .. | .forceHalt .. | .resume .. | .step ..
  | .abortPkt .. | .haltMaxExpiry .. | .alignmentMarkerLock .. | .serdesCal .. | .bridgeLane ..
  | .coalescingTimeExpiry .. | .freezeNHigh | .bufferWriteEnd .. => none

/-- A command is well formed: its operands break no rule. -/
def Instr.wf (i : Instr) : Bool := i.complaint.isNone

end Sys2Proof
end

