-- ==== Sys2Proof/Laws/PerInstr.lean ====
section
/-! SUPPORT. What holds of every command as syntax, command by command. -/

namespace Sys2Proof.Laws.WellFormed

open Sys2Proof

/-- A command is refused by the check exactly where the check has a complaint to name. -/
def Statement (i : Instr) : Prop := i.wf = false ↔ ∃ c, i.complaint = some c

theorem of_any (i : Instr) : Statement i := by
  unfold Statement Instr.wf
  cases i.complaint <;> simp

theorem receiveFrame x0 x1 x2 x3 x4 : Statement (.receiveFrame x0 x1 x2 x3 x4) := of_any _
theorem overflowSearch x0 : Statement (.overflowSearch x0) := of_any _
theorem dispatch x0 : Statement (.dispatch x0) := of_any _
theorem microwordIssue x0 x1 x2 x3 x4 : Statement (.microwordIssue x0 x1 x2 x3 x4) := of_any _
theorem treeReadReturn x0 x1 x2 x3 : Statement (.treeReadReturn x0 x1 x2 x3) := of_any _
theorem scratchLoadReturn x0 x1 x2 x3 : Statement (.scratchLoadReturn x0 x1 x2 x3) := of_any _
theorem counterAddReturn x0 x1 x2 : Statement (.counterAddReturn x0 x1 x2) := of_any _
theorem storeBufferDrain x0 x1 x2 x3 : Statement (.storeBufferDrain x0 x1 x2 x3) := of_any _
theorem lockGrant x0 x1 : Statement (.lockGrant x0 x1) := of_any _
theorem backgroundStart x0 x1 x2 : Statement (.backgroundStart x0 x1 x2) := of_any _
theorem resequence x0 : Statement (.resequence x0) := of_any _
theorem police x0 x1 x2 : Statement (.police x0 x1 x2) := of_any _
theorem replicaEnqueue x0 x1 : Statement (.replicaEnqueue x0 x1) := of_any _
theorem schedulerPick x0 : Statement (.schedulerPick x0) := of_any _
theorem egressReadStart x0 x1 x2 : Statement (.egressReadStart x0 x1 x2) := of_any _
theorem transmitEnd x0 : Statement (.transmitEnd x0) := of_any _
theorem hostQueuePick x0 : Statement (.hostQueuePick x0) := of_any _
theorem puntWrite x0 : Statement (.puntWrite x0) := of_any _
theorem portDownFlush x0 x1 : Statement (.portDownFlush x0 x1) := of_any _
theorem ageCheck x0 x1 : Statement (.ageCheck x0 x1) := of_any _
theorem portCfgWrite x0 x1 x2 x3 : Statement (.portCfgWrite x0 x1 x2 x3) := of_any _
theorem subPortEnable x0 x1 x2 : Statement (.subPortEnable x0 x1 x2) := of_any _
theorem subPortDisable x0 x1 x2 : Statement (.subPortDisable x0 x1 x2) := of_any _
theorem trainingComplete x0 : Statement (.trainingComplete x0) := of_any _
theorem upHoldExpiry x0 : Statement (.upHoldExpiry x0) := of_any _
theorem linkFault x0 x1 x2 x3 x4 : Statement (.linkFault x0 x1 x2 x3 x4) := of_any _
theorem downHoldExpiry x0 : Statement (.downHoldExpiry x0) := of_any _
theorem subPortAutoResume x0 : Statement (.subPortAutoResume x0) := of_any _
theorem expanderInit x0 x1 x2 : Statement (.expanderInit x0 x1 x2) := of_any _
theorem cagePoll x0 x1 : Statement (.cagePoll x0 x1) := of_any _
theorem expanderOutputWrite x0 x1 : Statement (.expanderOutputWrite x0 x1) := of_any _
theorem moduleTransfer x0 x1 x2 : Statement (.moduleTransfer x0 x1 x2) := of_any _
theorem transferSegment x0 x1 x2 : Statement (.transferSegment x0 x1 x2) := of_any _
theorem stretchTimeout x0 x1 : Statement (.stretchTimeout x0 x1) := of_any _
theorem pwrSettleExpiry x0 : Statement (.pwrSettleExpiry x0) := of_any _
theorem releaseTimeout x0 : Statement (.releaseTimeout x0) := of_any _
theorem powerOn x0 x1 : Statement (.powerOn x0 x1) := of_any _
theorem highPower x0 x1 : Statement (.highPower x0 x1) := of_any _
theorem lowPower x0 x1 : Statement (.lowPower x0 x1) := of_any _
theorem release x0 x1 : Statement (.release x0 x1) := of_any _
theorem resetPulse x0 x1 : Statement (.resetPulse x0 x1) := of_any _
theorem cancel x0 x1 : Statement (.cancel x0 x1) := of_any _
theorem ascCopyWrite x0 : Statement (.ascCopyWrite x0) := of_any _
theorem ascCompare x0 x1 : Statement (.ascCompare x0 x1) := of_any _
theorem ascRepair x0 : Statement (.ascRepair x0) := of_any _
theorem learnInsert : Statement (.learnInsert) := of_any _
theorem ageingVisit : Statement (.ageingVisit) := of_any _
theorem read x0 x1 : Statement (.read x0 x1) := of_any _
theorem writeIndex x0 : Statement (.writeIndex x0) := of_any _
theorem insert x0 : Statement (.insert x0) := of_any _
theorem delete x0 : Statement (.delete x0) := of_any _
theorem search x0 x1 : Statement (.search x0 x1) := of_any _
theorem treeWrite x0 : Statement (.treeWrite x0) := of_any _
theorem treeRetire : Statement (.treeRetire) := of_any _
theorem setRoot : Statement (.setRoot) := of_any _
theorem beginStage : Statement (.beginStage) := of_any _
theorem waitingBeginStage : Statement (.waitingBeginStage) := of_any _
theorem commit : Statement (.commit) := of_any _
theorem pipeFlip x0 : Statement (.pipeFlip x0) := of_any _
theorem commitComplete : Statement (.commitComplete) := of_any _
theorem flipTimeout : Statement (.flipTimeout) := of_any _
theorem drainComplete : Statement (.drainComplete) := of_any _
theorem drainTimeout : Statement (.drainTimeout) := of_any _
theorem epochFlush x0 : Statement (.epochFlush x0) := of_any _
theorem settleSweep x0 : Statement (.settleSweep x0) := of_any _
theorem abortStage : Statement (.abortStage) := of_any _
theorem forceAbort x0 x1 : Statement (.forceAbort x0 x1) := of_any _
theorem abortSweep x0 : Statement (.abortSweep x0) := of_any _
theorem bulkStage x0 : Statement (.bulkStage x0) := of_any _
theorem flushLearned : Statement (.flushLearned) := of_any _
theorem settleWait : Statement (.settleWait) := of_any _
theorem ageNow : Statement (.ageNow) := of_any _
theorem setWidth : Statement (.setWidth) := of_any _
theorem tblCmdGo x0 x1 x2 : Statement (.tblCmdGo x0 x1 x2) := of_any _
theorem clusterReset x0 x1 x2 : Statement (.clusterReset x0 x1 x2) := of_any _
theorem clusterResetComplete x0 : Statement (.clusterResetComplete x0) := of_any _
theorem slotInvalidate x0 x1 x2 : Statement (.slotInvalidate x0 x1 x2) := of_any _
theorem activeSlot x0 x1 x2 : Statement (.activeSlot x0 x1 x2) := of_any _
theorem admitWrite x0 x1 x2 : Statement (.admitWrite x0 x1 x2) := of_any _
theorem slotTableSwitch x0 : Statement (.slotTableSwitch x0) := of_any _
theorem imageLoadStart x0 x1 : Statement (.imageLoadStart x0 x1) := of_any _
theorem imageLoadAbort x0 x1 : Statement (.imageLoadAbort x0 x1) := of_any _
theorem imageData x0 x1 : Statement (.imageData x0 x1) := of_any _
theorem imageFillComplete : Statement (.imageFillComplete) := of_any _
theorem digestCompare x0 x1 : Statement (.digestCompare x0 x1) := of_any _
theorem digestRecheck x0 x1 : Statement (.digestRecheck x0 x1) := of_any _
theorem spareTaken x0 : Statement (.spareTaken x0) := of_any _
theorem knownAnswerSelfTest x0 x1 : Statement (.knownAnswerSelfTest x0 x1) := of_any _
theorem rearm x0 x1 x2 x3 : Statement (.rearm x0 x1 x2 x3) := of_any _
theorem sentinelRotation x0 : Statement (.sentinelRotation x0) := of_any _
theorem rotationComplete x0 : Statement (.rotationComplete x0) := of_any _
theorem retireWrite x0 x1 x2 : Statement (.retireWrite x0 x1 x2) := of_any _
theorem chipCommit x0 x1 : Statement (.chipCommit x0 x1) := of_any _
theorem intervalClose : Statement (.intervalClose) := of_any _
theorem ledgerCheck : Statement (.ledgerCheck) := of_any _
theorem histogramPeriodEnd : Statement (.histogramPeriodEnd) := of_any _
theorem digestBatchEmit : Statement (.digestBatchEmit) := of_any _
theorem bandwidthWindowEnd : Statement (.bandwidthWindowEnd) := of_any _
theorem peakClearPort x0 x1 : Statement (.peakClearPort x0 x1) := of_any _
theorem peakClearAll x0 x1 : Statement (.peakClearAll x0 x1) := of_any _
theorem counterGroupClear x0 x1 x2 : Statement (.counterGroupClear x0 x1 x2) := of_any _
theorem imbalancePop x0 : Statement (.imbalancePop x0) := of_any _
theorem mcLogPop x0 x1 : Statement (.mcLogPop x0 x1) := of_any _
theorem historyPop x0 x1 : Statement (.historyPop x0 x1) := of_any _
theorem counterReadClear x0 : Statement (.counterReadClear x0) := of_any _
theorem lowWordLatch x0 : Statement (.lowWordLatch x0) := of_any _
theorem registerWrite x0 x1 : Statement (.registerWrite x0 x1) := of_any _
theorem misalignedAccess x0 x1 x2 : Statement (.misalignedAccess x0 x1 x2) := of_any _
theorem unsupportedRequest x0 x1 : Statement (.unsupportedRequest x0 x1) := of_any _
theorem bar4Access x0 x1 x2 x3 : Statement (.bar4Access x0 x1 x2 x3) := of_any _
theorem vectorUnmask x0 x1 : Statement (.vectorUnmask x0 x1) := of_any _
theorem l0sEntry x0 : Statement (.l0sEntry x0) := of_any _
theorem l1Entry x0 : Statement (.l1Entry x0) := of_any _
theorem linkUp x0 x1 x2 : Statement (.linkUp x0 x1 x2) := of_any _
theorem linkDown x0 : Statement (.linkDown x0) := of_any _
theorem hotReset x0 : Statement (.hotReset x0) := of_any _
theorem functionLevelReset x0 : Statement (.functionLevelReset x0) := of_any _
theorem perstAssert x0 : Statement (.perstAssert x0) := of_any _
theorem busMasterDisable x0 : Statement (.busMasterDisable x0) := of_any _
theorem leave x0 x1 x2 : Statement (.leave x0 x1 x2) := of_any _
theorem present x0 x1 x2 : Statement (.present x0 x1 x2) := of_any _
theorem paleReturn x0 : Statement (.paleReturn x0) := of_any _
theorem rngNudge x0 x1 x2 : Statement (.rngNudge x0 x1 x2) := of_any _
theorem doorbellPoll x0 : Statement (.doorbellPoll x0) := of_any _
theorem doorbellFetchComplete x0 x1 : Statement (.doorbellFetchComplete x0 x1) := of_any _
theorem descriptorFetch x0 x1 : Statement (.descriptorFetch x0 x1) := of_any _
theorem descriptorFetchComplete x0 x1 x2 : Statement (.descriptorFetchComplete x0 x1 x2) := of_any _
theorem writeBack x0 x1 : Statement (.writeBack x0 x1) := of_any _
theorem ringEnable x0 x1 x2 x3 x4 : Statement (.ringEnable x0 x1 x2 x3 x4) := of_any _
theorem ringDisable x0 x1 x2 x3 : Statement (.ringDisable x0 x1 x2 x3) := of_any _
theorem injectPipelineEntry x0 x1 x2 x3 x4 : Statement (.injectPipelineEntry x0 x1 x2 x3 x4) := of_any _
theorem injectDirectEntry x0 x1 x2 : Statement (.injectDirectEntry x0 x1 x2) := of_any _
theorem injectDataRead x0 x1 x2 : Statement (.injectDataRead x0 x1 x2) := of_any _
theorem dmaGo x0 x1 x2 : Statement (.dmaGo x0 x1 x2) := of_any _
theorem dmaAbort x0 x1 x2 : Statement (.dmaAbort x0 x1 x2) := of_any _
theorem programFetch x0 x1 : Statement (.programFetch x0 x1) := of_any _
theorem move x0 x1 x2 : Statement (.move x0 x1 x2) := of_any _
theorem loop x0 : Statement (.loop x0) := of_any _
theorem wait x0 : Statement (.wait x0) := of_any _
theorem waitPoll x0 : Statement (.waitPoll x0) := of_any _
theorem waitExpiry x0 : Statement (.waitExpiry x0) := of_any _
theorem signal x0 : Statement (.signal x0) := of_any _
theorem fence x0 : Statement (.fence x0) := of_any _
theorem nop x0 : Statement (.nop x0) := of_any _
theorem dmaEnd x0 : Statement (.dmaEnd x0) := of_any _
theorem writeAcknowledge x0 x1 x2 : Statement (.writeAcknowledge x0 x1 x2) := of_any _
theorem train x0 x1 : Statement (.train x0 x1) := of_any _
theorem trainingDone x0 x1 : Statement (.trainingDone x0 x1) := of_any _
theorem refresh x0 x1 x2 : Statement (.refresh x0 x1 x2) := of_any _
theorem temperatureRead x0 x1 : Statement (.temperatureRead x0 x1) := of_any _
theorem zqCalibration x0 x1 : Statement (.zqCalibration x0 x1) := of_any _
theorem dqsOscillatorCheck x0 x1 : Statement (.dqsOscillatorCheck x0 x1) := of_any _
theorem dramRequest x0 x1 x2 x3 : Statement (.dramRequest x0 x1 x2 x3) := of_any _
theorem dramRead x0 x1 x2 : Statement (.dramRead x0 x1 x2) := of_any _
theorem dramWrite x0 x1 : Statement (.dramWrite x0 x1) := of_any _
theorem writeDrain x0 : Statement (.writeDrain x0) := of_any _
theorem selfRefreshEntry x0 : Statement (.selfRefreshEntry x0) := of_any _
theorem selfRefreshExit x0 : Statement (.selfRefreshExit x0) := of_any _
theorem patrolScrub x0 x1 : Statement (.patrolScrub x0 x1) := of_any _
theorem migrationChunk x0 x1 : Statement (.migrationChunk x0 x1) := of_any _
theorem offline x0 x1 x2 : Statement (.offline x0 x1 x2) := of_any _
theorem dramResume x0 x1 x2 : Statement (.dramResume x0 x1 x2) := of_any _
theorem migrate x0 x1 x2 : Statement (.migrate x0 x1 x2) := of_any _
theorem faultWindowEnd : Statement (.faultWindowEnd) := of_any _
theorem historyLost x0 x1 : Statement (.historyLost x0 x1) := of_any _
theorem sramScrub x0 x1 x2 : Statement (.sramScrub x0 x1 x2) := of_any _
theorem controlStoreScrub x0 x1 x2 x3 : Statement (.controlStoreScrub x0 x1 x2 x3) := of_any _
theorem ageingMeasure x0 x1 : Statement (.ageingMeasure x0 x1) := of_any _
theorem onlineTestStart x0 x1 : Statement (.onlineTestStart x0 x1) := of_any _
theorem onlineTestEnd x0 x1 x2 : Statement (.onlineTestEnd x0 x1 x2) := of_any _
theorem quadrantOffline x0 x1 : Statement (.quadrantOffline x0 x1) := of_any _
theorem shadeRequest x0 x1 x2 : Statement (.shadeRequest x0 x1 x2) := of_any _
theorem shadeStep x0 : Statement (.shadeStep x0) := of_any _
theorem domainReset x0 x1 x2 : Statement (.domainReset x0 x1 x2) := of_any _
theorem reloadStart x0 x1 : Statement (.reloadStart x0 x1) := of_any _
theorem reloadComplete x0 : Statement (.reloadComplete x0) := of_any _
theorem ppsEdge : Statement (.ppsEdge) := of_any _
theorem ppsFault : Statement (.ppsFault) := of_any _
theorem timeSetSec x0 x1 : Statement (.timeSetSec x0 x1) := of_any _
theorem powerOnReset x0 x1 : Statement (.powerOnReset x0 x1) := of_any _
theorem chipReset x0 x1 : Statement (.chipReset x0 x1) := of_any _
theorem fwdEn x0 x1 : Statement (.fwdEn x0 x1) := of_any _
theorem pllLock x0 : Statement (.pllLock x0) := of_any _
theorem rail x0 x1 : Statement (.rail x0 x1) := of_any _
theorem thermalEvent x0 : Statement (.thermalEvent x0) := of_any _
theorem chainFrame x0 : Statement (.chainFrame x0) := of_any _
theorem enum : Statement (.enum) := of_any _
theorem ident : Statement (.ident) := of_any _
theorem peek : Statement (.peek) := of_any _
theorem chainRead : Statement (.chainRead) := of_any _
theorem chainWrite : Statement (.chainWrite) := of_any _
theorem freeze : Statement (.freeze) := of_any _
theorem chainReset : Statement (.chainReset) := of_any _
theorem readout : Statement (.readout) := of_any _
theorem readoutBurst : Statement (.readoutBurst) := of_any _
theorem image : Statement (.image) := of_any _
theorem imageCopyDone : Statement (.imageCopyDone) := of_any _
theorem blow : Statement (.blow) := of_any _
theorem fuseBlown : Statement (.fuseBlown) := of_any _
theorem assert x0 x1 : Statement (.assert x0 x1) := of_any _
theorem freezeNLow : Statement (.freezeNLow) := of_any _
theorem clockStop : Statement (.clockStop) := of_any _
theorem halt x0 x1 : Statement (.halt x0 x1) := of_any _
theorem forceHalt x0 x1 : Statement (.forceHalt x0 x1) := of_any _
theorem resume x0 x1 : Statement (.resume x0 x1) := of_any _
theorem step x0 x1 : Statement (.step x0 x1) := of_any _
theorem abortPkt x0 x1 : Statement (.abortPkt x0 x1) := of_any _
theorem haltMaxExpiry x0 x1 x2 : Statement (.haltMaxExpiry x0 x1 x2) := of_any _
theorem alignmentMarkerLock x0 : Statement (.alignmentMarkerLock x0) := of_any _
theorem serdesCal x0 x1 : Statement (.serdesCal x0 x1) := of_any _
theorem bridgeLane x0 x1 : Statement (.bridgeLane x0 x1) := of_any _
theorem coalescingTimeExpiry x0 x1 : Statement (.coalescingTimeExpiry x0 x1) := of_any _
theorem freezeNHigh : Statement (.freezeNHigh) := of_any _
theorem bufferWriteEnd x0 : Statement (.bufferWriteEnd x0) := of_any _

end Sys2Proof.Laws.WellFormed
end

