-- ==== Sys2Proof/Tests/Slice0.lean ====
section
/-! SUPPORT. The model's own tests: for every clause of every statement a state and operands that meet its
premises together, an ill-formed command for each check of well-formedness, and the spec's worked values. -/

namespace Sys2Proof.Tests

open Sys2Proof Sys2Proof.Machine

set_option Elab.async false

/-- Every power domain Active. -/
def domUp : Tab Domain := (List.range 26).map fun k => (k, { target := .active, shade := .active })

/-- A host whose link is up and whose function may master the bus. -/
def host : HostFn := { present := true, linkUp := true, width := 8, speed := 5, cfg := [(4, 0x100006)] }

/-- A device whose domains are all Active, with two hosts. -/
def up : State :=
  { State.reset with
    dom := domUp, straps := { pcieMode := true },
    hosts := [(0, host), (1, host)], time := { now := 5000000 } }

/-- Two sub-ports in a given state. -/
def mkPort (p : SubPort) : State := { up with ports := [(0, p), (255, p)] }

/-- The MACs of two sub-ports set up. -/
def lpOn (s : State) : State := [0, 255].foldl (fun s lp => s.setRg .macCtl (lp / 32) (lp % 32) 0x80000640) s

/-- A command descriptor: its opcode, table, staged bit, index, count and first argument. -/
def d0 (op table staged idx count arg0 : Nat) : List Word :=
  [BitVec.ofNat 32 (op * 2^24 + table * 2^20 + staged * 2^19 + 7), BitVec.ofNat 32 idx, 0, 0,
    BitVec.ofNat 32 count, BitVec.ofNat 32 arg0, 0, 0]

/-- A waiting command of a source. -/
def c0 (src : CmdSrc) (d : List Word) : TCmd := { src := src, handle := 5, desc := d }

namespace Links

def clr : SubPort := { st := .aligning, amLock := true, clearSince := some 0 }

theorem wit_portControl :
    (∃ (s : State) (pg : Fin 8), s.Open (domPg pg)) ∧
    (∃ (s : State) (lp : Fin 256), s.Open (domPg (lp / 32)) ∧ s.lpEn lp = false ∧ (s.port lp).st = .disabled) ∧
    (∃ (s : State) (lp : Fin 256), s.Open (domPg (lp / 32)) ∧ s.lpEn lp = true) ∧
    (∃ (s : State) (u : FlushUnit) (n : Nat),
      let head := List.find? s.flushHead (flushQueues u).1; s.live = true ∧ s.clkOk 144 = true ∧
          s.flushDue u = true ∧ (head = none ∨ n = 0)) ∧
    (∃ (s : State) (u : FlushUnit) (q : Nat) (d : Nat) (l : List Nat),
      let head := List.find? s.flushHead (flushQueues u).1; s.live = true ∧ s.clkOk 144 = true ∧
          s.flushDue u = true ∧ head = some q ∧ s.queue q = d :: l) :=
  ⟨⟨up, 0, by unfold State.Open; decide +kernel⟩,
    ⟨up, 0, by unfold State.Open; decide +kernel⟩,
    ⟨(mkPort clr).setRg .macCtl 0 0 0x8000, 0, by unfold State.Open; decide +kernel⟩,
    ⟨State.reset, .host 0, 0, by dsimp only; decide +kernel⟩,
    ⟨{ up with
        ports := [(0, { st := .up }), (255, { st := .up })],
        buf := { up.buf with
            descs := [(3, { buf := 5, len := 64, flush := true }), (4, { buf := 5, len := 64 })],
            queues := [(1, [3, 4]), (2550, [3]), (2560, [3, 4])] } }, .port 0, 1, 3, [4], by dsimp only; decide +kernel⟩⟩

theorem wit_linkStates :
    (∃ (s : State) (lp : Fin 256), s.pgOn (lp / 32) = true ∧ (s.port lp).st = .training) ∧
    (∃ (s : State) (lp : Fin 256), s.pgOn (lp / 32) = true ∧ (s.port lp).st = .aligning) ∧
    (∃ (s : State) (lp : Fin 256) (t0 : Nat), s.pgOn (lp / 32) = true ∧ (s.port lp).st = .aligning ∧
      (s.port lp).clear = true ∧ (s.port lp).clearSince = some t0 ∧ t0 + s.upHold lp ≤ s.mono ∧
        s.laneHeld lp = false) ∧
    (∃ (s : State) (lp : Fin 256) (am : Bool) (lf : Bool) (rf : Bool) (hs : Bool), s.pgOn (lp / 32) = true ∧
      (s.port lp).st = .up ∧ (am && !lf && !rf && !hs) = false) ∧
    (∃ (s : State) (lp : Fin 256), s.pgOn (lp / 32) = true ∧ (s.port lp).st = .hold ∧
      (s.port lp).holdSince + s.downHold lp ≤ s.mono) ∧
    (∃ (s : State) (lp : Fin 256), s.pgOn (lp / 32) = true ∧ (s.port lp).st = .disabled ∧ s.lpEn lp = true ∧
      ((s.port lp).bySx = true ∨ (s.port lp).byCage = true) ∧ (s.port lp).byIso = false ∧
        s.isActive (domSx (lp / 32)) = true ∧ ((s.port lp).byCage = true → (s.cageSt (lp / 4)).powered = true)) ∧
    (∃ (s : State) (lp : Fin 256), s.pgOn (lp / 32) = true ∧ (s.port lp).st = .disabled ∧ s.lpEn lp = true ∧
      (s.port lp).byCage = true ∧ (s.port lp).byIso = false ∧ s.isActive (domSx (lp / 32)) = true ∧
        (s.cageSt (lp / 4)).powered = true) :=
  ⟨⟨((mkPort { st := .training }).setRg .pgPortCfg 0 0 0x53), 0, by decide +kernel⟩,
    ⟨mkPort clr, 0, by decide +kernel⟩,
    ⟨mkPort clr, 0, 0, by decide +kernel⟩,
    ⟨lpOn (mkPort { st := .up, amLock := true}), 0, false, false, false, false, by decide +kernel⟩,
    ⟨mkPort { st := .hold, amLock := true }, 0, by decide +kernel⟩,
    ⟨(mkPort { bySx := true }).setRg .macCtl 0 0 0x8640, 0, by decide +kernel⟩,
    ⟨{ (mkPort { byCage := true }).setRg .macCtl 0 0 0x8640 with cages := [(0, { st := .lowPower })] }, 0,
      by decide +kernel⟩⟩

end Links

namespace Cages

def bsx (b : CageBus) (c : CageState) : State :=
  { up with
      buses := [(0, b), (7, b)],
      cages := [(0, {
          st := c,
          earlier := .lowPower,
          want := 5,
          settle := some 0 }), (1, {st := c, want := 6}), (56, {st := c}), (63, { st := c, earlier := .highPower, settle := some 1 })],
      time := { now := 5000000000 } }

/-- Cages of one state under a polled bus. -/
def pb (c : CageState) (x : Cage) : State :=
  { up with
      cages := [(0, { x with st := c }), (1, { x with st := c, btn := true })],
      buses := [(0, { polling := true, fails := [(0, 3)] })],
      time := { now := 5000000000 } }

/-- The premises of the clauses about a poll that an expander answers. -/
def polled (s : State) (pg : Fin 8) (l : List ExpRead) (k : Fin 4) (w : BitVec 16) : Bool :=
  s.pgOn pg && (s.bus pg).polling && decide ((s.bus pg).lastPoll + s.pollPeriod pg ≤ s.mono) &&
    l[k.val]? == some (.data w)

theorem wit_cageBus :
    (∃ (s : State) (pg : Fin 8) (v : Word), s.Open (domPg pg) ∧ bit v 24 = true ∧
      pollRefused v (s.rg .cageExpCfg pg) = false ∧ bit (s.rg .cageBusCfg pg) 24 = false) ∧
    (∃ (s : State) (pg : Fin 8), s.pgOn pg = true ∧ (s.bus pg).polling = true ∧
      (s.bus pg).lastPoll + s.pollPeriod pg ≤ s.mono ∧ s.reactions (48 + pg) .orange < 16) ∧
    (∃ (s : State) (pg : Fin 8) (k : Nat) (l : List Nat), s.pgOn pg = true ∧ (s.bus pg).polling = true ∧
      (s.bus pg).writes = k :: l ∧ (s.bus pg).retry.contains k = false) ∧
    (∃ (s : State) (pg : Fin 8) (v : Word), s.Open (domPg pg) ∧ (s.bus pg).go = false ∧ bit v 31 = true) ∧
    (∃ (s : State) (pg : Fin 8), s.pgOn pg = true ∧ (s.bus pg).go = true) ∧
    (∃ (s : State) (pg : Fin 8), s.pgOn pg = true ∧ (s.bus pg).go = true) ∧
    (∃ (s : State) (pg : Fin 8) (l : List ExpRead) (k : Fin 4) (w : BitVec 16) (j : Fin 2), polled s pg l k w = true ∧
      (s.cage (8 * pg + 2 * k + j)).st = .empty) ∧
    (∃ (s : State) (pg : Fin 8) (l : List ExpRead) (k : Fin 4) (w : BitVec 16) (j : Fin 2), polled s pg l k w = true ∧
      (s.cage (8 * pg + 2 * k + j)).st = .detect ∧ w.toNat / 256 ^ j.val % 256 % 2 = 1) ∧
    (∃ (s : State) (pg : Fin 8) (l : List ExpRead) (k : Fin 4) (w : BitVec 16) (j : Fin 2), polled s pg l k w = true ∧
      (s.cage (8 * pg + 2 * k + j)).st = .detect ∧ w.toNat / 256 ^ j.val % 256 % 2 = 0) ∧
    (∃ (s : State) (pg : Fin 8) (l : List ExpRead) (k : Fin 4) (w : BitVec 16) (j : Fin 2), polled s pg l k w = true ∧
      (s.cage (8 * pg + 2 * k + j)).st = .lowPower ∧ (s.cage (8 * pg + 2 * k + j)).prs = true ∧
      (s.cage (8 * pg + 2 * k + j)).prsSeen = false ∧ w.toNat / 256 ^ j.val % 256 % 2 = 1) ∧
    (∃ (s : State) (pg : Fin 8) (l : List ExpRead) (k : Fin 4) (w : BitVec 16) (j : Fin 2), polled s pg l k w = true ∧
      (s.cage (8 * pg + 2 * k + j)).st = .highPower ∧ w.toNat / 256 ^ j.val % 256 % 2 = 0 ∧
      w.toNat / 256 ^ j.val % 256 / 4 % 2 = 0 ∧ (s.cage (8 * pg + 2 * k + j)).btnSeen = true ∧
      (s.cage (8 * pg + 2 * k + j)).btn = false) ∧
    (∃ (s : State) (pg : Fin 8) (l : List ExpRead) (k : Fin 4) (e : BusEnd), s.pgOn pg = true ∧
      (s.bus pg).polling = true ∧ (s.bus pg).lastPoll + s.pollPeriod pg ≤ s.mono ∧ l[k.val]? = some (.failed e) ∧
      s.reactions (48 + pg) .orange < 16 ∧ e = .heldLow) ∧
    (∃ (s : State) (pg : Fin 8) (k : Nat) (l : List Nat) (e : BusEnd), s.pgOn pg = true ∧ (s.bus pg).polling = true ∧
      (s.bus pg).writes = k :: l ∧ (s.bus pg).retry.contains k = false ∧ e ≠ .ack ∧ s.reactions (48 + pg) .orange < 16) ∧
    (∃ (s : State) (pg : Fin 8) (k : Fin 4), s.pgOn pg = true ∧ (s.bus pg).polling = true ∧
      (s.bus pg).retry.contains k.val = false ∧ s.reactions (48 + pg) .orange < 16 ∧ tget (fun _ => 0) (s.bus pg).fails k = 3) :=
  ⟨⟨(up.setRg .cageExpCfg 0 0 0x04060200).setRg .cageBusCfg 0 0 0x200000, 0, 0x1200000,
    by unfold State.Open; decide +kernel⟩,
    ⟨bsx { polling := true } .safe, 0, by decide +kernel⟩,
    ⟨bsx { polling := true, writes := [0] } .lowPower, 0, 0, [], by decide +kernel⟩,
    ⟨{ up with time := { now := 5000000000 } }, 0, 0x80000000, by unfold State.Open; decide +kernel⟩,
    ⟨bsx { go := true } .highPower, 0, by decide +kernel⟩,
    ⟨bsx { go := true } .highPower, 0, by decide +kernel⟩,
    ⟨pb .empty {}, 0, [.data 0xFEFE], 0, 0xFEFE, 0, by decide +kernel⟩,
    ⟨pb .detect {}, 0, [.data 0xFFFF], 0, 0xFFFF, 0, by decide +kernel⟩,
    ⟨pb .detect {}, 0, [.data 0xFEFE], 0, 0xFEFE, 1, by decide +kernel⟩,
    ⟨pb .lowPower { prs := true }, 0, [.data 0xFFFF], 0, 0xFFFF, 0, by decide +kernel⟩,
    ⟨pb .highPower { prs := true, btnSeen := true }, 0, [.data 0xFAFA], 0, 0xFAFA, 0, by decide +kernel⟩,
    ⟨pb .safe {}, 0, [.failed .heldLow], 0, .heldLow, by decide +kernel⟩,
    ⟨bsx { polling := true, writes := [0] } .lowPower, 0, 0, [], .heldLow, by decide +kernel⟩,
    ⟨bsx { polling := true, fails := [(0, 3)] } .safe, 0, 0, by decide +kernel⟩⟩

theorem wit_cageStates :
    (∃ (s : State) (c : Fin 64), s.Open (domPg (c / 8)) ∧ s.cageSt c = .safe) ∧
    (∃ (s : State) (c : Fin 64), s.Open (domPg (c / 8)) ∧ s.cageSt c = .lowPower) ∧
    (∃ (s : State) (c : Fin 64), s.Open (domPg (c / 8)) ∧ s.cageSt c = .highPower) ∧
    (∃ (s : State) (c : Fin 64), s.Open (domPg (c / 8)) ∧
      (s.cageSt c = .lowPower ∨ s.cageSt c = .highPower ∨ s.cageSt c = .releaseReq)) ∧
    (∃ (s : State) (c : Fin 64), s.Open (domPg (c / 8)) ∧ (s.cageSt c = .lowPower ∨ s.cageSt c = .highPower)) ∧
    (∃ (s : State) (c : Fin 64), s.Open (domPg (c / 8)) ∧ s.cageSt c = .releaseReq) ∧
    (∃ (s : State) (c : Fin 64) (t0 : Nat), s.pgOn (c / 8) = true ∧ s.busLost c = false ∧
      (s.cage c).settle = some t0 ∧ t0 + s.pwrSettle c ≤ s.mono) ∧
    (∃ (s : State) (c : Fin 64), let w := s.rg .cageCtl (c / 8) (c % 8); s.pgOn (c / 8) = true ∧
      s.cageSt c = .releaseReq ∧ fld w 9 2 ≠ 0 ∧ (s.cage c).reqSince + fld w 9 2 * 1000000000 ≤ s.mono) :=
  ⟨⟨bsx { polling := true } .safe, 0, by unfold State.Open; decide +kernel⟩,
    ⟨bsx { polling := true, writes := [0] } .lowPower, 0, by unfold State.Open; decide +kernel⟩,
    ⟨bsx { go := true } .highPower, 0, by unfold State.Open; decide +kernel⟩,
    ⟨bsx { polling := true, writes := [0] } .lowPower, 0, by unfold State.Open; decide +kernel⟩,
    ⟨bsx { polling := true, writes := [0] } .lowPower, 0, by unfold State.Open; decide +kernel⟩,
    ⟨((bsx {} .releaseReq).setRg .cageCtl 0 0 0x9).setRg .cageCtl 7 7 0xA, 0, by unfold State.Open; decide +kernel⟩,
    ⟨(bsx { go := true, done := 16 } .powering).setRg .cageXferCtl 0 0 (17 <<< 7), 0, 0, by decide +kernel⟩,
    ⟨((bsx {} .releaseReq).setRg .cageCtl 0 0 0x9).setRg .cageCtl 7 7 0xA, 0, by dsimp only; decide +kernel⟩⟩

end Cages

namespace Reception

def fr0 : List Byte := withFcs ([0x02,0,0,0,0,1,0x02,0,0,0,0,2,8,0] ++ List.replicate 50 5)

def rx : State := ((lpOn (mkPort { st := .up, amLock := true })).setRg .chipCtl 0 0 0x100)

theorem wit_reception :
    (∃ (s : State) (lp : Fin 256) (f : List Byte) (ok : Bool) (c : RegName), s.pgOn (lp / 32) = true ∧
      (s.port lp).st.down = false ∧ s.macFail lp f ok = some c) ∧
    (∃ (s : State) (lp : Fin 256) (f : List Byte) (ok : Bool) (slots : BitVec 6) (r : Nat),
      s.pgOn (lp / 32) = true ∧ (s.port lp).st.down = false ∧ s.macFail lp f ok = none ∧
        s.stampCheck lp f.length slots = Sum.inl r) ∧
    (∃ (s : State) (lp : Fin 256) (f : List Byte) (ok : Bool) (slots : BitVec 6) (p : Nat),
      s.pgOn (lp / 32) = true ∧ (s.port lp).st.down = false ∧ s.macFail lp f ok = none ∧
        s.stampCheck lp f.length slots = Sum.inr p) ∧
    (∃ (lp : Nat) (q : Nat), q ≠ lp) ∧
    (∃ (lp : Nat) (n : Nat), n ≠ lp / 32) :=
  ⟨⟨lpOn (mkPort { st := .up }), 0, [], false, _, by decide +kernel, by decide +kernel, rfl⟩,
    ⟨rx, 0, fr0, true, 0, _, by decide +kernel, by decide +kernel, by decide +kernel, rfl⟩,
    ⟨rx, 0, fr0, true, 1, _, by decide +kernel, by decide +kernel, by decide +kernel, rfl⟩,
    ⟨0, 5, by decide +kernel⟩,
    ⟨0, 5, by decide +kernel⟩⟩

end Reception

namespace Lookups

def nt : Notice := { pg := 0, key := 5 * 2^48 + 0x020000000001, lport := 3, member := 7, lag := none, move := false }

def ent (bd mac w3 : Nat) : List Word :=
  [wd mac, put 31 30 0 ||| put 29 16 bd ||| put 15 0 (mac / 2^32), 0, BitVec.ofNat 32 w3]

def pk : Pkt :=
  {
      bytes := [0x02,0,0,0,0,1,0x02,0,0,0,0,2,8,0] ++ List.replicate 50 5,
      lrec := List.replicate 16 0,
      needDa := true,
      needSa := true }

def ov : State :=
  { up with
      pkts := [(4, pk)],
      groups := [(0, { searches := [⟨4, true⟩], absent := false }), (7, { searches := [⟨4, false⟩, ⟨4, true⟩] })] }

def ov2 : State :=
  { ov with tbl := { ov.tbl with staR := [(0 * 2^20 + 524288 + 3, ent 0 0x020000000002 0x80000000), 
        (3 * 2^20 + 524288 + 3, ent 0 0x020000000001 0x80000000)] } }

def ln : State := { up with cu := { up.cu with notices := [nt] } }

def lnFull : State :=
  { ln with
      tbl := { ln.tbl with sta := ((List.range 4).map fun i => (4 * staBucket ln.staSeed 5 0x020000000001 + i, ent 9 77 0x80000000)) ++
        (List.range 16384).map fun i => (staSlots + i, ent 9 77 0x80000000) },
      groups := [(0, { recent := [5 * 2^48 + 0x020000000001] })] }

def ag (e : List Word) (h : Bool) : State :=
  ({ up with
      cu := { up.cu with ageCursor := 3 },
      tbl := { up.tbl with
          sta := [(3, e)],
          hit := if h then [(3, true), (2 ^ 21 + 3, true)] else [] } } : State).setRg .tblStaCfg 0 0 1

/-- An entry of the notice's key, and a state in which it is learned or static. -/
def ent5 (life w3 : Nat) : List Word :=
  [0x00000001, put 31 30 life ||| put 29 16 5 ||| put 15 0 0x0200, 0, BitVec.ofNat 32 w3]

def mvS (e : List Word) : State :=
  { up with cu := { up.cu with notices := [nt] }, tbl := { up.tbl with sta := [(3, e)] } }

theorem firstGap_run : ∀ n k, firstGap (List.range' k n) k = k + n
  | 0, k => by simp [firstGap]
  | n + 1, k => by simp [List.range', firstGap, firstGap_run n (k + 1)]; omega

/-- The slots of the bucket of the new address. -/
def low (i : Nat) : Nat := 4 * staBucket ln.staSeed 5 0x020000000001 + i

theorem lnFull_find : lnFull.staFind (nt.key / 2 ^ 48) (nt.key % 2 ^ 48) = [] := by
  refine List.map_eq_nil_iff.2 (List.filter_eq_nil_iff.2 fun e he => ?_)
  obtain h | h := List.mem_append.1 he <;> obtain ⟨i, -, rfl⟩ := List.mem_map.1 h <;>
    exact (by decide +kernel : ¬ staIs (nt.key / 2 ^ 48) (nt.key % 2 ^ 48) (ent 9 77 0x80000000) = true)

theorem lnFull_room : lnFull.staRoom (nt.key / 2 ^ 48) (nt.key % 2 ^ 48) = none := by
  have hb : ((List.range 4).find? fun i => (lnFull.sta (4 * staBucket lnFull.staSeed (nt.key / 2 ^ 48)
      (nt.key % 2 ^ 48) + i)).isEmpty) = none := by decide +kernel
  have ho : (tkeys lnFull.tbl.sta).filter (fun k => staSlots ≤ k) = List.range' staSlots 16384 := by
    show ((((List.range 4).map _) ++ ((List.range 16384).map _)).map Prod.fst).filter _ = _
    rw [List.map_append, List.filter_append, List.map_map, List.map_map, List.range'_eq_map_range,
      List.filter_eq_self (l := List.map _ (List.range 16384)) |>.2]
    · show ((List.range 4).map low).filter (fun k => decide (staSlots ≤ k)) ++
        (List.range 16384).map (fun i => staSlots + i) = _
      rw [(by decide +kernel : ((List.range 4).map low).filter (fun k => decide (staSlots ≤ k)) = []),
        List.nil_append]
    · intro k hk
      obtain ⟨i, -, rfl⟩ := List.mem_map.1 hk
      simp
  simp only [State.staRoom, hb, ho, firstGap_run]
  rfl

theorem wit_stationLookups :
    (∃ (s : State) (pg : Fin 8) (x : Search) (l : List Search),
      let p := s.pkt x.pkt;
        let mac := macAt p.bytes (p.staOff + if x.source = true then 6 else 0);
        let hit := s.overflowHit (pg / 2) (recBd p.lrec) mac p.stamp.epoch; s.pgOn pg = true ∧
        (s.grp pg).searches = x :: l ∧ hit = none) ∧
    (∃ (s : State) (pg : Fin 8) (x : Search) (l : List Search) (key : Nat),
      let p := s.pkt x.pkt;
        let mac := macAt p.bytes (p.staOff + if x.source = true then 6 else 0);
        let hit := s.overflowHit (pg / 2) (recBd p.lrec) mac p.stamp.epoch; s.pgOn pg = true ∧
        (s.grp pg).searches = x :: l ∧ hit = some key) ∧
    (∃ (s : State) (x : Notice) (l : List Notice) (key : Nat), s.tblOn = true ∧ s.cu.notices = x :: l ∧
      s.staFind (x.key / 2 ^ 48) (x.key % 2 ^ 48) = [] ∧ s.staRoom (x.key / 2 ^ 48) (x.key % 2 ^ 48) = some key) ∧
    (∃ (s : State) (x : Notice) (l : List Notice), s.tblOn = true ∧ s.cu.notices = x :: l ∧
      s.staFind (x.key / 2 ^ 48) (x.key % 2 ^ 48) = [] ∧ s.staRoom (x.key / 2 ^ 48) (x.key % 2 ^ 48) = none) ∧
    (∃ (s : State), s.tblOn = true ∧ s.ageDue = true) ∧
    (∃ (s : State) (x : Notice) (l : List Notice) (key life : Nat), s.tblOn = true ∧ s.cu.notices = x :: l ∧
      s.staFind (x.key / 2 ^ 48) (x.key % 2 ^ 48) = [(key, life)] ∧ life ≠ 2 ∧ bit (wAt (s.sta key) 3) 29 = true ∧
      bit (wAt (s.sta key) 3) 30 = false ∧ tgtDiffers (wAt (s.sta key) 2) (lrnTarget x.lport x.member x.lag) = true) ∧
    (∃ (s : State) (x : Notice) (l : List Notice) (key life : Nat), s.tblOn = true ∧ s.cu.notices = x :: l ∧
      s.staFind (x.key / 2 ^ 48) (x.key % 2 ^ 48) = [(key, life)] ∧ life ≠ 2 ∧ bit (wAt (s.sta key) 3) 30 = true) ∧
    (∃ (s : State), s.tblOn = true ∧ s.ageDue = true ∧ ageSkips (s.sta s.cu.ageCursor) = true) ∧
    (∃ (s : State), s.tblOn = true ∧ s.ageDue = true ∧ s.ageOut s.cu.ageCursor = true) ∧
    (∃ (s : State), s.tblOn = true ∧ s.ageDue = true ∧ ageSkips (s.sta s.cu.ageCursor) = false ∧
      s.hitAny s.cu.ageCursor = true) ∧
    (∃ (s : State), s.tblOn = true ∧ s.ageDue = true ∧ ageSkips (s.sta s.cu.ageCursor) = false ∧
      s.hitAny s.cu.ageCursor = false ∧ bit (wAt (s.sta s.cu.ageCursor) 3) 28 = false) :=
  ⟨⟨ov, 0, ⟨4, true⟩, [], by dsimp only; decide +kernel⟩,
    ⟨ov2, 0, ⟨4, true⟩, [], _, by decide +kernel, by decide +kernel, rfl⟩,
    ⟨ln, nt, [], (ln.staRoom 5 0x020000000001).getD 9, by decide +kernel⟩,
    ⟨lnFull, nt, [], by decide +kernel, by decide +kernel, lnFull_find, lnFull_room⟩,
    ⟨ag (ent 1 2 0x90000000) false, by decide +kernel⟩,
    ⟨mvS (ent5 0 0xA0000000), nt, [], 3, 0, by decide +kernel⟩,
    ⟨mvS (ent5 0 0xE0000000), nt, [], 3, 0, by decide +kernel⟩,
    ⟨ag (ent 1 2 0xC0000000) false, by decide +kernel⟩,
    ⟨ag (ent 1 2 0x90000000) false, by decide +kernel⟩,
    ⟨ag (ent 1 2 0xA0000000) true, by decide +kernel⟩,
    ⟨ag (ent 1 2 0xA0000000) false, by decide +kernel⟩⟩

end Lookups

namespace Dispatching

def sl : Slot := { valid := true, mask := 0xFFFF, words := 100, pktEntry := 5, bgEntry := 9 }

def cl : Cluster := { slots := [sl, {}], credit := 64 }

def dp : State :=
  { (up.setRg .necCtl 0 0 1) with
      clusters := [(0, cl), (63, {cl with slots := [{}, {}]})],
      pkts := [(4, { bytes := [1,2,3], stamp := { lport := 3 }})],
      groups := [(0, { rr := 1, waitq := [(0, [4]), (1, [4])], absent := false }), (7, { waitq := [(0, [4,4])] })] }

theorem wit_dispatching :
    (∃ (s : State) (pg : Fin 8) (k : Nat) (l : List Nat),
      let cls := (s.grp pg).rr % 4;
        let el := List.filter (fun c => s.eligible c (s.pkt k).stamp.epoch) (groupClusters pg);
        s.pgOn pg = true ∧ tget (fun _ => []) (s.grp pg).waitq cls = k :: l ∧ el = []) ∧
    (∃ (s : State) (pg : Fin 8) (k : Nat) (l : List Nat) (c : Nat) (e : Nat) (th : Nat) (s' : State),
      let cls := (s.grp pg).rr % 4;
        let el := List.filter (fun c => s.eligible c (s.pkt k).stamp.epoch) (groupClusters pg);
        s.pgOn pg = true ∧ tget (fun _ => []) (s.grp pg).waitq cls = k :: l ∧ el ≠ [] ∧
        s.pickCluster el cls = (some (c, e, th), s')) ∧
    (∃ (s : State) (c : Nat), ((s.clu c).dispatched + 1) % 2 ^ s.sentLog2 c ≠ 0) ∧
    (∃ (s : State) (c : Fin 64) (e : Fin 17) (th : Fin 8), s.cluRuns c = true ∧ s.mayBackground c e th = true) :=
  ⟨⟨dp, 7, 4, [4], by dsimp only; decide +kernel⟩,
    ⟨dp, 0, 4, [], _, _, _, _, by decide +kernel, by decide +kernel, by decide +kernel, rfl⟩,
    ⟨up, 0, by decide +kernel⟩,
    ⟨dp, 0, 0, 0, by decide +kernel⟩⟩

end Dispatching

namespace Microwords

def withPar (w : Nat) : BitVec 144 :=
  (List.range 8).foldl (fun (x : BitVec 144) k => let n := (List.range 17).foldl (fun a i => a + b2n (x.getLsbD (17 * k + i))) 0
    if n % 2 = 1 then x ||| BitVec.ofNat 144 (2 ^ (136 + k)) else x) (BitVec.ofNat 144 w)

def sl : Slot := { valid := true, mask := 0xFFFF, words := 100, pktEntry := 5, bgEntry := 9 }

def cl : Cluster :=
  {
      slots := [sl, {}],
      credit := 64,
      scratch := [(7, 99), (8, 100)],
      locks := [(0, { waiters := [3] }), (63, { waiters := [9, 10] })] }

def mw (t : Thread) (w : BitVec 144) : State :=
  { (up.setRg .necCtl 0 0 1) with
      clusters := [(0, cl), (63, cl)],
      pkts := [(4, { bytes := [1,2,3], lrec := List.replicate 16 3, stamp := { lport := 3 }})],
      threads := [(0, t), (thrKey 63 16 7, t)],
      cstore := [(0, w), (csKey 63 0 5, w)],
      tbl := { up.tbl with treeG := [(3, [1,2,3]), (7 * 65536 + 3, [1])] } }

def rt : Thread := { st := .run, pc := 0, budget := 3, pkt := some 4, verdict := List.replicate 8 0, start := 0 }

/-- A word of these fields, each a value and its lowest bit. -/
def ow (l : List (Nat × Nat)) : BitVec 144 := withPar (l.foldl (fun a x => a + x.1 * 2 ^ x.2) 0)

/-- A thread inside a locked sequence. -/
def lk : Thread :=
  { rt with lock := some 0, lockLen := 3, sb := [{ addr := 4, seq := true, held := true, data := 3 }] }

/-- The premises of the clauses about a legal word. -/
def legal (s : State) (c : Fin 64) (e : Fin 17) (th : Fin 8) (slot : Fin 16) (up : BitVec 144) : Bool :=
  let k := thrKey c e th
  let t := s.thr k
  let w := s.cword c (s.activeSlotOf c) t.pc ^^^ up
  let m := microOf w
  s.cluRuns c && s.mayIssue c e th slot && ! t.bg && t.budget != 0 && parityOk w &&
    (microCheck (s.thrCtx k) t m).isNone && t.trig.isEmpty && ! bit (s.rg .pmcProfCfg) 31 &&
    (m.memOp != 1 || decide (t.tsteps < 40)) && ((m.memOp != 3 && m.memOp != 4) || decide (t.sb.length < 8))

theorem wit_microwordIssue :
    (∃ (s : State) (c : Fin 64) (e : Fin 17) (th : Fin 8) (slot : Fin 16),
      let k := thrKey c e th; let t := s.thr k; s.cluRuns c = true ∧ s.mayIssue c e th slot = true ∧
          t.bg = false ∧ t.budget = 0) ∧
    (∃ (s : State) (c : Fin 64) (e : Fin 17) (th : Fin 8) (slot : Fin 16) (up : BitVec 144),
      let k := thrKey c e th; let t := s.thr k; let w := s.cword c (s.activeSlotOf c) t.pc ^^^ up;
        s.cluRuns c = true ∧ s.mayIssue c e th slot = true ∧ t.bg = false ∧ t.budget ≠ 0 ∧ parityOk w = false) ∧
    (∃ (s : State) (c : Fin 64) (e : Fin 17) (th : Fin 8) (slot : Fin 16) (up : BitVec 144),
      let k := thrKey c e th; let t := s.thr k; let w := s.cword c (s.activeSlotOf c) t.pc ^^^ up;
        let m := microOf w; s.cluRuns c = true ∧ s.mayIssue c e th slot = true ∧ t.bg = false ∧ t.budget ≠ 0 ∧
        parityOk w = true ∧ m.memOp = 1 ∧ 40 ≤ t.tsteps) ∧
    (∃ (s : State) (c : Fin 64) (e : Fin 17) (th : Fin 8) (slot : Fin 16) (up : BitVec 144) (cause : Nat),
      let k := thrKey c e th; let t := s.thr k; let w := s.cword c (s.activeSlotOf c) t.pc ^^^ up;
        let m := microOf w; s.cluRuns c = true ∧ s.mayIssue c e th slot = true ∧ t.bg = false ∧ t.budget ≠ 0 ∧
        parityOk w = true ∧ (m.memOp ≠ 1 ∨ t.tsteps < 40) ∧ microCheck (s.thrCtx k) t m = some cause) ∧
    (∃ (s : State) (c : Fin 64) (e : Fin 17) (th : Fin 8) (slot : Fin 16) (up : BitVec 144),
      let m := microOf (s.cword c (s.activeSlotOf c) (s.thr (thrKey c e th)).pc ^^^ up);
        legal s c e th slot up = true ∧ m.lock = 0 ∧ m.nxtOp ≠ 8) ∧
    (∃ (s : State) (c : Fin 64) (e : Fin 17) (th : Fin 8) (slot : Fin 16) (up : BitVec 144),
      let t := s.thr (thrKey c e th); let m := microOf (s.cword c (s.activeSlotOf c) t.pc ^^^ up);
        legal s c e th slot up = true ∧ m.lock = 1 ∧ t.lock.isSome = true ∧ m.nxtOp ≠ 8) ∧
    (∃ (s : State) (c : Fin 64) (e : Fin 17) (th : Fin 8) (slot : Fin 16) (up : BitVec 144),
      let t := s.thr (thrKey c e th); let m := microOf (s.cword c (s.activeSlotOf c) t.pc ^^^ up);
        legal s c e th slot up = true ∧ m.memOp = 3 ∧ t.sample.isNone = true ∧ t.lock.isSome = true) ∧
    (∃ (s : State) (c : Fin 64) (e : Fin 17) (th : Fin 8) (slot : Fin 16) (up : BitVec 144),
      let t := s.thr (thrKey c e th); let m := microOf (s.cword c (s.activeSlotOf c) t.pc ^^^ up);
        legal s c e th slot up = true ∧ m.lock = 1 ∧ t.lock.isSome = false ∧ t.sample.isNone = true) ∧
    (∃ (s : State) (c : Fin 64) (e : Fin 17) (th : Fin 8) (slot : Fin 16) (up : BitVec 144) (l : Nat),
      let t := s.thr (thrKey c e th); let m := microOf (s.cword c (s.activeSlotOf c) t.pc ^^^ up);
        legal s c e th slot up = true ∧ m.lock = 2 ∧ t.lock = some l ∧
          (s.lockLine c l).owner = some (thrKey c e th % 136)) ∧
    (∃ (s : State) (c : Fin 64) (e : Fin 17) (th : Fin 8) (slot : Fin 16) (up : BitVec 144) (p : Nat),
      let t := s.thr (thrKey c e th); let m := microOf (s.cword c (s.activeSlotOf c) t.pc ^^^ up);
        legal s c e th slot up = true ∧ m.nxtOp = 8 ∧ m.lock = 0 ∧ t.pkt = some p) :=
  ⟨⟨mw { rt with budget := 0 } 0, 0, 0, 0, 0, by dsimp only; decide +kernel⟩,
    ⟨mw rt 0, 0, 0, 0, 0, 2, by dsimp only; decide +kernel⟩,
    ⟨mw { rt with tsteps := 40 } (ow [(1, 48)]), 0, 0, 0, 0, 0, by dsimp only; decide +kernel⟩,
    ⟨mw rt (withPar (31 * 2^107)), 0, 0, 0, 0, 0, 2, by dsimp only; decide +kernel⟩,
    ⟨mw rt 0, 0, 0, 0, 0, 0, by dsimp only; decide +kernel⟩,
    ⟨mw { rt with lock := some 0 } (ow [(1, 13)]), 0, 0, 0, 0, 0, by dsimp only; decide +kernel⟩,
    ⟨mw lk (ow [(3, 48), (9, 52), (48, 42), (3, 37)]), 0, 0, 0, 0, 0, by dsimp only; decide +kernel⟩,
    ⟨mw rt (ow [(1, 13), (63, 52)]), 0, 0, 0, 0, 0, by dsimp only; decide +kernel⟩,
    ⟨{ mw lk (ow [(2, 13)]) with clusters := [(0, { cl with locks := [(0, { owner := some 0 })] })] },
      0, 0, 0, 0, 0, 0, by dsimp only; decide +kernel⟩,
    ⟨mw rt (ow [(8, 132)]), 0, 0, 0, 0, 0, 4, by dsimp only; decide +kernel⟩⟩

/-- A thread with a return of each kind to come, of the work at hand, and of work that has ended. -/
def rets : State :=
  mw { rt with
    no := 1,
    first := 1,
    rdTree := [(1, 2, 3)],
    rdLoad := [(2, 3, 7, none)],
    rdCount := [(3, 4, some 77)],
    sb := [{ addr := 7, data := 5 }] } 0

def lateRets : State :=
  mw { st := .idle, no := 7, rdTree := [(1, 2, 3)], rdLoad := [(2, 3, 7, none)] } 0

theorem wit_threadMemory :
    (∃ (s : State) (c : Fin 64) (e : Fin 17) (th : Fin 8) (no : Nat) (pc : Nat) (n : Nat) (l : List (Nat × Nat × Nat)),
      let k := thrKey c e th; let t := s.thr k; s.cluRuns c = true ∧ t.rdTree = (no, pc, n) :: l) ∧
    (∃ (s : State) (c : Fin 64) (e : Fin 17) (th : Fin 8) (no : Nat) (pc : Nat) (n : Nat) (l : List (Nat × Nat × Nat)),
      let k := thrKey c e th; let t := s.thr k; s.cluRuns c = true ∧ t.rdTree = (no, pc, n) :: l ∧ t.late no = false) ∧
    (∃ (s : State) (c : Fin 64) (e : Fin 17) (th : Fin 8) (no : Nat) (pc : Nat) (n : Nat) (l : List (Nat × Nat × Nat)),
      let k := thrKey c e th; let t := s.thr k; s.cluRuns c = true ∧ t.rdTree = (no, pc, n) :: l ∧ t.late no = true) ∧
    (∃ (s : State) (c : Fin 64) (e : Fin 17) (th : Fin 8) (no : Nat) (pc : Nat) (a : Nat) (own : Option Word) (l : List (Nat × Nat × Nat × Option Word)),
      let k := thrKey c e th; let t := s.thr k; s.cluRuns c = true ∧ t.rdLoad = (no, pc, a, own) :: l) ∧
    (∃ (s : State) (c : Fin 64) (e : Fin 17) (th : Fin 8) (no : Nat) (pc : Nat) (a : Nat) (own : Option Word) (l : List (Nat × Nat × Nat × Option Word)),
      let k := thrKey c e th; let t := s.thr k; s.cluRuns c = true ∧ t.rdLoad = (no, pc, a, own) :: l ∧ t.late no = false) ∧
    (∃ (s : State) (c : Fin 64) (e : Fin 17) (th : Fin 8) (no : Nat) (pc : Nat) (a : Nat) (own : Option Word) (l : List (Nat × Nat × Nat × Option Word)),
      let k := thrKey c e th; let t := s.thr k; s.cluRuns c = true ∧ t.rdLoad = (no, pc, a, own) :: l ∧ t.late no = true) ∧
    (∃ (s : State) (c : Fin 64) (e : Fin 17) (th : Fin 8) (no : Nat) (pc : Nat) (v : Word) (l : List (Nat × Nat × Option Word)),
      let k := thrKey c e th; let t := s.thr k; s.cluRuns c = true ∧ t.rdCount = (no, pc, some v) :: l) ∧
    (∃ (s : State) (c : Fin 64) (e : Fin 17) (th : Fin 8) (ecc : Bool) (x : SbEntry) (l : List SbEntry),
      s.cluDrains c = true ∧ (s.thr (thrKey c e th)).sb = x :: l ∧ x.held = false ∧
        (ecc = false ∨ x.cadd = false)) ∧
    (∃ (s : State) (c : Fin 64) (e : Fin 17) (th : Fin 8) (x : SbEntry) (l : List SbEntry),
      s.cluDrains c = true ∧ (s.thr (thrKey c e th)).sb = x :: l ∧ x.held = false ∧ x.cadd = true) ∧
    (∃ (s : State) (c : Fin 64) (line : Fin 64) (me : Nat) (l : List Nat), s.cluRuns c = true ∧
      (s.lockLine c line).owner = none ∧ (s.lockLine c line).waiters = me :: l) :=
  ⟨⟨rets, 0, 0, 0, _, _, _, _, by decide +kernel, rfl⟩,
    ⟨rets, 0, 0, 0, 1, 2, 3, [], by decide +kernel⟩,
    ⟨lateRets, 0, 0, 0, 1, 2, 3, [], by decide +kernel⟩,
    ⟨rets, 0, 0, 0, _, _, _, _, _, by decide +kernel, rfl⟩,
    ⟨rets, 0, 0, 0, 2, 3, 7, none, [], by decide +kernel⟩,
    ⟨lateRets, 0, 0, 0, 2, 3, 7, none, [], by decide +kernel⟩,
    ⟨rets, 0, 0, 0, _, _, _, _, by decide +kernel, rfl⟩,
    ⟨rets, 0, 0, 0, false, { addr := 7, data := 5 }, [], by decide +kernel⟩,
    ⟨mw { rt with sb := [{ addr := 8, data := 5, cadd := true }, { addr := 9 }] } 0, 0, 0, 0,
      { addr := 8, data := 5, cadd := true }, [{ addr := 9 }], by decide +kernel⟩,
    ⟨mw rt 0, 0, 0, 3, [], by decide +kernel⟩⟩

end Microwords

namespace Release

def fr : List Byte := [0x02,0,0,0,0,1,0x02,0,0,0,0,2,8,0] ++ List.replicate 50 5

def pk : Pkt := { bytes := fr, lrec := List.replicate 16 0, verdict := List.replicate 8 0, units := 1 }

def bf : Buf := { bytes := fr, refs := 1, written := true, pkt := pk }

def ds : Desc := { buf := 5, len := 64 }

def q0 : State :=
  { up with
      pkts := [(4, pk)],
      buf := { up.buf with
          bufs := [(5, bf), (6, { bf with written := false })],
          descs := [(3, ds), (4, { ds with buf := 6 })],
          queues := [(0, [3]), (9, [3, 4]), (2550, [4,3]), (2560, [3]), (2576, [3]), (2591, [3])],
          used := [(0,1)],
          pend := [(0, [⟨9, 3⟩]), (8, [⟨2591, 4⟩, ⟨0,3⟩])] } }

def rs : State :=
  { q0 with
      reseq := [(0, .gone), (1, .pass 4 (.port 1 0))].map (fun (k, i) => (k, [(0, i)])),
      ports := [(0, {}), (255, { seqRel := 65535 })] }

def po : State :=
  { q0 with groups := [(0, { polq := [(4, .port 3 1)], absent := false }), (7, { polq := [(4, .group 2 1), (4, .host 0)], absent := false })] }

def pb : State :=
  { po with groups := [(0, { polq := [(4, .port 3 1)], absent := false, polOps := 512, polAt := 5000000 }), (7, { polq := [(4, .group 2 1), (4, .host 0)], absent := false, polOps := 512, polAt := 5000000 })] }

theorem wit_releaseAndPolice :
    (∃ (s : State) (lp : Fin 256) (i : SeqItem), s.pgOn (lp / 32) = true ∧ s.seqNext? lp = some i) ∧
    (∃ (s : State) (pg : Fin 8) (k : Nat) (d : Target) (l : List (Nat × Target)),
      let r := (s.setGrp pg { s.grp pg with polq := l }).policed k; s.pgOn pg = true ∧ s.clkOk 144 = true ∧
        (s.grp pg).polq = (k, d) :: l ∧ r.1 = true) ∧
    (∃ (s : State) (pg : Fin 8) (k : Nat) (d : Target) (l : List (Nat × Target)),
      let r := (s.setGrp pg { s.grp pg with polq := l }).policed k; s.pgOn pg = true ∧ s.clkOk 144 = true ∧
        (s.grp pg).polq = (k, d) :: l ∧ r.1 = false) ∧
    (∃ (s : State) (i : Fin 9) (x : Pending) (l : List Pending), s.live = true ∧ s.clkOk 144 = true ∧
      tget (fun _ => []) s.buf.pend i = x :: l) ∧
    (∃ (s : State) (b : Nat), s.live = true ∧ s.clkOk 144 = true ∧ 0 < (s.bufr b).refs ∧
      (s.bufr b).written = false) :=
  ⟨⟨rs, 0, .gone, by decide +kernel⟩,
    ⟨po, 0, _, _, _, by decide +kernel, by decide +kernel, rfl, by decide +kernel⟩,
    ⟨pb, 0, _, _, _, by decide +kernel, by decide +kernel, rfl, by decide +kernel⟩,
    ⟨q0, 0, ⟨9,3⟩, [], by decide +kernel⟩,
    ⟨q0, 6, by decide +kernel⟩⟩

def pkd : Picked := { desc := 3, queue := 0, at_ := 10, tout := some 20, frame := fr }

def e0 : State :=
  { up with
      pkts := [(4, pk)],
      buf := { up.buf with
          bufs := [(5, bf), (6, { bf with written := false }), (7, { bf with ecc := true })],
          descs := [(3, ds), (4, { ds with buf := 6 }), (8, { ds with buf := 7 })],
          queues := [(0, [3]), (9, [3, 4]), (2550, [4,3]), (2560, [3]), (2576, [3]), (2591, [3])],
          used := [(0,1)],
          pend := [(0, [⟨9, 3⟩]), (8, [⟨2591, 4⟩, ⟨0,3⟩])] } }

def tx (p : Picked) : State :=
  { e0 with
      sched := { e0.sched with picked := [(0, [p]), (255, [p, pkd])] },
      ports := [(0, { st := .up }), (255, { st := .up })],
      time := { now := 10000 } }

def hq : State :=
  { e0 with
      rings := [(16, {
          en := true,
          log2 := 6,
          posted := [[0,0,0x800, 0, 0,0,0,0]] }), (52+16, { en := true, posted := [[0,0,0x8000, 0, 0,0,0,0]] }), (52 + 31, { en := true, posted := [[0,0,0x8000, 0, 0,0,0,0]] })],
      sched := { e0.sched with hostRr := [(1, 1)] } }

def hpk (p : Picked) : State :=
  { hq with sched := { hq.sched with hostPick := [(0, [p]), (1, [{p with queue := 2591}, p])] } }

def txq : State := (tx { pkd with tout := some 20 })

def txb : State :=
  { (tx { pkd with tout := some 20 }) with sched := { e0.sched with qcfg := [(0, 0x80000001), (9, 0x80000003)] } } |>.setRg .chipCtl 0 0 0x100

theorem wit_transmission :
    (∃ (s : State) (s' : State) (lp : Fin 256) (lvl : Nat) (q : Nat) (d : Nat) (l : List Nat),
      s.pgOn (lp / 32) = true ∧ s.clkOk 144 = true ∧ s.mayPick lp = true ∧ s.pickLevel lp = some lvl ∧
        State.serve lp lvl 500 (s.takeGrants lp) = some (q, s') ∧ s'.queue q = d :: l) ∧
    (∃ (s : State) (lp : Fin 256) (p : Picked), s.pgOn (lp / 32) = true ∧ s.clkOk 144 = true ∧
      s.readable lp = some p) ∧
    (∃ (s : State) (lp : Fin 256) (p : Picked) (l : List Picked) (t0 : Nat), s.pgOn (lp / 32) = true ∧
      s.clkOk (64 + lp / 32) = true ∧ s.pickedOf lp = p :: l ∧ p.tout = some t0 ∧ t0 ≤ s.now ∧ p.bad = false) ∧
    (∃ (s : State) (lp : Fin 256) (p : Picked) (l : List Picked) (t0 : Nat), s.pgOn (lp / 32) = true ∧
      s.clkOk (64 + lp / 32) = true ∧ s.pickedOf lp = p :: l ∧ p.tout = some t0 ∧ t0 ≤ s.now ∧ p.bad = true) ∧
    (∃ (s : State) (lp lvl q : Nat), s.grantOf lp lvl = some q ∧ s.qLevel q ≠ lvl ∧ (s.takeGrants lp).grantOf lp lvl = none) :=
  ⟨⟨txb, ((State.serve 0 0 500 (txb.takeGrants 0)).getD (0, {})).2, 0, 0, 0, 3, [], by decide +kernel⟩,
    ⟨tx { pkd with tout := none }, 0, { pkd with tout := none }, by decide +kernel⟩,
    ⟨txq, 0, pkd, [], 20, by decide +kernel⟩,
    ⟨tx { pkd with bad := true }, 0, { pkd with bad := true }, [], 20, by decide +kernel⟩,
    ⟨{ up with sched := { up.sched with qcfg := [(3, 0x104)], holder := [(0, some 3)] } }, 0, 0, 3, by decide +kernel⟩⟩

theorem wit_hostQueues :
    (∃ (s : State) (h : Fin 2) (j : Nat) (d : Nat) (l : List Nat), s.hostOn h = true ∧ s.hostOk h = true ∧
      s.clkOk 144 = true ∧ s.hostNext h = some j ∧ s.queue (2560 + 16 * h + j) = d :: l) ∧
    (∃ (s : State) (h : Fin 2) (p : Picked) (l : List Picked), s.hostOn h = true ∧ s.hostOk h = true ∧
      s.clkOk 144 = true ∧ s.hostPicked h = p :: l ∧ (s.bufr (s.desc p.desc).buf).written = true ∧
        (s.bufr (s.desc p.desc).buf).ecc = true) ∧
    (∃ (s : State) (h : Fin 2) (p : Picked) (l : List Picked), s.hostOn h = true ∧ s.hostOk h = true ∧
      s.clkOk 144 = true ∧ s.hostPicked h = p :: l ∧ (s.bufr (s.desc p.desc).buf).written = true ∧
        (s.bufr (s.desc p.desc).buf).ecc = false) ∧
    (∃ (s : State) (q : Fin 2592) (d : Nat) (l : List Nat), s.live = true ∧ s.clkOk 144 = true ∧
      s.ageOn q = true ∧ s.queue q = d :: l ∧ s.ageLimit < age48 s.now (s.desc d).time) :=
  ⟨⟨hq, 0, 0, 3, [], by decide +kernel⟩,
    ⟨hpk { pkd with desc := 8, queue := 2560 }, 0, { pkd with desc := 8, queue := 2560 }, [], by decide +kernel⟩,
    ⟨hpk { pkd with queue := 2560 }, 0, { pkd with queue := 2560 }, [], by decide +kernel⟩,
    ⟨{ e0 with time := { now := 90000000000 } }, 2591, 3, [], by decide +kernel⟩⟩

end Release

namespace Tables

def ringUp : State := { up with rings := [(0, { en := true }), (8, { en := true, base := 0x1000, host := 4 })] }

def staE : List Word := [2, put 29 16 5, 0x80000003, 0x80000000]

def onRing (d : List Word) : State :=
  { ringUp with
      cu := { up.cu with q := [c0 (.ring 0 0) d] },
      epc := { st := .staging, owner := some .host0, token := 7 } }

theorem wit_tableChecks :
    (∃ (s : State) (c : TCmd) (st : Nat), s.tblOn = true ∧ s.cuHead = some c ∧ s.cuPop.cmdCheck c = some st) ∧
    (∃ (s : State) (c : TCmd) (st : Nat), s.tblOn = true ∧ s.cuHead = some c ∧ s.cuPop.cmdCheck c = some st ∧
      c.op = 1) ∧
    (∃ (s : State) (c : TCmd) (st : Nat), s.tblOn = true ∧ s.cuHead = some c ∧ s.cuPop.cmdCheck c = some st ∧
      c.op = 2) ∧
    (∃ (s : State) (c : TCmd) (st : Nat), s.tblOn = true ∧ s.cuHead = some c ∧ s.cuPop.cmdCheck c = some st ∧
      c.op = 3) ∧
    (∃ (s : State) (c : TCmd) (st : Nat), s.tblOn = true ∧ s.cuHead = some c ∧ s.cuPop.cmdCheck c = some st ∧
      c.op = 4) ∧
    (∃ (s : State) (c : TCmd) (st : Nat), s.tblOn = true ∧ s.cuHead = some c ∧ s.cuPop.cmdCheck c = some st ∧
      c.op = 5) ∧
    (∃ (s : State) (c : TCmd) (st : Nat), s.tblOn = true ∧ s.cuHead = some c ∧ s.cuPop.cmdCheck c = some st ∧
      c.op = 6) ∧
    (∃ (s : State) (c : TCmd) (st : Nat), s.tblOn = true ∧ s.cuHead = some c ∧ s.cuPop.cmdCheck c = some st ∧
      c.op = 7) ∧
    (∃ (s : State) (c : TCmd) (st : Nat), s.tblOn = true ∧ s.cuHead = some c ∧ s.cuPop.cmdCheck c = some st ∧
      c.op = 8) ∧
    (∃ (s : State) (c : TCmd) (st : Nat), s.tblOn = true ∧ s.cuHead = some c ∧ s.cuPop.cmdCheck c = some st ∧
      c.op = 13) ∧
    (∃ (s : State) (c : TCmd) (st : Nat), s.tblOn = true ∧ s.cuHead = some c ∧ s.cuPop.cmdCheck c = some st ∧
      c.op = 15) ∧
    (∃ (s : State) (c : TCmd) (st : Nat), s.tblOn = true ∧ s.cuHead = some c ∧ s.cuPop.cmdCheck c = some st ∧
      c.op = 16) ∧
    (∃ (s : State) (c : TCmd) (st : Nat), s.tblOn = true ∧ s.cuHead = some c ∧ s.cuPop.cmdCheck c = some st ∧
      formCheck c = some st ∧ c.op = 9) ∧
    (∃ (s : State) (c : TCmd) (st : Nat), s.tblOn = true ∧ s.cuHead = some c ∧ s.cuPop.cmdCheck c = some st ∧
      formCheck c = some st ∧ c.op = 10 ∧ s.cu.fan = []) ∧
    (∃ (s : State) (c : TCmd) (st : Nat), s.tblOn = true ∧ s.cuHead = some c ∧ s.cuPop.cmdCheck c = some st ∧
      formCheck c = some st ∧ c.op = 11) ∧
    (∃ (s : State) (c : TCmd) (st : Nat), s.tblOn = true ∧ s.cuHead = some c ∧ s.cuPop.cmdCheck c = some st ∧
      c.op = 14 ∧ c.staged = true) :=
  ⟨⟨onRing (d0 9 15 0 0 0 0), c0 (.ring 0 0) (d0 9 15 0 0 0 0), 2, by decide +kernel⟩,
    ⟨onRing (d0 1 0 1 3 4 0), c0 (.ring 0 0) (d0 1 0 1 3 4 0), 1, by decide +kernel⟩,
    ⟨onRing (d0 2 0 0 3 4 0), c0 (.ring 0 0) (d0 2 0 0 3 4 0), 2, by decide +kernel⟩,
    ⟨onRing (d0 3 2 0 3 4 0), c0 (.ring 0 0) (d0 3 2 0 3 4 0), 2, by decide +kernel⟩,
    ⟨onRing (d0 4 3 0 3 4 0), c0 (.ring 0 0) (d0 4 3 0 3 4 0), 2, by decide +kernel⟩,
    ⟨onRing (d0 5 0 1 3 4 0), c0 (.ring 0 0) (d0 5 0 1 3 4 0), 1, by decide +kernel⟩,
    ⟨onRing (d0 6 0 0 3 8 0), c0 (.ring 0 0) (d0 6 0 0 3 8 0), 1, by decide +kernel⟩,
    ⟨onRing (d0 7 0 0 3 0 0), c0 (.ring 0 0) (d0 7 0 0 3 0 0), 1, by decide +kernel⟩,
    ⟨onRing (d0 8 0 0 3 0 0), c0 (.ring 0 0) (d0 8 0 0 3 0 0), 1, by decide +kernel⟩,
    ⟨onRing (d0 13 0 1 3 0 0), c0 (.ring 0 0) (d0 13 0 1 3 0 0), 1, by decide +kernel⟩,
    ⟨onRing (d0 15 0 1 3 0 0), c0 (.ring 0 0) (d0 15 0 1 3 0 0), 1, by decide +kernel⟩,
    ⟨onRing (d0 16 0 0 3 0 0), c0 (.ring 0 0) (d0 16 0 0 3 0 0), 2, by decide +kernel⟩,
    ⟨onRing (d0 9 15 0 0 0 0), c0 (.ring 0 0) (d0 9 15 0 0 0 0), 2, by decide +kernel⟩,
    ⟨onRing (d0 10 15 0 0 0 0), c0 (.ring 0 0) (d0 10 15 0 0 0 0), 2, by decide +kernel⟩,
    ⟨onRing (d0 11 15 0 0 0 0), c0 (.ring 0 0) (d0 11 15 0 0 0 0), 2, by decide +kernel⟩,
    ⟨{ onRing (d0 14 0 1 0 0 0) with epc := {} }, c0 (.ring 0 0) (d0 14 0 1 0 0 0), 10, by decide +kernel⟩⟩

def staE2 (life : Nat) : List Word :=
  [2, put 31 30 life ||| put 29 16 5, 0, 0x80000000]

def n4e (life : Nat) : List Word := [0x0A000001, 0x11, put 31 30 life ||| put 29 16 5, 0x80000000]

/-- A staging with an entry of every keyed and indexed table, FROM_NEXT. -/
def rdS : State :=
  { up with
      epc := { st := .staging, owner := some .host0, token := 7, c := false, s := true },
      tbl := { up.tbl with
        sta := [(400, staE2 1)], staR := [(400, staE2 1), (3 * 2 ^ 20 + 400, staE2 1)],
        nbr := [(7, n4e 1)], nbrR := [(7, n4e 1), (3 * 2 ^ 18 + 7, n4e 1)],
        asc := [(3, { words := List.replicate 17 4, life := .untilNext })], tree := [(3, [1, 2, 3])],
        rep := [(6, { valid := true, life := 1, targets := [1, 2, 3] })] } }

/-- A READ of a table, with its first argument and its index. -/
def rdC (tb a0 idx cnt : Nat) : TCmd := c0 (.ring 0 0) (d0 1 tb 0 idx cnt a0)

theorem wit_tableCommands :
    (∃ (s : State) (c : TCmd), s.tblOn = true ∧ s.cuHead = some c ∧ c.op = 12) ∧
    (∃ (s : State) (c : TCmd) (data : Option (List Word)) (ws : List Word), let u := s.cuPop; s.tblOn = true ∧
      s.cuHead = some c ∧ u.cmdCheck c = none ∧ u.cmdData c data = some ws ∧ c.op = 1 ∧ c.table ≤ 1) ∧
    (∃ (s : State) (c : TCmd) (data : Option (List Word)) (ws : List Word), let u := s.cuPop; s.tblOn = true ∧
      s.cuHead = some c ∧ u.cmdCheck c = none ∧ u.cmdData c data = some ws ∧ c.op = 1 ∧ 1 < c.table) ∧
    (∃ (s : State) (c : TCmd) (data : Option (List Word)) (ws : List Word), let u := s.cuPop; s.tblOn = true ∧
      s.cuHead = some c ∧ u.cmdCheck c = none ∧ u.cmdData c data = some ws ∧ c.op = 2) ∧
    (∃ (s : State) (c : TCmd) (data : Option (List Word)) (ws : List Word), let u := s.cuPop; s.tblOn = true ∧
      s.cuHead = some c ∧ u.cmdCheck c = none ∧ u.cmdData c data = some ws ∧ c.op = 3) ∧
    (∃ (s : State) (c : TCmd) (data : Option (List Word)) (ws : List Word), let u := s.cuPop; s.tblOn = true ∧
      s.cuHead = some c ∧ u.cmdCheck c = none ∧ u.cmdData c data = some ws ∧ c.op = 4 ∧ c.table ≤ 1) ∧
    (∃ (s : State) (c : TCmd) (data : Option (List Word)) (ws : List Word), let u := s.cuPop; s.tblOn = true ∧
      s.cuHead = some c ∧ u.cmdCheck c = none ∧ u.cmdData c data = some ws ∧ c.op = 4 ∧ 1 < c.table) ∧
    (∃ (s : State) (c : TCmd) (data : Option (List Word)) (ws : List Word), let u := s.cuPop; s.tblOn = true ∧
      s.cuHead = some c ∧ u.cmdCheck c = none ∧ u.cmdData c data = some ws ∧ c.op = 5) ∧
    (∃ (s : State) (c : TCmd) (data : Option (List Word)) (ws : List Word), let u := s.cuPop; s.tblOn = true ∧
      s.cuHead = some c ∧ u.cmdCheck c = none ∧ u.cmdData c data = some ws ∧ c.op = 6) ∧
    (∃ (s : State) (c : TCmd), let u := s.cuPop; s.tblOn = true ∧ s.cuHead = some c ∧ u.cmdCheck c = none ∧
      c.op = 7) ∧
    (∃ (s : State) (c : TCmd), let u := s.cuPop; s.tblOn = true ∧ s.cuHead = some c ∧ u.cmdCheck c = none ∧
      c.op = 8) ∧
    (∃ (s : State) (c : TCmd), let u := s.cuPop; s.tblOn = true ∧ s.cuHead = some c ∧ u.cmdCheck c = none ∧
      c.op = 13) ∧
    (∃ (s : State) (c : TCmd), let u := s.cuPop; s.tblOn = true ∧ s.cuHead = some c ∧ u.cmdCheck c = none ∧
      c.op = 15) ∧
    (∃ (s : State) (c : TCmd), let u := s.cuPop; s.tblOn = true ∧ s.cuHead = some c ∧ u.cmdCheck c = none ∧
      c.op = 16) ∧
    (∃ (s : State) (c : TCmd) (ws e : List Word), c.table = 0 ∧ (s.readRun c ws).out = some e) ∧
    (∃ (s : State) (c : TCmd) (ws : List Word), c.table = 0 ∧ (s.readRun c ws).out = none ∧
      (∃ x ∈ s.tbl.staR, x.1 / 2 ^ 20 = fld c.arg0 2 1 ∧ staIs (staBd ws) (staMac ws) x.2 = true)) ∧
    (∃ (s : State) (c : TCmd) (ws e : List Word), c.table = 1 ∧ nbrKindOk (padTo c.count ws) c.count = true ∧
      (s.readRun c ws).out = some e) ∧
    (∃ (s : State) (c : TCmd) (ws : List Word), c.table = 1 ∧ nbrKindOk (padTo c.count ws) c.count = true ∧
      (s.readRun c ws).out = none) ∧
    (∃ (s : State) (c : TCmd), c.table = 2 ∧ s.ascIndexOk c.index = true) ∧
    (∃ (c : TCmd), c.table = 3 ∧ c.index < 49152) ∧
    (∃ (s : State) (c : TCmd), 4 ≤ c.table ∧ c.table ≤ 9 ∧ c.index < cpSize c.table ∧ (c.table ≠ 8 ∨ c.index < s.nPorts)) ∧
    (∃ (s : State) (c : TCmd) (ws e : List Word), c.table = 10 ∧ c.index < 32768 ∧ (s.readRun c ws).out = some e) ∧
    (∃ (s : State) (c : TCmd) (ws : List Word), c.table = 10 ∧ c.index < 32768 ∧ (s.readRun c ws).out = none) ∧
    (∃ (s : State) (c : TCmd) (ws e : List Word), c.table = 0 ∧ (s.searchRun c ws).out = some e) ∧
    (∃ (s : State) (c : TCmd) (ws : List Word), c.table = 0 ∧ (s.searchRun c ws).out = none) ∧
    (∃ (s : State) (c : TCmd) (ws e : List Word), c.table = 1 ∧ nbrKindOk (padTo c.count ws) c.count = true ∧
      (s.searchRun c ws).out = some e) ∧
    (∃ (s : State) (c : TCmd) (ws : List Word), c.table = 1 ∧ nbrKindOk (padTo c.count ws) c.count = true ∧
      (s.searchRun c ws).out = none) :=
  ⟨⟨onRing (d0 12 0 1 3 1 0), c0 (.ring 0 0) (d0 12 0 1 3 1 0), by decide +kernel⟩,
    ⟨onRing (d0 1 0 0 3 4 0), c0 (.ring 0 0) (d0 1 0 0 3 4 0), some staE, staE, by dsimp only; decide +kernel⟩,
    ⟨onRing (d0 1 2 0 3 0 0), c0 (.ring 0 0) (d0 1 2 0 3 0 0), some staE, [], by dsimp only; decide +kernel⟩,
    ⟨onRing (d0 2 2 0 3 4 0), c0 (.ring 0 0) (d0 2 2 0 3 4 0), some staE, staE, by dsimp only; decide +kernel⟩,
    ⟨onRing (d0 3 0 0 3 4 0), c0 (.ring 0 0) (d0 3 0 0 3 4 0), some staE, staE, by dsimp only; decide +kernel⟩,
    ⟨onRing (d0 4 0 0 3 4 0), c0 (.ring 0 0) (d0 4 0 0 3 4 0), some staE, staE, by dsimp only; decide +kernel⟩,
    ⟨onRing (d0 4 2 0 3 0 0), c0 (.ring 0 0) (d0 4 2 0 3 0 0), some staE, [], by dsimp only; decide +kernel⟩,
    ⟨onRing (d0 5 0 0 3 4 0), c0 (.ring 0 0) (d0 5 0 0 3 4 0), some staE, staE, by dsimp only; decide +kernel⟩,
    ⟨onRing (d0 6 3 1 3 8 0), c0 (.ring 0 0) (d0 6 3 1 3 8 0), some staE, staE, by dsimp only; decide +kernel⟩,
    ⟨onRing (d0 7 3 1 3 0 0), c0 (.ring 0 0) (d0 7 3 1 3 0 0), by dsimp only; decide +kernel⟩,
    ⟨onRing (d0 8 0 1 3 0 0), c0 (.ring 0 0) (d0 8 0 1 3 0 0), by dsimp only; decide +kernel⟩,
    ⟨onRing (d0 13 0 0 3 0 0), c0 (.ring 0 0) (d0 13 0 0 3 0 0), by dsimp only; decide +kernel⟩,
    ⟨onRing (d0 15 0 0 3 0 0), c0 (.ring 0 0) (d0 15 0 0 3 0 0), by dsimp only; decide +kernel⟩,
    ⟨onRing (d0 16 2 0 3 0 0), c0 (.ring 0 0) (d0 16 2 0 3 0 0), by dsimp only; decide +kernel⟩,
    ⟨rdS, rdC 0 1 3 4, staE2 0, _, by decide +kernel, rfl⟩,
    ⟨rdS, rdC 0 0 3 4, staE2 0, by decide +kernel⟩,
    ⟨rdS, rdC 1 1 3 4, n4e 0, _, by decide +kernel, by decide +kernel, rfl⟩,
    ⟨rdS, rdC 1 0 3 4, n4e 0, by decide +kernel⟩,
    ⟨rdS, rdC 2 0 3 4, by decide +kernel⟩,
    ⟨rdC 3 0 3 4, by decide +kernel⟩,
    ⟨up, rdC 8 1 0 4, by decide +kernel⟩,
    ⟨rdS, rdC 10 1 3 4, [], _, by decide +kernel, by decide +kernel, rfl⟩,
    ⟨up, rdC 10 1 32767 4, [], by decide +kernel⟩,
    ⟨rdS, rdC 0 1 3 4, staE2 0, _, by decide +kernel, rfl⟩,
    ⟨rdS, rdC 0 0 3 4, staE2 0, by decide +kernel⟩,
    ⟨rdS, rdC 1 1 3 4, n4e 0, _, by decide +kernel, by decide +kernel, rfl⟩,
    ⟨up, rdC 1 1 3 4, n4e 0, by decide +kernel⟩⟩

end Tables

namespace Entries

def ent (bd mac life w3 : Nat) : List Word :=
  [wd mac, put 31 30 life ||| put 29 16 bd ||| put 15 0 (mac / 2^32), 0, BitVec.ofNat 32 w3]

def withSta (life : Nat) : State :=
  { up with tbl := { up.tbl with sta := [(400, ent 5 2 life 0x80000000), (401, ent 5 3 0 0x80000000)] } }

/-- Neighbour entries of an IPv4 and of an IPv6 address, and replication lists of one block and of two. -/
def n4e (life : Nat) : List Word := [0x0A000001, 0x11, put 31 30 life ||| put 29 16 5, 0x80000000]

def n6e (life : Nat) : List Word :=
  [1, 2, 3, 4, 0x11, put 31 30 life ||| put 29 16 5, 0, 0xC0000000]

def withNbr (life : Nat) : State := { up with tbl := { up.tbl with nbr := [(40, n4e life), (60, n6e life)] } }

def rEl : List Word := [3, 1 ||| (2 <<< 16), 5]

def withRep (life fr : Nat) : State :=
  { up with
      tbl := { up.tbl with rep := [(0, { valid := true, life := life, targets := [1, 2, 3] })], listFree := fr } }

/-- An INSERT into the neighbour table, or of replication list 0. -/
def cN (staged cnt : Nat) : TCmd := c0 (.ring 0 0) (d0 3 1 staged 3 cnt 0)

def cR (staged : Nat) : TCmd := c0 (.ring 0 0) (d0 3 10 staged 0 3 0)

theorem wit_keyedEntries :
    (∃ (s : State) (e : List Word) (key : Nat), s.staCheck e = none ∧ s.staFind (staBd e) (staMac e) = [] ∧
      s.staRoom (staBd e) (staMac e) = some key) ∧
    (∃ (s : State) (e : List Word) (key : Nat) (k : Nat), s.staCheck e = none ∧
      s.staFind (staBd e) (staMac e) = [] ∧ s.staRoom (staBd e) (staMac e) = some key ∧ k ≠ key) ∧
    (∃ (s : State) (e : List Word) (key : Nat), s.staFind (staBd e) (staMac e) = [(key, 0)]) ∧
    (∃ (s : State) (e : List Word) (key : Nat) (k : Nat), s.staFind (staBd e) (staMac e) = [(key, 0)] ∧ k ≠ key) ∧
    (∃ (s : State) (c : TCmd) (e : List Word) (key : Nat), s.staCheck e = none ∧ c.staged = true ∧
      s.staFind (staBd e) (staMac e) = [(key, 0)]) ∧
    (∃ (s : State) (c : TCmd) (e : List Word) (key : Nat), s.staCheck e = none ∧ c.staged = false ∧
      s.staFind (staBd e) (staMac e) = [(key, 1)]) ∧
    (∃ (s : State) (e : List Word), s.staFind (staBd e) (staMac e) = []) ∧
    (∃ (s : State) (c : TCmd) (e : List Word) (key : Nat), nbrCheck e c.count = none ∧
      s.nbrFind (nbrV6 e) (fld (nbrLifeWord e) 29 16) (nbrAddr e) = [] ∧
      s.nbrRoom (nbrV6 e) (fld (nbrLifeWord e) 29 16) (nbrAddr e) = some key) ∧
    (∃ (s : State) (c : TCmd) (e : List Word) (key : Nat), nbrCheck e c.count = none ∧ nbrV6 e = true ∧
      s.nbrFind (nbrV6 e) (fld (nbrLifeWord e) 29 16) (nbrAddr e) = [] ∧
      s.nbrRoom (nbrV6 e) (fld (nbrLifeWord e) 29 16) (nbrAddr e) = some key) ∧
    (∃ (s : State) (c : TCmd) (e : List Word) (key : Nat), nbrKindOk e c.count = true ∧
      s.nbrFind (nbrV6 e) (fld (nbrLifeWord e) 29 16) (nbrAddr e) = [(key, 0)]) ∧
    (∃ (s : State) (c : TCmd) (e : List Word) (key : Nat), nbrCheck e c.count = none ∧ c.staged = true ∧
      s.nbrFind (nbrV6 e) (fld (nbrLifeWord e) 29 16) (nbrAddr e) = [(key, 0)]) ∧
    (∃ (s : State) (c : TCmd) (e : List Word) (key : Nat), nbrCheck e c.count = none ∧ c.staged = false ∧
      s.nbrFind (nbrV6 e) (fld (nbrLifeWord e) 29 16) (nbrAddr e) = [(key, 1)]) ∧
    (∃ (s : State) (c : TCmd) (e : List Word), nbrKindOk e c.count = true ∧
      s.nbrFind (nbrV6 e) (fld (nbrLifeWord e) 29 16) (nbrAddr e) = []) ∧
    (∃ (s : State) (c : TCmd) (ws : List Word) (l : List Nat), c.index < 32768 ∧ s.repParse ws = .inr l ∧
      s.repFind c.index = [] ∧ listBlocks l ≤ s.tbl.listFree) ∧
    (∃ (s : State) (c : TCmd) (ws : List Word) (l : List Nat), c.index < 32768 ∧ s.repParse ws = .inr l ∧
      s.repFind c.index = [] ∧ s.tbl.listFree < listBlocks l) ∧
    (∃ (s : State) (c : TCmd) (k : Nat), c.index < 32768 ∧ s.repFind c.index = [(k, 0)]) ∧
    (∃ (s : State) (c : TCmd) (ws : List Word) (l : List Nat) (k : Nat), c.index < 32768 ∧ s.repParse ws = .inr l ∧
      c.staged = true ∧ s.repFind c.index = [(k, 0)]) ∧
    (∃ (s : State) (c : TCmd) (ws : List Word) (l : List Nat) (k : Nat), c.index < 32768 ∧ s.repParse ws = .inr l ∧
      c.staged = false ∧ s.repFind c.index = [(k, 1)]) ∧
    (∃ (s : State) (c : TCmd), c.index < 32768 ∧ s.repFind c.index = []) :=
  ⟨⟨up, ent 5 2 0 0x80000000, (up.staRoom 5 2).getD 0, by decide +kernel⟩,
    ⟨up, ent 5 2 0 0x80000000, (up.staRoom 5 2).getD 0, 0, by decide +kernel⟩,
    ⟨withSta 0, ent 5 2 0 0x80000000, 400, by decide +kernel⟩,
    ⟨withSta 0, ent 5 2 0 0x80000000, 400, 0, by decide +kernel⟩,
    ⟨withSta 0, c0 (.ring 0 0) (d0 3 0 1 3 4 0), ent 5 2 0 0x80000000, 400, by decide +kernel⟩,
    ⟨withSta 1, c0 (.ring 0 0) (d0 3 0 0 3 4 0), ent 5 2 0 0x80000000, 400, by decide +kernel⟩,
    ⟨up, ent 5 2 0 0x80000000, by decide +kernel⟩,
    ⟨up, cN 1 4, n4e 0, (up.nbrRoom false 5 (nbrAddr (n4e 0))).getD 0, by decide +kernel⟩,
    ⟨up, cN 0 8, n6e 0, (up.nbrRoom true 5 (nbrAddr (n6e 0))).getD 0, by decide +kernel⟩,
    ⟨withNbr 0, cN 0 8, n6e 0, 60, by decide +kernel⟩,
    ⟨withNbr 0, cN 1 4, n4e 0, 40, by decide +kernel⟩,
    ⟨withNbr 1, cN 0 4, n4e 0, 40, by decide +kernel⟩,
    ⟨up, cN 0 4, n4e 0, by decide +kernel⟩,
    ⟨up, cR 1, rEl, [1, 2, 5], by decide +kernel⟩,
    ⟨{ up with tbl := { up.tbl with listFree := 0 } }, cR 0, rEl, [1, 2, 5], by decide +kernel⟩,
    ⟨withRep 0 5, cR 0, 0, by decide +kernel⟩,
    ⟨withRep 0 5, cR 1, rEl, [1, 2, 5], 0, by decide +kernel⟩,
    ⟨withRep 1 5, cR 0, rEl, [1, 2, 5], 0, by decide +kernel⟩,
    ⟨up, cR 0, by decide +kernel⟩⟩

end Entries

namespace Trees

def nd : List Word := [0xC0000003, 0, 0, 0, 0, 0, 0, 0]

def wn (x : NodeState) (sp : Bool): State :=
  { up with
      tbl := { up.tbl with node := [(49151, x), (4, .staged)] },
      epc := { st := .staging, owner := some .host0, token := 7, c := !sp, s := sp } }

/-- The words of an associative entry of one unit, and a state whose entry 3 has a life. -/
def aw : List Word := List.replicate 16 0x11 ++ [0x80000005]

def wa (ws : List Word) (l : AscLife) : State :=
  { up with
      tbl := { up.tbl with asc := [(3, { words := ws, life := l })] },
      epc := { st := .staging, owner := some .host0, token := 7, c := false, s := true } }

/-- A WRITE_INDEX of associative entry 3, staged or not. -/
def cA (staged : Nat) : TCmd := c0 (.ring 0 0) (d0 2 2 staged 3 17 0)

theorem wit_indexedEntries :
    (∃ (s : State) (c : TCmd) (ws : List Word), c.index < 49152 ∧ s.nodeSt c.index = NodeState.free ∧
      nodeOk (padTo 8 ws) = true) ∧
    (∃ (s : State) (c : TCmd) (ws : List Word) (i : Nat), c.index < 49152 ∧ s.nodeSt c.index = NodeState.free ∧
      nodeOk (padTo 8 ws) = true ∧ i ≠ c.index) ∧
    (∃ (s : State) (c : TCmd), c.index < 49152 ∧ s.nodeSt c.index ≠ NodeState.free) ∧
    (∃ (s : State) (c : TCmd), c.index < 49152 ∧ s.nodeSt c.index = NodeState.live) ∧
    (∃ (s : State) (c : TCmd), (BitVec.setWidth 16 c.arg0).toNat < 49152 ∧ s.epc.s = true) ∧
    (∃ (s : State) (c : TCmd), (BitVec.setWidth 16 c.arg0).toNat < 49152 ∧ ¬s.epc.s = true) ∧
    (∃ (s : State) (c : TCmd) (ws : List Word), c.staged = true ∧ c.index < cpSize c.table ∧
      (c.table = 8 → c.index < s.nPorts) ∧ c.table < 16 ∧
        s.cpCheck c.table c.index (padTo (cpWords c.table) ws) [s.epc.s] = none) ∧
    (∃ (s : State) (c : TCmd) (ws : List Word) (i : Nat), c.staged = true ∧ c.index < cpSize c.table ∧
      (c.table = 8 → c.index < s.nPorts) ∧ c.table < 16 ∧
        s.cpCheck c.table c.index (padTo (cpWords c.table) ws) [s.epc.s] = none ∧ i < 65536) ∧
    (∃ (s : State) (c : TCmd) (ws : List Word), s.ascIndexOk c.index = true ∧
      ascOk ws (widthUnits (s.ascWidth (c.index / 512))) = true ∧ c.staged = true ∧ (s.asc c.index).words = []) ∧
    (∃ (s : State) (c : TCmd) (ws : List Word), s.ascIndexOk c.index = true ∧
      ascOk ws (widthUnits (s.ascWidth (c.index / 512))) = true ∧ c.staged = true ∧ (s.asc c.index).words ≠ [] ∧
      (s.asc c.index).life = .fromNext) ∧
    (∃ (s : State) (c : TCmd) (ws : List Word), s.ascIndexOk c.index = true ∧
      ascOk ws (widthUnits (s.ascWidth (c.index / 512))) = true ∧ c.staged = true ∧ (s.asc c.index).words ≠ [] ∧
      (s.asc c.index).life ≠ .fromNext) ∧
    (∃ (s : State) (c : TCmd) (ws : List Word), s.ascIndexOk c.index = true ∧
      ascOk ws (widthUnits (s.ascWidth (c.index / 512))) = true ∧ c.staged = false ∧ (s.asc c.index).life = .always) ∧
    (∃ (s : State) (c : TCmd) (ws : List Word), s.ascIndexOk c.index = true ∧
      ascOk ws (widthUnits (s.ascWidth (c.index / 512))) = true ∧ c.staged = false ∧ (s.asc c.index).life ≠ .always) ∧
    (∃ (s : State) (c : TCmd), s.ascIndexOk c.index = true ∧ (s.asc c.index).words = []) ∧
    (∃ (s : State) (c : TCmd), s.ascIndexOk c.index = true ∧ (s.asc c.index).words ≠ [] ∧ c.staged = true ∧
      (s.asc c.index).life = .always) ∧
    (∃ (s : State) (c : TCmd), s.ascIndexOk c.index = true ∧ (s.asc c.index).words ≠ [] ∧ c.staged = true ∧
      (s.asc c.index).life = .fromNext) ∧
    (∃ (s : State) (c : TCmd), s.ascIndexOk c.index = true ∧ (s.asc c.index).words ≠ [] ∧ c.staged = true ∧
      (s.asc c.index).life = .untilNext) ∧
    (∃ (s : State) (c : TCmd), s.ascIndexOk c.index = true ∧ (s.asc c.index).words ≠ [] ∧ c.staged = false ∧
      (s.asc c.index).life = .always) ∧
    (∃ (s : State) (c : TCmd), s.ascIndexOk c.index = true ∧ (s.asc c.index).words ≠ [] ∧ c.staged = false ∧
      (s.asc c.index).life ≠ .always) ∧
    (∃ (s : State) (c : TCmd), c.index / 512 < 8 ∧ fld c.arg0 1 0 ≠ 3 ∧ s.ascValid (c.index / 512) = 0) :=
  ⟨⟨up, c0 (.ring 0 0) (d0 6 3 1 49151 8 4), nd, by decide +kernel⟩,
    ⟨up, c0 (.ring 0 0) (d0 6 3 1 49151 8 4), nd, 0, by decide +kernel⟩,
    ⟨wn .live true, c0 (.ring 0 0) (d0 6 3 1 49151 8 4), by decide +kernel⟩,
    ⟨wn .live true, c0 (.ring 0 0) (d0 6 3 1 49151 8 4), by decide +kernel⟩,
    ⟨up, c0 (.ring 0 0) (d0 6 3 1 49151 8 4), by decide +kernel⟩,
    ⟨wn .staged false, c0 (.ring 0 0) (d0 6 3 1 49151 8 4), by decide +kernel⟩,
    ⟨up, c0 (.ring 0 0) (d0 6 3 1 0 8 0xFFFF), nd, by decide +kernel⟩,
    ⟨up, c0 (.ring 0 0) (d0 6 3 1 0 8 0xFFFF), nd, 0, by decide +kernel⟩,
    ⟨wa [] .always, cA 1, aw, by decide +kernel⟩,
    ⟨wa aw .fromNext, cA 1, aw, by decide +kernel⟩,
    ⟨wa aw .always, cA 1, aw, by decide +kernel⟩,
    ⟨wa aw .always, cA 0, aw, by decide +kernel⟩,
    ⟨wa aw .fromNext, cA 0, aw, by decide +kernel⟩,
    ⟨up, cA 0, by decide +kernel⟩,
    ⟨wa aw .always, cA 1, by decide +kernel⟩,
    ⟨wa aw .fromNext, cA 1, by decide +kernel⟩,
    ⟨wa aw .untilNext, cA 1, by decide +kernel⟩,
    ⟨wa aw .always, cA 0, by decide +kernel⟩,
    ⟨wa aw .untilNext, cA 0, by decide +kernel⟩,
    ⟨up, c0 (.ring 0 0) (d0 16 2 0 3584 17 1), by decide +kernel⟩⟩

end Trees

namespace CommandUnit

def asc1 : AscEntry := { words := List.replicate 17 1 }

def go : State := up.setRg .tblDesc 0 0 0x01000007 0

def f1 : Fan :=
  { idx := 3, words := List.replicate 17 1, left := [0], cpl := some (c0 (.bank .host0) (d0 3 0 0 0 0 0), {}) }

def f2 : Fan := { at_ := 1, idx := 600, words := [], width := some 2, left := [47, 0] }

def fn : State :=
  { up with cu := { up.cu with fan := [f1, f2], busy := [true, false, false] }, groups := [(0, {absent := false})] }

def rp : State :=
  { up with
      cu := { up.cu with repairs := [(0, 513), (47, 4095)] },
      tbl := { up.tbl with asc := [(513, asc1), (0, asc1)], ascW := [(1, 1)] } }

theorem wit_commandUnit :
    (∃ (s : State) (b : Fin 3) (v : Word), s.Open domTbl ∧ bit v 31 = true ∧ s.cu.busy[b.val]? = some false) ∧
    (∃ (s : State) (pipe : Fin 48) (f : Fan), s.tblOn = true ∧ s.fanNext pipe = some f ∧ f.at_ ≤ s.mono ∧
      s.isLit (domPg (pipe / 6)) = true) ∧
    (∃ (s : State), s.tblOn = true ∧ s.cu.fan = []) ∧
    (∃ (s : State) (pipe : Fin 48) (r : Nat × Nat), s.tblOn = true ∧ s.pgOn (pipe / 6) = true ∧
      List.find? (fun (e : Nat × Nat) => e.1 == pipe.val) s.cu.repairs = some r) ∧
    (∃ (s : State) (b : Fin 3) (v : Word), s.Open domTbl ∧ bit v 31 = true ∧ s.cu.busy = [true, false, true] ∧
      s.cu.busy[b.val]? = some false) ∧
    (∃ (s : State) (b : Fin 3) (v : Word), s.Open domTbl ∧ bit v 31 = true ∧ s.cu.busy[b.val]? = some true) :=
  ⟨⟨go, 0, 0x80000000, by unfold State.Open; decide +kernel⟩,
    ⟨fn, 0, f1, by decide +kernel⟩,
    ⟨up, by decide +kernel⟩,
    ⟨rp, 0, (0, 513), by decide +kernel⟩,
    ⟨{ go with cu := { go.cu with busy := [true, false, true] } }, 1, 0x80000000, by unfold State.Open; decide +kernel⟩,
    ⟨{ go with cu := { go.cu with busy := [false, false, true] } }, 2, 0x80000000, by unfold State.Open; decide +kernel⟩⟩

end CommandUnit

namespace Commit

def cb := c0 (.bank .host0) (d0 9 0 0 0 0 3)

def cc := c0 (.bank .host0) (d0 10 0 0 0 0 3)

def wq (c : TCmd) (e : Epoch) : State := { up with cu := { up.cu with q := [c] }, epc := e }

def so : Epoch := { st := .staging, owner := some .host0, token := 7, rootC := 5, rootA := 6 }

def fl : State :=
  { up with
      epc := { so with st := .flipping, num := 1, flipAt := 10 },
      groups := (List.range 8).map fun n => (n, {
          absent := false,
          flip := if n = 0 || n = 7 then [true, false, false, false, false, true] else List.replicate 6 false }),
      time := { now := 2000 } }

def flD : State :=
  { fl with groups := (List.range 8).map fun n => (n, { absent := false, par := List.replicate 6 true }) }

theorem wit_stagingOpens :
    (∃ (s : State) (c : TCmd), s.tblOn = true ∧ s.cuHead = some c ∧ c.op = 9 ∧ formCheck c = none ∧
      s.cu.beginWait = [] ∧ s.epc.st = .idle) ∧
    (∃ (s : State) (c : TCmd), s.tblOn = true ∧ s.cuHead = some c ∧ c.op = 9 ∧ formCheck c = none ∧
      s.cu.beginWait = [] ∧ s.epc.st = .staging) ∧
    (∃ (s : State) (c : TCmd) (l : List TCmd), s.tblOn = true ∧ s.cu.beginWait = c :: l ∧ s.epc.st = .idle) :=
  ⟨⟨wq cb {}, cb, by decide +kernel⟩,
    ⟨wq cb so, cb, by decide +kernel⟩,
    ⟨{ up with cu := { up.cu with beginWait := [cb] } }, cb, [], by decide +kernel⟩⟩

theorem wit_commitFlips :
    (∃ (s : State) (c : TCmd), s.tblOn = true ∧ s.cuHead = some c ∧ c.op = 10 ∧ formCheck c = none ∧
      s.cu.fan = [] ∧ s.stageCheck c = none ∧ s.schemaServed (s.schemaOf s.epc.s) = true) ∧
    (∃ (s : State) (pipe : Fin 48), s.pgOn (pipe / 6) = true ∧ (s.grp (pipe / 6)).flip[pipe % 6]?.getD false = true) ∧
    (∃ (s : State), s.tblOn = true ∧ s.epc.st = .flipping ∧ s.flipDone = true) ∧
    (∃ (s : State), s.tblOn = true ∧ s.epc.st = .flipping ∧ s.flipDone = false ∧ s.epc.flipAt + 1000 ≤ s.mono) :=
  ⟨⟨wq cc so, cc, by decide +kernel⟩,
    ⟨fl, 0, by decide +kernel⟩,
    ⟨flD, by decide +kernel⟩,
    ⟨fl, by decide +kernel⟩⟩

def ca := c0 (.bank .host0) (d0 11 0 0 0 0 3)

def cs := c0 (.bank .chain) (d0 14 0 0 0 0 3)

def dr (t : List Nat) : State :=
  { flD with epc := { flD.epc with st := .draining, touched := t, c := true, flipAt := 0 } }

def pk : Pkt := { bytes := List.replicate 70 1, stamp := { epoch := false } }

def drB (t : List Nat) : State := { dr t with pkts := [(4, pk)], time := { now := 10^10 } }

def flu (t : List Nat) : State := { dr t with epc := { (dr t).epc with st := .flushing } }

def flB (t : List Nat) : State := { drB t with epc := { (dr t).epc with st := .flushing } }

def ent (bd mac life w3 : Nat) : List Word :=
  [wd mac, put 31 30 life ||| put 29 16 bd ||| put 15 0 (mac / 2^32), 0, BitVec.ofNat 32 w3]

def staT : Tables :=
  { sta := [(400, ent 5 2 1 0x80000000), (401, ent 5 3 2 0x80000000), (402, ent 5 4 0 0x80000000)] }

def swp (st : EpcState) (l : List Nat) : State :=
  { flD with epc := { flD.epc with st := st, sweepTabs := l, touched := l }, tbl := staT }

theorem wit_settlePhases :
    (∃ (s : State), s.tblOn = true ∧ s.epc.st = .draining ∧ s.oldGone = true ∧ sweepOrder s.epc.touched ≠ []) ∧
    (∃ (s : State) (c : Nat) (e : Nat × Sample), let u := s.dropOldSamples; s.tblOn = true ∧
      s.epc.st = .draining ∧ s.oldGone = true ∧ sweepOrder s.epc.touched ≠ [] ∧ c < s.nClusters ∧
        e ∈ (u.clu c).samples) ∧
    (∃ (s : State), s.tblOn = true ∧ s.epc.st = .draining ∧ s.oldGone = true ∧ sweepOrder s.epc.touched = []) ∧
    (∃ (s : State), s.tblOn = true ∧ s.epc.st = .draining ∧ s.oldGone = false ∧ s.epc.flipAt + s.drainMax ≤ s.mono) ∧
    (∃ (s : State) (n : Nat), let u := s.flushStale n; s.tblOn = true ∧ s.epc.st = .flushing ∧ u.oldGone = false) ∧
    (∃ (s : State) (n : Nat), let u := s.flushStale n; s.tblOn = true ∧ s.epc.st = .flushing ∧ u.oldGone = true) ∧
    (∃ (s : State) (n : Nat) (i : Nat) (l : List Nat),
      let r := s.sweepTable Sweep.settle i s.epc.sweepPos n; let u := r.2.2; s.tblOn = true ∧
          s.epc.st = .sweeping ∧ s.epc.sweepTabs = i :: l ∧ r.2.1 = false ∧ u.epc.sweepTabs = i :: l) ∧
    (∃ (s : State) (n : Nat) (i : Nat) (l : List Nat),
      let r := s.sweepTable Sweep.settle i s.epc.sweepPos n; s.tblOn = true ∧ s.epc.st = .sweeping ∧
          s.epc.sweepTabs = i :: l ∧ r.2.1 = true ∧ l = []) ∧
    (∃ (s : State) (k : Nat), let e := s.sta k; lifeOf (wAt e 1) = 0) ∧
    (∃ (s : State) (w : Sweep) (k : Nat), let e := s.sta k; lifeOf (wAt e 1) = 1 ∧ w = Sweep.settle) ∧
    (∃ (s : State) (w : Sweep) (k : Nat), let e := s.sta k; lifeOf (wAt e 1) = 2 ∧ w = Sweep.settle) ∧
    (∃ (s : State) (w : Sweep) (k : Nat), let e := s.sta k; lifeOf (wAt e 1) = 1 ∧ w = Sweep.abort) ∧
    (∃ (s : State) (w : Sweep) (k : Nat), let e := s.sta k; lifeOf (wAt e 1) = 2 ∧ w = Sweep.abort) ∧
    (∃ (k : Nat) (j : Nat), j ≠ k) :=
  ⟨⟨dr [0, 5], by decide +kernel⟩,
    ⟨{ dr [0, 5] with clusters := [(0, { samples := [(0, { stamp := { epoch := true } })] })] }, 0,
      (0, { stamp := { epoch := true } }), by decide +kernel⟩,
    ⟨dr [], by decide +kernel⟩,
    ⟨drB [0], by decide +kernel⟩,
    ⟨flB [0], 0, by dsimp only; decide +kernel⟩,
    ⟨flu [0], 0, by dsimp only; decide +kernel⟩,
    ⟨swp .sweeping [0], 0, 0, [], by dsimp only; decide +kernel⟩,
    ⟨swp .sweeping [0], 600000, 0, [], by dsimp only; decide +kernel⟩,
    ⟨up, 0, by dsimp only; decide +kernel⟩,
    ⟨swp .sweeping [0], .settle, 400, by dsimp only; decide +kernel⟩,
    ⟨swp .sweeping [0], .settle, 401, by dsimp only; decide +kernel⟩,
    ⟨swp .sweeping [0], .abort, 400, by dsimp only; decide +kernel⟩,
    ⟨swp .sweeping [0], .abort, 401, by dsimp only; decide +kernel⟩,
    ⟨0, 5, by decide +kernel⟩⟩

theorem wit_abortAndWait :
    (∃ (s : State) (c : TCmd), s.tblOn = true ∧ s.cuHead = some c ∧ c.op = 11 ∧ formCheck c = none ∧
      s.stageCheck c = none) ∧
    (∃ (s : State) (v : Word), s.Open domTbl ∧ bit v 31 = true ∧ s.epc.st = .staging) ∧
    (∃ (s : State) (n : Nat) (i : Nat), let r := s.sweepTable Sweep.abort i s.epc.sweepPos n; s.tblOn = true ∧
      s.epc.st = .aborting ∧ s.epc.sweepTabs = [i] ∧ r.2.1 = true) ∧
    (∃ (s : State) (c : TCmd), s.tblOn = true ∧ s.cuHead = some c ∧ c.op = 14 ∧ s.cuPop.cmdCheck c = none ∧
      (s.epc.st = .idle ∨ s.epc.st = .staging)) ∧
    (∃ (s : State) (c : TCmd), s.tblOn = true ∧ s.cuHead = some c ∧ c.op = 14 ∧ s.cuPop.cmdCheck c = none ∧
      s.epc.st ≠ .idle ∧ s.epc.st ≠ .staging) :=
  ⟨⟨wq ca so, ca, by decide +kernel⟩,
    ⟨wq cb so, 0x80000000, by unfold State.Open; decide +kernel⟩,
    ⟨swp .aborting [0], 600000, 0, by dsimp only; decide +kernel⟩,
    ⟨wq cs {}, cs, by decide +kernel⟩,
    ⟨wq cs (dr [0]).epc, cs, by decide +kernel⟩⟩

end Commit

namespace Clusters

def sl : Slot := { valid := true, mask := 0xFFFF, words := 100, pktEntry := 5, bgEntry := 9 }

def cl : Cluster := { slots := [sl, sl] }

def cs (c : Cluster) : State := { up with clusters := [(0, c), (63, c)] }

/-- Admitted clusters whose threads hold packets and re-execute samples. -/
def pks : State :=
  { ((cs cl).setRg .necCtl 0 0 1).setRg .necCtl 63 0 0x10001 with
      pkts := [(4, { stamp := { seq := 9, lport := 2 } }), (0, { stamp := { seq := 7, lport := 255 } })],
      threads := [(0, { st := .run, pkt := some 4 }), (135, { st := .run, sample := some 0 })],
      clusters := [(0, { cl with samples := [(0, {})] })] }

theorem wit_clusterControl :
    (∃ (s : State) (c : Fin 64), s.Open (domPg (c / 8))) ∧
    (∃ (s : State) (c : Fin 64), s.cluOn c = true ∧ (s.clu c).resetting = true ∧ (s.clu c).resetAt + 100 ≤ s.mono) ∧
    (∃ (s : State) (c : Fin 64) (i : Fin 2) (v : Word), s.Open (domPg (c / 8)) ∧ bit v 31 = false ∧
      bit v (29 + i) = true ∧ (s.activeSlotOf c ≠ i ∨ s.admits c = false)) ∧
    (∃ (s : State) (c : Fin 64) (v : Word), s.Open (domPg (c / 8)) ∧ bit v 31 = false ∧ s.drainedClu c = true) ∧
    (∃ (s : State) (c : Fin 64) (v : Word), s.Open (domPg (c / 8)) ∧ bit v 31 = false ∧ bit v 30 = false ∧
      bit v 29 = false ∧ bit v 0 = true ∧ b2n (bit v 16) = s.activeSlotOf c ∧
        (s.slot c (s.activeSlotOf c)).valid = true ∧ s.reload.stale.contains (c / 8) = false ∧
          (s.clu c).resetting = false) ∧
    (∃ (s : State) (c : Fin 64), s.cluOn c = true) ∧
    (∃ (s : State) (c : Fin 64) (k p : Nat), s.Open (domPg (c / 8)) ∧ k / 136 = c ∧ (s.thr k).sample = none ∧
      (s.thr k).pkt = some p) ∧
    (∃ (s : State) (c : Fin 64) (v : Word), s.Open (domPg (c / 8)) ∧ bit v 31 = false ∧ bit v 0 = false) ∧
    (∃ (s : State) (c : Fin 64) (k i : Nat), s.Open (domPg (c / 8)) ∧ s.admits c = true ∧ k / 136 = c ∧
      (s.thr k).sample = some i ∧ (s.clu c).samples.any (fun e => e.1 == i) = true) :=
  ⟨⟨up, 0, by unfold State.Open; decide +kernel⟩,
    ⟨cs { cl with resetting := true }, 0, by decide +kernel⟩,
    ⟨up, 0, 0, 0x20000000, by unfold State.Open; decide +kernel⟩,
    ⟨up, 0, 0x40000000, by unfold State.Open; decide +kernel⟩,
    ⟨cs cl, 0, 1, by unfold State.Open; decide +kernel⟩,
    ⟨up, 0, by decide +kernel⟩,
    ⟨pks, 0, 0, 4, by unfold State.Open; decide +kernel⟩,
    ⟨pks, 0, 0, by unfold State.Open; decide +kernel⟩,
    ⟨pks, 0, 135, 0, by unfold State.Open; decide +kernel⟩⟩

end Clusters

namespace Images

def sl : Slot := { valid := true, mask := 0xFFFF, words := 100, pktEntry := 5, bgEntry := 9 }

def cl : Cluster := { slots := [sl, sl] }

def img (i : ImagePort) : State :=
  { up with img := i, clusters := [(0, cl)], cstore := [(0, 7), (csKey 63 0 16383, 9)] }

def imgHdr : List Word := [0x4E534853, 0x00400100, 0, 2, 0, 4] ++ List.replicate 10 0

/-- A load whose next word completes a microword, and one at its CRC word. -/
def im2 (acc : List Byte) : ImagePort :=
  { state := 2, hdr := imgHdr, bytes := 64 + 16, clusters := [0, 63], acc := acc, word := 1, slot := 1 }

def imc (filled : Bool) (fmt : Nat) : ImagePort :=
  { state := 2, hdr := imgHdr, bytes := 64 + 36 + 4, clusters := [0, 63], slot := 1, filled := filled,
    treeFmt := fmt, crc := 0x7FFFFFFF }

/-- A load with one word of its header to come, whose magic number is as given. -/
def imh (magic : Word) : State :=
  { img { state := 1, hdr := (imgHdr.take 15).set 0 magic, bytes := 60, clusters := [63], slot := 1 } with
      clusters := [(0, cl), (63, cl)] }

theorem wit_imageLoad :
    (∃ (s : State), s.Open domTbl) ∧
    (∃ (s : State) (v : Word), s.Open domTbl ∧ bit v 31 = false ∧ s.img.busy = true) ∧
    (∃ (s : State), s.Open domTbl ∧ s.img.state = 1 ∧ s.img.crcOk = false ∧ s.img.hdr.length < 15) ∧
    (∃ (s : State), s.Open domTbl ∧ s.img.busy = true ∧ s.img.crcOk = false) ∧
    (∃ (s : State), s.tblOn = true ∧ s.img.state = 2 ∧ s.img.filled = false) ∧
    (∃ (s : State) (v : Word), s.Open domTbl ∧ s.img.state = 1 ∧ s.img.crcOk = false ∧ s.img.hdr.length = 15 ∧
      s.imgHeader (s.img.hdr ++ [v]) = 0) ∧
    (∃ (s : State) (v : Word), s.Open domTbl ∧ s.img.state = 1 ∧ s.img.crcOk = false ∧ s.img.hdr.length = 15 ∧
      s.imgHeader (s.img.hdr ++ [v]) ≠ 0) ∧
    (∃ (s : State) (v : Word), s.Open domTbl ∧ s.img.state = 2 ∧ s.img.crcOk = false ∧
      s.img.bytes < 64 + imgWordsLen s.img.hdr ∧ 14 ≤ s.img.acc.length ∧ s.img.acc.length < 18 ∧
      s.img.word < fld (wAt s.img.hdr 3) 14 0 ∧ s.img.word < 16384 ∧ s.img.slot < 2 ∧
      parityOk (microBytes (s.img.acc ++ leBytes v)) = true) ∧
    (∃ (s : State) (v : Word), s.Open domTbl ∧ s.img.state = 2 ∧ s.img.crcOk = false ∧
      s.img.bytes < 64 + imgWordsLen s.img.hdr ∧ 14 ≤ s.img.acc.length ∧ s.img.acc.length < 18 ∧
      s.img.word < fld (wAt s.img.hdr 3) 14 0 ∧ s.img.word < 16384 ∧ s.img.slot < 2 ∧
      parityOk (microBytes (s.img.acc ++ leBytes v)) = false) ∧
    (∃ (s : State) (v : Word), s.Open domTbl ∧ s.img.state = 2 ∧ s.img.crcOk = false ∧
      64 + imgWordsLen s.img.hdr + (wAt s.img.hdr 5).toNat ≤ s.img.bytes ∧ v ≠ ~~~ s.img.crc) ∧
    (∃ (s : State) (v : Word), s.Open domTbl ∧ s.img.state = 2 ∧ s.img.crcOk = false ∧
      64 + imgWordsLen s.img.hdr + (wAt s.img.hdr 5).toNat ≤ s.img.bytes ∧ v = ~~~ s.img.crc ∧ s.img.treeFmt ≠ 1) ∧
    (∃ (s : State) (v : Word), s.Open domTbl ∧ s.img.state = 2 ∧ s.img.crcOk = false ∧
      64 + imgWordsLen s.img.hdr + (wAt s.img.hdr 5).toNat ≤ s.img.bytes ∧ v = ~~~ s.img.crc ∧ s.img.treeFmt = 1 ∧
      s.img.filled = true) :=
  ⟨⟨up, by unfold State.Open; decide +kernel⟩,
    ⟨img { state := 1 }, 0x40000000, by unfold State.Open; decide +kernel⟩,
    ⟨img { state := 1 }, by unfold State.Open; decide +kernel⟩,
    ⟨img { state := 1 }, by unfold State.Open; decide +kernel⟩,
    ⟨img { state := 2, hdr := imgHdr, bytes := 64, clusters := [0, 63] }, by decide +kernel⟩,
    ⟨imh 0x4E534853, 0, by unfold State.Open; decide +kernel⟩,
    ⟨imh 5, 0, by unfold State.Open; decide +kernel⟩,
    ⟨img (im2 (List.replicate 14 0)), 0, by unfold State.Open; decide +kernel⟩,
    ⟨img (im2 (List.replicate 14 0)), 1, by unfold State.Open; decide +kernel⟩,
    ⟨img (imc true 1), 0, by unfold State.Open; decide +kernel⟩,
    ⟨img (imc true 0), 0x80000000, by unfold State.Open; decide +kernel⟩,
    ⟨img (imc true 1), 0x80000000, by unfold State.Open; decide +kernel⟩⟩

end Images

namespace Sentinel

def sl : Slot := { valid := true, mask := 0xFFFF, words := 100, pktEntry := 5, bgEntry := 9 }

def cl : Cluster := { slots := [sl, sl] }

def cs (c : Cluster) : State := { up with clusters := [(0, c), (63, c)] }

def smp1 : Sample := { engine := 3, p1 := some 5, s1 := some 5 }

def sst (x : Sample) : Cluster := { cl with samples := [(0, x), (7, x)] }

def sen (c : Cluster) : State :=
  { (((cs c).setRg .necSentCfg 0 0 0x80000004).setRg .necSentCfg 63 0 0x80000004) with time := { now := 0 } }

theorem wit_sentinels :
    (∃ (s : State) (c : Fin 64) (i : Fin 8) (x : Sample) (p : Word) (d : Word), s.cluOn c = true ∧
      s.sample c i = some x ∧ x.recheck = false ∧ x.void = false ∧ x.p1 = some p ∧ x.s1 = some d) ∧
    (∃ (s : State) (c : Fin 64) (i : Fin 8) (x : Sample) (th : Nat), s.cluOn c = true ∧ s.sample c i = some x ∧
      x.recheck = true ∧ x.again = false ∧
        List.find? (fun t => decide ((s.thr (thrKey c x.engine t)).st = .idle) &&
          ! (x.engine == (s.clu c).sentinel && t == i.val)) (List.range 8) = some th ∧
          (s.thr (thrKey c (s.clu c).sentinel i)).st = .idle) ∧
    (∃ (s : State) (c : Fin 64) (i : Fin 8) (x : Sample) (p2 : Word) (s2 : Word), s.cluOn c = true ∧
      s.sample c i = some x ∧ x.recheck = true ∧ x.again = true ∧ x.void = false ∧ x.p2 = some p2 ∧
        x.s2 = some s2 ∧ p2 = s2) ∧
    (∃ (s : State) (c : Fin 64) (i : Fin 8) (x : Sample) (p2 : Word) (s2 : Word), s.cluOn c = true ∧
      s.sample c i = some x ∧ x.recheck = true ∧ x.again = true ∧ x.void = false ∧ x.p2 = some p2 ∧
        x.s2 = some s2 ∧ p2 ≠ s2 ∧ (s.clu c).selfTest = true) ∧
    (∃ (s : State) (c : Fin 64) (i : Fin 8) (x : Sample) (p2 : Word) (s2 : Word), s.cluOn c = true ∧
      s.sample c i = some x ∧ x.recheck = true ∧ x.again = true ∧ x.void = false ∧ x.p2 = some p2 ∧
        x.s2 = some s2 ∧ p2 ≠ s2 ∧ (s.clu c).selfTest = false) ∧
    (∃ (s : State) (c : Fin 64), s.cluOn c = true ∧ (s.clu c).sentinel < 17 ∧
      ((s.clu c).rearm = true ∨ s.sentEn c = true ∧ (s.clu c).checker = false) ∧ s.spareHalted c = false) ∧
    (∃ (s : State) (c : Fin 64), s.cluOn c = true ∧ (s.clu c).sentinel < 17 ∧
      ((s.clu c).rearm = true ∨ s.sentEn c = true ∧ (s.clu c).checker = false) ∧ s.spareHalted c = false) ∧
    (∃ (s : State) (c : Fin 64) (e : Nat), s.cluOn c = true ∧ (s.clu c).sentinel < 17 ∧
      (s.clu c).spareDue = some e ∧ s.engineBusy c e = false) ∧
    (∃ (s : State) (c : Fin 64) (v : Word), s.Open (domPg (c / 8)) ∧ bit v 30 = true ∧ (s.clu c).sentinel < 17) ∧
    (∃ (s : State) (c : Fin 64) (e : Nat), s.cluOn c = true ∧ (s.clu c).sentinel < 17 ∧
      (s.clu c).spareUsed = false ∧ (s.clu c).spareDue = none ∧ (s.clu c).checker = false ∧
        (s.clu c).rotating = none ∧ s.now % 86400000000000 = c * 1350000000000 ∧ s.nextSentinel c = some e) ∧
    (∃ (s : State) (c : Fin 64) (e : Nat), s.cluOn c = true ∧ (s.clu c).sentinel < 17 ∧
      (s.clu c).rotating = some e ∧ s.engineBusy c e = false) ∧
    (∃ (s : State) (c : Fin 64), s.regOn = true ∧ c < s.nClusters) ∧
    (∃ (s : State) (c e : Nat), s.isRetired c e = true) :=
  ⟨⟨sen (sst smp1), 0, 0, smp1, 5, 5, by decide +kernel⟩,
    ⟨sen (sst { smp1 with recheck := true }), 0, 0, { smp1 with recheck := true }, 0, by decide +kernel⟩,
    ⟨sen (sst { smp1 with recheck := true, again := true, p2 := some 5, s2 := some 5 }), 0, 0,
      { smp1 with recheck := true, again := true, p2 := some 5, s2 := some 5 }, 5, 5, by decide +kernel⟩,
    ⟨sen { sst { smp1 with recheck := true, again := true, p2 := some 5, s2 := some 6 } with selfTest := true }, 0, 0, { smp1 with recheck := true, again := true, p2 := some 5, s2 := some 6 }, 5, 6, by decide +kernel⟩,
    ⟨sen (sst { smp1 with recheck := true, again := true, p2 := some 5, s2 := some 6 }), 0, 0,
      { smp1 with recheck := true, again := true, p2 := some 5, s2 := some 6 }, 5, 6, by decide +kernel⟩,
    ⟨up, 0, by decide +kernel⟩,
    ⟨up, 0, by decide +kernel⟩,
    ⟨sen { cl with spareDue := some 3 }, 0, 3, by decide +kernel⟩,
    ⟨up, 0, 0x40000000, by unfold State.Open; decide +kernel⟩,
    ⟨sen cl, 0, 0, by decide +kernel⟩,
    ⟨sen { cl with rotating := some 0 }, 0, 0, by decide +kernel⟩,
    ⟨up, 0, by decide +kernel⟩,
    ⟨{ up with flt := { up.flt with retired := [(0, 4)] } }, 0, 2, by decide +kernel⟩⟩

end Sentinel

namespace Faults

def hr : HistRec := ⟨5, 0x12, 7⟩

def fl (f : Faults) : State :=
  { up with flt := f, time := { now := 10^9 }, clusters := [(0, { pcharge := [(3, 5)] })] }

theorem wit_faultIsRecorded :
    (∃ (s : State), s.flt.lost = false ∧ s.flt.hist.length < 32) :=
  ⟨up, by decide +kernel⟩

theorem wit_faultHistoryAndTests :
    (∃ (s : State), s.regOn = true ∧ s.now % (max 1 (fld (s.rg .fltCfg) 15 0) * 1000000000) = 0) ∧
    (∃ (s : State) (v : Word), s.regOn = true ∧ bit v 31 = true ∧ s.flt.lost = true) ∧
    (∃ (s : State) (x : HistRec) (l : List HistRec), s.live = true ∧ s.flt.lost = false ∧ s.flt.hist = x :: l) ∧
    (∃ (s : State) (m : Fin 20) (d : BitVec 16), s.regOn = true ∧ s.monitorOn m = true ∧
      d.toNat < fld (s.rg .fltAgeCfg) 31 16 ∧ d.toNat < fld (s.rg .fltAgeCfg) 15 0) ∧
    (∃ (s : State) (v : Word), s.regOn = true ∧ s.flt.testGo = false ∧ bit v 31 = true) ∧
    (∃ (s : State) (checker : Bool), s.regOn = true ∧ s.flt.testGo = true ∧
      s.flt.testAt + testTime (fld (s.rg .fltTest) 25 24) ≤ s.mono ∧
        (fld (s.rg .fltTest) 25 24 = 0 → checker = false)) ∧
    (∃ (s : State), s.regOn = true ∧ s.buf.offline = []) :=
  ⟨⟨(fl { blue := [(3, 5)] }).setRg .fltCfg 0 0 1, by decide +kernel⟩,
    ⟨fl { lost := true, flop := some hr }, 0x80000000, by decide +kernel⟩,
    ⟨fl { hist := [hr, hr] }, hr, [hr], by decide +kernel⟩,
    ⟨up, 0, 0, by decide +kernel⟩,
    ⟨up, 0x80000000, by decide +kernel⟩,
    ⟨fl { testGo := true }, false, by decide +kernel⟩,
    ⟨up, by decide +kernel⟩⟩

end Faults

namespace Scrub

def sl : Slot := { valid := true, mask := 0xFFFF, words := 100, pktEntry := 5, bgEntry := 9, load := 3 }

def csS : State :=
  { up with
      clusters := [(0, { slots := [sl, sl] }), (1, { slots := [sl, sl] }), (63, { slots := [sl, {}] })],
      cstore := [(csKey 1 0 0, 3)] }

theorem wit_scrubbing :
    (∃ (s : State) (m : Sram), s.live = true ∧ s.sramOn m = true) ∧
    (∃ (s : State) (m : Sram), s.live = true ∧ s.sramOn m = true ∧ (∀ (h : Fin 2), m ≠ Sram.hostIf h)) ∧
    (∃ (s : State) (k : Fin 4), s.live = true ∧ s.sramOn (Sram.station k) = true) ∧
    (∃ (s : State) (c : Fin 64) (i : Fin 2) (a : Fin 16384) (up : BitVec 144), s.cluOn c = true ∧
      parityOk (s.cword c i a ^^^ up) = true) ∧
    (∃ (s : State) (c : Fin 64) (i : Fin 2) (a : Fin 16384) (up : BitVec 144) (d : Nat),
      let u := s.setCword c (i) (a) (s.cword c i a ^^^ up); s.cluOn c = true ∧
          parityOk (s.cword c i a ^^^ up) = false ∧ u.partner c i a = some d) ∧
    (∃ (s : State) (c : Fin 64) (i : Fin 2) (a : Fin 16384) (up : BitVec 144),
      let u := s.setCword c (i) (a) (s.cword c i a ^^^ up); s.cluOn c = true ∧
          parityOk (s.cword c i a ^^^ up) = false ∧ u.partner c i a = none) ∧
    (∃ (s : State), s.regOn = true) ∧
    (∃ (s : State) (sx : Fin 8), s.regOn = true ∧ s.isActive (domSx sx) = true) ∧
    (∃ (s : State) (sx : Fin 8), s.regOn = true ∧ s.isActive (domSx sx) = false ∧ s.straps.refsel = false) ∧
    (∃ (s : State) (k : Fin 4), s.live = true ∧ s.sramOn (.neighbour k) = true) ∧
    (∃ (s : State) (c : Fin 64), s.live = true ∧ s.sramOn (.treeMem c) = true ∧ s.sramOn (.scratch c) = true) ∧
    (∃ (s : State) (n : Fin 8), s.live = true ∧ s.sramOn (.copyTab n) = true ∧ s.sramOn (.queueState n) = true ∧
      s.sramOn (.holding n) = true ∧ s.sramOn (.pipeState n) = true) ∧
    (∃ (s : State) (i : Nat), s.live = true ∧ s.sramOn .masters = true ∧ s.masterHeld i = true) ∧
    (∃ (s : State) (i : Nat), s.live = true ∧ s.sramOn .masters = true ∧ s.masterHeld i = false) ∧
    (∃ (s : State) (q : Fin 4) (i : Nat) (e : Nat × Buf), s.live = true ∧ s.sramOn (.buffer q) = true ∧
      e ∈ s.buf.bufs.find? (fun e => decide (e.1 ≤ q * 64 * 4096 + i / 32) &&
      decide (q * 64 * 4096 + i / 32 < e.1 + poolCells e.2.pool))) ∧
    (∃ (s : State) (h : Fin 2), s.live = true ∧ s.sramOn .repList = true ∧ s.sramOn .descriptor = true ∧
      s.sramOn .ringMem = true ∧ s.sramOn .telemetryMem = true ∧ s.sramOn (.hostIf h) = true) ∧
    (∃ (s : State), s.regOn = true ∧ s.sramOn .history = true ∧ s.flt.lost = false) ∧
    (∃ (s : State) (sx : Fin 8), s.regOn = true ∧ s.isActive (domSx sx) = true ∧ s.straps.refsel = false) :=
  ⟨⟨up, .buffer 3, by decide +kernel⟩,
    ⟨up, .buffer 3, by decide +kernel⟩,
    ⟨up, 0, by decide +kernel⟩,
    ⟨up, 0, 0, 0, 0, by decide +kernel⟩,
    ⟨csS, 0, 0, 0, 1, 1, by dsimp only; decide +kernel⟩,
    ⟨up, 0, 0, 0, 1, by dsimp only; decide +kernel⟩,
    ⟨up, by decide +kernel⟩,
    ⟨up, 0, by decide +kernel⟩,
    ⟨{ csS with dom := [] }, 0, by decide +kernel⟩,
    ⟨up, 3, by decide +kernel⟩,
    ⟨up, 63, by decide +kernel⟩,
    ⟨up, 7, by decide +kernel⟩,
    ⟨{ up with tbl := { up.tbl with sta := [(77, [5])], staR := [(77, [5])] } }, 77, by decide +kernel⟩,
    ⟨{ up with dom := (domUp.filter fun e => e.1 < 6 ∨ 13 < e.1) }, 655360, by decide +kernel⟩,
    ⟨{ up with buf := { up.buf with bufs := [(0, { pool := 1 })] } }, 0, 0, (0, { pool := 1 }), by decide +kernel⟩,
    ⟨up, 1, by decide +kernel⟩,
    ⟨up, by decide +kernel⟩,
    ⟨up, 7, by decide +kernel⟩⟩

end Scrub

namespace Power

def dm (k : Nat) (d : Domain) : State :=
  { up with dom := up.dom.map fun e => if e.1 = k then (k, d) else e, time := { now := 20000 } }

theorem wit_powerShades :
    (∃ (s : State) (k : Fin 26) (v : Word) (x : Shade), s.regOn = true ∧ s.fusedDom k = false ∧
      bit v 23 = false ∧ Shade.ofCode (fld v 31 29) = some x ∧ (s.dmn k).resetting = false) ∧
    (∃ (s : State) (k : Fin 26) (x : Shade), s.live = true ∧ ((s.dmn k).step = some x ∨ (s.dmn k).step = none ∧
      (s.dmn k).moving = true ∧ nextShade k (s.dmn k).shade.code (s.dmn k).goal.code = some x) ∧
        x.code < (s.dmn k).shade.code ∧ ((s.dmn k).step = none → (s.dmn k).shade = .black → s.mayRise k = true)) ∧
    (∃ (s : State) (k : Fin 26) (x : Shade), s.live = true ∧ ((s.dmn k).step = some x ∨ (s.dmn k).step = none ∧
      (s.dmn k).moving = true ∧ nextShade k (s.dmn k).shade.code (s.dmn k).goal.code = some x) ∧
        (s.dmn k).shade.code < x.code ∧ ((s.dmn k).step = none → s.mayLeave k = true) ∧ s.stepWait k x = true) ∧
    (∃ (s : State) (k : Fin 26) (x : Shade), s.live = true ∧ ((s.dmn k).step = some x ∨ (s.dmn k).step = none ∧
      (s.dmn k).moving = true ∧ nextShade k (s.dmn k).shade.code (s.dmn k).goal.code = some x) ∧
        (s.dmn k).shade.code < x.code ∧ (s.dmn k).step = none ∧ s.mayLeave k = false) ∧
    (∃ (s : State) (k : Fin 26) (t0 : Nat), s.live = true ∧ (s.dmn k).woken = some t0 ∧ t0 + 10000 ≤ s.mono ∧
      (s.dmn k).shade = .active ∧ s.mayLeave k = true ∧ s.stepWait k .pale = true) ∧
    (∃ (s : State) (k : Fin 26), s.regOn = true ∧ s.fusedDom k = false ∧ 3 ≤ k) :=
  ⟨⟨State.reset, 0, 0, .active, by decide +kernel⟩,
    ⟨dm 25 { target := .active, shade := .black, moving := true }, 25, .slate, by decide +kernel⟩,
    ⟨dm 4 { target := .slate, shade := .active, moving := true }, 4, .pale, by decide +kernel⟩,
    ⟨dm 25 { target := .slate, shade := .active, moving := true }, 25, .pale, by decide +kernel⟩,
    ⟨dm 4 { target := .pale, shade := .active, woken := some 10 }, 4, 10, by decide +kernel⟩,
    ⟨State.reset, 3, by decide +kernel⟩⟩

end Power

namespace Reload

theorem wit_reloading :
    (∃ (s : State), s.regOn = true) ∧
    (∃ (s : State) (n : Fin 8), s.tblOn = true ∧ s.reload.go.contains n = true) :=
  ⟨⟨State.reset, by decide +kernel⟩,
    ⟨{ up with
        reload := { go := [0, 7], stale := [0, 3, 7] },
        tbl := { up.tbl with
            tree := [(5, [1,2]), (65535, [3])],
            treeG := [(65536 * 7 + 6, [9]), (65536 + 3, [4])] } }, 0, by decide +kernel⟩⟩

end Reload

namespace Time

def pps (t : TimeUnit) : State := { up.setRg .timeCtl 0 0 0x80000005 with time := t }

theorem wit_deviceTime :
    (∃ (s : State), let e := ppsErr s.now; let thr := max 1 (fld (s.rg .timeCtl) 15 0) * 1000; s.timeOn = true ∧
      s.ppsEn = true ∧ (s.time.edgeSeen = false ∨ s.time.ref + 900000000 ≤ s.mono) ∧ s.time.armed = none ∧
        e.natAbs < thr) ∧
    (∃ (s : State), let e := ppsErr s.now; let thr := max 1 (fld (s.rg .timeCtl) 15 0) * 1000; s.timeOn = true ∧
      s.ppsEn = true ∧ (s.time.edgeSeen = false ∨ s.time.ref + 900000000 ≤ s.mono) ∧ s.time.armed = none ∧
        thr ≤ e.natAbs) ∧
    (∃ (s : State) (sec : Nat), s.timeOn = true ∧ s.ppsEn = true ∧
      (s.time.edgeSeen = false ∨ s.time.ref + 900000000 ≤ s.mono) ∧ s.time.armed = some sec) ∧
    (∃ (s : State), s.timeOn = true ∧ s.ppsEn = true ∧ s.time.missed = false ∧ s.time.ref + 1100000000 ≤ s.mono) ∧
    (∃ (s : State), s.regOn = true) :=
  ⟨⟨pps { now := 1000000003 }, by dsimp only; decide +kernel⟩,
    ⟨pps { now := 1000900003 }, by dsimp only; decide +kernel⟩,
    ⟨pps { now := 1000000003, armed := some 7 }, _, by decide +kernel, by decide +kernel, by decide +kernel, rfl⟩,
    ⟨pps { now := 4000000000, ref := 2000000000 }, by decide +kernel⟩,
    ⟨up, by decide +kernel⟩⟩

end Time

namespace Resets

theorem wit_resetsAndClocks :
    (∃ (s : State) (v : Word), s.regOn = true ∧ bit v 31 = true ∧ fld v 7 0 = 196) ∧
    (∃ (s : State) (v : Word), s.regOn = true ∧ bit v 31 = false ∧ bit v 8 = true) ∧
    (∃ (s : State) (k : Fin 156), s.regOn = true ∧ 64 ≤ k ∧ k ≠ 154 ∧ s.clkOk k = true ∧
      s.fusedDom (clkDomain k) = false ∧ s.pllRuns k = true) ∧
    (∃ (s : State) (x : Int), x ≤ s.ident.variant.tjMax - 5) ∧
    (∃ (s : State) (x : Int), s.ident.variant.tjMax ≤ x ∧ x < s.ident.variant.tjMax + 10 ∧
      s.flt.hotWarn = false ∧ s.flt.hotCrit = false) ∧
    (∃ (s : State) (k : Fin 156), s.regOn = true ∧ (k.val = 146 ∨ k.val = 147) ∧ s.clkOk k = true ∧
      s.fusedDom (clkDomain k) = false ∧ s.pllRuns k = true) :=
  ⟨⟨State.reset, 0x800000C4, by decide +kernel⟩,
    ⟨State.reset, 0x100, by decide +kernel⟩,
    ⟨up, 64, by decide +kernel⟩,
    ⟨State.reset, -3, by decide +kernel⟩,
    ⟨State.reset, 105, by decide +kernel⟩,
    ⟨up, 146, by decide +kernel⟩⟩

end Resets

namespace Ledger

theorem wit_countingBalances :
    (∃ (lp : Nat), lp < 256) ∧
    (∃ (s : State) (d : Nat), twf (fun _ => { }) s.buf.descs = true ∧ d ∈ tkeys s.buf.descs ∧
      (s.desc d).lport < 256) :=
  ⟨⟨0, by decide +kernel⟩,
    ⟨{ up with buf := { up.buf with descs := [(3, { buf := 5, len := 64, lport := 7 })], bufs := [(5, { bytes := [1], refs := 1 })] } }, 3, by decide +kernel⟩⟩

end Ledger

namespace Telemetry

def led : Ledger := { open_ := true, cnt := [(0, 3), (16, 2)], rsn := [(0, 1)], imb := [⟨1, 2, 3⟩] }

def tl : Telem :=
  {
      periodDue := true,
      bins := [(3, 4)],
      enq := [(1,1)],
      digs := [[1,2,3,4,5,6,7,8]],
      bwWin := [(0, 100000), (511, 5)],
      bwPeak := [(0, 5), (511, 9), (1, 3), (7, 7)] }

theorem wit_telemetryIntervals :
    (∃ (s : State), s.telOn = true ∧ s.ledDue = true ∧ s.led.latched = false) ∧
    (∃ (s : State), s.telOn = true ∧ s.ledDue = true ∧ s.led.latched = true) ∧
    (∃ (s : State), s.telOn = true ∧ s.led.due = true ∧ s.failing = []) ∧
    (∃ (s : State), s.telOn = true ∧ s.tel.periodDue = true) ∧
    (∃ (s : State), s.telOn = true ∧ s.tel.digs ≠ [] ∧ s.tel.digAt + 10000 ≤ s.now) ∧
    (∃ (s : State), s.telOn = true ∧ s.bwEnd ≤ s.now) ∧
    (∃ (s : State) (v : Word), s.Open domTel ∧ bit v 1 = false) ∧
    (∃ (s : State), s.Open domTel) ∧
    (∃ (s : State), s.Open domTel) ∧
    (∃ (s : State) (x : ImbRec) (l : List ImbRec), s.Open domTel ∧ s.live = true ∧ s.led.imb = x :: l) ∧
    (∃ (s : State) (c : Fin 64) (w : Word) (l : List Word), s.Open (domPg (c / 8)) ∧ s.live = true ∧
      (s.clu c).mcLog = w :: l) ∧
    (∃ (s : State) (group par : Bool) (index : Nat), s.telOn = true ∧ s.led.due = true ∧
      s.failing = [(group, index, par)] ∧ s.reactions 26 .orange < 2 ∧ s.flt.lost = false ∧ s.flt.hist.length < 32 ∧
      s.led.imb.length + (s.acctFails (group, index, par)).length ≤ 16) :=
  ⟨⟨{ up with
      led := led,
      tel := tl,
      time := { now := 10^9 },
      clusters := [(0, { mcLog := [7, 8] }), (63, { mcLog := [9] })],
      wide := [(regAddr .pmcCntLo 0 0 0, 5)] }, by decide +kernel⟩,
    ⟨{ up with led := { led with latched := true }, time := { now := 10^9 } }, by decide +kernel⟩,
    ⟨{ up with led := { due := true } }, by decide +kernel⟩,
    ⟨{ up with
        led := led,
        tel := tl,
        time := { now := 10^9 },
        clusters := [(0, { mcLog := [7, 8] }), (63, { mcLog := [9] })],
        wide := [(regAddr .pmcCntLo 0 0 0, 5)] }, by decide +kernel⟩,
    ⟨{ up with
        led := led,
        tel := tl,
        time := { now := 10^9 },
        clusters := [(0, { mcLog := [7, 8] }), (63, { mcLog := [9] })],
        wide := [(regAddr .pmcCntLo 0 0 0, 5)] }, by decide +kernel⟩,
    ⟨up, by decide +kernel⟩,
    ⟨up, 9, by unfold State.Open; decide +kernel⟩,
    ⟨up, by unfold State.Open; decide +kernel⟩,
    ⟨up, by unfold State.Open; decide +kernel⟩,
    ⟨{ up with
        led := led,
        tel := tl,
        time := { now := 10^9 },
        clusters := [(0, { mcLog := [7, 8] }), (63, { mcLog := [9] })],
        wide := [(regAddr .pmcCntLo 0 0 0, 5)] }, ⟨1, 2, 3⟩, [], by unfold State.Open; decide +kernel⟩,
    ⟨{ up with
        led := led,
        tel := tl,
        time := { now := 10^9 },
        clusters := [(0, { mcLog := [7, 8] }), (63, { mcLog := [9] })],
        wide := [(regAddr .pmcCntLo 0 0 0, 5)] }, 0, 7, [8], by unfold State.Open; decide +kernel⟩,
    ⟨{ up with led := { due := true, lat := [(8192, 3)] } }, true, false, 0, by decide +kernel⟩⟩

end Telemetry

namespace Access

def w4 : State :=
  { ((up.setRg .winB4 0 0 0x80000400 0).setRg .winB4 0 1 0x80000410 1) with dram := { ch := [(0, { st := .service })], mem := [] } }

theorem wit_hostAccesses :
    (∃ (s : State) (h : Fin 2), s.hostServes h = true) ∧
    (∃ (s : State) (h : Fin 2), s.hostServes h = true ∧ (s.hst h).mse = false) ∧
    (∃ (s : State) (h : Fin 2) (off : Nat), s.hostServes h = true ∧ (s.hst h).mse = false ∧ off < 2 ^ 32) ∧
    (∃ (s : State) (h : Fin 2) (off : Nat), s.hostServes h = true ∧ (s.hst h).mse = false ∧ off < 2 ^ 32) ∧
    (∃ (s : State) (h : Fin 2), s.hostServes h = true ∧ (s.hst h).mse = true) ∧
    (∃ (s : State) (h : Fin 2) (off : Nat), s.hostServes h = true ∧ (s.hst h).mse = true ∧ off < 2 ^ 32 ∧
      s.window4 h off = none) ∧
    (∃ (s : State) (h : Fin 2) (off : Nat), s.hostServes h = true ∧ (s.hst h).mse = true ∧ off < 2 ^ 32 ∧
      s.window4 h off = none) ∧
    (∃ (s : State) (h : Fin 2) (off : Nat) (len : Nat) (a : Nat), s.hostServes h = true ∧
      (s.hst h).mse = true ∧ off < 2 ^ 32 ∧ s.window4 h off = some a ∧ dramBase ≤ a ∧ s.Open domDram ∧
        s.inService a = true ∧ s.live = true ∧ len ≤ 2 ^ 28 - off % 2 ^ 28) ∧
    (∃ (s : State) (h : Fin 2) (off : Nat) (len : Nat) (a : Nat), s.hostServes h = true ∧
      (s.hst h).mse = true ∧ off < 2 ^ 32 ∧ s.window4 h off = some a ∧ dramBase ≤ a ∧ s.Open domDram ∧
        s.inService a = true ∧ s.live = true ∧ len ≤ 2 ^ 28 - off % 2 ^ 28) ∧
    (∃ (s : State) (r : Req) (v : Word),
      let a := BitVec.toNat (v &&& 4294967292); let w := s.staged r a; let n := [fld w.1 8 0, fld w.1 24 16,
          fld w.2 8 0, fld w.2 24 16]; s.regOn = true ∧ a = regAddr .bufCarveLo 0 0 0 ∧
            256 < List.foldl (fun x1 x2 => x1 + x2) 0 n) ∧
    (∃ (s : State) (r : Req) (v : Word),
      let a := BitVec.toNat (v &&& 4294967292); let w := s.staged r a; let n := [fld w.1 8 0, fld w.1 24 16,
          fld w.2 8 0, fld w.2 24 16]; s.regOn = true ∧ a = regAddr .bufCarveLo 0 0 0 ∧
            List.foldl (fun x1 x2 => x1 + x2) 0 n ≤ 256) ∧
    (∃ (s : State) (r : Req) (v : Word), let a := BitVec.toNat (v &&& 4294967292); s.regOn = true ∧
      regAt a = none ∧ r = .host0) ∧
    (∃ (s : State) (h : Fin 2) (n : Nat), s.hostServes h = true ∧ (s.hst h).mse = true ∧ n < 1024 ∧ s.Open domTel ∧
      s.userMay h n = true) ∧
    (∃ (s : State) (h : Fin 2) (n : Nat), s.hostServes h = true ∧ (s.hst h).mse = true ∧ n < 1024 ∧ s.Open domTel ∧
      s.userMay h n = false) ∧
    (∃ (s : State) (r : Req) (a k : Nat), s.regOn = true ∧ a < 2 ^ 32 ∧ a % 4 = 0 ∧ msixAt a = none ∧
      (regAt a).isNone = true ∧ s.intDom r a = some k ∧ (s.dmn k).shade = .pale) :=
  ⟨⟨up, 0, by decide +kernel⟩,
    ⟨{ w4 with hosts := [(0, { host with cfg := [(4, 0x100004)] }), (1, { host with cfg := [(4, 0x100004)] })] }, 0, by decide +kernel⟩,
    ⟨{ w4 with hosts := [(0, { host with cfg := [(4, 0x100004)] }), (1, { host with cfg := [(4, 0x100004)] })] }, 0, 0, by decide +kernel⟩,
    ⟨{ w4 with hosts := [(0, { host with cfg := [(4, 0x100004)] }), (1, { host with cfg := [(4, 0x100004)] })] }, 0, 0, by decide +kernel⟩,
    ⟨up, 0, by decide +kernel⟩,
    ⟨up, 0, 0, by decide +kernel⟩,
    ⟨up, 0, 0, by decide +kernel⟩,
    ⟨w4, 0, 0, 0, _, by decide +kernel, by decide +kernel, by decide +kernel, rfl, by decide +kernel,
      by unfold State.Open; decide +kernel, by decide +kernel, by decide +kernel, by decide +kernel⟩,
    ⟨w4, 0, 0, 0, _, by decide +kernel, by decide +kernel, by decide +kernel, rfl, by decide +kernel,
      by unfold State.Open; decide +kernel, by decide +kernel, by decide +kernel, by decide +kernel⟩,
    ⟨(up.setPv .host0 (0x11000000) 0x01000101), .host0, 0x11000000, by dsimp only; decide +kernel⟩,
    ⟨State.reset, .host0, 0x11000000, by dsimp only; decide +kernel⟩,
    ⟨State.reset, .host0, 0x1FFFFFF0, by dsimp only; decide +kernel⟩,
    ⟨((up.setRg .pciUsrEn 0 0 1).setRg .pciUsrEn 1 0 1).setRg .pmcUsrPerm 0 0 1, 0, 0, by unfold State.Open; decide +kernel⟩,
    ⟨up, 0, 1023, by unfold State.Open; decide +kernel⟩,
    ⟨{ up with dom := domUp.map fun e => (e.1, { e.2 with shade := .pale, target := .pale }) }, .host0, 50331700, domTbl,
      by decide +kernel⟩⟩

end Access

namespace HostLinks

def hs (f : HostFn) : State := { up with hosts := [(0, f), (1, f)], time := { now := 10^9 } }

def mine : State :=
  { (hs host) with
      epc := { st := .staging, owner := some .host0, token := 3 },
      rings := [(0, { en := true }), (51, { en := true, inFlight := 2 }), (52, { en := true }), (103, { en := true, dev := 4 })],
      dma := [(0, { st := .running }), (15, { st := .running })] }

def l0 : State :=
  ((hs { host with cfg := [(4, 0x100006), (0x60, 3)] }).setRg .pciPmCfg 0 0 0x00640A00).setRg .pciPmCfg 1 0 0x00640A00

theorem wit_linkEvents :
    (∃ (s : State) (h : Fin 2), s.hostOn h = true ∧ (s.hst h).linkUp = true ∧ (s.hst h).mse = true) ∧
    (∃ (s : State) (h : Fin 2), s.hostOn h = true ∧ s.mayL0s h = true) ∧
    (∃ (s : State) (h : Fin 2), s.hostOn h = true ∧ s.mayL1 h = true) ∧
    (∃ (s : State) (h : Fin 2), s.hostOn h = true ∧ s.hostIn h = true ∧ (s.hst h).linkUp = false) ∧
    (∃ (s : State) (h : Fin 2), (s.hst h).present = true ∧ s.hostIn h = true ∧ (s.hst h).linkUp = true) ∧
    (∃ (s : State) (h : Fin 2), (s.hst h).present = true ∧ s.hostIn h = true ∧ (s.hst h).linkUp = true ∧
      s.hostOn h = true) ∧
    (∃ (s : State) (h : Fin 2), (s.hst h).present = true ∧ s.hostIn h = true ∧ (s.hst h).linkUp = true ∧
      s.hostOn h = true ∧ (s.hst h).bme = true) ∧
    (∃ (s : State) (h : Fin 2), (s.hst h).present = true ∧ s.hostIn h = true) ∧
    (∃ (s : State) (h : Fin 2) (r : Req), (s.hst h).present = true ∧ s.hostIn h = true ∧ s.regOn = true ∧
      mayBank r h = true) ∧
    (∃ (s : State) (r : Req) (h : Fin 2) (v : Word), s.regOn = true ∧ mayBank r h = true ∧ bit v 1 = false ∧
      (s.hst h).bme = true ∧ s.hostIn h = true) :=
  ⟨⟨hs host, 0, by decide +kernel⟩,
    ⟨l0, 0, by decide +kernel⟩,
    ⟨l0, 0, by decide +kernel⟩,
    ⟨State.reset, 0, by decide +kernel⟩,
    ⟨hs host, 0, by decide +kernel⟩,
    ⟨hs host, 0, by decide +kernel⟩,
    ⟨hs host, 0, by decide +kernel⟩,
    ⟨hs host, 0, by decide +kernel⟩,
    ⟨hs host, 0, .host0, by decide +kernel⟩,
    ⟨hs host, .host0, 0, 0, by decide +kernel⟩⟩

theorem wit_hostLoss :
    (∃ (s : State) (h : Fin 2), s.hostPicked h = []) ∧
    (∃ (s : State) (h : Fin 2) (i : Nat), s.hostPicked h = [] ∧ i < 52) ∧
    (∃ (s : State) (h : Fin 2) (n : Nat), s.hostPicked h = [] ∧ s.chanOwner n = h) ∧
    (∃ (s : State) (h : Fin 2) (n : Nat), s.hostPicked h = [] ∧ s.chanOwner n ≠ h) ∧
    (∃ (s : State) (h : Fin 2), s.hostPicked h = [] ∧ s.epc.owner = some (hostReq h) ∧ s.epc.st = .staging) ∧
    (∃ (s : State) (h : Fin 2), s.hostPicked h = [] ∧ s.epc.owner ≠ some (hostReq h)) :=
  ⟨⟨State.reset, 0, by decide +kernel⟩,
    ⟨State.reset, 0, 0, by decide +kernel⟩,
    ⟨State.reset, 0, 0, by decide +kernel⟩,
    ⟨State.reset, 1, 0, by decide +kernel⟩,
    ⟨mine, 0, by decide +kernel⟩,
    ⟨State.reset, 0, by decide +kernel⟩⟩

def rg (r : Ring) : State :=
  { (hs host) with rings := [(0, { r with cpl := 0 }), (8, { en := true, log2 := 6 }), (51, r), (52, { r with cpl := 7 }), (52 + 15, { en := true }), (103, r), (16, r), (32, r), (52 + 32, r)] }

def rd : State := rg { en := true, host := 5 }

def fly : State := rg { en := true, host := 5, inFlight := 3 }

def wb : State := rg { en := true, wbDue := true, dev := 9 }

def lv : State := rg { en := true, used := true, dev := 9, stamps := List.replicate 9 0 }

def ft (a : Bool) : State := hs { host with fetching := true, again := a }

theorem wit_ringFetches :
    (∃ (s : State) (h : Fin 2) (r : Req), s.live = true ∧ mayBank r h = true ∧ bit (s.rg .rngCtl h) 31 = true ∧
      s.hostReach h = true ∧ (s.hst h).fetching = false) ∧
    (∃ (s : State) (h : Fin 2) (r : Req), s.live = true ∧ mayBank r h = true ∧ bit (s.rg .rngCtl h) 31 = true ∧
      s.hostReach h = true ∧ (s.hst h).fetching = true) ∧
    (∃ (s : State) (h : Fin 2), s.hostOn h = true ∧ s.hostReach h = true ∧ bit (s.rg .rngCtl h) 31 = false ∧
      (s.hst h).fetching = false ∧ (s.hst h).polled + s.pollTime h ≤ s.mono) ∧
    (∃ (s : State) (h : Fin 2), s.hostOn h = true ∧ (s.hst h).fetching = true ∧ (s.hst h).again = false) ∧
    (∃ (s : State) (h : Fin 2), s.hostOn h = true ∧ (s.hst h).fetching = true ∧ (s.hst h).again = false) ∧
    (∃ (s : State) (h : Fin 2) (t : Fin 52), s.hostOn h = true ∧ s.hostReach h = true ∧ s.fetchNext h = some t) ∧
    (∃ (s : State) (h : Nat) (t : Nat), s.fetchNext h = some t) ∧
    (∃ (s : State) (h : Nat) (t : Nat) (i : Nat), s.fetchNext h = some t ∧ i < (t + 52 - (s.hst h).rr % 52) % 52) ∧
    (∃ (s : State) (h : Fin 2) (t : Fin 52), s.hostOn h = true ∧ 0 < (s.ring h t).inFlight ∧ t < 8) ∧
    (∃ (s : State) (h : Fin 2) (t : Fin 52), s.hostOn h = true ∧ 0 < (s.ring h t).inFlight ∧ 8 ≤ t ∧ t < 32) ∧
    (∃ (s : State) (h : Fin 2) (t : Fin 52), s.hostOn h = true ∧ 0 < (s.ring h t).inFlight ∧ 32 ≤ t) ∧
    (∃ (s : State) (h : Fin 2) (t : Fin 52), s.hostOn h = true ∧ 0 < (s.ring h t).inFlight ∧ 8 ≤ t) ∧
    (∃ (s : State) (h : Fin 2) (t : Fin 52), s.hostOn h = true ∧ s.hostReach h = true ∧ (s.ring h t).wbDue = true) ∧
    (∃ (s : State) (r : Req) (h : Fin 2) (t : Fin 52), s.live = true ∧ mayBank r h = true ∧
      (s.ring h t).en = false ∧ s.ringIdle h t = true) ∧
    (∃ (s : State) (r : Req) (h : Fin 2), s.live = true ∧ mayBank r h = true) ∧
    (∃ (s : State) (h : Fin 2) (t : Fin 52), s.hostOn h = true ∧ (s.ring h t).level (decide (16 ≤ t) &&
      decide (t < 32)) s.mono = true) :=
  ⟨⟨hs host, 0, .host0, by decide +kernel⟩,
    ⟨ft true, 0, .host0, by decide +kernel⟩,
    ⟨((hs host).setRg .rngCtl 0 0 5).setRg .rngCtl 1 0 5, 0, by decide +kernel⟩,
    ⟨ft false, 0, by decide +kernel⟩,
    ⟨ft false, 0, by decide +kernel⟩,
    ⟨rd, 0, 0, by decide +kernel⟩,
    ⟨rd, 0, _, rfl⟩,
    ⟨{ rd with hosts := [(0, { host with rr := 40 }), (1, { host with rr := 49 })] }, 0, _, 0, rfl, by decide +kernel⟩,
    ⟨fly, 0, 0, by decide +kernel⟩,
    ⟨fly, 0, 16, by decide +kernel⟩,
    ⟨mine, 0, 51, by decide +kernel⟩,
    ⟨mine, 0, 51, by decide +kernel⟩,
    ⟨wb, 0, 0, by decide +kernel⟩,
    ⟨State.reset, .host0, 0, 0, by decide +kernel⟩,
    ⟨State.reset, .host0, 0, by decide +kernel⟩,
    ⟨lv, 0, 0, by decide +kernel⟩⟩

end HostLinks

namespace Inject

def frI : List Byte := [0x02,0,0,0,0,1,0x02,0,0,0,0,2,8,0] ++ List.replicate 50 5

def jd (dir : Bool) (len lp : Nat) (d : Option (List Byte)) : InjDesc :=
  { desc := [0x1000, 0, put 31 31 (b2n dir) ||| put 29 22 lp ||| put 13 0 len, 0, 0, 0, 0, 0], data := d }

def ij (l : List InjDesc) : State :=
  { ((up.setRg .chipCtl 0 0 0x100).setRg .pgPortCfg 0 0 3) with rings := [(32, { en := true, host := 5, fetched := 1, inj := l }), (47, { en := true, host := 5, fetched := 1, inj := l }), (52 + 32, { en := true, host := 5, fetched := 1, inj := l })] }

theorem wit_injection :
    (∃ (s : State) (h : Fin 2) (j : Fin 16) (x : InjDesc) (l : List InjDesc) (st : Nat) (r : Nat),
      s.hostOn h = true ∧ (s.ring h (32 + j)).inj = x :: l ∧ x.direct = false ∧ s.clkOk (72 + x.lp / 32) = true ∧ s.injWhy x = some (st, r)) ∧
    (∃ (s : State) (h : Fin 2) (j : Fin 16) (x : InjDesc) (l : List InjDesc) (slots : BitVec 6) (f : List Byte),
      s.hostOn h = true ∧ (s.ring h (32 + j)).inj = x :: l ∧ x.direct = false ∧ s.clkOk (72 + x.lp / 32) = true ∧ s.injWhy x = none ∧
      x.data = some f ∧ (s.nextPipe (x.lp / 32) slots).isSome = true) ∧
    (∃ (s : State) (h : Fin 2) (j : Fin 16) (x : InjDesc) (l : List InjDesc) (st : Nat) (r : Nat),
      s.hostOn h = true ∧ (s.ring h (32 + j)).inj = x :: l ∧ x.direct = true ∧ s.clkOk 144 = true ∧ s.injWhy x = some (st, r)) ∧
    (∃ (s : State) (h : Fin 2) (j : Fin 16) (x : InjDesc) (l : List InjDesc) (f : List Byte),
      s.hostOn h = true ∧ (s.ring h (32 + j)).inj = x :: l ∧ x.direct = true ∧ s.clkOk 144 = true ∧ s.injWhy x = none ∧
        x.data = some f ∧ (s.grp (x.lp / 32)).polq = []) ∧
    (∃ (s : State) (h : Fin 2) (j : Fin 16) (x : InjDesc) (l : List InjDesc) (f : List Byte),
      s.hostOn h = true ∧ (s.ring h (32 + j)).inj = x :: l ∧ x.direct = true ∧ s.clkOk 144 = true ∧ s.injWhy x = none ∧
        x.data = some f ∧ (s.grp (x.lp / 32)).polq ≠ []) ∧
    (∃ (s : State) (h : Fin 2) (j : Fin 16) (x : InjDesc), s.hostOn h = true ∧ s.hostReach h = true ∧
      List.find? s.injUnread (s.ring h (32 + j)).inj = some x) :=
  ⟨⟨ij [jd false 0 3 (some [])], 0, 0, jd false 0 3 (some []), [], _, _, by decide +kernel, by decide +kernel,
    by decide +kernel, by decide +kernel, rfl⟩,
    ⟨ij [jd false 60 3 (some (frI.take 60))], 0, 0, jd false 60 3 (some (frI.take 60)), [], 0x3F, frI.take 60,
      by decide +kernel⟩,
    ⟨ij [jd true 0 3 (some [])], 0, 0, jd true 0 3 (some []), [], _, _, by decide +kernel, by decide +kernel,
      by decide +kernel, by decide +kernel, rfl⟩,
    ⟨ij [jd true 60 3 (some (frI.take 60))], 0, 0, jd true 60 3 (some (frI.take 60)), [], frI.take 60,
      by decide +kernel⟩,
    ⟨{ ij [jd true 60 3 (some (frI.take 60))] with groups := [(0, { polq := [(4, .port 3 1)], absent := false })] }, 0, 0, jd true 60 3 (some (frI.take 60)), [], frI.take 60, by decide +kernel⟩,
    ⟨ij [jd false 60 3 none], 0, 0, jd false 60 3 none, by decide +kernel⟩⟩

end Inject

namespace DmaFlow

def ch (c : Chan) : State := { up with dma := [(0, c), (15, c)], dram := { ch := [(0, { st := .service })] } }

def ins (w : List Nat) (c : Chan) : Chan := { c with st := .running, ins := [(c.pc, w.map (BitVec.ofNat 32))] }

def mv (dsp ssp len w1 w2 w3 fl : Nat) : Chan :=
  ins [0x10000000 + fl * 2^26 + dsp * 2^24 + ssp * 2^22 + len, w1, w2, w3] { out := 1, srcEnd := 64, dstEnd := 128 }

theorem wit_dmaFlow :
    (∃ (s : State) (r : Req) (ch : Fin 16), s.live = true ∧ s.mayChan r ch = true ∧ (s.chan ch).st ≠ .running) ∧
    (∃ (s : State) (r : Req) (ch : Fin 16), s.live = true ∧ s.mayChan r ch = true ∧ (s.chan ch).st = .running) ∧
    (∃ (s : State) (ch : Fin 16), s.chanOn ch = true ∧ (s.chan ch).instr = []) ∧
    (∃ (s : State) (ch : Fin 16), s.chanOn ch = true ∧ (s.chan ch).instr = []) ∧
    (∃ (s : State) (ch : Fin 16), s.atIns ch 2 = true) ∧
    (∃ (s : State) (ch : Fin 16), let c := s.chan ch; let w := c.instr; let w0 := wAt w 0; s.atIns ch 3 = true ∧
      (bit w0 25 = false ∨ waitAddr w % 4 = 0)) ∧
    (∃ (s : State) (ch : Fin 16), let c := s.chan ch; let w := c.instr; let w0 := wAt w 0; s.atIns ch 3 = true ∧
      bit w0 25 = true ∧ waitAddr w % 4 ≠ 0) ∧
    (∃ (s : State) (ch : Fin 16), let c := s.chan ch; let w := c.instr; let w0 := wAt w 0; s.chanOn ch = true ∧
      c.waiting = true ∧ bit w0 25 = true ∧ s.pollDue ch = true ∧ s.pollWord ch (waitAddr w) = none) ∧
    (∃ (s : State) (ch : Fin 16) (v : Word),
      let c := s.chan ch; let w := c.instr; let w0 := wAt w 0; s.chanOn ch = true ∧ c.waiting = true ∧
          bit w0 25 = true ∧ s.pollDue ch = true ∧ s.pollWord ch (waitAddr w) = some v ∧ v &&& wAt w 3 = wAt w 2) ∧
    (∃ (s : State) (ch : Fin 16) (v : Word),
      let c := s.chan ch; let w := c.instr; let w0 := wAt w 0; s.chanOn ch = true ∧ c.waiting = true ∧
          bit w0 25 = true ∧ s.pollDue ch = true ∧ s.pollWord ch (waitAddr w) = some v ∧ v &&& wAt w 3 ≠ wAt w 2) ∧
    (∃ (s : State) (ch : Fin 16) (t0 : Nat), let c := s.chan ch; s.chanOn ch = true ∧ c.waiting = true ∧
      c.waitAt = some t0 ∧ t0 ≤ s.mono) ∧
    (∃ (s : State) (ch : Fin 16), s.atIns ch 6 = true) ∧
    (∃ (s : State) (ch : Fin 16), s.atIns ch 7 = true) ∧
    (∃ (s : State) (ch : Fin 16), let c := s.chan ch; s.live = true ∧ 0 < c.out ∧ c.barWait = false) ∧
    (∃ (s : State) (ch : Fin 16), let c := s.chan ch; s.live = true ∧ 0 < c.out ∧ c.barSp = 1 ∧ 1 < c.out) ∧
    (∃ (s : State) (ch : Fin 16), let c := s.chan ch; s.live = true ∧ 0 < c.out ∧ c.barWait = true ∧
      c.out = 1 ∧ c.barSp = 1) ∧
    (∃ (s : State) (ch : Fin 16), let c := s.chan ch; s.live = true ∧ 0 < c.out ∧ c.barWait = true ∧
      c.out = 1 ∧ c.barSp = 2 ∧ c.hostOut = false ∧ c.flush = false) ∧
    (∃ (s : State) (ch : Fin 16), let c := s.chan ch; s.live = true ∧ c.flush = true ∧ c.barWait = false) ∧
    (∃ (s : State) (ch : Fin 16), let c := s.chan ch; s.live = true ∧ c.flush = true ∧ c.barWait = true ∧
      c.hostOut = false ∧ c.barSp = 0) ∧
    (∃ (s : State) (ch : Fin 16), let c := s.chan ch; s.live = true ∧ c.flush = true ∧ c.barWait = true ∧
      c.hostOut = false ∧ c.barSp = 2 ∧ c.out = 0) :=
  ⟨⟨ch ({}), .host0, 0, by decide +kernel⟩,
    ⟨ch (mv 0 0 16 0x1000 0x2000 0 0), .host0, 0, by decide +kernel⟩,
    ⟨ch ({ st := .running }), 0, by decide +kernel⟩,
    ⟨ch ({ st := .running }), 0, by decide +kernel⟩,
    ⟨ch (ins [0x21000005, 3, 0, 0] { pc := 10 }), 0, by decide +kernel⟩,
    ⟨ch (ins [0x30000500, 0, 0, 0] {}), 0, by dsimp only; decide +kernel⟩,
    ⟨ch (ins [0x32000500, 0x80001, 0, 0] {}), 0, by dsimp only; decide +kernel⟩,
    ⟨ch (ins [0x32000500, 0xF0000000, 5, 0] { waiting := true }), 0, by dsimp only; decide +kernel⟩,
    ⟨ch (ins [0x32000500, 0x80000, 0, 0] { waiting := true, waitAt := some 90000000 }), 0,
      ((ch (ins [0x32000500, 0x80000, 0, 0] {})).pollWord 0 0x80000).getD 5, by dsimp only; decide +kernel⟩,
    ⟨ch (ins [0x32000500, 0x44, 5, 0] { waiting := true }), 0,
      ((ch (ins [0x32000500, 0x44, 5, 0] {})).pollWord 0 0x44).getD 5, by dsimp only; decide +kernel⟩,
    ⟨ch (ins [0x32000500, 0x80000, 0, 0] { waiting := true, waitAt := some 5 }), 0, 5, by dsimp only; decide +kernel⟩,
    ⟨ch (ins [0x60000000, 0, 0, 0] { flush := true }), 0, by decide +kernel⟩,
    ⟨ch (ins [0x74000000, 0, 0, 0] {}), 0, by decide +kernel⟩,
    ⟨ch (mv 0 0 16 0x1000 0x2000 0 0), 0, by dsimp only; decide +kernel⟩,
    ⟨ch (ins [0x18000000, 0, 0, 0] { out := 2, barWait := true, barSp := 1 }), 0, by dsimp only; decide +kernel⟩,
    ⟨ch (ins [0x18000000, 0, 0, 0] { out := 1, barWait := true, barSp := 1, moved := 4, hostOut := true }), 0,
      by dsimp only; decide +kernel⟩,
    ⟨ch (ins [0x18000000, 0, 0, 0] { out := 1, barWait := true, barSp := 2, werr := 2 }), 0,
      by dsimp only; decide +kernel⟩,
    ⟨ch (ins [0x60000000, 0, 0, 0] { flush := true }), 0, by dsimp only; decide +kernel⟩,
    ⟨ch (ins [0x18000000, 0, 0, 0] { flush := true, barWait := true, out := 1 }), 0,
      by dsimp only; decide +kernel⟩,
    ⟨ch (ins [0x18000000, 0, 0, 0] { flush := true, barWait := true, barSp := 2 }), 0,
      by dsimp only; decide +kernel⟩⟩

theorem wit_dmaData :
    (∃ (s : State) (ch : Fin 16), let c := s.chan ch; let a := c.moveArgs; s.atIns ch 1 = true ∧ c.rd = [] ∧
      a.aligned = false) ∧
    (∃ (s : State) (ch : Fin 16), let c := s.chan ch; let a := c.moveArgs; s.atIns ch 1 = true ∧ c.rd = [] ∧
      a.aligned = true ∧ a.srcSp = 0) ∧
    (∃ (s : State) (ch : Fin 16), let c := s.chan ch; let a := c.moveArgs; s.atIns ch 1 = true ∧ c.rd = [] ∧
      a.aligned = true ∧ a.srcSp = 1 ∧ a.src + a.len ≤ dramBase) ∧
    (∃ (s : State) (ch : Fin 16), let c := s.chan ch; let a := c.moveArgs; s.atIns ch 1 = true ∧ c.rd = [] ∧
      a.aligned = true ∧ a.srcSp = 1 ∧ a.len = 0) ∧
    (∃ (s : State) (ch : Fin 16), let c := s.chan ch; let a := c.moveArgs; s.atIns ch 1 = true ∧ c.rd = [] ∧
      a.aligned = true ∧ a.srcSp = 1 ∧ a.src < dramBase ∧ dramBase < a.src + a.len ∧ 0 < a.len) ∧
    (∃ (s : State) (ch : Fin 16), let c := s.chan ch; let a := c.moveArgs; s.atIns ch 1 = true ∧ c.rd = [] ∧
      a.aligned = true ∧ a.srcSp = 2 ∧ a.src < dramBase) ∧
    (∃ (s : State) (ch : Fin 16), let c := s.chan ch; let a := c.moveArgs; s.atIns ch 1 = true ∧ c.rd = [] ∧
      a.aligned = true ∧ a.srcSp = 2 ∧ dramBase ≤ a.src ∧ 4 ≤ a.len) ∧
    (∃ (s : State) (ch : Fin 16), let c := s.chan ch; s.atIns ch 1 = true ∧ c.rd ≠ [] ∧
      (c.rd.all fun p => p.data.isSome) = true) ∧
    (∃ (s : State) (ch : Fin 16), let c := s.chan ch; s.atIns ch 1 = true ∧ c.rd ≠ [] ∧
      (c.rd.all fun p => p.data.isSome) = false) ∧
    (∃ (s : State) (ch : Fin 16), let w := (s.chan ch).instr; let w0 := wAt w 0; let sp := fld w0 25 24;
      s.atIns ch 4 = true ∧ sp = 3) ∧
    (∃ (s : State) (ch : Fin 16), let w := (s.chan ch).instr; let w0 := wAt w 0; let sp := fld w0 25 24;
      s.atIns ch 4 = true ∧ sp = 0) ∧
    (∃ (s : State) (ch : Fin 16), let w := (s.chan ch).instr; let w0 := wAt w 0; let sp := fld w0 25 24;
      let a := insAddr sp (BitVec.toNat (wAt w 1)) (fld (wAt w 3) 15 0); s.atIns ch 4 = true ∧
      (sp = 1 ∨ sp = 2) ∧ a % 4 ≠ 0) ∧
    (∃ (s : State) (ch : Fin 16), let w := (s.chan ch).instr; let w0 := wAt w 0; let sp := fld w0 25 24;
      let a := insAddr sp (BitVec.toNat (wAt w 1)) (fld (wAt w 3) 15 0);
      s.atIns ch 4 = true ∧ (sp = 1 ∨ sp = 2) ∧ a % 4 = 0 ∧ s.intRefused (hostReq (s.chanOwner ch)) a true = true) ∧
    (∃ (s : State) (ch : Fin 16), let w := (s.chan ch).instr; let w0 := wAt w 0; let sp := fld w0 25 24;
      let a := insAddr sp (BitVec.toNat (wAt w 1)) (fld (wAt w 3) 15 0);
      s.atIns ch 4 = true ∧ (sp = 1 ∨ sp = 2) ∧ a % 4 = 0 ∧
      s.intRefused (hostReq (s.chanOwner ch)) a true = false ∧ (s.intWrite ch a (wAt w 2)).chanRuns ch = true) ∧
    (∃ (s : State) (ch : Fin 16), s.atIns ch 5 = true ∧ (s.chan ch).out = 0 ∧ (s.chan ch).hostOut = false ∧
      (s.chan ch).flush = false) ∧
    (∃ (s : State) (ch : Fin 16), s.atIns ch 5 = true ∧ 0 < (s.chan ch).out) ∧
    (∃ (s : State) (ch : Fin 16) (sp : Nat), sp = 1 ∧ 0 < (s.chan ch).out) ∧
    (∃ (s : State) (ch : Fin 16) (sp : Nat), sp = 0 ∧ (s.chan ch).hostOut = true) ∧
    (∃ (s : State) (ch : Fin 16) (sp : Nat), sp = 1 ∧ (s.chan ch).out = 0) ∧
    (∃ (s : State) (ch : Fin 16) (sp : Nat), sp = 0 ∧ (s.chan ch).hostOut = false ∧ (s.chan ch).flush = false) ∧
    (∃ (s : State) (ch : Fin 16), let w := (s.chan ch).instr; let w0 := wAt w 0; let sp := fld w0 25 24;
      let a := insAddr sp (BitVec.toNat (wAt w 1)) (fld (wAt w 3) 15 0);
      s.atIns ch 4 = true ∧ (sp = 1 ∨ sp = 2) ∧ a % 4 = 0 ∧
      s.intRefused (hostReq (s.chanOwner ch)) a true = false ∧ (s.intWrite ch a (wAt w 2)).chanRuns ch = false) ∧
    (∃ (s : State) (ch : Fin 16), let a := (s.chan ch).moveArgs; s.atIns ch 1 = true ∧ (s.chan ch).rd = [] ∧
      a.aligned = true ∧ a.srcSp = 0 ∧
      ((s.readHost48 (s.chanOwner ch) a.src a.len).copy ch 0 a.dstSp a.src a.dst a.len
        (some [0, 0, 0, 0x40]) [] 0).s.chanRuns ch = false) :=
  ⟨⟨ch (mv 1 0 15 1 2 0 0), 0, by dsimp only; decide +kernel⟩,
    ⟨ch (mv 0 0 16 0x1000 0x2000 0 0), 0, by dsimp only; decide +kernel⟩,
    ⟨ch (mv 0 1 16 0x200000 0x2000 0 0), 0, by dsimp only; decide +kernel⟩,
    ⟨ch (mv 1 1 0 0 0x80000 0x00400004 0), 0, by dsimp only; decide +kernel⟩,
    ⟨ch (mv 0 1 16 0xFFFFFFF8 0x2000 0x003F0000 0), 0, by dsimp only; decide +kernel⟩,
    ⟨ch (mv 2 2 16 5 0x20 0 1), 0, by dsimp only; decide +kernel⟩,
    ⟨ch (mv 1 2 16 0 0x80000 0x00400000 0), 0, by dsimp only; decide +kernel⟩,
    ⟨ch ({ mv 1 1 16 0 0x80000 0x00400000 0 with rd := [{ len := 16, data := some [1,2,3,4] }] }), 0,
      by dsimp only; decide +kernel⟩,
    ⟨ch ({ mv 1 1 16 0 0x80000 0x00400000 0 with rd := [{ len := 16 }] }), 0,
      by dsimp only; decide +kernel⟩,
    ⟨ch (ins [0x47000000, 0x5000, 7, 0] {}), 0, by dsimp only; decide +kernel⟩,
    ⟨ch (ins [0x40000000, 0x5000, 7, 0] {}), 0, by dsimp only; decide +kernel⟩,
    ⟨ch (ins [0x41000000, 0x80001, 7, 0] {}), 0, by dsimp only; decide +kernel⟩,
    ⟨ch (ins [0x41000000, 0xF0000000, 7, 0] {}), 0, by dsimp only; decide +kernel⟩,
    ⟨ch (ins [0x41000000, 0x80000, 7, 0] {}), 0, by dsimp only; decide +kernel⟩,
    ⟨ch (ins [0x50000000, 0, 0, 0] {}), 0, by decide +kernel⟩,
    ⟨ch (ins [0x50000000, 0, 0, 0] { out := 2 }), 0, by decide +kernel⟩,
    ⟨ch { out := 2 }, 0, 1, by decide +kernel⟩, ⟨ch { hostOut := true }, 0, 0, by decide +kernel⟩,
    ⟨ch {}, 0, 1, by decide +kernel⟩, ⟨ch {}, 0, 0, by decide +kernel⟩,
    ⟨ch (ins [0x41000000, 0x02020000, 0x40000000, 0] {}), 0, by dsimp only; decide +kernel⟩,
    ⟨ch (mv 1 0 4 0x1000 0x02020000 0 0), 0, by dsimp only; decide +kernel⟩⟩

end DmaFlow

namespace Dram

def rq : DReq := { who := .host 0, addr := dramBase + 64, len := 4, data := [1, 2, 3, 4] }

def wq : DReq := { who := .host 1, addr := dramBase + 64, len := 3, data := [1, 2, 3] }

def dc (d : DCh) : State :=
  { up.setRg .drcCfg 0 0 0x0F010101 with
      dram := { ch := [(0, d), (3, d)], mem := [(64, 7), (3 * 2 ^ 38 + 129, 9)] },
      time := { now := 10^9 } }

theorem wit_dramService :
    (∃ (s : State) (c : Fin 4) (i : Nat) (r : DReq), s.dramOn c = true ∧
      ((s.dch c).st = .service ∨ (s.dch c).st = .migrating) ∧ ((s.dch c).rq = [] ∨ (s.dch c).drain = true) ∧
        i < 64 ∧ (s.dch c).wq[i]? = some r) ∧
    (∃ (s : State) (c : Fin 4) (i : Nat) (r : DReq), s.dramOn c = true ∧
      ((s.dch c).st = .service ∨ (s.dch c).st = .migrating) ∧ (s.dch c).drain = false ∧ i < 64 ∧
        (s.dch c).rq[i]? = some r ∧ r.bad = false ∧ s.poisoned c (r.addr % slotSize) = false) ∧
    (∃ (s : State) (c : Fin 4) (i : Nat) (r : DReq), s.dramOn c = true ∧
      ((s.dch c).st = .service ∨ (s.dch c).st = .migrating) ∧ (s.dch c).drain = false ∧ i < 64 ∧
        (s.dch c).rq[i]? = some r ∧ r.full = true ∧ r.who = .telemetry) ∧
    (∃ (s : State) (a len c off : Nat), s.live = true ∧ dramChan a = some (c, off) ∧ s.inService a = true ∧
      s.isActive domDram = true ∧ 0 < len ∧ a % 64 + len ≤ 64) ∧
    (∃ (s : State) (a c off : Nat) (b : List Byte), s.live = true ∧ dramChan a = some (c, off) ∧
      s.inService a = true ∧ s.isActive domDram = true ∧ 0 < b.length ∧ a % 64 + b.length ≤ 64 ∧
        ((s.dch c).wq.any fun r => r.covers a b.length) = true) ∧
    (∃ (s : State) (a : Nat) (len : Nat), s.live = true ∧ s.inService a = false ∧ 0 < len ∧ a % 64 + len ≤ 64) ∧
    (∃ (s : State) (a : Nat) (len : Nat), s.live = true ∧ s.isActive domDram = false ∧ 0 < len ∧
      a % 64 + len ≤ 64) ∧
    (∃ (s : State) (a : Nat) (b : List Byte), s.live = true ∧ s.inService a = false ∧ 0 < b.length ∧
      a % 64 + b.length ≤ 64) ∧
    (∃ (s : State) (c : Fin 4), s.dramOn c = true ∧ 48 ≤ (s.dch c).wq.length) ∧
    (∃ (s : State) (c : Fin 4), s.dramOn c = true ∧ ∃ r ∈ (s.dch c).wq, r.at_ + 20000 ≤ s.mono) ∧
    (∃ (s : State) (c : Fin 4), s.live = true ∧ (s.dch c).st = .service ∧ s.srIdle c = true) ∧
    (∃ (s : State) (c : Fin 4), s.live = true ∧ (s.dch c).st = .service ∧ s.isLit domDram = false) ∧
    (∃ (s : State) (c : Fin 4), s.dramOn c = true ∧ (s.dch c).st = .selfRefresh ∧
      ((s.dch c).rq ≠ [] ∨ (s.dch c).wq ≠ [] ∨ (s.dch c).exitDue = true)) :=
  ⟨⟨dc { st := .service, wq := [wq, wq] }, 0, 0, wq, by decide +kernel⟩,
    ⟨dc { st := .service, rq := [rq], wq := [wq] }, 0, 0, rq, by decide +kernel⟩,
    ⟨dc { st := .service, rq := [{ rq with who := .telemetry, full := true }] }, 0, 0,
      { rq with who := .telemetry, full := true }, by decide +kernel⟩,
    ⟨dc { st := .service }, dramBase, 1, 0, 0, by decide +kernel⟩,
    ⟨dc { st := .service, wq := [wq] }, dramBase + 65, 0, 65, [7, 8], by decide +kernel⟩,
    ⟨dc { st := .offline }, dramBase, 64, by decide +kernel⟩,
    ⟨{ dc { st := .service } with dom := [] }, dramBase, 64, by decide +kernel⟩,
    ⟨dc { st := .offline }, dramBase, [1, 2, 3], by decide +kernel⟩,
    ⟨dc { st := .service, rq := [rq], wq := List.replicate 48 wq }, 0, by decide +kernel⟩,
    ⟨dc { st := .service, wq := [wq] }, 0, by decide +kernel⟩,
    ⟨(dc { st := .service }).setRg .drcPwr 0 0 0x10001, 0, by decide +kernel⟩,
    ⟨{ dc { st := .service } with dom := [] }, 0, by decide +kernel⟩,
    ⟨dc { st := .selfRefresh, rq := [rq] }, 0, by decide +kernel⟩⟩

def sp (s : State) : State := (s.setRg .drcCfg 0 0 0x0F020001).setRg .drcChCtl 0 0 0x8

theorem wit_dramStates :
    (∃ (s : State) (v : Word), s.Open domDram ∧ bit v 31 = true ∧ (∀ c < 4, (s.dch c).st.idle = true) ∧
      drcOk (v &&& 1326386951) = true) ∧
    (∃ (s : State) (c : Fin 4), s.dramOn c = true ∧ (s.dch c).st = .training ∧ bit (s.rg .drcCfg) 30 = true) ∧
    (∃ (s : State) (c : Fin 4) (x : Nat), s.dramOn c = true ∧ (s.dch c).st = .training ∧
      bit (s.rg .drcCfg) 30 = false ∧ x / 2 ^ 38 ≠ c) ∧
    (∃ (s : State) (c : Fin 4) (v : Word), s.Open domDram ∧ fld v 31 29 = 1 ∧ (s.dch c).st.serves = true) ∧
    (∃ (s : State) (c : Fin 4) (v : Word), s.Open domDram ∧ fld v 31 29 = 1 ∧ (s.dch c).st = .frozen) ∧
    (∃ (s : State) (c : Fin 4) (v : Word), s.Open domDram ∧ fld v 31 29 = 2 ∧ (s.dch c).st = .frozen) ∧
    (∃ (s : State) (c : Fin 4) (v : Word), s.Open domDram ∧ fld v 31 29 = 3 ∧ (s.dch c).st = .service ∧
      s.spareFree c = true ∧ fld v 1 0 ≠ fld (s.rg .drcChCtl 0 c) 1 0) :=
  ⟨⟨up, 0x8F010101, by unfold State.Open; decide +kernel⟩,
    ⟨(dc { st := .training }).setRg .drcCfg 0 0 0x49010101, 0, by decide +kernel⟩,
    ⟨dc { st := .training }, 0, 2 ^ 38, by decide +kernel⟩,
    ⟨dc { st := .service, rq := [rq], wq := [wq] }, 0, 0x20000000, by unfold State.Open; decide +kernel⟩,
    ⟨dc { st := .frozen, rq := [rq] }, 0, 0x20000000, by unfold State.Open; decide +kernel⟩,
    ⟨dc { st := .frozen, rq := [rq] }, 0, 0x40000000, by unfold State.Open; decide +kernel⟩,
    ⟨sp (dc { st := .service }), 0, 0x60000041, by unfold State.Open; decide +kernel⟩⟩

theorem wit_dramUpkeep :
    (∃ (s : State) (c : Fin 4) (rk : Fin 4), s.dramOn c = true ∧ (s.dch c).st.awake = true ∧
      rk < rankCount (s.rg .drcCfg) ∧ ((s.dch c).spareUsed && rk == (s.dch c).retired) = false ∧
        s.refDue c rk = true) ∧
    (∃ (s : State) (c : Fin 4) (rk : Fin 4),
      let owed := fun t => tget (fun _ => 0) (t.dch c).postponed rk; s.dramOn c = true ∧
          (s.dch c).st.awake = true ∧ rk < rankCount (s.rg .drcCfg) ∧ ((s.dch c).spareUsed &&
            rk == (s.dch c).retired) = false ∧ s.refDue c rk = true ∧ (s.dch c).rq ≠ [] ∧ owed s < 4) ∧
    (∃ (s : State) (c : Fin 4), (s.dch c).refAt = []) ∧
    (∃ (s : State) (c : Fin 4), s.dramOn c = true ∧ ((s.dch c).st = .service ∨ (s.dch c).st = .migrating) ∧
      (s.dch c).tempAt + 256000 ≤ s.mono) ∧
    (∃ (s : State) (c : Fin 4), s.dramOn c = true ∧ ((s.dch c).st = .service ∨ (s.dch c).st = .migrating) ∧
      s.calDue c 8 = true) ∧
    (∃ (s : State) (c : Fin 4), s.dramOn c = true ∧ ((s.dch c).st = .service ∨ (s.dch c).st = .migrating) ∧
      s.calDue c 9 = true) ∧
    (∃ (s : State) (c : Fin 4), s.dramOn c = true ∧ ((s.dch c).st = .service ∨ (s.dch c).st = .migrating) ∧
      s.patrolDue c = true ∧ s.poisoned c (s.dch c).scrubPtr = false) ∧
    (∃ (s : State) (c : Fin 4), s.dramOn c = true ∧ (s.dch c).st = .migrating ∧
      (∀ i < 4, s.poisonedAt c (rankPlace c (s.dch c).migRank + (s.dch c).migPtr + 64 * i) = false) ∧
        rankSize (s.rg .drcCfg) ≤ (s.dch c).migPtr + 256) ∧
    (∃ (s : State) (c : Fin 4), s.dramOn c = true ∧ (s.dch c).st = .migrating ∧
      (∀ i < 4, s.poisonedAt c (rankPlace c (s.dch c).migRank + (s.dch c).migPtr + 64 * i) = false) ∧
        (s.dch c).migPtr + 256 < rankSize (s.rg .drcCfg)) :=
  ⟨⟨dc { st := .service, rq := [rq], wq := [wq] }, 0, 0, by decide +kernel⟩,
    ⟨dc { st := .service, rq := [rq], wq := [wq] }, 0, 0, by dsimp only; decide +kernel⟩,
    ⟨dc {}, 0, by decide +kernel⟩,
    ⟨dc { st := .service, rq := [rq], wq := [wq] }, 0, by decide +kernel⟩,
    ⟨dc { st := .service, rq := [rq], wq := [wq] }, 0, by decide +kernel⟩,
    ⟨dc { st := .service, rq := [rq], wq := [wq] }, 0, by decide +kernel⟩,
    ⟨dc { st := .service, rq := [rq], wq := [wq] }, 0, by decide +kernel⟩,
    ⟨dc { st := .migrating, migRank := 1, migPtr := rankSize 0x0F010101 - 256 }, 0, by decide +kernel⟩,
    ⟨dc { st := .migrating, migRank := 1 }, 0, by decide +kernel⟩⟩

end Dram

namespace Chain

def fr (dest cmd addr ver : Nat) (data : List Word) : List Word :=
  [BitVec.ofNat 32 (ver * 2^28 + dest * 2^18 + cmd * 256 + 5), BitVec.ofNat 32 addr,
    BitVec.ofNat 32 data.length] ++ data

def frz : FreezeSt := { frozen := true, stopped := true, frzEn := true, frzOk := true }

def cq (f : List Word) : State := { up with chain := { addr := 3, q := [f] }, frz := { honour := true } }

theorem wit_chainRequests :
    (∃ (f : List Word), openFrame f = none) ∧
    (∃ (s : State) (f : List Word) (b : List Word), openFrame f = some b ∧
      (frmDest b = 0 ∨ frmDest b ≠ s.chain.addr)) ∧
    (∃ (s : State) (f : List Word) (b : List Word), openFrame f = some b ∧ frmDest b ≠ 0 ∧
      frmDest b = s.chain.addr ∧ frmVer b ≠ 1 ∧ frmVer b ≠ 2) ∧
    (∃ (s : State) (f : List Word) (b : List Word), openFrame f = some b ∧ frmDest b ≠ 0 ∧
      frmDest b = s.chain.addr ∧ (frmVer b = 1 ∨ frmVer b = 2) ∧ 4 ≤ s.chain.q.length) ∧
    (∃ (s : State) (f : List Word) (b : List Word) (st : Nat), openFrame f = some b ∧ frmDest b ≠ 0 ∧
      frmDest b = s.chain.addr ∧ (frmVer b = 1 ∨ frmVer b = 2) ∧ frmRefusal b = some st ∧ s.chain.q = []) ∧
    (∃ (s : State) (f : List Word) (b : List Word), openFrame f = some b ∧ frmDest b ≠ 0 ∧
      frmDest b = s.chain.addr ∧ (frmVer b = 1 ∨ frmVer b = 2) ∧ frmRefusal b = none ∧ s.chain.q = []) ∧
    (∃ (s : State) (f : List Word), s.chain.fwd = [] ∧ isBroadcast f = false) ∧
    (∃ (s : State) (f : List Word), s.chain.fwd = [] ∧ isBroadcast f = true) ∧
    (∃ (s : State) (g : List Word) (l : List (List Word)), s.chain.fwd = g :: l ∧ isBroadcast g = true) ∧
    (∃ (s : State), let f := s.chainReq; s.chainHead 1 = true ∧ fld (frmData f 0) 5 0 < 62) ∧
    (∃ (s : State), let f := s.chainReq; s.chainHead 2 = true ∧ frmLen f = 0) ∧
    (∃ (s : State), let f := s.chainReq; s.chainHead 2 = true ∧ frmLen f ≠ 0) ∧
    (∃ (s : State), let f := s.chainReq; let a := frmAddr f; let n := BitVec.toNat (frmData f 0);
      s.chainHead 3 = true ∧ chainCount f = true ∧ chainSpan a n mapEnd = true ∧
      (s.fuses.debug && decide (2 ^ 32 < a + 4 * n)) = false) ∧
    (∃ (s : State), let f := s.chainReq; let a := frmAddr f; let n := BitVec.toNat (frmData f 0);
      s.chainHead 4 = true ∧ chainCount f = true ∧ chainSpan a n (2 ^ 32) = true ∧ s.live = true ∧
      s.anyAsleep a n = false) ∧
    (∃ (s : State), let f := s.chainReq; let a := frmAddr f; s.chainHead 5 = true ∧ s.fuses.debug = false ∧
      s.live = true ∧ frmLen f ≠ 0 ∧ chainSpan a (frmLen f) (2 ^ 32) = true ∧ s.anyAsleep a (frmLen f) = false) ∧
    (∃ (s : State), let f := s.chainReq; let a := frmAddr f; let ws := List.take (frmLen f) (List.drop 3 f);
      s.chainHead 5 = true ∧ s.fuses.debug = false ∧ s.live = true ∧ frmLen f ≠ 0 ∧ dramBase ≤ a ∧
      chainSpan a (frmLen f) mapEnd = true ∧ s.Open domDram ∧ s.dramSpan a ws.length = true) ∧
    (∃ (s : State), let f := s.chainReq; s.chainHead 7 = true ∧ frmDest f ≠ 0 ∧ frmLen f = 1 ∧
      fld (frmData f 0) 15 8 = 196) ∧
    (∃ (s : State), s.chain.fwd = [] ∧ s.chain.own = []) ∧
    (∃ (s : State), s.chain.fwd ≠ []) :=
  ⟨⟨(fr 3 2 0 2 []) ++ [0], by decide +kernel⟩,
    ⟨up, sealFrame (fr 0 1 0 2 [0]), (openFrame (sealFrame (fr 0 1 0 2 [0]))).getD [],
      by decide +kernel, by decide +kernel⟩,
    ⟨{ up with chain := { addr := 3 } }, sealFrame (fr 3 2 0 5 []), (openFrame (sealFrame (fr 3 2 0 5 []))).getD [],
      by decide +kernel, by decide +kernel,
      by decide +kernel, by decide +kernel, by decide +kernel⟩,
    ⟨{ up with chain := { addr := 3, q := List.replicate 4 (fr 3 2 0 2 []) } }, sealFrame (fr 3 2 0 2 []), (openFrame (sealFrame (fr 3 2 0 2 []))).getD [],
      by decide +kernel, by decide +kernel, by decide +kernel, by decide +kernel, by decide +kernel⟩,
    ⟨{ up with chain := { addr := 3 } }, sealFrame (fr 3 11 0 2 []), (openFrame (sealFrame (fr 3 11 0 2 []))).getD [], 1,
      by decide +kernel,
      by decide +kernel, by decide +kernel, by decide +kernel, by decide +kernel, by decide +kernel⟩,
    ⟨{ up with chain := { addr := 3 } }, sealFrame (fr 3 2 0 2 []), (openFrame (sealFrame (fr 3 2 0 2 []))).getD [],
      by decide +kernel, by decide +kernel,
      by decide +kernel, by decide +kernel, by decide +kernel, by decide +kernel⟩,
    ⟨up, sealFrame (fr 9 2 0 2 []), by decide +kernel⟩,
    ⟨up, sealFrame (fr 0 1 0 2 [0]), by decide +kernel⟩,
    ⟨{ up with chain := { addr := 3, fwd := [sealFrame (fr 0 1 0 2 [0]), sealFrame (fr 9 2 0 2 [])] } }, _, _,
      rfl, by decide +kernel⟩,
    ⟨cq (fr 0 1 0 2 [5]), by dsimp only; decide +kernel⟩,
    ⟨cq (fr 3 2 0 2 []), by dsimp only; decide +kernel⟩,
    ⟨cq (fr 3 2 0 2 [1]), by dsimp only; decide +kernel⟩,
    ⟨cq (fr 3 3 0x44 2 [3]), by dsimp only; decide +kernel⟩,
    ⟨cq (fr 3 4 0x44 2 [3]), by dsimp only; decide +kernel⟩,
    ⟨cq (fr 3 5 0x44 2 [3, 4]), by dsimp only; decide +kernel⟩,
    ⟨State.setRg { (cq [BitVec.ofNat 32 (2 * 2^28 + 3 * 2^18 + 5 * 256 + 5), 0, 0x40000002, 3, 4]) with dram := { ch := [(0, { st := .service })] } } .drcCfg 0 0 0x0F010101, by dsimp only; unfold State.Open; decide +kernel⟩,
    ⟨cq (fr 3 7 0x44 2 [0xC400]), by dsimp only; decide +kernel⟩,
    ⟨up, by decide +kernel⟩,
    ⟨{ up with chain := { addr := 3, fwd := [sealFrame (fr 0 1 0 2 [0])] } }, by decide +kernel⟩⟩

def cz (f : List Word) : State := { cq f with frz := frz }

theorem wit_frozenDevice :
    (∃ (s : State), s.live = true ∧ s.chainHead 6 = true ∧ (frmDest s.chainReq = 0 ∨ frmLen s.chainReq = 0)) ∧
    (∃ (s : State), s.live = true ∧ s.regOn = true) ∧
    (∃ (s : State), s.live = true ∧ s.frz.honour = true ∧ bit (s.rg .chnFrzCtl) 30 = true) ∧
    (∃ (s : State), s.frz.frozen = true ∧ s.frz.stopped = false ∧ s.frz.at_ + 2560 ≤ s.mono) ∧
    (∃ (s : State), s.frz.drives = false) ∧
    (∃ (s : State), let f := s.chainReq; let w := frmData f 0; s.chainHead 8 = true ∧ s.chain.readout = none ∧
      s.fuses.debug = false ∧ frmLen f = 1 ∧ s.live = false ∧ w ≠ 0) ∧
    (∃ (s : State) (key : Nat) (n : Nat) (sec : Nat) (len : Nat) (l : List (Nat × Nat)),
      s.chain.readout = some (key, n, (sec, len) :: l) ∧ n + 1 < len) ∧
    (∃ (s : State), let f := s.chainReq; s.chainHead 9 = true ∧ s.chain.imaging = none ∧
      s.fuses.debug = false ∧ frmLen f = 1 ∧ s.live = false ∧ s.frz.frzEn = true ∧ s.frz.frzOk = true) ∧
    (∃ (s : State) (g : List Word), s.chain.imaging = some g) ∧
    (∃ (s : State), let f := s.chainReq; let w := frmData f 0; s.chainHead 10 = true ∧ s.chain.blowing = none ∧
      frmLen f = 1 ∧ fld w 31 24 = 183 ∧ (fld w 1 0 = 1 ∨ fld w 1 0 = 2)) ∧
    (∃ (s : State) (g : List Word), s.chain.blowing = some g) :=
  ⟨⟨(cq (fr 3 6 0 2 [])).setRg .chnFrzCtl 0 0 0x40000000, by decide +kernel⟩,
    ⟨up, by decide +kernel⟩,
    ⟨cq (fr 0 1 0 2 [5]), by decide +kernel⟩,
    ⟨{ cq (fr 3 6 0 2 []) with frz := { frozen := true, at_ := 5 } }, by decide +kernel⟩,
    ⟨up, by decide +kernel⟩,
    ⟨cz (fr 3 8 0x100 2 [0xFFF]), by dsimp only; decide +kernel⟩,
    ⟨{ up with chain := { readout := some (5, 0, [(0,3),(1,2)]) }, frz := frz }, 5, 0, 0, 3, [(1,2)],
      by decide +kernel⟩,
    ⟨cz (fr 3 9 0x100 2 [1]), by dsimp only; decide +kernel⟩,
    ⟨{ up with chain := { imaging := some (fr 3 9 0x100 2 [1]) }, frz := frz }, _, rfl⟩,
    ⟨cz (fr 3 10 0 2 [0xB7000001]), by dsimp only; decide +kernel⟩,
    ⟨{ up with chain := { blowing := some (fr 3 10 0x100 2 [0xB7000001]) }, frz := frz }, _, rfl⟩⟩

end Chain

namespace Debug

def th0 (x : Thread) : State := ({ up with threads := [(thrKey 1 2 3, x), (thrKey 0 0 0, x)] }).setRg .dbgCfg 0 0 5

theorem wit_debugging :
    (∃ (s : State) (r : Req) (v : Word),
      let k := thrKey (fld v 25 20) (fld v 19 15) (fld v 14 12); let x := s.thr k; s.regOn = true ∧
          s.fuses.debug = false ∧ s.dbgBusy r = false ∧ s.frz.frozen = false ∧ fld v 27 26 = 0 ∧
            s.dbgTargetOk v = true ∧ x.lock = none) ∧
    (∃ (s : State) (r : Req) (v : Word), s.regOn = true ∧ s.fuses.debug = false ∧ s.dbgBusy r = false ∧
      s.frz.frozen = false ∧ fld v 27 26 = 0 ∧ s.dbgTargetOk v = true) ∧
    (∃ (s : State) (r : Req) (v : Word),
      let k := thrKey (fld v 25 20) (fld v 19 15) (fld v 14 12); let x := s.thr k; s.regOn = true ∧
          s.fuses.debug = false ∧ s.dbgBusy r = false ∧ s.frz.frozen = false ∧ fld v 27 26 = 0 ∧
            s.dbgTargetOk v = true ∧ x.st = .halted ∧ x.prior ≠ .idle ∧ x.await = 0 ∧ x.want = none ∧
              x.full = false ∧ x.haltReq = false ∧ x.stepping = 0) ∧
    (∃ (s : State) (r : Req) (v : Word),
      let k := thrKey (fld v 25 20) (fld v 19 15) (fld v 14 12); let x := s.thr k; s.regOn = true ∧
          s.fuses.debug = false ∧ s.dbgBusy r = false ∧ s.frz.frozen = false ∧ fld v 27 26 = 0 ∧
            s.dbgTargetOk v = true ∧ x.st = .halted) ∧
    (∃ (s : State) (c : Fin 64) (e : Fin 17) (th : Fin 8), let k := thrKey c e th; s.cluOn c = true ∧
      (s.thr k).st = .halted ∧ (s.thr k).pkt ≠ none ∧ fld (s.rg .dbgCfg) 15 0 ≠ 0 ∧
        (s.thr k).haltAt + 1000 * fld (s.rg .dbgCfg) 15 0 ≤ s.mono) :=
  ⟨⟨th0 {}, .host0, BitVec.ofNat 32 (1 * 2^20 + 2 * 2^15 + 3 * 2^12), by dsimp only; decide +kernel⟩,
    ⟨th0 {}, .host0, BitVec.ofNat 32 (1 * 2^20 + 2 * 2^15 + 3 * 2^12), by decide +kernel⟩,
    ⟨th0 { st := .halted, prior := .run, pc := 7, pkt := some 4 }, .host0,
      BitVec.ofNat 32 (1 * 2^20 + 2 * 2^15 + 3 * 2^12), by dsimp only; decide +kernel⟩,
    ⟨th0 { st := .halted, prior := .run, pc := 7, pkt := some 4 }, .host0,
      BitVec.ofNat 32 (1 * 2^20 + 2 * 2^15 + 3 * 2^12), by dsimp only; decide +kernel⟩,
    ⟨th0 { st := .halted, prior := .run, pc := 7, pkt := some 4 }, 0, 0, 0, by dsimp only; decide +kernel⟩⟩

end Debug

/-! ### Registers, steps and frames -/

/-- The premise about power that the clauses about register paths share. -/
def reached (s : State) (r : Req) (a : Nat) (x : RegAt) : Bool :=
  s.regOn && decide (a < 2 ^ 32) && a % 4 == 0 && (msixAt a).isNone &&
    match s.domOf r x with
    | none => true
    | some k => ! s.fusedDom k && (s.dmn k).shade == .active && ! (s.dmn k).moving && (s.dmn k).woken.isNone

/-- The registers that the clauses about reads leave out. -/
def readDoesMore : List RegName :=
  [.histHead, .ledImbHead, .necMcLog, .polDrops, .sxlRxStat, .clkDom, .clkRefStat, .sxlPrbsErr]

theorem wit_registerPaths :
    (∃ (s : State) (r : Req) (a : Nat) (x : RegAt), regAt a = some x ∧ reached s r a x = true ∧
      x.row.name ≠ .chipCommit) ∧
    (∃ (s : State) (r : Req) (a : Nat) (x : RegAt), regAt a = some x ∧ reached s r a x = true ∧
      s.live = true ∧ s.dead x = false ∧ x.row.name ∉ readDoesMore ∧ x.row.kind = .plain ∧ x.row.rc ≠ 0) :=
  ⟨⟨up, .chain, 0x04420584, (regAt 0x04420584).get (by decide +kernel), (Option.some_get _).symm,
      by decide +kernel⟩,
    ⟨up, .host0, 0x20030, (regAt 0x20030).get (by decide +kernel), (Option.some_get _).symm, by decide +kernel⟩⟩

theorem wit_counterHalves :
    (∃ (s : State) (r : Req) (a : Nat) (x : RegAt), regAt a = some x ∧ reached s r a x = true ∧
      s.live = true ∧ s.dead x = false ∧ x.row.name ∉ readDoesMore ∧ x.row.kind = .ctrLo ∧
        s.rxRuns x.row.name x.k x.j = false) ∧
    (∃ (s : State) (r : Req) (a : Nat) (x : RegAt), regAt a = some x ∧ reached s r a x = true ∧
      s.live = true ∧ s.dead x = false ∧ x.row.name ∉ readDoesMore ∧ x.row.kind = .ctrHi) ∧
    (∃ (s : State) (h : Fin 2) (off a : Nat) (x : RegAt), regAt a = some x ∧ reached s (hostReq h) a x = true ∧
      s.live = true ∧ s.dead x = false ∧ x.row.name ∉ readDoesMore ∧ s.hostServes h = true ∧ (s.hst h).mse = true ∧
      off < 2 ^ 26 ∧ msixBar off = none ∧ s.window h off = some (a, false) ∧ x.row.kind = .ctrLo) ∧
    (∃ (s : State) (h : Fin 2) (off a : Nat) (x : RegAt), regAt a = some x ∧ reached s (hostReq h) a x = true ∧
      s.live = true ∧ s.dead x = false ∧ x.row.name ∉ readDoesMore ∧ s.hostServes h = true ∧ (s.hst h).mse = true ∧
      off < 2 ^ 26 ∧ msixBar off = none ∧ s.window h off = some (a, false) ∧ x.row.kind = .ctrHi) ∧
    (∃ (s : State) (r : Req) (a : Nat) (x : RegAt), regAt a = some x ∧ reached s r a x = true ∧
      s.live = true ∧ s.dead x = false ∧ x.row.name ∉ readDoesMore ∧ x.row.kind = .ctrLo ∧
      s.rxRuns x.row.name x.k x.j = true) :=
  ⟨⟨up, .host1, 0x80000, (regAt 0x80000).get (by decide +kernel), (Option.some_get _).symm, by decide +kernel⟩,
    ⟨up, .host1, 0x80004, (regAt 0x80004).get (by decide +kernel), (Option.some_get _).symm, by decide +kernel⟩,
    ⟨up, 0, 0x80000, 0x80000, (regAt 0x80000).get (by decide +kernel), (Option.some_get _).symm, by decide +kernel⟩,
    ⟨up, 0, 0x80004, 0x80004, (regAt 0x80004).get (by decide +kernel), (Option.some_get _).symm, by decide +kernel⟩,
    ⟨lpOn (mkPort { st := .up, amLock := true }), .host0, regAddr .macFecCorrLo 0 0 0,
      (regAt (regAddr .macFecCorrLo 0 0 0)).get (by decide +kernel), (Option.some_get _).symm, by decide +kernel⟩⟩

theorem wit_namelessAddresses :
    (∃ (s : State) (a : Nat), a < 2 ^ 32 ∧ a % 4 = 0 ∧ msixAt a = none ∧ (regAt a).isNone = true ∧
      s.regOn = true ∧ s.intDom .chain a = none) ∧
    (∃ (s : State) (a k : Nat), a < 2 ^ 32 ∧ a % 4 = 0 ∧ msixAt a = none ∧ (regAt a).isNone = true ∧
      s.intDom .chain a = some k ∧ s.Open k ∧ s.live = true) ∧
    (∃ (s : State) (a : Nat) (h : Fin 2) (off : Nat) (peek : Bool), a < 2 ^ 32 ∧ a % 4 = 0 ∧ msixAt a = none ∧
      (regAt a).isNone = true ∧ s.hostServes h = true ∧ (s.hst h).mse = true ∧ off < 2 ^ 26 ∧ off % 4 = 0 ∧
      msixBar off = none ∧ s.window h off = some (a, peek) ∧ (s.hst h).cpls = []) ∧
    (∃ (s : State) (a k : Nat), a < 2 ^ 32 ∧ a % 4 = 0 ∧ msixAt a = none ∧ (regAt a).isNone = true ∧
      s.regOn = true ∧ s.intDom .chain a = some k ∧ (s.dmn k).shade = .grey) ∧
    (∃ (s : State) (a : Nat), a < 2 ^ 32 ∧ a % 4 = 0 ∧ msixAt a = none ∧ (regAt a).isNone = true ∧ s.live = false) :=
  ⟨⟨up, 0xFFFFFFFC, by decide +kernel⟩,
    ⟨up, 0x10000008, domPg 0, by unfold State.Open; decide +kernel⟩,
    ⟨up, 0x7000, 0, 0x7000, false, by decide +kernel⟩,
    ⟨{ up with dom := domUp.map fun e => (e.1, { e.2 with shade := .grey, target := .grey }) }, 50331700, domTbl, by decide +kernel⟩,
    ⟨{ up with frz := { frozen := true, stopped := true } }, 50331700, by decide +kernel⟩⟩

/-- A command waits behind another; none waits; and the fuses are blown. -/
def two : State :=
  { up with pending := [.nop 0, .chainReset], fuses := { factory := true, payload := true, debug := true } }

theorem wit_steps :
    (∃ (c : Instr) (rest : List Instr) (s : State), s.pending = c :: rest) ∧
    (∃ s : State, s.pending = [] ∧ s.frz.stopped = true) ∧
    (∃ s : State, s.pending = [] ∧ s.frz.stopped = false ∧ s.clkOk 153 = true ∧ s.time.trim = 0 ∧
      s.led.open_ = false) ∧
    (∃ s t : State, s.pending = [] ∧ s.frz.stopped = false ∧ s.clkOk 153 = true ∧ Machine.step s = .next t ∧
      s.led.open_ = true ∧ s.isActive domTel = true ∧ s.ledEnd ≤ t.now) :=
  ⟨⟨.nop 0, [.chainReset], two, by decide +kernel⟩, ⟨{ up with frz := { stopped := true } }, by decide +kernel⟩,
    ⟨up, by decide +kernel⟩,
    ⟨{ up with led := { open_ := true } }, _, by decide +kernel, by decide +kernel, by decide +kernel, rfl,
      by decide +kernel, by decide +kernel, by decide +kernel⟩⟩

theorem wit_invariants :
    ∃ s t : State, s.Production ∧ twf s.dramDflt s.dram.mem = true ∧ Machine.step s = .next t :=
  ⟨two, _, by unfold State.Production; decide +kernel, by decide +kernel, rfl⟩

/-- Every command answers a next state somewhere; here one of each frame's families, from a state with no
marked buffer. -/
theorem wit_frames :
    (∃ s t, exec (.nop 0) s = .next t) ∧ (∃ s t, exec .freezeNHigh s = .next t) ∧
    (∃ s t, exec .commit s = .next t) ∧ (∃ s t, exec (.transmitEnd 255) s = .next t) ∧
    (∃ s t, exec (.linkDown 1) s = .next t) ∧ (∃ s t, State.Sound s ∧ exec (.puntWrite 0) s = .next t) ∧
    (∃ s t, State.Sound s ∧ exec (.egressReadStart 0 1 false) s = .next t) ∧
    (∃ s t, State.Sound s ∧ exec (.police 0 false 0) s = .next t) :=
  ⟨⟨two, _, rfl⟩, ⟨two, _, rfl⟩, ⟨two, _, rfl⟩, ⟨two, _, rfl⟩, ⟨two, _, rfl⟩,
    ⟨two, _, ⟨fun _ => rfl, fun _ => rfl⟩, rfl⟩, ⟨two, _, ⟨fun _ => rfl, fun _ => rfl⟩, rfl⟩,
    ⟨two, _, ⟨fun _ => rfl, fun _ => rfl⟩, rfl⟩⟩

/-! ### Well-formedness: an ill-formed command for each check, and one that passes -/

theorem test_wf_time : (Instr.receiveFrame 0 [] true (2 ^ 64) 0).complaint = some .time := by decide +kernel
theorem test_wf_frame : (Instr.receiveFrame 0 (List.replicate 65536 0) true 0 0).complaint = some .frame := by
  decide +kernel
theorem test_wf_expanders : (Instr.cagePoll 7 [.data 0, .failed .nack,
  .data 0]).complaint = some .expanders := by decide +kernel
theorem test_wf_segment : (Instr.transferSegment 63 .ack (List.replicate 17 0)).complaint = some .segment := by
  decide +kernel
theorem test_wf_link :
    (Instr.linkUp 0 3 5).complaint = some .link ∧ (Instr.linkUp 0 8 6).complaint = some .link ∧
      (Instr.linkUp 1 8 5).complaint = some .link := by
  decide +kernel
theorem test_wf_doorbell : (Instr.doorbellFetchComplete 0 (some [1])).complaint = some .doorbell := by decide +kernel
theorem test_wf_queue :
    (Instr.dramRead 0 64 .good).complaint = some .queue ∧ (Instr.dramWrite 0 64).complaint = some .queue := by
  decide +kernel
theorem test_wf_chain : (Instr.chainFrame []).complaint = some .chain := by decide +kernel
theorem test_wf_passes :
    (Instr.receiveFrame 255 [1] false 5 0x3F).wf = true ∧ (Instr.linkUp 1 4 5).wf = true ∧
      (Instr.chainFrame [0]).wf = true := by decide +kernel

/-! ### The spec's worked values -/

def nine : List Byte := [0x31, 0x32, 0x33, 0x34, 0x35, 0x36, 0x37, 0x38, 0x39]

/-- R445: the CRC of the chain over "123456789". -/
theorem test_crc16 : crc16 nine = 0x29B1 := by decide +kernel

/-- The spec's conventions: CRC-32C over "123456789" from 0xFFFF_FFFF, the register not inverted. -/
theorem test_crc32c : crc32c 0xFFFFFFFF nine = 0x1CF96D7C := by decide +kernel

/-- R275, R276, the example before R281: NEC_STAT of cluster 45 through host 0's BAR0. -/
theorem test_bar0_window : State.reset.window 0 0x01740004 = some (0x10B40004, false) := by decide +kernel

/-- R276, the example before R425: SXL_TX_EQ44 of port group 4. -/
theorem test_bar0_lane : State.reset.window 0 0x00820584 = some (0x04420584, false) := by decide +kernel

/-- R280, the example before R281: a capture record through a BAR4 window. -/
theorem test_bar4_window :
    (State.reset.setRg .winB4 0 5 0x80000408 0).window4 0 0x51234560 = some 0x4081234560 := by decide +kernel

/-- R162, R163: the example of group 12: LP52 of four members, and still LP52 with LP21 down. -/
theorem test_lag :
    let e : List Word := [0xC0000004, 0x35341514]
    let s : State := { up with tbl := { up.tbl with cpG := [(cpKey 6 false 12, e)] },
                               ports := [(20, { st := .up }), (21, { st := .up }), (52, { st := .up }), (53, { st := .up })] }
    s.lagPick 0 false 12 0xA3C1 = .inr 52 ∧ (s.setPort 21 { st := .hold }).lagPick 0 false 12 0xA3C1 = .inr 52 := by
  decide +kernel

/-- R320, R336, R339, the example of channel 2: three ranks of 16 GiB serve, and the fourth is the spare. -/
theorem test_dram_ranks :
    let s : State := (up.setRg .drcCfg 0 0 0x0F060104).setRg .drcChCtl 0 2 0xB
    s.usable 2 = 48 * 2 ^ 30 ∧ dramChan 0x6406000040 = some (2, 0x406000040) ∧ s.rankOf 2 0x406000040 = 1 := by
  decide +kernel

/-- R382, R409: the command that waits runs: a chip reset takes it off the queue and leaves the fuses. -/
theorem test_step_runs :
    (match Machine.step { two with pending := [.chipReset .chain 0x800000C4] } with
      | .next t => decide (t.fuses = two.fuses ∧ t.pending = [] ∧ t.hosts ≠ two.hosts)
      | _ => false) = true := by decide +kernel

end Sys2Proof.Tests
end

section
/-! PROOFS of the family 00_scope: what a step leaves of the fuses, the state of reset, and the accesses of registers,
counters, the user page, BAR4 and CHIP_COMMIT along the paths that reach them. -/

namespace Sys2Proof.Machine

open Sys2Proof

/-! ### No command but the end of a blow alters the queue, the identity or the fuses -/

/-- A table command that runs on the requester's data keeps the three where its operation does. -/
theorem State.tableCmd_keep (s : State) (d : Option (List Word)) (ok : Bool)
    (run : State → TCmd → List Word → CmdRes) (h : ∀ s c ws, (run s c ws).st.keep = s.keep) :
    (s.cuRun fun s c => State.finish c (s.cmdRun c d fun ws => run s c ws) ok).keep = s.keep :=
  State.cuRun_keep _ _ fun s c => (State.finish_keep ..).trans (State.cmdRun_keep _ _ _ _ (h s c))

/-- R409: a command other than FUSE_BLOWN keeps the queue, what the factory fixed, and the fuses. -/
theorem exec_keep {i : Instr} {s t : State} (hi : i ≠ .fuseBlown) (e : exec i s = .next t) : t.keep = s.keep := by
  cases i <;> dsimp only [exec, execStretchTimeout, execSubPortAutoResume, execPwrSettleExpiry, execReleaseTimeout,
    execKnownAnswerSelfTest, execSentinelRotation, execPaleReturn, execRefresh, execDramRead, execDramWrite,
    execWriteDrain, execSelfRefreshExit, execFaultWindowEnd, execHaltMaxExpiry] at e
  case fuseBlown => exact absurd rfl hi
  case stretchTimeout =>
    split at e <;> refine act_keep _ _ _ _ ?_ e
    · exact (State.emit_keep ..).trans (State.setBus_keep ..)
    · exact (State.emit_keep ..).trans (State.expFail_keep ..)
  all_goals refine act_keep _ _ _ _ ?_ e
  -- frames
  case receiveFrame => exact State.receive_keep ..
  case overflowSearch => exact State.search_keep ..
  case dispatch => exact State.dispatch_keep ..
  case resequence => exact State.release26_keep ..
  case police => exact State.police_keep ..
  case replicaEnqueue => exact State.pendStep_keep ..
  case bufferWriteEnd => exact State.bufWritten_keep ..
  case schedulerPick => exact State.pick_keep ..
  case egressReadStart => exact State.readStart_keep ..
  case transmitEnd => exact State.endTx_keep ..
  case hostQueuePick => exact State.hostPickRun_keep ..
  case puntWrite => exact State.puntRun_keep ..
  case portDownFlush => exact State.flushUnit_keep ..
  case ageCheck => exact State.ageHeads_keep ..
  -- engines
  case microwordIssue => exact State.issue_keep ..
  case treeReadReturn => exact State.treeReturn_keep ..
  case scratchLoadReturn => exact State.loadReturn_keep ..
  case counterAddReturn => exact State.countReturn_keep ..
  case storeBufferDrain => exact State.drain_keep ..
  case lockGrant => exact State.grant_keep ..
  case backgroundStart => exact State.background_keep ..
  -- sub-ports
  case portCfgWrite => exact State.access_keep _ _ _ _ fun s => State.writePortCfg_keep ..
  case subPortEnable | subPortDisable => exact State.access_keep _ _ _ _ fun s => State.writeMacCtl_keep ..
  case trainingComplete => exact State.toAligning_keep ..
  case upHoldExpiry => exact State.tryUp_keep ..
  case linkFault | alignmentMarkerLock => exact State.linkConds_keep ..
  case downHoldExpiry => exact State.endHold_keep ..
  case subPortAutoResume => exact State.enableLp_keep ..
  -- cages
  case expanderInit => exact State.access_keep _ _ _ _ fun s => State.writeBusCfg_keep ..
  case cagePoll => exact State.poll_keep ..
  case expanderOutputWrite => exact State.expWrite_keep ..
  case moduleTransfer => exact State.access_keep _ _ _ _ fun s => State.writeXfer_keep ..
  case transferSegment => exact State.segment_keep ..
  case pwrSettleExpiry => exact State.settleEnd_keep ..
  case releaseTimeout => exact State.cageTo_keep ..
  case powerOn | highPower | lowPower | release | resetPulse | cancel =>
    exact State.access_keep _ _ _ _ fun s => State.cageCmd_keep ..
  -- associative copies, learning, ageing
  case ascCopyWrite => exact State.pipeWrite_keep ..
  case ascCompare => exact State.ascScan_keep ..
  case ascRepair => exact State.ascFix_keep ..
  case learnInsert => split; exacts [rfl, State.serveNotice_keep ..]
  case ageingVisit => exact State.ageStep_keep ..
  -- table commands
  case read => exact State.tableCmd_keep _ _ _ _ State.readRun_keep
  case writeIndex => exact State.tableCmd_keep _ _ _ _ State.writeRun_keep
  case insert => exact State.tableCmd_keep _ _ _ _ State.insertRun_keep
  case delete => exact State.tableCmd_keep _ _ _ _ State.deleteRun_keep
  case search => exact State.tableCmd_keep _ _ _ _ State.searchRun_keep
  case treeWrite => exact State.tableCmd_keep _ _ _ _ State.treeWriteRun_keep
  case treeRetire => exact State.tableCmd_keep _ _ _ _ fun s c _ => State.treeRetireRun_keep s c
  case setRoot => exact State.tableCmd_keep _ _ _ _ fun s c _ => State.setRootRun_keep s c
  case flushLearned => exact State.tableCmd_keep _ _ _ _ fun s c _ => State.flushRun_keep s c
  case ageNow => exact State.tableCmd_keep _ _ _ _ fun s _ _ => State.ageRun_keep s
  case setWidth => exact State.tableCmd_keep _ _ _ _ fun s c _ => State.widthRun_keep s c
  case bulkStage => exact State.cuRun_keep _ _ fun s c => (State.finish_keep ..).trans (State.bulk_keep ..)
  case tblCmdGo => exact State.access_keep _ _ _ _ fun s => State.submit_keep ..
  -- epochs
  case beginStage => exact State.cuRun_keep _ _ fun s c => State.formed_keep _ _ _ State.begin__keep
  case waitingBeginStage => exact State.beginNext_keep ..
  case commit => exact State.cuRun_keep _ _ fun s c => State.formed_keep _ _ _ State.commitRun_keep
  case pipeFlip => exact State.takeFlip_keep ..
  case commitComplete => exact State.commitEnd_keep ..
  case flipTimeout => exact foldl_keep _ State.lateGroup_keep ..
  case drainComplete => exact State.toSweep_keep ..
  case drainTimeout => exact ite_keep _ _ _ _ (State.toSweep_keep ..) rfl
  case epochFlush =>
    exact ite_keep _ _ _ _ ((State.toSweep_keep ..).trans (State.flushStale_keep ..)) (State.flushStale_keep ..)
  case settleSweep | abortSweep => exact State.sweepRun_keep ..
  case abortStage => exact State.cuRun_keep _ _ fun s c => State.formed_keep _ _ _ State.abortRun_keep
  case forceAbort => exact State.access_keep _ _ _ _ fun s => State.writeEpcCfg_keep ..
  case settleWait => exact State.cuRun_keep _ _ fun s c => State.formed_keep _ _ _ State.settleWait_keep
  -- clusters, images, sentinels
  case clusterReset | slotInvalidate | activeSlot | admitWrite =>
    exact State.access_keep _ _ _ _ fun s => State.writeNecCtl_keep ..
  case clusterResetComplete | slotTableSwitch => exact State.setClu_keep ..
  case imageLoadStart | imageLoadAbort => exact State.access_keep _ _ _ _ fun s => State.writeImgCtl_keep ..
  case imageData => exact State.access_keep _ _ _ _ fun s => ite_keep _ _ _ _ (State.imgData_keep ..) rfl
  case imageFillComplete => exact State.imgFill_keep ..
  case controlStoreScrub => exact (State.csRepair_keep ..).trans (State.setCword_keep ..)
  case digestCompare => split; exacts [State.compareDigest_keep .., rfl]
  case digestRecheck => split; exacts [State.recheck_keep .., rfl]
  case spareTaken => exact State.takeSpare_keep ..
  case knownAnswerSelfTest => exact State.selfTest_keep ..
  case rearm => exact State.access_keep _ _ _ _ fun s => State.writeSentCfg_keep ..
  case sentinelRotation => split; exacts [State.setClu_keep .., rfl]
  case rotationComplete => split; exacts [State.setClu_keep .., rfl]
  case retireWrite => exact State.writeRetire_keep ..
  -- ledger and telemetry
  case intervalClose => exact State.closeInterval_keep ..
  case ledgerCheck => exact State.checkLedger_keep ..
  case histogramPeriodEnd => exact State.endPeriod_keep ..
  case digestBatchEmit => exact State.digestEmit_keep ..
  case bandwidthWindowEnd => exact State.endWindow_keep ..
  case peakClearPort | peakClearAll => exact State.access_keep _ _ _ _ fun s => State.bwClr_keep ..
  case counterGroupClear => exact State.access_keep _ _ _ _ fun s => State.pmcClr_keep ..
  case imbalancePop =>
    exact ite_keep _ _ _ _ (State.access_keep _ _ _ _ fun s => (State.imbPop_keep ..).trans (State.emit_keep ..))
      (State.emit_keep ..)
  case mcLogPop =>
    exact ite_keep _ _ _ _ (State.access_keep _ _ _ _ fun s => (State.mcPop_keep ..).trans (State.emit_keep ..))
      (State.emit_keep ..)
  case historyPop =>
    exact ite_keep _ _ _ _ (State.emit_keep ..)
      (ite_keep _ _ _ _ ((State.emit_keep ..).trans (State.histFail_keep ..))
        ((State.histPop_keep ..).trans (State.emit_keep ..)))
  -- register accesses
  case chipCommit => exact State.commitReg_keep ..
  case counterReadClear | lowWordLatch => exact State.readPath_keep ..
  case registerWrite => exact State.writePath_keep ..
  case misalignedAccess =>
    exact State.bar_keep _ _ _ _ fun s =>
      ite_keep _ _ _ _ (State.hostAccess_keep ..) ((State.hostWordOut_keep ..).trans (State.hostAccess_keep ..))
  case unsupportedRequest => exact (State.unclaimed_keep ..).trans (State.tlp_keep ..)
  case bar4Access => exact State.bar_keep _ _ _ _ fun s => State.bar4_keep ..
  -- hosts and their links
  case vectorUnmask => exact (State.setHst_keep ..).trans (State.tlp_keep ..)
  case l0sEntry | l1Entry => exact State.setHst_keep ..
  case linkUp => exact (State.sendLtr_keep ..).trans (State.setHst_keep ..)
  case linkDown | hotReset | functionLevelReset | busMasterDisable => exact State.loseHost_keep ..
  case perstAssert => exact (State.setHst_keep ..).trans (State.loseHost_keep ..)
  case leave | present => exact State.writeHostCtl_keep ..
  case coalescingTimeExpiry => rfl
  -- rings
  case rngNudge => exact State.nudge_keep ..
  case doorbellPoll => exact State.dbStart_keep ..
  case doorbellFetchComplete => exact State.dbDone_keep ..
  case descriptorFetch => exact State.descStart_keep ..
  case descriptorFetchComplete => exact State.descDone_keep ..
  case writeBack => exact State.wbRun_keep ..
  case ringEnable | ringDisable => exact State.writeRngCfg_keep ..
  case injectPipelineEntry => exact State.injPipe_keep ..
  case injectDirectEntry => exact State.injDirect_keep ..
  case injectDataRead => exact State.injRead_keep ..
  -- DMA
  case dmaGo | dmaAbort => exact State.writeDmaCtl_keep ..
  case programFetch => exact State.progDone_keep ..
  case move => exact State.move_keep ..
  case loop => exact State.loop_keep ..
  case wait => exact State.waitIns_keep ..
  case waitPoll => exact State.pollIns_keep ..
  case waitExpiry => exact State.waitEnd_keep ..
  case signal => exact State.signal_keep ..
  case fence => exact State.insWait_keep ..
  case nop => exact State.goIns_keep ..
  case dmaEnd => exact State.endIns_keep ..
  case writeAcknowledge => exact State.ackWrite_keep ..
  -- DRAM
  case train => exact State.access_keep _ _ _ _ fun s => State.writeDrcCfg_keep ..
  case offline | dramResume | migrate => exact State.access_keep _ _ _ _ fun s => State.writeDrcCh_keep ..
  case trainingDone => exact State.trainEnd_keep ..
  case refresh => exact State.refreshRank_keep ..
  case temperatureRead => exact (State.dlogAll_keep ..).trans (State.setDch_keep ..)
  case zqCalibration | dqsOscillatorCheck => exact State.calibrate_keep ..
  case dramRequest => split; exacts [State.dramWrite_keep .., State.dramRead_keep ..]
  case dramRead => split; exacts [State.serveRead_keep .., rfl]
  case dramWrite => split; exacts [State.serveWrite_keep .., rfl]
  case writeDrain => exact State.setDch_keep ..
  case selfRefreshEntry => exact (State.setDramSt_keep ..).trans (State.enterSr_keep ..)
  case selfRefreshExit => exact State.srExit_keep ..
  case patrolScrub => exact State.patrol_keep ..
  case migrationChunk => exact State.migChunk_keep ..
  -- faults and their tests
  case faultWindowEnd => rfl
  case historyLost => exact State.writeStatus3_keep ..
  case sramScrub => exact State.scrub_keep ..
  case ageingMeasure => exact State.measureAge_keep ..
  case onlineTestStart => exact State.writeTest_keep ..
  case onlineTestEnd => exact State.testEnd_keep ..
  case quadrantOffline => exact State.writeQuad_keep ..
  case thermalEvent => exact State.thermal_keep ..
  case bridgeLane ev _ => cases ev <;> exact State.raise_keep ..
  -- power, clocks, resets
  case shadeRequest | domainReset => exact State.writeDom_keep ..
  case shadeStep => exact State.shadeStep_keep ..
  case paleReturn => exact State.paleBack_keep ..
  case reloadStart => exact State.writeReload_keep ..
  case reloadComplete => exact State.reloadGroup_keep ..
  case ppsEdge => exact State.ppsAccept_keep ..
  case ppsFault => exact State.raise_keep ..
  case timeSetSec => exact State.setSec_keep ..
  case powerOnReset => exact State.powerOn_keep ..
  case chipReset | fwdEn => exact State.writeChipCtl_keep ..
  case pllLock => exact State.pllLost_keep ..
  case rail => exact State.railLost_keep ..
  case serdesCal =>
    exact (foldl_keep _ State.sxDown_keep ..).trans (foldl_keep _ (fun s _ => State.raise_keep s _) ..)
  -- chain, freeze, debug
  case chainFrame => exact State.chainRx_keep ..
  case enum => exact State.enumUnit_keep ..
  case ident => exact State.identCmd_keep ..
  case peek => exact State.peekCmd_keep ..
  case chainRead => exact State.readCmd_keep ..
  case chainWrite => exact State.writeCmd_keep ..
  case freeze => exact State.chainFreeze_keep ..
  case chainReset => exact State.chainReset_keep ..
  case readout => exact State.readoutCmd_keep ..
  case readoutBurst => exact State.nextBurst_keep ..
  case image => exact State.imageCmd_keep ..
  case imageCopyDone => exact State.imageDone_keep ..
  case blow => exact State.blowCmd_keep ..
  case assert => exact State.writeFrzCtl_keep ..
  case freezeNLow => exact State.freezeLatch_keep ..
  case freezeNHigh => rfl
  case clockStop => exact State.stopClocks_keep ..
  case halt | forceHalt | resume | step | abortPkt => exact State.writeDbg_keep ..
  case haltMaxExpiry => exact State.abortThread_keep ..

/-- What `keep` shows is the queue, the identity and the fuses. -/
theorem State.fuses_of_keep {s t : State} (h : t.keep = s.keep) : t.fuses = s.fuses := congrArg (·.2.2) h

/-- R409: the end of a blow blows a fuse that a customer may blow: the factory fuse stays as it is. -/
theorem State.blowDone_factory (s : State) : s.blowDone.fuses.factory = s.fuses.factory := by
  unfold State.blowDone
  split
  · rw [State.fuses_of_keep ((State.ownPop_keep _).trans (State.reply_keep ..))]
    split <;> rfl
  · rfl

/-- R4, R409: a command leaves the factory fuse as it is. -/
theorem exec_factory {i : Instr} {s t : State} (e : exec i s = .next t) : t.fuses.factory = s.fuses.factory := by
  by_cases hi : i = .fuseBlown
  · subst hi
    injection e with e
    subst e
    split
    · rw [State.intSweep_fuses, State.blowDone_factory]
    · rfl
  · rw [State.fuses_of_keep (exec_keep hi e)]

/-- R4, R409: a step leaves the factory fuse as it is. -/
theorem step_factory {s t : State} (e : step s = .next t) : t.fuses.factory = s.fuses.factory := by
  unfold step at e
  split at e
  · injection e with e
    rw [← e, State.fuses_of_keep (State.tick_keep s)]
  · exact (exec_factory e :)

/-- Settles O4: no command, the end of a blow included, changes the factory fuse, and neither does the time base. -/
theorem productionKept : Obligations.ProductionKept := by
  intro s t hs e
  exact (step_factory e).trans hs

/-! ### The state of reset -/

/-- R370, R384: at reset every domain but AON, PCIE and DMAQ is as a power-on leaves it. -/
theorem State.reset_dmn {k : Nat} (hk : 3 ≤ k) : State.reset.dmn k = {} := by
  have h0 : k ≠ 0 := by omega
  have h1 : k ≠ 1 := by omega
  have h2 : k ≠ 2 := by omega
  simp only [State.dmn, State.reset, tget, if_neg h0, if_neg h1, if_neg h2]

/-- R370: at reset the port groups are Black. -/
theorem State.reset_group_black (n : Fin 8) : (State.reset.dmn (domPg n)).shade = .black := by
  rw [State.reset_dmn (by unfold domPg; omega)]

/-- Settles O6: the fixed fields of the reset state are read off, and the port groups' domains are none of the three
that a power-on starts. -/
theorem resetHolds : Obligations.ResetHolds :=
  ⟨rfl, rfl, rfl, rfl, rfl, rfl, rfl, rfl, State.reset_group_black⟩

/-! ### A write of a stored word -/

/-- Settles O40, bit by bit: below the word's width the masks decide, and beyond it no word has a bit. -/
theorem writtenBits : Obligations.WrittenBits := by
  intro x old v i
  by_cases hi : i < 32
  · simp only [RegRow.written, BitVec.getLsbD_and, BitVec.getLsbD_or, BitVec.getLsbD_not, hi, decide_true,
      Bool.true_and]
    cases x.w1c.getLsbD i <;> cases v.getLsbD i <;> cases x.rw.getLsbD i <;> simp
  · have hge (w : Word) : w.getLsbD i = false := BitVec.getLsbD_of_ge w i (Nat.le_of_not_lt hi)
    simp [hge]

/-! ### How a command's next state is shown -/

/-- A command whose condition holds becomes what its operation makes of the state. -/
theorem becomes_of_act {i : Instr} {s : State} {c : Bool} {f : State → State} (h : exec i s = act c f s)
    (hc : c = true) : Becomes i s (f s) := by
  rw [Becomes, h, act_next, if_pos hc]

/-- A command that becomes `t` completes with what holds of `t` after the interrupts. -/
theorem Becomes.completes {i : Instr} {s t : State} {p : State → Prop} (h : Becomes i s t) (hp : p t.intSweep) :
    Completes i s p := ⟨_, h, hp⟩

/-! ### Power domains that serve an access -/

/-- R277: an access to a domain that serves it reaches it, and changes nothing. -/
theorem State.Open.reach {s : State} {k : Nat} (h : s.Open k) (r : Req) (peek : Bool) :
    s.reach r k peek = (true, s) := by
  obtain ⟨_, hfused, hactive, hstill, hwoken⟩ := h
  exact State.reach_active s r k peek hfused hactive hstill hwoken

/-- R277: what an access to a domain that serves it does. -/
theorem State.Open.access {s : State} {k : Nat} (h : s.Open k) (r : Req) (f : State → State) :
    s.access r k f = f s := by
  simp [State.access, h.reach]

/-- R277, R369: a register is in no power domain, or in one that serves it. -/
def State.Serves (s : State) (r : Req) (x : RegAt) : Prop :=
  s.domOf r x = none ∨ ∃ k, s.domOf r x = some k ∧ s.Open k

/-! ### The packet of a host leaves registers, domains and tables as they are -/

theorem State.Open.tlp {s : State} {k : Nat} (o : s.Open k) (h : Nat) : (s.tlp h).Open k := o

theorem State.Serves.tlp {s : State} {r : Req} {x : RegAt} (v : s.Serves r x) (h : Nat) : (s.tlp h).Serves r x := v

/-- A packet leaves the presence, the width, the speed and the losses that a host's function shows. -/
theorem State.hst_tlp (s : State) (h k : Nat) :
    (s.tlp h).hst k = { s.hst k with lastTlp := ((s.tlp h).hst k).lastTlp, pm := ((s.tlp h).hst k).pm } := by
  simp only [State.tlp, State.hst_setHst]
  split
  · subst k; rfl
  · rfl

/-- R11: no register shows when a host's last packet came. -/
theorem State.regVal_tlp (s : State) (h : Nat) (r : Req) (x : RegAt) : (s.tlp h).regVal r x = s.regVal r x := by
  unfold State.regVal
  cases x.row.name
  case pciHostCtl => dsimp only; rw [State.hst_tlp]; rfl
  case pciHostStat => dsimp only; rw [State.hst_tlp]; rfl
  all_goals rfl

/-! ### Reads and writes of a named register -/

/-- R10: a write of a named register in a domain that serves it. -/
theorem State.accWrite_named {s : State} {r : Req} {a : Nat} {x : RegAt} (v : Word) (hm : msixAt a = none)
    (hx : regAt a = some x) (hs : s.Serves r x) (hc : x.row.name ≠ .chipCommit) :
    s.accWrite r a v = s.writeReg r x v := by
  rcases hs with hd | ⟨k, hd, ho⟩
  · simp [State.accWrite, hm, hx, hc, hd]
  · simp [State.accWrite, hm, hx, hc, hd, ho.access]

/-- R9-R11: a read of a named register in a domain that serves it. -/
theorem State.accRead_named {s : State} {r : Req} {a : Nat} {x : RegAt} (peek : Bool) (hm : msixAt a = none)
    (hx : regAt a = some x) (hs : s.Serves r x) : s.accRead r a peek = s.readReg r x peek := by
  rcases hs with hd | ⟨k, hd, ho⟩
  · simp [State.accRead, hm, hx, hd]
  · simp [State.accRead, hm, hx, hd, ho.reach]

/-- R412: a write of an address that names no register ignores the value. -/
theorem State.accWrite_nameless {s : State} {r : Req} {a : Nat} (v : Word) (hm : msixAt a = none)
    (hx : regAt a = none) : s.accWrite r a v = s.reachUnnamed r a false := by
  simp [State.accWrite, hm, hx]

/-- R412: a read of an address that names no register answers zero. -/
theorem State.accRead_nameless {s : State} {r : Req} {a : Nat} (peek : Bool) (hm : msixAt a = none)
    (hx : regAt a = none) : s.accRead r a peek = (0, s.reachUnnamed r a peek) := by
  simp [State.accRead, hm, hx]

/-- R277, R412: an access to an address that names no register reaches the domain that holds the address. -/
theorem State.reachUnnamed_intDom {s : State} {r : Req} {a k : Nat} (peek : Bool) (ha : a < 2 ^ 32)
    (hx : regAt a = none) (hd : s.intDom r a = some k) : s.reachUnnamed r a peek = (s.reach r k peek).2 := by
  simp only [State.intDom, if_pos ha, hx] at hd
  simp [State.reachUnnamed, hd]

/-! ### What an ordinary read leaves (R9, R10) -/

/-- The registers whose reads do more than latch a counter or clear bits. -/
def readActs : List RegName :=
  [.histHead, .ledImbHead, .necMcLog, .polDrops, .sxlRxStat, .clkDom, .clkRefStat, .sxlPrbsErr]

/-- R9: the word above a register, as a requester sees it: the high word of a counter's low word. -/
def State.highWord (s : State) (r : Req) (x : RegAt) : Word := (x.above.map (s.regVal r)).getD 0

/-- R9: what is latched for a requester. -/
def State.latched (s : State) (q : Req) : Word := tget (fun _ => 0) s.latch (reqNum q)

/-- R10: an ordinary read of a plain register with RC bits clears them. -/
theorem State.readEffect_plain {s : State} {x : RegAt} (r : Req) (hn : x.row.name ∉ readActs)
    (hk : x.row.kind = .plain) (hrc : x.row.rc ≠ 0) :
    s.readEffect r x =
      { s with held := tset heldReset s.held x.addr (tget heldReset s.held x.addr &&& ~~~ x.row.rc) } := by
  unfold State.readEffect
  split
  case h_9 => simp only [hk, if_neg hrc]
  all_goals simp_all [readActs]

/-- R9: an ordinary read of a counter's low word latches the high word for its requester. -/
theorem State.readEffect_low {s : State} {x : RegAt} (r : Req) (hn : x.row.name ∉ readActs)
    (hk : x.row.kind = .ctrLo) :
    s.readEffect r x =
      if s.rxRuns x.row.name x.k x.j then (s.setLatch (reqNum r) (s.highWord r x)).fresh.2
      else s.setLatch (reqNum r) (s.highWord r x) := by
  unfold State.readEffect
  split
  case h_9 => simp only [hk, State.highWord]
  all_goals simp_all [readActs]

/-- R9: an ordinary read of a counter's high word changes nothing. -/
theorem State.readEffect_high {s : State} {x : RegAt} (r : Req) (hn : x.row.name ∉ readActs)
    (hk : x.row.kind = .ctrHi) : s.readEffect r x = s := by
  unfold State.readEffect
  split
  case h_9 => simp only [hk]
  all_goals simp_all [readActs]

/-- R9-R11: what an ordinary read answers and leaves, of a live register that is no high word. -/
theorem State.readReg_current {s : State} {x : RegAt} (r : Req) (hl : s.live = true) (hd : s.dead x = false)
    (hk : x.row.kind ≠ .ctrHi) : s.readReg r x false = (s.regVal r x, s.readEffect r x) := by
  simp [State.readReg, hl, hd, hk]

/-- R9: a read of a counter's high word answers what is latched for its requester, and changes nothing. -/
theorem State.readReg_high {s : State} {x : RegAt} (r : Req) (hl : s.live = true) (hd : s.dead x = false)
    (hn : x.row.name ∉ readActs) (hk : x.row.kind = .ctrHi) : s.readReg r x false = (s.latched r, s) := by
  simp [State.readReg, hl, hd, hk, State.readEffect_high r hn hk, State.latched]

/-! ### The latches of the requesters (R9) -/

/-- R175, R212: the requesters' places differ. -/
theorem reqNum_inj {q r : Req} : reqNum q = reqNum r ↔ q = r := by
  cases q <;> cases r <;> decide

@[simp] theorem State.latched_setLatch (s : State) (r q : Req) (v : Word) :
    (s.setLatch (reqNum r) v).latched q = if q = r then v else s.latched q := by
  simp [State.latched, State.setLatch, reqNum_inj]

@[simp] theorem State.latched_emit (s : State) (o : Out) (q : Req) : (s.emit o).latched q = s.latched q := rfl

@[simp] theorem State.latched_intSweep (s : State) (q : Req) : s.intSweep.latched q = s.latched q := rfl

@[simp] theorem State.latched_fresh (s : State) (q : Req) : s.fresh.2.latched q = s.latched q := rfl

/-- R281: completions leave the latches. -/
theorem State.cplSend_latch (s : State) (h : Nat) (l : List HostCpl) : (s.cplSend h l).latch = s.latch := by
  induction l generalizing s with
  | nil => rfl
  | cons c l ih =>
    unfold State.cplSend
    split
    · exact ih _
    · rfl

@[simp] theorem State.latched_hostWordOut (s : State) (h : Nat) (v : Word) (q : Req) :
    (s.hostWordOut h v).latched q = s.latched q := by
  unfold State.latched State.hostWordOut State.cplPut
  rw [State.cplSend_latch]

/-- R9: after a read of a counter's low word its requester's latch holds the high word, and the others' are as they
were. -/
theorem State.latched_readEffect {s : State} {x : RegAt} (r q : Req) (hn : x.row.name ∉ readActs)
    (hk : x.row.kind = .ctrLo) :
    (s.readEffect r x).latched q = if q = r then s.highWord r x else s.latched q := by
  rw [State.readEffect_low r hn hk]
  split <;> simp

/-- R9: what shows the latches that a read of a counter's low word leaves: the high word for its requester, and for the
others what was latched before. -/
theorem State.latched_after_low {s t : State} {r : Req} {x : RegAt} (hn : x.row.name ∉ readActs)
    (hk : x.row.kind = .ctrLo) (ht : ∀ q, t.latched q = (s.readEffect r x).latched q) :
    t.latched r = s.highWord r x ∧ ∀ q, q ≠ r → t.latched q = s.latched q := by
  refine ⟨?_, fun q hq => ?_⟩
  · rw [ht, State.latched_readEffect r r hn hk, if_pos rfl]
  · rw [ht, State.latched_readEffect r q hn hk, if_neg hq]

/-- R9: a host's packet leaves the high word of a counter. -/
theorem State.highWord_tlp (s : State) (h : Nat) (r : Req) (x : RegAt) : (s.tlp h).highWord r x = s.highWord r x := by
  have hv : (s.tlp h).regVal r = s.regVal r := funext (s.regVal_tlp h r)
  rw [State.highWord, hv, State.highWord]

/-! ### Accesses along a path -/

/-- R10: a write along a path that reaches the device. -/
theorem becomes_registerWrite {s : State} {p : Path} (v : Word) (hp : s.pathOk p = true) :
    Becomes (.registerWrite p v) s (s.writePath p v) :=
  becomes_of_act (f := fun s => s.writePath p v) rfl hp

/-- R10: a read along a path that reaches the device. -/
theorem becomes_counterReadClear {s : State} {p : Path} (hp : s.pathOk p = true) :
    Becomes (.counterReadClear p) s (s.readPath p) :=
  becomes_of_act (f := fun s => s.readPath p) rfl hp

/-- R9: a read along a path that reaches the device. -/
theorem becomes_lowWordLatch {s : State} {p : Path} (hp : s.pathOk p = true) :
    Becomes (.lowWordLatch p) s (s.readPath p) :=
  becomes_of_act (f := fun s => s.readPath p) rfl hp

/-- An internal address of register space reaches the device while registers are served. -/
theorem State.pathOk_internal {s : State} {a : Nat} (r : Req) (hon : s.regOn = true) (ha : a < 2 ^ 32) :
    s.pathOk (.internal r a) = true := by
  simpa [State.pathOk, hon] using ha

theorem State.writePath_internal {s : State} {a : Nat} (r : Req) (v : Word) (h4 : a % 4 = 0) :
    s.writePath (.internal r a) v = s.accWrite r a v := by
  simp [State.writePath, h4]

theorem State.readPath_internal {s : State} {a : Nat} (r : Req) (h4 : a % 4 = 0) :
    s.readPath (.internal r a) = (s.accRead r a false).2.emit (.readData r (s.accRead r a false).1) := by
  simp [State.readPath, h4]

/-- R271: a host's request that a BAR claims, since Memory Space Enable is 1. -/
theorem State.bar_claimed {s : State} {h : Nat} (read : Bool) (f : State → State) (he : (s.hst h).mse = true) :
    s.bar h read f = f (s.tlp h) := by
  simp [State.bar, he]

/-- R271: a host's request that no BAR claims, since Memory Space Enable is 0. -/
theorem State.bar_unclaimed {s : State} {h : Nat} (read : Bool) (f : State → State) (he : (s.hst h).mse = false) :
    s.bar h read f = (s.tlp h).unclaimed h read := by
  simp [State.bar, he]

/-- An offset of BAR0 reaches the device while the host's link is up and registers are served. -/
theorem State.pathOk_bar0 {s : State} {h : Fin 2} {off : Nat} (hv : s.hostServes h = true) (ho : off < 2 ^ 26) :
    s.pathOk (.bar0 h off) = true := by
  simpa [State.pathOk, hv] using ho

/-- R275-R278: a read of BAR0 through an enabled window that is no peek window. -/
theorem State.readPath_bar0 {s : State} {h : Fin 2} {off a : Nat} (he : (s.hst h).mse = true)
    (hm : msixBar off = none) (hw : s.window h off = some (a, false)) (h4 : a % 4 = 0) :
    s.readPath (.bar0 h off) =
      ((s.tlp h).accRead (hostReq h) a false).2.hostWordOut h ((s.tlp h).accRead (hostReq h) a false).1 := by
  have hw' : (s.tlp h).window h off = some (a, false) := hw
  simp [State.readPath, State.bar_claimed _ _ he, State.bar0Read, hm, hw', h4]

/-- Settles O41: the paths of an internal address lead to `writeReg` and to `readReg`, and a plain register's read
leaves its RC bits cleared. -/
theorem registerPaths : Obligations.RegisterPaths := by
  intro s r a x hon ha h4 hm hx hs
  refine ⟨fun v hc => ?_, fun hl hd hn hk hrc => ?_⟩
  · have h := becomes_registerWrite v (State.pathOk_internal r hon ha)
    rwa [State.writePath_internal r v h4, State.accWrite_named v hm hx hs hc] at h
  · have h := becomes_counterReadClear (State.pathOk_internal r hon ha)
    rwa [State.readPath_internal r h4, State.accRead_named false hm hx hs,
      State.readReg_current r hl hd (by simp [hk]), State.readEffect_plain r hn hk hrc] at h

/-- Settles O42: a low word's read writes the latch of its requester alone, and a high word's read answers from it,
by the internal address and through a window. -/
theorem counterHalves : Obligations.CounterHalves := by
  intro s r a x hon ha h4 hm hx hs hl hd hn high latched
  have hint : Becomes (.lowWordLatch (.internal r a)) s
      ((s.readReg r x false).2.emit (.readData r (s.readReg r x false).1)) := by
    have h := becomes_lowWordLatch (State.pathOk_internal r hon ha)
    rwa [State.readPath_internal r h4, State.accRead_named false hm hx hs] at h
  refine ⟨fun hk => ⟨?_, fun hrx => ?_⟩, fun hk => ?_, fun h off hr hv he ho hb hw => ?_⟩
  · rw [State.readReg_current r hl hd (by simp [hk])] at hint
    exact hint.completes ⟨⟨_, rfl⟩, State.latched_after_low hn hk fun q => rfl⟩
  · rw [State.readReg_current r hl hd (by simp [hk]), State.readEffect_low r hn hk, hrx] at hint
    exact hint
  · rw [State.readReg_high r hl hd hn hk] at hint
    exact hint.completes ⟨rfl, fun q => rfl⟩
  · subst hr
    have hbar : Becomes (.lowWordLatch (.bar0 h off)) s
        (((s.tlp h).readReg (hostReq h) x false).2.hostWordOut h ((s.tlp h).readReg (hostReq h) x false).1) := by
      have hp := becomes_lowWordLatch (State.pathOk_bar0 hv ho)
      rwa [State.readPath_bar0 he hb hw h4, State.accRead_named false hm hx (State.Serves.tlp hs h)] at hp
    refine ⟨fun hk => ?_, fun hk => ?_⟩
    · rw [State.readReg_current (s := s.tlp h) _ hl hd (by simp [hk]), State.regVal_tlp] at hbar
      refine hbar.completes ⟨⟨_, rfl⟩, ?_⟩
      have hlow := State.latched_after_low (s := s.tlp h) (r := hostReq h) hn hk fun q =>
        (State.latched_intSweep _ q).trans (State.latched_hostWordOut _ h (s.regVal (hostReq h) x) q)
      rwa [State.highWord_tlp] at hlow
    · rw [State.readReg_high (s := s.tlp h) _ hl hd hn hk] at hbar
      exact hbar.completes ⟨rfl, State.latched_hostWordOut _ h _⟩

/-! ### A host's requests (R271-R281) -/

theorem becomes_unsupportedRequest {s : State} {h : Fin 2} (k : BadTlp) (hv : s.hostServes h = true) :
    Becomes (.unsupportedRequest h k) s ((s.tlp h).cplPut h { unsup := true }) :=
  becomes_of_act (f := fun s => (s.tlp h).cplPut h { unsup := true }) rfl hv

/-- R8: a host's access of another size or alignment, before a BAR claims it. -/
theorem becomes_misalignedAccess {s : State} {h : Fin 2} (a : Nat) (write : Bool) (hv : s.hostServes h = true) :
    Becomes (.misalignedAccess h a write) s (s.bar h (! write) fun s =>
      if write then s.hostAccess h a else (s.hostAccess h a).hostWordOut h 0) :=
  becomes_of_act (f := fun s => s.bar h (! write) fun s =>
    if write then s.hostAccess h a else (s.hostAccess h a).hostWordOut h 0) rfl hv

/-- R280: a host's access through BAR4, before the BAR claims it. -/
theorem becomes_bar4Access {s : State} {h : Fin 2} {off : Nat} (len : Nat) (write : Option (List Byte))
    (hv : s.hostServes h = true) (ho : off < 2 ^ 32) :
    Becomes (.bar4Access h off len write) s (s.bar h write.isNone fun s => s.bar4 h off len write) := by
  refine becomes_of_act (f := fun s => s.bar h write.isNone fun s => s.bar4 h off len write) rfl ?_
  simpa [hv] using ho

/-- R280: an access through a disabled BAR4 window is counted; a read answers zero. -/
theorem State.bar4_disabled {s : State} {h off : Nat} (len : Nat) (write : Option (List Byte))
    (hw : s.window4 h off = none) :
    s.bar4 h off len write =
      if write.isSome then s.unmapped h else (s.unmapped h).cplPut h { data := zeros len } := by
  simp [State.bar4, hw]

/-- R280: an access of DRAM in service that stays within its window is queued at the DRAM, and a read is owed. -/
theorem State.bar4_dram {s : State} {h off len a : Nat} (write : Option (List Byte))
    (hw : s.window4 h off = some a) (ha : dramBase ≤ a) (hd : s.Open domDram) (hs : s.inService a = true)
    (hl : s.live = true) (hn : len ≤ 2 ^ 28 - off % 2 ^ 28) :
    s.bar4 h off len write =
      write.elim
        ((s.cplPut h {
          need := (List.range (splitReq (len + 1) a len).length).map (s.dram.nextRd + ·), addr := a,
          data := zeros len }).dramRead (hostUser h) a len)
        fun b => s.dramWrite (hostUser h) a (b.take len) := by
  have hmin : min len (2 ^ 28 - off % 2 ^ 28) = len := min_eq_left hn
  unfold State.bar4
  rw [hw]
  simp only [hmin, lt_irrefl, if_false, if_neg (Nat.not_lt.mpr ha), hd.reach, hs, hl, Bool.and_self, if_true]
  cases write <;> rfl

/-! ### The user page (R261) -/

/-- R261: an offset of the user page reaches the device. -/
theorem State.pathOk_bar2 {s : State} {h : Fin 2} {off : Nat} (hv : s.hostServes h = true) (ho : off < 2 ^ 20) :
    s.pathOk (.bar2 h off) = true := by
  simpa [State.pathOk, hv] using ho

/-- A read of the user page by a host whose Memory Space Enable is 1. -/
theorem State.readPath_bar2 {s : State} {h : Fin 2} (off : Nat) (he : (s.hst h).mse = true) :
    s.readPath (.bar2 h off) =
      ((s.tlp h).bar2Read h off).2.hostWordOut h ((s.tlp h).bar2Read h off).1 := by
  simp [State.readPath, State.bar_claimed _ _ he]

/-- R261: a permitted read of a counter's low word through BAR2 latches its high word for BAR2. -/
theorem State.bar2Read_low {s : State} {h n : Nat} (hn : n < 1024) (hu : s.userMay h n = true) (ht : s.Open domTel) :
    s.bar2Read h (8 * n) =
      (lo32 (s.ctr .pmcCntLo 0 n), s.setLatch (3 + h) (hi32 (s.ctr .pmcCntLo 0 n))) := by
  have h4 : 8 * n % 4 = 0 := by omega
  have h8 : 8 * n / 8 = n := by omega
  simp [State.bar2Read, h4, h8, hn, hu, ht.reach]

/-- R261: a permitted read of a counter's high word through BAR2 answers what is latched for BAR2. -/
theorem State.bar2Read_high {s : State} {h n : Nat} (hn : n < 1024) (hu : s.userMay h n = true) (ht : s.Open domTel) :
    s.bar2Read h (8 * n + 4) = (tget (fun _ => 0) s.latch (3 + h), s) := by
  have h4 : (8 * n + 4) % 4 = 0 := by omega
  have h8 : (8 * n + 4) / 8 = n := by omega
  simp [State.bar2Read, h4, h8, hn, hu, ht.reach]

/-- R261: a read of a counter through BAR2 without permission answers zero. -/
theorem State.bar2Read_forbidden {s : State} {h off : Nat} (h4 : off % 4 = 0) (hu : s.userMay h (off / 8) = false) :
    s.bar2Read h off = (0, s) := by
  simp [State.bar2Read, h4, hu]

/-! ### CHIP_COMMIT (R12, R291) -/

theorem becomes_chipCommit {s : State} (r : Req) (v : Word) (hon : s.regOn = true) :
    Becomes (.chipCommit r v) s (s.commitReg r v) :=
  becomes_of_act (f := fun s => s.commitReg r v) rfl hon

/-- R200: the register at the address of the carve. -/
theorem regAt_carve : (regAt (regAddr .bufCarveLo 0 0 0)).map (·.row.name) = some .bufCarveLo := by
  decide +kernel

/-- R12, R200: a commit at the carve's address commits the requester's staging copies. -/
theorem State.commitReg_carve {s : State} (r : Req) {v : Word}
    (ha : (v &&& 0xFFFFFFFC).toNat = regAddr .bufCarveLo 0 0 0) :
    s.commitReg r v =
      s.commitCarve (s.staged r (v &&& 0xFFFFFFFC).toNat).1 (s.staged r (v &&& 0xFFFFFFFC).toNat).2 := by
  obtain ⟨x, hx, hn⟩ := Option.map_eq_some_iff.mp regAt_carve
  simp only [State.commitReg, ha, hx, hn]

/-- R200: a carve whose counts sum to more than 256 is refused. -/
theorem State.commitCarve_refused (s : State) {lo hi : Word}
    (hn : 256 < [fld lo 8 0, fld lo 24 16, fld hi 8 0, fld hi 24 16].foldl (· + ·) 0) :
    s.commitCarve lo hi = { s with buf := { s.buf with carveErr := true } } := by
  simp only [State.commitCarve]
  exact if_pos hn

/-- R291: a commit of an address that names no register. -/
theorem State.commitReg_nameless {s : State} (r : Req) {v : Word} (hx : regAt (v &&& 0xFFFFFFFC).toNat = none) :
    s.commitReg r v = s.commitNone r (v &&& 0xFFFFFFFC).toNat := by
  simp only [State.commitReg, hx]

/-! ### The accesses of a host and of a nameless address -/

/-- R271: an access through a function whose Memory Space Enable is 0 is not claimed. -/
theorem becomes_unclaimed {s : State} {h : Fin 2} (hv : s.hostServes h = true) (he : (s.hst h).mse = false) :
    (∀ a, Becomes (.misalignedAccess h a true) s (s.tlp h) ∧
      Becomes (.misalignedAccess h a false) s ((s.tlp h).cplPut h { unsup := true })) ∧
    (∀ off len, off < 2 ^ 32 → Becomes (.bar4Access h off len none) s ((s.tlp h).cplPut h { unsup := true }) ∧
      ∀ b, Becomes (.bar4Access h off len (some b)) s (s.tlp h)) := by
  have hmis (a : Nat) (w : Bool) := becomes_misalignedAccess a w hv
  have hbar (off len : Nat) (w : Option (List Byte)) := becomes_bar4Access (off := off) len w hv
  simp only [State.bar_unclaimed _ _ he] at hmis hbar
  exact ⟨fun a => ⟨hmis a true, hmis a false⟩,
    fun off len ho => ⟨hbar off len none ho, fun b => hbar off len (some b) ho⟩⟩

/-- R8: a claimed access of another size or alignment is logged; a read answers zero. -/
theorem becomes_misaligned_claimed {s : State} {h : Fin 2} (a : Nat) (hv : s.hostServes h = true)
    (he : (s.hst h).mse = true) :
    Becomes (.misalignedAccess h a true) s ((s.tlp h).hostAccess h a) ∧
      Becomes (.misalignedAccess h a false) s (((s.tlp h).hostAccess h a).hostWordOut h 0) := by
  have hb (w : Bool) := becomes_misalignedAccess a w hv
  simp only [State.bar_claimed _ _ he] at hb
  exact ⟨hb true, hb false⟩

/-- R280: a claimed access through BAR4. -/
theorem becomes_bar4_claimed {s : State} {h : Fin 2} {off : Nat} (len : Nat) (write : Option (List Byte))
    (hv : s.hostServes h = true) (he : (s.hst h).mse = true) (ho : off < 2 ^ 32) :
    Becomes (.bar4Access h off len write) s ((s.tlp h).bar4 h off len write) := by
  have hb := becomes_bar4Access len write hv ho
  rwa [State.bar_claimed _ _ he] at hb

/-- R261: reads of a counter's halves through BAR2 by a host with the permission. -/
theorem becomes_userPage_permitted {s : State} {h : Fin 2} {n : Nat} (hv : s.hostServes h = true)
    (he : (s.hst h).mse = true) (hn : n < 1024) (ht : s.Open domTel) (hu : s.userMay h n = true) :
    Becomes (.lowWordLatch (.bar2 h (8 * n))) s
        (((s.tlp h).setLatch (3 + h) (hi32 (s.ctr .pmcCntLo 0 n))).hostWordOut h (lo32 (s.ctr .pmcCntLo 0 n))) ∧
      Becomes (.lowWordLatch (.bar2 h (8 * n + 4))) s
        ((s.tlp h).hostWordOut h (tget (fun _ => 0) s.latch (3 + h))) := by
  have hlow := becomes_lowWordLatch (State.pathOk_bar2 (off := 8 * n) hv (by omega))
  have hhigh := becomes_lowWordLatch (State.pathOk_bar2 (off := 8 * n + 4) hv (by omega))
  rw [State.readPath_bar2 _ he, State.bar2Read_low (s := s.tlp h) hn hu (ht.tlp h)] at hlow
  rw [State.readPath_bar2 _ he, State.bar2Read_high (s := s.tlp h) hn hu (ht.tlp h)] at hhigh
  exact ⟨hlow, hhigh⟩

/-- R261: a read of the word of a counter through BAR2 by a host without the permission. -/
theorem becomes_userPage_forbidden {s : State} {h : Fin 2} {off : Nat} (hv : s.hostServes h = true)
    (he : (s.hst h).mse = true) (ho : off < 2 ^ 20) (h4 : off % 4 = 0) (hu : s.userMay h (off / 8) = false) :
    Becomes (.lowWordLatch (.bar2 h off)) s ((s.tlp h).hostWordOut h 0) := by
  have hb := becomes_lowWordLatch (State.pathOk_bar2 hv ho)
  rwa [State.readPath_bar2 _ he, State.bar2Read_forbidden (s := s.tlp h) h4 hu] at hb

/-- R277, R412: accesses to an aligned internal address that names no register. -/
theorem becomes_nameless {s : State} {a : Nat} (r : Req) (v : Word) (hon : s.regOn = true) (ha : a < 2 ^ 32)
    (h4 : a % 4 = 0) (hm : msixAt a = none) (hx : regAt a = none) :
    Becomes (.registerWrite (.internal r a) v) s (s.reachUnnamed r a false) ∧
      Becomes (.counterReadClear (.internal r a)) s ((s.reachUnnamed r a false).emit (.readData r 0)) ∧
      Becomes (.lowWordLatch (.internal r a)) s ((s.reachUnnamed r a false).emit (.readData r 0)) := by
  have hp := State.pathOk_internal r hon ha
  have hw := becomes_registerWrite v hp
  have hc := becomes_counterReadClear hp
  have hl := becomes_lowWordLatch hp
  rw [State.writePath_internal r v h4, State.accWrite_nameless v hm hx] at hw
  rw [State.readPath_internal r h4, State.accRead_nameless _ hm hx] at hc hl
  exact ⟨hw, hc, hl⟩

/-- Settles O44: each request is followed along its path to the operation of the window, counter, domain or commit. -/
theorem hostAccesses : Obligations.HostAccesses := by
  refine ⟨fun s h hv => ⟨fun k => becomes_unsupportedRequest k hv, becomes_unclaimed hv, fun he => ?_⟩,
    fun s h n hv he hn ht => ?_, fun s r a k v hon ha h4 hm hx hd => ?_, fun s r v hon => ?_⟩
  · refine ⟨fun a => becomes_misaligned_claimed a hv he, fun off len ho hw => ?_,
      fun off len a ho hw ha hd hs hl hlen => ?_⟩
    · have hb (w : Option (List Byte)) := becomes_bar4_claimed len w hv he ho
      simp only [State.bar4_disabled (s := s.tlp h) len _ hw] at hb
      exact ⟨hb none, fun b => hb (some b)⟩
    · have hb (w : Option (List Byte)) := becomes_bar4_claimed len w hv he ho
      simp only [State.bar4_dram (s := s.tlp h) _ hw ha (hd.tlp h) hs hl hlen] at hb
      exact ⟨hb none, fun b => hb (some b)⟩
  · refine ⟨becomes_userPage_permitted hv he hn ht, fun hu => ⟨?_, ?_⟩⟩
    · exact becomes_userPage_forbidden hv he (by omega) (by omega) (by rwa [show 8 * n / 8 = n by omega])
    · exact becomes_userPage_forbidden hv he (by omega) (by omega) (by rwa [show (8 * n + 4) / 8 = n by omega])
  · rw [← State.reachUnnamed_intDom false ha hx hd]
    exact becomes_nameless r v hon ha h4 hm hx
  · have hb := becomes_chipCommit r v hon
    refine ⟨fun ha hn => ?_, fun ha _ => ?_, fun hx hr => ?_⟩
    · rwa [State.commitReg_carve r ha, State.commitCarve_refused s hn] at hb
    · rwa [State.commitReg_carve r ha] at hb
    · subst hr
      rwa [State.commitReg_nameless _ hx] at hb

end Sys2Proof.Machine
end

section
/-! PROOFS of the family 01_architecture: reception and stamping, release and policing, device time, the fault history
and its tests, resets and clocks, and the inject rings. -/

namespace Sys2Proof.Machine

open Sys2Proof

/-! ### What the interrupts leave, and a register word beside another (R10, R280-R283) -/

@[simp] theorem State.port_intSweep (s : State) : s.intSweep.port = s.port := by
  funext lp; simp [State.port]

@[simp] theorem State.grp_intSweep (s : State) : s.intSweep.grp = s.grp := by
  funext n; simp [State.grp]

@[simp] theorem State.held26_intSweep (s : State) : s.intSweep.held26 = s.held26 := by
  funext lp; simp [State.held26]

@[simp] theorem State.queue_intSweep (s : State) : s.intSweep.queue = s.queue := by
  funext q; simp [State.queue]

@[simp] theorem State.bufr_intSweep (s : State) : s.intSweep.bufr = s.bufr := by
  funext b; simp [State.bufr]

@[simp] theorem State.now_intSweep (s : State) : s.intSweep.now = s.now := by
  rw [State.now, State.intSweep_time, State.now]

@[simp] theorem State.rg_intSweep (s : State) (n : RegName) (k j i : Nat) : s.intSweep.rg n k j i = s.rg n k j i := by
  rw [State.rg, State.intSweep_held, State.rg]

@[simp] theorem State.dch_intSweep (s : State) : s.intSweep.dch = s.dch := by
  funext c; simp [State.dch]

@[simp] theorem State.dramGet_intSweep (s : State) : s.intSweep.dramGet = s.dramGet := by
  unfold State.dramGet State.dramDflt
  rw [State.dch_intSweep, State.intSweep_dram]

/-- R10: a register word once another has been written. -/
theorem State.rg_setRg_of_ne {n m : RegName} {k j k' j' : Nat} (h : regAddr m k' 0 j' ≠ regAddr n k 0 j) (s : State)
    (v : Word) : (s.setRg n k j v).rg m k' j' = s.rg m k' j' :=
  (tget_tset ..).trans (if_neg h)

/-! ### Reception and stamping (R25, R47, R70) -/

/-- R259, R421: counting a received frame and its bytes touches the counters and telemetry alone. -/
theorem State.addCtr_addLine_eq (s : State) (n : RegName) (k j lp dir len : Nat) :
    ∃ w t, (s.addCtr n k j).addLine lp dir len = { s with wide := w, tel := t } := by
  unfold State.addLine State.telCount
  dsimp only
  split <;> exact ⟨_, _, rfl⟩

/-- R70: stamping, the groups and the epoch are as they were before those counts. -/
theorem State.counted_same (s : State) (n : RegName) (k j lp dir len : Nat) :
    ((s.addCtr n k j).addLine lp dir len).stampCheck = s.stampCheck ∧
      ((s.addCtr n k j).addLine lp dir len).grp = s.grp ∧ ((s.addCtr n k j).addLine lp dir len).epc = s.epc := by
  obtain ⟨w, t, h⟩ := s.addCtr_addLine_eq n k j lp dir len
  rw [h]
  exact ⟨rfl, rfl, rfl⟩

/-- R25, R70: the frame that a header slot takes, with its stamp. -/
theorem State.accept_pkt (s : State) (lp : Nat) (f : List Byte) (time pipe : Nat) (inj : Bool) :
    ((s.accept lp f time pipe inj).2.pkt (s.accept lp f time pipe inj).1).stamp =
        { time := time % 2 ^ 48, epoch := ((s.grp (lp / 32)).par[pipe]?).getD false, lport := lp,
          member := s.memberOf lp (((s.grp (lp / 32)).par[pipe]?).getD false), seq := (s.port lp).seqNext,
          pipe := pipe, inject := inj } ∧
      ((s.accept lp f time pipe inj).2.pkt (s.accept lp f time pipe inj).1).bytes = f := by
  simp [State.accept]

@[simp] theorem State.port_setPkt (s : State) (k : Nat) (x : Pkt) : (s.setPkt k x).port = s.port := rfl
@[simp] theorem State.port_setGrp (s : State) (n : Nat) (x : Group) : (s.setGrp n x).port = s.port := rfl
@[simp] theorem State.grp_setPkt (s : State) (k : Nat) (x : Pkt) : (s.setPkt k x).grp = s.grp := rfl
@[simp] theorem State.port_nextPkt (s : State) (k : Nat) : ({ s with nextPkt := k } : State).port = s.port := rfl
@[simp] theorem State.grp_nextPkt (s : State) (k : Nat) : ({ s with nextPkt := k } : State).grp = s.grp := rfl
@[simp] theorem State.grp_setPort (s : State) (lp : Nat) (x : SubPort) : (s.setPort lp x).grp = s.grp := rfl

/-- R25, R26: the sequence of the frame's port advances, and no other port changes. -/
theorem State.accept_port (s : State) (lp : Nat) (f : List Byte) (time pipe : Nat) (inj : Bool) (q : Nat) :
    (s.accept lp f time pipe inj).2.port q =
      if q = lp then { s.port lp with seqNext := ((s.port lp).seqNext + 1) % 65536 } else s.port q := by
  simp [State.accept]

/-- R25, R113: the rotation and the holding store of the port's group advance, and no other group changes. -/
theorem State.accept_grp (s : State) (lp : Nat) (f : List Byte) (time pipe : Nat) (inj : Bool) :
    ((s.accept lp f time pipe inj).2.grp (lp / 32)).rot = (pipe + 1) % 6 ∧
      ((s.accept lp f time pipe inj).2.grp (lp / 32)).holdUnits =
        (s.grp (lp / 32)).holdUnits + (f.length + 255) / 256 ∧
      ∀ n, n ≠ lp / 32 → (s.accept lp f time pipe inj).2.grp n = s.grp n := by
  refine ⟨?_, ?_, fun n hn => ?_⟩
  · simp [State.accept]
  · simp [State.accept, holdUnitsOf]
  · simp [State.accept, hn]

/-- R70, R248: a frame that stamping refuses is counted in the current epoch and dropped. -/
theorem State.deal_refused {s : State} {lp : Nat} {f : List Byte} {slots : BitVec 6} {r : Nat}
    (h : s.stampCheck lp f.length slots = .inl r) (time : Nat) (inj : Bool) :
    s.deal lp f time slots inj = (s.book lp s.epc.c (if inj then .inj else .inn)).drop .stamping r
      { lp := lp, par := s.epc.c, time := time % 2 ^ 48, flen := f.length, bytes := f } := by
  simp only [State.deal, h]

/-- R70, R248: a frame that stamping takes is counted in the parity of its pipe and parsed. -/
theorem State.deal_accepted {s : State} {lp : Nat} {f : List Byte} {slots : BitVec 6} {p : Nat}
    (h : s.stampCheck lp f.length slots = .inr p) (time : Nat) (inj : Bool) :
    s.deal lp f time slots inj =
      ((s.accept lp f time p inj).2.book lp (((s.grp (lp / 32)).par[p]?).getD false)
        (if inj then .inj else .inn)).parse (s.accept lp f time p inj).1 := by
  simp only [State.deal, h, (s.accept_pkt lp f time p inj).1]

/-- R47: a frame that fails a check of the MAC is counted by it. -/
theorem State.receive_failed {s : State} {lp : Nat} {f : List Byte} {ok : Bool} {c : RegName}
    (h : s.macFail lp f ok = some c) (sof : Nat) (slots : BitVec 6) :
    s.receive lp f ok sof slots = s.bump c (lp / 32) (lp % 32) := by
  simp only [State.receive, h]

/-- R47, R70: a frame that passes the checks of the MAC is counted as received and dealt. -/
theorem State.receive_passed {s : State} {lp : Nat} {f : List Byte} {ok : Bool}
    (h : s.macFail lp f ok = none) (sof : Nat) (slots : BitVec 6) :
    s.receive lp f ok sof slots =
      ((s.addCtr .macRxOkLo (lp / 32) (lp % 32)).addLine lp 0 f.length).deal lp f sof slots false := by
  simp only [State.receive, h]

/-- R47: a frame arrives on a sub-port in UP or HOLD. -/
theorem becomes_receiveFrame {s : State} {lp : Fin 256} (f : List Byte) (ok : Bool) (sof : Nat) (slots : BitVec 6)
    (hon : s.pgOn (lp / 32) = true) (hup : (s.port lp).st.down = false) :
    Becomes (.receiveFrame lp f ok sof slots) s (s.receive lp f ok sof slots) :=
  becomes_of_act (f := fun s => s.receive lp f ok sof slots) rfl (by simp [hon, hup])

/-- Settles O11: the MAC's check and then stamping decide what becomes of a frame, and stamping sees through the
counters that the MAC has advanced. -/
theorem reception : Obligations.Reception := by
  refine ⟨fun s lp f ok sof slots hon hup => ?_, fun s lp f time pipe inj => ?_⟩
  · have hb := becomes_receiveFrame f ok sof slots hon hup
    obtain ⟨hcheck, hgrp, hepc⟩ := s.counted_same .macRxOkLo (lp / 32) (lp % 32) lp 0 f.length
    refine ⟨fun c hc => ?_, fun hpass => ⟨fun r hr => ?_, fun p hp => ?_⟩⟩
    · rwa [State.receive_failed hc] at hb
    · rw [← hcheck] at hr
      rwa [State.receive_passed hpass, State.deal_refused hr, hepc] at hb
    · rw [← hcheck] at hp
      rwa [State.receive_passed hpass, State.deal_accepted hp, hgrp] at hb
  · obtain ⟨hstamp, hbytes⟩ := s.accept_pkt lp f time pipe inj
    obtain ⟨hrot, hunits, hgrps⟩ := s.accept_grp lp f time pipe inj
    have hport := s.accept_port lp f time pipe inj
    refine ⟨hstamp, hbytes, ?_, hrot, hunits, fun q hq => ?_, hgrps⟩
    · rw [hport, if_pos rfl]
    · rw [hport, if_neg hq]

/-! ### Release, policing and the buffer (R26, R113, R221, R232) -/

/-- R26: an item is released: the port's sequence number goes on, and the number's items leave. -/
def State.advanceSeq (s : State) (lp : Nat) : State :=
  { s.setPort lp { s.port lp with seqRel := ((s.port lp).seqRel + 1) % 65536 } with
    reseq := tset (fun _ => []) s.reseq lp ((s.held26 lp).filter fun e => e.1 != (s.port lp).seqRel) }

/-- R26: the release of a drop or of its marker. -/
theorem State.release26_gone {s : State} {lp : Nat} (h : s.seqNext? lp = some .gone) :
    s.release26 lp = s.advanceSeq lp := by
  unfold State.release26
  rw [h]
  rfl

/-- R26: a frame released joins those that wait for the policers of its group. -/
theorem State.release26_pass {s : State} {lp k : Nat} {d : Target} (h : s.seqNext? lp = some (.pass k d)) :
    s.release26 lp = (s.advanceSeq lp).setGrp (lp / 32)
      { s.grp (lp / 32) with polq := (s.grp (lp / 32)).polq ++ [(k, d)] } := by
  unfold State.release26
  rw [h]
  rfl

theorem State.advanceSeq_port (s : State) (lp : Nat) :
    (s.advanceSeq lp).port lp = { s.port lp with seqRel := ((s.port lp).seqRel + 1) % 65536 } :=
  (State.port_setPort ..).trans (if_pos rfl)

theorem State.advanceSeq_held26 (s : State) (lp : Nat) :
    (s.advanceSeq lp).held26 lp = (s.held26 lp).filter fun e => e.1 != (s.port lp).seqRel :=
  (tget_tset ..).trans (if_pos rfl)

theorem State.advanceSeq_rest (s : State) (lp : Nat) :
    (s.advanceSeq lp).buf = s.buf ∧ (s.advanceSeq lp).led = s.led ∧ (s.advanceSeq lp).tbl = s.tbl := by
  simp [State.advanceSeq]

theorem State.held26_setGrp (s : State) (n : Nat) (x : Group) : (s.setGrp n x).held26 = s.held26 := by
  funext lp
  simp [State.held26]

/-- R232: a policer unit takes the frame at its head: it goes to admission, or is dropped. -/
theorem State.police_head {s : State} {n k : Nat} {d : Target} {l : List (Nat × Target)} (ecc : Bool) (b : Nat)
    (h : (s.grp n).polq = (k, d) :: l) :
    s.police n ecc b =
      if ((s.setGrp n { s.grp n with polq := l }).policed k).1 then
        ((s.setGrp n { s.grp n with polq := l }).policed k).2.admitFrame k d
          (ecc || (((s.setGrp n { s.grp n with polq := l }).policed k).2.pkt k).holdEcc) b
      else ((s.setGrp n { s.grp n with polq := l }).policed k).2 := by
  unfold State.police
  simp only [h]
  generalize (s.setGrp n { s.grp n with polq := l }).policed k = r
  obtain ⟨_ | _, t⟩ := r <;> rfl

/-- R260: the event counters are no part of the buffer. -/
@[simp] theorem State.pmc_buf (s : State) (hit : Word → Bool) (n : Nat) : (s.pmc hit n).buf = s.buf := by
  unfold State.pmc
  split <;> rfl

/-- R258: the counts of a queue's telemetry are no part of the buffer. -/
@[simp] theorem State.telCount_buf (s : State) (f : Telem → Telem) : (s.telCount f).buf = s.buf := by
  unfold State.telCount
  split <;> rfl

/-- R206: a descriptor that joins its queue is written there, and nowhere else in the buffer. -/
theorem State.enqueue_buf (s : State) (q d : Nat) : (s.enqueue q d).buf = (s.setQueue q (s.queue q ++ [d])).buf := by
  simp [State.enqueue, State.telEnq, State.pmcQueue]

/-- R206, R221: what joins a queue leaves the pending replica queues as they are. -/
theorem State.enqueue_pend (s : State) (q d : Nat) : (s.enqueue q d).buf.pend = s.buf.pend := by
  rw [State.enqueue_buf]
  rfl

/-- R206: the queues once a descriptor has joined one. -/
theorem State.queue_enqueue (s : State) (q d p : Nat) :
    (s.enqueue q d).queue p = if p = q then s.queue q ++ [d] else s.queue p := by
  have h : (s.enqueue q d).queue p = (s.setQueue q (s.queue q ++ [d])).queue p :=
    congrArg (fun b : Buffer => tget (fun _ => []) b.queues p) (s.enqueue_buf q d)
  rw [h, State.queue_setQueue]

/-- R221: the oldest descriptor of a pending replica queue joins its queue. -/
theorem State.pendStep_one {s : State} {i : Nat} {x : Machine.Pending} {l : List Machine.Pending}
    (h : tget (fun _ => []) s.buf.pend i = x :: l) :
    s.pendStep i 1 =
      ({ s with buf := { s.buf with pend := tset (fun _ => []) s.buf.pend i l } } : State).enqueue x.queue x.desc := by
  simp only [State.pendStep, h]

/-- R113: the holding store is no part of the buffer. -/
@[simp] theorem State.freeHold_buf (s : State) (p : Pkt) : (s.freeHold p).buf = s.buf := State.setGrp_buf ..

/-- R113, R204: the end of a buffer's write is marked in the buffer, and is written nowhere else there. -/
theorem State.bufWritten_buf {s : State} {b : Nat} (h : (s.bufr b).written = false) :
    (s.bufWritten b).buf =
      { s.buf with bufs := tset (fun _ => {}) s.buf.bufs b { s.bufr b with written := true, hold := false } } := by
  unfold State.bufWritten
  simp only [h]
  cases (s.bufr b).hold
  · rfl
  · simp [State.setBuf]

/-- R204: what the buffers are once a buffer's write has ended. -/
theorem State.bufr_bufWritten {s : State} {b : Nat} (h : (s.bufr b).written = false) (k : Nat) :
    (s.bufWritten b).bufr k = if k = b then { s.bufr b with written := true, hold := false } else s.bufr k := by
  rw [State.bufr, State.bufWritten_buf h, tget_tset]
  rfl

/-- Settles O16: each command acts on the front of what it serves, and what it writes is read back. -/
theorem releaseAndPolice : Obligations.ReleaseAndPolice := by
  refine ⟨fun s lp i hon hi => ?_, fun s pg ecc b k d l hon hclk hq => ?_, fun s i x l hlive hclk hx => ?_,
    fun s b hlive hclk hrefs hw => ?_⟩
  · have hb : Becomes (.resequence lp) s (s.release26 lp) :=
      becomes_of_act (f := fun s => s.release26 lp) rfl (by simp [hon, hi])
    refine hb.completes ?_
    simp only [State.port_intSweep, State.held26_intSweep, State.grp_intSweep, State.intSweep_buf,
      State.intSweep_led, State.intSweep_tbl]
    have hrel := congrArg SubPort.seqRel (s.advanceSeq_port lp)
    have hheld := s.advanceSeq_held26 lp
    have hrest := s.advanceSeq_rest lp
    cases i with
    | gone =>
      rw [State.release26_gone hi]
      exact ⟨hrel, hheld, (List.append_nil _).symm, hrest⟩
    | pass k d =>
      rw [State.release26_pass hi, State.port_setGrp, State.held26_setGrp, State.grp_setGrp, State.setGrp_buf,
        State.setGrp_led, State.setGrp_tbl, if_pos rfl]
      exact ⟨hrel, hheld, rfl, hrest⟩
  · have hb : Becomes (.police pg ecc b) s (s.police pg ecc b) :=
      becomes_of_act (f := fun s => s.police pg ecc b) rfl (by simp [hon, hclk, hq])
    rw [State.police_head ecc b hq] at hb
    exact ⟨fun hr => by rwa [if_pos hr] at hb, fun hr => by rwa [if_neg (by simp [hr])] at hb⟩
  · have hb : Becomes (.replicaEnqueue i 1) s (s.pendStep i 1) :=
      becomes_of_act (f := fun s => s.pendStep i 1) rfl (by simp [hlive, hclk])
    rw [State.pendStep_one hx] at hb
    refine hb.completes ?_
    simp only [State.intSweep_buf, State.queue_intSweep]
    refine ⟨?_, (State.queue_enqueue ..).trans (if_pos rfl), fun q hq => (State.queue_enqueue ..).trans (if_neg hq)⟩
    rw [State.enqueue_pend, tget_tset, if_pos rfl]
  · have hb : Becomes (.bufferWriteEnd b) s (s.bufWritten b) :=
      becomes_of_act (f := fun s => s.bufWritten b) rfl (by simp [hlive, hclk, hrefs])
    refine hb.completes ?_
    simp only [State.bufr_intSweep, State.intSweep_buf]
    refine ⟨(State.bufr_bufWritten hw b).trans (if_pos rfl), ?_,
      fun k hk => (State.bufr_bufWritten hw k).trans (if_neg hk)⟩
    rw [State.bufWritten_buf hw]

/-! ### A step of device time (R255, R379, R380) -/

/-- What a close of the counting points leaves as it is: the time base and the register words. -/
def State.timeAndWords (s : State) : TimeUnit × Tab Word := (s.time, s.held)

/-- R253: the groups that are absent as an interval begins are marked. -/
theorem State.absentAnew_timeAndWords (s : State) : s.absentAnew.timeAndWords = s.timeAndWords := by
  unfold State.absentAnew
  refine foldl_same State.timeAndWords _ (fun _ _ => ?_) _ s
  rfl

/-- R249-R253: the counting points close beside the time base and the register words. -/
theorem State.closePoints_timeAndWords (s : State) : s.closePoints.timeAndWords = s.timeAndWords := by
  unfold State.closePoints
  split
  · rfl
  · exact (foldl_same State.timeAndWords State.closeHold (fun _ _ => rfl) _ _).trans
      (State.absentAnew_timeAndWords _)

theorem State.closeInterval_timeAndWords (s : State) : s.closeInterval.timeAndWords = s.timeAndWords :=
  s.closePoints_timeAndWords

/-- R255: so does the end of an interval that a step of device time brings. -/
theorem State.ledStep_timeAndWords (s : State) (t : Nat) : (s.ledStep t).timeAndWords = s.timeAndWords := by
  unfold State.ledStep
  split
  · rfl
  · refine (State.closePoints_timeAndWords _).trans ?_
    split
    · exact s.closeInterval_timeAndWords
    · rfl

theorem State.ledStep_time (s : State) (t : Nat) : (s.ledStep t).time = s.time :=
  congrArg Prod.fst (s.ledStep_timeAndWords t)

theorem State.ledStep_held (s : State) (t : Nat) : (s.ledStep t).held = s.held :=
  congrArg Prod.snd (s.ledStep_timeAndWords t)

/-- R379: the time unit once device time has been stepped. -/
theorem State.timeStep_time (s : State) (t : Nat) :
    (s.timeStep t).time = { s.time with
      now := t % 2 ^ 64, shift := s.time.shift + ((t % 2 ^ 64 : Nat) : Int) - (s.time.now : Int) } := by
  simp only [State.timeStep, State.ledStep_time]

/-- R379: device time once it has been stepped. -/
theorem State.now_timeStep (s : State) (t : Nat) : (s.timeStep t).now = t % 2 ^ 64 := by
  rw [State.now, State.timeStep_time]

/-- R379: a step of device time writes no register. -/
theorem State.rg_timeStep (s : State) (t : Nat) (n : RegName) (k j i : Nat) :
    (s.timeStep t).rg n k j i = s.rg n k j i := by
  simp only [State.rg, State.timeStep, State.ledStep_held]

/-! ### PPS edges and TIME_SET_SEC (R379, R380) -/

theorem becomes_ppsEdge {s : State} (hon : s.timeOn = true) (hpps : s.ppsEn = true)
    (hgap : s.time.edgeSeen = false ∨ s.time.ref + 900000000 ≤ s.mono) : Becomes .ppsEdge s s.ppsAccept :=
  becomes_of_act (f := State.ppsAccept) rfl (by simpa [hon, hpps] using hgap)

/-- R379: the error of an edge is noted, before what follows from it. -/
def State.edgeNoted (s : State) : State :=
  { s with time := { s.time with err := wd (satInt 32 (ppsErr s.now)), edgeSeen := true, missed := false } }

/-- R379: the error at and above which an edge is a step. -/
def State.stepThr (s : State) : Nat := max 1 (fld (s.rg .timeCtl) 15 0) * 1000

/-- R380: the second that TIME_SET_SEC has armed is taken. -/
def State.disarm (s : State) : State := { s with time := { s.time with armed := none } }

/-- R379, R380: what follows from an edge, by the second that is armed. -/
def State.edgeEffect (s : State) : Option Nat → State
  | some sec => (s.timeStep (sec * 1000000000)).disarm
  | none =>
    if (ppsErr s.now).natAbs < s.stepThr then
      { s with time := { s.time with trim := max (-100000) (min 100000 (ppsErr s.now)), frac := 0 } }
    else s.timeStep ((s.now : Int) - ppsErr s.now).toNat

/-- R379: an edge has been accepted last. -/
def State.edgeTaken (s : State) : State := { s with time := { s.time with ref := s.mono } }

/-- R379: an edge is accepted: its error is noted, its effect follows, and it is the last one accepted. -/
theorem State.ppsAccept_eq (s : State) : s.ppsAccept = (s.edgeNoted.edgeEffect s.time.armed).edgeTaken := rfl

theorem State.now_edgeTaken (s : State) : s.edgeTaken.now = s.now := rfl

theorem State.now_disarm (s : State) : s.disarm.now = s.now := rfl

/-- R379: an edge whose error is below the threshold is trimmed out. -/
theorem State.ppsAccept_trim {s : State} (ha : s.time.armed = none) (he : (ppsErr s.now).natAbs < s.stepThr) :
    s.ppsAccept = { s with time := { s.time with
      err := wd (satInt 32 (ppsErr s.now)), edgeSeen := true, missed := false,
      trim := max (-100000) (min 100000 (ppsErr s.now)), frac := 0, ref := s.mono } } := by
  have h : s.edgeNoted.edgeEffect none = { s.edgeNoted with time := { s.edgeNoted.time with
      trim := max (-100000) (min 100000 (ppsErr s.now)), frac := 0 } } := if_pos he
  rw [State.ppsAccept_eq, ha, h]
  rfl

/-- R379: an edge whose error is not below it is a step to the whole second. -/
theorem State.ppsAccept_step {s : State} (ha : s.time.armed = none) (he : s.stepThr ≤ (ppsErr s.now).natAbs) :
    s.ppsAccept = (s.edgeNoted.timeStep ((s.now : Int) - ppsErr s.now).toNat).edgeTaken := by
  have h : s.edgeNoted.edgeEffect none = s.edgeNoted.timeStep ((s.now : Int) - ppsErr s.now).toNat :=
    if_neg (Nat.not_lt.mpr he)
  rw [State.ppsAccept_eq, ha, h]

/-- R380: an armed edge is a step to the second that TIME_SET_SEC has set. -/
theorem State.ppsAccept_armed {s : State} {sec : Nat} (ha : s.time.armed = some sec) :
    s.ppsAccept = (s.edgeNoted.timeStep (sec * 1000000000)).disarm.edgeTaken := by
  rw [State.ppsAccept_eq, ha]
  rfl

/-- R380: TIME_SET_SEC is no part of TIME_CTL. -/
theorem State.ppsEn_setRg_timeSetSec (s : State) (v : Word) : (s.setRg .timeSetSec 0 0 v).ppsEn = s.ppsEn := by
  have h : regAddr .timeCtl 0 0 0 ≠ regAddr .timeSetSec 0 0 0 := by decide +kernel
  rw [State.ppsEn, State.rg_setRg_of_ne h, State.ppsEn]

/-- R380: a write of TIME_SET_SEC while PPS_EN is 1 arms the next edge. -/
theorem State.setSec_arms {s : State} (h : s.ppsEn = true) (v : Word) :
    s.setSec v = { s.setRg .timeSetSec 0 0 v with time := { s.time with armed := some v.toNat } } := by
  rw [← State.ppsEn_setRg_timeSetSec s v] at h
  exact if_pos h

/-- R380: a write of TIME_SET_SEC while PPS_EN is 0 steps device time. -/
theorem State.setSec_steps {s : State} (h : s.ppsEn = false) (v : Word) :
    s.setSec v = (s.setRg .timeSetSec 0 0 v).timeStep (v.toNat * 1000000000) := by
  rw [← State.ppsEn_setRg_timeSetSec s v] at h
  exact if_neg (Bool.eq_false_iff.mp h)

/-- Settles O36: an edge has one of three effects, by what is armed and by its error, and a step of device time leaves
the rest of the time unit and the registers as they are. -/
theorem deviceTime : Obligations.DeviceTime := by
  refine ⟨fun s hon hpps hgap => ?_, fun s hon hpps hm href => ?_, fun s r v hon => ?_⟩
  · have hb := becomes_ppsEdge hon hpps hgap
    refine ⟨fun ha he => ?_, fun ha he => ?_, fun sec ha => ?_⟩
    · rwa [State.ppsAccept_trim ha he] at hb
    · rw [State.ppsAccept_step ha he] at hb
      have ht := State.timeStep_time s.edgeNoted ((s.now : Int) - ppsErr s.now).toNat
      refine hb.completes ⟨?_, ?_, ?_⟩
      · rw [State.now_intSweep, State.now_edgeTaken, State.now_timeStep]
      · rw [State.intSweep_time]
        exact (congrArg TimeUnit.err ht).trans rfl
      · rw [State.intSweep_time]
        exact (congrArg TimeUnit.trim ht).trans rfl
    · rw [State.ppsAccept_armed ha] at hb
      refine hb.completes ⟨?_, ?_⟩
      · rw [State.now_intSweep, State.now_edgeTaken, State.now_disarm, State.now_timeStep]
      · rw [State.intSweep_time]
        rfl
  · exact becomes_of_act
      (f := fun s => ({ s with time := { s.time with missed := true } } : State).raise
        { src := 2, cls := .blue, code := 0x1B }) rfl (by simp [hon, hpps, hm, href])
  · have hb : Becomes (.timeSetSec r v) s (s.setSec v) := becomes_of_act (f := fun s => s.setSec v) rfl hon
    refine hb.completes ?_
    rw [State.rg_intSweep, State.now_intSweep, State.intSweep_time]
    cases h : s.ppsEn
    · rw [State.setSec_steps h, State.rg_timeStep, State.now_timeStep]
      exact ⟨State.rg_setRg .., rfl⟩
    · rw [State.setSec_arms h]
      exact ⟨State.rg_setRg .., rfl, rfl⟩

/-! ### The fault window, the history and the tests (R226, R347-R367) -/

/-- R284: what makes a source rise is beside the fault collector. -/
theorem State.reRise_flt (s : State) (src : Nat) : (s.reRise src).flt = s.flt := by
  unfold State.reRise
  refine foldl_same State.flt _ (fun _ _ => ?_) _ s
  exact State.setHst_flt ..

/-- R284: what makes a source rise writes no register. -/
theorem State.reRise_held (s : State) (src : Nat) : (s.reRise src).held = s.held := by
  unfold State.reRise
  refine foldl_same State.held _ (fun _ _ => ?_) _ s
  exact State.setHst_held ..

/-- R352: a write of FLT_STATUS3 with HISTORY_LOST 1 takes a history memory that has failed back into service. -/
theorem State.writeStatus3_lost {s : State} {v : Word} (hv : bit v 31 = true) (hl : s.flt.lost = true) :
    (s.writeStatus3 v).flt = { s.flt with lost := false, hist := s.flt.flop.toList, flop := none } ∧
      (s.writeStatus3 v).rg .fltStatus3 = s.rg .fltStatus3 &&& ~~~ (v &&& 0x80070000) := by
  have hflt : ([82, 83, 84].foldl State.reRise s).flt = s.flt := foldl_same State.flt _ State.reRise_flt _ s
  have hheld : ([82, 83, 84].foldl State.reRise s).held = s.held := foldl_same State.held _ State.reRise_held _ s
  unfold State.writeStatus3
  generalize [82, 83, 84].foldl State.reRise s = u at hflt hheld
  have hrg : u.rg .fltStatus3 = s.rg .fltStatus3 := congrArg (fun h => tget heldReset h _) hheld
  simp only [State.setRg_flt, hflt, hv, hl, hrg, Bool.and_self, if_true, true_and]
  exact State.rg_setRg ..

/-- R350: a read of FLT_HIST_HEAD of a live device with a history memory in service. -/
theorem becomes_historyPop {s : State} (r : Req) {x : HistRec} {l : List HistRec} (hlive : s.live = true)
    (hl : s.flt.lost = false) (hx : s.flt.hist = x :: l) :
    Becomes (.historyPop r false) s (s.emit (.readData r x.head)).histPop := by
  have hrec : s.histRec = some x := by simp [State.histRec, hl, hx]
  show execHistoryPop r false s = _
  simp [execHistoryPop, act_next, hlive, hrec]

/-- R350: the record popped is the oldest. -/
theorem State.histPop_hist {s : State} {x : HistRec} {l : List HistRec} (hl : s.flt.lost = false)
    (hx : s.flt.hist = x :: l) : s.histPop.flt.hist = l := by
  simp [State.histPop, hl, hx]

/-- R365: a drift below both limits is kept. -/
theorem State.measureAge_below {s : State} (m : Nat) {d : BitVec 16} (hw : d.toNat < fld (s.rg .fltAgeCfg) 31 16)
    (ha : d.toNat < fld (s.rg .fltAgeCfg) 15 0) :
    s.measureAge m d = { s with flt := { s.flt with drift := tset (fun _ => 0) s.flt.drift m d } } := by
  simp [State.measureAge, Nat.not_le.mpr hw, Nat.not_le.mpr ha]

/-- R367: a test that finds nothing passes. -/
theorem State.testEnd_passed {s : State} {checker : Bool} (h : fld (s.rg .fltTest) 25 24 = 0 → checker = false) :
    s.testEnd false 0 checker = { s with flt := { s.flt with testGo := false, testRes := 1 } } := by
  by_cases hk : fld (s.rg .fltTest) 25 24 = 0
  · simp [State.testEnd, hk, h hk]
  · simp [State.testEnd, hk]

/-- R367: a test whose precondition holds starts, and one whose precondition fails ends as not run. -/
theorem State.writeTest_go {s : State} {v : Word} (hgo : s.flt.testGo = false) (hv : bit v 31 = true) :
    s.writeTest v =
      if (s.setRg .fltTest 0 0 (v &&& 0x0300003F)).testPre (fld v 25 24) (fld v 5 0) then
        { s.setRg .fltTest 0 0 (v &&& 0x0300003F) with
          flt := { s.flt with testGo := true, testRes := 0, testAt := s.mono } }
      else { s.setRg .fltTest 0 0 (v &&& 0x0300003F) with flt := { s.flt with testRes := 3 } } := by
  unfold State.writeTest
  exact (if_neg (Bool.eq_false_iff.mp hgo)).trans (if_pos hv)

/-- R226: what the pools' states are beside: the quadrants offline and the frames stored. -/
def State.stored (s : State) : List Nat × Tab Buf := (s.buf.offline, s.buf.bufs)

theorem State.poolStep_stored (s : State) (k : Nat) : (s.poolStep k).stored = s.stored := by
  unfold State.poolStep
  split
  · refine ite_same State.stored _ _ _ s ?_ rfl
    exact (congrArg (fun b : Buffer => (b.offline, b.bufs)) (State.orRg_buf ..)).trans rfl
  · rfl

/-- R215: the pools' states follow their fill, and no quadrant and no buffer changes. -/
theorem State.poolSteps_stored (s : State) : s.poolSteps.stored = s.stored := by
  unfold State.poolSteps
  exact foldl_same State.stored _ State.poolStep_stored _ s

/-- R226: the quadrant that a write of one OFFLINE bit names. -/
theorem filter_bit_flag (i : Fin 4) : (List.range 4).filter (fun k => bit (flag i true) k) = [(i : Nat)] := by
  decide +revert

/-- R226: a write of one OFFLINE bit takes that quadrant offline. -/
theorem State.writeQuad_one (s : State) (i : Fin 4) :
    s.writeQuad (flag i true) = ({ s with buf := { s.buf with offline := [(i : Nat)] } } : State).poolSteps := by
  unfold State.writeQuad
  rw [filter_bit_flag i]
  simp

/-- Settles O32: what each command leaves is read off its operation; the sources that rise and the pools' states are
beside it. -/
theorem faultHistoryAndTests : Obligations.FaultHistoryAndTests := by
  refine ⟨fun s hon hw => ?_, fun s r v hon hv hl => ?_, fun s r x l hlive hl hx => ?_, fun s m d hon hm hw ha => ?_,
    fun s r v hon hgo hv => ?_, fun s checker hon hgo hat hc => ?_, fun s r i hon _ => ?_⟩
  · exact becomes_of_act (f := fun s => { s with
      flt := { s.flt with blue := [], winStart := s.now },
      clusters := s.clusters.map fun e => (e.1, { e.2 with pcharge := [] }) }) rfl (by simpa [hon] using hw)
  · have hb : Becomes (.historyLost r v) s (s.writeStatus3 v) :=
      becomes_of_act (f := fun s => s.writeStatus3 v) rfl hon
    obtain ⟨hflt, hrg⟩ := State.writeStatus3_lost hv hl
    refine hb.completes ?_
    rw [State.intSweep_flt, State.rg_intSweep]
    exact ⟨hflt, hrg⟩
  · exact ⟨becomes_historyPop r hlive hl hx, State.histPop_hist (s := s.emit (.readData r x.head)) hl hx⟩
  · have hb : Becomes (.ageingMeasure m d) s (s.measureAge m d) :=
      becomes_of_act (f := fun s => s.measureAge m d) rfl (by simp [hon, hm])
    rwa [State.measureAge_below m hw ha] at hb
  · have hb : Becomes (.onlineTestStart r v) s (s.writeTest v) :=
      becomes_of_act (f := fun s => s.writeTest v) rfl hon
    refine hb.completes ?_
    rw [State.intSweep_flt, State.intSweep_groups, State.writeTest_go hgo hv]
    split
    · rfl
    · exact ⟨rfl, rfl⟩
  · have hb : Becomes (.onlineTestEnd false 0 checker) s (s.testEnd false 0 checker) :=
      becomes_of_act (f := fun s => s.testEnd false 0 checker) rfl (by simp [hon, hgo, hat])
    rw [State.testEnd_passed hc] at hb
    refine hb.completes ?_
    rw [State.intSweep_flt, State.intSweep_held, State.intSweep_buf]
    exact ⟨rfl, rfl, rfl⟩
  · have hb : Becomes (.quadrantOffline r (flag i true)) s (s.writeQuad (flag i true)) :=
      becomes_of_act (f := fun s => s.writeQuad (flag i true)) rfl hon
    rw [State.writeQuad_one] at hb
    refine hb.completes ?_
    rw [State.intSweep_buf]
    exact Prod.mk.inj (State.poolSteps_stored _)

/-! ### Loss of DRAM contents (R326, R428) -/

/-- A table filled for every key below a bound. -/
theorem tget_fill {α : Type} [DecidableEq α] (d : Nat → α) (g : Nat → α) (n k : Nat) :
    tget d ((List.range n).foldl (fun t c => tset d t c (g c)) []) k = if k < n then g k else d k := by
  induction n with
  | zero => rfl
  | succ n ih =>
    rw [List.range_succ, List.foldl_append, List.foldl_cons, List.foldl_nil, tget_tset, ih]
    by_cases hk : k = n
    · subst hk
      rw [if_pos rfl, if_pos (Nat.lt_succ_self k)]
    · rw [if_neg hk]
      exact if_congr (by omega) rfl rfl

theorem State.dch_dramBlank (s : State) (c e : Nat) :
    (s.dramBlank c).dch e =
      if e = c then { s.dch c with undef := (s.dch c).undef + 1, poison := [] } else s.dch e :=
  State.dch_setDch ..

/-- R326, R428: what an unlisted byte reads as once a channel has lost its contents. -/
theorem State.dramDflt_dramBlank (s : State) {c : Nat} (hc : c < 4) (x : Nat) :
    (s.dramBlank c).dramDflt x =
      if x / 2 ^ 38 = c then Config.dramByte ((s.dch c).undef + 1) x else s.dramDflt x := by
  unfold State.dramDflt
  rw [State.dch_dramBlank]
  by_cases hx : x / 2 ^ 38 = c
  · rw [if_pos hx, if_pos hx, hx]
    exact if_neg (by simp [hc])
  · rw [if_neg hx, if_neg hx]

/-- An entry reads by the default of its own key. -/
theorem tget_congr {α : Type} {d e : Nat → α} (t : Tab α) {k : Nat} (h : d k = e k) : tget d t k = tget e t k := by
  induction t with
  | nil => exact h
  | cons b t ih => simp only [tget, ih]

/-- R326, R428: a byte of a channel that has lost its contents is a free value by the number of such losses, and a byte
of another channel is as it was. -/
theorem State.dramGet_dramBlank (s : State) {c : Nat} (hc : c < 4) (x : Nat) :
    (s.dramBlank c).dramGet x =
      if x / 2 ^ 38 = c then Config.dramByte ((s.dch c).undef + 1) x else s.dramGet x := by
  have hmem : (s.dramBlank c).dram.mem = tdrop (fun x => x / 2 ^ 38 == c) s.dram.mem := rfl
  have hdflt := s.dramDflt_dramBlank hc x
  rw [State.dramGet, hmem, tget_tdrop]
  by_cases hx : x / 2 ^ 38 = c
  · rw [if_pos (beq_iff_eq.mpr hx), hdflt, if_pos hx, if_pos hx]
  · rw [if_neg (by rwa [beq_iff_eq]), if_neg hx]
    exact tget_congr _ (hdflt.trans (if_neg hx))

/-! ### What DRAM operations leave of AON (R24) -/

/-- R24: of AON: the time base, the fault collector and the chain unit. -/
def State.aon (s : State) : TimeUnit × Faults × Chain := (s.time, s.flt, s.chain)

theorem State.flt_of_aon {s t : State} (h : s.aon = t.aon) : s.flt = t.flt := (Prod.mk.inj (Prod.mk.inj h).2).1

theorem State.setDch_aon (s : State) (c : Nat) (x : DCh) : (s.setDch c x).aon = s.aon := by simp [State.aon]
theorem State.setHst_aon (s : State) (h : Nat) (x : HostFn) : (s.setHst h x).aon = s.aon := by simp [State.aon]
theorem State.setChan_aon (s : State) (n : Nat) (x : Chan) : (s.setChan n x).aon = s.aon := by simp [State.aon]
theorem State.setThr_aon (s : State) (k : Nat) (x : Thread) : (s.setThr k x).aon = s.aon := by simp [State.aon]
theorem State.setClu_aon (s : State) (c : Nat) (x : Cluster) : (s.setClu c x).aon = s.aon := by simp [State.aon]
theorem State.emit_aon (s : State) (o : Out) : (s.emit o).aon = s.aon := by simp [State.aon]
theorem State.orRg_aon (s : State) (n : RegName) (k j : Nat) (v : Word) : (s.orRg n k j v).aon = s.aon := by
  simp [State.aon]
theorem State.bump_aon (s : State) (n : RegName) (k j c : Nat) : (s.bump n k j c).aon = s.aon := by simp [State.aon]
theorem State.withFree_aon (s : State) (n : Nat) : ({ s with free := n } : State).aon = s.aon := by
  simp only [State.aon]

theorem State.dramPut_aon (s : State) (a : Nat) (l : List Byte) : (s.dramPut a l).aon = s.aon := by
  induction l generalizing s a with
  | nil => rfl
  | cons b l ih => exact (ih ..).trans (by simp [State.aon])

theorem State.dlogAcc_aon (s : State) (c cmd rank : Nat) : (s.dlogAcc c cmd rank).aon = s.aon := by
  unfold State.dlogAcc
  exact ite_same State.aon _ _ _ s rfl ((State.setDch_aon ..).trans (State.withFree_aon ..))

theorem State.dlogs_aon (s : State) (c rank : Nat) (cmds : List Nat) : (s.dlogs c rank cmds).aon = s.aon := by
  unfold State.dlogs
  exact ite_same State.aon _ _ _ s rfl ((State.setDch_aon ..).trans (State.withFree_aon ..))

theorem State.dramStore_aon (s : State) (c x : Nat) (b : List Byte) : (s.dramStore c x b).aon = s.aon :=
  (State.dramPut_aon ..).trans (State.setDch_aon ..)

theorem State.issueWrite_aon (s : State) (c : Nat) (r : DReq) : (s.issueWrite c r).aon = s.aon :=
  (State.dramStore_aon ..).trans (State.dlogAcc_aon ..)

theorem State.dramFlush_aon (s : State) (c : Nat) : (s.dramFlush c).aon = s.aon :=
  (State.setDch_aon ..).trans (foldl_same State.aon _ (fun _ _ => State.issueWrite_aon ..) _ s)

theorem State.cplSend_aon (s : State) (h : Nat) (l : List HostCpl) : (s.cplSend h l).aon = s.aon := by
  induction l generalizing s with
  | nil => exact State.setHst_aon ..
  | cons c l ih =>
    unfold State.cplSend
    exact ite_same State.aon _ _ _ s ((ih _).trans ((State.emit_aon ..).trans (State.setHst_aon ..)))
      (State.setHst_aon ..)

theorem State.dramAnswer_aon (s : State) (who : DramUser) (no a : Nat) (b : List Byte) (bad : Bool) :
    (s.dramAnswer who no a b bad).aon = s.aon := by
  unfold State.dramAnswer
  split
  · exact ite_same State.aon _ _ _ s (State.cplSend_aon ..) ((State.emit_aon ..).trans (State.setHst_aon ..))
  · exact ite_same State.aon _ _ _ s (State.setChan_aon ..) (State.emit_aon ..)
  · exact State.emit_aon ..

theorem State.sleepAcc_aon (s : State) (r : Req) : (s.sleepAcc r).aon = s.aon := by
  cases r with
  | host0 | host1 => exact State.bump_aon ..
  | chain => rfl

theorem State.dropRead_aon (s : State) (r : DReq) : (s.dropRead r).aon = s.aon := by
  unfold State.dropRead
  split
  · exact (State.dramAnswer_aon ..).trans (State.sleepAcc_aon ..)
  · exact State.dramAnswer_aon ..
  · rfl

theorem State.dropReads_aon (s : State) (c : Nat) : (s.dropReads c).aon = s.aon := by
  unfold State.dropReads
  exact ite_same State.aon _ _ _ s
    ((foldl_same State.aon _ State.dropRead_aon _ _).trans (State.setDch_aon ..)) (State.setDch_aon ..)

theorem State.dlogSre_aon (s : State) (c : Nat) : (s.dlogSre c).aon = s.aon := by
  unfold State.dlogSre
  refine foldl_same State.aon _ (fun _ _ => ?_) _ s
  exact (State.dlogs_aon ..).trans (State.withFree_aon ..)

theorem State.enterSr_aon (s : State) (c : Nat) : (s.enterSr c).aon = s.aon :=
  (State.setDch_aon ..).trans (s.dlogSre_aon c)

theorem State.setDramSt_aon (s : State) (c : Nat) (st : DramState) : (s.setDramSt c st).aon = s.aon := by
  unfold State.setDramSt
  exact ite_same State.aon _ _ _ s rfl (State.setDch_aon ..)

theorem State.dramQuiet_aon (s : State) (c : Nat) (st : DramState) : (s.dramQuiet c st).aon = s.aon := by
  unfold State.dramQuiet
  refine ite_same State.aon _ _ _ s ?_ rfl
  exact (State.setDramSt_aon ..).trans ((State.enterSr_aon ..).trans ((State.dropReads_aon ..).trans
    (State.dramFlush_aon ..)))

theorem State.dramStop_aon (s : State) (c : Nat) : (s.dramStop c).aon = s.aon := s.dramQuiet_aon c .selfRefresh

/-! ### Resets (R381-R384, R429) -/

/-- R382, R389: of AON, a chip reset keeps the time base, the fault collector and the chain's requests. -/
theorem State.chipReset_aon (s : State) :
    s.chipReset.time = s.time ∧ s.chipReset.flt = s.flt ∧ s.chipReset.chain.q = s.chain.q := by
  have h : ((List.range 4).foldl State.dramStop s).aon = s.aon := foldl_same State.aon _ State.dramStop_aon _ s
  unfold State.chipReset
  generalize (List.range 4).foldl State.dramStop s = u at h
  obtain ⟨htime, hrest⟩ := Prod.mk.inj h
  obtain ⟨hflt, hchain⟩ := Prod.mk.inj hrest
  have hq := congrArg Chain.q hchain
  exact ⟨htime, hflt, hq⟩

/-- R382: what a chip reset returns to the inert state: the power domains, the tables and the buffer. -/
theorem State.chipReset_inert (s : State) :
    s.chipReset.dom = State.reset.dom ∧ s.chipReset.tbl = {} ∧ s.chipReset.buf = {} := by
  unfold State.chipReset
  generalize (List.range 4).foldl State.dramStop s = u
  exact ⟨rfl, rfl, rfl⟩

/-- R223: the end of the forced start writes no register. -/
theorem State.startDone_held (s : State) : s.startDone.held = s.held := by
  unfold State.startDone
  split <;> rfl

/-- R382: the state that a power-on reset leaves, but for the event of a fault in sensing the fuses. -/
def State.poweredOn (s : State) (straps : Straps) : State :=
  { State.reset with
    pending := s.pending, ident := s.ident, straps := straps, fuses := s.fuses,
    dram := { State.reset.dram with
      ch := (List.range 4).foldl (fun t c => tset (fun _ => ({} : DCh)) t c { undef := (s.dch c).undef + 1 }) [] },
    free := s.free, out := s.out }

/-- R429: a fault in sensing the fuses is an event of the device that has been reset. -/
theorem State.powerOn_eq (s : State) (straps : Straps) (fault : Bool) :
    s.powerOn straps fault =
      if fault then (s.poweredOn straps).raise { src := 1, cls := .orange, code := 0x1A } else s.poweredOn straps := by
  rfl

/-- R428: a power-on reset leaves of a DRAM channel how often it has lost its contents, which is once more. -/
theorem State.poweredOn_dch (s : State) (straps : Straps) {k : Nat} (hk : k < 4) :
    (s.poweredOn straps).dch k = { undef := (s.dch k).undef + 1 } := by
  have h := tget_fill (fun _ => ({} : DCh)) (fun c => { undef := (s.dch c).undef + 1 }) 4 k
  rwa [if_pos hk] at h

/-! ### What a freeze leaves of AON (R24, R403) -/

theorem State.setLine_aon (s : State) (c l : Nat) (x : LockLine) : (s.setLine c l x).aon = s.aon := State.setClu_aon ..

theorem State.leaveLine_aon (s : State) (k : Nat) : (s.leaveLine k).2.aon = s.aon := by
  unfold State.leaveLine
  dsimp only
  cases (s.thr k).want <;> cases (s.thr k).lock <;> dsimp only
  case some.none => exact State.setLine_aon ..
  case none.some => split; exacts [State.setLine_aon .., rfl]
  case some.some => split; exacts [(State.setLine_aon ..).trans (State.setLine_aon ..), State.setLine_aon ..]

theorem State.breakLock_aon (s : State) (k : Nat) : (s.breakLock k).aon = s.aon := by
  unfold State.breakLock
  dsimp only
  cases (s.thr k).lock with
  | none => rfl
  | some l =>
    refine Eq.trans ?_ (s.leaveLine_aon k)
    refine (State.setThr_aon ..).trans ?_
    exact ite_same State.aon _ _ _ (s.leaveLine k).2 (State.orRg_aon ..) rfl

theorem State.dramFreeze_aon (s : State) (c : Nat) : (s.dramFreeze c).aon = s.aon := by
  unfold State.dramFreeze
  split
  · exact s.enterSr_aon c
  · exact s.dramQuiet_aon c .frozen

theorem State.withFrz_aon (s : State) (f : FreezeSt) : ({ s with frz := f } : State).aon = s.aon := by
  simp only [State.aon]

theorem State.freezeLatch_aon (s : State) (origin source event : Nat) (drives : Bool) :
    (s.freezeLatch origin source event drives).aon = s.aon := by
  unfold State.freezeLatch
  split
  · exact ite_same State.aon _ _ _ s (State.withFrz_aon ..) rfl
  · refine (foldl_same State.aon _ State.dramFreeze_aon _ _).trans ?_
    refine (foldl_same State.aon _ State.breakLock_aon _ _).trans ?_
    refine (foldl_same State.aon _ (fun _ (e : Nat × List Picked) => foldl_same State.aon _ (fun _ _ => ?_) e.2 _)
      _ _).trans (State.withFrz_aon ..)
    split
    · exact ite_same State.aon _ _ _ _ ((State.emit_aon ..).trans (State.bump_aon ..)) rfl
    · rfl

/-! ### The event of the fuses, of source 1 (R343-R351) -/

/-- R347: an event that is not Blue is raised as it is. -/
theorem State.raise_not_blue (s : State) {e : FaultEv} (h : e.cls ≠ .blue) : s.raise e = s.raiseCore e := if_neg h

theorem b2n_le_one (b : Bool) : b2n b ≤ 1 := by cases b <;> decide

theorem State.logStatus_flt (s : State) (e : FaultEv) (int : Bool) : (s.logStatus e int).flt = s.flt := by
  unfold State.logStatus
  split
  · rw [State.orRg_flt, State.orRg_flt]
  · rw [State.orRg_flt]

/-- R350: an event joins a history that has room. -/
theorem State.logHist_room {s : State} (hl : s.flt.lost = false) (hr : s.flt.hist.length < 32) (r : HistRec) :
    (s.logHist r).flt.hist = s.flt.hist ++ [r] := by
  simp [State.logHist, hl, Nat.not_le.mpr hr]

theorem State.isoUnit_fuseSrc (s : State) (code : Nat) (info : Word) : s.isoUnit 1 code info = s := by
  simp [State.isoUnit]

theorem State.rstdUnit_fuseSrc (s : State) (code : Nat) (info : Word) : s.rstdUnit 1 code info = s := by
  simp [State.rstdUnit]

/-- R343, R350: an event of the fuses leaves of the collector what its record makes of it: no reaction alters that. -/
theorem State.raiseCore_fuseSrc (s : State) {e : FaultEv} (hsrc : e.src = 1) :
    ∃ n < 32, ∃ int, (s.raiseCore e).flt = ((s.logStatus e int).logHist (mkHist s.now e n)).flt := by
  unfold State.raiseCore
  extract_lets r int iso frz rstd0 rstc rstd done s1 s2 s3 s4 s5
  refine ⟨done, ?_, int, ?_⟩
  · have h1 := b2n_le_one int
    have h2 := b2n_le_one iso
    have h3 := b2n_le_one rstd
    have h4 := b2n_le_one frz
    have h5 := b2n_le_one rstc
    omega
  · have hage : s2.flt = s1.flt := ite_same State.flt _ _ _ s1 (State.orRg_flt ..) rfl
    have hiso : s3.flt = s2.flt := ite_same State.flt _ _ _ s2 (by rw [hsrc, State.isoUnit_fuseSrc]) rfl
    have hrstd : s4.flt = s3.flt := ite_same State.flt _ _ _ s3 (by rw [hsrc, State.rstdUnit_fuseSrc]) rfl
    have hfrz : s5.flt = s4.flt :=
      ite_same State.flt _ _ _ s4 (State.flt_of_aon (State.freezeLatch_aon ..)) rfl
    have hchip : s5.chipReset.flt = s5.flt := s5.chipReset_aon.2.1
    have hend : (if rstc then
        (if e.cls = .crimson then s5.chipReset.orRg .bufAgeCtl 0 0 (flag 30 true) else s5.chipReset) else s5).flt =
          s5.flt := by
      refine ite_same State.flt _ _ _ s5 ?_ rfl
      exact (ite_same State.flt _ _ _ s5.chipReset (State.orRg_flt ..) rfl).trans hchip
    exact hend.trans (hfrz.trans (hrstd.trans (hiso.trans hage)))

/-- R350: the event of the fuses, in a device whose history is empty, is the history's one record. -/
theorem State.raise_fuseSrc_hist {s : State} {e : FaultEv} (hsrc : e.src = 1) (hcls : e.cls ≠ .blue)
    (hl : s.flt.lost = false) (hh : s.flt.hist = []) :
    ∃ n < 32, (s.raise e).flt.hist = [mkHist s.now e n] := by
  obtain ⟨n, hn, int, hflt⟩ := s.raiseCore_fuseSrc hsrc
  refine ⟨n, hn, ?_⟩
  rw [State.raise_not_blue s hcls, hflt, State.logHist_room, State.logStatus_flt, hh]
  · rfl
  · rwa [State.logStatus_flt]
  · rw [State.logStatus_flt, hh]
    decide

/-! ### PLLs and the junction temperature (R378, R415, R438) -/

/-- R438: a junction temperature that has fallen 5 °C below the limit clears both warnings. -/
theorem State.thermal_cool {s : State} {x : Int} (h : x ≤ (s.ident.variant.tjMax : Int) - 5) :
    s.thermal x = { s with flt := { s.flt with hotWarn := false, hotCrit := false } } := by
  have h1 : ¬ (s.ident.variant.tjMax : Int) ≤ x := by omega
  have h2 : ¬ (s.ident.variant.tjMax : Int) + 10 ≤ x := by omega
  have h3 : x ≤ (s.ident.variant.tjMax : Int) + 5 := by omega
  simp [State.thermal, h, h1, h2, h3]

/-- R438: a junction temperature that reaches the limit raises the first warning. -/
theorem State.thermal_warn {s : State} {x : Int} (hlo : (s.ident.variant.tjMax : Int) ≤ x)
    (hhi : x < (s.ident.variant.tjMax : Int) + 10) (hw : s.flt.hotWarn = false) (hc : s.flt.hotCrit = false) :
    s.thermal x = ({ s with flt := { s.flt with hotWarn := true, hotCrit := false } } : State).raise
      { src := 4, cls := .orange, code := 0x13, info := BitVec.ofInt 32 x } := by
  have h2 : ¬ (s.ident.variant.tjMax : Int) + 10 ≤ x := by omega
  simp [State.thermal, hlo, h2, hw, hc]

/-- R383: a write of CHIP_CTL with the key of a reset. -/
theorem State.writeChipCtl_reset (s : State) {v : Word} (h31 : bit v 31 = true) (hkey : fld v 7 0 = 0xC4) :
    s.writeChipCtl v = s.chipReset := by
  simp [State.writeChipCtl, h31, hkey]

/-- R383: a write of CHIP_CTL with FWD_EN 1 and no reset. -/
theorem State.writeChipCtl_fwdEn (s : State) {v : Word} (h31 : bit v 31 = false) (h8 : bit v 8 = true) :
    s.writeChipCtl v = (s.orRg .chipCtl 0 0 (flag 8 true)).startDone := by
  simp [State.writeChipCtl, h31, h8]

/-- R378, R418: a PLL that loses lock, with the reference it follows. -/
theorem State.pllLost_eq (s : State) (k : Nat) :
    s.pllLost k = ({ s with clk := { s.clk with
        lost := s.clk.lost ++ [k],
        pcieRef := if k = 146 ∨ k = 147 then false else s.clk.pcieRef,
        sysRef := if (k = 146 ∨ k = 147) ∨ k < 72 then s.clk.sysRef else false } } : State).raise
      { src := 3, cls := .crimson, code := 0x15, info := wd k } := by
  have hp : (s.clk.pcieRef && ! (decide (k = 146) || decide (k = 147))) =
      if k = 146 ∨ k = 147 then false else s.clk.pcieRef := by
    rw [← Bool.decide_or]
    by_cases h : k = 146 ∨ k = 147 <;> simp [h]
  have hs : (s.clk.sysRef && (decide (k = 146) || decide (k = 147) || decide (k < 72))) =
      if (k = 146 ∨ k = 147) ∨ k < 72 then s.clk.sysRef else false := by
    rw [← Bool.decide_or, ← Bool.decide_or]
    by_cases h : (k = 146 ∨ k = 147) ∨ k < 72 <;> simp [h]
  simp only [State.pllLost, hp, hs]

/-- Settles O37: each reset and each event is its operation's equation, and what no DRAM operation of a chip reset and
no reaction to the fuses' event touches is kept. -/
theorem resetsAndClocks : Obligations.ResetsAndClocks := by
  refine ⟨fun s b d c => ⟨?_, ?_, ?_, ?_, ?_⟩, fun s r v hon h31 hkey => ?_, fun s r v hon h31 h8 => ?_,
    fun s k hon hk hne hclk hfused hruns => ?_, fun s x hx => ?_, fun s x hlo hhi hw hc => ?_⟩
  · refine ⟨s.poweredOn (strapsOf b), ?_, ?_, rfl, fun k hk => s.poweredOn_dch (strapsOf b) hk⟩
    · exact becomes_of_act (f := fun s => s.powerOn (strapsOf b) false) rfl rfl
    · exact becomes_of_act (f := fun s => s.powerOn (strapsOf b) false) rfl rfl
  · have hb : Becomes (.rail (.por b true) d) s (s.powerOn (strapsOf b) true) :=
      becomes_of_act (f := fun s => s.powerOn (strapsOf b) true) rfl rfl
    refine hb.completes ?_
    have hnow : (s.poweredOn (strapsOf b)).now = 0 := rfl
    have hhist := State.raise_fuseSrc_hist (s := s.poweredOn (strapsOf b))
      (e := { src := 1, cls := .orange, code := 0x1A }) rfl (by decide) rfl rfl
    rw [hnow] at hhist
    rwa [State.intSweep_flt, State.powerOn_eq, if_pos rfl]
  · exact becomes_of_act (f := fun s => s.railLost .below d) rfl rfl
  · exact becomes_of_act (f := fun s => s.railLost .ddrRail d) rfl rfl
  · have hb : Becomes (.rail (.ddrDevices c) d) s (s.dramBlank c) :=
      becomes_of_act (f := fun s => s.dramBlank c) rfl rfl
    refine hb.completes ?_
    rw [State.dch_intSweep, State.dramGet_intSweep]
    have hdch := s.dch_dramBlank c
    have hget := s.dramGet_dramBlank c.isLt
    refine ⟨?_, ?_, fun x hx => (hget x).trans (if_pos hx), fun x hx => (hget x).trans (if_neg hx),
      fun e he => (hdch e).trans (if_neg he)⟩
    · rw [hdch, if_pos rfl]
    · rw [hdch, if_pos rfl]
  · have hb : Becomes (.chipReset r v) s (s.writeChipCtl v) :=
      becomes_of_act (f := fun s => s.writeChipCtl v) rfl hon
    rw [State.writeChipCtl_reset s h31 hkey] at hb
    obtain ⟨htime, hflt, hq⟩ := s.chipReset_aon
    obtain ⟨hdom, htbl, hbuf⟩ := s.chipReset_inert
    exact ⟨hb, htime, congrArg Faults.hist hflt, hdom, htbl, hbuf, hq⟩
  · have hb : Becomes (.fwdEn r v) s (s.writeChipCtl v) := becomes_of_act (f := fun s => s.writeChipCtl v) rfl hon
    rw [State.writeChipCtl_fwdEn s h31 h8] at hb
    refine hb.completes ?_
    rw [State.rg_intSweep, State.rg, State.startDone_held]
    exact State.rg_setRg ..
  · have hb : Becomes (.pllLock k) s (s.pllLost k) :=
      becomes_of_act (f := fun s => s.pllLost k) rfl (by simp [hon, hk, hne, hclk, hfused, hruns])
    rwa [State.pllLost_eq] at hb
  · have hb : Becomes (.thermalEvent x) s (s.thermal x) := becomes_of_act (f := fun s => s.thermal x) rfl rfl
    rwa [State.thermal_cool hx] at hb
  · have hb : Becomes (.thermalEvent x) s (s.thermal x) := becomes_of_act (f := fun s => s.thermal x) rfl rfl
    rwa [State.thermal_warn hlo hhi hw hc] at hb

/-! ### Inject rings (R29, R307-R309) -/

/-- R309: an inject ring's next pipeline-entry frame, in a cycle in which no frame of the group's MACs waits and that
is not too late for its slot. -/
theorem becomes_injectPipelineEntry {s : State} {h : Fin 2} (j : Fin 16) (slots : BitVec 6) (hon : s.hostOn h = true) :
    Becomes (.injectPipelineEntry h j slots false false) s (s.injPipe h (32 + j) slots false false) :=
  becomes_of_act (f := fun s => s.injPipe h (32 + j) slots false false) rfl hon

/-- R29, R308: an inject ring's next direct-entry frame. -/
theorem becomes_injectDirectEntry {s : State} {h : Fin 2} (j : Fin 16) (b : Nat) (hon : s.hostOn h = true)
    (hclk : s.clkOk 144 = true) :
    Becomes (.injectDirectEntry h j b) s (s.injDirect h (32 + j) b) :=
  becomes_of_act (f := fun s => s.injDirect h (32 + j) b) rfl (by simp [hon, hclk])

/-- R308: the data of an inject frame comes from a host whose memory the device may read. -/
theorem becomes_injectDataRead {s : State} {h : Fin 2} (j : Fin 16) (data : Option (List Byte))
    (hon : s.hostOn h = true) (hreach : s.hostReach h = true) :
    Becomes (.injectDataRead h j data) s (s.injRead h (32 + j) data) :=
  becomes_of_act (f := fun s => s.injRead h (32 + j) data) rfl (by simp [hon, hreach])

/-- R309: what becomes of the pipeline-entry frame at the head of a ring: it is refused, or dealt. -/
theorem State.injPipe_head {s : State} {h t : Nat} {x : InjDesc} {l : List InjDesc} (slots : BitVec 6)
    (hx : (s.ring h t).inj = x :: l) (hd : x.direct = false) (hclk : s.clkOk (72 + x.lp / 32) = true) :
    (∀ st r, s.injWhy x = some (st, r) → s.injPipe h t slots false false = s.injRefuse h t st r x) ∧
      ∀ f, s.injWhy x = none → x.data = some f → (s.nextPipe (x.lp / 32) slots).isSome = true →
        s.injPipe h t slots false false = (s.deal x.lp (withFcs f) s.now slots true).injFinish h t 0 := by
  unfold State.injPipe
  simp only [hx, hd, hclk]
  refine ⟨fun st r hw => ?_, fun f hw hf hp => ?_⟩
  · simp [hw]
  · simp [hw, hf, Option.isNone_eq_false_iff.mpr hp]

/-- R29, R308: what becomes of the direct-entry frame at the head of a ring: it is refused, or admitted once no frame of
its group waits for admission. -/
theorem State.injDirect_head {s : State} {h t : Nat} {x : InjDesc} {l : List InjDesc} (b : Nat)
    (hx : (s.ring h t).inj = x :: l) (hd : x.direct = true) :
    (∀ st r, s.injWhy x = some (st, r) → s.injDirect h t b = s.injRefuse h t st r x) ∧
      ∀ f, s.injWhy x = none → x.data = some f →
        s.injDirect h t b =
          if (s.grp (x.lp / 32)).polq = [] then (s.injAdmit x f b).injFinish h t 0 else s := by
  unfold State.injDirect
  simp only [hx, hd]
  refine ⟨fun st r hw => ?_, fun f hw hf => ?_⟩
  · simp [hw]
  · simp [hw, hf]

/-- R308: the data that came for the first descriptor whose data is still to be read. -/
theorem State.injRead_data {s : State} {h t : Nat} {x : InjDesc} (f : List Byte)
    (hx : (s.ring h t).inj.find? s.injUnread = some x) :
    s.injRead h t (some f) =
      (s.setRing h t { s.ring h t with
        inj := (s.ring h t).inj.set ((s.ring h t).inj.idxOf x) { x with data := some (slice f 0 x.len) } }).readHost
          h (addr64 (wAt x.desc 0) (wAt x.desc 1)) x.len := by
  simp only [State.injRead, hx]

/-- Settles O48: each command acts on the ring's head, and the two questions, whether it is refused and whether there is
room, decide its end. -/
theorem injection : Obligations.Injection := by
  refine fun s h j hon => ⟨fun x l slots hx hd hclk => ?_, fun x l b hx hd hclk => ?_, fun x f hreach hx => ?_⟩
  · have hb := becomes_injectPipelineEntry j slots hon
    obtain ⟨hrefused, hdealt⟩ := State.injPipe_head slots hx hd hclk
    refine ⟨fun st r hw => ?_, fun f hw hf hp => ?_⟩
    · rwa [hrefused st r hw] at hb
    · rwa [hdealt f hw hf hp] at hb
  · have hb := becomes_injectDirectEntry j b hon hclk
    obtain ⟨hrefused, hadmitted⟩ := State.injDirect_head b hx hd
    refine ⟨fun st r hw => ?_, fun f hw hf => ?_⟩
    · rwa [hrefused st r hw] at hb
    · rw [hadmitted f hw hf] at hb
      exact ⟨fun hq => by rwa [if_pos hq] at hb, fun hq => by rwa [if_neg hq] at hb⟩
  · have hb := becomes_injectDataRead j (some f) hon hreach
    rwa [State.injRead_data f hx] at hb

end Sys2Proof.Machine
end

section
/-! PROOFS of the family 02_ports_and_cages: the configuration, the link states and the flush of sub-ports, and the
buses and the states of cages. -/

namespace Sys2Proof.Machine

open Sys2Proof

/-! ### What operations leave of ports and cages -/

/-- R67, R346: the addresses among which are CAGE_CTLc and FLT_REACTs, the words that a poll of cages goes by. -/
def cageWord (a : Nat) : Prop :=
  (0x20100 ≤ a ∧ a < 0x20280) ∨
    (a < 0x4800000 ∧ 0x30100 ≤ a % 0x100000 ∧ a % 0x100000 < 0x30180 ∧ a % 16 = 0)

/-- The words that cages go by are as they were, and nothing that has left the block is taken back. -/
structure State.Calm (s t : State) : Prop where
  words : ∀ a, cageWord a → tget heldReset t.held a = tget heldReset s.held a
  out : s.out <:+ t.out

/-- The cages, their buses and the queues are as they were too. -/
structure State.Around (s t : State) : Prop extends s.Calm t where
  cages : t.cages = s.cages
  buses : t.buses = s.buses
  queues : t.buf.queues = s.buf.queues

/-- And so are the sub-ports. -/
structure State.Beside (s t : State) : Prop extends s.Around t where
  port : t.port = s.port

theorem State.Calm.refl (s : State) : s.Calm s := ⟨fun _ _ => rfl, List.suffix_refl _⟩

theorem State.Calm.trans {s t u : State} (h : s.Calm t) (g : t.Calm u) : s.Calm u :=
  ⟨fun a ha => (g.words a ha).trans (h.words a ha), h.out.trans g.out⟩

theorem State.Around.refl (s : State) : s.Around s := ⟨.refl s, rfl, rfl, rfl⟩

theorem State.Around.trans {s t u : State} (h : s.Around t) (g : t.Around u) : s.Around u :=
  ⟨h.toCalm.trans g.toCalm, g.cages.trans h.cages, g.buses.trans h.buses, g.queues.trans h.queues⟩

theorem State.Beside.refl (s : State) : s.Beside s := ⟨.refl s, rfl⟩

theorem State.Beside.trans {s t u : State} (h : s.Beside t) (g : t.Beside u) : s.Beside u :=
  ⟨h.toAround.trans g.toAround, g.port.trans h.port⟩

theorem State.Beside.after {s t u : State} (g : t.Beside u) (h : s.Beside t) : s.Beside u := h.trans g

/-- What writes none of these fields is beside ports and cages. -/
theorem State.Beside.of_eq {s t : State} (hheld : t.held = s.held := by rfl) (hout : t.out = s.out := by rfl)
    (hcages : t.cages = s.cages := by rfl) (hbuses : t.buses = s.buses := by rfl)
    (hqueues : t.buf.queues = s.buf.queues := by rfl) (hports : t.ports = s.ports := by rfl) : s.Beside t :=
  ⟨⟨⟨fun _ _ => by rw [hheld], by rw [hout]⟩, hcages, hbuses, hqueues⟩,
    funext fun lp => by rw [State.port, hports, State.port]⟩

theorem State.Around.foldl {α : Type} {f : State → α → State} (h : ∀ (s : State) a, s.Around (f s a)) (l : List α)
    (s : State) : s.Around (l.foldl f s) :=
  List.foldlRecOn l f (motive := fun t => s.Around t) (.refl s) fun t ht a _ => ht.trans (h t a)

theorem State.Beside.foldl {α : Type} {f : State → α → State} (h : ∀ (s : State) a, s.Beside (f s a)) (l : List α)
    (s : State) : s.Beside (l.foldl f s) :=
  List.foldlRecOn l f (motive := fun t => s.Beside t) (.refl s) fun t ht a _ => ht.trans (h t a)

theorem State.Around.ite {s a b : State} {c : Prop} [Decidable c] (ha : s.Around a) (hb : s.Around b) :
    s.Around (if c then a else b) := by split <;> assumption

theorem State.Beside.ite {s a b : State} {c : Prop} [Decidable c] (ha : s.Beside a) (hb : s.Beside b) :
    s.Beside (if c then a else b) := by split <;> assumption

/-! ### Register words that no cage goes by -/

theorem not_cageWord_macStat (k : Nat) {j : Nat} (hj : j < 32) : ¬ cageWord (regAddr .macStat k 0 j) := by
  change ¬ cageWord (0x4010000 + k * 0x100000 + 4 + 0 * 0 + j * 0x40)
  unfold cageWord; omega

theorem not_cageWord_macTxErrEof (k : Nat) {j : Nat} (hj : j < 32) : ¬ cageWord (regAddr .macTxErrEof k 0 j) := by
  change ¬ cageWord (0x4010000 + k * 0x100000 + 0x2C + 0 * 0 + j * 0x40)
  unfold cageWord; omega

theorem not_cageWord_sxlPrbsErr (k : Nat) {j : Nat} (hj : j < 64) : ¬ cageWord (regAddr .sxlPrbsErr k 0 j) := by
  change ¬ cageWord (0x4020000 + k * 0x100000 + 0xC + 0 * 0 + j * 0x20)
  unfold cageWord; omega

theorem not_cageWord_cageStat (k j : Nat) : ¬ cageWord (regAddr .cageStat k 0 j) := by
  change ¬ cageWord (0x4030000 + k * 0x100000 + 0x108 + 0 * 0 + j * 0x10)
  unfold cageWord; omega

theorem not_cageWord_pciSleepAcc (k j : Nat) : ¬ cageWord (regAddr .pciSleepAcc k 0 j) := by
  change ¬ cageWord (0x1000000 + k * 0x10000 + 0x34 + 0 * 0 + j * 0)
  unfold cageWord; omega

theorem not_cageWord_telLost (j : Nat) : ¬ cageWord (regAddr .telLost 0 0 j) := by
  change ¬ cageWord (0x13010000 + 0 * 0 + 0x144 + 0 * 0 + j * 4)
  unfold cageWord; omega

theorem not_cageWord_bufPoolStat (j : Nat) : ¬ cageWord (regAddr .bufPoolStat 0 0 j) := by
  change ¬ cageWord (0x11000000 + 0 * 0 + 0x30 + 0 * 0 + j * 4)
  unfold cageWord; omega

theorem not_cageWord_necLockTorn (k j : Nat) : ¬ cageWord (regAddr .necLockTorn k 0 j) := by
  change ¬ cageWord (0x10000000 + k * 0x40000 + 0x60 + 0 * 0 + j * 4)
  unfold cageWord; omega

theorem not_cageWord_fltStatus {j : Nat} (hj : j < 3) : ¬ cageWord (regAddr .fltStatus 0 0 j) := by
  change ¬ cageWord (0x20000 + 0 * 0 + 0 + 0 * 0 + j * 4)
  unfold cageWord; omega

theorem not_cageWord_fltStatus3 : ¬ cageWord (regAddr .fltStatus3 0 0 0) := by
  change ¬ cageWord (0x20000 + 0 * 0 + 0xC + 0 * 0 + 0 * 0)
  unfold cageWord; omega

theorem not_cageWord_histDropped : ¬ cageWord (regAddr .histDropped 0 0 0) := by
  change ¬ cageWord (0x20000 + 0 * 0 + 0x30 + 0 * 0 + 0 * 0)
  unfold cageWord; omega

theorem not_cageWord_histLostcnt : ¬ cageWord (regAddr .histLostcnt 0 0 0) := by
  change ¬ cageWord (0x20000 + 0 * 0 + 0x34 + 0 * 0 + 0 * 0)
  unfold cageWord; omega

theorem cageWord_fltReact {j : Nat} (hj : j < 96) : cageWord (regAddr .fltReact 0 0 j) := by
  change cageWord (0x20000 + 0 * 0 + 0x100 + 0 * 0 + j * 4)
  unfold cageWord; omega

theorem cageWord_cageCtl {k j : Nat} (hk : k < 8) (hj : j < 8) : cageWord (regAddr .cageCtl k 0 j) := by
  change cageWord (0x4030000 + k * 0x100000 + 0x100 + 0 * 0 + j * 0x10)
  unfold cageWord; omega

theorem State.setRg_beside (s : State) {n : RegName} {k j : Nat} (h : ¬ cageWord (regAddr n k 0 j)) (v : Word) :
    s.Beside (s.setRg n k j v) := by
  refine ⟨⟨⟨fun a ha => ?_, List.suffix_refl _⟩, rfl, rfl, rfl⟩, rfl⟩
  exact (tget_tset ..).trans (if_neg fun (e : a = regAddr n k 0 j) => h (e ▸ ha))

theorem State.orRg_beside (s : State) {n : RegName} {k j : Nat} (h : ¬ cageWord (regAddr n k 0 j)) (v : Word) :
    s.Beside (s.orRg n k j v) := s.setRg_beside h _

theorem State.bump_beside (s : State) {n : RegName} {k j : Nat} (h : ¬ cageWord (regAddr n k 0 j)) (c : Nat) :
    s.Beside (s.bump n k j c) := s.setRg_beside h _

theorem State.bumpHigh_beside (s : State) {n : RegName} {k j : Nat} (h : ¬ cageWord (regAddr n k 0 j)) :
    s.Beside (s.bumpHigh n k j) := s.setRg_beside h _

theorem State.emit_beside (s : State) (o : Out) : s.Beside (s.emit o) :=
  ⟨⟨⟨fun _ _ => rfl, List.suffix_cons ..⟩, rfl, rfl, rfl⟩, rfl⟩

theorem State.setDch_beside (s : State) (c : Nat) (x : DCh) : s.Beside (s.setDch c x) := .of_eq
theorem State.setHst_beside (s : State) (h : Nat) (x : HostFn) : s.Beside (s.setHst h x) :=
  .of_eq

/-! ### Drops, pools and records (R207, R215, R248, R264-R266) -/

theorem State.pmc_beside (s : State) (hit : Word → Bool) (n : Nat) : s.Beside (s.pmc hit n) := .ite .of_eq (.refl s)

theorem State.book_beside (s : State) (lp : Nat) (par : Bool) (t : Term) (n : Nat) : s.Beside (s.book lp par t n) := by
  unfold State.book
  exact (State.pmc_beside ..).after .of_eq

theorem State.bookReason_beside (s : State) (lp : Nat) (par : Bool) (code : Nat) :
    s.Beside (s.bookReason lp par code) := by
  unfold State.bookReason
  exact (State.pmc_beside ..).after .of_eq

theorem State.telLost_beside (s : State) (k n : Nat) : s.Beside (s.telLost k n) :=
  s.bump_beside (not_cageWord_telLost _) n

theorem State.dramWrite1_beside (s : State) (who : DramUser) (a : Nat) (bytes : List Byte) :
    s.Beside (s.dramWrite1 who a bytes) := by
  unfold State.dramWrite1
  split
  · exact .refl s
  · exact .ite (State.setDch_beside ..) (.refl s)

theorem State.dramWrite_beside (s : State) (who : DramUser) (a : Nat) (bytes : List Byte) :
    s.Beside (s.dramWrite who a bytes) := .foldl (fun t _ => t.dramWrite1_beside ..) _ s

theorem State.withTel_beside (s : State) (x : Telem) : s.Beside { s with tel := x } := .of_eq

theorem State.toRegion_beside (s : State) (k : Nat) (rec : List Byte) (n : Nat) : s.Beside (s.toRegion k rec n) := by
  unfold State.toRegion
  refine .ite ((State.withTel_beside ..).after ?_) (s.telLost_beside k n)
  exact .foldl (fun t _ => t.dramWrite_beside ..) _ s

theorem State.capture_beside (s : State) (b : Boundary) (code : Nat) (d : DropInfo) :
    s.Beside (s.capture b code d) := by
  unfold State.capture
  dsimp only
  refine .ite (.ite (.ite ((State.telLost_beside ..).after .of_eq) ?_) .of_eq) (.refl s)
  exact .ite ((State.telLost_beside ..).after .of_eq) ((State.toRegion_beside ..).after .of_eq)

theorem State.drop_beside (s : State) (b : Boundary) (reason : Nat) (d : DropInfo) : s.Beside (s.drop b reason d) :=
  (State.book_beside ..).trans ((State.bookReason_beside ..).trans (State.capture_beside ..))

theorem State.poolStep_beside (s : State) (k : Nat) : s.Beside (s.poolStep k) := by
  unfold State.poolStep
  exact .ite (.ite ((State.orRg_beside _ (not_cageWord_bufPoolStat k) _).after .of_eq) .of_eq) .of_eq

theorem State.poolSteps_beside (s : State) : s.Beside s.poolSteps := .foldl State.poolStep_beside _ s

theorem State.moveMember_beside (s : State) (m : Nat) (f : Nat → Nat) : s.Beside (s.moveMember m f) := .of_eq
theorem State.freeHold_beside (s : State) (p : Pkt) : s.Beside (s.freeHold p) := .of_eq
theorem State.setBlk_beside (s : State) (b : Nat) (x : Block) : s.Beside (s.setBlk b x) := .of_eq
theorem State.setBuf_beside (s : State) (b : Nat) (x : Buf) : s.Beside (s.setBuf b x) := .of_eq

theorem State.relBuf_beside (s : State) (b : Nat) : s.Beside (s.relBuf b) := by
  unfold State.relBuf
  refine .ite ?_ (State.setBuf_beside ..)
  refine (State.poolSteps_beside _).after ((State.setBuf_beside ..).after ((State.setBlk_beside ..).after ?_))
  exact State.Beside.trans (.ite (State.moveMember_beside ..) (.refl s)) (.ite (State.freeHold_beside ..) (.refl _))

theorem State.relDesc_beside (s : State) (d : Nat) : s.Beside (s.relDesc d) := by
  unfold State.relDesc
  exact (State.relBuf_beside ..).after .of_eq

theorem State.dropDesc_beside (s : State) (d reason : Nat) : s.Beside (s.dropDesc d reason) :=
  (State.drop_beside ..).trans (State.relDesc_beside ..)

/-! ### Link states beside the sub-port (R55-R58) -/

theorem State.dropPicked_beside (s : State) (lp : Nat) : s.Beside (s.dropPicked lp) := by
  have herr : ¬ cageWord (regAddr .macTxErrEof (lp / 32) 0 (lp % 32)) :=
    not_cageWord_macTxErrEof _ (Nat.mod_lt _ (by decide))
  unfold State.dropPicked
  refine (State.Beside.foldl (fun t p => ?_) _ _).after .of_eq
  exact (State.dropDesc_beside ..).after (.ite ((State.emit_beside ..).after (t.bump_beside herr 1)) (.refl t))

theorem State.markFlush_beside (s : State) (qs : Nat → Bool) : s.Beside (s.markFlush qs) := .of_eq

/-- R422: a lane's number in its group, of the counters of a physical port. -/
theorem rxCounters_lane {port : Nat} {c : RegName × Nat} (h : c ∈ rxCounters port) : c.2 < 64 := by
  simp only [rxCounters, List.mem_append, List.mem_flatMap, List.mem_range, List.mem_cons, List.not_mem_nil,
    or_false] at h
  rcases h with ⟨u, hu, rfl | rfl⟩ | ⟨l, hl, rfl | rfl⟩ <;> simp only <;> omega

theorem State.addCtr_beside (s : State) (n : RegName) (k j c : Nat) : s.Beside (s.addCtr n k j c) := .of_eq

theorem State.withRxAt_beside (s : State) (x : Tab Nat) : s.Beside { s with rxAt := x } := .of_eq

theorem State.rxStore_beside (s : State) (port : Nat) : s.Beside (s.rxStore port) := by
  unfold State.rxStore
  refine (State.withRxAt_beside ..).after ?_
  refine List.foldlRecOn _ _ (motive := fun t => s.Beside t) (.refl s) fun t ht c hc => ht.trans (.ite ?_ (.refl t))
  by_cases hn : c.1 = .sxlPrbsErr
  · rw [if_pos hn, hn]
    exact t.bump_beside (not_cageWord_sxlPrbsErr _ (rxCounters_lane hc)) _
  · rw [if_neg hn]
    exact t.addCtr_beside ..

theorem State.Beside.setPort {s t : State} (h : s.Beside t) (lp : Nat) (p : SubPort) :
    (s.setPort lp p).Beside (t.setPort lp p) :=
  ⟨⟨⟨h.words, h.out⟩, h.cages, h.buses, h.queues⟩, funext fun q => by
    rw [State.port_setPort, State.port_setPort, h.port]⟩

theorem State.setPort_around (s : State) (lp : Nat) (p : SubPort) : s.Around (s.setPort lp p) :=
  ⟨⟨fun _ _ => rfl, List.suffix_refl _⟩, rfl, rfl, rfl⟩

/-- R55: a move to a link state is a write of that state, beside ports and cages. -/
theorem State.setLink_beside (s : State) (lp : Nat) (st : LinkState) :
    (s.setPort lp { s.port lp with st := st }).Beside (s.setLink lp st) := by
  have hstat : ¬ cageWord (regAddr .macStat (lp / 32) 0 (lp % 32)) := not_cageWord_macStat _ (Nat.mod_lt _ (by decide))
  unfold State.setLink
  dsimp only
  by_cases hst : (s.port lp).st = st
  · rw [if_pos hst]
    refine ⟨⟨⟨fun _ _ => rfl, List.suffix_refl _⟩, rfl, rfl, rfl⟩, funext fun q => ?_⟩
    rw [State.port_setPort]
    split
    · subst q; subst hst; rfl
    · rfl
  · rw [if_neg hst]
    refine (State.Beside.setPort ?_ lp _).trans ((State.orRg_beside _ hstat _).trans
      (.ite ((State.bumpHigh_beside _ hstat).trans (State.dropPicked_beside ..)) (.refl _)))
    exact State.Beside.trans (.ite (State.rxStore_beside ..) (.refl s)) (.ite (State.markFlush_beside ..) (.refl _))

theorem State.setLink_port (s : State) (lp : Nat) (st : LinkState) (q : Nat) :
    (s.setLink lp st).port q = if q = lp then { s.port lp with st := st } else s.port q := by
  rw [(s.setLink_beside lp st).port, State.port_setPort]

theorem State.setLink_around (s : State) (lp : Nat) (st : LinkState) : s.Around (s.setLink lp st) :=
  (s.setPort_around ..).trans (s.setLink_beside lp st).toAround

theorem State.forceDown_around (s : State) (lp : Nat) (why : SubPort → SubPort) : s.Around (s.forceDown lp why) :=
  (s.setLink_around lp .disabled).trans (State.setPort_around ..)

/-- R55: what a forced down makes of the sub-port, before what it remembers of the cause. -/
theorem State.forceDown_port (s : State) (lp : Nat) (why : SubPort → SubPort) :
    (s.forceDown lp why).port lp = why { s.port lp with
      st := .disabled, amLock := false, localFault := false, remoteFault := false, hiSer := false,
      clearSince := none } := by
  unfold State.forceDown
  rw [State.port_setPort, if_pos rfl, State.setLink_port, if_pos rfl]

/-! ### Freezes and resets beside ports and cages (R281, R325-R333, R382, R403) -/

theorem State.setChan_beside (s : State) (n : Nat) (x : Chan) : s.Beside (s.setChan n x) := .of_eq
theorem State.setThr_beside (s : State) (k : Nat) (x : Thread) : s.Beside (s.setThr k x) := .of_eq
theorem State.setLine_beside (s : State) (c l : Nat) (x : LockLine) : s.Beside (s.setLine c l x) := .of_eq
theorem State.setDmn_beside (s : State) (k : Nat) (d : Domain) : s.Beside (s.setDmn k d) := .of_eq
theorem State.withFree_beside (s : State) (n : Nat) : s.Beside { s with free := n } := .of_eq

theorem State.dramPut_beside (s : State) (x : Nat) (l : List Byte) : s.Beside (s.dramPut x l) := by
  induction l generalizing s x with
  | nil => exact .refl s
  | cons b l ih => exact (ih (s.dramSet x b) (x + 1)).after .of_eq

theorem State.dlogAcc_beside (s : State) (c cmd rank : Nat) : s.Beside (s.dlogAcc c cmd rank) :=
  .ite (.refl s) ((State.setDch_beside ..).after (State.withFree_beside ..))

theorem State.dlogs_beside (s : State) (c rank : Nat) (cmds : List Nat) : s.Beside (s.dlogs c rank cmds) :=
  .ite (.refl s) ((State.setDch_beside ..).after (State.withFree_beside ..))

theorem State.issueWrite_beside (s : State) (c : Nat) (r : DReq) : s.Beside (s.issueWrite c r) :=
  (State.dlogAcc_beside ..).trans ((State.dramPut_beside ..).after (State.setDch_beside ..))

theorem State.dramFlush_beside (s : State) (c : Nat) : s.Beside (s.dramFlush c) :=
  (State.setDch_beside ..).after (.foldl (fun t _ => t.issueWrite_beside ..) _ s)

theorem State.cplSend_beside (s : State) (h : Nat) (l : List HostCpl) : s.Beside (s.cplSend h l) := by
  induction l generalizing s with
  | nil => exact State.setHst_beside ..
  | cons c l ih =>
    exact .ite ((ih _).after ((State.emit_beside ..).after (State.setHst_beside ..))) (State.setHst_beside ..)

theorem State.dramAnswer_beside (s : State) (who : DramUser) (no a : Nat) (b : List Byte) (bad : Bool) :
    s.Beside (s.dramAnswer who no a b bad) := by
  unfold State.dramAnswer
  split
  · exact .ite (State.cplSend_beside ..) ((State.emit_beside ..).after (State.setHst_beside ..))
  · exact .ite (State.setChan_beside ..) (State.emit_beside ..)
  · exact State.emit_beside ..

theorem State.sleepAcc_beside (s : State) (r : Req) : s.Beside (s.sleepAcc r) := by
  cases r with
  | host0 | host1 => exact s.bump_beside (not_cageWord_pciSleepAcc _ _) 1
  | chain => exact .refl s

theorem State.dropRead_beside (s : State) (r : DReq) : s.Beside (s.dropRead r) := by
  unfold State.dropRead
  split
  · exact (State.dramAnswer_beside ..).after (State.sleepAcc_beside ..)
  · exact State.dramAnswer_beside ..
  · exact .refl s

theorem State.dropReads_beside (s : State) (c : Nat) : s.Beside (s.dropReads c) := by
  unfold State.dropReads
  exact .ite ((State.Beside.foldl State.dropRead_beside _ _).after (State.setDch_beside ..)) (State.setDch_beside ..)

theorem State.enterSr_beside (s : State) (c : Nat) : s.Beside (s.enterSr c) :=
  (State.setDch_beside ..).after
    (.foldl (fun _ _ => (State.dlogs_beside ..).after (State.withFree_beside ..)) _ s)

theorem State.setDramSt_beside (s : State) (c : Nat) (st : DramState) : s.Beside (s.setDramSt c st) :=
  .ite (.refl s) (State.setDch_beside ..)

theorem State.dramQuiet_beside (s : State) (c : Nat) (st : DramState) : s.Beside (s.dramQuiet c st) := by
  refine .ite ?_ (.refl s)
  exact (State.setDramSt_beside ..).after ((State.enterSr_beside ..).after ((State.dropReads_beside ..).after
    (State.dramFlush_beside ..)))

theorem State.dramFreeze_beside (s : State) (c : Nat) : s.Beside (s.dramFreeze c) :=
  .ite (State.enterSr_beside ..) (State.dramQuiet_beside ..)

theorem State.leaveLine_beside (s : State) (k : Nat) : s.Beside (s.leaveLine k).2 := by
  unfold State.leaveLine
  dsimp only
  cases (s.thr k).want <;> cases (s.thr k).lock <;> dsimp only
  case none.none => exact .refl s
  case some.none => exact State.setLine_beside ..
  case none.some => split; exacts [State.setLine_beside .., .refl s]
  case some.some => split; exacts [(State.setLine_beside ..).after (State.setLine_beside ..), State.setLine_beside ..]

theorem State.breakLock_beside (s : State) (k : Nat) : s.Beside (s.breakLock k) := by
  unfold State.breakLock
  dsimp only
  cases (s.thr k).lock with
  | none => exact .refl s
  | some l =>
    refine (s.leaveLine_beside k).trans ((State.setThr_beside ..).after ?_)
    exact .ite (State.orRg_beside _ (not_cageWord_necLockTorn _ _) _) (.refl _)

theorem State.withFrz_beside (s : State) (f : FreezeSt) : s.Beside { s with frz := f } := .of_eq

/-- R403: a freeze ends the frames in transmission, of whatever sub-ports. -/
theorem State.freezeLatch_beside (s : State) (origin source event : Nat) (drives : Bool) :
    s.Beside (s.freezeLatch origin source event drives) := by
  unfold State.freezeLatch
  refine .ite (.ite (State.withFrz_beside ..) (.refl s)) ?_
  refine (State.Beside.foldl State.dramFreeze_beside _ _).after
    ((State.Beside.foldl State.breakLock_beside _ _).after ?_)
  refine (State.Beside.foldl (fun t (e : Nat × List Picked) => .foldl (fun u p => ?_) e.2 t) _ _).after
    (State.withFrz_beside ..)
  split
  · exact .ite ((State.emit_beside ..).after
      (u.bump_beside (not_cageWord_macTxErrEof _ (Nat.mod_lt _ (by decide))) 1)) (.refl u)
  · exact .refl u

theorem State.sxDown_around (s : State) (n : Nat) : s.Around (s.sxDown n) :=
  .foldl (fun t _ => .ite (.refl t) (t.forceDown_around ..)) _ s

/-- R369: an SX domain loses nothing that the model holds. -/
theorem State.loseDom_sx (s : State) {k : Nat} (h14 : 14 ≤ k) (h22 : k < 22) : s.loseDom k = s := by
  have h : ∀ j < 14, k ≠ j := by omega
  simp [State.loseDom, domDram, domTbl, domTel, h, Nat.not_lt.mpr h14, Nat.not_le.mpr h22]

/-- R382: the reset of an SX domain forces its sub-ports down, and leaves the cages. -/
theorem State.domReset_sx_around (s : State) {k : Nat} (h14 : 14 ≤ k) (h22 : k < 22) : s.Around (s.domReset k) := by
  unfold State.domReset
  refine .ite (.refl s) ?_
  extract_lets s1 s2 clk s3 dom s4 s5 dom2 s6
  have h1 : s.Around s1 := .ite (s.sxDown_around _) (.refl s)
  have h2 : s1.Beside s2 := .ite (.foldl (fun t c => t.dramQuiet_beside c _) _ _) (.refl s1)
  have h3 : s2.Beside s3 := .of_eq
  have h4 : s3.Beside s4 := State.setDmn_beside ..
  have h5 : s5 = s4 := s4.loseDom_sx h14 h22
  have h6 : s4.Beside s6 := h5 ▸ State.setDmn_beside ..
  exact h1.trans (h2.trans (h3.trans (h4.trans (h6.trans (.ite (State.poolSteps_beside _) (.refl _)))))).toAround

/-! ### The event of a cage bus (R64, R343-R346) -/

theorem State.logStatus_beside (s : State) {e : FaultEv} (he : e.src < 96) (int : Bool) :
    s.Beside (s.logStatus e int) := by
  have hst : ¬ cageWord (regAddr .fltStatus 0 0 (e.src / 32)) := not_cageWord_fltStatus (by omega)
  unfold State.logStatus
  exact .ite ((State.orRg_beside _ not_cageWord_fltStatus3 _).after (s.orRg_beside hst _)) (s.orRg_beside hst _)

theorem State.withFlt_beside (s : State) (x : Faults) : s.Beside { s with flt := x } := .of_eq

theorem State.logHist_beside (s : State) (r : HistRec) : s.Beside (s.logHist r) := by
  unfold State.logHist
  refine .ite ((State.withFlt_beside ..).after ?_) (.ite ((State.withFlt_beside ..).after ?_) (State.withFlt_beside ..))
  · exact .ite (s.bump_beside not_cageWord_histLostcnt 1) (.refl s)
  · exact s.bump_beside not_cageWord_histDropped 1

/-- R344: the ISO reaction to the event of a cage bus forces sub-ports down. -/
theorem State.isoUnit_cage_around (s : State) {n : Nat} (hn : n < 8) (code : Nat) (info : Word) :
    s.Around (s.isoUnit (48 + n) code info) := by
  have h1 : ¬ (20 ≤ 48 + n ∧ 48 + n ≤ 23) := by omega
  have h2 : ¬ (32 ≤ 48 + n ∧ 48 + n ≤ 39) := by omega
  have h3 : ¬ (40 ≤ 48 + n ∧ 48 + n ≤ 47) := by omega
  have h4 : 48 ≤ 48 + n ∧ 48 + n ≤ 55 := by omega
  simp only [State.isoUnit, Bool.and_eq_true, decide_eq_true_eq, if_neg h1, if_neg h2, if_neg h3, if_pos h4]
  exact .foldl (fun t _ => t.forceDown_around ..) _ s

/-- R344: the RSTD reaction to it resets the SX domain of its group. -/
theorem State.rstdUnit_cage_around (s : State) {n : Nat} (hn : n < 8) (code : Nat) (info : Word) :
    s.Around (s.rstdUnit (48 + n) code info) := by
  have h1 : 48 + n ≠ 3 := by omega
  have h2 : 48 + n ≠ 24 := by omega
  have h3 : ¬ (32 ≤ 48 + n ∧ 48 + n ≤ 39) := by omega
  have h4 : ¬ (40 ≤ 48 + n ∧ 48 + n ≤ 47) := by omega
  have h5 : 48 ≤ 48 + n ∧ 48 + n ≤ 55 := by omega
  simp only [State.rstdUnit, Bool.and_eq_true, decide_eq_true_eq, if_neg h1, if_neg h2, if_neg h3, if_neg h4, if_pos h5]
  exact s.domReset_sx_around (by unfold domSx; omega) (by unfold domSx; omega)

/-- R344: the RSTD reaction to the event of a cage bus never acts as RSTC. -/
theorem rstdIsRstc_cage {n : Nat} (info : Word) : rstdIsRstc (48 + n) info = false := by
  have h : ∀ j < 48, 48 + n ≠ j := by omega
  simp [rstdIsRstc, h]

/-- R64, R344: the event of a cage bus that does not reset the chip leaves cages and buses as they are. -/
theorem State.raise_cage_around {s : State} {n : Nat} (hn : n < 8) (hr : s.reactions (48 + n) .orange < 16) (code : Nat)
    (info : Word) : s.Around (s.raise { src := 48 + n, cls := .orange, code := code, info := info }) := by
  rw [State.raise_not_blue s (fun h : FClass.orange = .blue => by cases h)]
  unfold State.raiseCore
  extract_lets r int iso frz rstd0 rstc rstd done s1 s2 s3 s4 s5
  have hrstc : rstc = false := by
    have h16 : r / 16 = 0 := Nat.div_eq_of_lt hr
    simp [rstc, h16, rstdIsRstc_cage]
  rw [hrstc, if_neg Bool.false_ne_true]
  have h1 : s.Around s1 :=
    ((s.logStatus_beside (by simp only; omega) int).trans (State.logHist_beside ..)).toAround
  have h2 : s1.Around s2 := by
    have hne : ¬ (((rstd || rstc) && decide (FClass.orange = .crimson)) = true) := by simp
    exact (if_neg hne : s2 = s1) ▸ .refl s1
  have h3 : s2.Around s3 := .ite (s2.isoUnit_cage_around hn code info) (.refl s2)
  have h4 : s3.Around s4 := .ite (s3.rstdUnit_cage_around hn code info) (.refl s3)
  have h5 : s4.Around s5 := .ite (s4.freezeLatch_beside ..).toAround (.refl s4)
  exact h1.trans (h2.trans (h3.trans (h4.trans h5)))

/-! ### The configuration of a port (R49) -/

/-- R277: a register access to a block whose domain serves it has its effect. -/
theorem becomes_of_access {i : Instr} {s : State} {k : Nat} {r : Req} {f : State → State}
    (h : exec i s = act s.regOn (fun s => s.access r k f) s) (ho : s.Open k) : Becomes i s (f s) := by
  rw [← ho.access r f]
  exact becomes_of_act h ho.1

/-- Which bits a field put into a word sets. -/
theorem bit_put (hi lo v i : Nat) :
    bit (put hi lo v) i =
      (decide (i < 32) && (decide (lo ≤ i) && (decide (i - lo < hi + 1 - lo) && v.testBit (i - lo)))) := by
  simp only [bit, put, BitVec.getLsbD_ofNat, Nat.testBit_shiftLeft, Nat.testBit_mod_two_pow, ge_iff_le]

/-- A field, by its bits. -/
theorem fld_eq_of_bits {w : Word} {hi lo n : Nat} (hn : n < 2 ^ (hi + 1 - lo))
    (h : ∀ i < hi + 1 - lo, bit w (lo + i) = n.testBit i) : fld w hi lo = n := by
  refine Nat.eq_of_testBit_eq fun i => ?_
  rw [fld, Nat.testBit_mod_two_pow, Nat.testBit_shiftRight]
  by_cases hi' : i < hi + 1 - lo
  · rw [decide_eq_true hi', Bool.true_and, ← h i hi', bit, BitVec.getLsbD]
  · rw [decide_eq_false hi', Bool.false_and]
    exact (Nat.testBit_lt_two_pow (hn.trans_le (Nat.pow_le_pow_right (by decide) (Nat.le_of_not_lt hi')))).symm

theorem fld_lt (w : Word) (hi lo : Nat) : fld w hi lo < 2 ^ (hi + 1 - lo) := Nat.mod_lt _ (Nat.two_pow_pos _)

/-- R49: PG_PORT_CFGp as a write leaves it: AN_EN and LT_EN as written, MEDIA and MODE as given. -/
def portCfgWord (v : Word) (media mode : Nat) : Word := (v &&& 0xC0) ||| put 5 4 media ||| put 2 0 mode

/-- R49: the bits of PG_PORT_CFGp after a write. -/
theorem bit_portCfgWord (v : Word) (media mode i : Nat) :
    bit (portCfgWord v media mode) i =
      (decide (i = 6 ∨ i = 7) && bit v i || decide (4 ≤ i ∧ i < 6) && media.testBit (i - 4) ||
        decide (i < 3) && mode.testBit i) := by
  have hmask : bit 0xC0 i = decide (i = 6 ∨ i = 7) := by
    by_cases hi : i < 8
    · interval_cases i <;> rfl
    · rw [decide_eq_false (by omega), bit, BitVec.getLsbD]
      exact Nat.testBit_lt_two_pow (lt_of_lt_of_le (by decide : 0xC0 < 2 ^ 8)
        (Nat.pow_le_pow_right (by decide) (by omega)))
  have hor (a b : Word) : bit (a ||| b) i = (bit a i || bit b i) := BitVec.getLsbD_or
  have hand (a b : Word) : bit (a &&& b) i = (bit a i && bit b i) := BitVec.getLsbD_and
  rw [portCfgWord, hor, hor, hand, hmask, bit_put, bit_put, Bool.and_comm (bit v i)]
  congr 1
  · congr 1
    rw [← Bool.and_assoc, ← Bool.and_assoc, ← Bool.decide_and, ← Bool.decide_and]
    exact congrArg (· && _) (decide_eq_decide.mpr (by omega))
  · rw [← Bool.and_assoc, ← Bool.and_assoc, ← Bool.decide_and, ← Bool.decide_and, Nat.sub_zero]
    exact congrArg (· && _) (decide_eq_decide.mpr (by omega))

/-- R49: the fields of PG_PORT_CFGp after a write. -/
theorem portCfgWord_fields (v : Word) {media mode : Nat} (hmedia : media < 4) (hmode : mode < 8) :
    fld (portCfgWord v media mode) 2 0 = mode ∧ fld (portCfgWord v media mode) 5 4 = media ∧
      bit (portCfgWord v media mode) 6 = bit v 6 ∧ bit (portCfgWord v media mode) 7 = bit v 7 ∧
      bit (portCfgWord v media mode) 3 = false ∧ fld (portCfgWord v media mode) 31 8 = 0 := by
  refine ⟨fld_eq_of_bits hmode fun i hi => ?_, fld_eq_of_bits hmedia fun i hi => ?_, ?_, ?_, ?_,
    fld_eq_of_bits (Nat.two_pow_pos _) fun i hi => ?_⟩
  · interval_cases i <;> simp [bit_portCfgWord]
  · interval_cases i <;> simp [bit_portCfgWord]
  · simp [bit_portCfgWord]
  · simp [bit_portCfgWord]
  · simp [bit_portCfgWord]
  · have h : ¬ (8 + i = 6 ∨ 8 + i = 7) ∧ ¬ (4 ≤ 8 + i ∧ 8 + i < 6) ∧ ¬ 8 + i < 3 := by omega
    simp [bit_portCfgWord, h]

theorem becomes_portCfgWrite {s : State} {pg : Fin 8} (r : Req) (p : Fin 8) (v : Word) (ho : s.Open (domPg pg)) :
    Becomes (.portCfgWrite r pg p v) s (s.writePortCfg pg p v) :=
  becomes_of_access (f := fun s => s.writePortCfg pg p v) rfl ho

/-- R49: MODE as a write leaves it. -/
def State.cfgMode (s : State) (pg p : Nat) (v : Word) : Nat :=
  if fld v 2 0 ≤ 5 ∧ ∀ u : Fin 4, s.lpEn (32 * pg + 4 * p + u) = false then fld v 2 0
  else fld (s.rg .pgPortCfg pg p) 2 0

/-- R49: MEDIA as a write leaves it. -/
def State.cfgMedia (s : State) (pg p : Nat) (v : Word) : Nat :=
  if fld v 5 4 = 3 then fld (s.rg .pgPortCfg pg p) 5 4 else fld v 5 4

theorem State.cfgMode_lt (s : State) (pg p : Nat) (v : Word) : s.cfgMode pg p v < 8 := by
  unfold State.cfgMode
  split <;> exact fld_lt ..

theorem State.cfgMedia_lt (s : State) (pg p : Nat) (v : Word) : s.cfgMedia pg p v < 4 := by
  unfold State.cfgMedia
  split <;> exact fld_lt ..

/-- R49: what a write of PG_PORT_CFGp stores. -/
theorem State.writePortCfg_eq (s : State) (pg p : Nat) (v : Word) :
    s.writePortCfg pg p v = s.setRg .pgPortCfg pg p (portCfgWord v (s.cfgMedia pg p v) (s.cfgMode pg p v)) := by
  have hmode : (fld v 2 0 ≤ 5 && (List.range 4).all fun u => ! s.lpEn (32 * pg + 4 * p + u)) =
      decide (fld v 2 0 ≤ 5 ∧ ∀ u : Fin 4, s.lpEn (32 * pg + 4 * p + u) = false) := by
    rw [Bool.decide_and]
    refine congrArg (_ && ·) (Bool.eq_iff_iff.mpr ?_)
    simp [Fin.forall_iff]
  have hmedia : (if fld v 5 4 ≤ 2 then fld v 5 4 else fld (s.rg .pgPortCfg pg p) 5 4) = s.cfgMedia pg p v := by
    have hlt : fld v 5 4 < 4 := fld_lt ..
    unfold State.cfgMedia
    by_cases h : fld v 5 4 = 3
    · rw [if_pos h, if_neg (by omega)]
    · rw [if_neg h, if_pos (by omega)]
  simp only [State.writePortCfg, hmode, decide_eq_true_eq, hmedia]
  rfl

/-! ### Sub-ports as link states change them (R54, R55) -/

/-- R55: what a sub-port is as it enters ALIGNING. -/
theorem State.toAligning_port (s : State) (lp : Nat) :
    (s.toAligning lp).port lp = { s.port lp with
      st := .aligning, clearSince := (if (s.port lp).clear then some (s.setLink lp .aligning).mono else none) } := by
  simp [State.toAligning, State.setLink_port, SubPort.clear]

/-- R45, R55: what a sub-port is as it leaves DISABLED, or a HOLD that failed. -/
theorem State.toDown_port (s : State) (lp : Nat) :
    ∃ c, (s.toDown lp).port lp = { s.port lp with
      st := if s.trains lp then .training else .aligning, clearSince := c } := by
  unfold State.toDown
  split
  · exact ⟨_, by rw [State.setLink_port, if_pos rfl]⟩
  · exact ⟨_, s.toAligning_port lp⟩

/-- R42, R51: an enable finds a sub-port that its mode has, and a lane map that is a permutation. -/
def State.enableOk (s : State) (lp : Nat) : Bool := modeHas (s.mode lp) (lp % 4) && lanesOk (s.laneWords lp)

/-- R54, R55: what an enable makes of a sub-port before it starts it. -/
def State.enabled (s : State) (lp : Nat) : SubPort :=
  { s.port lp with
    cfg := s.laneWords lp, taps := s.txTaps lp, cfgErr := ! (s.enableOk lp && s.isActive (domSx (lp / 32))),
    bySx := s.enableOk lp && ! s.isActive (domSx (lp / 32)), byCage := false, byIso := false }

theorem State.enableLp_eq (s : State) (lp : Nat) :
    s.enableLp lp = if s.enableOk lp && s.isActive (domSx (lp / 32)) then (s.setPort lp (s.enabled lp)).toDown lp
      else s.setPort lp (s.enabled lp) := rfl

/-- R54, R55: the sub-port after an enable. -/
theorem State.enableLp_port (s : State) (lp : Nat) :
    ∃ c, (s.enableLp lp).port lp = { s.enabled lp with
      st := if (s.enabled lp).cfgErr then (s.port lp).st else if s.trains lp then .training else .aligning,
      clearSince := c } := by
  have hx : (s.setPort lp (s.enabled lp)).port lp = s.enabled lp := by rw [State.port_setPort, if_pos rfl]
  have ht : (s.setPort lp (s.enabled lp)).trains lp = s.trains lp := rfl
  have herr : (s.enabled lp).cfgErr = ! (s.enableOk lp && s.isActive (domSx (lp / 32))) := rfl
  rw [State.enableLp_eq, herr]
  cases s.enableOk lp && s.isActive (domSx (lp / 32)) with
  | true =>
    obtain ⟨c, hc⟩ := (s.setPort lp (s.enabled lp)).toDown_port lp
    rw [hx, ht] at hc
    exact ⟨c, hc⟩
  | false => exact ⟨(s.enabled lp).clearSince, hx⟩

/-- R55: the last step to UP: it is taken when the conditions have been clear for UP_HOLD and no lane is held back. -/
theorem State.tryUp_eq {s : State} {lp t0 : Nat} (hst : (s.port lp).st = .aligning) (hclear : (s.port lp).clear = true)
    (hsince : (s.port lp).clearSince = some t0) :
    s.tryUp lp = if t0 + s.upHold lp ≤ s.mono ∧ s.laneHeld lp = false then s.setLink lp .up else s := by
  simp [State.tryUp, hst, hclear, hsince]

/-- R55: a fault of a sub-port in UP takes it to HOLD, and no further. -/
theorem State.setLink_hold {s : State} {lp : Nat} (h : (s.port lp).st = .up) : (s.setLink lp .hold).buf = s.buf := by
  simp [State.setLink, h, LinkState.down]

/-! ### The enable of a sub-port (R53-R55) -/

theorem becomes_subPortEnable {s : State} {lp : Fin 256} (r : Req) (v : Word) (ho : s.Open (domPg (lp / 32))) :
    Becomes (.subPortEnable r lp v) s (s.writeMacCtl lp (v ||| flag 15 true)) :=
  becomes_of_access (f := fun s => s.writeMacCtl lp (v ||| flag 15 true)) rfl ho

theorem becomes_subPortDisable {s : State} {lp : Fin 256} (r : Req) (v : Word) (ho : s.Open (domPg (lp / 32))) :
    Becomes (.subPortDisable r lp v) s (s.writeMacCtl lp (v &&& ~~~ flag 15 true)) :=
  becomes_of_access (f := fun s => s.writeMacCtl lp (v &&& ~~~ flag 15 true)) rfl ho

theorem bit_or_flag (v : Word) {i : Nat} (hi : i < 32) : bit (v ||| flag i true) i = true := by
  have h : bit (put i i 1) i = true := by simp [bit_put, hi]
  exact BitVec.getLsbD_or.trans (by rw [show (flag i true).getLsbD i = true from h, Bool.or_true])

theorem bit_andNot_flag (v : Word) {i : Nat} (hi : i < 32) : bit (v &&& ~~~ flag i true) i = false := by
  have h : bit (put i i 1) i = true := by simp [bit_put, hi]
  refine BitVec.getLsbD_and.trans ?_
  rw [BitVec.getLsbD_not, show (flag i true).getLsbD i = true from h, Bool.not_true, Bool.and_false, Bool.and_false]

/-- R53: a write of MAC_LP_CTL that sets EN enables the sub-port. -/
theorem State.writeMacCtl_enable {s : State} {lp : Nat} {v : Word} (hwas : s.lpEn lp = false) (hv : bit v 15 = true) :
    s.writeMacCtl lp v = (s.setRg .macCtl (lp / 32) (lp % 32) (v &&& 0xFFFFBFFF)).enableLp lp := by
  simp [State.writeMacCtl, hwas, hv]

/-- R53: one that clears EN forces the sub-port down, for no other cause. -/
theorem State.writeMacCtl_disable {s : State} {lp : Nat} {v : Word} (hwas : s.lpEn lp = true) (hv : bit v 15 = false) :
    s.writeMacCtl lp v = (s.setRg .macCtl (lp / 32) (lp % 32) (v &&& 0xFFFFBFFF)).forceDown lp
      fun p => { p with cfgErr := false, byCage := false, bySx := false, byIso := false } := by
  simp [State.writeMacCtl, hwas, hv]

/-! ### Flush engines (R57, R225) -/

theorem becomes_portDownFlush {s : State} {u : FlushUnit} (n : Nat) (hlive : s.live = true) (hclk : s.clkOk 144 = true)
    (hdue : s.flushDue u = true) : Becomes (.portDownFlush u n) s (s.flushUnit u n) :=
  becomes_of_act (f := fun s => s.flushUnit u n) rfl (by simp [hlive, hclk, hdue])

/-- R57: a flush that finds no marked head, or is to discard none, does nothing. -/
theorem State.flushUnit_none {s : State} {u : FlushUnit} {n : Nat}
    (h : (flushQueues u).1.find? s.flushHead = none ∨ n = 0) : s.flushUnit u n = s := by
  unfold State.flushUnit
  cases n with
  | zero => rfl
  | succ n =>
    obtain h | h := h
    · simp only [State.flushSome, h]
    · cases h

/-- R57, R225: a flush discards the first marked head that it finds, and goes on. -/
theorem State.flushUnit_succ {s : State} {u : FlushUnit} {q d : Nat} {l : List Nat} (n : Nat)
    (h : (flushQueues u).1.find? s.flushHead = some q) (hq : s.queue q = d :: l) :
    s.flushUnit u (n + 1) = (((s.popQueue q).queueEmptied q).dropDesc d (flushQueues u).2).flushUnit u n := by
  simp only [State.flushUnit, State.flushSome, h, State.discardHead, hq]

/-- R206: the head of a queue leaves it, and no other queue changes. -/
theorem State.queue_popQueue {s : State} {q d : Nat} {l : List Nat} (hq : s.queue q = d :: l) (p : Nat) :
    (s.popQueue q).queue p = if p = q then l else s.queue p := by
  have h : s.popQueue q = (s.setQueue q l).moveUsed q (· - poolCells (s.desc d).pool) := by
    simp only [State.popQueue, hq]
  rw [h]
  exact State.queue_setQueue ..

/-- R238: an emptied queue loses its place in the scheduler, and no queue changes. -/
theorem State.queueEmptied_beside (s : State) (q : Nat) : s.Beside (s.queueEmptied q) := by
  unfold State.queueEmptied
  exact .ite ((State.Beside.foldl (fun _ _ => .ite .of_eq (.refl _)) _ _).after .of_eq) (.refl s)

theorem State.Around.queue {s t : State} (h : s.Around t) : t.queue = s.queue := by
  funext q; rw [State.queue, h.queues, State.queue]

/-- R57: the queues after a discard. -/
theorem State.queue_discarded {s : State} {q d : Nat} {l : List Nat} (hq : s.queue q = d :: l) (reason p : Nat) :
    (((s.popQueue q).queueEmptied q).dropDesc d reason).queue p = if p = q then l else s.queue p := by
  have h : (s.popQueue q).Beside (((s.popQueue q).queueEmptied q).dropDesc d reason) :=
    (State.queueEmptied_beside ..).trans (State.dropDesc_beside ..)
  rw [h.queue, State.queue_popQueue hq]

/-- Settles O7: each write is its operation's equation, and what a discard does after the head has left its queue is
beside the queues. -/
theorem portControl : Obligations.PortControl := by
  refine ⟨fun s r pg p v ho => ?_, fun s r lp v ho hen hst => ?_, fun s r lp v ho hen => ?_,
    fun s u n hlive hclk hdue => ⟨fun hnone => ?_, fun q d l hhead hq => ⟨?_, ?_⟩⟩⟩
  · have hb := becomes_portCfgWrite r p v ho
    rw [State.writePortCfg_eq] at hb
    refine hb.completes ?_
    rw [State.rg_intSweep, State.rg_setRg]
    obtain ⟨hmode, hmedia, h6, h7, h3, h31⟩ := portCfgWord_fields v (s.cfgMedia_lt pg p v) (s.cfgMode_lt pg p v)
    refine ⟨hmode, hmedia, h6, h7, h3, h31, ?_, ?_⟩
    · rw [State.intSweep_ports, State.setRg_ports]
    · rw [State.intSweep_wide, State.setRg_wide]
  · have hb := becomes_subPortEnable r v ho
    rw [State.writeMacCtl_enable hen (bit_or_flag v (by decide))] at hb
    refine hb.completes ?_
    obtain ⟨c, hc⟩ := (s.setRg .macCtl (lp / 32) (lp % 32) ((v ||| flag 15 true) &&& 0xFFFFBFFF)).enableLp_port lp
    rw [State.port_intSweep, hc]
    exact ⟨rfl, rfl, fun herr => if_neg (Bool.eq_false_iff.mp herr)⟩
  · have hb := becomes_subPortDisable r v ho
    rw [State.writeMacCtl_disable hen (bit_andNot_flag v (by decide))] at hb
    refine hb.completes ?_
    rw [State.port_intSweep, State.forceDown_port]
    exact ⟨rfl, rfl, rfl⟩
  · have hb := becomes_portDownFlush n hlive hclk hdue
    rwa [State.flushUnit_none hnone] at hb
  · have hb := becomes_portDownFlush 1 hlive hclk hdue
    rw [State.flushUnit_succ 0 hhead hq, State.flushUnit_none (Or.inr rfl)] at hb
    refine hb.completes ?_
    rw [State.queue_intSweep]
    exact ⟨(State.queue_discarded hq _ q).trans (if_pos rfl),
      fun p hp => (State.queue_discarded hq _ p).trans (if_neg hp)⟩
  · have hb := becomes_portDownFlush (n + 1) hlive hclk hdue
    rwa [State.flushUnit_succ n hhead hq] at hb

/-! ### The events of a link (R45, R54, R55) -/

theorem becomes_trainingComplete {s : State} {lp : Fin 256} (hon : s.pgOn (lp / 32) = true)
    (hst : (s.port lp).st = .training) : Becomes (.trainingComplete lp) s (s.toAligning lp) :=
  becomes_of_act (f := fun s => s.toAligning lp) rfl (by simp [hon, hst])

theorem becomes_alignmentMarkerLock {s : State} {lp : Fin 256} (hon : s.pgOn (lp / 32) = true)
    (hst : (s.port lp).st = .aligning) :
    Becomes (.alignmentMarkerLock lp) s (s.linkConds lp true false false false) :=
  becomes_of_act (f := fun s => s.linkConds lp true false false false) rfl (by simp [hon, hst])

theorem becomes_upHoldExpiry {s : State} {lp : Fin 256} (hon : s.pgOn (lp / 32) = true) :
    Becomes (.upHoldExpiry lp) s (s.tryUp lp) :=
  becomes_of_act (f := fun s => s.tryUp lp) rfl hon

theorem becomes_linkFault {s : State} {lp : Fin 256} (am lf rf hs : Bool) (hon : s.pgOn (lp / 32) = true)
    (hst : (s.port lp).st ≠ .disabled) : Becomes (.linkFault lp am lf rf hs) s (s.linkConds lp am lf rf hs) :=
  becomes_of_act (f := fun s => s.linkConds lp am lf rf hs) rfl (by simp [hon, hst])

theorem becomes_downHoldExpiry {s : State} {lp : Fin 256} (hon : s.pgOn (lp / 32) = true)
    (hst : (s.port lp).st = .hold) (ht : (s.port lp).holdSince + s.downHold lp ≤ s.mono) :
    Becomes (.downHoldExpiry lp) s (s.endHold lp) :=
  becomes_of_act (f := fun s => s.endHold lp) rfl (by simp [hon, hst, ht])

theorem becomes_subPortAutoResume {s : State} {lp : Fin 256} (hon : s.pgOn (lp / 32) = true)
    (hst : (s.port lp).st = .disabled) (hen : s.lpEn lp = true)
    (hby : (s.port lp).bySx = true ∨ (s.port lp).byCage = true) (hiso : (s.port lp).byIso = false)
    (hsx : s.isActive (domSx (lp / 32)) = true)
    (hcage : (s.port lp).byCage = true → (s.cageSt (lp / 4)).powered = true) :
    Becomes (.subPortAutoResume lp) s (s.enableLp lp) := by
  refine becomes_of_act (f := fun s => s.enableLp lp) rfl ?_
  have hpow : (! (s.port lp).byCage || (s.cageSt (lp / 4)).powered) = true := by
    cases hc : (s.port lp).byCage
    · rfl
    · exact hcage hc
  simp only [hon, hst, hen, hiso, hsx, hpow, Or.comm.mp hby, Bool.or_eq_true, Bool.and_eq_true, decide_true,
    Bool.not_false, and_self]

/-- R54, R55: a sub-port with the receiver's conditions as they now stand. -/
def State.withConds (s : State) (lp : Nat) (am lf rf hs : Bool) : SubPort :=
  let p := { s.port lp with amLock := am, localFault := lf, remoteFault := rf, hiSer := hs }
  { p with
    clearSince := if p.clear && p.st = .aligning then some (p.clearSince.getD s.mono) else none,
    holdSince := if p.st = .up && ! p.clear then s.mono else p.holdSince }

/-- R55: what follows from the conditions: HOLD out of UP, or UP out of ALIGNING. -/
theorem State.linkConds_eq (s : State) (lp : Nat) (am lf rf hs : Bool) :
    s.linkConds lp am lf rf hs =
      if (s.port lp).st = .up && ! (s.withConds lp am lf rf hs).clear then
        (s.setPort lp (s.withConds lp am lf rf hs)).setLink lp .hold
      else (s.setPort lp (s.withConds lp am lf rf hs)).tryUp lp := rfl

/-- R55: a sub-port in ALIGNING whose conditions are clear enters UP once they have been so for UP_HOLD. -/
theorem State.linkConds_lock {s : State} {lp : Nat} (hst : (s.port lp).st = .aligning) :
    (s.linkConds lp true false false false).port lp = { s.withConds lp true false false false with
      st := if (s.port lp).clearSince.getD s.mono + s.upHold lp ≤ s.mono ∧ s.laneHeld lp = false then .up
        else .aligning } := by
  have hx : (s.setPort lp (s.withConds lp true false false false)).port lp = s.withConds lp true false false false := by
    rw [State.port_setPort, if_pos rfl]
  have hheld : (s.setPort lp (s.withConds lp true false false false)).laneHeld lp = s.laneHeld lp := by
    rw [State.laneHeld, hx, State.laneHeld]
    rfl
  have hclear : (s.withConds lp true false false false).clear = true := rfl
  have hxst : (s.withConds lp true false false false).st = .aligning := hst
  have hsince : (s.withConds lp true false false false).clearSince = some ((s.port lp).clearSince.getD s.mono) := by
    simp [State.withConds, SubPort.clear, hst]
  have hup : (s.setPort lp (s.withConds lp true false false false)).upHold lp = s.upHold lp := rfl
  have hmono : (s.setPort lp (s.withConds lp true false false false)).mono = s.mono := rfl
  rw [State.linkConds_eq, if_neg (by simp [hst]),
    State.tryUp_eq (by rw [hx, hxst]) (by rw [hx, hclear]) (by rw [hx, hsince]), hheld, hup, hmono]
  by_cases h : (s.port lp).clearSince.getD s.mono + s.upHold lp ≤ s.mono ∧ s.laneHeld lp = false
  · rw [if_pos h, if_pos h, State.setLink_port, if_pos rfl, hx]
  · rw [if_neg h, if_neg h, hx, ← hxst]

/-- Settles O8: each event is a move between link states, of which the sub-port keeps what it remembers. -/
theorem linkStates : Obligations.LinkStates := by
  refine fun s lp hon => ⟨fun hst => ?_, fun hst => ?_, fun t0 hst hclear hsince ht hheld => ?_,
    fun am lf rf hs hst hc => ?_, fun hst ht => ?_, fun hst hen hby hiso hsx hcage => ?_⟩
  · refine (becomes_trainingComplete hon hst).completes ?_
    rw [State.port_intSweep, State.toAligning_port]
  · refine (becomes_alignmentMarkerLock hon hst).completes ?_
    rw [State.port_intSweep, State.linkConds_lock hst]
    exact ⟨rfl, rfl, rfl, rfl, rfl⟩
  · refine (becomes_upHoldExpiry hon).completes ?_
    rw [State.port_intSweep, State.tryUp_eq hst hclear hsince, if_pos ⟨ht, hheld⟩, State.setLink_port, if_pos rfl]
  · have hx : (s.setPort lp (s.withConds lp am lf rf hs)).port lp = s.withConds lp am lf rf hs := by
      rw [State.port_setPort, if_pos rfl]
    have hclear : (s.withConds lp am lf rf hs).clear = false := hc
    refine (becomes_linkFault am lf rf hs hon (by simp [hst])).completes ?_
    rw [State.port_intSweep, State.intSweep_buf, State.linkConds_eq, if_pos (by simp [hst, hclear])]
    refine ⟨?_, State.setLink_hold (by rw [hx]; exact hst)⟩
    rw [State.setLink_port, if_pos rfl]
  · refine (becomes_downHoldExpiry hon hst ht).completes ?_
    rw [State.port_intSweep, State.endHold]
    split
    · rw [State.setLink_port, if_pos rfl]
    · obtain ⟨c, hc⟩ := s.toDown_port lp
      rw [hc]
  · refine (becomes_subPortAutoResume hon hst hen hby hiso hsx hcage).completes ?_
    obtain ⟨c, hc⟩ := s.enableLp_port lp
    have herr : (s.enabled lp).cfgErr = ! s.enableOk lp := by simp [State.enabled, hsx]
    have hbySx : (s.enabled lp).bySx = false := by simp [State.enabled, hsx]
    rw [State.port_intSweep, hc, hst]
    refine ⟨rfl, hbySx, rfl, herr, ?_⟩
    cases hok : s.enableOk lp with
    | true => rw [herr, hok, ← State.enableOk, hok]; rfl
    | false => rw [herr, hok, ← State.enableOk, hok]; rfl

/-! ### What the interrupts leave of cages (R283-R285) -/

@[simp] theorem State.cage_intSweep (s : State) : s.intSweep.cage = s.cage := by
  funext c; simp [State.cage]

@[simp] theorem State.bus_intSweep (s : State) : s.intSweep.bus = s.bus := by
  funext n; simp [State.bus]

theorem IntAcc.rise_out (a : IntAcc) (h now v : Nat) : a.out <:+ (a.rise h now v).out := by
  unfold IntAcc.rise
  split
  · exact List.suffix_cons ..
  · exact List.suffix_refl _

theorem IntAcc.unpend_out (a : IntAcc) (h now v : Nat) : a.out <:+ (a.unpend h now v).out := by
  unfold IntAcc.unpend
  split
  · exact (IntAcc.mk (a.f.setPba v false) a.out).rise_out h now v
  · exact List.suffix_refl _

theorem IntAcc.foldl_out {α : Type} {f : IntAcc → α → IntAcc} (h : ∀ (a : IntAcc) x, a.out <:+ (f a x).out) (l : List α)
    (a : IntAcc) : a.out <:+ (l.foldl f a).out :=
  List.foldlRecOn l f (motive := fun b => a.out <:+ b.out) (List.suffix_refl _) fun b hb x _ => hb.trans (h b x)

theorem State.sweepHost_out (s : State) (h : Nat) (out : List Out) : out <:+ (s.sweepHost h out).out := by
  unfold State.sweepHost
  extract_lets f lvl up f1 vs f2 a1 f3 a2 a3 on
  have h2 : out <:+ a2.out := by
    change out <:+ if f2.intx then .intx h false :: out else out
    split
    · exact List.suffix_cons ..
    · exact List.suffix_refl _
  have h3 : a2.out <:+ a3.out := by
    change a2.out <:+ (if a2.f.pba = 0 then a2 else _).out
    split
    · exact List.suffix_refl _
    · exact IntAcc.foldl_out (fun a v => a.unpend_out h s.mono v) _ a2
  split
  · split
    · exact h2.trans h3
    · refine h2.trans (h3.trans (IntAcc.foldl_out (fun a i => ?_) _ a3))
      split
      · split
        · exact IntAcc.rise_out ..
        · exact List.suffix_refl _
      · exact List.suffix_refl _
  · split
    · exact List.suffix_refl _
    · exact List.suffix_cons ..

/-- R284, R285: the interrupts take back nothing that has left the block. -/
theorem State.intSweep_out (s : State) : s.out <:+ s.intSweep.out := by
  change s.out <:+ s.swept.2
  unfold State.swept
  split
  · exact (s.sweepHost_out 0 s.out).trans (s.sweepHost_out 1 _)
  · exact List.suffix_refl _

theorem State.mem_intSweep_out {s : State} {o : Out} (h : o ∈ s.out) : o ∈ s.intSweep.out := s.intSweep_out.subset h

/-! ### One cage (R55, R63, R66) -/

/-- What a command of one cage leaves: the other cages, and of the buses all but the output writes that wait. -/
structure State.OneCage (c : Nat) (s t : State) : Prop extends s.Calm t where
  others : ∀ x, x ≠ c → t.cage x = s.cage x
  buses : ∀ n, ∃ w, t.bus n = { s.bus n with writes := w }

theorem State.OneCage.trans {c : Nat} {s t u : State} (h : s.OneCage c t) (g : t.OneCage c u) : s.OneCage c u := by
  refine ⟨h.toCalm.trans g.toCalm, fun x hx => (g.others x hx).trans (h.others x hx), fun n => ?_⟩
  obtain ⟨w, hw⟩ := h.buses n
  obtain ⟨w', hw'⟩ := g.buses n
  exact ⟨w', by rw [hw', hw]⟩

theorem State.Around.oneCage {s t : State} (h : s.Around t) (c : Nat) : s.OneCage c t :=
  ⟨h.toCalm, fun x _ => by rw [State.cage, h.cages, State.cage],
    fun n => ⟨(s.bus n).writes, by rw [State.bus, h.buses, ← State.bus]⟩⟩

theorem State.setCage_oneCage (s : State) (c : Nat) (x : Cage) : s.OneCage c (s.setCage c x) :=
  ⟨⟨fun _ _ => rfl, List.suffix_refl _⟩, fun y hy => by rw [State.cage_setCage, if_neg hy],
    fun n => ⟨(s.bus n).writes, rfl⟩⟩

theorem State.setWrites_oneCage (s : State) (n c : Nat) (l : List Nat) :
    s.OneCage c (s.setBus n { s.bus n with writes := l }) := by
  refine ⟨⟨fun _ _ => rfl, List.suffix_refl _⟩, fun _ _ => rfl, fun m => ?_⟩
  rw [State.bus_setBus]
  by_cases hm : m = n
  · subst hm; exact ⟨l, if_pos rfl⟩
  · exact ⟨(s.bus m).writes, if_neg hm⟩

theorem State.OneCage.ite {s a b : State} {c : Nat} {p : Prop} [Decidable p] (ha : s.OneCage c a) (hb : s.OneCage c b) :
    s.OneCage c (if p then a else b) := by split <;> assumption

theorem State.OneCage.refl (s : State) (c : Nat) : s.OneCage c s := (State.Around.refl s).oneCage c

theorem State.cageEvt_around (s : State) (c i : Nat) : s.Around (s.cageEvt c i) :=
  (s.orRg_beside (not_cageWord_cageStat _ _) _).toAround

theorem State.cageDown_around (s : State) (c : Nat) : s.Around (s.cageDown c) :=
  .foldl (fun t _ => .ite (t.forceDown_around ..) (.refl t)) _ s

theorem State.queueWrite_oneCage (s : State) (c : Nat) : s.OneCage c (s.queueWrite c) := by
  unfold State.queueWrite
  exact (s.setCage_oneCage c _).trans (.ite (State.setWrites_oneCage ..) (.refl ..))

/-- R63: an output write that waits is no part of the cage. -/
theorem State.queueWrite_cage (s : State) (c : Nat) :
    (s.queueWrite c).cage c = { s.cage c with want := s.cageWant c } := by
  unfold State.queueWrite
  extract_lets w x s1 b k
  have h1 : s1.cage c = { s.cage c with want := s.cageWant c } := by rw [State.cage_setCage, if_pos rfl]
  split
  · exact h1
  · exact h1

theorem State.cageTo_oneCage (s : State) (c : Nat) (st : CageState) : s.OneCage c (s.cageTo c st) := by
  unfold State.cageTo
  extract_lets x gone s1 timed y goes s2 s3
  have h1 : s.Around s1 := .ite (s.cageDown_around c) (.refl s)
  have h3 : s2.Around s3 := .ite (s2.cageEvt_around c 12) (.refl s2)
  exact (h1.oneCage c).trans ((s1.setCage_oneCage c _).trans ((h3.oneCage c).trans (s3.queueWrite_oneCage c)))

/-- R66: a cage in another state, its times and its outputs left out. -/
def Cage.entered (x : Cage) (st : CageState) : Cage :=
  { x with st := st, earlier := if st = .releaseReq then x.st else x.earlier }

/-- A cage with nothing of its times and of the outputs that it is to have: its state, what its polls have shown of it,
and the outputs last written. -/
def Cage.shown (x : Cage) : Cage :=
  { x with want := 0, settle := none, armed := false, pulse := false, off := false, reqSince := 0 }

/-- R66: what a cage shows. -/
def State.shown (s : State) (c : Nat) : Cage := (s.cage c).shown

theorem State.Around.cage {s t : State} (h : s.Around t) : t.cage = s.cage := by
  funext c; rw [State.cage, h.cages, State.cage]

theorem State.Around.shown {s t : State} (h : s.Around t) (c : Nat) : t.shown c = s.shown c := by
  rw [State.shown, h.cage, State.shown]

@[simp] theorem State.shown_setCage (s : State) (c : Nat) (x : Cage) : (s.setCage c x).shown c = x.shown := by
  rw [State.shown, State.cage_setCage, if_pos rfl]

@[simp] theorem State.shown_cageEvt (s : State) (c i x : Nat) : (s.cageEvt c i).shown x = s.shown x :=
  (s.cageEvt_around c i).shown x

@[simp] theorem State.shown_queueWrite (s : State) (c : Nat) : (s.queueWrite c).shown c = s.shown c := by
  rw [State.shown, State.queueWrite_cage]
  rfl

/-- R66: a cage that moves to a state keeps what its polls have shown. -/
@[simp] theorem State.shown_cageTo (s : State) (c : Nat) (st : CageState) :
    (s.cageTo c st).shown c = (s.shown c).entered st := by
  unfold State.cageTo
  extract_lets x gone s1 timed y goes s2 s3
  have h1 : s.Around s1 := .ite (s.cageDown_around c) (.refl s)
  have h3 : s2.Around s3 := .ite (s2.cageEvt_around c 12) (.refl s2)
  have h2 : s2.shown c = (s1.shown c).entered st := State.shown_setCage ..
  rw [State.shown_queueWrite, h3.shown, h2, h1.shown]

theorem State.cageTo_st (s : State) (c : Nat) (st : CageState) : ((s.cageTo c st).cage c).st = st :=
  congrArg Cage.st (s.shown_cageTo c st)

/-! ### What a poll makes of a cage (R60, R66) -/

/-- R67: AUTO_ON of a cage. -/
def State.autoOn (s : State) (c : Nat) : Bool := bit (s.rg .cageCtl (c / 8) (c % 8)) 0

@[simp] theorem State.autoOn_cageEvt (s : State) (c i x : Nat) : (s.cageEvt c i).autoOn x = s.autoOn x := by
  have h (n m k j : Nat) : regAddr .cageCtl n 0 k ≠ regAddr .cageStat m 0 j := by
    change 0x4030000 + n * 0x100000 + 0x100 + 0 * 0 + k * 0x10 ≠ 0x4030000 + m * 0x100000 + 0x108 + 0 * 0 + j * 0x10
    omega
  rw [State.autoOn, State.cageEvt, State.orRg, State.rg_setRg_of_ne (h _ _ _ _), ← State.autoOn]

/-- R66: presence of a cage as polled. -/
def Cage.presence (x : Cage) (p auto : Bool) : Cage :=
  if x.st = .empty then if p then { x with prsSeen := p }.entered .detect else { x with prsSeen := p }
  else if x.st = .detect then
    if p then { x with prsSeen := p, prs := true }.entered (if auto then .powering else .safe)
    else { x with prsSeen := p }.entered .empty
  else if ! p && ! x.prsSeen && x.prs then { x with prsSeen := p, prs := false }.entered .empty
  else { x with prsSeen := p }

/-- R66: a counted press. -/
def Cage.press (x : Cage) : Cage :=
  match x.st with
  | .lowPower => x.entered .releaseReq
  | .highPower => x.entered .releaseReq
  | .releaseReq => x.entered x.earlier
  | .safe => x.entered .powering
  | _ => x

/-- R66: a press counts once, when two polls agree. -/
def Cage.pressed (x : Cage) (p : Bool) : Bool := (if p == x.btnSeen then p else x.btn) && ! x.btn

/-- R66: the button of a cage as polled. -/
def Cage.button (x : Cage) (p : Bool) : Cage :=
  let y := { x with btnSeen := p, btn := if p == x.btnSeen then p else x.btn }
  if x.pressed p then y.press else y

/-- R60, R66: what an input byte of a cage makes of it. -/
def Cage.input (x : Cage) (b : Nat) (auto : Bool) : Cage :=
  ({ x with modInt := b / 2 % 2 == 0 }.presence (b % 2 == 0) auto).button (b / 4 % 2 == 0)

theorem State.shown_cagePresence (s : State) (c : Nat) (p : Bool) :
    (s.cagePresence c p).shown c = (s.shown c).presence p (s.autoOn c) := by
  have hst : (s.shown c).st = (s.cage c).st := rfl
  have hseen : (s.shown c).prsSeen = (s.cage c).prsSeen := rfl
  have hprs : (s.shown c).prs = (s.cage c).prs := rfl
  have hset : (s.setCage c { s.cage c with prsSeen := p }).shown c = { s.shown c with prsSeen := p } := by
    rw [State.shown_setCage]; rfl
  have hprs' (b : Bool) : ((s.setCage c { s.cage c with prsSeen := p }).setCage c
      { (s.setCage c { s.cage c with prsSeen := p }).cage c with prs := b }).shown c =
        { s.shown c with prsSeen := p, prs := b } := by
    rw [State.shown_setCage, State.cage_setCage, if_pos rfl]; rfl
  simp only [State.cagePresence, Cage.presence, hst, hseen, hprs]
  split
  · split
    · rw [State.shown_cageTo, hset]; rfl
    · exact hset
  · split
    · split
      · rw [State.cageIn, State.shown_cageTo, State.shown_cageEvt, hprs', ← State.autoOn, State.autoOn_cageEvt]
        rfl
      · rw [State.shown_cageTo, hset]; rfl
    · split
      · rw [State.shown_cageTo, State.shown_cageEvt, hprs']; rfl
      · exact hset

theorem State.shown_cagePress (s : State) (c : Nat) : (s.cagePress c).shown c = (s.shown c).press := by
  have hcage : (s.cageEvt c 10).cage c = s.cage c := congrFun (s.cageEvt_around c 10).cage c
  have hst : (s.shown c).st = (s.cage c).st := rfl
  unfold State.cagePress Cage.press
  dsimp only
  rw [hcage, hst]
  cases (s.cage c).st
  case lowPower | highPower | safe => rw [State.shown_cageTo, State.shown_cageEvt]
  case releaseReq => rw [State.shown_cageTo, State.shown_cageEvt]; rfl
  all_goals exact State.shown_cageEvt ..

theorem State.shown_cageButton (s : State) (c : Nat) (p : Bool) :
    (s.cageButton c p).shown c = (s.shown c).button p := by
  unfold State.cageButton Cage.button
  dsimp only
  have hp : (s.shown c).pressed p = ((if p == (s.cage c).btnSeen then p else (s.cage c).btn) && ! (s.cage c).btn) := rfl
  rw [hp]
  by_cases h : ((if p == (s.cage c).btnSeen then p else (s.cage c).btn) && ! (s.cage c).btn) = true
  · rw [if_pos h, if_pos h, State.shown_cagePress, State.shown_setCage]; rfl
  · rw [if_neg h, if_neg h, State.shown_setCage]; rfl

theorem State.autoOn_ite (s : State) (p : Prop) [Decidable p] (c i x : Nat) :
    (if p then s.cageEvt c i else s).autoOn x = s.autoOn x := by
  split
  · exact State.autoOn_cageEvt ..
  · rfl

/-- R66: what an input byte of a cage does to it. -/
theorem State.shown_cageInput (s : State) (c b : Nat) :
    (s.cageInput c b).shown c = (s.shown c).input b (s.autoOn c) := by
  unfold State.cageInput
  extract_lets int s1 x s2 s3
  have h1 : s.Around s1 := .ite (s.cageEvt_around c 11) (.refl s)
  have h2 : s2.shown c = { s.shown c with modInt := int } := by
    rw [State.shown_setCage, ← h1.shown]; rfl
  have ha : s2.autoOn c = s.autoOn c := s.autoOn_ite _ c 11 c
  rw [State.shown_queueWrite, State.shown_cageButton, State.shown_cagePresence, h2, ha]
  rfl

theorem State.cagePresence_oneCage (s : State) (c : Nat) (p : Bool) : s.OneCage c (s.cagePresence c p) := by
  have hset (u : State) (x : Cage) := u.setCage_oneCage c x
  have hevt (u : State) (i : Nat) := (u.cageEvt_around c i).oneCage c
  have hto (u : State) (st : CageState) := u.cageTo_oneCage c st
  unfold State.cagePresence State.cageIn
  refine (hset s _).trans (.ite (.ite (hto _ _) (.refl ..)) (.ite (.ite ?_ (hto _ _)) (.ite ?_ (.refl ..))))
  · exact (hset _ _).trans ((hevt _ _).trans (hto _ _))
  · exact (hset _ _).trans ((hevt _ _).trans (hto _ _))

theorem State.cagePress_oneCage (s : State) (c : Nat) : s.OneCage c (s.cagePress c) := by
  unfold State.cagePress
  refine ((s.cageEvt_around c 10).oneCage c).trans ?_
  dsimp only
  split
  case h_5 => exact .refl ..
  all_goals exact State.cageTo_oneCage ..

theorem State.cageButton_oneCage (s : State) (c : Nat) (p : Bool) : s.OneCage c (s.cageButton c p) := by
  unfold State.cageButton
  exact (s.setCage_oneCage c _).trans (.ite (State.cagePress_oneCage ..) (.refl ..))

theorem State.cageInput_oneCage (s : State) (c b : Nat) : s.OneCage c (s.cageInput c b) := by
  unfold State.cageInput
  extract_lets int s1 x s2 s3
  have h1 : s.OneCage c s1 := .ite ((s.cageEvt_around c 11).oneCage c) (.refl s c)
  exact h1.trans <| (State.setCage_oneCage ..).trans ((State.cagePresence_oneCage ..).trans
    ((State.cageButton_oneCage ..).trans (State.queueWrite_oneCage ..)))

/-! ### Expanders that fail and answer (R64) -/

/-- R64: how often an expander has failed in a row. -/
def CageBus.failsOf (b : CageBus) (k : Nat) : Nat := tget (fun _ => 0) b.fails k

/-- R64: a bus, one of whose expanders has failed: it is tried again, and lost after three retries. -/
def CageBus.failed (b : CageBus) (k : Nat) : CageBus :=
  let b' := { b with fails := tset (fun _ => 0) b.fails k (b.failsOf k + 1), retry := b.retry ++ [k] }
  if b.failsOf k + 1 ≤ 3 || b.lost.contains k then b'
  else { b' with lost := b.lost ++ [k], writes := b.writes.filter (· != k) }

theorem CageBus.failsOf_failed (b : CageBus) (k j : Nat) :
    (b.failed k).failsOf j = if j = k then b.failsOf k + 1 else b.failsOf j := by
  unfold CageBus.failed
  dsimp only
  have h := tget_tset (fun _ => 0) b.fails k j (b.failsOf k + 1)
  split
  · exact h
  · exact h

theorem CageBus.retry_failed (b : CageBus) (k : Nat) : (b.failed k).retry = b.retry ++ [k] := by
  unfold CageBus.failed
  dsimp only
  split <;> rfl

theorem CageBus.lost_failed (b : CageBus) (k j : Nat) :
    (b.failed k).lost.contains j = (b.lost.contains j || decide (j = k) && decide (3 ≤ b.failsOf k)) := by
  have hf : decide (3 ≤ b.failsOf k) = ! decide (b.failsOf k + 1 ≤ 3) := by
    rw [← decide_not]
    exact decide_eq_decide.mpr (by omega)
  rw [hf]
  unfold CageBus.failed
  dsimp only
  cases decide (b.failsOf k + 1 ≤ 3) with
  | true => simp
  | false =>
    cases hl : b.lost.contains k with
    | true =>
      by_cases hj : j = k
      · subst hj; simpa using hl
      · simp [hj]
    | false => simp

/-- R63, R64: a failure changes nothing else of a bus, but for the output writes that wait. -/
theorem CageBus.failed_rest (b : CageBus) (k : Nat) :
    (b.failed k).lastPoll = b.lastPoll ∧ (b.failed k).go = b.go := by
  unfold CageBus.failed
  dsimp only
  split <;> exact ⟨rfl, rfl⟩

/-- R64: a failure raises the event of the cage bus where the expander is lost by it. -/
theorem State.expFail_eq (s : State) (n k : Nat) :
    s.expFail n k =
      if (s.bus n).failsOf k + 1 ≤ 3 || (s.bus n).lost.contains k then s.setBus n ((s.bus n).failed k)
      else (s.setBus n ((s.bus n).failed k)).raise
        { src := 48 + n, cls := .orange, code := 0x0E, info := put 26 24 n ||| put 1 0 k } := by
  unfold State.expFail CageBus.failed
  by_cases h : ((s.bus n).failsOf k + 1 ≤ 3 || (s.bus n).lost.contains k) = true
  · simp only [if_pos h]
    exact if_pos h
  · simp only [if_neg h]
    exact if_neg h

/-- R64, R344: an expander's failure is the bus's, beside the event that the loss of it raises. -/
theorem State.expFail_around {s : State} {n : Nat} (hn : n < 8) (hr : s.reactions (48 + n) .orange < 16) (k : Nat) :
    (s.setBus n ((s.bus n).failed k)).Around (s.expFail n k) := by
  rw [State.expFail_eq]
  exact .ite (.refl _) (State.raise_cage_around (s := s.setBus n _) hn hr _ _)

/-- R64: an expander that answers is no longer lost, and has not failed. -/
def CageBus.answered (b : CageBus) (k : Nat) : CageBus :=
  { b with
    fails := tset (fun _ => 0) b.fails k 0, lost := b.lost.filter (· != k),
    writes := if b.lost.contains k && ! b.writes.contains k then b.writes ++ [k] else b.writes }

theorem CageBus.failsOf_answered (b : CageBus) (k j : Nat) :
    (b.answered k).failsOf j = if j = k then 0 else b.failsOf j := by
  have h := tget_tset (fun _ => 0) b.fails k j 0
  exact h

theorem CageBus.lost_answered (b : CageBus) (k j : Nat) :
    (b.answered k).lost.contains j = (b.lost.contains j && decide (j ≠ k)) := by
  refine Bool.eq_iff_iff.mpr ?_
  simp [CageBus.answered]

/-! ### A poll, expander by expander (R63, R64) -/

theorem State.Calm.reactions {s t : State} (h : s.Calm t) {n : Nat} (hn : n < 8) (x : FClass) :
    t.reactions (48 + n) x = s.reactions (48 + n) x := by
  have hw : t.rg .fltReact 0 (48 + n) = s.rg .fltReact 0 (48 + n) := h.words _ (cageWord_fltReact (by omega))
  unfold State.reactions
  rw [hw]

theorem State.Calm.autoOn {s t : State} (h : s.Calm t) {c : Nat} (hc : c < 64) : t.autoOn c = s.autoOn c := by
  have hw : t.rg .cageCtl (c / 8) (c % 8) = s.rg .cageCtl (c / 8) (c % 8) :=
    h.words _ (cageWord_cageCtl (by omega) (by omega))
  rw [State.autoOn, hw, ← State.autoOn]

/-- What an expander's part of a poll leaves of another: its two cages, and what the bus holds of it. -/
structure State.OtherExp (n k : Nat) (s t : State) : Prop extends s.Calm t where
  cages : ∀ j < 2, t.cage (8 * n + 2 * k + j) = s.cage (8 * n + 2 * k + j)
  fails : (t.bus n).failsOf k = (s.bus n).failsOf k
  lost : (t.bus n).lost.contains k = (s.bus n).lost.contains k
  lastPoll : (t.bus n).lastPoll = (s.bus n).lastPoll

theorem State.OtherExp.refl (n k : Nat) (s : State) : s.OtherExp n k s := ⟨.refl s, fun _ _ => rfl, rfl, rfl, rfl⟩

theorem State.OtherExp.trans {n k : Nat} {s t u : State} (h : s.OtherExp n k t) (g : t.OtherExp n k u) :
    s.OtherExp n k u :=
  ⟨h.toCalm.trans g.toCalm, fun j hj => (g.cages j hj).trans (h.cages j hj), g.fails.trans h.fails,
    g.lost.trans h.lost, g.lastPoll.trans h.lastPoll⟩

theorem State.Around.bus {s t : State} (h : s.Around t) : t.bus = s.bus := by
  funext n; rw [State.bus, h.buses, State.bus]

theorem State.Around.otherExp {s t : State} (h : s.Around t) (n k : Nat) : s.OtherExp n k t :=
  ⟨h.toCalm, fun j _ => by rw [h.cage], by rw [h.bus], by rw [h.bus], by rw [h.bus]⟩

theorem State.OneCage.otherExp {c n k : Nat} {s t : State} (h : s.OneCage c t) (h0 : c ≠ 8 * n + 2 * k)
    (h1 : c ≠ 8 * n + 2 * k + 1) : s.OtherExp n k t := by
  obtain ⟨w, hw⟩ := h.buses n
  exact ⟨h.toCalm, fun j hj => h.others _ (by omega), by rw [hw]; rfl, by rw [hw], by rw [hw]⟩

theorem State.setBus_otherExp {s : State} {n k : Nat} {b : CageBus} (hf : b.failsOf k = (s.bus n).failsOf k)
    (hl : b.lost.contains k = (s.bus n).lost.contains k) (hp : b.lastPoll = (s.bus n).lastPoll) :
    s.OtherExp n k (s.setBus n b) := by
  have hb : (s.setBus n b).bus n = b := by rw [State.bus_setBus, if_pos rfl]
  refine ⟨⟨fun _ _ => rfl, List.suffix_refl _⟩, fun _ _ => rfl, ?_, ?_, ?_⟩ <;> rw [hb]
  exacts [hf, hl, hp]

theorem State.busFail_beside (s : State) (n : Nat) (e : BusEnd) : s.Beside (s.busFail n e) :=
  .ite (s.emit_beside _) (.refl s)

/-- R60, R63: the transaction that reads an expander is on the bus. -/
def State.pollRead (s : State) (n k : Nat) : State :=
  s.emit (.i2c n (s.expAddr n k) [BitVec.ofNat 8 (fld (s.rg .cageExpCfg n) 31 24)] 2)

theorem State.pollExp_failed (s : State) (n k : Nat) (e : BusEnd) :
    s.pollExp n k (.failed e) = ((s.pollRead n k).busFail n e).expFail n k := rfl

theorem State.pollExp_data (s : State) (n k : Nat) (w : BitVec 16) :
    s.pollExp n k (.data w) = (((s.pollRead n k).setBus n (((s.pollRead n k).bus n).answered k)).cageInput
      (8 * n + 2 * k) (w.toNat % 256)).cageInput (8 * n + 2 * k + 1) (w.toNat / 256) := rfl

theorem State.pollRead_around (s : State) (n k : Nat) : s.Around (s.pollRead n k) := (s.emit_beside _).toAround

theorem State.pollExp_otherExp {s : State} {n i k : Nat} (hn : n < 8) (hi : i ≠ k)
    (hr : s.reactions (48 + n) .orange < 16) (input : ExpRead) : s.OtherExp n k (s.pollExp n i input) := by
  have h1 := s.pollRead_around n i
  cases input with
  | failed e =>
    have h2 := h1.trans ((s.pollRead n i).busFail_beside n e).toAround
    have hr2 : ((s.pollRead n i).busFail n e).reactions (48 + n) .orange < 16 := by rwa [h2.reactions hn]
    rw [State.pollExp_failed]
    refine (h2.otherExp n k).trans (.trans (State.setBus_otherExp ?_ ?_ ?_)
      ((State.expFail_around hn hr2 i).otherExp n k))
    · rw [CageBus.failsOf_failed, if_neg hi.symm]
    · rw [CageBus.lost_failed, decide_eq_false hi.symm, Bool.false_and, Bool.or_false]
    · exact (CageBus.failed_rest _ i).1
  | data w =>
    rw [State.pollExp_data]
    have h2 : (s.pollRead n i).OtherExp n k
        ((s.pollRead n i).setBus n (((s.pollRead n i).bus n).answered i)) := by
      refine State.setBus_otherExp ?_ ?_ rfl
      · rw [CageBus.failsOf_answered, if_neg hi.symm]
      · rw [CageBus.lost_answered, decide_eq_true hi.symm, Bool.and_true]
    have h3 (u : State) (b : Nat) : u.OtherExp n k (u.cageInput (8 * n + 2 * i) b) :=
      (u.cageInput_oneCage _ b).otherExp (by omega) (by omega)
    have h4 (u : State) (b : Nat) : u.OtherExp n k (u.cageInput (8 * n + 2 * i + 1) b) :=
      (u.cageInput_oneCage _ b).otherExp (by omega) (by omega)
    exact (h1.otherExp n k).trans (h2.trans ((h3 _ _).trans (h4 _ _)))

/-- R63: what a poll reads of an expander. -/
def pollInput (inputs : List ExpRead) (k : Nat) : ExpRead := (inputs[k]?).getD (.failed .nack)

theorem State.pollExps_otherExp {s : State} {n k : Nat} (hn : n < 8) (hr : s.reactions (48 + n) .orange < 16)
    (inputs : List ExpRead) {l : List Nat} (hl : k ∉ l) :
    s.OtherExp n k (l.foldl (fun st i => st.pollExp n i (pollInput inputs i)) s) := by
  refine List.foldlRecOn l _ (motive := fun t => s.OtherExp n k t) (.refl n k s) fun t ht i hi => ht.trans ?_
  exact State.pollExp_otherExp hn (fun (h : i = k) => hl (h ▸ hi)) (by rwa [ht.reactions hn]) _

/-- R63: a group's bus as a poll begins. -/
def State.pollStart (s : State) (n : Nat) : State := s.setBus n { s.bus n with lastPoll := s.mono, retry := [] }

/-- R63, R64: a poll, seen from one expander: the others' parts leave what is the expander's. -/
theorem State.poll_at {s : State} {n : Nat} (hn : n < 8) (hr : s.reactions (48 + n) .orange < 16)
    (inputs : List ExpRead) (k : Fin 4) :
    ∃ u, (s.pollStart n).OtherExp n k u ∧ u.reactions (48 + n) .orange < 16 ∧
      (u.pollExp n k (pollInput inputs k)).OtherExp n k (s.poll n inputs) := by
  have hsplit : List.range 4 = List.range k ++ k.val :: (List.range 4).drop (k + 1) := by revert k; decide
  have hbefore : k.val ∉ List.range k := by simp
  have hafter : k.val ∉ (List.range 4).drop (k + 1) := by revert k; decide
  have hpoll : s.poll n inputs =
      (List.range 4).foldl (fun st i => st.pollExp n i (pollInput inputs i)) (s.pollStart n) := rfl
  rw [hpoll, hsplit, List.foldl_append, List.foldl_cons]
  have hu := State.pollExps_otherExp (s := s.pollStart n) hn hr inputs hbefore
  have hur := hu.reactions hn .orange
  have hv := State.pollExp_otherExp hn (Nat.ne_of_lt k.val.lt_succ_self) (hur ▸ hr) (pollInput inputs k)
  have hvr := (hv.reactions hn .orange).trans hur
  exact ⟨_, hu, hur ▸ hr, State.pollExps_otherExp hn (hvr ▸ hr) inputs hafter⟩

/-! ### What an input byte shows of a cage (R60, R66) -/

/-- R66: the presence as polled alters neither what the button has shown nor the module's interrupt. -/
theorem Cage.presence_keeps (x : Cage) (p auto : Bool) :
    (x.presence p auto).prsSeen = p ∧ (x.presence p auto).btnSeen = x.btnSeen ∧ (x.presence p auto).btn = x.btn ∧
      (x.presence p auto).modInt = x.modInt := by
  unfold Cage.presence
  split
  · split <;> exact ⟨rfl, rfl, rfl, rfl⟩
  · split
    · split <;> exact ⟨rfl, rfl, rfl, rfl⟩
    · split <;> exact ⟨rfl, rfl, rfl, rfl⟩

theorem Cage.presence_empty {x : Cage} (h : x.st = .empty) (p auto : Bool) :
    (x.presence p auto).st = if p then .detect else .empty := by
  cases p <;> simp [Cage.presence, h, Cage.entered]

theorem Cage.presence_gone {x : Cage} {p : Bool} (hp : p = false) (h : x.st = .detect) (auto : Bool) :
    (x.presence p auto).st = .empty := by
  simp [Cage.presence, h, hp, Cage.entered]

theorem Cage.presence_confirmed {x : Cage} {p : Bool} (hp : p = true) (h : x.st = .detect) (auto : Bool) :
    (x.presence p auto).st = (if auto then .powering else .safe) ∧ (x.presence p auto).prs = true := by
  simp [Cage.presence, h, hp, Cage.entered]

theorem Cage.presence_lost {x : Cage} {p : Bool} (hp : p = false) (he : x.st ≠ .empty) (hd : x.st ≠ .detect)
    (hprs : x.prs = true) (hs : x.prsSeen = false) (auto : Bool) :
    (x.presence p auto).st = .empty ∧ (x.presence p auto).prs = false := by
  simp [Cage.presence, he, hd, hp, hprs, hs, Cage.entered]

theorem Cage.presence_stays {x : Cage} {p : Bool} (he : x.st ≠ .empty) (hd : x.st ≠ .detect)
    (h : x.prsSeen = true ∨ x.prs = false ∨ p = true) (auto : Bool) : x.presence p auto = { x with prsSeen := p } := by
  have hc : (! p && ! x.prsSeen && x.prs) = false := by
    rcases h with h | h | h <;> simp [h]
  simp [Cage.presence, he, hd, hc]

/-- R66: the state that a counted press leads to. -/
def Cage.pressTo (x : Cage) : CageState :=
  match x.st with
  | .lowPower => .releaseReq
  | .highPower => .releaseReq
  | .releaseReq => x.earlier
  | .safe => .powering
  | st => st

/-- R66: what the button as polled does to a cage. -/
theorem Cage.button_spec (x : Cage) (p : Bool) :
    (x.button p).btnSeen = p ∧ (x.button p).prsSeen = x.prsSeen ∧ (x.button p).prs = x.prs ∧
      (x.button p).modInt = x.modInt ∧ (x.button p).st = if x.pressed p then x.pressTo else x.st := by
  unfold Cage.button Cage.press Cage.pressTo
  dsimp only
  cases x.pressed p
  · exact ⟨rfl, rfl, rfl, rfl, rfl⟩
  · cases x.st <;> exact ⟨rfl, rfl, rfl, rfl, rfl⟩

/-- R66: a press counts when two polls agree on it and none was counted. -/
theorem Cage.pressed_iff (x : Cage) (p : Bool) : x.pressed p = true ↔ p = true ∧ x.btnSeen = true ∧ x.btn = false := by
  unfold Cage.pressed
  cases p <;> cases x.btnSeen <;> cases x.btn <;> decide

/-- R60, R66: what a cage that an expander's input byte shows has become, where `auto` is AUTO_ON. -/
def Cage.Polled (x y : Cage) (auto : Bool) (b : Nat) : Prop :=
  let pressed := b / 4 % 2 = 0 ∧ x.btnSeen = true ∧ x.btn = false
  y.prsSeen = (b % 2 == 0) ∧ y.modInt = (b / 2 % 2 == 0) ∧ y.btnSeen = (b / 4 % 2 == 0) ∧
  (x.st = .empty → y.st = if b % 2 = 0 then .detect else .empty) ∧
  (x.st = .detect → b % 2 = 1 → y.st = .empty) ∧
  (x.st = .detect → b % 2 = 0 → y.prs = true ∧ y.st = if auto = true ∨ pressed then .powering else .safe) ∧
  (x.st ≠ .empty → x.st ≠ .detect → x.prs = true → x.prsSeen = false → b % 2 = 1 → y.st = .empty ∧ y.prs = false) ∧
  (x.st ≠ .empty → x.st ≠ .detect → x.prsSeen = true ∨ x.prs = false ∨ b % 2 = 0 →
    y.st =
      if ¬ pressed then x.st
      else if x.st = .lowPower ∨ x.st = .highPower then .releaseReq
      else if x.st = .releaseReq then x.earlier
      else if x.st = .safe then .powering else x.st)

theorem Cage.pressTo_eq (x : Cage) :
    x.pressTo = if x.st = .lowPower ∨ x.st = .highPower then .releaseReq
      else if x.st = .releaseReq then x.earlier else if x.st = .safe then .powering else x.st := by
  unfold Cage.pressTo
  cases x.st <;> simp

/-- R66: in EMPTY, DETECT and POWERING a press counts for nothing. -/
theorem Cage.pressTo_unpowered {x : Cage} (h : x.st = .empty ∨ x.st = .detect ∨ x.st = .powering) :
    x.pressTo = x.st := by
  rw [Cage.pressTo]
  rcases h with h | h | h <;> rw [h]

/-- R66: the presence and then the button of an input byte, for a cage whose MOD_INT is the byte's. -/
theorem Cage.polled_button_presence {x : Cage} {b : Nat} (hint : x.modInt = (b / 2 % 2 == 0)) (auto : Bool) :
    x.Polled ((x.presence (b % 2 == 0) auto).button (b / 4 % 2 == 0)) auto b := by
  obtain ⟨zseen, zbtnSeen, zbtn, zint⟩ := x.presence_keeps (b % 2 == 0) auto
  obtain ⟨ybtnSeen, yseen, yprs, yint, yst⟩ := (x.presence (b % 2 == 0) auto).button_spec (b / 4 % 2 == 0)
  have hpressed : (x.presence (b % 2 == 0) auto).pressed (b / 4 % 2 == 0) = true ↔
      b / 4 % 2 = 0 ∧ x.btnSeen = true ∧ x.btn = false := by
    rw [Cage.pressed_iff, zbtnSeen, zbtn, beq_iff_eq]
  have hidle {st : CageState} (hs : st = .empty ∨ st = .detect ∨ st = .powering)
      (hz : (x.presence (b % 2 == 0) auto).st = st) :
      ((x.presence (b % 2 == 0) auto).button (b / 4 % 2 == 0)).st = st := by
    rw [yst, Cage.pressTo_unpowered (by rwa [hz]), ite_self, hz]
  refine ⟨yseen.trans zseen, yint.trans (zint.trans hint), ybtnSeen, fun he => ?_, fun hd hb => ?_, fun hd hb => ?_,
    fun hne hnd hp hs hb => ?_, fun hne hnd h => ?_⟩
  · have hz := Cage.presence_empty he (b % 2 == 0) auto
    simp only [beq_iff_eq] at hz
    refine hidle ?_ hz
    split <;> simp
  · exact hidle (Or.inl rfl) (Cage.presence_gone (by simp [hb]) hd auto)
  · obtain ⟨hst, hprs⟩ := Cage.presence_confirmed (p := b % 2 == 0) (by simp [hb]) hd auto
    refine ⟨yprs.trans hprs, ?_⟩
    cases auto with
    | true => exact (hidle (by simp) hst).trans (if_pos (Or.inl rfl)).symm
    | false =>
      rw [if_neg Bool.false_ne_true] at hst
      have hto : (x.presence (b % 2 == 0) false).pressTo = .powering := by rw [Cage.pressTo, hst]
      rw [yst, hto, hst]
      exact if_congr (hpressed.trans (by simp)) rfl rfl
  · obtain ⟨hst, hprs⟩ := Cage.presence_lost (p := b % 2 == 0) (by simp [hb]) hne hnd hp hs auto
    exact ⟨hidle (Or.inl rfl) hst, yprs.trans hprs⟩
  · have hz := Cage.presence_stays (p := b % 2 == 0) hne hnd (by simpa using h) auto
    have hst : (x.presence (b % 2 == 0) auto).st = x.st := by rw [hz]
    have hto : (x.presence (b % 2 == 0) auto).pressTo = x.pressTo := by rw [hz]; rfl
    rw [yst, hst, hto, ← Cage.pressTo_eq, ite_not]
    exact if_congr hpressed rfl rfl

/-- R66: an input byte makes of a cage what its presence and its button say. -/
theorem Cage.input_polled (x : Cage) (b : Nat) (auto : Bool) : x.Polled (x.input b auto) auto b :=
  Cage.polled_button_presence (x := { x with modInt := b / 2 % 2 == 0 }) rfl auto

/-- R60, R66: an input byte of a cage, in the state. -/
theorem State.cageInput_polled (s : State) (c b : Nat) :
    (s.cage c).Polled ((s.cageInput c b).cage c) (s.autoOn c) b := by
  have h : (s.shown c).Polled ((s.cageInput c b).shown c) (s.autoOn c) b := by
    rw [State.shown_cageInput]
    exact Cage.input_polled ..
  exact h

/-- R63: the two input bytes of an expander, each of its cage. -/
theorem State.pollExp_polled {s : State} {n k : Nat} (hn : n < 8) (hk : k < 4) (w : BitVec 16) (j : Fin 2) :
    (s.cage (8 * n + 2 * k + j)).Polled ((s.pollExp n k (.data w)).cage (8 * n + 2 * k + j))
      (s.autoOn (8 * n + 2 * k + j)) (w.toNat / 256 ^ j.val % 256) := by
  have h1 := s.pollRead_around n k
  have hcage : ((s.pollRead n k).setBus n (((s.pollRead n k).bus n).answered k)).cage = s.cage := h1.cage
  have hauto {c : Nat} (hc : c < 64) :
      ((s.pollRead n k).setBus n (((s.pollRead n k).bus n).answered k)).autoOn c = s.autoOn c := h1.autoOn hc
  rw [State.pollExp_data]
  generalize (s.pollRead n k).setBus n (((s.pollRead n k).bus n).answered k) = u at hcage hauto
  have h2 := u.cageInput_oneCage (8 * n + 2 * k) (w.toNat % 256)
  have hw : w.toNat / 256 < 256 := by have := w.isLt; omega
  match j with
  | 0 =>
    have h3 := (u.cageInput (8 * n + 2 * k) (w.toNat % 256)).cageInput_oneCage (8 * n + 2 * k + 1) (w.toNat / 256)
    have hp := u.cageInput_polled (8 * n + 2 * k) (w.toNat % 256)
    rw [hcage, hauto (by omega), ← h3.others _ (by omega)] at hp
    simpa using hp
  | 1 =>
    have hp := (u.cageInput (8 * n + 2 * k) (w.toNat % 256)).cageInput_polled (8 * n + 2 * k + 1) (w.toNat / 256)
    rw [h2.others _ (by omega), hcage, h2.autoOn (by omega), hauto (by omega)] at hp
    simpa [Nat.mod_eq_of_lt hw] using hp

/-! ### The commands of a cage bus (R63-R66, R437) -/

theorem State.setBus_bus (s : State) (n : Nat) (b : CageBus) : (s.setBus n b).bus n = b := by
  rw [State.bus_setBus, if_pos rfl]

theorem becomes_expanderInit {s : State} {pg : Fin 8} (r : Req) (v : Word) (ho : s.Open (domPg pg)) :
    Becomes (.expanderInit r pg v) s (s.writeBusCfg pg v) :=
  becomes_of_access (f := fun s => s.writeBusCfg pg v) rfl ho

/-- R63: as POLL_EN goes to 1, the bus polls and no output write waits. -/
theorem State.writeBusCfg_start {s : State} {n : Nat} {v : Word} (hv : bit v 24 = true)
    (hok : pollRefused v (s.rg .cageExpCfg n) = false) (hold : bit (s.rg .cageBusCfg n) 24 = false) :
    ((s.writeBusCfg n v).bus n).polling = true ∧ ((s.writeBusCfg n v).bus n).writes = [] := by
  have hput (cmd x : Nat) (u : State) : u.Around ((List.range 4).foldl (fun st k => st.expPut n k cmd x) u) :=
    .foldl (fun t _ => (t.emit_beside _).toAround) _ u
  unfold State.writeBusCfg
  simp only [hv, hok, hold, Bool.and_false, Bool.false_eq_true, if_false, Bool.not_false, Bool.and_self, if_true]
  rw [(hput ..).bus, (hput ..).bus, State.setBus_bus]
  exact ⟨rfl, rfl⟩

theorem becomes_cagePoll {s : State} {pg : Fin 8} (l : List ExpRead) (hon : s.pgOn pg = true)
    (hp : (s.bus pg).polling = true) (ht : (s.bus pg).lastPoll + s.pollPeriod pg ≤ s.mono) :
    Becomes (.cagePoll pg l) s (s.poll pg l) :=
  becomes_of_act (f := fun s => s.poll pg l) rfl (by simp [hon, hp, ht])

/-- R64: what the bus holds of an expander that has answered. -/
theorem State.pollExp_data_bus (s : State) (n k : Nat) (w : BitVec 16) :
    ((s.pollExp n k (.data w)).bus n).lastPoll = (s.bus n).lastPoll ∧
      ((s.pollExp n k (.data w)).bus n).lost.contains k = false ∧
      ((s.pollExp n k (.data w)).bus n).failsOf k = 0 := by
  rw [State.pollExp_data]
  have hb : (s.pollRead n k).bus = s.bus := (s.pollRead_around n k).bus
  have h1 (u : State) := u.cageInput_oneCage (8 * n + 2 * k) (w.toNat % 256)
  have h2 (u : State) := u.cageInput_oneCage (8 * n + 2 * k + 1) (w.toNat / 256)
  obtain ⟨l1, hl1⟩ := (h1 ((s.pollRead n k).setBus n (((s.pollRead n k).bus n).answered k))).buses n
  obtain ⟨l2, hl2⟩ := (h2 (((s.pollRead n k).setBus n (((s.pollRead n k).bus n).answered k)).cageInput
    (8 * n + 2 * k) (w.toNat % 256))).buses n
  rw [State.setBus_bus, hb] at hl1
  rw [hb] at hl2
  rw [hb, hl2, hl1]
  refine ⟨rfl, ?_, ?_⟩
  · exact (CageBus.lost_answered (s.bus n) k k).trans (by simp)
  · exact (CageBus.failsOf_answered (s.bus n) k k).trans (if_pos rfl)

theorem State.mem_busFail (s : State) (n : Nat) : Out.busClear n ∈ (s.busFail n .heldLow).out := by
  simp [State.busFail, State.emit]

/-- R64: an expander that fails: what the bus then holds of it, and that nothing of its cages changes. -/
theorem State.expFail_spec {s : State} {n : Nat} (hn : n < 8) (hr : s.reactions (48 + n) .orange < 16) (k : Nat) :
    (s.expFail n k).cages = s.cages ∧ ((s.expFail n k).bus n).failsOf k = (s.bus n).failsOf k + 1 ∧
      ((s.expFail n k).bus n).retry.contains k = true ∧
      ((s.expFail n k).bus n).lost.contains k = ((s.bus n).lost.contains k || decide (3 ≤ (s.bus n).failsOf k)) ∧
      ((s.expFail n k).bus n).go = (s.bus n).go ∧ s.out <:+ (s.expFail n k).out := by
  have h := State.expFail_around hn hr k
  rw [h.bus, State.setBus_bus]
  refine ⟨h.cages, ?_, ?_, ?_, ((s.bus n).failed_rest k).2, h.out⟩
  · rw [CageBus.failsOf_failed, if_pos rfl]
  · simp [CageBus.retry_failed]
  · rw [CageBus.lost_failed, decide_eq_true rfl, Bool.true_and]

/-- R64: a transaction with an expander that has failed, on a bus that may be held low. -/
theorem State.busFail_expFail_spec {s u : State} (h : s.Around u) {n : Nat} (hn : n < 8)
    (hr : s.reactions (48 + n) .orange < 16) (k : Nat) (e : BusEnd) :
    ((u.busFail n e).expFail n k).cages = s.cages ∧
      (((u.busFail n e).expFail n k).bus n).failsOf k = (s.bus n).failsOf k + 1 ∧
      (((u.busFail n e).expFail n k).bus n).retry.contains k = true ∧
      (((u.busFail n e).expFail n k).bus n).lost.contains k =
        ((s.bus n).lost.contains k || decide (3 ≤ (s.bus n).failsOf k)) ∧
      (e = .heldLow → Out.busClear n ∈ ((u.busFail n e).expFail n k).out) := by
  have h2 := h.trans (u.busFail_beside n e).toAround
  obtain ⟨hcages, hfails, hretry, hlost, _, hout⟩ :=
    State.expFail_spec (s := u.busFail n e) hn (by rwa [h2.reactions hn]) k
  rw [h2.bus] at hfails hlost
  exact ⟨hcages.trans h2.cages, hfails, hretry, hlost, fun he => hout.subset (he ▸ u.mem_busFail n)⟩

/-- R63: what a poll makes of an expander that answers, and of its cages. -/
theorem State.poll_data {s : State} {n : Nat} (hn : n < 8) (hr : s.reactions (48 + n) .orange < 16)
    {l : List ExpRead} {k : Fin 4} {w : BitVec 16} (hw : l[k.val]? = some (.data w)) :
    ((s.poll n l).bus n).lastPoll = s.mono ∧ ((s.poll n l).bus n).lost.contains k.val = false ∧
      ((s.poll n l).bus n).failsOf k = 0 ∧
      ∀ j : Fin 2, (s.cage (8 * n + 2 * k + j)).Polled ((s.poll n l).cage (8 * n + 2 * k + j))
        (s.autoOn (8 * n + 2 * k + j)) (w.toNat / 256 ^ j.val % 256) := by
  obtain ⟨u, hu, -, hv⟩ := State.poll_at hn hr l k
  have hin : pollInput l k = .data w := by simp [pollInput, hw]
  rw [hin] at hv
  obtain ⟨hlast, hlost, hfails⟩ := u.pollExp_data_bus n k w
  refine ⟨?_, hv.lost.trans hlost, hv.fails.trans hfails, fun j => ?_⟩
  · rw [hv.lastPoll, hlast, hu.lastPoll, State.pollStart, State.setBus_bus]
  · have hp := State.pollExp_polled (s := u) hn k.isLt w j
    rwa [hu.cages j j.isLt, hu.autoOn (by omega), ← hv.cages j j.isLt] at hp

/-- R64: what a poll makes of an expander that fails: nothing of its cages. -/
theorem State.poll_failed {s : State} {n : Nat} (hn : n < 8) (hr : s.reactions (48 + n) .orange < 16)
    {l : List ExpRead} {k : Fin 4} {e : BusEnd} (he : l[k.val]? = some (.failed e)) :
    (∀ j : Fin 2, (s.poll n l).cage (8 * n + 2 * k + j) = s.cage (8 * n + 2 * k + j)) ∧
      ((s.poll n l).bus n).failsOf k = (s.bus n).failsOf k + 1 ∧
      ((s.poll n l).bus n).lost.contains k.val =
        ((s.bus n).lost.contains k.val || decide (3 ≤ (s.bus n).failsOf k)) ∧
      (e = .heldLow → Out.busClear n ∈ (s.poll n l).out) := by
  obtain ⟨u, hu, hur, hv⟩ := State.poll_at hn hr l k
  have hin : pollInput l k = .failed e := by simp [pollInput, he]
  rw [hin, State.pollExp_failed] at hv
  obtain ⟨hcages, hfails, -, hlost, hclear⟩ := State.busFail_expFail_spec (u.pollRead_around n k) hn hur k e
  have hufails := hu.fails
  have hulost := hu.lost
  rw [State.pollStart, State.setBus_bus] at hufails hulost
  refine ⟨fun j => ?_, ?_, ?_, fun h => hv.out.subset (hclear h)⟩
  · rw [hv.cages j j.isLt, State.cage, hcages, ← State.cage, hu.cages j j.isLt]
    rfl
  · rw [hv.fails, hfails, hufails]
    rfl
  · rw [hv.lost, hlost, hulost, hufails]
    rfl

/-! ### Output writes (R60, R63) -/

theorem becomes_expanderOutputWrite {s : State} {pg : Fin 8} (e : BusEnd) (hon : s.pgOn pg = true)
    (hp : (s.bus pg).polling = true) : Becomes (.expanderOutputWrite pg e) s (s.expWrite pg e) :=
  becomes_of_act (f := fun s => s.expWrite pg e) rfl (by simp [hon, hp])

/-- R63: a cage's output write has been issued. -/
def State.cageIssued (s : State) (c : Nat) : State :=
  s.setCage c { s.cage c with
    outs := (s.cage c).want, settle := if (s.cage c).armed then some s.mono else (s.cage c).settle, armed := false }

theorem State.cageWritten_eq (s : State) (c : Nat) :
    s.cageWritten c = if (s.cage c).st = .releasing && (s.cage c).off then (s.cageIssued c).cageTo c .safe
      else s.cageIssued c := rfl

theorem State.cageWritten_oneCage (s : State) (c : Nat) : s.OneCage c (s.cageWritten c) := by
  rw [State.cageWritten_eq]
  have h : s.OneCage c (s.cageIssued c) := s.setCage_oneCage c _
  exact .ite (h.trans (State.cageTo_oneCage ..)) h

theorem State.outs_eq_shown (s : State) (c : Nat) : (s.cage c).outs = (s.shown c).outs := rfl

theorem State.cageIssued_outs (s : State) (c : Nat) : ((s.cageIssued c).shown c).outs = (s.cage c).want := by
  rw [State.cageIssued, State.shown_setCage]
  rfl

/-- R63, R66: the outputs are those that the cage was to have, and the write of power and reset ends RELEASING. -/
theorem State.cageWritten_cage (s : State) (c : Nat) :
    ((s.cageWritten c).cage c).outs = (s.cage c).want ∧
      ((s.cage c).st = .releasing → (s.cage c).off = true → ((s.cageWritten c).cage c).st = .safe) := by
  rw [State.cageWritten_eq]
  by_cases h : ((s.cage c).st = .releasing && (s.cage c).off) = true
  · rw [if_pos h, State.outs_eq_shown, State.shown_cageTo]
    exact ⟨s.cageIssued_outs c, fun _ _ => State.cageTo_st ..⟩
  · rw [if_neg h, State.outs_eq_shown]
    exact ⟨s.cageIssued_outs c, fun hst hoff => absurd (by simp [hst, hoff]) h⟩

/-- R63: the bus where no cage is to be switched off. -/
theorem State.cageWritten_bus {s : State} {c : Nat} (h : (s.cage c).off = false) : (s.cageWritten c).bus = s.bus := by
  rw [State.cageWritten_eq, h, Bool.and_false, if_neg Bool.false_ne_true]
  rfl

/-- R63: the bytes of both cages of an expander. -/
def State.outPair (s : State) (n k : Nat) : Nat :=
  outByte (s.cage (8 * n + 2 * k)).want + 256 * outByte (s.cage (8 * n + 2 * k + 1)).want

/-- R60: the output write of an expander is on the bus. -/
def State.putOutputs (s : State) (n k : Nat) : State := s.expPut n k (fld (s.rg .cageExpCfg n) 23 16) (s.outPair n k)

theorem State.putOutputs_around (s : State) (n k : Nat) : s.Around (s.putOutputs n k) := (s.emit_beside _).toAround

/-- R63, R64: the first expander whose write waits and that does not wait for a poll slot is served. -/
theorem State.expWrite_head {s : State} {n k : Nat} {l : List Nat} (hw : (s.bus n).writes = k :: l)
    (hr : (s.bus n).retry.contains k = false) (e : BusEnd) :
    s.expWrite n e =
      if e = .ack then
        ((((s.putOutputs n k).setBus n { s.bus n with
          writes := l, fails := tset (fun _ => 0) (s.bus n).fails k 0 }).cageWritten (8 * n + 2 * k)).cageWritten
            (8 * n + 2 * k + 1))
      else ((s.putOutputs n k).busFail n e).expFail n k := by
  have hfind : (k :: l).find? (fun k => ! (s.bus n).retry.contains k) = some k :=
    List.find?_cons_of_pos (by rw [hr]; rfl)
  have herase : (k :: l).erase k = l := List.erase_cons_head ..
  simp only [State.expWrite, hw, hfind, herase]
  rfl

/-- R63: both cages of an expander once its output write has been issued. -/
theorem State.expWrite_ack {s : State} {n k : Nat} {l : List Nat} (hw : (s.bus n).writes = k :: l)
    (hr : (s.bus n).retry.contains k = false) :
    (∀ i : Fin 2, ((s.expWrite n .ack).cage (8 * n + 2 * k + i)).outs = (s.cage (8 * n + 2 * k + i)).want ∧
      ((s.cage (8 * n + 2 * k + i)).st = .releasing → (s.cage (8 * n + 2 * k + i)).off = true →
        ((s.expWrite n .ack).cage (8 * n + 2 * k + i)).st = .safe)) ∧
      ((s.cage (8 * n + 2 * k)).off = false → (s.cage (8 * n + 2 * k + 1)).off = false →
        ((s.expWrite n .ack).bus n).writes = l) := by
  rw [State.expWrite_head hw hr, if_pos rfl]
  have hcage : ((s.putOutputs n k).setBus n { s.bus n with
      writes := l, fails := tset (fun _ => 0) (s.bus n).fails k 0 }).cage = s.cage := (s.putOutputs_around n k).cage
  have hbus := (s.putOutputs n k).setBus_bus n { s.bus n with
    writes := l, fails := tset (fun _ => 0) (s.bus n).fails k 0 }
  generalize (s.putOutputs n k).setBus n { s.bus n with
    writes := l, fails := tset (fun _ => 0) (s.bus n).fails k 0 } = u at hcage hbus
  have h1 := u.cageWritten_oneCage (8 * n + 2 * k)
  have h2 := (u.cageWritten (8 * n + 2 * k)).cageWritten_oneCage (8 * n + 2 * k + 1)
  have hnext : (u.cageWritten (8 * n + 2 * k)).cage (8 * n + 2 * k + 1) = s.cage (8 * n + 2 * k + 1) := by
    rw [h1.others _ (by omega), hcage]
  refine ⟨fun i => ?_, fun h0 h1 => ?_⟩
  · match i with
    | 0 =>
      have hc := u.cageWritten_cage (8 * n + 2 * k)
      rw [hcage, ← h2.others _ (by omega)] at hc
      exact hc
    | 1 =>
      have hc := (u.cageWritten (8 * n + 2 * k)).cageWritten_cage (8 * n + 2 * k + 1)
      rw [hnext] at hc
      exact hc
  · rw [State.cageWritten_bus (by rw [hnext]; exact h1), State.cageWritten_bus (by rw [hcage]; exact h0), hbus]

/-! ### Module transfers (R65, R437) -/

theorem becomes_moduleTransfer {s : State} {pg : Fin 8} (r : Req) (v : Word) (ho : s.Open (domPg pg)) :
    Becomes (.moduleTransfer r pg v) s (s.writeXfer pg v) :=
  becomes_of_access (f := fun s => s.writeXfer pg v) rfl ho

theorem becomes_transferSegment {s : State} {pg : Fin 8} (e : BusEnd) (data : List Byte) (hon : s.pgOn pg = true)
    (hgo : (s.bus pg).go = true) : Becomes (.transferSegment pg e data) s (s.segment pg e data) :=
  becomes_of_act (f := fun s => s.segment pg e data) rfl (by simp [hon, hgo])

theorem becomes_stretchTimeout_module {s : State} {pg : Fin 8} (hon : s.pgOn pg = true) (hgo : (s.bus pg).go = true) :
    Becomes (.stretchTimeout pg none) s
      ((s.setBus pg { s.bus pg with go := false, err := true }).emit (.busClear pg)) :=
  becomes_of_act (f := fun s => (s.setBus pg { s.bus pg with go := false, err := true }).emit (.busClear pg)) rfl
    (by simp [hon, hgo])

theorem becomes_stretchTimeout_expander {s : State} {pg : Fin 8} {k : Fin 4} (hon : s.pgOn pg = true)
    (hp : (s.bus pg).polling = true) (hr : (s.bus pg).retry.contains k.val = false) :
    Becomes (.stretchTimeout pg (some k)) s ((s.expFail pg k).emit (.busClear pg)) :=
  becomes_of_act (f := fun s => (s.expFail pg k).emit (.busClear pg)) rfl (by rw [hon, hp, hr]; rfl)

/-- R65: a transfer may be made to a powered cage, within the module's 256 bytes. -/
def State.xferOk (s : State) (n : Nat) (v : Word) : Bool :=
  (s.cageSt (8 * n + fld v 6 4)).powered && decide (fld v 21 14 + fld v 13 7 ≤ 255)

theorem State.cageSt_setRg (s : State) (n : RegName) (k j c : Nat) (v : Word) :
    (s.setRg n k j v).cageSt c = s.cageSt c := by
  have hbus : (s.setRg n k j v).busLost c = s.busLost c := by
    simp only [State.busLost, State.bus, State.setRg_buses]
  have hcage : (s.setRg n k j v).cage c = s.cage c := by simp only [State.cage, State.setRg_cages]
  rw [State.cageSt, hbus, hcage, State.cageSt]

/-- R65: GO starts a transfer, or sets ERR. -/
theorem State.writeXfer_go {s : State} {n : Nat} {v : Word} (hgo : (s.bus n).go = false) (hv : bit v 31 = true) :
    s.writeXfer n v = (s.setRg .cageXferCtl n 0 (v &&& 0x5FFFFFF0)).setBus n
      { s.bus n with go := s.xferOk n v, err := ! s.xferOk n v, done := 0 } := by
  unfold State.writeXfer
  extract_lets b s1 c ok
  have hok : ok = s.xferOk n v := by simp only [ok, s1, State.cageSt_setRg]; rfl
  rw [hv, hgo, Bool.and_false, if_neg Bool.false_ne_true, if_pos rfl, hok]

/-- R65: the length of the transfer that CAGE_XFER_CTL describes. -/
def State.xferLen (s : State) (n : Nat) : Nat := fld (s.rg .cageXferCtl n) 13 7 + 1

/-- R65: a segment of up to 16 bytes that has passed counts, and the last one ends the transfer. -/
theorem State.segment_ack (s : State) (n : Nat) (data : List Byte) :
    let done := (s.bus n).done + min 16 (s.xferLen n - (s.bus n).done)
    ((s.segment n .ack data).bus n).done = done ∧ ((s.segment n .ack data).bus n).go = decide (done < s.xferLen n) := by
  intro done
  unfold State.segment
  extract_lets b w len k s1 s2
  rw [if_neg (by simp), State.setBus_bus]
  exact ⟨rfl, rfl⟩

/-- R64, R65: a segment that fails ends the transfer with ERR. -/
theorem State.segment_failed (s : State) {n : Nat} {e : BusEnd} (he : e ≠ .ack) (data : List Byte) :
    ((s.segment n e data).bus n).go = false ∧ ((s.segment n e data).bus n).err = true ∧
      (e = .heldLow → Out.busClear n ∈ (s.segment n e data).out) := by
  unfold State.segment
  extract_lets b w len k s1 s2
  rw [if_pos (by simpa using he), (State.busFail_beside ..).bus, State.setBus_bus]
  exact ⟨rfl, rfl, fun h => h ▸ State.mem_busFail _ n⟩

/-- Settles O9: each command is followed to what it makes of the bus and of the cages of one expander; what the others
bring about, an event of the cage bus too, is beside them. -/
theorem cageBus : Obligations.CageBus := by
  refine ⟨fun s r pg v ho hv hok hold => ?_, fun s pg l k hon hp ht hr => ⟨fun w hw => ?_, fun e he => ?_⟩,
    fun s pg k l hon hp hw hr => ?_, fun s pg k l e hon hp hw hr he hreact => ?_, fun s r pg v ho hgo hv => ?_,
    fun s pg e data hon hgo => ?_, fun s pg hon hgo => ?_, fun s pg k hon hp hr hreact => ?_⟩
  · refine (becomes_expanderInit r v ho).completes ?_
    rw [State.bus_intSweep]
    exact State.writeBusCfg_start hv hok hold
  · obtain ⟨hlast, hlost, hfails, hcages⟩ := State.poll_data pg.isLt hr hw
    refine (becomes_cagePoll l hon hp ht).completes ?_
    rw [State.bus_intSweep, State.cage_intSweep]
    refine ⟨hlast, hlost, hfails, fun j => ?_⟩
    have hauto : s.autoOn (8 * pg + 2 * k + j) = bit (s.rg .cageCtl pg ((8 * pg + 2 * k + j) % 8)) 0 := by
      rw [State.autoOn, show (8 * pg.val + 2 * k.val + j.val) / 8 = pg by omega]
    have hj := hcages j
    rw [hauto] at hj
    exact hj
  · obtain ⟨hcages, hfails, hlost, hclear⟩ := State.poll_failed pg.isLt hr he
    refine (becomes_cagePoll l hon hp ht).completes ?_
    rw [State.bus_intSweep, State.cage_intSweep]
    exact ⟨hcages, hfails, hlost, fun h => State.mem_intSweep_out (hclear h)⟩
  · refine (becomes_expanderOutputWrite .ack hon hp).completes ?_
    rw [State.bus_intSweep, State.cage_intSweep]
    exact State.expWrite_ack hw hr
  · have hb := becomes_expanderOutputWrite e hon hp
    rw [State.expWrite_head hw hr, if_neg he] at hb
    obtain ⟨hcages, -, hretry, -, hclear⟩ :=
      State.busFail_expFail_spec (s.putOutputs_around pg k) pg.isLt hreact k e
    refine hb.completes ?_
    rw [State.bus_intSweep, State.intSweep_cages]
    exact ⟨hcages, hretry, fun h => State.mem_intSweep_out (hclear h)⟩
  · refine (becomes_moduleTransfer r v ho).completes ?_
    rw [State.bus_intSweep, State.writeXfer_go hgo hv, State.setBus_bus]
    exact ⟨rfl, rfl⟩
  · refine (becomes_transferSegment e data hon hgo).completes ?_
    rw [State.bus_intSweep]
    split
    · subst e
      exact s.segment_ack pg data
    · obtain ⟨hgo', herr, hclear⟩ := s.segment_failed ‹e ≠ .ack› data
      exact ⟨hgo', herr, fun h => State.mem_intSweep_out (hclear h)⟩
  · refine (becomes_stretchTimeout_module hon hgo).completes ?_
    rw [State.bus_intSweep, State.intSweep_cages, (State.emit_beside ..).bus, State.setBus_bus]
    exact ⟨rfl, rfl, State.mem_intSweep_out (List.mem_cons_self ..), rfl⟩
  · obtain ⟨hcages, hfails, hretry, hlost, hgo, -⟩ := State.expFail_spec pg.isLt hreact k
    refine (becomes_stretchTimeout_expander hon hp hr).completes ?_
    rw [State.bus_intSweep, State.intSweep_cages, (State.emit_beside ..).bus]
    exact ⟨hfails, hretry, hlost, hgo, State.mem_intSweep_out (List.mem_cons_self ..), hcages⟩

/-! ### Cage commands and times (R66, R68) -/

/-- R68: what the commands of a cage do in the states that they are for. -/
theorem State.cageCmd_to {s : State} {c code : Nat} {from_ to_ : CageState} (h : s.cageSt c = from_)
    (hc : (code, from_, to_) ∈ [(1, .safe, .powering), (2, .lowPower, .highPower), (3, .highPower, .lowPower),
      (4, .lowPower, .releasing), (4, .highPower, .releasing), (4, .releaseReq, .releasing),
      (6, .releaseReq, (s.cage c).earlier)]) : s.cageCmd c code = s.cageTo c to_ := by
  simp only [List.mem_cons, Prod.mk.injEq, List.not_mem_nil, or_false] at hc
  unfold State.cageCmd
  rcases hc with ⟨rfl, rfl, rfl⟩ | ⟨rfl, rfl, rfl⟩ | ⟨rfl, rfl, rfl⟩ | ⟨rfl, rfl, rfl⟩ | ⟨rfl, rfl, rfl⟩ |
    ⟨rfl, rfl, rfl⟩ | ⟨rfl, rfl, rfl⟩ <;> rw [h] <;> rfl

/-- R68: a reset pulse leaves the cage in its state. -/
theorem State.cageCmd_pulse {s : State} {c : Nat} (h : s.cageSt c = .lowPower ∨ s.cageSt c = .highPower) :
    ((s.cageCmd c 5).cage c).st = (s.cage c).st ∧ ((s.cageCmd c 5).cage c).pulse = true := by
  have hcmd : s.cageCmd c 5 =
      (s.setCage c { s.cage c with pulse := true, armed := true, settle := none }).queueWrite c := by
    unfold State.cageCmd
    rcases h with h | h <;> rw [h] <;> rfl
  rw [hcmd, State.queueWrite_cage, State.cage_setCage, if_pos rfl]
  exact ⟨rfl, rfl⟩

/-- R66: a cage whose PWR_SETTLE has ended. -/
theorem State.settleEnd_cage (s : State) (c : Nat) :
    ((s.cage c).st = .powering → ((s.settleEnd c).cage c).st = .lowPower) ∧
      ((s.cage c).st = .releasing → ((s.settleEnd c).cage c).st = .releasing ∧ ((s.settleEnd c).cage c).off = true) ∧
      ((s.cage c).st.powered = true →
        ((s.settleEnd c).cage c).st = (s.cage c).st ∧ ((s.settleEnd c).cage c).pulse = false) := by
  unfold State.settleEnd
  refine ⟨fun h => ?_, fun h => ?_, fun h => ?_⟩
  · simp only [h]
    exact State.cageTo_st ..
  · simp only [h, State.queueWrite_cage, State.cage_setCage, if_true, and_self]
  · cases hst : (s.cage c).st
    case lowPower | highPower =>
      simp only [State.queueWrite_cage, State.cage_setCage, if_true, hst, and_self]
    all_goals rw [hst] at h; cases h

theorem becomes_powerOn {s : State} {c : Fin 64} (r : Req) (ho : s.Open (domPg (c / 8))) :
    Becomes (.powerOn r c) s (s.cageCmd c 1) := becomes_of_access (f := fun s => s.cageCmd c 1) rfl ho

theorem becomes_highPower {s : State} {c : Fin 64} (r : Req) (ho : s.Open (domPg (c / 8))) :
    Becomes (.highPower r c) s (s.cageCmd c 2) := becomes_of_access (f := fun s => s.cageCmd c 2) rfl ho

theorem becomes_lowPower {s : State} {c : Fin 64} (r : Req) (ho : s.Open (domPg (c / 8))) :
    Becomes (.lowPower r c) s (s.cageCmd c 3) := becomes_of_access (f := fun s => s.cageCmd c 3) rfl ho

theorem becomes_release {s : State} {c : Fin 64} (r : Req) (ho : s.Open (domPg (c / 8))) :
    Becomes (.release r c) s (s.cageCmd c 4) := becomes_of_access (f := fun s => s.cageCmd c 4) rfl ho

theorem becomes_resetPulse {s : State} {c : Fin 64} (r : Req) (ho : s.Open (domPg (c / 8))) :
    Becomes (.resetPulse r c) s (s.cageCmd c 5) := becomes_of_access (f := fun s => s.cageCmd c 5) rfl ho

theorem becomes_cancel {s : State} {c : Fin 64} (r : Req) (ho : s.Open (domPg (c / 8))) :
    Becomes (.cancel r c) s (s.cageCmd c 6) := becomes_of_access (f := fun s => s.cageCmd c 6) rfl ho

theorem becomes_pwrSettleExpiry {s : State} {c : Fin 64} {t0 : Nat} (hon : s.pgOn (c / 8) = true)
    (hl : s.busLost c = false) (hs : (s.cage c).settle = some t0) (ht : t0 + s.pwrSettle c ≤ s.mono) :
    Becomes (.pwrSettleExpiry c) s (s.settleEnd c) :=
  becomes_of_act (f := fun s => s.settleEnd c) rfl (by simp [hon, hl, hs, ht])

theorem becomes_releaseTimeout {s : State} {c : Fin 64} (hon : s.pgOn (c / 8) = true)
    (hst : s.cageSt c = .releaseReq) (h0 : fld (s.rg .cageCtl (c / 8) (c % 8)) 9 2 ≠ 0)
    (ht : (s.cage c).reqSince + fld (s.rg .cageCtl (c / 8) (c % 8)) 9 2 * 1000000000 ≤ s.mono) :
    Becomes (.releaseTimeout c) s
      (s.cageTo c (if bit (s.rg .cageCtl (c / 8) (c % 8)) 1 then .releasing else (s.cage c).earlier)) :=
  becomes_of_act
    (f := fun s => s.cageTo c (if bit (s.rg .cageCtl (c / 8) (c % 8)) 1 then .releasing else (s.cage c).earlier)) rfl
    (by simp [hon, hst, h0, ht])

/-- A command that moves a cage to a state leaves it there. -/
theorem Becomes.cageTo {i : Instr} {s t : State} {c : Nat} {st : CageState} (h : Becomes i s t)
    (ht : t = s.cageTo c st) : Completes i s fun t => (t.cage c).st = st := by
  subst ht
  refine h.completes ?_
  rw [State.cage_intSweep]
  exact State.cageTo_st ..

/-- Settles O10: each command and each time moves the cage to its state, or leaves it there with its outputs changed. -/
theorem cageStates : Obligations.CageStates := by
  refine ⟨fun s r c ho => ⟨fun h => ?_, fun h => ?_, fun h => ?_, fun h => ?_, fun h => ?_, fun h => ?_⟩,
    fun s c t0 hon hl hs ht => ?_, fun s c hon hst => ?_⟩
  · exact (becomes_powerOn r ho).cageTo (State.cageCmd_to h (by simp))
  · exact (becomes_highPower r ho).cageTo (State.cageCmd_to h (by simp))
  · exact (becomes_lowPower r ho).cageTo (State.cageCmd_to h (by simp))
  · rcases h with h | h | h
    · exact (becomes_release r ho).cageTo (State.cageCmd_to h (by simp))
    · exact (becomes_release r ho).cageTo (State.cageCmd_to h (by simp))
    · exact (becomes_release r ho).cageTo (State.cageCmd_to h (by simp))
  · refine (becomes_resetPulse r ho).completes ?_
    rw [State.cage_intSweep]
    exact State.cageCmd_pulse h
  · exact (becomes_cancel r ho).cageTo (State.cageCmd_to h (by simp))
  · refine (becomes_pwrSettleExpiry hon hl hs ht).completes ?_
    rw [State.cage_intSweep]
    exact s.settleEnd_cage c
  · intro w h0 ht
    exact (becomes_releaseTimeout hon hst h0 ht).cageTo rfl

end Sys2Proof.Machine
end

section
/-! PROOFS of the family 03_parse_and_station: station lookups, learning and ageing, the keyed and the indexed entries
of the tables, and the command unit's banks and associative copies. -/

namespace Sys2Proof.Machine

open Sys2Proof

/-! ### The master copies, which waking a port group leaves (R196, R444) -/

/-- The tables without what lies in the port groups: the replicas with their hit bits, and the groups' copies. -/
def Tables.masters (t : Tables) : Tables := { t with staR := [], hit := [], nbrR := [], treeG := [], cpG := [] }

/-- The master copies, the command unit and the epoch unit. -/
def State.unitView (s : State) : Tables × CmdUnit × Epoch := (s.tbl.masters, s.cu, s.epc)

theorem State.setGrp_unitView (s : State) (n : Nat) (x : Group) : (s.setGrp n x).unitView = s.unitView := by
  simp [State.unitView]

theorem State.setDmn_unitView (s : State) (n : Nat) (x : Domain) : (s.setDmn n x).unitView = s.unitView := by
  simp [State.unitView]

theorem State.fillPols_unitView (s : State) (n : Nat) : (s.fillPols n).unitView = s.unitView := by
  unfold State.fillPols
  split
  · exact State.setGrp_unitView ..
  · rfl

theorem State.takeRoles_unitView (s : State) (c : Nat) : (s.takeRoles c).unitView = s.unitView := by
  unfold State.takeRoles
  dsimp only
  split <;> simp [State.unitView]

theorem State.emptyReplica_unitView (s : State) (k : Nat) : (s.emptyReplica k).unitView = s.unitView := by
  simp [State.emptyReplica, State.unitView, Tables.masters]

theorem State.withBuf_unitView (s : State) (b : Buffer) : ({ s with buf := b } : State).unitView = s.unitView := rfl

theorem State.orRg_unitView (s : State) (n : RegName) (k j : Nat) (v : Word) :
    (s.orRg n k j v).unitView = s.unitView := by
  simp [State.unitView]

theorem State.poolStep_unitView (s : State) (k : Nat) : (s.poolStep k).unitView = s.unitView := by
  unfold State.poolStep
  dsimp only
  refine ite_same _ _ _ _ s (ite_same _ _ _ _ s ?_ (State.withBuf_unitView ..)) (State.withBuf_unitView ..)
  exact (State.orRg_unitView ..).trans (State.withBuf_unitView ..)

/-- R181, R233, R363, R375: a port group that becomes Active touches its own part of the tables alone. -/
theorem State.becomeActive_unitView (s : State) (n : Nat) : (s.becomeActive (domPg n)).unitView = s.unitView := by
  have htel : ¬ domPg n = domTel := by unfold domPg domTel; omega
  have hdram : ¬ domPg n = domDram := by unfold domPg domDram; omega
  unfold State.becomeActive
  rw [if_neg htel, if_neg hdram]
  split
  · dsimp only
    rw [foldl_same _ _ State.takeRoles_unitView]
    split
    · exact (State.emptyReplica_unitView ..).trans ((State.fillPols_unitView ..).trans (State.setGrp_unitView ..))
    · exact (State.fillPols_unitView ..).trans (State.setGrp_unitView ..)
  · rfl

theorem State.quadStep_unitView (s : State) (k : Nat) : (s.quadStep k).unitView = s.unitView := by
  unfold State.quadStep
  split
  · exact foldl_same _ _ State.poolStep_unitView ..
  · rfl

theorem State.wake_unitView (s : State) (n : Nat) : (s.wake (domPg n)).unitView = s.unitView := by
  unfold State.wake
  dsimp only
  split
  · rw [State.quadStep_unitView, State.becomeActive_unitView, State.setDmn_unitView]
  · split
    · exact State.setDmn_unitView ..
    · rfl

theorem State.wakePg_unitView (s : State) (n : Nat) : (s.wakePg n).unitView = s.unitView := by
  unfold State.wakePg
  split
  · exact State.wake_unitView ..
  · rfl

theorem State.setStale_unitView (s : State) (n : Nat) : (s.setStale n).unitView = s.unitView := by
  unfold State.setStale
  split <;> rfl

theorem State.withTbl_unitView {f : Tables → Tables} (hf : ∀ t, (f t).masters = t.masters) (s : State) :
    ({ s with tbl := f s.tbl } : State).unitView = s.unitView := by
  simp only [State.unitView, hf]

/-- R196: a change in every replica leaves the master copies. -/
theorem State.onReplicas_unitView (s : State) {f : Nat → Tables → Tables} (hf : ∀ k t, (f k t).masters = t.masters) :
    (s.onReplicas f).unitView = s.unitView := by
  refine foldl_same _ _ (fun st k => ?_) _ s
  split
  · dsimp only
    rw [State.withTbl_unitView (hf k), State.wakePg_unitView, State.wakePg_unitView]
  · have hstale : ((st.setStale (2 * k)).setStale (2 * k + 1)).unitView = st.unitView := by
      rw [State.setStale_unitView, State.setStale_unitView]
    dsimp only
    split
    · exact hstale
    · exact hstale

/-- R196: a change in every port group leaves the master copies. -/
theorem State.onGroups_unitView (s : State) {f : Nat → Tables → Tables} (hf : ∀ n t, (f n t).masters = t.masters) :
    (s.onGroups f).unitView = s.unitView := by
  refine foldl_same _ _ (fun st n => ?_) _ s
  split
  · dsimp only
    rw [State.withTbl_unitView (hf n), State.wakePg_unitView]
  · exact State.setStale_unitView ..

/-! ### Writes of one entry, and what they leave (R87, R102, R148, R169, R197) -/

theorem State.staPut_unitView (s : State) (key : Nat) (e : List Word) :
    ∃ sp, (s.staPut key e).unitView =
      ({ s.tbl with sta := tset (fun _ => []) s.tbl.sta key e, spill := sp }.masters, s.cu, s.epc) :=
  ⟨_, State.onReplicas_unitView _ fun _ _ => rfl⟩

/-- R87: a station entry of the master copy once another, or itself, has been written. -/
@[simp] theorem State.sta_staPut (s : State) (key k : Nat) (e : List Word) :
    (s.staPut key e).sta k = if k = key then e else s.sta k := by
  obtain ⟨sp, h⟩ := s.staPut_unitView key e
  have hsta : (s.staPut key e).tbl.sta = tset (fun _ => []) s.tbl.sta key e := congrArg (·.1.sta) h
  rw [State.sta, hsta, tget_tset, State.sta]

@[simp] theorem State.staPut_cu (s : State) (key : Nat) (e : List Word) : (s.staPut key e).cu = s.cu := by
  obtain ⟨sp, h⟩ := s.staPut_unitView key e
  exact congrArg (·.2.1) h

theorem State.hitSet_unitView (s : State) (key : Nat) : (s.hitSet key).unitView = s.unitView :=
  State.onReplicas_unitView _ fun _ _ => rfl

@[simp] theorem State.sta_hitSet (s : State) (key : Nat) : (s.hitSet key).sta = s.sta := by
  have hsta : (s.hitSet key).tbl.sta = s.tbl.sta := congrArg (·.1.sta) (s.hitSet_unitView key)
  funext k
  rw [State.sta, hsta, State.sta]

@[simp] theorem State.hitSet_cu (s : State) (key : Nat) : (s.hitSet key).cu = s.cu :=
  congrArg (·.2.1) (s.hitSet_unitView key)

@[simp] theorem State.sta_hitClear (s : State) (key : Nat) : (s.hitClear key).sta = s.sta := rfl
@[simp] theorem State.hitClear_cu (s : State) (key : Nat) : (s.hitClear key).cu = s.cu := rfl

/-- R101: a cleared entry has no hit bit set. -/
@[simp] theorem State.hitAny_hitClear (s : State) (key : Nat) : (s.hitClear key).hitAny key = false := by
  simp [State.hitAny, State.hitClear, List.range_succ]

@[simp] theorem State.lrnMove_tbl (s : State) (lp : Nat) (f : Nat → Nat) : (s.lrnMove lp f).tbl = s.tbl := by
  unfold State.lrnMove; exact State.setRg_tbl ..
@[simp] theorem State.lrnMove_cu (s : State) (lp : Nat) (f : Nat → Nat) : (s.lrnMove lp f).cu = s.cu := by
  unfold State.lrnMove; exact State.setRg_cu ..
@[simp] theorem State.lrnMove_groups (s : State) (lp : Nat) (f : Nat → Nat) : (s.lrnMove lp f).groups = s.groups := by
  unfold State.lrnMove; exact State.setRg_groups ..
@[simp] theorem State.sta_lrnMove (s : State) (lp : Nat) (f : Nat → Nat) : (s.lrnMove lp f).sta = s.sta := by
  funext k; simp [State.sta]

/-- R94: the count of a removed entry changes its port's mark among the tables, and nothing of the command unit. -/
theorem State.lrnDrop_unit (s : State) (key : Nat) (e : List Word) :
    (s.lrnDrop key e).tbl = { s.tbl with lrnPort := tset (fun _ => 0) s.tbl.lrnPort key 0 } ∧
      (s.lrnDrop key e).cu = s.cu := by
  unfold State.lrnDrop
  dsimp only
  split
  · exact ⟨rfl, rfl⟩
  · split
    · exact ⟨State.lrnMove_tbl .., State.lrnMove_cu ..⟩
    · split
      · exact ⟨State.lrnMove_tbl .., State.lrnMove_cu ..⟩
      · exact ⟨rfl, rfl⟩

@[simp] theorem State.sta_lrnDrop (s : State) (key : Nat) (e : List Word) : (s.lrnDrop key e).sta = s.sta := by
  funext k
  rw [State.sta, (s.lrnDrop_unit key e).1, State.sta]

@[simp] theorem State.lrnDrop_cu (s : State) (key : Nat) (e : List Word) : (s.lrnDrop key e).cu = s.cu :=
  (s.lrnDrop_unit key e).2

@[simp] theorem State.sta_lrnAdd (s : State) (e : List Word) : (s.lrnAdd e).sta = s.sta := by
  unfold State.lrnAdd
  split
  · exact State.sta_lrnMove ..
  · rfl

/-- R87: a station entry of the master copy once another, or itself, has been removed. -/
@[simp] theorem State.sta_staRemove (s : State) (key k : Nat) :
    (s.staRemove key).sta k = if k = key then [] else s.sta k := by
  simp [State.staRemove]

@[simp] theorem State.staRemove_cu (s : State) (key : Nat) : (s.staRemove key).cu = s.cu := by
  simp [State.staRemove]

@[simp] theorem State.sta_setTag (s : State) (t i w : Nat) : (s.setTag t i w).sta = s.sta := rfl
@[simp] theorem State.setTag_cu (s : State) (t i w : Nat) : (s.setTag t i w).cu = s.cu := rfl

/-- R197: an entry's last writer is the one written. -/
@[simp] theorem State.tagOf_setTag (s : State) (t i w : Nat) : (s.setTag t i w).tagOf t i = w := by
  simp [State.tagOf, State.setTag]

@[simp] theorem State.touch_tbl (s : State) (c : TCmd) : (s.touch c).tbl = s.tbl := by
  unfold State.touch
  split <;> rfl

@[simp] theorem State.sta_touch (s : State) (c : TCmd) : (s.touch c).sta = s.sta := by
  funext k; simp [State.sta]

@[simp] theorem State.tagOf_touch (s : State) (c : TCmd) : (s.touch c).tagOf = s.tagOf := by
  funext t i; simp [State.tagOf]

@[simp] theorem State.sta_wrote (s : State) (c : TCmd) (key : Nat) (kept : Bool) :
    (s.wrote c key kept).sta = s.sta := rfl

/-- R197: a kept entry's last writer is the command's requester. -/
@[simp] theorem State.tagOf_wrote (s : State) (c : TCmd) (key : Nat) :
    (s.wrote c key true).tagOf c.table key = reqNum c.req := s.tagOf_setTag ..

@[simp] theorem State.sta_intSweep (s : State) : s.intSweep.sta = s.sta := by
  funext k; simp [State.sta]

@[simp] theorem State.tagOf_intSweep (s : State) : s.intSweep.tagOf = s.tagOf := by
  funext t i; simp [State.tagOf]

@[simp] theorem State.hitAny_intSweep (s : State) : s.intSweep.hitAny = s.hitAny := by
  funext k; simp [State.hitAny]

@[simp] theorem State.suppressed_intSweep (s : State) : s.intSweep.suppressed = s.suppressed := by
  funext n k; simp [State.suppressed]

/-- R102: a neighbour entry of the master copy once another, or itself, has been written. -/
@[simp] theorem State.nbr_nbrPut (s : State) (key k : Nat) (e : List Word) :
    (s.nbrPut key e).nbr k = if k = key then e else s.nbr k := by
  have h : (s.nbrPut key e).unitView =
      ({ s.tbl with nbr := tset (fun _ => []) s.tbl.nbr key e }.masters, s.cu, s.epc) :=
    State.onReplicas_unitView _ fun _ _ => rfl
  have hnbr : (s.nbrPut key e).tbl.nbr = tset (fun _ => []) s.tbl.nbr key e := congrArg (·.1.nbr) h
  rw [State.nbr, hnbr, tget_tset, State.nbr]

@[simp] theorem State.nbr_wrote (s : State) (c : TCmd) (key : Nat) (kept : Bool) :
    (s.wrote c key kept).nbr = s.nbr := rfl

@[simp] theorem State.nbr_touch (s : State) (c : TCmd) : (s.touch c).nbr = s.nbr := by
  funext k; simp [State.nbr]

/-! ### Words of an entry -/

theorem wAt_setAt_self (l : List Word) (i : Nat) (w : Word) : wAt (setAt l i w) i = w := by
  simp [wAt, setAt]

theorem lt_length_of_bit_wAt {l : List Word} {i j : Nat} (h : bit (wAt l i) j = true) : i < l.length := by
  by_contra hlen
  rw [wAt, List.getElem?_eq_none (Nat.not_lt.1 hlen)] at h
  simp [bit] at h

theorem setAt_wAt {l : List Word} {i : Nat} (h : i < l.length) : setAt l i (wAt l i) = l := by
  refine List.ext_getElem (by simp [setAt]; omega) fun k hk hk' => ?_
  by_cases hki : k = i
  · subst hki; simp [setAt, wAt, hk']
  · simp [setAt, wAt, hki, hk']

theorem bit_flag_of_ne {i j : Nat} (h : j ≠ i) : bit (flag i true) j = false := by
  have hout : ¬ (i ≤ j ∧ j - i < i + 1 - i) := by omega
  rw [flag, if_pos rfl, bit_put, ← Bool.and_assoc (decide (i ≤ j)), ← Bool.decide_and, decide_eq_false hout,
    Bool.false_and, Bool.and_false]

/-- R101: clearing a bit that is clear changes nothing. -/
theorem andNot_flag_of_clear {w : Word} {i : Nat} (h : bit w i = false) : w &&& ~~~ flag i true = w := by
  refine BitVec.eq_of_getLsbD_eq fun j hj => ?_
  rw [BitVec.getLsbD_and, BitVec.getLsbD_not]
  by_cases hji : j = i
  · subst hji
    change (bit w j && _) = bit w j
    rw [h, Bool.false_and]
  · change (w.getLsbD j && (decide (j < 32) && ! bit (flag i true) j)) = w.getLsbD j
    simp [bit_flag_of_ne hji, hj]

/-! ### Overflow searches (R90, R92) -/

/-- R92: the frame of a search once the search is no longer outstanding. -/
def Search.served (x : Search) (p : Pkt) : Pkt :=
  if x.source then { p with needSa := false } else { p with needDa := false }

/-- R92: the search that has waited longest leaves its group's queue. -/
def State.searchTaken (s : State) (n : Nat) (x : Search) (l : List Search) : State :=
  (s.setGrp n { s.grp n with searches := l }).setPkt x.pkt (x.served (s.pkt x.pkt))

/-- R90, R92: the overflow entry that a search finds. -/
def State.searchHit (s : State) (n : Nat) (x : Search) : Option Nat :=
  s.overflowHit (n / 2) (recBd (s.pkt x.pkt).lrec) ((s.pkt x.pkt).staMac x.source) (s.pkt x.pkt).stamp.epoch

theorem State.overflowHit_searchTaken (s : State) (n : Nat) (x : Search) (l : List Search) :
    (s.searchTaken n x l).overflowHit (n / 2) (recBd (x.served (s.pkt x.pkt)).lrec)
      ((x.served (s.pkt x.pkt)).staMac x.source) (x.served (s.pkt x.pkt)).stamp.epoch = s.searchHit n x := by
  unfold State.searchHit Search.served
  cases x.source <;> rfl

theorem State.search_miss {s : State} {n : Nat} {x : Search} {l : List Search} (h : (s.grp n).searches = x :: l)
    (hx : s.searchHit n x = none) : s.search n = (s.searchTaken n x l).afterLookups x.pkt := by
  rw [← s.overflowHit_searchTaken n x l] at hx
  unfold State.search
  simp only [h]
  refine congrArg (State.afterLookups · x.pkt) ?_
  split
  · next key hkey => exact absurd (hkey.symm.trans hx) (Option.some_ne_none key)
  · rfl

theorem State.search_found {s : State} {n : Nat} {x : Search} {l : List Search} {key : Nat}
    (h : (s.grp n).searches = x :: l) (hx : s.searchHit n x = some key) :
    s.search n = ((s.searchTaken n x l).lookHit x.pkt x.source key).afterLookups x.pkt := by
  rw [← s.overflowHit_searchTaken n x l] at hx
  unfold State.search
  simp only [h]
  refine congrArg (State.afterLookups · x.pkt) ?_
  split
  · next found hfound =>
    cases hfound.symm.trans hx
    rfl
  · next hnone => exact absurd (hnone.symm.trans hx).symm (Option.some_ne_none key)

theorem becomes_overflowSearch {s : State} {pg : Fin 8} {x : Search} {l : List Search} (hon : s.pgOn pg = true)
    (h : (s.grp pg).searches = x :: l) : Becomes (.overflowSearch pg) s (s.search pg) :=
  becomes_of_act (f := fun s => s.search pg) rfl (by simp [hon, h])

/-! ### Learning (R96-R99) -/

/-- R98: the notices that wait, written. -/
def State.withNotices (s : State) (l : List Notice) : State := { s with cu := { s.cu with notices := l } }

@[simp] theorem State.sta_withNotices (s : State) (l : List Notice) : (s.withNotices l).sta = s.sta := rfl
theorem State.staFind_withNotices (s : State) (l : List Notice) : (s.withNotices l).staFind = s.staFind := rfl
theorem State.staRoom_withNotices (s : State) (l : List Notice) : (s.withNotices l).staRoom = s.staRoom := rfl

/-- R98: the notice that arrived first is served. -/
theorem becomes_learnInsert {s : State} {x : Notice} {l : List Notice} (hon : s.tblOn = true)
    (h : s.cu.notices = x :: l) :
    Becomes .learnInsert s ((s.withNotices l).serveNotice x) := by
  change execLearnInsert s = _
  simp [execLearnInsert, act_next, hon, h, State.withNotices]

/-- R98: a notice whose key has no entry is a new address. -/
theorem State.serveNotice_new {s : State} {x : Notice} (h : s.staFind (x.key / 2 ^ 48) (x.key % 2 ^ 48) = []) :
    s.serveNotice x = s.learnNew x 0 := by
  simp only [State.serveNotice, h]
  rfl

/-- R98, R99: a notice whose key's one entry outlasts the epoch meets it. -/
theorem State.serveNotice_met {s : State} {x : Notice} {key life : Nat}
    (h : s.staFind (x.key / 2 ^ 48) (x.key % 2 ^ 48) = [(key, life)]) (hlife : life ≠ 2) :
    s.serveNotice x = s.meetEntry x key := by
  simp only [State.serveNotice, h]
  by_cases h1 : life = 1 <;> simp [h1, hlife]

/-- R96: the entry that a notice's address is learned as, visible to both parities. -/
def Notice.entry (x : Notice) : List Word :=
  [wd (x.key % 2 ^ 48), put 31 30 0 ||| put 29 16 (x.key / 2 ^ 48) ||| put 15 0 (x.key % 2 ^ 48 / 2 ^ 32),
    lrnTarget x.lport x.member x.lag, flag 31 true ||| flag 29 true]

/-- R94: the ports whose notices placed the entries, written. -/
def State.withLrnPort (s : State) (p : Tab Nat) : State := { s with tbl := { s.tbl with lrnPort := p } }

@[simp] theorem State.sta_withLrnPort (s : State) (p : Tab Nat) : (s.withLrnPort p).sta = s.sta := rfl
@[simp] theorem State.withLrnPort_cu (s : State) (p : Tab Nat) : (s.withLrnPort p).cu = s.cu := rfl

/-- R96, R98: a new address takes the room found, and no other entry changes. -/
theorem State.learnNew_room {s : State} {x : Notice} {key : Nat}
    (hr : s.staRoom (x.key / 2 ^ 48) (x.key % 2 ^ 48) = some key) :
    (∀ k, (s.learnNew x 0).sta k = if k = key then x.entry else s.sta k) ∧ (s.learnNew x 0).cu = s.cu ∧
      (s.learnNew x 0).tagOf 0 key = 3 := by
  have hput : ∃ p, s.learnNew x 0 = (((s.staPut key x.entry).hitSet key).withLrnPort p).setTag 0 key 3 :=
    ⟨_, by simp only [State.learnNew, hr]; rfl⟩
  obtain ⟨p, hput⟩ := hput
  rw [hput]
  exact ⟨fun k => by simp, by simp, by simp⟩

/-- R98: a new address without room leaves the tables, and its key is no longer suppressed. -/
theorem State.learnNew_full {s : State} {x : Notice}
    (hr : s.staRoom (x.key / 2 ^ 48) (x.key % 2 ^ 48) = none) :
    (s.learnNew x 0).tbl = s.tbl ∧ (s.learnNew x 0).cu = s.cu ∧ (s.learnNew x 0).suppressed x.pg x.key = false := by
  simp only [State.learnNew, hr, State.learnFail]
  refine ⟨by simp, by simp, ?_⟩
  rw [State.suppressed, State.grp, State.lrnMove_groups, State.bump_groups]
  simp [State.setGrp]

/-- R99: a learned entry of another target takes the notice's. -/
theorem State.meetEntry_moves {s : State} {x : Notice} {key : Nat}
    (h : (bit (wAt (s.sta key) 3) 29 && ! bit (wAt (s.sta key) 3) 30 &&
      tgtDiffers (wAt (s.sta key) 2) (lrnTarget x.lport x.member x.lag)) = true) :
    (∀ k, (s.meetEntry x key).sta k =
        if k = key then setAt (s.sta key) 2 (lrnTarget x.lport x.member x.lag) else s.sta k) ∧
      (s.meetEntry x key).cu = s.cu ∧ (s.meetEntry x key).tagOf 0 key = 3 := by
  unfold State.meetEntry
  rw [if_pos h]
  refine ⟨fun k => ?_, ?_, State.tagOf_setTag ..⟩
  · exact (State.sta_staPut ..).trans (by rw [State.sta_lrnDrop])
  · exact (State.staPut_cu ..).trans (State.lrnDrop_cu ..)

/-- R99: a notice that moves no entry is discarded. -/
theorem State.meetEntry_stays {s : State} {x : Notice} {key : Nat}
    (h : ¬ (bit (wAt (s.sta key) 3) 29 && ! bit (wAt (s.sta key) 3) 30 &&
      tgtDiffers (wAt (s.sta key) 2) (lrnTarget x.lport x.member x.lag)) = true) :
    s.meetEntry x key = s.lrnMove x.lport (· - 1) := by
  unfold State.meetEntry
  rw [if_neg h]

/-! ### Ageing (R100, R101) -/

theorem becomes_ageingVisit {s : State} (hon : s.tblOn = true) (hdue : s.ageDue = true) :
    Becomes .ageingVisit s s.ageStep := becomes_of_act rfl (by simp [hon, hdue])

theorem State.ageVisit_skipped {s : State} {key : Nat} (h : ageSkips (s.sta key) = true) : s.ageVisit key = s := by
  simp only [State.ageVisit, h, if_true]

theorem State.ageVisit_out {s : State} {key : Nat} (h : s.ageOut key = true) : s.ageVisit key = s.staRemove key := by
  simp only [State.ageOut, Bool.and_eq_true, Bool.not_eq_true'] at h
  obtain ⟨⟨hskip, hhit⟩, hage⟩ := h
  simp [State.ageVisit, hskip, hhit, hage]

theorem State.ageVisit_idle {s : State} {key : Nat} (hskip : ageSkips (s.sta key) = false)
    (hhit : s.hitAny key = false) (hage : bit (wAt (s.sta key) 3) 28 = false) :
    s.ageVisit key = s.staPut key (setAt (s.sta key) 3 (wAt (s.sta key) 3 ||| flag 28 true)) := by
  simp [State.ageVisit, hskip, hhit, hage]

/-- R101: an entry that the sweep does not skip is valid, so it has a word 3. -/
theorem lt_length_of_not_ageSkips {e : List Word} (h : ageSkips e = false) : 3 < e.length := by
  simp only [ageSkips, Bool.or_eq_false_iff, Bool.not_eq_false'] at h
  obtain ⟨⟨hvalid, -⟩, -⟩ := h
  exact lt_length_of_bit_wAt hvalid

/-- R101: an entry that was hit loses AGE1 and its hit bits. -/
theorem State.ageVisit_hit {s : State} {key : Nat} (hskip : ageSkips (s.sta key) = false)
    (hhit : s.hitAny key = true) :
    (s.ageVisit key).sta key = setAt (s.sta key) 3 (wAt (s.sta key) 3 &&& ~~~ flag 28 true) ∧
      (s.ageVisit key).hitAny key = false := by
  simp only [State.ageVisit, hskip, hhit, if_true, Bool.false_eq_true, if_false]
  refine ⟨?_, State.hitAny_hitClear ..⟩
  cases hage : bit (wAt (s.sta key) 3) 28
  · rw [andNot_flag_of_clear hage, setAt_wAt (lt_length_of_not_ageSkips hskip)]
    simp
  · simp

theorem State.ageVisit_other (s : State) {key k : Nat} (hk : k ≠ key) : (s.ageVisit key).sta k = s.sta k := by
  unfold State.ageVisit
  dsimp only
  split
  · rfl
  · split
    · split <;> simp [hk]
    · split <;> simp [hk]

@[simp] theorem State.ageVisit_cu (s : State) (key : Nat) : (s.ageVisit key).cu = s.cu := by
  unfold State.ageVisit
  dsimp only
  split
  · rfl
  · split
    · split <;> simp
    · split <;> simp

/-- R101: the sweep's cursor has gone on, at the time it is. -/
def State.ageAdvanced (s : State) : State :=
  { s with cu := { s.cu with ageCursor := (s.cu.ageCursor + 1) % 540672, ageAt := s.mono } }

/-- R101: the sweep's next entry, visited. -/
def State.ageVisited (s : State) : State := s.ageAdvanced.ageVisit s.cu.ageCursor

/-- R91, R101: after the visit of an entry only a SPILL flag may change. -/
theorem State.ageStep_eq (s : State) :
    ∃ sp, s.ageStep = { s.ageVisited with tbl := { s.ageVisited.tbl with spill := sp } } := by
  unfold State.ageStep
  dsimp only
  split
  · unfold State.spillVisit
    split <;> exact ⟨_, rfl⟩
  · exact ⟨_, rfl⟩

theorem State.ageStep_tbl_sta (s : State) : s.ageStep.tbl.sta = s.ageVisited.tbl.sta := by
  obtain ⟨sp, h⟩ := s.ageStep_eq
  rw [h]

theorem State.sta_ageStep (s : State) : s.ageStep.sta = s.ageVisited.sta := by
  funext k
  rw [State.sta, State.ageStep_tbl_sta, State.sta]

theorem State.hitAny_ageStep (s : State) : s.ageStep.hitAny = s.ageVisited.hitAny := by
  obtain ⟨sp, h⟩ := s.ageStep_eq
  rw [h]
  rfl

theorem State.ageStep_cu (s : State) : s.ageStep.cu = s.ageAdvanced.cu := by
  obtain ⟨sp, h⟩ := s.ageStep_eq
  rw [h]
  exact State.ageVisit_cu ..

/-- R100, R101: what a visit of the sweep leaves of its entry, by what it was, and of the others. -/
theorem State.ageStep_entries (s : State) :
    let key := s.cu.ageCursor
    (ageSkips (s.sta key) = true → s.ageStep.tbl.sta = s.tbl.sta) ∧
      (s.ageOut key = true → s.ageStep.sta key = []) ∧
      (ageSkips (s.sta key) = false → s.hitAny key = true →
        s.ageStep.sta key = setAt (s.sta key) 3 (wAt (s.sta key) 3 &&& ~~~ flag 28 true) ∧
          s.ageStep.hitAny key = false) ∧
      (ageSkips (s.sta key) = false → s.hitAny key = false → bit (wAt (s.sta key) 3) 28 = false →
        s.ageStep.sta key = setAt (s.sta key) 3 (wAt (s.sta key) 3 ||| flag 28 true)) ∧
      ∀ k, k ≠ key → s.ageStep.sta k = s.sta k := by
  rw [State.ageStep_tbl_sta, State.sta_ageStep, State.hitAny_ageStep]
  change _ ∧ _ ∧ _ ∧ _ ∧ ∀ k, k ≠ s.cu.ageCursor → s.ageVisited.sta k = s.ageAdvanced.sta k
  refine ⟨fun h => ?_, fun h => ?_, State.ageVisit_hit (s := s.ageAdvanced), fun hskip hhit hage => ?_,
    fun k => State.ageVisit_other s.ageAdvanced⟩
  · rw [State.ageVisited, State.ageVisit_skipped (s := s.ageAdvanced) h]
    rfl
  · rw [State.ageVisited, State.ageVisit_out (s := s.ageAdvanced) h, State.sta_staRemove, if_pos rfl]
  · rw [State.ageVisited, State.ageVisit_idle (s := s.ageAdvanced) hskip hhit hage, State.sta_staPut, if_pos rfl]
    rfl

/-- Settles O12: a search, a notice and a visit of the sweep each do one of the few things that their entry decides. -/
theorem stationLookups : Obligations.StationLookups := by
  refine ⟨fun s pg x l hon h => ⟨fun hnone => ?_, fun key hkey => ?_⟩, fun s x l key hon h hfind hroom => ?_,
    fun s x l hon h hfind hroom => ?_, fun s x l key life hon h hfind hlife => ?_, fun s hon hdue => ?_⟩
  · have hb := becomes_overflowSearch hon h
    rwa [State.search_miss h hnone] at hb
  · have hb := becomes_overflowSearch hon h
    rwa [State.search_found h hkey] at hb
  · rw [← s.staFind_withNotices l] at hfind
    rw [← s.staRoom_withNotices l] at hroom
    obtain ⟨hsta, hcu, htag⟩ := State.learnNew_room hroom
    refine (becomes_learnInsert hon h).completes ?_
    rw [State.serveNotice_new hfind, State.sta_intSweep, State.intSweep_cu, State.tagOf_intSweep, hsta, if_pos rfl, hcu]
    exact ⟨rfl, rfl, htag, fun k hk => (hsta k).trans (if_neg hk)⟩
  · rw [← s.staFind_withNotices l] at hfind
    rw [← s.staRoom_withNotices l] at hroom
    obtain ⟨htbl, hcu, hsup⟩ := State.learnNew_full hroom
    refine (becomes_learnInsert hon h).completes ?_
    rw [State.serveNotice_new hfind, State.intSweep_tbl, State.intSweep_cu, State.suppressed_intSweep, htbl, hcu]
    exact ⟨rfl, rfl, hsup⟩
  · intro e w2
    rw [← s.staFind_withNotices l] at hfind
    refine (becomes_learnInsert hon h).completes ?_
    rw [State.serveNotice_met hfind hlife, State.intSweep_cu, State.sta_intSweep, State.tagOf_intSweep,
      State.intSweep_tbl]
    by_cases hmove : bit (wAt e 3) 29 = true ∧ bit (wAt e 3) 30 = false ∧ tgtDiffers (wAt e 2) w2 = true
    · obtain ⟨hsta, hcu, htag⟩ := State.meetEntry_moves (s := s.withNotices l) (x := x) (key := key)
        (by simpa [and_assoc] using hmove)
      rw [if_pos hmove, hcu, hsta, if_pos rfl]
      exact ⟨rfl, fun k hk => (hsta k).trans (if_neg hk), rfl, htag⟩
    · rw [if_neg hmove, State.meetEntry_stays (by simpa [and_assoc] using hmove), State.lrnMove_cu,
        State.sta_lrnMove, State.lrnMove_tbl]
      exact ⟨rfl, fun k _ => rfl, rfl⟩
  · obtain ⟨hskip, hout, hhit, hidle, hrest⟩ := s.ageStep_entries
    refine (becomes_ageingVisit hon hdue).completes ?_
    rw [State.sta_intSweep, State.intSweep_tbl, State.intSweep_cu, State.hitAny_intSweep, State.ageStep_cu]
    refine ⟨rfl, rfl, hskip, hout, fun hs hh => ?_, hidle, hrest⟩
    obtain ⟨hsta, hclear⟩ := hhit hs hh
    refine ⟨?_, hclear, hsta⟩
    rw [hsta, wAt_setAt_self]
    exact bit_andNot_flag _ (by decide)

/-! ### Slots of keyed entries (R177-R179, R191) -/

/-- A key without entries takes the room found. -/
theorem insertSlot_new (staged : Bool) (key : Nat) : insertSlot staged [] (some key) = .inr key := by
  cases staged <;> rfl

/-- R179: a staged INSERT finds the key's ALWAYS entry. -/
theorem insertSlot_always (key : Nat) (room : Option Nat) : insertSlot true [(key, 0)] room = .inl 0x08 := rfl

/-- R194: an unstaged INSERT finds the key's staged entry. -/
theorem insertSlot_fromNext (key : Nat) (room : Option Nat) : insertSlot false [(key, 1)] room = .inl 0x0B := rfl

theorem deleteSlot_none (staged : Bool) : deleteSlot staged [] = .inl 0x07 := by
  cases staged <;> rfl

/-- R177: a key's ALWAYS entry is marked by a staged DELETE and removed by an unstaged one. -/
theorem deleteSlot_always (staged : Bool) (key : Nat) :
    deleteSlot staged [(key, 0)] = .inr (key, if staged then .mark else .remove) := by
  cases staged <;> rfl

/-! ### Station entries -/

theorem State.staInsert_new {s : State} {e : List Word} {key : Nat} (c : TCmd) (hc : s.staCheck e = none)
    (hf : s.staFind (staBd e) (staMac e) = []) (hr : s.staRoom (staBd e) (staMac e) = some key) :
    let r := s.staInsert c e
    r.cpl.status = 0 ∧ r.cpl.r0 = staSlotCode key ∧ r.st.sta key = staWithLife e (b2n c.staged) ∧
      r.st.tagOf c.table key = reqNum c.req ∧ ∀ k, k ≠ key → r.st.sta k = s.sta k := by
  simp only [State.staInsert, hc, hf, hr, insertSlot_new]
  exact ⟨trivial, trivial, by simp, by simp, fun k hk => by simp [hk]⟩

theorem State.staInsert_refused {s : State} {c : TCmd} {e : List Word} {st : Nat} (hc : s.staCheck e = none)
    (hs : insertSlot c.staged (s.staFind (staBd e) (staMac e)) (s.staRoom (staBd e) (staMac e)) = .inl st)
    (hst : st ≠ 0x06) : s.staInsert c e = failWith s st := by
  simp only [State.staInsert, hc, hs, if_neg hst]

theorem State.staDelete_always {s : State} {e : List Word} {key : Nat} (c : TCmd)
    (hf : s.staFind (staBd e) (staMac e) = [(key, 0)]) :
    let r := s.staDelete c e
    r.cpl.status = 0 ∧ r.st.sta key = (if c.staged then staWithLife (s.sta key) 2 else []) ∧
      ∀ k, k ≠ key → r.st.sta k = s.sta k := by
  simp only [State.staDelete, hf, deleteSlot_always]
  cases c.staged <;> exact ⟨trivial, by simp, fun k hk => by simp [hk]⟩

theorem State.staDelete_none {s : State} {e : List Word} (c : TCmd) (hf : s.staFind (staBd e) (staMac e) = []) :
    s.staDelete c e = failWith s 0x07 := by
  simp only [State.staDelete, hf, deleteSlot_none]

/-! ### Neighbour entries -/

/-- The places of the master copy that hold the key of a neighbour entry, with their lives. -/
def State.nbrSlots (s : State) (e : List Word) : List (Nat × Nat) :=
  s.nbrFind (nbrV6 e) (fld (nbrLifeWord e) 29 16) (nbrAddr e)

/-- The place that a new neighbour entry takes. -/
def State.nbrPlace (s : State) (e : List Word) : Option Nat :=
  s.nbrRoom (nbrV6 e) (fld (nbrLifeWord e) 29 16) (nbrAddr e)

theorem State.nbrInsert_new {s : State} {c : TCmd} {e : List Word} {key : Nat} (hc : nbrCheck e c.count = none)
    (hf : s.nbrSlots e = []) (hr : s.nbrPlace e = some key) :
    let r := s.nbrInsert c e
    r.cpl.status = 0 ∧ r.cpl.r0 = wd key ∧ r.st.nbr key = nbrWithLife e (b2n c.staged) ∧
      r.st.tagOf c.table key = reqNum c.req ∧ ∀ k, k ≠ key → r.st.nbr k = s.nbr k := by
  unfold State.nbrSlots at hf
  unfold State.nbrPlace at hr
  simp only [State.nbrInsert, hc, hf, hr, insertSlot_new]
  exact ⟨trivial, trivial, by simp, by simp, fun k hk => by simp [hk]⟩

theorem State.nbrInsert_refused {s : State} {c : TCmd} {e : List Word} {st : Nat} (hc : nbrCheck e c.count = none)
    (hs : insertSlot c.staged (s.nbrSlots e) (s.nbrPlace e) = .inl st) : s.nbrInsert c e = failWith s st := by
  unfold State.nbrSlots State.nbrPlace at hs
  simp only [State.nbrInsert, hc, hs]

theorem State.nbrDelete_always {s : State} {c : TCmd} {e : List Word} {key : Nat}
    (hk : nbrKindOk e c.count = true) (hf : s.nbrSlots e = [(key, 0)]) :
    let r := s.nbrDelete c e
    r.cpl.status = 0 ∧ r.st.nbr key = (if c.staged then nbrWithLife (s.nbr key) 2 else []) ∧
      ∀ k, k ≠ key → r.st.nbr k = s.nbr k := by
  unfold State.nbrSlots at hf
  simp only [State.nbrDelete, hk, hf, deleteSlot_always]
  cases c.staged <;> exact ⟨rfl, by simp, fun k hk => by simp [hk]⟩

theorem State.nbrDelete_none {s : State} {c : TCmd} {e : List Word} (hk : nbrKindOk e c.count = true)
    (hf : s.nbrSlots e = []) : s.nbrDelete c e = failWith s 0x07 := by
  unfold State.nbrSlots at hf
  simp [State.nbrDelete, hk, hf, deleteSlot_none]

/-! ### Replication lists (R217) -/

/-- R217: a slot of the replication table once another, or itself, has been written. -/
@[simp] theorem State.repSlot_repPut (s : State) (k j : Nat) (e : RepEntry) :
    (s.repPut k e).repSlot j = if j = k then e else s.repSlot j := by
  simp [State.repSlot, State.repPut]

@[simp] theorem State.repSlot_wrote (s : State) (c : TCmd) (key : Nat) (kept : Bool) :
    (s.wrote c key kept).repSlot = s.repSlot := rfl

@[simp] theorem State.repSlot_touch (s : State) (c : TCmd) : (s.touch c).repSlot = s.repSlot := by
  funext k; simp [State.repSlot]

/-- R217: a written slot takes its list's blocks and gives back those of the list it held. -/
@[simp] theorem State.listFree_repPut (s : State) (k : Nat) (e : RepEntry) :
    (s.repPut k e).tbl.listFree = s.tbl.listFree + listBlocks (s.repSlot k).targets - listBlocks e.targets := rfl

@[simp] theorem State.listFree_wrote (s : State) (c : TCmd) (key : Nat) (kept : Bool) :
    (s.wrote c key kept).tbl.listFree = s.tbl.listFree := rfl

/-- R217: a row without a list has room in its first slot. -/
theorem State.repFind_nil {s : State} {g : Nat} (hf : s.repFind g = []) : (s.repSlot (2 * g)).valid = false := by
  have h := List.filter_eq_nil_iff.1 (List.map_eq_nil_iff.1 hf) (2 * g) (by simp)
  simpa using h

theorem State.repInsert_new {s : State} {c : TCmd} {ws : List Word} {l : List Nat} (hg : c.index < 32768)
    (hp : s.repParse ws = .inr l) (hf : s.repFind c.index = []) (hl : listBlocks l ≤ s.tbl.listFree) :
    let r := s.repInsert c ws
    r.cpl.status = 0 ∧ r.cpl.r0 = wd (2 * c.index) ∧
      r.st.repSlot (2 * c.index) = { valid := true, life := b2n c.staged, targets := l } ∧
      r.st.tbl.listFree + listBlocks l = s.tbl.listFree + listBlocks (s.repSlot (2 * c.index)).targets ∧
      ∀ j, j ≠ 2 * c.index → r.st.repSlot j = s.repSlot j := by
  simp only [State.repInsert, if_neg (Nat.not_le.2 hg), hp, hf, List.find?_cons, State.repFind_nil hf, Bool.not_false,
    insertSlot_new, if_neg (Nat.not_lt.2 hl)]
  refine ⟨trivial, trivial, ?_, ?_, fun j hj => ?_⟩
  · simp
  · simp only [State.touch_tbl, State.listFree_wrote, State.listFree_repPut]
    omega
  · simp [hj]

theorem State.repInsert_full {s : State} {c : TCmd} {ws : List Word} {l : List Nat} (hg : c.index < 32768)
    (hp : s.repParse ws = .inr l) (hf : s.repFind c.index = []) (hl : s.tbl.listFree < listBlocks l) :
    s.repInsert c ws = failWith s 0x06 := by
  simp only [State.repInsert, if_neg (Nat.not_le.2 hg), hp, hf, List.find?_cons, State.repFind_nil hf, Bool.not_false,
    insertSlot_new, if_pos hl]

theorem State.repInsert_refused {s : State} {c : TCmd} {ws : List Word} {l : List Nat} {st : Nat}
    (hg : c.index < 32768) (hp : s.repParse ws = .inr l)
    (hs : ∀ room, insertSlot c.staged (s.repFind c.index) room = .inl st) : s.repInsert c ws = failWith s st := by
  simp only [State.repInsert, if_neg (Nat.not_le.2 hg), hp, hs]

theorem State.repDelete_always {s : State} {c : TCmd} {k : Nat} (hg : c.index < 32768)
    (hf : s.repFind c.index = [(k, 0)]) :
    let r := s.repDelete c
    r.cpl.status = 0 ∧ r.st.repSlot k = (if c.staged then { s.repSlot k with life := 2 } else {}) ∧
      r.st.tbl.listFree = s.tbl.listFree + (if c.staged then 0 else listBlocks (s.repSlot k).targets) ∧
      ∀ j, j ≠ k → r.st.repSlot j = s.repSlot j := by
  simp only [State.repDelete, if_neg (Nat.not_le.2 hg), hf, deleteSlot_always]
  cases c.staged
  · exact ⟨trivial, by simp, by simp [listBlocks], fun j hj => by simp [hj]⟩
  · exact ⟨trivial, by simp, by simp, fun j hj => by simp [hj]⟩

theorem State.repDelete_none {s : State} {c : TCmd} (hg : c.index < 32768) (hf : s.repFind c.index = []) :
    s.repDelete c = failWith s 0x07 := by
  simp only [State.repDelete, if_neg (Nat.not_le.2 hg), hf, deleteSlot_none]

/-- Settles O21: the key's entries decide the slot, and a write of that slot leaves the others. -/
theorem keyedEntries : Obligations.KeyedEntries := by
  refine ⟨fun s c e key hc hf hr => State.staInsert_new c hc hf hr, fun s c e key hf => State.staDelete_always c hf,
    fun s c e key => ⟨fun hc hs hf => ?_, fun hc hs hf => ?_, fun hf => State.staDelete_none c hf⟩,
    fun s c e => ⟨fun key hc hf hr => State.nbrInsert_new hc hf hr, fun key hk hf => State.nbrDelete_always hk hf,
      fun key hc hs hf => ?_, fun key hc hs hf => ?_, fun hk hf => State.nbrDelete_none hk hf⟩,
    fun s c ws l hg => ⟨fun hp hf => ⟨State.repInsert_new hg hp hf, State.repInsert_full hg hp hf⟩,
      fun k hf => State.repDelete_always hg hf, fun k hp hs hf => ?_, fun k hp hs hf => ?_,
      fun hf => State.repDelete_none hg hf⟩⟩
  · exact State.staInsert_refused hc (by rw [hs, hf, insertSlot_always]) (by decide)
  · exact State.staInsert_refused hc (by rw [hs, hf, insertSlot_fromNext]) (by decide)
  · exact State.nbrInsert_refused hc (by rw [hs, State.nbrSlots, hf, insertSlot_always])
  · exact State.nbrInsert_refused hc (by rw [hs, State.nbrSlots, hf, insertSlot_fromNext])
  · exact State.repInsert_refused hg hp fun room => by rw [hs, hf, insertSlot_always]
  · exact State.repInsert_refused hg hp fun room => by rw [hs, hf, insertSlot_fromNext]

/-! ### Tree nodes and roots (R150, R177) -/

/-- R148: a node written in the master copy leaves the nodes' states. -/
theorem State.treePut_unitView (s : State) (i : Nat) (e : List Word) :
    (s.treePut i e).unitView = ({ s.tbl with tree := tset (fun _ => []) s.tbl.tree i e }.masters, s.cu, s.epc) :=
  State.onGroups_unitView _ fun _ _ => rfl

@[simp] theorem State.tree_treePut (s : State) (i : Nat) (e : List Word) :
    (s.treePut i e).tbl.tree = tset (fun _ => []) s.tbl.tree i e := congrArg (·.1.tree) (s.treePut_unitView i e)

@[simp] theorem State.nodeSt_treePut (s : State) (i : Nat) (e : List Word) : (s.treePut i e).nodeSt = s.nodeSt := by
  have hnode : (s.treePut i e).tbl.node = s.tbl.node := congrArg (·.1.node) (s.treePut_unitView i e)
  funext k
  rw [State.nodeSt, hnode, State.nodeSt]

@[simp] theorem State.nodeSt_setNode (s : State) (i j : Nat) (x : NodeState) :
    (s.setNode i x).nodeSt j = if j = i then x else s.nodeSt j := tget_tset ..

@[simp] theorem State.tree_setNode (s : State) (i : Nat) (x : NodeState) : (s.setNode i x).tbl.tree = s.tbl.tree := rfl

@[simp] theorem State.nodeSt_wrote (s : State) (c : TCmd) (key : Nat) (kept : Bool) :
    (s.wrote c key kept).nodeSt = s.nodeSt := rfl

@[simp] theorem State.tree_wrote (s : State) (c : TCmd) (key : Nat) (kept : Bool) :
    (s.wrote c key kept).tbl.tree = s.tbl.tree := rfl

@[simp] theorem State.nodeSt_touch (s : State) (c : TCmd) : (s.touch c).nodeSt = s.nodeSt := by
  funext k; simp [State.nodeSt]

theorem State.treeWriteRun_free {s : State} {c : TCmd} {ws : List Word} (hi : c.index < 49152)
    (hst : s.nodeSt c.index = .free) (hok : nodeOk (padTo 8 ws) = true) :
    let r := s.treeWriteRun c ws
    r.cpl.status = 0 ∧ r.st.nodeSt c.index = .staged ∧
      tget (fun _ => []) r.st.tbl.tree c.index = padTo 8 ws ∧
      ∀ i, i ≠ c.index → r.st.nodeSt i = s.nodeSt i ∧
        tget (fun _ => []) r.st.tbl.tree i = tget (fun _ => []) s.tbl.tree i := by
  simp only [State.treeWriteRun, if_neg (Nat.not_le.2 hi), hst, hok]
  exact ⟨rfl, by simp, by simp, fun i hi => by simp [hi]⟩

theorem State.treeWriteRun_taken {s : State} {c : TCmd} (ws : List Word) (hi : c.index < 49152)
    (hst : s.nodeSt c.index ≠ .free) : s.treeWriteRun c ws = failWith s 0x0C := by
  simp only [State.treeWriteRun, if_neg (Nat.not_le.2 hi), if_pos hst]

theorem State.treeRetireRun_live {s : State} {c : TCmd} (hi : c.index < 49152) (hst : s.nodeSt c.index = .live) :
    (s.treeRetireRun c).st.nodeSt c.index = .retiring ∧ (s.treeRetireRun c).st.tbl.tree = s.tbl.tree := by
  simp only [State.treeRetireRun, if_neg (Nat.not_le.2 hi), hst]
  exact ⟨by simp, by simp⟩

/-- R149, R177: the root of the staging parity is written, and that alone. -/
theorem State.setRootRun_root {s : State} {c : TCmd} (hv : (c.arg0.setWidth 16 : BitVec 16).toNat < 49152) :
    let e := (s.setRootRun c).st.epc
    if s.epc.s then e.rootA = c.arg0.setWidth 16 ∧ e.rootC = s.epc.rootC
    else e.rootC = c.arg0.setWidth 16 ∧ e.rootA = s.epc.rootA := by
  simp only [State.setRootRun, if_neg (Nat.not_le.2 hv), State.setRootOf]
  cases s.epc.s <;> exact ⟨rfl, rfl⟩

/-! ### Copy tables (R169, R177) -/

/-- R169: the key of an entry of one parity is none of the other's. -/
theorem cpKey_other_parity (table : Nat) (par : Bool) {i j : Nat} (hi : i < 65536) (hj : j < 65536) :
    cpKey table (! par) i ≠ cpKey table par j := by
  unfold cpKey
  cases par
  · change (2 * table + 1) * 65536 + i ≠ (2 * table + 0) * 65536 + j
    omega
  · change (2 * table + 0) * 65536 + i ≠ (2 * table + 1) * 65536 + j
    omega

theorem cpSize_lt (table : Nat) : cpSize table < 65536 := by
  unfold cpSize
  split <;> decide

@[simp] theorem padTo_padTo (n : Nat) (l : List Word) : padTo n (padTo n l) = padTo n l := by
  refine List.map_congr_left fun i hi => ?_
  have hi : i < n := List.mem_range.1 hi
  simp [wAt, padTo, hi]

/-- R169: an entry of the master copies once one of them has been written. -/
theorem State.cpMaster_cpPut (s : State) (table : Nat) (par p : Bool) (idx i : Nat) (e : List Word) :
    (s.cpPut table par idx e).cpMaster table p i =
      if cpKey table p i = cpKey table par idx then padTo (cpWords table) e else s.cpMaster table p i := by
  have h : (s.cpPut table par idx e).unitView = ({ s.tbl with
      cp := tset cpReset s.tbl.cp (cpKey table par idx) (padTo (cpWords table) e) }.masters, s.cu, s.epc) :=
    State.onGroups_unitView _ fun _ _ => rfl
  have hcp : (s.cpPut table par idx e).tbl.cp =
    tset cpReset s.tbl.cp (cpKey table par idx) (padTo (cpWords table) e) := congrArg (·.1.cp) h
  rw [State.cpMaster, hcp, tget_tset, State.cpMaster]

@[simp] theorem State.cpMaster_setDirty (s : State) (t i : Nat) (b : Bool) :
    (s.setDirty t i b).cpMaster = s.cpMaster := rfl
@[simp] theorem State.cpMaster_wrote (s : State) (c : TCmd) (key : Nat) (kept : Bool) :
    (s.wrote c key kept).cpMaster = s.cpMaster := rfl

@[simp] theorem State.cpMaster_touch (s : State) (c : TCmd) : (s.touch c).cpMaster = s.cpMaster := by
  funext t p i; simp [State.cpMaster]

@[simp] theorem State.cpDirty_setDirty (s : State) (t i : Nat) (b : Bool) : (s.setDirty t i b).cpDirty t i = b := by
  simp [State.cpDirty, State.setDirty]

@[simp] theorem State.cpDirty_wrote (s : State) (c : TCmd) (key : Nat) (kept : Bool) :
    (s.wrote c key kept).cpDirty = s.cpDirty := rfl

@[simp] theorem State.cpDirty_touch (s : State) (c : TCmd) : (s.touch c).cpDirty = s.cpDirty := by
  funext t i; simp [State.cpDirty]

theorem State.cpWrite_staged {s : State} {c : TCmd} {ws : List Word} (hst : c.staged = true)
    (hi : c.index < cpSize c.table) (hport : c.table = 8 → c.index < s.nPorts)
    (hc : s.cpCheck c.table c.index (padTo (cpWords c.table) ws) [s.epc.s] = none) :
    let r := s.cpWrite c ws
    r.cpl.status = 0 ∧ r.st.cpMaster c.table s.epc.s c.index = padTo (cpWords c.table) ws ∧
      r.st.cpDirty c.table c.index = true ∧
      ∀ i, i < 65536 → r.st.cpMaster c.table (! s.epc.s) i = s.cpMaster c.table (! s.epc.s) i := by
  have hp : ¬ (decide (c.table = 8) && decide (s.nPorts ≤ c.index)) = true := by simpa using hport
  have hidx : c.index < 65536 := hi.trans (cpSize_lt _)
  simp only [State.cpWrite, if_neg (Nat.not_le.2 hi), if_neg hp, hst, if_true, hc, List.foldl_cons, List.foldl_nil]
  refine ⟨rfl, ?_, ?_, fun i hi => ?_⟩
  · simp [State.cpMaster_cpPut]
  · simp
  · simp [State.cpMaster_cpPut, cpKey_other_parity _ _ hi hidx]

/-! ### Associative entries and bank widths (R74-R77, R177, R178) -/

/-- R77: a launch leaves the master copies. -/
theorem State.ascLaunch_masters (s : State) (idx : Nat) (words : List Word) (width : Option Nat) :
    (s.ascLaunch idx words width).2.tbl.masters = s.tbl.masters := by
  have h : ((List.range s.nGroups).foldl (fun st n =>
      if ((List.range s.nGroups).filter fun n => s.isLit (domPg n)).contains n then st.wakePg n else st.setStale n)
      s).unitView = s.unitView := by
    refine foldl_same _ _ (fun st n => ?_) _ s
    split
    · exact State.wakePg_unitView ..
    · exact State.setStale_unitView ..
  exact congrArg (·.1) h

/-- R77, R196: a launched write is for the six pipes of each group that is lit. -/
theorem State.ascLaunch_left (s : State) (idx : Nat) (words : List Word) (width : Option Nat) (p : Nat) :
    p ∈ (s.ascLaunch idx words width).1.left ↔ p / 6 < s.nGroups ∧ s.isLit (domPg (p / 6)) = true := by
  simp only [State.ascLaunch, List.mem_flatMap, List.mem_filter, List.mem_range, List.mem_map]
  constructor
  · rintro ⟨n, hn, q, hq, rfl⟩
    rwa [(by omega : (6 * n + q) / 6 = n)]
  · exact fun h => ⟨p / 6, h, p % 6, Nat.mod_lt _ (by decide), Nat.div_add_mod p 6⟩

/-- R77, R177: a command has written an associative entry of the master copy, that alone, and has launched it to the
pipes of the groups that are lit. -/
def State.AscGoes (s : State) (idx : Nat) (r : CmdRes) (e : AscEntry) : Prop :=
  r.cpl.status = 0 ∧ r.st.asc idx = e ∧ (∀ k, k ≠ idx → r.st.asc k = s.asc k) ∧
    (r.fans.map fun f => (f.idx, f.words, f.width)) = [(idx, e.words, none)] ∧
    ∀ f ∈ r.fans, ∀ p, p ∈ f.left ↔ p / 6 < s.nGroups ∧ s.isLit (domPg (p / 6)) = true

@[simp] theorem State.asc_ascPut (s : State) (idx k : Nat) (e : AscEntry) :
    (s.ascPut idx e).2.asc k = if k = idx then e else s.asc k := by
  have h : (s.ascPut idx e).2.tbl.asc = tset (fun _ => {}) s.tbl.asc idx e :=
    congrArg Tables.asc (State.ascLaunch_masters ..)
  rw [State.asc, h, tget_tset, State.asc]

@[simp] theorem State.asc_wrote (s : State) (c : TCmd) (key : Nat) (kept : Bool) :
    (s.wrote c key kept).asc = s.asc := rfl

@[simp] theorem State.asc_touch (s : State) (c : TCmd) : (s.touch c).asc = s.asc := by
  funext k; simp [State.asc]

/-- R77: what a command that puts an associative entry completes with goes to the copies. -/
theorem State.ascPut_goes (s : State) (c : TCmd) (idx : Nat) (e : AscEntry) (other : Option Req) (kept : Bool) :
    s.AscGoes idx
      { cpl := { other := other, r0 := wd idx }, st := ((s.ascPut idx e).2.wrote c idx kept).touch c,
        fans := [(s.ascPut idx e).1] } e := by
  refine ⟨rfl, by simp, fun k hk => by simp [hk], rfl, fun f hf p => ?_⟩
  rw [List.mem_singleton.1 hf]
  exact State.ascLaunch_left ..

/-- R177, R178: a staged WRITE_INDEX stores its units for parity S. -/
theorem State.ascWrite_staged {s : State} {c : TCmd} {ws : List Word} (hi : s.ascIndexOk c.index = true)
    (hok : ascOk ws (widthUnits (s.ascWidth (c.index / 512))) = true) (hst : c.staged = true)
    (hold : (s.asc c.index).words = [] ∨ (s.asc c.index).life = .fromNext) :
    s.AscGoes c.index (s.ascWrite c ws)
      { words := ascStore ws (widthUnits (s.ascWidth (c.index / 512))) true s.epc.s, life := .fromNext } := by
  have hroom : ¬ (! (s.asc c.index).words.isEmpty && decide ((s.asc c.index).life ≠ .fromNext)) = true := by
    simpa [or_iff_not_imp_left] using hold
  simp only [State.ascWrite, hi, hok, hst, Bool.true_and, if_neg hroom]
  exact State.ascPut_goes ..

/-- R177: an unstaged WRITE_INDEX stores its units for both parities. -/
theorem State.ascWrite_unstaged {s : State} {c : TCmd} {ws : List Word} (hi : s.ascIndexOk c.index = true)
    (hok : ascOk ws (widthUnits (s.ascWidth (c.index / 512))) = true) (hst : c.staged = false)
    (hlife : (s.asc c.index).life = .always) :
    s.AscGoes c.index (s.ascWrite c ws)
      { words := ascStore ws (widthUnits (s.ascWidth (c.index / 512))) false false, life := .always } := by
  simp only [State.ascWrite, hi, hok, hst, hlife]
  exact State.ascPut_goes ..

/-- R177: a staged DELETE rewrites an ALWAYS entry for parity C. -/
theorem State.ascDelete_marks {s : State} {c : TCmd} (hi : s.ascIndexOk c.index = true)
    (hw : (s.asc c.index).words ≠ []) (hst : c.staged = true) (hlife : (s.asc c.index).life = .always) :
    s.AscGoes c.index (s.ascDelete c)
      (ascMarked (s.asc c.index) (widthUnits (s.ascWidth (c.index / 512))) s.epc.c) := by
  have hw : ¬ (s.asc c.index).words.isEmpty = true := by simpa using hw
  simp only [State.ascDelete, hi, if_neg hw, hst, hlife]
  exact State.ascPut_goes ..

/-- R177: a DELETE removes a staged entry where it is staged, and an ALWAYS entry where not. -/
theorem State.ascDelete_removes {s : State} {c : TCmd} (hi : s.ascIndexOk c.index = true)
    (hw : (s.asc c.index).words ≠ []) (hlife : (s.asc c.index).life = if c.staged then .fromNext else .always) :
    s.AscGoes c.index (s.ascDelete c) {} := by
  have hw : ¬ (s.asc c.index).words.isEmpty = true := by simpa using hw
  simp only [State.ascDelete, hi, if_neg hw, hlife]
  cases c.staged <;> exact State.ascPut_goes ..

/-- R177: an entry that already ends with the next epoch stays. -/
theorem State.ascDelete_untilNext {s : State} {c : TCmd} (hi : s.ascIndexOk c.index = true)
    (hw : (s.asc c.index).words ≠ []) (hst : c.staged = true) (hlife : (s.asc c.index).life = .untilNext) :
    (s.ascDelete c).cpl.status = 0 ∧ (s.ascDelete c).st.tbl = s.tbl ∧ (s.ascDelete c).fans = [] := by
  simp [State.ascDelete, hi, hw, hst, hlife]

theorem State.ascDelete_refused {s : State} {c : TCmd} (hi : s.ascIndexOk c.index = true)
    (hw : (s.asc c.index).words ≠ []) (hst : c.staged = false) (hlife : (s.asc c.index).life ≠ .always) :
    s.ascDelete c = failWith s 0x0B := by
  simp [State.ascDelete, hi, hw, hst, hlife]

theorem State.ascDelete_none {s : State} {c : TCmd} (hi : s.ascIndexOk c.index = true)
    (hw : (s.asc c.index).words = []) : s.ascDelete c = failWith s 0x07 := by
  simp [State.ascDelete, hi, hw]

/-- R178: a staged WRITE_INDEX finds an entry that the current parity sees. -/
theorem State.ascWrite_taken {s : State} {c : TCmd} {ws : List Word} (hi : s.ascIndexOk c.index = true)
    (hok : ascOk ws (widthUnits (s.ascWidth (c.index / 512))) = true) (hst : c.staged = true)
    (hw : (s.asc c.index).words ≠ []) (hlife : (s.asc c.index).life ≠ .fromNext) :
    s.ascWrite c ws = failWith s 0x06 := by
  simp [State.ascWrite, hi, hok, hst, hw, hlife]

theorem State.ascWrite_refused {s : State} {c : TCmd} {ws : List Word} (hi : s.ascIndexOk c.index = true)
    (hok : ascOk ws (widthUnits (s.ascWidth (c.index / 512))) = true) (hst : c.staged = false)
    (hlife : (s.asc c.index).life ≠ .always) : s.ascWrite c ws = failWith s 0x0B := by
  simp [State.ascWrite, hi, hok, hst, hlife]

/-- R74: a bank's width where the master copies are those after a width has been written. -/
theorem State.ascWidth_of_masters {s t : State} {bank w : Nat}
    (h : t.tbl.masters = { s.tbl with ascW := tset (fun _ => 0) s.tbl.ascW bank w }.masters) (b : Nat) :
    t.ascWidth b = if b = bank then w else s.ascWidth b := by
  have hw : t.tbl.ascW = tset (fun _ => 0) s.tbl.ascW bank w := congrArg Tables.ascW h
  rw [State.ascWidth, hw, tget_tset, State.ascWidth]

/-- R74: the width of an empty bank is set, and that alone. -/
theorem State.widthRun_empty {s : State} {c : TCmd} (hb : c.index / 512 < 8) (hw : fld c.arg0 1 0 ≠ 3)
    (hv : s.ascValid (c.index / 512) = 0) :
    let r := s.widthRun c
    r.cpl.status = 0 ∧ r.st.ascWidth (c.index / 512) = fld c.arg0 1 0 ∧ r.st.tbl.asc = s.tbl.asc ∧
      ∀ b, b ≠ c.index / 512 → r.st.ascWidth b = s.ascWidth b := by
  have hgo : ¬ (decide (fld c.arg0 1 0 = 3) || decide (0 < s.ascValid (c.index / 512))) = true := by simp [hw, hv]
  simp only [State.widthRun, if_neg (Nat.not_le.2 hb), if_neg hgo]
  have hlaunch := State.ascLaunch_masters { s with tbl :=
    { s.tbl with ascW := tset (fun _ => 0) s.tbl.ascW (c.index / 512) (fld c.arg0 1 0) } }
    (512 * (c.index / 512)) [] (some (fld c.arg0 1 0))
  refine ⟨trivial, ?_, (congrArg Tables.asc hlaunch :), fun b hne => ?_⟩
  · rw [State.ascWidth_of_masters hlaunch, if_pos rfl]
  · rw [State.ascWidth_of_masters hlaunch, if_neg hne]

/-- Settles O22: what the checks let through is written in the master copy, and every other entry stays. -/
theorem indexedEntries : Obligations.IndexedEntries := by
  refine ⟨fun s c ws => ⟨State.treeWriteRun_free, State.treeWriteRun_taken ws, State.treeRetireRun_live,
      State.setRootRun_root⟩,
    fun s c ws hst hi hport _ hc => State.cpWrite_staged hst hi hport hc,
    fun s c ws hi => ⟨fun hok => ⟨State.ascWrite_staged hi hok, State.ascWrite_taken hi hok,
        State.ascWrite_unstaged hi hok, State.ascWrite_refused hi hok⟩,
      State.ascDelete_none hi,
      fun hw => ⟨State.ascDelete_marks hi hw,
        fun hst hlife => State.ascDelete_removes hi hw (by rw [hlife, if_pos hst]),
        State.ascDelete_untilNext hi hw,
        fun hst hlife => State.ascDelete_removes hi hw (by rw [hlife, hst]; rfl), State.ascDelete_refused hi hw⟩⟩,
    fun s c hb hw hv => State.widthRun_empty hb hw hv⟩

/-! ### The direct banks (R191, R198) -/

/-- The requester of a direct bank. -/
def goReq (b : Fin 3) : Req := if b = 0 then .host0 else if b = 1 then .host1 else .chain

theorem reqNum_goReq (b : Fin 3) : reqNum (goReq b) = b := by
  fin_cases b <;> rfl

theorem becomes_tblCmdGo {s : State} (r : Req) (b : Fin 3) (v : Word) (ho : s.Open domTbl) :
    Becomes (.tblCmdGo r b v) s (s.submit (goReq b) v) :=
  becomes_of_access (f := fun s => s.submit (goReq b) v) rfl ho

/-- R191: where the head's opcode is defined, no command is skipped. -/
theorem State.cuTidy_eq {s : State} (h : ∀ x, s.cuHead = some x → opDefined x.op = true) : s.cuTidy = s := by
  unfold State.cuTidy
  cases s.cu.q.length with
  | zero => rfl
  | succ n =>
    cases hhead : s.cuHead with
    | none => simp only [State.cuSkip, hhead]
    | some x => simp only [State.cuSkip, hhead, h x hhead, if_true]

theorem State.submit_ignored {s : State} {b : Fin 3} {v : Word}
    (h : bit v 31 = false ∨ s.cu.busy[b.val]? = some true) : s.submit (goReq b) v = s := by
  unfold State.submit
  rw [reqNum_goReq]
  rcases h with h | h <;> simp [h]

/-- R198: the descriptor that a bank's GO queues. -/
def State.bankCmd (s : State) (b : Fin 3) : TCmd :=
  { src := .bank (goReq b), handle := put 31 28 15 ||| put 27 0 ((s.cu.seqs[b.val]?).getD 0),
    desc := (List.range 8).map fun i => s.rg .tblDesc 0 i b }

theorem State.submit_queued {s : State} {b : Fin 3} {v : Word} (hgo : bit v 31 = true)
    (hbusy : s.cu.busy[b.val]? = some false) :
    s.submit (goReq b) v = ({ s with cu := { s.cu with
      q := s.cu.q ++ [s.bankCmd b], busy := s.cu.busy.set b true,
      seqs := s.cu.seqs.set b (((s.cu.seqs[b.val]?).getD 0 + 1) % 2 ^ 28) } } : State).cuTidy := by
  unfold State.submit
  rw [reqNum_goReq, if_pos (by simp [hgo, hbusy])]
  rfl

/-! ### Associative copies: writes and comparison (R77, R79, R80) -/

theorem becomes_ascCopyWrite {s : State} {pipe : Fin 48} {f : Fan} (hon : s.tblOn = true)
    (hf : s.fanNext pipe = some f) (ht : f.at_ ≤ s.mono) : Becomes (.ascCopyWrite pipe) s (s.pipeWrite pipe) :=
  becomes_of_act (f := fun s => s.pipeWrite pipe) rfl (by simp [hon, hf, ht])

theorem State.pipeWrite_lit {s : State} {pipe : Nat} {f : Fan} (hf : s.fanNext pipe = some f)
    (hlit : s.isLit (domPg (pipe / 6)) = true) :
    s.pipeWrite pipe = (({ s.ascTake pipe f with
      cu := { (s.ascTake pipe f).cu with fan := fanTake pipe s.cu.fan } } : State).fanDone
        (fanTake pipe s.cu.fan).length).cuTidy := by
  have hfan : (s.ascTake pipe f).cu = s.cu := by simp [State.ascTake]
  simp only [State.pipeWrite, hf, hlit, if_true, hfan]

/-- R80: the comparison of one pipe's copy in one bank, as the scan of a unit makes it. -/
def State.compareCopy (unit : Nat) (upsets : List (Nat × Nat)) (p : Nat) (u : State) (b : Nat) : State :=
  if u.cu.fan.any fun f => f.idx / 512 == b && (f.width.isSome || f.idx == u.ascUnitKey b unit) then u
  else
    let u := if upsets.contains (p, b) then u.ascUpset p b unit else u
    let r := (p, 512 * b + unit)
    if (upsets.contains (p, b) || u.ascDiffers p b unit) && ! u.cu.repairs.contains r then
      { u with cu := { u.cu with repairs := u.cu.repairs ++ [r] } }
    else u

/-- R80: the pipes of the Active groups. -/
def State.comparedPipes (s : State) : List Nat :=
  ((List.range s.nGroups).filter fun n => s.isActive (domPg n)).flatMap fun n => (List.range 6).map fun p => 6 * n + p

theorem State.ascScan_eq (s : State) (unit : Nat) (upsets : List (Nat × Nat)) :
    s.ascScan unit upsets =
      s.comparedPipes.foldl (fun st p => (List.range 8).foldl (State.compareCopy unit upsets p) st) s := rfl

/-- R80: comparisons without an upset, while no write is on its way, leave the tables and add to the repairs. -/
structure State.Compared (s t : State) : Prop where
  tbl : t.tbl = s.tbl
  fan : s.cu.fan = [] → t.cu.fan = []
  repairs : s.cu.repairs ⊆ t.cu.repairs

theorem State.Compared.refl (s : State) : s.Compared s := ⟨rfl, id, List.Subset.refl _⟩

theorem State.Compared.trans {s t u : State} (h : s.Compared t) (g : t.Compared u) : s.Compared u :=
  ⟨g.tbl.trans h.tbl, g.fan ∘ h.fan, List.Subset.trans h.repairs g.repairs⟩

theorem State.Compared.foldl {f : State → Nat → State}
    (h : ∀ (s : State) a, s.Compared (f s a)) (l : List Nat) (s : State) :
    s.Compared (l.foldl f s) :=
  List.foldlRecOn l f (motive := fun t => s.Compared t) (.refl s) fun t ht a _ => ht.trans (h t a)

/-- What one step of a loop of comparisons finds is among the repairs after the loop. -/
theorem State.Compared.found {f : State → Nat → State}
    (h : ∀ (s : State) a, s.Compared (f s a)) {l : List Nat} {a : Nat}
    (ha : a ∈ l) {r : Nat × Nat} {s : State} (hr : ∀ t, s.Compared t → r ∈ (f t a).cu.repairs) :
    r ∈ (l.foldl f s).cu.repairs := by
  obtain ⟨before, after, rfl⟩ := List.append_of_mem ha
  rw [List.foldl_append, List.foldl_cons]
  exact (State.Compared.foldl h after _).repairs (hr _ (State.Compared.foldl h before s))

theorem State.compareCopy_compared (unit p : Nat) (s : State) (b : Nat) :
    s.Compared (s.compareCopy unit [] p b) := by
  unfold State.compareCopy
  simp only [List.contains_nil, Bool.false_eq_true, if_false]
  split
  · exact .refl s
  · split
    · exact ⟨rfl, id, List.subset_append_left ..⟩
    · exact .refl s

theorem State.compareCopy_found {s : State} {unit p b : Nat} (hfan : s.cu.fan = [])
    (hd : s.ascDiffers p b unit = true) : (p, 512 * b + unit) ∈ (s.compareCopy unit [] p b).cu.repairs := by
  simp only [State.compareCopy, hfan, List.any_nil, List.contains_nil, hd, Bool.false_eq_true, if_false,
    Bool.false_or, Bool.true_and, Bool.not_eq_true']
  split
  · simp
  · simp_all

theorem State.ascDiffers_of_tbl {s t : State} (h : t.tbl = s.tbl) : t.ascDiffers = s.ascDiffers := by
  funext p b unit
  unfold State.ascDiffers State.ascUnitKey State.ascWidth State.asc
  rw [h]

theorem State.ascScan_compared (s : State) (unit : Nat) : s.Compared (s.ascScan unit []) :=
  .foldl (fun t p => .foldl (State.compareCopy_compared unit p) _ t) _ s

/-- R80: a differing copy of an Active group is found. -/
theorem State.ascScan_found {s : State} {unit n p b : Nat} (hfan : s.cu.fan = []) (hn : n < s.nGroups)
    (ha : s.isActive (domPg n) = true) (hp : p < 6) (hb : b < 8) (hd : s.ascDiffers (6 * n + p) b unit = true) :
    (6 * n + p, 512 * b + unit) ∈ (s.ascScan unit []).cu.repairs := by
  have hpipe : 6 * n + p ∈ s.comparedPipes :=
    List.mem_flatMap.2 ⟨n, List.mem_filter.2 ⟨List.mem_range.2 hn, ha⟩, List.mem_map.2 ⟨p, List.mem_range.2 hp, rfl⟩⟩
  rw [State.ascScan_eq]
  refine State.Compared.found (fun t q => .foldl (State.compareCopy_compared unit q) _ t) hpipe fun t ht => ?_
  refine State.Compared.found (State.compareCopy_compared unit _) (List.mem_range.2 hb) fun u hu => ?_
  have hsu := ht.trans hu
  exact State.compareCopy_found (hsu.fan hfan) (by rw [State.ascDiffers_of_tbl hsu.tbl, hd])

theorem becomes_ascRepair {s : State} {pipe : Fin 48} (hon : s.tblOn = true) (hpg : s.pgOn (pipe / 6) = true) :
    Becomes (.ascRepair pipe) s (s.ascFix pipe) :=
  becomes_of_act (f := fun s => s.ascFix pipe) rfl (by simp [hon, hpg])

/-- Settles O23: the bank's GO, one copy's write, the scan's two loops, and the repair. -/
theorem commandUnit : Obligations.CommandUnit := by
  refine ⟨fun s r b v ho => ⟨fun hgo hbusy => ?_, State.cuTidy_eq, fun h => ?_⟩, fun s pipe f hon hf ht hlit => ?_,
    fun s unit hon hfan => ?_, fun s pipe r hon hpg hr => ?_⟩
  · have hb := becomes_tblCmdGo r b v ho
    rwa [State.submit_queued hgo hbusy] at hb
  · have hb := becomes_tblCmdGo r b v ho
    rwa [State.submit_ignored h] at hb
  · have hb := becomes_ascCopyWrite hon hf ht
    rwa [State.pipeWrite_lit hf hlit] at hb
  · have hb : Becomes (.ascCompare unit []) s (s.ascScan unit []) :=
      becomes_of_act (f := fun s => s.ascScan unit []) rfl hon
    refine hb.completes ?_
    rw [State.intSweep_tbl, State.intSweep_cu]
    exact ⟨(s.ascScan_compared unit).tbl, fun n hn ha p hp b hb hd => State.ascScan_found hfan hn ha hp hb hd⟩
  · have hb := becomes_ascRepair hon hpg
    unfold State.ascFix at hb
    rwa [hr] at hb

end Sys2Proof.Machine
end

section
/-! PROOFS of the family 04_nirum_engines: the image slots, the control stores and the image port. -/
namespace Sys2Proof.Machine

open Sys2Proof

/-! ### What the interrupt lines leave alone -/

@[simp] theorem State.clu_intSweep (s : State) : s.intSweep.clu = s.clu := by
  funext c; simp [State.clu]

@[simp] theorem State.thr_intSweep (s : State) : s.intSweep.thr = s.thr := by
  funext k; simp [State.thr]

@[simp] theorem State.pkt_intSweep (s : State) : s.intSweep.pkt = s.pkt := by
  funext k; simp [State.pkt]

@[simp] theorem State.slot_intSweep (s : State) : s.intSweep.slot = s.slot := by
  funext c i; simp [State.slot]

@[simp] theorem State.cword_intSweep (s : State) : s.intSweep.cword = s.cword := by
  funext c i a; simp [State.cword]

/-! ### Image slots and control stores (R122, R138, R145) -/

/-- An image slot of a cluster, where the cluster has it, is written. -/
def State.setSlot (s : State) (c i : Nat) (x : Slot) : State :=
  s.setClu c { s.clu c with slots := (s.clu c).slots.mapIdx fun j y => if j = i then x else y }

theorem State.invalSlot_eq (s : State) (c i : Nat) : s.invalSlot c i = s.setSlot c i {} := rfl

@[simp] theorem State.setSlot_img (s : State) (c i : Nat) (x : Slot) : (s.setSlot c i x).img = s.img :=
  State.setClu_img ..

@[simp] theorem State.setSlot_cstore (s : State) (c i : Nat) (x : Slot) : (s.setSlot c i x).cstore = s.cstore :=
  State.setClu_cstore ..

theorem State.slots_length_setSlot (s : State) (c i d : Nat) (x : Slot) :
    ((s.setSlot c i x).clu d).slots.length = (s.clu d).slots.length := by
  by_cases h : d = c <;> simp [State.setSlot, h]

theorem State.slot_setSlot (s : State) (c i d j : Nat) (x : Slot) :
    (s.setSlot c i x).slot d j =
      if d = c ∧ j = i ∧ j < (s.clu c).slots.length then x else s.slot d j := by
  by_cases hd : d = c
  · subst hd
    by_cases hj : j < (s.clu d).slots.length
    · rcases eq_or_ne j i with rfl | hi
      · simp [State.slot, State.setSlot, hj]
      · simp [State.slot, State.setSlot, hj, hi]
    · simp [State.slot, State.setSlot, hj]
  · simp [State.slot, State.setSlot, hd]

/-- R145: one slot of several clusters is written. -/
theorem State.slot_foldl_setSlot (l : List Nat) (i : Nat) (x : Slot) (d j : Nat) :
    ∀ s : State, (l.foldl (fun st c => st.setSlot c i x) s).slot d j =
      if d ∈ l ∧ j = i ∧ j < (s.clu d).slots.length then x else s.slot d j := by
  induction l with
  | nil => simp
  | cons c l ih =>
    intro s
    rw [List.foldl_cons, ih, s.slots_length_setSlot, s.slot_setSlot]
    by_cases hd : d = c <;> grind

theorem csKey_inj {c i a d j b : Nat} (hi : i < 2) (hj : j < 2) (ha : a < 16384) (hb : b < 16384) :
    csKey d j b = csKey c i a ↔ d = c ∧ j = i ∧ b = a := by
  unfold csKey; omega

theorem State.cword_setCword (s : State) (c i a d j b : Nat) (w : BitVec 144) :
    (s.setCword c i a w).cword d j b = if csKey d j b = csKey c i a then w else s.cword d j b := by
  simp [State.cword, State.setCword]

/-- R145: one microword of several clusters is written. -/
theorem State.cword_foldl_setCword (l : List Nat) (i a : Nat) (w : BitVec 144) {d j b : Nat} (hi : i < 2)
    (ha : a < 16384) (hj : j < 2) (hb : b < 16384) :
    ∀ s : State, (l.foldl (fun st c => st.setCword c i a w) s).cword d j b =
      if d ∈ l ∧ j = i ∧ b = a then w else s.cword d j b := by
  induction l with
  | nil => simp
  | cons c l ih =>
    intro s
    simp only [List.foldl_cons, ih, State.cword_setCword, csKey_inj hi hj ha hb]
    by_cases hd : d = c <;> grind

/-! ### The image port (R144, R145) -/

theorem bit_or_flag_of_ne (v : Word) {i j : Nat} (h : j ≠ i) : bit (v ||| flag i true) j = bit v j := by
  have hf : (flag i true).getLsbD j = false := bit_flag_of_ne h
  simp [bit, hf]

/-- R144: a load that ends on the spot. -/
theorem State.imgFail_eq (s : State) (n : Nat) : s.imgFail n = s.setImg { s.img with state := 4, status := n } := rfl

theorem State.isActive_of_dom {s t : State} (h : t.dom = s.dom) : t.isActive = s.isActive := by
  funext k; simp only [State.isActive, State.dmn, h]; rfl

@[simp] theorem State.setImg_img (s : State) (x : ImagePort) : (s.setImg x).img = x := rfl

/-- R144: the clusters that a load is for. -/
def State.imgTargets (s : State) (v : Word) : List Nat :=
  (List.range 64).filter fun c => bit v (8 + c / 8) && bit v (c % 8) && s.isActive (domPg (c / 8))

theorem State.imgTargets_or_start (s : State) (v : Word) : s.imgTargets (v ||| flag 31 true) = s.imgTargets v := by
  refine List.filter_congr fun c hc => ?_
  have hc : c < 64 := List.mem_range.mp hc
  rw [bit_or_flag_of_ne v (i := 31) (j := 8 + c / 8) (by omega), bit_or_flag_of_ne v (i := 31) (j := c % 8) (by omega)]

/-- R144: what a write of TBL_IMG_CTL with START 1 leaves, a load in progress ended or not. -/
theorem State.writeImgCtl_start (s : State) {v : Word} (hv : bit v 31 = true) :
    (s.writeImgCtl v).img =
        { state := 1, slot := b2n (bit v 16), clusters := s.imgTargets v, loads := s.img.loads } ∧
      (s.writeImgCtl v).cstore = s.cstore ∧ (s.writeImgCtl v).clusters = s.clusters := by
  let u := s.setRg .tblImgCtl 0 0 (v &&& 0x1FFFF)
  let w := if bit v 30 && u.img.busy then u.imgFail 7 else u
  have hw : s.writeImgCtl v =
      w.setImg { state := 1, slot := b2n (bit v 16), clusters := w.imgTargets v, loads := w.img.loads } := by
    simp only [State.writeImgCtl, hv, if_true]; rfl
  have hkeep : w.dom = s.dom ∧ w.img.loads = s.img.loads ∧ w.cstore = s.cstore ∧ w.clusters = s.clusters := by
    by_cases hb : (bit v 30 && u.img.busy) = true
    · rw [show w = u.imgFail 7 from if_pos hb]; simp [u, State.imgFail_eq]
    · rw [show w = u from if_neg hb]; simp [u]
  obtain ⟨hdom, hloads, hcs, hcl⟩ := hkeep
  have hact : w.imgTargets v = s.imgTargets v := by
    simp only [State.imgTargets, State.isActive_of_dom hdom]
  simp [hw, hact, hloads, hcs, hcl]

/-- R144: a write of TBL_IMG_CTL with ABORT 1 ends the load that is in progress. -/
theorem State.writeImgCtl_abort {s : State} {v : Word} (hstart : bit v 31 = false) (habort : bit v 30 = true)
    (hbusy : s.img.busy = true) :
    s.writeImgCtl v = (s.setRg .tblImgCtl 0 0 (v &&& 0x1FFFF)).imgFail 7 := by
  simp [State.writeImgCtl, hstart, habort, hbusy]

/-- R144: a word written to TBL_IMG_DATA while a load takes it. -/
theorem becomes_imageData {s : State} (r : Req) (v : Word) (ho : s.Open domTbl) (hbusy : s.img.busy = true)
    (hcrc : s.img.crcOk = false) : Becomes (.imageData r v) s (s.imgData v) := by
  have h := becomes_of_access (i := .imageData r v) (r := r)
    (f := fun s => if s.img.busy && ! s.img.crcOk then s.imgData v else s) rfl ho
  simpa [hbusy, hcrc] using h

theorem ImagePort.busy_of_header {x : ImagePort} (h : x.state = 1) : x.busy = true := by simp [ImagePort.busy, h]

theorem ImagePort.busy_of_body {x : ImagePort} (h : x.state = 2) : x.busy = true := by simp [ImagePort.busy, h]

/-- R144: the port after a word of the header. -/
def ImagePort.headed (x : ImagePort) (v : Word) : ImagePort :=
  { x with bytes := x.bytes + 4, hdr := x.hdr ++ [v], crc := crc32 x.crc (leBytes v) }

/-- R145: a word of the header before its last joins it. -/
theorem State.imgData_joins {s : State} (v : Word) (hst : s.img.state = 1) (hlen : s.img.hdr.length < 15) :
    s.imgData v = s.setImg (s.img.headed v) := by
  simp [State.imgData, hst, ImagePort.headed, show s.img.hdr.length + 1 < 16 by omega]

/-- R145: the status of a header depends on the load's slot and clusters alone. -/
theorem State.imgHeader_setImg (s : State) {x : ImagePort} (h : List Word) (hs : x.slot = s.img.slot)
    (hc : x.clusters = s.img.clusters) : (s.setImg x).imgHeader h = s.imgHeader h := by
  cases x; cases hs; cases hc; rfl

/-- R145: the last word of the header begins the body, or fails the load. -/
theorem State.imgData_ends_header {s : State} (v : Word) (hst : s.img.state = 1) (hlen : s.img.hdr.length = 15) :
    s.imgData v =
      if s.imgHeader (s.img.hdr ++ [v]) = 0 then (s.setImg (s.img.headed v)).imgBody (s.img.hdr ++ [v])
      else (s.setImg (s.img.headed v)).imgFail (s.imgHeader (s.img.hdr ++ [v])) := by
  rw [← s.imgHeader_setImg (x := s.img.headed v) (s.img.hdr ++ [v]) rfl rfl]
  simp [State.imgData, hst, hlen, ImagePort.headed]

/-- R145: as the body begins, the target slots are invalid, and nothing else of the clusters changes. -/
theorem State.imgBody_eq (s : State) (h : List Word) :
    s.imgBody h = (s.img.clusters.foldl (fun st c => st.setSlot c s.img.slot {}) s).setImg
      { s.img with state := 2, hdr := h, acc := [], word := 0, treeFmt := 0, filled := false, crcOk := false } := by
  have himg := foldl_same (fun st : State => st.img) (fun st (c : Nat) => st.setSlot c s.img.slot {})
    (fun st c => st.setSlot_img ..) s.img.clusters s
  simp only [State.imgBody, State.invalSlot_eq]
  rw [himg]

/-- R145: the port after bytes of the microwords. -/
def ImagePort.fed (x : ImagePort) (v : Word) : ImagePort :=
  { x with bytes := x.bytes + 4, acc := x.acc ++ leBytes v, crc := crc32 x.crc (leBytes v) }

/-- R145: a microword that is complete is written to every target cluster. -/
def State.imgStore (s : State) (w : BitVec 144) : State :=
  s.img.clusters.foldl (fun st c => st.setCword c s.img.slot s.img.word w) s

/-- R145: bytes that complete a microword: it is written to every target cluster, or fails the load. -/
theorem State.imgData_completes {s : State} (v : Word) (hst : s.img.state = 2)
    (hb : s.img.bytes < 64 + imgWordsLen s.img.hdr) (hlen : 14 ≤ s.img.acc.length)
    (hw : s.img.word < fld (wAt s.img.hdr 3) 14 0) :
    s.imgData v =
      if parityOk (microBytes (s.img.acc ++ leBytes v)) = true then
        ((s.setImg (s.img.fed v)).imgStore (microBytes (s.img.acc ++ leBytes v))).setImg
          { s.img.fed v with acc := (s.img.acc ++ leBytes v).drop 18, word := s.img.word + 1 }
      else (s.setImg (s.img.fed v)).imgFail 4 := by
  have hfeed : s.imgData v = (s.setImg (s.img.fed v)).imgWord := by
    simp [State.imgData, hst, ImagePort.fed, hb]
  have hfull : 18 ≤ (s.img.acc ++ leBytes v).length := by
    have hv : (leBytes v).length = 4 := rfl
    rw [List.length_append, hv]; exact Nat.add_le_add_right hlen 4
  rw [hfeed, State.imgWord, if_neg (by simpa [ImagePort.fed, Nat.not_le.mpr hw] using hfull)]
  cases hp : parityOk (microBytes (s.img.acc ++ leBytes v)) <;> simp [hp, ImagePort.fed, State.imgStore]

/-- R145: the CRC word of a container: what fails the load, and what a good one leaves. -/
theorem State.imgData_crc {s : State} (v : Word) (hst : s.img.state = 2)
    (hb : 64 + imgWordsLen s.img.hdr + (wAt s.img.hdr 5).toNat ≤ s.img.bytes) :
    s.imgData v =
      if v ≠ ~~~ s.img.crc then (s.setImg { s.img with bytes := s.img.bytes + 4 }).imgFail 5
      else if s.img.treeFmt ≠ 1 then (s.setImg { s.img with bytes := s.img.bytes + 4 }).imgFail 1
      else (s.setImg { s.img with bytes := s.img.bytes + 4, crcOk := true }).imgFinish := by
  have h1 : ¬ s.img.bytes < 64 + imgWordsLen s.img.hdr := by omega
  have h2 : ¬ s.img.bytes < 64 + imgWordsLen s.img.hdr + (wAt s.img.hdr 5).toNat := by omega
  simp only [State.imgData, hst, h1, h2, if_false]; rfl

/-- R145: what a slot holds once the load that the port has ends. -/
def State.imgLoaded (s : State) : Slot :=
  let h := s.img.hdr
  { valid := true, vifMajor := fld (wAt h 2) 31 24, vifMinor := fld (wAt h 2) 23 16,
    mask := BitVec.ofNat 16 (fld (wAt h 2) 15 0), words := fld (wAt h 3) 14 0, pktEntry := fld (wAt h 4) 13 0, bgEntry := fld (wAt h 4) 29 16, load := s.img.loads + 1 }

/-- R145: the end of a load writes the target slots and the port's state. -/
theorem State.imgDone_eq (s : State) :
    s.imgDone = (s.img.clusters.foldl (fun st c => st.setSlot c s.img.slot s.imgLoaded) s).setImg
      { s.img with state := 3, status := 0, loads := s.img.loads + 1 } := by
  have himg := foldl_same (fun st : State => st.img) (fun st (c : Nat) => st.setSlot c s.img.slot s.imgLoaded)
    (fun st c => st.setSlot_img ..) s.img.clusters s
  have h : s.imgDone = (s.img.clusters.foldl (fun st c => st.setSlot c s.img.slot s.imgLoaded) s).setImg
      { (s.img.clusters.foldl (fun st c => st.setSlot c s.img.slot s.imgLoaded) s).img with
        state := 3, status := 0, loads := s.img.loads + 1 } := rfl
  rw [h, himg]

@[simp] theorem State.setSlots_cstore (l : List Nat) (i : Nat) (x : Slot) (s : State) :
    (l.foldl (fun st c => st.setSlot c i x) s).cstore = s.cstore :=
  foldl_same (·.cstore) _ (fun st _ => st.setSlot_cstore ..) l s

@[simp] theorem State.slot_setImg (s : State) (x : ImagePort) : (s.setImg x).slot = s.slot := rfl

/-- R145: the end of a checked load does not touch the control stores, and its state tells whether the fill has
ended. -/
theorem State.imgFinish_port {s : State} (hst : s.img.state = 2) :
    s.imgFinish.cstore = s.cstore ∧ s.imgFinish.img.state = (if s.img.crcOk && s.img.filled then 3 else 2) ∧
      s.imgFinish.img.crcOk = s.img.crcOk ∧ s.imgFinish.img.filled = s.img.filled := by
  by_cases h : (s.img.crcOk && s.img.filled) = true
  · simp only [State.imgFinish, if_pos h, s.imgDone_eq]; simp
  · simp only [State.imgFinish, if_neg h]; simp [hst]

/-- R145: the slots of a load that ends are valid. -/
theorem State.imgFinish_slot {s : State} (hcrc : s.img.crcOk = true) (hfill : s.img.filled = true) {c : Nat}
    (hc : c ∈ s.img.clusters) (hi : s.img.slot < (s.clu c).slots.length) :
    s.imgFinish.slot c s.img.slot = s.imgLoaded := by
  simp only [State.imgFinish, hcrc, hfill, Bool.and_true, if_true, s.imgDone_eq]
  simp [State.slot_foldl_setSlot, hc, hi]

/-- R145: the control stores once the words beyond the image are filled. -/
def State.filledStore (s : State) : Tab (BitVec 144) :=
  tdrop (fun k => s.img.clusters.contains (k / 32768) && k / 16384 % 2 == s.img.slot &&
    fld (wAt s.img.hdr 3) 14 0 ≤ k % 16384) s.cstore

/-- R145: the control stores once the fill of the target slots has ended. -/
theorem State.imgFill_cword {s : State} (hst : s.img.state = 2) {c a : Nat} (hc : c ∈ s.img.clusters)
    (ha : fld (wAt s.img.hdr 3) 14 0 ≤ a) (ha' : a < 16384) (hi : s.img.slot < 2) :
    s.imgFill.cword c s.img.slot a = 0 := by
  have hk : csKey c s.img.slot a / 32768 = c ∧ csKey c s.img.slot a / 16384 % 2 = s.img.slot ∧
      csKey c s.img.slot a % 16384 = a := by unfold csKey; omega
  obtain ⟨hkc, hki, hka⟩ := hk
  have hcs : s.imgFill.cstore = s.filledStore :=
    (State.imgFinish_port (s := ({ s with cstore := s.filledStore } : State).setImg { s.img with filled := true }) hst).1
  rw [State.cword, hcs, State.filledStore]
  simp [hkc, hki, hka, hc, ha]

/-- Settles O29: each write of the image port is the model's one step of `imgData` or `writeImgCtl`, and what the
folds over the target clusters leave is read off slot by slot and word by word. -/
theorem imageLoad : Obligations.ImageLoad := by
  refine ⟨?start, ?abort, ?joins, ?data, ?header, ?word, ?crc, ?fill⟩
  case start =>
    intro s r v ho
    refine (becomes_of_access (f := fun s => s.writeImgCtl (v ||| flag 31 true)) rfl ho).completes ?_
    obtain ⟨himg, hcs, hcl⟩ := s.writeImgCtl_start (bit_or_flag v (i := 31) (by omega))
    simp only [State.intSweep_img, State.intSweep_cstore, State.intSweep_clusters]
    refine ⟨?_, hcs, hcl⟩
    rw [himg, s.imgTargets_or_start, bit_or_flag_of_ne v (by omega)]; rfl
  case abort =>
    intro s r v ho hv hbusy
    refine (becomes_of_access (f := fun s => s.writeImgCtl (v ||| flag 30 true)) rfl ho).completes ?_
    have hstart : bit (v ||| flag 30 true) 31 = false := by rw [bit_or_flag_of_ne v (by omega), hv]
    rw [State.writeImgCtl_abort hstart (bit_or_flag v (by omega)) hbusy]
    simp [State.imgFail_eq]
  case joins =>
    intro s r v ho hst hcrc hlen
    have h := becomes_imageData r v ho (ImagePort.busy_of_header hst) hcrc
    rwa [State.imgData_joins v hst hlen] at h
  case data => exact fun s r v ho hbusy hcrc => becomes_imageData r v ho hbusy hcrc
  case header =>
    intro s r v ho hst hcrc hlen h
    refine (becomes_imageData r v ho (ImagePort.busy_of_header hst) hcrc).completes ?_
    rw [State.imgData_ends_header v hst hlen]
    by_cases hok : s.imgHeader (s.img.hdr ++ [v]) = 0
    · rw [if_pos hok, State.imgBody_eq]
      simp +contextual [h, hok, ImagePort.headed, State.slot_foldl_setSlot, State.clu]
    · rw [if_neg hok]
      simp [h, hok, ImagePort.headed, State.imgFail_eq]
  case word =>
    intro s r v ho hst hcrc x w hbytes hlo hhi hword hlt hslot
    refine (becomes_imageData r v ho (ImagePort.busy_of_body hst) hcrc).completes ?_
    rw [State.imgData_completes v hst hbytes hlo hword]
    refine ⟨fun hp => ?_, fun hp => ?_⟩
    · have hread : ∀ c i a, i < 2 → a < 16384 → ((s.setImg (s.img.fed v)).imgStore w).cword c i a =
            if c ∈ x.clusters ∧ i = x.slot ∧ a = x.word then w else s.cword c i a :=
        fun c i a hi ha => State.cword_foldl_setCword x.clusters x.slot x.word w hslot hlt hi ha _
      rw [if_pos hp]
      exact ⟨fun c hc => (hread c x.slot x.word hslot hlt).trans (if_pos ⟨hc, rfl, rfl⟩), rfl, rfl,
        fun c i a hi ha hne => (hread c i a hi ha).trans (if_neg (by tauto))⟩
    · rw [if_neg (ne_true_of_eq_false hp)]
      exact ⟨rfl, rfl, rfl⟩
  case crc =>
    intro s r v ho hst hcrc x hbytes
    refine (becomes_imageData r v ho (ImagePort.busy_of_body hst) hcrc).completes ?_
    rw [State.imgData_crc v hst hbytes]
    by_cases hv : v = ~~~ s.img.crc
    · rw [if_neg (not_not.mpr hv)]
      by_cases hf : s.img.treeFmt = 1
      · rw [if_neg (not_not.mpr hf)]
        let u := s.setImg { s.img with bytes := s.img.bytes + 4, crcOk := true }
        obtain ⟨hcs, hstate, hok, -⟩ := State.imgFinish_port (s := u) hst
        refine ⟨hcs, fun hn => absurd hv hn, fun _ hn => absurd hf hn, fun _ _ => ⟨?_, hok, fun hfill c hc hi => ?_⟩⟩
        · exact hstate.trans (by simp [u, x])
        · have hslot : u.imgFinish.slot c x.slot = u.imgLoaded := State.imgFinish_slot (s := u) rfl hfill hc hi
          rw [State.slot_intSweep, hslot]
          exact ⟨rfl, rfl, rfl⟩
      · rw [if_pos hf]
        simp [State.imgFail_eq, x, hv, hf]
    · rw [if_pos hv]
      simp [State.imgFail_eq, x, hv]
  case fill =>
    intro s hon hst hfill
    refine (becomes_of_act (f := State.imgFill) rfl (by simp [hon, hst, hfill])).completes ?_
    obtain ⟨-, hstate, -, hfilled⟩ := State.imgFinish_port
      (s := ({ s with cstore := s.filledStore } : State).setImg { s.img with filled := true }) hst
    refine ⟨fun c hc a ha ha' hi => ?_, ?_, hfilled⟩
    · rw [State.cword_intSweep]; exact State.imgFill_cword hst hc ha ha' hi
    · exact hstate.trans (by simp)

end Sys2Proof.Machine
end

section
/-! PROOFS of the family 04_nirum_engines: what records, captures and the counting of drops leave alone. -/

namespace Sys2Proof.Machine

open Sys2Proof

/-! ### What a record leaves alone (R248, R260, R263-R267) -/

/-- The state without its register words and counters, its host links and rings, its DRAM, its ledger and its telemetry. -/
def State.unrecorded (s : State) : State :=
  { s with held := [], wide := [], out := [], hosts := [], rings := [], dram := {}, tel := {}, led := {} }

/-- What was counted or recorded is in counters, memories, links and the telemetry unit; of the register words only
those of TEL_LOST have moved. -/
structure State.Recorded (s t : State) : Prop where
  rest : t.unrecorded = s.unrecorded
  words : ∀ a, (∀ j, a ≠ regAddr .telLost 0 0 j) → tget heldReset t.held a = tget heldReset s.held a

/-- A record that has left neither a count in the ledger nor a digest in the batch. -/
structure State.Exported (s t : State) : Prop extends s.Recorded t where
  led : t.led = s.led
  digs : t.tel.digs = s.tel.digs

theorem State.Recorded.refl (s : State) : s.Recorded s := ⟨rfl, fun _ _ => rfl⟩

theorem State.Recorded.trans {s t u : State} (h : s.Recorded t) (g : t.Recorded u) : s.Recorded u :=
  ⟨g.rest.trans h.rest, fun a ha => (g.words a ha).trans (h.words a ha)⟩

theorem State.Recorded.after {s t u : State} (g : t.Recorded u) (h : s.Recorded t) : s.Recorded u := h.trans g

theorem State.Recorded.ite {s a b : State} {c : Prop} [Decidable c] (ha : s.Recorded a) (hb : s.Recorded b) :
    s.Recorded (if c then a else b) := by split <;> assumption

theorem State.Recorded.of_eq {s t : State} (hrest : t.unrecorded = s.unrecorded := by rfl)
    (hheld : t.held = s.held := by rfl) : s.Recorded t := ⟨hrest, fun _ _ => by rw [hheld]⟩

theorem State.Exported.refl (s : State) : s.Exported s := ⟨.refl s, rfl, rfl⟩

theorem State.Exported.trans {s t u : State} (h : s.Exported t) (g : t.Exported u) : s.Exported u :=
  ⟨h.toRecorded.trans g.toRecorded, g.led.trans h.led, g.digs.trans h.digs⟩

theorem State.Exported.after {s t u : State} (g : t.Exported u) (h : s.Exported t) : s.Exported u := h.trans g

theorem State.Exported.ite {s a b : State} {c : Prop} [Decidable c] (ha : s.Exported a) (hb : s.Exported b) :
    s.Exported (if c then a else b) := by split <;> assumption

theorem State.Exported.foldl {α : Type} {f : State → α → State} (h : ∀ (s : State) a, s.Exported (f s a))
    (l : List α) (s : State) : s.Exported (l.foldl f s) :=
  List.foldlRecOn l f (motive := fun t => s.Exported t) (.refl s) fun t ht a _ => ht.trans (h t a)

theorem State.Exported.of_eq {s t : State} (hrest : t.unrecorded = s.unrecorded := by rfl)
    (hheld : t.held = s.held := by rfl) (hled : t.led = s.led := by rfl)
    (hdigs : t.tel.digs = s.tel.digs := by rfl) : s.Exported t := ⟨.of_eq hrest hheld, hled, hdigs⟩

section
variable {s t : State} (h : s.Recorded t)
include h

theorem State.Recorded.ident : t.ident = s.ident := (congrArg State.ident h.rest :)
theorem State.Recorded.time : t.time = s.time := (congrArg State.time h.rest :)
theorem State.Recorded.dom : t.dom = s.dom := (congrArg State.dom h.rest :)
theorem State.Recorded.reload : t.reload = s.reload := (congrArg State.reload h.rest :)
theorem State.Recorded.ports : t.ports = s.ports := (congrArg State.ports h.rest :)
theorem State.Recorded.groups : t.groups = s.groups := (congrArg State.groups h.rest :)
theorem State.Recorded.pkts : t.pkts = s.pkts := (congrArg State.pkts h.rest :)
theorem State.Recorded.reseq : t.reseq = s.reseq := (congrArg State.reseq h.rest :)
theorem State.Recorded.clusters : t.clusters = s.clusters := (congrArg State.clusters h.rest :)
theorem State.Recorded.threads : t.threads = s.threads := (congrArg State.threads h.rest :)
theorem State.Recorded.cstore : t.cstore = s.cstore := (congrArg State.cstore h.rest :)
theorem State.Recorded.tbl : t.tbl = s.tbl := (congrArg State.tbl h.rest :)
theorem State.Recorded.epc : t.epc = s.epc := (congrArg State.epc h.rest :)
theorem State.Recorded.buf : t.buf = s.buf := (congrArg State.buf h.rest :)
theorem State.Recorded.flt : t.flt = s.flt := (congrArg State.flt h.rest :)

theorem State.Recorded.clu : t.clu = s.clu := by funext c; simp [State.clu, h.clusters]
theorem State.Recorded.thr : t.thr = s.thr := by funext k; simp [State.thr, h.threads]
theorem State.Recorded.pkt : t.pkt = s.pkt := by funext k; simp [State.pkt, h.pkts]
theorem State.Recorded.held26 : t.held26 = s.held26 := by funext lp; simp [State.held26, h.reseq]

theorem State.Recorded.rg {n : RegName} {k j i : Nat} (ha : ∀ m, regAddr n k i j ≠ regAddr .telLost 0 0 m) :
    t.rg n k j i = s.rg n k j i := h.words _ ha

end

/-! ### Operations that record -/

theorem State.pmc_exported (s : State) (hit : Word → Bool) (n : Nat) : s.Exported (s.pmc hit n) :=
  .ite .of_eq (.refl s)

theorem State.pmcCluster_exported (s : State) (c ev n : Nat) : s.Exported (s.pmcCluster c ev n) := s.pmc_exported ..

theorem State.telLost_exported (s : State) (k n : Nat) : s.Exported (s.telLost k n) :=
  ⟨⟨rfl, fun _ ha => (tget_tset ..).trans (if_neg (ha _))⟩, rfl, rfl⟩

theorem State.dramWrite1_exported (s : State) (who : DramUser) (a : Nat) (bytes : List Byte) :
    s.Exported (s.dramWrite1 who a bytes) := by
  unfold State.dramWrite1
  split
  · exact .refl s
  · exact .ite .of_eq (.refl s)

theorem State.dramWrite_exported (s : State) (who : DramUser) (a : Nat) (bytes : List Byte) :
    s.Exported (s.dramWrite who a bytes) := .foldl (fun t _ => t.dramWrite1_exported ..) _ s

theorem State.withTel_exported (s : State) (x : Telem) (h : x.digs = s.tel.digs) : s.Exported { s with tel := x } :=
  ⟨.of_eq, rfl, h⟩

theorem State.toRegion_exported (s : State) (k : Nat) (rec : List Byte) (n : Nat) :
    s.Exported (s.toRegion k rec n) := by
  unfold State.toRegion
  refine .ite ((State.withTel_exported _ _ (by exact rfl)).after ?_) (s.telLost_exported k n)
  exact .foldl (fun t _ => t.dramWrite_exported ..) _ s

theorem State.seqStep_exported (s : State) (kind : Nat) : s.Exported (s.seqStep kind) := .of_eq

theorem State.toHost_exported (s : State) (h a : Nat) (bytes : List Byte) : s.Exported (s.toHost h a bytes) := .of_eq

theorem State.setRing_exported (s : State) (h t : Nat) (x : Ring) : s.Exported (s.setRing h t x) := .of_eq

theorem State.toRing_exported (s : State) (k h t : Nat) (rec : List Byte) (n : Nat) :
    s.Exported (s.toRing k h t rec n) := by
  unfold State.toRing
  dsimp only
  refine .ite ((State.setRing_exported ..).after ((State.toHost_exported ..).after ?_)) (s.telLost_exported k n)
  exact .ite (.refl s) ((State.seqStep_exported ..).after (State.toHost_exported ..))

/-- R266, R267: a record of a kind, its sequence number stepped, goes to its region and to its ring as its route asks. -/
def State.routed (s : State) (kind len : Nat) (stamp : BitVec 64) (body : List Word) (n : Nat := 1) : State :=
  let rec_ := wordBytes (s.recHead kind len stamp ++ padTo (len / 4 - 4) body)
  let route := s.rg .telRoute 0 (kind - 1)
  let s := s.seqStep kind
  let s := if bit route 31 then s.toRegion kind rec_ n else s
  if bit route 30 then s.toRing kind (b2n (bit route 29)) (48 + fld route 28 27) rec_ n else s

theorem State.routed_exported (s : State) (kind len : Nat) (stamp : BitVec 64) (body : List Word) (n : Nat) :
    s.Exported (s.routed kind len stamp body n) := by
  unfold State.routed
  extract_lets rec_ route s1 s2
  have h2 : s.Exported s2 :=
    .ite ((State.toRegion_exported ..).after (s.seqStep_exported kind)) (s.seqStep_exported kind)
  exact .ite ((State.toRing_exported ..).after h2) h2

/-- R263: a batch of digests that is not empty leaves as one record. -/
theorem State.digestEmit_eq (s : State) :
    s.digestEmit =
      if s.tel.digs.isEmpty then s
      else ({ s with tel := { s.tel with digs := [] } } : State).routed 6 288 (BitVec.ofNat 64 s.tel.digAt)
        ([wd s.tel.digs.length, 0, 0, 0] ++ s.tel.digs.flatten) s.tel.digs.length := rfl

/-- R263: what the end of a batch of digests leaves. -/
theorem State.digestEmit_recorded (s : State) : s.Recorded s.digestEmit ∧ s.digestEmit.tel.digs = [] ∧
    s.digestEmit.led = s.led := by
  rw [s.digestEmit_eq]
  split
  · next h => exact ⟨.refl s, by simpa using h, rfl⟩
  · have h := State.routed_exported { s with tel := { s.tel with digs := [] } } 6 288 (BitVec.ofNat 64 s.tel.digAt)
      ([wd s.tel.digs.length, 0, 0, 0] ++ s.tel.digs.flatten) s.tel.digs.length
    exact ⟨h.toRecorded.after .of_eq, h.digs, h.led⟩

theorem State.digestEntry_recorded (s : State) (digest sent : Word) (kind : Nat) (st : Stamp) (c e t : Nat) :
    s.Recorded (s.digestEntry digest sent kind st c e t) := by
  unfold State.digestEntry
  dsimp only
  refine .ite (.refl s) (.ite (s.telLost_exported 6 1).toRecorded (.ite ?_ .of_eq))
  exact (State.digestEmit_recorded _).1.after .of_eq

theorem State.book_recorded (s : State) (lp : Nat) (par : Bool) (t : Term) (n : Nat) : s.Recorded (s.book lp par t n) := by
  unfold State.book
  exact (State.pmc_exported ..).toRecorded.after .of_eq

theorem State.bookReason_recorded (s : State) (lp : Nat) (par : Bool) (code : Nat) :
    s.Recorded (s.bookReason lp par code) := by
  unfold State.bookReason
  exact (State.pmc_exported ..).toRecorded.after .of_eq

theorem State.capture_recorded (s : State) (b : Boundary) (code : Nat) (d : DropInfo) :
    s.Recorded (s.capture b code d) := by
  unfold State.capture
  dsimp only
  refine .ite (.ite (.ite ((State.telLost_exported ..).toRecorded.after .of_eq) ?_) .of_eq) (.refl s)
  exact .ite ((State.telLost_exported ..).toRecorded.after .of_eq)
    ((State.toRegion_exported ..).toRecorded.after .of_eq)

theorem State.drop_recorded (s : State) (b : Boundary) (reason : Nat) (d : DropInfo) :
    s.Recorded (s.drop b reason d) :=
  (State.book_recorded ..).trans ((State.bookReason_recorded ..).trans (State.capture_recorded ..))

end Sys2Proof.Machine
end

section
/-! PROOFS of the family 04_nirum_engines: drops at the engines boundary. -/

namespace Sys2Proof.Machine

open Sys2Proof

/-! ### A table's keys -/

theorem mem_tkeys_of_tget_ne {α : Type} {d : Nat → α} {t : Tab α} {k : Nat} (h : tget d t k ≠ d k) : k ∈ tkeys t := by
  induction t with
  | nil => exact absurd rfl h
  | cons e t ih =>
    by_cases he : e.1 = k
    · exact List.mem_map.mpr ⟨e, List.mem_cons_self, he⟩
    · exact List.mem_cons_of_mem _ (ih (by simpa [tget, Ne.symm he] using h))

/-! ### A frame dropped at the engines boundary (R26, R136, R159) -/

/-- R136: a frame's record is gone, and its place in its port's order is marked. -/
def State.Gone (s t : State) (p : Nat) : Prop :=
  t.pkt p = {} ∧ ((s.pkt p).stamp.seq, SeqItem.gone) ∈ t.held26 (s.pkt p).stamp.lport

/-- What the drop of frames at the engines boundary leaves: time, threads, clusters, the register words but those of
TEL_LOST, and each frame as it was or gone; nothing that the resequencer holds is lost. -/
structure State.Reaped (s t : State) : Prop where
  time : t.time = s.time
  threads : t.threads = s.threads
  clusters : t.clusters = s.clusters
  words : ∀ a, (∀ j, a ≠ regAddr .telLost 0 0 j) → tget heldReset t.held a = tget heldReset s.held a
  kept : ∀ lp e, e ∈ s.held26 lp → e ∈ t.held26 lp
  pkts : ∀ p, t.pkt p = s.pkt p ∨ s.Gone t p

theorem State.Reaped.refl (s : State) : s.Reaped s :=
  ⟨rfl, rfl, rfl, fun _ _ => rfl, fun _ _ h => h, fun _ => .inl rfl⟩

theorem State.Gone.later {s t u : State} {p : Nat} (h : s.Gone t p) (g : t.Reaped u) : s.Gone u p := by
  refine ⟨?_, g.kept _ _ h.2⟩
  rcases g.pkts p with hp | hp
  · exact hp.trans h.1
  · exact hp.1

theorem State.Gone.earlier {s t u : State} {p : Nat} (h : t.Gone u p) (hp : t.pkt p = s.pkt p) : s.Gone u p := by
  simpa only [State.Gone, hp] using h

theorem State.Reaped.trans {s t u : State} (h : s.Reaped t) (g : t.Reaped u) : s.Reaped u where
  time := g.time.trans h.time
  threads := g.threads.trans h.threads
  clusters := g.clusters.trans h.clusters
  words a ha := (g.words a ha).trans (h.words a ha)
  kept lp e he := g.kept lp e (h.kept lp e he)
  pkts p := by
    rcases h.pkts p with hp | hp
    · exact (g.pkts p).imp (·.trans hp) (·.earlier hp)
    · exact .inr (hp.later g)

/-- R159, R263: a verdict that is formed stands in its frame's record; the rest is what the sampling of it records. -/
theorem State.sealVerdict_recorded (s : State) (k : Nat) (v : List Word) (src : PuntSrc) :
    ∃ x : Pkt, x.stamp = (s.pkt k).stamp ∧ (s.setPkt k x).Recorded (s.sealVerdict k v src) := by
  refine ⟨{ s.pkt k with
    verdict := setAt (padTo 7 v) 6 (digestOf v (s.pkt k).stamp.epoch), puntSrc := src }, rfl, ?_⟩
  unfold State.sealVerdict
  exact .ite (State.digestEntry_recorded ..) (.refl _)

theorem State.held26_seqPut (s : State) (lp seq : Nat) (i : SeqItem) (l : Nat) :
    (s.seqPut lp seq i).held26 l = if l = lp then s.held26 lp ++ [(seq, i)] else s.held26 l :=
  tget_tset (fun _ => ([] : List (Nat × SeqItem))) ..

/-- R26, R113: a frame's holding-store charge ends, its place in the port's order is marked, its record goes. -/
def State.ended (s : State) (k : Nat) (p : Pkt) : State :=
  ((s.freeHold p).seqPut p.stamp.lport p.stamp.seq .gone).setPkt k {}

theorem State.held26_ended (s : State) (k : Nat) (p : Pkt) (lp : Nat) :
    (s.ended k p).held26 lp =
      if lp = p.stamp.lport then s.held26 p.stamp.lport ++ [(p.stamp.seq, .gone)] else s.held26 lp :=
  State.held26_seqPut (s.freeHold p) ..

theorem State.pkt_ended (s : State) (k : Nat) (x : Pkt) (p : Nat) :
    (s.ended k x).pkt p = if p = k then {} else s.pkt p := State.pkt_setPkt ..

theorem State.ended_rest (s : State) (k : Nat) (p : Pkt) :
    (s.ended k p).time = s.time ∧ (s.ended k p).threads = s.threads ∧ (s.ended k p).clusters = s.clusters ∧
      (s.ended k p).held = s.held := ⟨rfl, rfl, rfl, rfl⟩

theorem State.endPkt_eq (s : State) (k : Nat) (b : Boundary) (r : Nat) :
    s.endPkt k b r = (s.drop b r (s.pkt k).info).ended k (s.pkt k) := rfl

/-- R26, R113: what a frame's end at a boundary leaves of the resequencer and of the frames' records. -/
theorem State.held26_endPkt (s : State) (k : Nat) (b : Boundary) (r lp : Nat) :
    (s.endPkt k b r).held26 lp =
      if lp = (s.pkt k).stamp.lport then s.held26 (s.pkt k).stamp.lport ++ [((s.pkt k).stamp.seq, .gone)]
      else s.held26 lp := by
  rw [s.endPkt_eq, State.held26_ended, (s.drop_recorded b r (s.pkt k).info).held26]

theorem State.pkt_endPkt (s : State) (k : Nat) (b : Boundary) (r p : Nat) :
    (s.endPkt k b r).pkt p = if p = k then {} else s.pkt p := by
  rw [s.endPkt_eq, State.pkt_ended, (s.drop_recorded b r (s.pkt k).info).pkt]

/-- R26, R113, R248: what a frame's end at a boundary leaves alone. -/
theorem State.endPkt_rest (s : State) (k : Nat) (b : Boundary) (r : Nat) :
    (s.endPkt k b r).time = s.time ∧ (s.endPkt k b r).threads = s.threads ∧
      (s.endPkt k b r).clusters = s.clusters ∧
      ∀ a, (∀ j, a ≠ regAddr .telLost 0 0 j) → tget heldReset (s.endPkt k b r).held a = tget heldReset s.held a := by
  have hd := s.drop_recorded b r (s.pkt k).info
  obtain ⟨htime, hthreads, hclusters, hheld⟩ := (s.drop b r (s.pkt k).info).ended_rest k (s.pkt k)
  rw [s.endPkt_eq, htime, hthreads, hclusters, hheld]
  exact ⟨hd.time, hd.threads, hd.clusters, hd.words⟩

/-- R136, R159: a frame that the device drops itself is gone, and the others are as they were. -/
theorem State.handDrop_reaped (s : State) (k r : Nat) (v : List Word) :
    s.Reaped (s.handDrop k r v) ∧ s.Gone (s.handDrop k r v) k := by
  obtain ⟨x, hx, hu⟩ := s.sealVerdict_recorded k (vdDrop v r) .verdict
  obtain ⟨u, heq⟩ : ∃ u, u = s.sealVerdict k (vdDrop v r) .verdict := ⟨_, rfl⟩
  rw [← heq] at hu
  have hpkt : ∀ p, u.pkt p = if p = k then x else s.pkt p := fun p => by rw [hu.pkt]; exact State.pkt_setPkt ..
  have hheld : u.held26 = s.held26 := hu.held26
  have hgone : s.Gone (u.endPkt k .engines r) k := by
    have hstamp : (u.pkt k).stamp = (s.pkt k).stamp := by rw [hpkt, if_pos rfl, hx]
    refine ⟨by rw [State.pkt_endPkt, if_pos rfl], ?_⟩
    rw [State.held26_endPkt, hstamp, if_pos rfl]
    exact List.mem_append_right _ List.mem_cons_self
  obtain ⟨htime, hthreads, hclusters, hwords⟩ := u.endPkt_rest k .engines r
  rw [show s.handDrop k r v = u.endPkt k .engines r from heq ▸ rfl]
  refine ⟨⟨htime.trans (hu.time.trans (State.setPkt_time ..)),
    hthreads.trans (hu.threads.trans (State.setPkt_threads ..)),
    hclusters.trans (hu.clusters.trans (State.setPkt_clusters ..)),
    fun a ha => (hwords a ha).trans ((hu.words a ha).trans (by rw [State.setPkt_held])),
    fun lp e he => ?_, fun p => ?_⟩, hgone⟩
  · rw [State.held26_endPkt, hheld]
    split
    · next h => exact List.mem_append_left _ (h ▸ he)
    · exact he
  · rcases eq_or_ne p k with rfl | hp
    · exact .inr hgone
    · refine .inl ((u.pkt_endPkt ..).trans ?_)
      rw [if_neg hp, hpkt, if_neg hp]

end Sys2Proof.Machine
end

section
/-! PROOFS of the family 04_nirum_engines: the reset of a cluster. -/

namespace Sys2Proof.Machine

open Sys2Proof

/-! ### The packets of a cluster that is reset (R136) -/

/-- R136: the packet of a thread, where it has one, receives its drop verdict. -/
def State.reap (s : State) (k : Nat) : State :=
  match (s.thr k).pkt with
  | some p => s.handDrop p 0x0E (s.thr k).verdict
  | none => s

theorem State.reap_reaped (s : State) (k : Nat) : s.Reaped (s.reap k) := by
  unfold State.reap
  split
  · exact (s.handDrop_reaped ..).1
  · exact .refl s

theorem State.reap_gone {s : State} {k p : Nat} (h : (s.thr k).pkt = some p) : s.Gone (s.reap k) p := by
  unfold State.reap
  rw [h]
  exact (s.handDrop_reaped ..).2

theorem State.foldl_reap_reaped (l : List Nat) (s : State) : s.Reaped (l.foldl State.reap s) :=
  List.foldlRecOn l State.reap (motive := fun t => s.Reaped t) (.refl s) fun t ht k _ => ht.trans (t.reap_reaped k)

theorem State.Reaped.thr {s t : State} (h : s.Reaped t) : t.thr = s.thr := by
  funext k; simp [State.thr, h.threads]

theorem State.Reaped.clu {s t : State} (h : s.Reaped t) : t.clu = s.clu := by
  funext k; simp [State.clu, h.clusters]

/-- R136: of the threads of a list, every packet is gone. -/
theorem State.foldl_reap_gone {k p : Nat} (l : List Nat) :
    ∀ s : State, k ∈ l → (s.thr k).pkt = some p → s.Gone (l.foldl State.reap s) p := by
  induction l with
  | nil => exact fun _ hk => absurd hk List.not_mem_nil
  | cons j l ih =>
    intro s hk hp
    have hrest := State.foldl_reap_reaped l (s.reap j)
    rcases List.mem_cons.mp hk with rfl | hk
    · exact (State.reap_gone hp).later hrest
    · have hstep := s.reap_reaped j
      have hlater := ih (s.reap j) hk (by rw [hstep.thr]; exact hp)
      rcases hstep.pkts p with h | h
      · exact hlater.earlier h
      · exact h.later hrest

/-! ### Samples that are given up (R361) -/

theorem Thread.giveUp_sample (t : Thread) : t.giveUp.sample = none ∧ t.giveUp.st = .idle := ⟨rfl, rfl⟩

/-- R361: a thread after the end of a re-execution of one of the sets that are gone. -/
def Thread.without (t : Thread) (gone : Nat → Bool) : Thread := if t.sample.any gone then t.giveUp else t

theorem Thread.without_of_none {t : Thread} (gone : Nat → Bool) (h : t.sample = none) : t.without gone = t := by
  simp [Thread.without, h]

theorem Thread.without_twice (t : Thread) (gone : Nat → Bool) : (t.without gone).without gone = t.without gone := by
  unfold Thread.without
  by_cases h : t.sample.any gone = true
  · rw [if_pos h, if_neg (by simp [t.giveUp_sample])]
  · rw [if_neg h, if_neg h]

theorem State.thr_foldl_without (gone : Nat → Bool) (l : List Nat) (j : Nat) : ∀ s : State,
    (l.foldl (fun st k => if (st.thr k).sample.any gone then st.setThr k (st.thr k).giveUp else st) s).thr j =
      if j ∈ l then (s.thr j).without gone else s.thr j := by
  induction l with
  | nil => simp
  | cons k l ih =>
    intro s
    have hstep : (if (s.thr k).sample.any gone then s.setThr k (s.thr k).giveUp else s).thr j =
        if j = k then (s.thr j).without gone else s.thr j := by
      rcases eq_or_ne j k with rfl | hj
      · by_cases h : (s.thr j).sample.any gone = true <;> simp [Thread.without, h]
      · by_cases h : (s.thr k).sample.any gone = true <;> simp [h, hj]
    rw [List.foldl_cons, ih, hstep]
    rcases eq_or_ne j k with rfl | hj
    · simp [Thread.without_twice]
    · simp [hj]

/-- R361: the threads once the re-executions of some sets of a cluster have ended. -/
theorem State.thr_endReruns (s : State) (c : Nat) (gone : Nat → Bool) (k : Nat) :
    (s.endReruns c gone).thr k = if k / 136 = c then (s.thr k).without gone else s.thr k := by
  unfold State.endReruns
  rw [State.thr_foldl_without]
  by_cases hc : k / 136 = c
  · rw [if_pos hc]
    by_cases hk : k ∈ s.cluThreads c
    · rw [if_pos hk]
    · have hdef : s.thr k = {} := by
        by_contra hne
        exact hk (List.mem_filter.mpr ⟨mem_tkeys_of_tget_ne hne, by simpa using hc⟩)
      rw [if_neg hk, hdef, Thread.without_of_none _ rfl]
  · rw [if_neg hc, if_neg fun hk => hc (by simpa using (List.mem_filter.mp hk).2)]

/-- R361: what the end of re-executions leaves of all that a thread's registers are no part of. -/
theorem State.endReruns_same {β : Type} (g : State → β) (hthr : ∀ s k x, g (State.setThr s k x) = g s) (s : State)
    (c : Nat) (gone : Nat → Bool) : g (s.endReruns c gone) = g s :=
  foldl_same g _ (fun st _ => ite_same g _ _ _ st (hthr ..) rfl) _ s

/-- The delay-register sets of a cluster that are in use. -/
def State.setsOf (s : State) (c i : Nat) : Bool := (s.clu c).samples.any fun e => e.1 == i

/-- R361: the state of a cluster's samples once all are discarded. -/
def State.sampleless (s : State) (c : Nat) : State :=
  let u := s.setClu c { s.clu c with samples := [] }
  if (s.clu c).samples.isEmpty then u else u.bump .necSentSkipped c 0 (s.clu c).samples.length

theorem State.dropSamples_eq (s : State) (c : Nat) : s.dropSamples c = (s.sampleless c).endReruns c (s.setsOf c) := by
  have hall : (s.clu c).samples.filter (fun _ => true) = (s.clu c).samples := List.filter_eq_self.mpr (by simp)
  have hnone : (s.clu c).samples.filter (fun _ => ! true) = [] := List.filter_eq_nil_iff.mpr (by simp)
  simp only [State.dropSamples, State.sampleless, hall, hnone]
  rfl

theorem State.sampleless_same {β : Type} (g : State → β) (hclu : ∀ s c x, g (State.setClu s c x) = g s)
    (hbump : ∀ s n k j m, g (State.bump s n k j m) = g s) (s : State) (c : Nat) : g (s.sampleless c) = g s := by
  refine ite_same g _ _ _ s (hclu ..) ?_
  rw [hbump, hclu]

/-- R361: what the discarding of samples leaves of all that is no cluster's, no thread's and no register word. -/
theorem State.dropSamples_same {β : Type} (g : State → β) (hclu : ∀ s c x, g (State.setClu s c x) = g s)
    (hbump : ∀ s n k j m, g (State.bump s n k j m) = g s) (hthr : ∀ s k x, g (State.setThr s k x) = g s) (s : State)
    (c : Nat) : g (s.dropSamples c) = g s := by
  rw [s.dropSamples_eq, State.endReruns_same g hthr, s.sampleless_same g hclu hbump]

theorem State.sampleless_clusters (s : State) (c : Nat) :
    (s.sampleless c).clusters = (s.setClu c { s.clu c with samples := [] }).clusters := by
  unfold State.sampleless
  split <;> simp

/-- R361: of the clusters, the one whose samples are discarded has none, and nothing else changes. -/
theorem State.clu_dropSamples (s : State) (c d : Nat) :
    (s.dropSamples c).clu d = if d = c then { s.clu c with samples := [] } else s.clu d := by
  have h : (s.dropSamples c).clusters = (s.setClu c { s.clu c with samples := [] }).clusters := by
    rw [s.dropSamples_eq, State.endReruns_same (·.clusters) (by simp), s.sampleless_clusters]
  rw [← State.clu_setClu]
  simp only [State.clu, h]

theorem State.thr_dropSamples (s : State) (c k : Nat) :
    (s.dropSamples c).thr k = if k / 136 = c then (s.thr k).without (s.setsOf c) else s.thr k := by
  have h : (s.sampleless c).thr = s.thr := s.sampleless_same (·.thr)
    (fun s c x => by funext k; simp [State.thr]) (fun s n k j m => by funext k; simp [State.thr]) c
  rw [s.dropSamples_eq, State.thr_endReruns, h]

theorem State.pkt_dropSamples (s : State) (c : Nat) : (s.dropSamples c).pkt = s.pkt := by
  funext p
  simp only [State.pkt, s.dropSamples_same (·.pkts) (by simp) (by simp) (by simp) c]

theorem State.time_dropSamples (s : State) (c : Nat) : (s.dropSamples c).time = s.time :=
  s.dropSamples_same (·.time) (by simp) (by simp) (by simp) c

/-- R361: of the register words, the discarding of samples moves the count of skipped ones alone. -/
theorem State.word_dropSamples (s : State) (c : Nat) {a : Nat} (ha : a ≠ regAddr .necSentSkipped c 0 0) :
    tget heldReset (s.dropSamples c).held a = tget heldReset s.held a := by
  rw [s.dropSamples_eq, State.endReruns_same (·.held) (by simp)]
  unfold State.sampleless
  dsimp only
  split
  · simp
  · exact (tget_tset ..).trans (if_neg ha)

/-! ### Register words beside the one that is written -/

theorem State.word_setRg_of_ne {a : Nat} {n : RegName} {k j : Nat} (h : a ≠ regAddr n k 0 j) (s : State) (v : Word) :
    tget heldReset (s.setRg n k j v).held a = tget heldReset s.held a := (tget_tset ..).trans (if_neg h)

theorem State.word_bump_of_ne {a : Nat} {n : RegName} {k j : Nat} (h : a ≠ regAddr n k 0 j) (s : State) (c : Nat) :
    tget heldReset (s.bump n k j c).held a = tget heldReset s.held a := State.word_setRg_of_ne h ..

/-! ### Addresses beside NEC_CTL (R138) -/

theorem necCtl_ne_necSentSkipped (c d : Nat) : regAddr .necCtl c 0 0 ≠ regAddr .necSentSkipped d 0 0 := by
  change 0x10000000 + c * 0x40000 + 0 + 0 * 0 + 0 * 0 ≠ 0x10000000 + d * 0x40000 + 0x88 + 0 * 0 + 0 * 0
  omega

theorem necCtl_ne_necSbDiscard (c d : Nat) : regAddr .necCtl c 0 0 ≠ regAddr .necSbDiscard d 0 0 := by
  change 0x10000000 + c * 0x40000 + 0 + 0 * 0 + 0 * 0 ≠ 0x10000000 + d * 0x40000 + 0x50 + 0 * 0 + 0 * 0
  omega

theorem necCtl_ne_necLockTorn (c d : Nat) {j : Nat} (hj : j < 2) :
    regAddr .necCtl c 0 0 ≠ regAddr .necLockTorn d 0 j := by
  change 0x10000000 + c * 0x40000 + 0 + 0 * 0 + 0 * 0 ≠ 0x10000000 + d * 0x40000 + 0x60 + 0 * 0 + j * 4
  omega

theorem necCtl_ne_telLost {c : Nat} (hc : c < 64) (j : Nat) : regAddr .necCtl c 0 0 ≠ regAddr .telLost 0 0 j := by
  change 0x10000000 + c * 0x40000 + 0 + 0 * 0 + 0 * 0 ≠ 0x13010000 + 0 * 0 + 0x144 + 0 * 0 + j * 4
  omega

theorem State.necCtl_dropSamples (s : State) (c d : Nat) : (s.dropSamples c).rg .necCtl d = s.rg .necCtl d :=
  s.word_dropSamples c (necCtl_ne_necSentSkipped d c)

/-! ### The reset of a cluster (R136) -/

/-- R136: what a reset clears of a cluster whose packets have been dropped, `n` stores with it. -/
def State.clusterCleared (s : State) (c n : Nat) : State :=
  let u : State := { s with threads := tdrop (fun k => k / 136 == c) s.threads }
  let u := if n = 0 then u else u.bump .necSbDiscard c 0 n
  let u := (u.setRg .necLockTorn c 0 0).setRg .necLockTorn c 1 0
  u.setClu c { u.clu c with locks := [], resetting := true, resetAt := u.mono }

/-- R136: the stores that the threads of a cluster have buffered. -/
def State.buffered (s : State) (c : Nat) : Nat := (s.cluThreads c).foldl (fun a k => a + (s.thr k).sb.length) 0

theorem State.clusterReset_eq (s : State) (c : Nat) :
    s.clusterReset c =
      (((s.clearAdmit c).cluThreads c).foldl State.reap (s.clearAdmit c)).clusterCleared c
        ((s.clearAdmit c).buffered c) := rfl

theorem State.clusterCleared_frames (s : State) (c n : Nat) :
    (s.clusterCleared c n).pkts = s.pkts ∧ (s.clusterCleared c n).reseq = s.reseq := by
  unfold State.clusterCleared
  dsimp only
  split <;> simp

theorem State.clusterCleared_clu (s : State) (c n : Nat) :
    ((s.clusterCleared c n).clu c).resetting = true ∧ ((s.clusterCleared c n).clu c).resetAt = s.mono ∧
      ((s.clusterCleared c n).clu c).locks = [] := by
  unfold State.clusterCleared
  dsimp only
  split <;> simp [State.mono]

theorem State.thr_clusterCleared (s : State) {c k : Nat} (n : Nat) (hk : k / 136 = c) :
    (s.clusterCleared c n).thr k = {} := by
  unfold State.clusterCleared
  dsimp only
  split <;> simp [State.thr, hk]

theorem State.word_clusterCleared (s : State) (c n : Nat) {a : Nat}
    (htorn : ∀ j < 2, a ≠ regAddr .necLockTorn c 0 j) (hdisc : a ≠ regAddr .necSbDiscard c 0 0) :
    tget heldReset (s.clusterCleared c n).held a = tget heldReset s.held a := by
  unfold State.clusterCleared
  dsimp only
  rw [State.setClu_held, State.word_setRg_of_ne (htorn 1 (by decide)), State.word_setRg_of_ne (htorn 0 (by decide))]
  split
  · rfl
  · exact State.word_bump_of_ne hdisc ..

theorem State.necCtl_clusterCleared (s : State) (c n : Nat) :
    (s.clusterCleared c n).rg .necCtl c = s.rg .necCtl c :=
  s.word_clusterCleared c n (fun _ hj => necCtl_ne_necLockTorn c c hj) (necCtl_ne_necSbDiscard c c)

theorem State.thr_setRg (s : State) (n : RegName) (k j : Nat) (v : Word) : (s.setRg n k j v).thr = s.thr := by
  funext i; simp only [State.thr, State.setRg_threads]

theorem State.pkt_setRg (s : State) (n : RegName) (k j : Nat) (v : Word) : (s.setRg n k j v).pkt = s.pkt := by
  funext i; simp only [State.pkt, State.setRg_pkts]

theorem State.clu_setRg (s : State) (n : RegName) (k j : Nat) (v : Word) : (s.setRg n k j v).clu = s.clu := by
  funext i; simp only [State.clu, State.setRg_clusters]

theorem State.admits_clearAdmit (s : State) (c : Nat) : (s.clearAdmit c).admits c = false := by
  unfold State.admits State.clearAdmit
  rw [State.necCtl_dropSamples, State.rg_setRg]
  simp [bit]

theorem State.clearAdmit_rest (s : State) (c : Nat) :
    (s.clearAdmit c).pkt = s.pkt ∧ (s.clearAdmit c).mono = s.mono ∧
      ∀ k, (s.thr k).sample = none → (s.clearAdmit c).thr k = s.thr k := by
  unfold State.clearAdmit
  refine ⟨(State.pkt_dropSamples ..).trans (State.pkt_setRg ..), ?_, fun k hk => ?_⟩
  · simp only [State.mono, State.time_dropSamples, State.setRg_time]
  · rw [State.thr_dropSamples, State.thr_setRg, Thread.without_of_none _ hk, ite_self]

/-- R136: what a cluster's reset leaves of the cluster. -/
theorem State.clusterReset_clu (s : State) (c : Fin 64) :
    ((s.clusterReset c).clu c).resetting = true ∧ ((s.clusterReset c).clu c).resetAt = s.mono ∧
      ((s.clusterReset c).clu c).locks = [] ∧ (s.clusterReset c).admits c = false := by
  rw [s.clusterReset_eq]
  have hr := State.foldl_reap_reaped ((s.clearAdmit c).cluThreads c) (s.clearAdmit c)
  obtain ⟨hres, hat, hlocks⟩ := State.clusterCleared_clu
    (((s.clearAdmit c).cluThreads c).foldl State.reap (s.clearAdmit c)) c ((s.clearAdmit c).buffered c)
  refine ⟨hres, hat.trans ?_, hlocks, ?_⟩
  · rw [← (s.clearAdmit_rest c).2.1]
    simp only [State.mono, hr.time]
  · rw [← s.admits_clearAdmit c]
    simp only [State.admits, State.necCtl_clusterCleared]
    exact congrArg (bit · 0) (hr.words _ (necCtl_ne_telLost c.isLt))

/-- R136: the packets of a cluster that is reset are gone. -/
theorem State.clusterReset_gone (s : State) {c k p : Nat} (hk : k / 136 = c) (hs : (s.thr k).sample = none)
    (hp : (s.thr k).pkt = some p) : s.Gone (s.clusterReset c) p := by
  obtain ⟨hpkt, -, hthr⟩ := s.clearAdmit_rest c
  have hp' : ((s.clearAdmit c).thr k).pkt = some p := by rw [hthr k hs, hp]
  have hmem : k ∈ (s.clearAdmit c).cluThreads c := by
    refine List.mem_filter.mpr ⟨mem_tkeys_of_tget_ne (d := fun _ => {}) fun h => ?_, by simpa using hk⟩
    have hnone : ((s.clearAdmit c).thr k).pkt = none := congrArg Thread.pkt h
    exact Option.some_ne_none p (hp'.symm.trans hnone)
  have hgone := State.foldl_reap_gone _ _ hmem hp'
  have hkept := State.clusterCleared_frames (((s.clearAdmit c).cluThreads c).foldl State.reap (s.clearAdmit c)) c
    ((s.clearAdmit c).buffered c)
  rw [s.clusterReset_eq]
  refine State.Gone.earlier ?_ (congrFun hpkt p)
  simpa only [State.Gone, State.pkt, State.held26, hkept.1, hkept.2] using hgone

/-! ### A write of NEC_CTL (R138) -/

/-- R138: the image slots once those that a write of NEC_CTL names are invalid. -/
def State.invalNamed (s : State) (c : Nat) (v : Word) (i : Nat) (u : State) : State :=
  if bit v (29 + i) && ! (i == s.activeSlotOf c && s.admits c) then u.invalSlot c i else u

/-- R138, R146: the active slot that a write of NEC_CTL leaves. -/
def State.nextSlot (s : State) (c : Nat) (v : Word) : Bool :=
  if bit v 16 == bit (s.rg .necCtl c) 16 || s.drainedClu c then bit v 16 else bit (s.rg .necCtl c) 16

/-- R138: both image slots after a write of NEC_CTL. -/
def State.invalBoth (s : State) (c : Nat) (v : Word) : State := s.invalNamed c v 1 (s.invalNamed c v 0 s)

/-- R138: ADMIT as a write of NEC_CTL leaves it. -/
def State.nextAdmit (s : State) (c : Nat) (v : Word) : Bool :=
  let u := s.invalBoth c v
  bit v 0 && (s.admits c ||
    ((u.slot c (b2n (s.nextSlot c v))).valid && ! u.reload.stale.contains (c / 8) && ! (u.clu c).resetting))

/-- R138: NEC_CTL as a write of it leaves it. -/
def necCtlWord (v : Word) (slot adm : Bool) : Word := (v &&& 0x1F800000) ||| flag 16 slot ||| flag 0 adm

/-- R138: slots and NEC_CTL after a write of it. -/
def State.necCtlSet (s : State) (c : Nat) (v : Word) : State :=
  (s.invalBoth c v).setRg .necCtl c 0 (necCtlWord v (s.nextSlot c v) (s.nextAdmit c v))

/-- R138, R361: and the samples that it gives up. -/
def State.necCtlKept (s : State) (c : Nat) (v : Word) : State :=
  if s.admits c && ! s.nextAdmit c v then (s.necCtlSet c v).dropSamples c else s.necCtlSet c v

theorem State.writeNecCtl_eq (s : State) (c : Nat) (v : Word) :
    s.writeNecCtl c v = if bit v 31 then (s.necCtlKept c v).clusterReset c else s.necCtlKept c v := rfl

theorem bit_or (v w : Word) (i : Nat) : bit (v ||| w) i = (bit v i || bit w i) := by simp [bit]

theorem bit_flag_same {i : Nat} (hi : i < 32) (b : Bool) : bit (flag i b) i = b := by
  cases b
  · simp [flag, bit]
  · simp [flag, bit_put, hi]

theorem bit_flag_other {i j : Nat} (h : j ≠ i) (b : Bool) : bit (flag i b) j = false := by
  cases b
  · simp [flag, bit]
  · exact bit_flag_of_ne h

theorem bit_necCtlWord_admit (v : Word) (slot adm : Bool) : bit (necCtlWord v slot adm) 0 = adm := by
  have hv : bit (v &&& 0x1F800000) 0 = false := by simp [bit]
  rw [necCtlWord, bit_or, bit_or, hv, bit_flag_other (by decide), bit_flag_same (by decide)]; rfl

theorem bit_necCtlWord_slot (v : Word) (slot adm : Bool) : bit (necCtlWord v slot adm) 16 = slot := by
  have hv : bit (v &&& 0x1F800000) 16 = false := by simp [bit]
  rw [necCtlWord, bit_or, bit_or, hv, bit_flag_same (by decide), bit_flag_other (by decide), Bool.or_false,
    Bool.false_or]

end Sys2Proof.Machine
end

section
/-! PROOFS of the family 04_nirum_engines: the writes of NEC_CTL. -/

namespace Sys2Proof.Machine

open Sys2Proof

/-! ### What a write of NEC_CTL leaves (R136, R138, R146, R361) -/

theorem State.thr_setClu (s : State) (c : Nat) (x : Cluster) : (s.setClu c x).thr = s.thr := by
  funext k; simp only [State.thr, State.setClu_threads]

theorem State.pkt_setClu (s : State) (c : Nat) (x : Cluster) : (s.setClu c x).pkt = s.pkt := by
  funext k; simp only [State.pkt, State.setClu_pkts]

theorem State.thr_clusterReset (s : State) {c k : Nat} (hk : k / 136 = c) : (s.clusterReset c).thr k = {} := by
  rw [s.clusterReset_eq]
  exact State.thr_clusterCleared _ _ hk

/-- R138: the slots that a write of NEC_CTL makes invalid touch nothing but their cluster. -/
theorem State.invalBoth_same {β : Type} (g : State → β) (h : ∀ s c x, g (State.setClu s c x) = g s) (s : State)
    (c : Nat) (v : Word) : g (s.invalBoth c v) = g s := by
  have hone (u : State) (i : Nat) : g (s.invalNamed c v i u) = g u := ite_same g _ _ _ u (h ..) rfl
  exact (hone _ 1).trans (hone _ 0)

theorem State.invalSlot_clu {β : Type} (g : Cluster → β) (h : ∀ x l, g { x with slots := l } = g x) (s : State)
    (c i : Nat) : g ((s.invalSlot c i).clu c) = g (s.clu c) := by
  rw [s.invalSlot_eq, State.setSlot, State.clu_setClu, if_pos rfl, h]

/-- R138: and of that cluster nothing but the slots. -/
theorem State.invalBoth_clu {β : Type} (g : Cluster → β) (h : ∀ x l, g { x with slots := l } = g x) (s : State)
    (c : Nat) (v : Word) : g ((s.invalBoth c v).clu c) = g (s.clu c) := by
  have hone (u : State) (i : Nat) : g ((s.invalNamed c v i u).clu c) = g (u.clu c) :=
    ite_same (fun st : State => g (st.clu c)) _ _ _ u (u.invalSlot_clu g h c i) rfl
  exact (hone _ 1).trans (hone _ 0)

theorem State.slot_invalSlot (s : State) (c i : Nat) : (s.invalSlot c i).slot c i = {} := by
  rw [s.invalSlot_eq, State.slot_setSlot]
  split
  · rfl
  · next h =>
    have hlen : (s.clu c).slots.length ≤ i := by simpa using h
    simp [State.slot, hlen]

theorem State.slot_invalSlot_of_ne (s : State) (c : Nat) {i j : Nat} (h : j ≠ i) :
    (s.invalSlot c i).slot c j = s.slot c j := by
  rw [s.invalSlot_eq, State.slot_setSlot, if_neg (by simp [h])]

/-- R138: a slot that a write of NEC_CTL names, and may make invalid, is invalid. -/
theorem State.slot_invalBoth (s : State) (c : Nat) {v : Word} {i : Nat} (hi : i < 2) (hv : bit v (29 + i) = true)
    (hmay : s.activeSlotOf c ≠ i ∨ s.admits c = false) : (s.invalBoth c v).slot c i = {} := by
  have hpos (u : State) : s.invalNamed c v i u = u.invalSlot c i := by
    refine if_pos ?_
    rcases hmay with h | h
    · simp [hv, Ne.symm h]
    · simp [hv, h]
  have hkeep (u : State) {j : Nat} (hj : i ≠ j) : (s.invalNamed c v j u).slot c i = u.slot c i :=
    ite_same (fun st : State => st.slot c i) _ _ _ u (u.slot_invalSlot_of_ne c hj) rfl
  obtain rfl | rfl : i = 0 ∨ i = 1 := by omega
  · rw [State.invalBoth, hkeep _ (by decide), hpos, State.slot_invalSlot]
  · rw [State.invalBoth, hpos, State.slot_invalSlot]

/-- R138: a write of NEC_CTL that names no slot leaves both. -/
theorem State.invalBoth_none (s : State) (c : Nat) {v : Word} (h0 : bit v 29 = false) (h1 : bit v 30 = false) :
    s.invalBoth c v = s := by
  have hone (u : State) (i : Nat) (h : bit v (29 + i) = false) : s.invalNamed c v i u = u := if_neg (by simp [h])
  rw [State.invalBoth, hone _ 1 h1, hone _ 0 h0]

theorem State.necCtlKept_same {β : Type} (g : State → β) (hclu : ∀ s c x, g (State.setClu s c x) = g s)
    (hrg : ∀ s n k j v, g (State.setRg s n k j v) = g s) (hthr : ∀ s k x, g (State.setThr s k x) = g s) (s : State)
    (c : Nat) (v : Word) : g (s.necCtlKept c v) = g s := by
  have hset : g (s.necCtlSet c v) = g s := (hrg ..).trans (s.invalBoth_same g hclu c v)
  refine ite_same g _ _ _ s ?_ hset
  exact (State.dropSamples_same g hclu (fun s n k j m => hrg ..) hthr _ c).trans hset

theorem State.pkt_necCtlKept (s : State) (c : Nat) (v : Word) : (s.necCtlKept c v).pkt = s.pkt := by
  funext p
  simp only [State.pkt, s.necCtlKept_same (·.pkts) (by simp) (by simp) (by simp) c v]

theorem State.mono_necCtlKept (s : State) (c : Nat) (v : Word) : (s.necCtlKept c v).mono = s.mono := by
  simp only [State.mono, s.necCtlKept_same (·.time) (by simp) (by simp) (by simp) c v]

theorem State.necCtl_necCtlKept (s : State) (c : Nat) (v : Word) :
    (s.necCtlKept c v).rg .necCtl c = necCtlWord v (s.nextSlot c v) (s.nextAdmit c v) := by
  have hset : (s.necCtlSet c v).rg .necCtl c = necCtlWord v (s.nextSlot c v) (s.nextAdmit c v) := State.rg_setRg ..
  unfold State.necCtlKept
  split
  · rw [State.necCtl_dropSamples, hset]
  · exact hset

theorem State.admits_necCtlKept (s : State) (c : Nat) (v : Word) : (s.necCtlKept c v).admits c = s.nextAdmit c v := by
  rw [State.admits, s.necCtl_necCtlKept, bit_necCtlWord_admit]

theorem State.activeSlotOf_necCtlKept (s : State) (c : Nat) (v : Word) :
    (s.necCtlKept c v).activeSlotOf c = b2n (s.nextSlot c v) := by
  rw [State.activeSlotOf, s.necCtl_necCtlKept, bit_necCtlWord_slot]

theorem State.thr_necCtlSet (s : State) (c : Nat) (v : Word) : (s.necCtlSet c v).thr = s.thr :=
  (State.thr_setRg ..).trans (s.invalBoth_same (·.thr) State.thr_setClu c v)

theorem State.clu_necCtlSet {β : Type} (g : Cluster → β) (h : ∀ x l, g { x with slots := l } = g x) (s : State)
    (c : Nat) (v : Word) : g ((s.necCtlSet c v).clu c) = g (s.clu c) := by
  rw [State.necCtlSet, State.clu_setRg, s.invalBoth_clu g h]

/-- R361: a thread that runs no sample is untouched. -/
theorem State.thr_necCtlKept {s : State} {k : Nat} (c : Nat) (v : Word) (hk : (s.thr k).sample = none) :
    (s.necCtlKept c v).thr k = s.thr k := by
  unfold State.necCtlKept
  split
  · rw [State.thr_dropSamples, s.thr_necCtlSet, Thread.without_of_none _ hk, ite_self]
  · rw [s.thr_necCtlSet]

theorem State.locks_necCtlKept (s : State) (c : Nat) (v : Word) :
    ((s.necCtlKept c v).clu c).locks = (s.clu c).locks := by
  unfold State.necCtlKept
  split
  · rw [State.clu_dropSamples, if_pos rfl]
    exact s.clu_necCtlSet (·.locks) (fun _ _ => rfl) c v
  · exact s.clu_necCtlSet (·.locks) (fun _ _ => rfl) c v

theorem State.slot_necCtlKept (s : State) (c i : Nat) (v : Word) :
    (s.necCtlKept c v).slot c i = (s.invalBoth c v).slot c i := by
  unfold State.necCtlKept
  split
  · rw [State.slot, State.clu_dropSamples, if_pos rfl, State.necCtlSet, State.clu_setRg]; rfl
  · rw [State.slot, State.necCtlSet, State.clu_setRg]; rfl

/-- R361: where ADMIT is cleared, the cluster's samples are given up, and its re-executions with them. -/
theorem State.necCtlKept_cleared {s : State} {c : Nat} {v : Word} (ha : s.admits c = true)
    (hn : s.nextAdmit c v = false) :
    ((s.necCtlKept c v).clu c).samples = [] ∧
      ∀ k i, k / 136 = c → (s.thr k).sample = some i → (s.clu c).samples.any (fun e => e.1 == i) = true →
        ((s.necCtlKept c v).thr k).st = .idle ∧ ((s.necCtlKept c v).thr k).sample = none := by
  have hkept : s.necCtlKept c v = (s.necCtlSet c v).dropSamples c := if_pos (by simp [ha, hn])
  rw [hkept]
  refine ⟨by rw [State.clu_dropSamples, if_pos rfl], fun k i hk hi hset => ?_⟩
  have hsets : (s.necCtlSet c v).setsOf c i = true := by
    rw [State.setsOf, s.clu_necCtlSet (·.samples) (fun _ _ => rfl) c v]; exact hset
  have hgive : (s.thr k).without ((s.necCtlSet c v).setsOf c) = (s.thr k).giveUp := if_pos (by simp [hi, hsets])
  rw [State.thr_dropSamples, if_pos hk, s.thr_necCtlSet, hgive]
  exact ⟨rfl, rfl⟩

/-- R138: a write of NEC_CTL to a cluster whose group serves it. -/
theorem becomes_necCtl {i : Instr} {s : State} {r : Req} {c : Fin 64} {v : Word}
    (hi : exec i s = act s.regOn (fun s => s.access r (domPg (c / 8)) fun s => s.writeNecCtl c v) s)
    (ho : s.Open (domPg (c / 8))) (hv : bit v 31 = false) : Becomes i s (s.necCtlKept c v) := by
  have h := becomes_of_access (f := fun s => s.writeNecCtl c v) hi ho
  rwa [s.writeNecCtl_eq, hv, if_neg (by decide)] at h

@[simp] theorem State.admits_intSweep (s : State) : s.intSweep.admits = s.admits := by
  funext c; simp [State.admits]

@[simp] theorem State.activeSlotOf_intSweep (s : State) : s.intSweep.activeSlotOf = s.activeSlotOf := by
  funext c; simp [State.activeSlotOf]

/-- Settles O28: a write of NEC_CTL is the setting of slots and word, the giving up of samples where ADMIT is
cleared, and the reset where RESET is 1; each clause reads off one of the three. -/
theorem clusterControl : Obligations.ClusterControl := by
  refine ⟨?reset, ?cleared, ?complete, ?inval, ?drained, ?opens, ?table⟩
  case reset =>
    intro s r c v ho
    have h := becomes_of_access (i := .clusterReset r c v) (r := r)
      (f := fun s => s.writeNecCtl c (v ||| flag 31 true)) rfl ho
    rw [s.writeNecCtl_eq, bit_or_flag v (by decide), if_pos rfl] at h
    refine h.completes ?_
    let u := s.necCtlKept c (v ||| flag 31 true)
    obtain ⟨hres, hat, hlocks, hadm⟩ := u.clusterReset_clu c
    simp only [State.clu_intSweep, State.thr_intSweep, State.admits_intSweep, State.held26_intSweep, State.pkt_intSweep]
    refine ⟨hres, hat.trans (s.mono_necCtlKept ..), hlocks, hadm, fun k hk => u.thr_clusterReset hk,
      fun k p hk hs hp => ?_⟩
    have hthr : u.thr k = s.thr k := State.thr_necCtlKept c _ hs
    have hgone := u.clusterReset_gone hk (by rw [hthr, hs]) (by rw [hthr, hp])
    exact (hgone.earlier (congrFun (s.pkt_necCtlKept ..) p)).symm
  case cleared =>
    intro s r c v ho hreset hadmit
    refine (becomes_necCtl (i := .admitWrite r c v) rfl ho hreset).completes ?_
    have hn : s.nextAdmit c v = false := by simp [State.nextAdmit, hadmit]
    simp only [State.clu_intSweep, State.thr_intSweep, State.admits_intSweep]
    exact ⟨(s.admits_necCtlKept c v).trans hn, s.locks_necCtlKept c v, fun ha => State.necCtlKept_cleared ha hn,
      fun k hk => State.thr_necCtlKept c v hk⟩
  case complete =>
    intro s c hon hres hat
    exact becomes_of_act (f := fun s => s.setClu c { s.clu c with resetting := false }) rfl (by simp [hon, hres, hat])
  case inval =>
    intro s r c i v ho hreset hv hmay
    refine (becomes_necCtl (i := .slotInvalidate r c v) rfl ho hreset).completes ?_
    rw [State.slot_intSweep, s.slot_necCtlKept, s.slot_invalBoth c i.isLt hv hmay]
  case drained =>
    intro s r c v ho hreset hdrained
    refine (becomes_necCtl (i := .activeSlot r c v) rfl ho hreset).completes ?_
    rw [State.activeSlotOf_intSweep, s.activeSlotOf_necCtlKept, State.nextSlot, hdrained, Bool.or_true, if_pos rfl]
  case opens =>
    intro s r c v ho hreset h30 h29 h0 hslot hvalid hstale hres
    refine (becomes_necCtl (i := .admitWrite r c v) rfl ho hreset).completes ?_
    have hsame : b2n (s.nextSlot c v) = s.activeSlotOf c := by
      unfold State.nextSlot
      split
      · exact hslot
      · rfl
    rw [State.admits_intSweep, State.activeSlotOf_intSweep, s.admits_necCtlKept, s.activeSlotOf_necCtlKept]
    refine ⟨?_, hsame⟩
    simp only [State.nextAdmit, s.invalBoth_none c h29 h30, hsame, h0, hvalid, hres]
    rw [hstale]; simp
  case table =>
    intro s c hon
    exact becomes_of_act (f := fun s => s.setClu c { s.clu c with
      slotTab := (s.clu c).slotNew.getD (s.clu c).slotTab, slotNew := none }) rfl hon

end Sys2Proof.Machine
end

section
/-! PROOFS of the family 04_nirum_engines: dispatch and background work. -/

namespace Sys2Proof.Machine

open Sys2Proof

/-! ### Dispatch (R112, R113, R133, R156) -/

/-- R113: the class whose turn it is is served, where its head can be placed or is dropped. -/
theorem State.dispatch_first {s u : State} {n : Nat} (h : s.tryClass n ((s.grp n).rr % 4) = some u) :
    s.dispatch n = u := by
  have hr : List.range 4 = [0, 1, 2, 3] := rfl
  rw [State.dispatch, hr, List.findSome?_cons, Nat.add_zero, h]; rfl

/-- R113: with no eligible cluster the head of a class is dropped. -/
theorem State.tryClass_none {s : State} {n cls k : Nat} {l : List Nat}
    (hq : tget (fun _ => []) (s.grp n).waitq cls = k :: l)
    (hel : ((groupClusters n).filter fun c => s.eligible c (s.pkt k).stamp.epoch) = []) :
    s.tryClass n cls = some ((s.popClass n cls).handDrop k 0x09 (s.verdict0 (s.pkt k))) := by
  simp [State.tryClass, hq, hel]

/-- R112: the head of a class goes to the thread that is picked. -/
theorem State.tryClass_placed {s s' : State} {n cls k c e t : Nat} {l : List Nat}
    (hq : tget (fun _ => []) (s.grp n).waitq cls = k :: l)
    (hel : ((groupClusters n).filter fun c => s.eligible c (s.pkt k).stamp.epoch) ≠ [])
    (hp : s.pickCluster ((groupClusters n).filter fun c => s.eligible c (s.pkt k).stamp.epoch) cls =
      (some (c, e, t), s')) : s.tryClass n cls = some ((s'.popClass n cls).place k c e t) := by
  simp [State.tryClass, hq, hel, hp]

/-- R263: the sampling of digests touches the telemetry unit alone. -/
theorem State.digSample_recorded (s : State) (who : Nat) :
    s.Recorded (s.digSample who).2 ∧ (s.digSample who).2.held = s.held := by
  unfold State.digSample
  split
  · exact ⟨.refl s, rfl⟩
  · exact ⟨.of_eq, rfl⟩

/-- R112, R133, R156: a frame stands in its thread, which begins its program. -/
def State.seated (s : State) (o : Nat) (p : Pkt) (k c e t : Nat) : State :=
  let key := thrKey c e t
  let s := s.setPkt k p
  let th := (s.thr key).begin_ (s.slot c (s.activeSlotOf c)).pktEntry o s.mono
  s.setThr key { th with pkt := some k, sample := none, verdict := s.verdict0 p }

/-- R137, R355: the cluster counts a dispatch, and has credit for background work again. -/
def State.dispatched (s : State) (c : Nat) : State :=
  let x := s.clu c
  (s.setClu c { x with dispatched := x.dispatched + 1, credit := 16 }).pmcCluster c 0

/-- R112, R355: a frame is given to a thread, once its issue priority and its digest's sampling are decided. -/
def State.placeIn (s : State) (o : Nat) (dig : Bool) (k c e t : Nat) : State :=
  let p := { s.pkt k with cluster := c, engine := e, thread := t, dig := dig }
  let u := s.seated o p k c e t
  if ((u.clu c).dispatched + 1) % 2 ^ (u.dispatched c).sentLog2 c = 0 then (u.dispatched c).takeSample c e t p
  else u.dispatched c

/-- R112, R133, R156: the thread of a frame that stands in it. -/
theorem State.thr_seated (s : State) (o : Nat) (p : Pkt) (k c e t : Nat) :
    let x := (s.seated o p k c e t).thr (thrKey c e t)
    x.st = .run ∧ x.pc = (s.slot c (s.activeSlotOf c)).pktEntry ∧ x.budget = 96 ∧ x.pkt = some k ∧
      x.verdict = s.verdict0 p ∧ x.bg = false := by
  rw [State.seated, State.thr_setThr, if_pos rfl]
  exact ⟨rfl, rfl, rfl, rfl, rfl, rfl⟩

theorem State.dispatched_thr (s : State) (c : Nat) : (s.dispatched c).thr = s.thr :=
  (State.pmcCluster_exported ..).thr.trans (State.thr_setClu ..)

theorem State.clu_seated (s : State) (o : Nat) (p : Pkt) (k c e t : Nat) : (s.seated o p k c e t).clu = s.clu := by
  funext d; simp only [State.clu, State.seated, State.setThr_clusters, State.setPkt_clusters]

theorem State.dispatched_clu (s : State) (c : Nat) :
    ((s.dispatched c).clu c).dispatched = (s.clu c).dispatched + 1 := by
  rw [State.dispatched, (State.pmcCluster_exported ..).clu, State.clu_setClu, if_pos rfl]

theorem State.pmc_held (s : State) (hit : Word → Bool) (n : Nat) : (s.pmc hit n).held = s.held :=
  ite_same (·.held) _ _ _ s rfl rfl

theorem State.sentLog2_of_held {s t : State} (h : t.held = s.held) : t.sentLog2 = s.sentLog2 := by
  funext c; simp only [State.sentLog2, State.rg, h]

/-- R355: a frame of which no sample is due stands in its thread, and is counted. -/
theorem State.placeIn_unsampled {s : State} {c : Nat} (o : Nat) (dig : Bool) (k e t : Nat)
    (h : ((s.clu c).dispatched + 1) % 2 ^ s.sentLog2 c ≠ 0) :
    s.placeIn o dig k c e t =
      (s.seated o { s.pkt k with cluster := c, engine := e, thread := t, dig := dig } k c e t).dispatched c := by
  have hlog (u : State) : (u.dispatched c).sentLog2 = u.sentLog2 :=
    State.sentLog2_of_held ((State.pmc_held ..).trans (State.setClu_held ..))
  rw [State.placeIn, hlog]
  exact if_neg h

theorem State.nextOrder_eq (s : State) (c : Nat) :
    s.nextOrder c = ((s.clu c).issued, s.setClu c { s.clu c with issued := (s.clu c).issued + 1 }) := rfl

/-- R112, R118, R263: the state in which a frame is placed: an issue priority is given out, and its digest's sampling is
decided. -/
def State.orderedFor (s : State) (c : Nat) : State := ((s.nextOrder c).2.digSample c).2

theorem State.place_eq (s : State) (k c e t : Nat) :
    s.place k c e t =
      (s.orderedFor c).placeIn (s.nextOrder c).1 ((s.nextOrder c).2.digSample c).1 k c e t := rfl

theorem State.orderedFor_recorded (s : State) (c : Nat) : (s.nextOrder c).2.Recorded (s.orderedFor c) :=
  (State.digSample_recorded ..).1

theorem State.orderedFor_held (s : State) (c : Nat) : (s.orderedFor c).held = s.held :=
  (State.digSample_recorded ..).2.trans (State.setClu_held ..)

theorem State.orderedFor_pkt (s : State) (c : Nat) : (s.orderedFor c).pkt = s.pkt :=
  (s.orderedFor_recorded c).pkt.trans (State.pkt_setClu ..)

theorem State.orderedFor_clu (s : State) (c : Nat) :
    (s.orderedFor c).clu c = { s.clu c with issued := (s.clu c).issued + 1 } := by
  rw [(s.orderedFor_recorded c).clu, s.nextOrder_eq, State.clu_setClu, if_pos rfl]

/-- R156: the verdict of dispatch goes by a frame's stamp and key, and by the seeds of the epoch. -/
theorem State.verdict0_congr {s t : State} (hepc : t.epc = s.epc) {p q : Pkt} (hstamp : q.stamp = p.stamp)
    (hkey : q.key = p.key) : t.verdict0 q = s.verdict0 p := by
  simp only [State.verdict0, State.lagSeed, hepc, hstamp, hkey]

theorem State.slot_of_clu {s t : State} {c : Nat} (h : (t.clu c).slots = (s.clu c).slots) (i : Nat) :
    t.slot c i = s.slot c i := by simp only [State.slot, h]

theorem State.activeSlotOf_of_held {s t : State} (h : t.held = s.held) : t.activeSlotOf = s.activeSlotOf := by
  funext c; simp only [State.activeSlotOf, State.rg, h]

/-- R112, R133, R156: a thread that is given a frame of which no sample is due, and its cluster's count. -/
theorem State.place_unsampled {s : State} {c : Nat} (k e th : Nat)
    (h : ((s.clu c).dispatched + 1) % 2 ^ s.sentLog2 c ≠ 0) :
    let t := (s.place k c e th).thr (thrKey c e th)
    t.st = .run ∧ t.pc = (s.slot c (s.activeSlotOf c)).pktEntry ∧ t.budget = 96 ∧ t.pkt = some k ∧
      t.verdict = s.verdict0 (s.pkt k) ∧ t.bg = false ∧
      ((s.place k c e th).clu c).dispatched = (s.clu c).dispatched + 1 := by
  let u := s.orderedFor c
  have hclu : u.clu c = _ := s.orderedFor_clu c
  have hheld : u.held = s.held := s.orderedFor_held c
  have hdue : ((u.clu c).dispatched + 1) % 2 ^ u.sentLog2 c ≠ 0 := by
    rw [hclu, State.sentLog2_of_held hheld]; exact h
  obtain ⟨p, hp, hplace⟩ : ∃ p : Pkt, (p.stamp = (s.pkt k).stamp ∧ p.key = (s.pkt k).key) ∧
      s.place k c e th = (u.seated (s.nextOrder c).1 p k c e th).dispatched c := by
    refine ⟨_, ?_, (s.place_eq k c e th).trans (State.placeIn_unsampled _ _ k e th hdue)⟩
    rw [s.orderedFor_pkt c]
    exact ⟨rfl, rfl⟩
  rw [hplace]
  obtain ⟨hst, hpc, hbudget, hpkt, hverdict, hbg⟩ := u.thr_seated (s.nextOrder c).1 p k c e th
  have hslot : u.slot c (u.activeSlotOf c) = s.slot c (s.activeSlotOf c) := by
    rw [State.activeSlotOf_of_held hheld]
    exact State.slot_of_clu (by rw [hclu]) _
  have hfirst : u.verdict0 p = s.verdict0 (s.pkt k) :=
    State.verdict0_congr ((s.orderedFor_recorded c).epc.trans (State.setClu_epc ..)) hp.1 hp.2
  rw [State.dispatched_thr, State.dispatched_clu, State.clu_seated, hclu]
  exact ⟨hst, hpc.trans (by rw [hslot]), hbudget, hpkt, hverdict.trans hfirst, hbg, rfl⟩

/-! ### Background work (R137) -/

/-- R137: what the start of background work leaves. -/
theorem State.background_thr (s : State) (c e th : Nat) :
    let x := (s.background c e th).thr (thrKey c e th)
    x.st = .run ∧ x.bg = true ∧ x.bgLeft = 32 ∧ x.pc = (s.slot c (s.activeSlotOf c)).bgEntry ∧ x.pkt = none := by
  have hslot : (s.nextOrder c).2.slot c ((s.nextOrder c).2.activeSlotOf c) = s.slot c (s.activeSlotOf c) := by
    rw [s.nextOrder_eq, State.activeSlotOf_of_held (State.setClu_held ..)]
    exact State.slot_of_clu (by rw [State.clu_setClu, if_pos rfl]) _
  have hback : s.background c e th = (s.nextOrder c).2.setThr (thrKey c e th) { ((s.nextOrder c).2.thr (thrKey c e th)).begin_
      ((s.nextOrder c).2.slot c ((s.nextOrder c).2.activeSlotOf c)).bgEntry (s.nextOrder c).1 (s.nextOrder c).2.mono with
      bg := true, bgLeft := 32, budget := 0, pkt := none, sample := none, verdict := [] } := rfl
  rw [hback, State.thr_setThr, if_pos rfl, ← hslot]
  exact ⟨rfl, rfl, rfl, rfl, rfl⟩

theorem State.background_rest (s : State) (c e th : Nat) :
    (∀ k, k ≠ thrKey c e th → (s.background c e th).thr k = s.thr k) ∧ (s.background c e th).buf = s.buf ∧
      (s.background c e th).dram = s.dram := by
  refine ⟨fun k hk => ?_, (State.setThr_buf ..).trans (State.setClu_buf ..),
    (State.setThr_dram ..).trans (State.setClu_dram ..)⟩
  exact ((State.thr_setThr ..).trans (if_neg hk)).trans (congrFun (State.thr_setClu ..) k)

/-- Settles O13: the class whose turn it is by one step of the round robin, a placed frame by what its thread begins
with, background work by the same. -/
theorem dispatching : Obligations.Dispatching := by
  refine ⟨?dispatch, fun s k c e th h => State.place_unsampled k e th h, ?background⟩
  case dispatch =>
    intro s pg k l hon cls hq el
    refine ⟨fun hel => ?_, fun c e th s' hel hpick => ?_⟩
    · rw [← State.dispatch_first (State.tryClass_none hq hel)]
      exact becomes_of_act (f := fun s => s.dispatch pg) rfl hon
    · rw [← State.dispatch_first (State.tryClass_placed hq hel hpick)]
      exact becomes_of_act (f := fun s => s.dispatch pg) rfl hon
  case background =>
    intro s c e th hrun hmay
    refine (becomes_of_act (f := fun s => s.background c e th) rfl (by simp [hrun, hmay])).completes ?_
    obtain ⟨hst, hbg, hleft, hpc, hpkt⟩ := s.background_thr c e th
    obtain ⟨hthr, hbuf, hdram⟩ := s.background_rest c e th
    rw [State.thr_intSweep, State.intSweep_buf, State.intSweep_dram]
    exact ⟨hst, hbg, hleft, hpc, hpkt, hthr, hbuf, hdram⟩

end Sys2Proof.Machine
end

section
/-! PROOFS of the family 04_nirum_engines: the returns of a thread's memory operations, drains and lock grants. -/

namespace Sys2Proof.Machine

open Sys2Proof

/-! ### Keys of threads -/

theorem keyClu_thrKey (c : Nat) (e : Fin 17) (th : Fin 8) : keyClu (thrKey c e th) = c := by
  unfold keyClu thrKey; omega

/-! ### A thread that settles (R121, R398) -/

/-- R121, R398: settling writes a thread's state, the events it waits for and its debug operation, nothing else. -/
theorem Thread.settle_keeps {β : Type} (g : Thread → β)
    (h : ∀ t st aw pr hr sp ha, g { t with
      st := st, await := aw, prior := pr, haltReq := hr, stepping := sp, haltAt := ha } = g t)
    (t : Thread) (now : Nat) : g (t.settle now) = g t := by
  unfold Thread.settle
  dsimp only
  split
  · exact h t t.st _ t.prior t.haltReq t.stepping t.haltAt
  · exact h t t.st _ _ t.haltReq t.stepping t.haltAt
  · split
    · exact h t _ _ _ _ _ _
    · exact h t _ _ t.prior t.haltReq t.stepping t.haltAt

theorem State.thr_putThr (s : State) (k j : Nat) (t : Thread) :
    (s.putThr k t).thr j = if j = k then t.settle s.mono else s.thr j := State.thr_setThr ..

/-- R121: what settling does not write stands in the thread as it was put there. -/
theorem State.putThr_field {β : Type} (g : Thread → β)
    (h : ∀ t st aw pr hr sp ha, g { t with
      st := st, await := aw, prior := pr, haltReq := hr, stepping := sp, haltAt := ha } = g t)
    (s : State) (k : Nat) (t : Thread) : g ((s.putThr k t).thr k) = g t := by
  rw [State.thr_putThr, if_pos rfl, Thread.settle_keeps g h]

/-! ### Returns (R121, R127, R130, R134) -/

/-- R134, R135: a read that fails is a machine check, or where its work has ended the record and the fault alone. -/
theorem State.readFails_setThr (s : State) (k : Nat) (t : Thread) (cause no addr info : Nat) :
    (s.setThr k t).readFails k cause no addr info =
      if t.late no = true then (s.setThr k t).mcRecord k cause addr info
      else (s.setThr k t).machineCheck k cause no addr info := by
  rw [State.readFails, State.thr_setThr, if_pos rfl]

/-- R127: the node that a thread's tree read returns. -/
def State.nodeAt (s : State) (k n : Nat) : List Word :=
  padTo 8 (tget (fun _ => []) s.tbl.treeG (keyClu k / 8 * 65536 + n))

/-- R121, R127: the oldest tree read returns its node. -/
theorem State.treeReturn_good {s : State} {k no pc n : Nat} {l : List (Nat × Nat × Nat)}
    (h : (s.thr k).rdTree = (no, pc, n) :: l) :
    s.treeReturn k false = (s.setThr k { s.thr k with rdTree := l }).putThr k { s.thr k with
      rdTree := l, n := s.nodeAt k n, leaf := fld (wAt (s.nodeAt k n) 0) 31 30 = 2 } := by
  simp only [State.treeReturn, h, State.thr_setThr, State.setThr_tbl]
  rfl

/-- R134: the oldest tree read meets an uncorrectable error. -/
theorem State.treeReturn_bad {s : State} {k no pc n : Nat} {l : List (Nat × Nat × Nat)}
    (h : (s.thr k).rdTree = (no, pc, n) :: l) :
    s.treeReturn k true =
      if (s.thr k).late no = true then (s.setThr k { s.thr k with rdTree := l }).mcRecord k 6 pc n
      else (s.setThr k { s.thr k with rdTree := l }).machineCheck k 6 no pc n := by
  refine Eq.trans ?_ (s.readFails_setThr k { s.thr k with rdTree := l } 6 no pc n)
  simp only [State.treeReturn, h, if_true]

/-- R121, R127, R130: the oldest load returns its word. -/
theorem State.loadReturn_good {s : State} {k no pc a : Nat} {own : Option Word}
    {l : List (Nat × Nat × Nat × Option Word)} (h : (s.thr k).rdLoad = (no, pc, a, own) :: l) :
    s.loadReturn k false = (s.setThr k { s.thr k with rdLoad := l }).putThr k { s.thr k with
      rdLoad := l, scr := own.getD (s.scratch (keyClu k) a) } := by
  simp only [State.loadReturn, h, State.thr_setThr]
  rfl

theorem State.loadReturn_bad {s : State} {k no pc a : Nat} {own : Option Word}
    {l : List (Nat × Nat × Nat × Option Word)} (h : (s.thr k).rdLoad = (no, pc, a, own) :: l) :
    s.loadReturn k true =
      if (s.thr k).late no = true then (s.setThr k { s.thr k with rdLoad := l }).mcRecord k 5 pc a
      else (s.setThr k { s.thr k with rdLoad := l }).machineCheck k 5 no pc a := by
  refine Eq.trans ?_ (s.readFails_setThr k { s.thr k with rdLoad := l } 5 no pc a)
  simp only [State.loadReturn, h, if_true]

/-- R121, R127: the oldest counter add returns its old value. -/
theorem State.countReturn_good {s : State} {k no pc : Nat} {v : Word} {l : List (Nat × Nat × Option Word)}
    (h : (s.thr k).rdCount = (no, pc, some v) :: l) :
    s.countReturn k = s.putThr k { s.thr k with rdCount := l, cnt := v } := by
  simp only [State.countReturn, h]

/-! ### Lock lines (R131) -/

theorem State.scratch_setLine (s : State) (c l : Nat) (x : LockLine) : (s.setLine c l x).scratch = s.scratch := by
  funext d a
  by_cases h : d = c <;> simp [State.scratch, State.setLine, h]

theorem State.scratch_setThr (s : State) (k : Nat) (t : Thread) : (s.setThr k t).scratch = s.scratch := by
  funext d a; simp [State.scratch, State.clu]

theorem State.thr_setLine (s : State) (c l : Nat) (x : LockLine) : (s.setLine c l x).thr = s.thr := State.thr_setClu ..

theorem State.lockLine_setLine (s : State) (c l d j : Nat) (x : LockLine) :
    (s.setLine c l x).lockLine d j = if d = c ∧ j = l then x else s.lockLine d j := by
  by_cases h : d = c
  · by_cases hj : j = l <;> simp [State.lockLine, State.setLine, h, hj]
  · simp [State.lockLine, State.setLine, h]

theorem State.lockLine_setThr (s : State) (k : Nat) (t : Thread) : (s.setThr k t).lockLine = s.lockLine := by
  funext d a; simp [State.lockLine, State.clu]

/-- R131: passing lines on changes lines alone. -/
theorem State.passLine_same {β : Type} (g : State → β) (h : ∀ s c l x, g (State.setLine s c l x) = g s) (s : State)
    (k : Nat) : g (s.passLine k) = g s := by
  unfold State.passLine
  dsimp only
  split
  · rfl
  · exact foldl_same g _ (fun st e => h ..) _ s

/-- R131: a request of a line leaves scratch and store buffers as they were. -/
theorem State.askLock_rest (s : State) (k l : Nat) :
    (s.askLock k l).scratch = s.scratch ∧ ((s.askLock k l).thr k).sb = (s.thr k).sb := by
  have hput : ((s.putThr k { s.thr k with want := some l }).thr k).sb = (s.thr k).sb :=
    s.putThr_field (·.sb) (fun _ _ _ _ _ _ _ => rfl) k _
  unfold State.askLock
  dsimp only
  split
  · exact ⟨s.scratch_setThr .., by rw [State.thr_setThr, if_pos rfl]⟩
  · split
    · split
      · exact ⟨s.scratch_setThr .., hput⟩
      · refine ⟨(State.scratch_setLine ..).trans (s.scratch_setThr ..), ?_⟩
        rw [State.thr_setLine, hput]
    · exact ⟨s.scratch_setThr .., hput⟩

/-! ### Drains (R130, R131) -/

/-- R130: an entry of a store buffer in its scratch word. -/
def State.scratchPut (s : State) (c : Nat) (e : SbEntry) : State :=
  s.setClu c { s.clu c with scratch := tset (fun _ => 0) (s.clu c).scratch e.addr (sbApply (s.scratch c e.addr) e) }

theorem State.scratch_scratchPut (s : State) (c : Nat) (e : SbEntry) (d a : Nat) :
    (s.scratchPut c e).scratch d a =
      if d = c ∧ a = e.addr then sbApply (s.scratch c e.addr) e else s.scratch d a := by
  by_cases h : d = c
  · by_cases ha : a = e.addr <;> simp [State.scratch, State.scratchPut, h, ha]
  · simp [State.scratch, State.scratchPut, h]

/-- R130, R131: what follows an entry's write to scratch: the thread's lines pass on, and a LOCK that has waited for its
buffer to drain asks for its line. -/
def State.afterPut (s : State) (k : Nat) (l : List SbEntry) : State :=
  let u := s.passLine k
  match (u.thr k).want with
  | some w => if l.isEmpty && (u.thr k).st ≠ .halted then u.askLock k w else u
  | none => u

theorem State.afterPut_rest (s : State) (k : Nat) (l : List SbEntry) :
    (s.afterPut k l).scratch = s.scratch ∧ ((s.afterPut k l).thr k).sb = (s.thr k).sb := by
  have hscr : (s.passLine k).scratch = s.scratch := s.passLine_same (·.scratch) State.scratch_setLine k
  have hthr : (s.passLine k).thr = s.thr := s.passLine_same (·.thr) State.thr_setLine k
  have hask : ∀ w, ((s.passLine k).askLock k w).scratch = s.scratch ∧
      (((s.passLine k).askLock k w).thr k).sb = (s.thr k).sb := fun w => by
    obtain ⟨h1, h2⟩ := (s.passLine k).askLock_rest k w
    exact ⟨h1.trans hscr, h2.trans (by rw [hthr])⟩
  unfold State.afterPut
  dsimp only
  split
  · split
    · next w _ _ => exact hask w
    · exact ⟨hscr, by rw [hthr]⟩
  · exact ⟨hscr, by rw [hthr]⟩

/-- R130: the old value that a drained counter add leaves with the adds that wait for theirs. -/
def State.counted (s : State) (k : Nat) (e : SbEntry) : List (Nat × Nat × Option Word) :=
  if e.cadd then fillCount e.no (s.scratch (keyClu k) e.addr) (s.thr k).rdCount else (s.thr k).rdCount

/-- R130: an entry that is not held, and whose word can be read where it adds, reaches scratch. -/
theorem State.drain_good {s : State} {k : Nat} {ecc : Bool} {e : SbEntry} {l : List SbEntry}
    (h : (s.thr k).sb = e :: l) (hheld : e.held = false) (hecc : ecc = false ∨ e.cadd = false) :
    s.drain k ecc = ((s.scratchPut (keyClu k) e).putThr k { s.thr k with
      sb := l, rdCount := s.counted k e, full := false }).afterPut k l := by
  have hno : ¬ (ecc && e.cadd) = true := by
    rcases hecc with h | h <;> simp [h]
  simp only [State.drain, h, hheld, if_neg hno]
  rfl

/-- R135: a counter add whose word is uncorrectable fails. -/
theorem State.drain_bad {s : State} {k : Nat} {e : SbEntry} {l : List SbEntry} (h : (s.thr k).sb = e :: l)
    (hheld : e.held = false) (hadd : e.cadd = true) :
    s.drain k true = (s.putThr k { s.thr k with sb := l, full := false }).addFails k e := by
  simp only [State.drain, h, hheld, hadd, Bool.and_self, Bool.false_eq_true, if_false, if_true]

/-! ### Grants (R131) -/

/-- R131: a free line goes to the first of its requesters. -/
theorem State.grant_first {s : State} {c line me : Nat} {l : List Nat} (ho : (s.lockLine c line).owner = none)
    (hw : (s.lockLine c line).waiters = me :: l) :
    s.grant c line = (s.setLine c line { owner := some me, releasing := false, waiters := l }).putThr (c * 136 + me)
      { s.thr (c * 136 + me) with
        want := none, lock := some line, lockPc := (s.thr (c * 136 + me)).pc, lockLen := 0, lockStores := 0 } := by
  simp only [State.grant, ho, hw, State.thr_setLine]

@[simp] theorem State.scratch_intSweep (s : State) : s.intSweep.scratch = s.scratch := by
  funext c a; simp [State.scratch]

@[simp] theorem State.lockLine_intSweep (s : State) : s.intSweep.lockLine = s.lockLine := by
  funext c l; simp [State.lockLine]

/-- Settles O15: a return, a drain and a grant are each one write of the thread, settled, beside one word of scratch or
one lock line. -/
theorem threadMemory : Obligations.ThreadMemory := by
  refine ⟨?returns, ?drains, ?grants⟩
  case returns =>
    intro s c e th hrun k t
    have hk : keyClu k = c := keyClu_thrKey c e th
    refine ⟨fun no pc n l h => ?_, fun no pc a own l h => ?_, fun no pc v l h => ?_⟩
    · have hact (ecc : Bool) : Becomes (.treeReadReturn c e th ecc) s (s.treeReturn k ecc) :=
        becomes_of_act (f := fun s => s.treeReturn k ecc) rfl hrun
      refine ⟨(hact false).completes ?_, fun hl => ?_, fun hl => ?_⟩
      · rw [State.treeReturn_good h, State.thr_intSweep]
        refine ⟨?_, State.putThr_field (·.rdTree) (fun _ _ _ _ _ _ _ => rfl) ..,
          State.putThr_field (·.g) (fun _ _ _ _ _ _ _ => rfl) ..⟩
        rw [← hk]
        exact State.putThr_field (·.n) (fun _ _ _ _ _ _ _ => rfl) ..
      · have hbad := hact true
        rwa [State.treeReturn_bad h, if_neg (ne_true_of_eq_false hl)] at hbad
      · have hbad := hact true
        rwa [State.treeReturn_bad h, if_pos hl] at hbad
    · have hact (ecc : Bool) : Becomes (.scratchLoadReturn c e th ecc) s (s.loadReturn k ecc) :=
        becomes_of_act (f := fun s => s.loadReturn k ecc) rfl hrun
      refine ⟨(hact false).completes ?_, fun hl => ?_, fun hl => ?_⟩
      · rw [State.loadReturn_good h, State.thr_intSweep]
        refine ⟨?_, State.putThr_field (·.rdLoad) (fun _ _ _ _ _ _ _ => rfl) ..,
          State.putThr_field (·.g) (fun _ _ _ _ _ _ _ => rfl) ..⟩
        rw [← hk]
        exact State.putThr_field (·.scr) (fun _ _ _ _ _ _ _ => rfl) ..
      · have hbad := hact true
        rwa [State.loadReturn_bad h, if_neg (ne_true_of_eq_false hl)] at hbad
      · have hbad := hact true
        rwa [State.loadReturn_bad h, if_pos hl] at hbad
    · refine (becomes_of_act (f := fun s => s.countReturn k) rfl hrun).completes ?_
      rw [State.countReturn_good h, State.thr_intSweep]
      exact ⟨State.putThr_field (·.cnt) (fun _ _ _ _ _ _ _ => rfl) ..,
        State.putThr_field (·.rdCount) (fun _ _ _ _ _ _ _ => rfl) ..,
        State.putThr_field (·.g) (fun _ _ _ _ _ _ _ => rfl) ..⟩
  case drains =>
    intro s c e th ecc x l hdrains hsb hheld
    have hact (ecc : Bool) : Becomes (.storeBufferDrain c e th ecc) s (s.drain (thrKey c e th) ecc) :=
      becomes_of_act (f := fun s => s.drain (thrKey c e th) ecc) rfl hdrains
    refine ⟨fun hecc => (hact ecc).completes ?_, fun hadd => ?_⟩
    · rw [State.drain_good hsb hheld hecc, keyClu_thrKey]
      let u := (s.scratchPut c x).putThr (thrKey c e th) { s.thr (thrKey c e th) with
        sb := l, rdCount := s.counted (thrKey c e th) x, full := false }
      obtain ⟨hscr, hsb'⟩ := u.afterPut_rest (thrKey c e th) l
      have hu (d a : Nat) : (u.afterPut (thrKey c e th) l).intSweep.scratch d a =
          if d = c ∧ a = x.addr then sbApply (s.scratch c x.addr) x else s.scratch d a := by
        rw [State.scratch_intSweep, hscr, ← s.scratch_scratchPut]
        exact congrFun (congrFun (State.scratch_setThr ..) d) a
      refine ⟨(hu ..).trans (if_pos ⟨rfl, rfl⟩), ?_, fun a ha => (hu ..).trans (if_neg fun h => ha h.2),
        fun d a hd => (hu ..).trans (if_neg fun h => hd h.1)⟩
      rw [State.thr_intSweep]
      exact hsb'.trans (State.putThr_field (·.sb) (fun _ _ _ _ _ _ _ => rfl) ..)
    · rw [← State.drain_bad hsb hheld hadd]
      exact hact true
  case grants =>
    intro s c line me l hrun ho hw
    refine (becomes_of_act (f := fun s => s.grant c line) rfl hrun).completes ?_
    rw [State.grant_first ho hw, State.thr_intSweep, State.lockLine_intSweep, State.scratch_intSweep]
    have hline (u : State) (k : Nat) (t : Thread) : (u.putThr k t).lockLine = u.lockLine := State.lockLine_setThr ..
    have hscr (u : State) (k : Nat) (t : Thread) : (u.putThr k t).scratch = u.scratch := State.scratch_setThr ..
    rw [hline, hscr, State.scratch_setLine, State.lockLine_setLine, if_pos ⟨rfl, rfl⟩]
    exact ⟨rfl, rfl, State.putThr_field (·.lock) (fun _ _ _ _ _ _ _ => rfl) ..,
      State.putThr_field (·.want) (fun _ _ _ _ _ _ _ => rfl) .., fun _ _ => rfl⟩

end Sys2Proof.Machine
end

section
/-! PROOFS of the family 04_nirum_engines: closing and checking an interval, and the telemetry records. -/

namespace Sys2Proof.Machine

open Sys2Proof

/-! ### The close of an interval (R249-R255) -/

/-- R249-R253: the ledger once the counting points have closed. -/
def State.closedLedger (s : State) : Ledger :=
  let l := s.led
  { l with
    latched := true, lat := l.cnt, cnt := [], heldPrev := l.held, held := s.heldAll, rsnLat := l.rsn, rsn := [],
    bytesLat := s.tel.bytes, pmcLat := s.wide.filter fun e => inRange 0x13020000 0x2000 e.1,
    memLat := (List.range s.nPorts).foldl (fun t lp => tset (fun _ => 0) t lp (s.memberOf lp s.epc.c)) [],
    absentLat := s.absentNow, lastUnchecked := l.resetNow || l.resetPrev || l.first, first := false,
    resetPrev := l.resetNow, resetNow := false }

theorem State.closedLedger_counts (s : State) :
    s.closedLedger.lat = s.led.cnt ∧ s.closedLedger.cnt = [] ∧ s.closedLedger.heldPrev = s.led.held ∧
      s.closedLedger.held = s.heldAll ∧ s.closedLedger.rsnLat = s.led.rsn ∧ s.closedLedger.rsn = [] ∧
      s.closedLedger.absentLat = s.absentNow ∧ s.closedLedger.imb = s.led.imb := by
  unfold State.closedLedger
  dsimp only
  exact ⟨rfl, rfl, rfl, rfl, rfl, rfl, rfl, rfl⟩

/-- R249-R253: the close of the counting points, beside the ledger, writes bytes, groups and clusters alone. -/
theorem State.closePoints_open {β : Type} (g : State → β) (hgrp : ∀ s n x, g (State.setGrp s n x) = g s)
    (hclu : ∀ s c x, g (State.setClu s c x) = g s) {s : State} (h : s.led.latched = false) :
    g s.closePoints = g { s with led := s.closedLedger, tel := { s.tel with bytes := [] } } := by
  simp only [State.closePoints, h, Bool.false_eq_true, if_false]
  refine (foldl_same g State.closeHold (fun _ _ => hclu ..) _ _).trans ?_
  exact foldl_same g _ (fun _ _ => hgrp ..) _ _

theorem State.closePoints_latched {s : State} (h : s.led.latched = true) : s.closePoints = s := if_pos h

/-- R255, R258: what the numbering of a closed interval leaves of its counts. -/
theorem State.closeInterval_led (s : State) :
    let l := s.closePoints.led
    let t := s.closeInterval
    t.led.lat = l.lat ∧ t.led.cnt = l.cnt ∧ t.led.heldPrev = l.heldPrev ∧ t.led.held = l.held ∧
      t.led.rsnLat = l.rsnLat ∧ t.led.rsn = l.rsn ∧ t.led.due = true ∧ t.led.latched = false ∧
      t.led.absentLat = l.absentLat ∧ t.led.imb = l.imb := ⟨rfl, rfl, rfl, rfl, rfl, rfl, rfl, rfl, rfl, rfl⟩

theorem State.closeInterval_rest (s : State) :
    s.closeInterval.buf = s.closePoints.buf ∧ s.closeInterval.pkts = s.closePoints.pkts ∧
      s.closeInterval.tbl = s.closePoints.tbl ∧ s.closeInterval.clusters = s.closePoints.clusters :=
  ⟨rfl, rfl, rfl, rfl⟩

/-! ### The check of an interval (R252, R255, R266) -/

/-- R266-R268: the records of a checked interval. -/
def State.ledgerRecords (s : State) (fails : List (Bool × Nat × Bool)) (stamp : BitVec 64) : State :=
  let s := (List.range s.nPorts).foldl (fun st lp => st.portLedger fails stamp lp) s
  let s := (List.range s.nPorts).foldl (fun st lp => st.portReasons stamp lp) s
  let s := (List.range s.nGroups).foldl
    (fun st n => if st.isActive (domPg n) then st.groupLedger fails stamp n else st) s
  s.countersRec stamp

theorem State.portLedger_exported (s : State) (fails : List (Bool × Nat × Bool)) (stamp : BitVec 64) (lp : Nat) :
    s.Exported (s.portLedger fails stamp lp) := s.routed_exported 1 256 ..

theorem State.portReasons_exported (s : State) (stamp : BitVec 64) (lp : Nat) : s.Exported (s.portReasons stamp lp) :=
  s.routed_exported 2 416 ..

theorem State.groupLedger_exported (s : State) (fails : List (Bool × Nat × Bool)) (stamp : BitVec 64) (n : Nat) :
    s.Exported (s.groupLedger fails stamp n) := s.routed_exported 3 1760 ..

theorem State.countersRec_exported (s : State) (stamp : BitVec 64) : s.Exported (s.countersRec stamp) :=
  s.routed_exported 5 8224 ..

theorem State.histRecord_exported (s : State) (q : Nat) : s.Exported (s.histRecord q) := s.routed_exported 4 160 ..

theorem State.ledgerRecords_exported (s : State) (fails : List (Bool × Nat × Bool)) (stamp : BitVec 64) :
    s.Exported (s.ledgerRecords fails stamp) := by
  unfold State.ledgerRecords
  extract_lets s1 s2 s3
  have h1 : s.Exported s1 := .foldl (fun t lp => t.portLedger_exported ..) _ _
  have h2 : s1.Exported s2 := .foldl (fun t lp => t.portReasons_exported ..) _ _
  have h3 : s2.Exported s3 := .foldl (fun t n => .ite (t.groupLedger_exported ..) (.refl t)) _ _
  exact h1.trans (h2.trans (h3.trans (State.countersRec_exported ..)))

/-- R252, R255: the interval that is to be checked is taken. -/
def State.checkTaken (s : State) : State := { s with led := { s.led with due := false } }

theorem State.checkLedger_none {s : State} (h : s.failing = []) :
    s.checkLedger = s.checkTaken.ledgerRecords [] (s.ctr .ledIntvLo 0 0) := by
  rw [State.checkLedger, h]; rfl

/-- R255: the fault of an interval in which an account failed. -/
def imbalanceFault (stamp : BitVec 64) : FaultEv := { src := 26, cls := .orange, code := 0x0D, info := lo32 stamp }

theorem State.checkLedger_one {s : State} {a : Bool × Nat × Bool} (h : s.failing = [a]) :
    s.checkLedger = ((s.checkTaken.acctFail a).raise (imbalanceFault (s.ctr .ledIntvLo 0 0))).ledgerRecords [a]
      (s.ctr .ledIntvLo 0 0) := by
  rw [State.checkLedger, h]; rfl

/-- R255: the record of a failed check. -/
def imbRecord (a : Bool × Nat × Bool) (intv : Word) (f : Bool × Int) : ImbRec :=
  { intv := intv, diff := wd (satInt 32 f.2),
    head := flag 31 true ||| flag 30 a.1 ||| flag 29 a.2.2 ||| flag 28 f.1 ||| put 7 0 a.2.1 }

/-- R255: the records of an account's failed checks join the FIFO, where it has room for them. -/
theorem State.foldl_imbPut (a : Bool × Nat × Bool) (l : List (Bool × Int)) : ∀ s : State,
    s.led.imb.length + l.length ≤ 16 →
      l.foldl (fun st f => st.imbPut a.1 a.2.2 f.1 a.2.1 f.2) s =
        { s with led := { s.led with imb := s.led.imb ++ l.map (imbRecord a (lo32 (s.ctr .ledIntvLo 0 0))) } } := by
  induction l with
  | nil => intro s _; simp
  | cons f l ih =>
    intro s h
    rw [List.length_cons] at h
    have hput : s.imbPut a.1 a.2.2 f.1 a.2.1 f.2 =
        { s with led := { s.led with imb := s.led.imb ++ [imbRecord a (lo32 (s.ctr .ledIntvLo 0 0)) f] } } :=
      if_neg (by omega)
    rw [List.foldl_cons, hput, ih _ (by simp; omega)]
    simp [State.ctr]

/-- R252, R255: the failed checks of an account place their records and count once. -/
theorem State.acctFail_eq {s : State} {a : Bool × Nat × Bool} (hne : s.acctFails a ≠ [])
    (hroom : s.led.imb.length + (s.acctFails a).length ≤ 16) :
    s.acctFail a = ({ s with led := { s.led with
      imb := s.led.imb ++ (s.acctFails a).map (imbRecord a (lo32 (s.ctr .ledIntvLo 0 0))) } } : State).bump
        .ledImbCount 0 0 := by
  rw [State.acctFail, if_neg (by simpa using hne), State.foldl_imbPut _ _ _ hroom]

/-- R252: an account that failed has a failed check. -/
theorem State.acctFails_of_failing {s : State} {a : Bool × Nat × Bool} (h : s.failing = [a]) : s.acctFails a ≠ [] := by
  have ha : a ∈ s.failing := h ▸ List.mem_singleton_self a
  unfold State.failing at ha
  split at ha
  · exact absurd ha List.not_mem_nil
  · simpa using (List.mem_filter.mp ha).2

/-! ### An event whose reactions stop at INT (R343-R350) -/

/-- R350: an event joins a history that has room, and nothing else changes. -/
theorem State.logHist_room_eq {s : State} (hl : s.flt.lost = false) (hr : s.flt.hist.length < 32) (r : HistRec) :
    s.logHist r = { s with flt := { s.flt with hist := s.flt.hist ++ [r] } } := by
  simp only [State.logHist, hl, Nat.not_le.mpr hr, Bool.false_eq_true, if_false]

/-- R343, R344: an event that has no reaction but INT is logged. -/
theorem State.raiseCore_logs {s : State} {e : FaultEv} (h : s.reactions e.src e.cls < 2) :
    ∃ n < 32, ∃ int, s.raiseCore e = (s.logStatus e int).logHist (mkHist s.now e n) := by
  unfold State.raiseCore
  extract_lets r int iso frz rstd0 rstc rstd done s1 s2 s3 s4 s5
  have hiso : iso = false := by simp [iso, show r / 2 = 0 by omega]
  have hfrz : frz = false := by simp [frz, show r / 8 = 0 by omega]
  have hrstd0 : rstd0 = false := by simp [rstd0, show r / 4 = 0 by omega]
  have hrstc : rstc = false := by simp [rstc, hrstd0, show r / 16 = 0 by omega]
  have hrstd : rstd = false := by simp [rstd, hrstd0]
  refine ⟨done, ?_, int, ?_⟩
  · have hint := b2n_le_one int
    simp only [done, hiso, hfrz, hrstd, hrstc, b2n, Bool.false_eq_true, if_false] at hint ⊢
    omega
  · have h2 : s2 = s1 := if_neg (by simp [hrstd, hrstc])
    have h3 : s3 = s1 := (if_neg (by simp [hiso])).trans h2
    have h4 : s4 = s1 := (if_neg (by simp [hrstd])).trans h3
    have h5 : s5 = s1 := (if_neg (by simp [hfrz])).trans h4
    exact (if_neg (by simp [hrstc])).trans h5

/-- R349: of the register words, the log of an event writes those of the status registers. -/
theorem State.word_logStatus (s : State) (e : FaultEv) (int : Bool) {a : Nat}
    (h : a ≠ regAddr .fltStatus 0 0 (e.src / 32)) (h3 : a ≠ regAddr .fltStatus3 0 0 0) :
    tget heldReset (s.logStatus e int).held a = tget heldReset s.held a := by
  unfold State.logStatus
  dsimp only
  split
  · exact (State.word_setRg_of_ne h3 ..).trans (State.word_setRg_of_ne h ..)
  · exact State.word_setRg_of_ne h ..

/-- R349: what the log of an event leaves of all that is no register word. -/
theorem State.logStatus_same {β : Type} (g : State → β) (h : ∀ s n k j v, g (State.setRg s n k j v) = g s) (s : State)
    (e : FaultEv) (int : Bool) : g (s.logStatus e int) = g s := by
  unfold State.logStatus
  dsimp only
  split
  · exact (h ..).trans (h ..)
  · exact h ..

theorem ledImbCount_ne_fltStatus {j : Nat} (hj : j < 3) : regAddr .ledImbCount 0 0 0 ≠ regAddr .fltStatus 0 0 j := by
  change 0x13000000 + 0 * 0 + 0x18 + 0 * 0 + 0 * 0 ≠ 0x20000 + 0 * 0 + 0 + 0 * 0 + j * 4
  omega

theorem ledImbCount_ne_fltStatus3 : regAddr .ledImbCount 0 0 0 ≠ regAddr .fltStatus3 0 0 0 := by
  change 0x13000000 + 0 * 0 + 0x18 + 0 * 0 + 0 * 0 ≠ 0x20000 + 0 * 0 + 0xC + 0 * 0 + 0 * 0
  omega

theorem ledImbCount_ne_telLost (j : Nat) : regAddr .ledImbCount 0 0 0 ≠ regAddr .telLost 0 0 j := by
  change 0x13000000 + 0 * 0 + 0x18 + 0 * 0 + 0 * 0 ≠ 0x13010000 + 0 * 0 + 0x144 + 0 * 0 + j * 4
  omega

theorem fltReact_ne_ledImbCount : regAddr .fltReact 0 0 26 ≠ regAddr .ledImbCount 0 0 0 := by
  change 0x20000 + 0 * 0 + 0x100 + 0 * 0 + 26 * 4 ≠ 0x13000000 + 0 * 0 + 0x18 + 0 * 0 + 0 * 0
  omega

/-- R255, R343, R350: the fault of an interval in which an account failed: where it has no reaction but INT and the
history has room, it joins the history, and of the ledger and its count nothing changes. -/
theorem State.raise_imbalance {s : State} (stamp : BitVec 64) (hr : s.reactions 26 .orange < 2)
    (hl : s.flt.lost = false) (hroom : s.flt.hist.length < 32) :
    let t := s.raise (imbalanceFault stamp)
    t.led = s.led ∧ t.rg .ledImbCount = s.rg .ledImbCount ∧
      ∃ n < 32, t.flt.hist = s.flt.hist ++ [mkHist s.now (imbalanceFault stamp) n] := by
  obtain ⟨n, hn, int, hlog⟩ := State.raiseCore_logs (e := imbalanceFault stamp) hr
  have hflt : (s.logStatus (imbalanceFault stamp) int).flt = s.flt := State.logStatus_flt ..
  rw [State.raise_not_blue s (fun h : FClass.orange = .blue => by cases h), hlog,
    State.logHist_room_eq (by rwa [hflt]) (by rwa [hflt])]
  refine ⟨State.logStatus_same (·.led) (fun _ _ _ _ _ => State.setRg_led ..) .., ?_, n, hn, by rw [hflt]⟩
  have hj : (imbalanceFault stamp).src / 32 < 3 := Nat.div_lt_of_lt_mul (show 26 < 32 * 3 by decide)
  exact State.word_logStatus s (imbalanceFault stamp) int (ledImbCount_ne_fltStatus hj) ledImbCount_ne_fltStatus3

/-- R252, R255: the check of an interval in which one account fails. -/
theorem State.checkLedger_fails {s : State} {a : Bool × Nat × Bool} (h : s.failing = [a])
    (hr : s.reactions 26 .orange < 2) (hl : s.flt.lost = false) (hh : s.flt.hist.length < 32)
    (hroom : s.led.imb.length + (s.acctFails a).length ≤ 16) :
    s.checkLedger.led = { s.led with
        due := false, imb := s.led.imb ++ (s.acctFails a).map (imbRecord a (lo32 (s.ctr .ledIntvLo 0 0))) } ∧
      s.checkLedger.rg .ledImbCount = wd (sat 32 ((s.rg .ledImbCount).toNat + 1)) ∧
      ∃ n < 32, s.checkLedger.flt.hist =
        s.flt.hist ++ [mkHist s.now (imbalanceFault (s.ctr .ledIntvLo 0 0)) n] := by
  obtain ⟨u, hu⟩ : ∃ u, u = s.checkTaken.acctFail a := ⟨_, rfl⟩
  have heq := hu.trans (State.acctFail_eq (s := s.checkTaken) (State.acctFails_of_failing h) hroom)
  have hreact : u.reactions 26 .orange < 2 := by
    rw [heq, State.reactions, State.bump, State.rg_setRg_of_ne fltReact_ne_ledImbCount]
    exact hr
  have hflt : u.flt = s.flt := by rw [heq, State.bump_flt]; rfl
  have hnow : u.now = s.now := by rw [heq, State.now, State.bump_time]; rfl
  have hled : u.led = { s.led with
      due := false, imb := s.led.imb ++ (s.acctFails a).map (imbRecord a (lo32 (s.ctr .ledIntvLo 0 0))) } := by
    rw [heq, State.bump_led]; rfl
  have hcount : u.rg .ledImbCount = wd (sat 32 ((s.rg .ledImbCount).toNat + 1)) := by
    rw [heq, State.bump, State.rg_setRg]; rfl
  obtain ⟨hled', hcount', n, hn, hhist⟩ := State.raise_imbalance (s := u) (s.ctr .ledIntvLo 0 0) hreact
    (by rw [hflt]; exact hl) (by rw [hflt]; exact hh)
  have hrec := State.ledgerRecords_exported (u.raise (imbalanceFault (s.ctr .ledIntvLo 0 0))) [a]
    (s.ctr .ledIntvLo 0 0)
  rw [State.checkLedger_one h, ← hu]
  refine ⟨hrec.led.trans (hled'.trans hled), ?_, n, hn, ?_⟩
  · exact (hrec.toRecorded.rg ledImbCount_ne_telLost).trans (hcount'.trans hcount)
  · rw [hrec.flt, hhist, hflt, hnow]

/-- R252: the check of an interval in which no account fails. -/
theorem State.checkLedger_passes {s : State} (h : s.failing = []) :
    s.checkLedger.led = { s.led with due := false } ∧ s.checkLedger.buf = s.buf ∧ s.checkLedger.tbl = s.tbl ∧
      s.checkLedger.flt = s.flt := by
  have hrec := State.ledgerRecords_exported s.checkTaken [] (s.ctr .ledIntvLo 0 0)
  rw [State.checkLedger_none h]
  exact ⟨hrec.led, hrec.buf, hrec.tbl, hrec.flt⟩

/-! ### Histograms, windows, clears and FIFOs (R141, R255, R258-R260) -/

/-- What a row of changes, one to each key below a bound, leaves of a table. -/
theorem tget_foldl_tmod {α : Type} [DecidableEq α] (d : Nat → α) (f : Nat → α → α) (n k : Nat) (t : Tab α) :
    tget d ((List.range n).foldl (fun a i => tmod d a i (f i)) t) k =
      if k < n then f k (tget d t k) else tget d t k := by
  induction n generalizing k with
  | zero => rfl
  | succ n ih =>
    rw [List.range_succ, List.foldl_append, List.foldl_cons, List.foldl_nil, tget_tmod, ih, ih]
    rcases Nat.lt_trichotomy k n with h | h | h
    · simp [h, Nat.ne_of_lt h, Nat.lt_succ_of_lt h]
    · simp [h]
    · simp [Nat.ne_of_gt h, Nat.lt_asymm h, show ¬ k < n + 1 by omega]

/-- R259: the rate of a port and direction in the window that ends. -/
def State.bwRate (s : State) (i : Nat) : Nat := tget (fun _ => 0) s.tel.bwWin i * 8 / s.tel.bwLen % 2 ^ 21

theorem State.bwLast_endWindow (s : State) :
    s.endWindow.tel.bwLast = (List.range 512).foldl (fun a i => tset (fun _ => 0) a i (s.bwRate i)) s.tel.bwLast := by
  unfold State.endWindow State.bwRate
  dsimp only

theorem State.bwPeak_endWindow (s : State) :
    s.endWindow.tel.bwPeak = (List.range 512).foldl (fun a i => tmod (fun _ => 0) a i (max (s.bwRate i))) s.tel.bwPeak := by
  unfold State.endWindow State.bwRate
  dsimp only

theorem State.endWindow_start (s : State) : s.endWindow.tel.bwWin = [] ∧ s.endWindow.tel.bwStart = s.bwEnd := by
  unfold State.endWindow
  dsimp only
  exact ⟨rfl, rfl⟩

/-- R259: LAST and PEAK of a port and direction once a window has ended. -/
theorem State.endWindow_rates (s : State) {i : Nat} (hi : i < 512) :
    tget (fun _ => 0) s.endWindow.tel.bwLast i = s.bwRate i ∧
      tget (fun _ => 0) s.endWindow.tel.bwPeak i = max (s.bwRate i) (tget (fun _ => 0) s.tel.bwPeak i) := by
  have hlast := tget_foldl_tmod (fun _ => 0) (fun i _ => s.bwRate i) 512 i s.tel.bwLast
  have hpeak := tget_foldl_tmod (fun _ => 0) (fun i => max (s.bwRate i)) 512 i s.tel.bwPeak
  rw [if_pos hi] at hlast hpeak
  rw [s.bwLast_endWindow, s.bwPeak_endWindow]
  exact ⟨hlast, hpeak⟩

/-- R259: the peaks of one port are cleared. -/
theorem State.bwClr_port {s : State} {v : Word} (r : Req) (h0 : bit v 0 = true) (h1 : bit v 1 = false) (i : Nat) :
    tget (fun _ => 0) (s.bwClr r v).tel.bwPeak i =
      if i / 2 = fld (s.pv r (regAddr .telBwIdx 0 0 0)) 7 0 then 0 else tget (fun _ => 0) s.tel.bwPeak i := by
  simp only [State.bwClr, h0, h1, if_true, Bool.false_eq_true, if_false, tget_tdrop, beq_iff_eq]

/-- R259: all peaks are cleared. -/
theorem State.bwClr_all {s : State} {v : Word} (r : Req) (h1 : bit v 1 = true) :
    (s.bwClr r v).tel.bwPeak = [] ∧ (s.bwClr r v).tel.bwLast = s.tel.bwLast := by
  simp only [State.bwClr, h1, if_true, and_self]

/-- R260: the counters of the groups that are named are cleared, and no other. -/
theorem State.ctr_pmcClr (s : State) (hi : Bool) (v : Word) {n : Nat} (hn : n < 1024) :
    (s.pmcClr hi v).ctr .pmcCntLo 0 n =
      if n / 512 = b2n hi ∧ bit v (n / 16 % 32) = true then 0 else s.ctr .pmcCntLo 0 n := by
  have haddr : regAddr .pmcCntLo 0 0 n = 0x13020000 + 8 * n := by
    change 0x13020000 + 0 * 0 + 0 + 0 * 0 + n * 8 = 0x13020000 + 8 * n
    omega
  have hgroup : (0x13020000 + 8 * n - 0x13020000) / 128 = n / 16 := by omega
  have hin : inRange 0x13020000 0x2000 (0x13020000 + 8 * n) = true := by
    unfold inRange
    simp only [Bool.and_eq_true, decide_eq_true_eq]
    omega
  have h512 : n / 16 / 32 = n / 512 := by omega
  simp only [State.ctr, State.pmcClr, haddr, tget_tdrop, hin, hgroup, h512, Bool.true_and, Bool.and_eq_true, beq_iff_eq]

/-- R258: a histogram period ends with its bins empty, and the ledger as it was. -/
theorem State.endPeriod_tel (s : State) :
    s.endPeriod.tel.bins = [] ∧ s.endPeriod.tel.enq = [] ∧ s.endPeriod.tel.refused = [] ∧
      s.endPeriod.tel.periodDue = false ∧ s.endPeriod.led = s.led :=
  ⟨rfl, rfl, rfl, rfl, (State.Exported.foldl State.histRecord_exported _ s).led⟩

/-- R255: a read of the imbalance FIFO's head answers it and takes it off. -/
theorem State.imbPop_head {s : State} {x : ImbRec} {l : List ImbRec} (r : Req) (h : s.led.imb = x :: l) :
    (s.emit (.readData r s.imbHead.head)).imbPop =
      ({ s with led := { s.led with imb := l } } : State).emit (.readData r x.head) := by
  simp only [State.imbPop, State.imbHead, State.emit, h, List.head?_cons, Option.getD_some, List.drop_one,
    List.tail_cons]

/-- R141: a read of a machine-check FIFO's head answers it and takes it off. -/
theorem State.mcPop_head {s : State} {c : Nat} {w : Word} {l : List Word} (r : Req) (h : (s.clu c).mcLog = w :: l) :
    (s.emit (.readData r (s.mcHead c))).mcPop c =
      (s.setClu c { s.clu c with mcLog := l }).emit (.readData r w) := by
  have hclu (o : Out) : (s.emit o).clu c = s.clu c := rfl
  simp only [State.mcPop, State.mcHead, hclu, h, List.head?_cons, Option.getD_some, List.drop_one, List.tail_cons]
  rfl

theorem bit_or_one (v : Word) : bit (v ||| 1) 0 = true ∧ bit (v ||| 1) 1 = bit v 1 := by
  have h : (1 : Word) = flag 0 true := by decide
  rw [h]
  exact ⟨bit_or_flag v (by decide), bit_or_flag_of_ne v (by decide)⟩

theorem bit_or_two (v : Word) : bit (v ||| 2) 1 = true := by
  have h : (2 : Word) = flag 1 true := by decide
  rw [h]
  exact bit_or_flag v (by decide)

/-- Settles O39: what each command of the ledger and the telemetry unit leaves, the records that it sends out kept
apart by `State.Exported`. -/
theorem telemetryIntervals : Obligations.TelemetryIntervals := by
  refine ⟨?close, ?passes, ?fails, ?period, ?digests, ?window, ?peaks, ?groups, ?imbalance, ?checks⟩
  case close =>
    intro s hon hdue
    have hact := becomes_of_act (i := .intervalClose) (f := State.closeInterval) rfl
      (show (s.telOn && s.ledDue) = true by simp [hon, hdue])
    obtain ⟨hlat, hcnt, hprev, hheld, hrsnLat, hrsn, hdue', hlatched, habsent, himb⟩ := s.closeInterval_led
    obtain ⟨hbuf, hpkts, htbl, hclu⟩ := s.closeInterval_rest
    refine ⟨fun hl => hact.completes ?_, fun hl => hact.completes ?_⟩
    · have hled : s.closePoints.led = s.closedLedger := State.closePoints_open (·.led) (by simp) (by simp) hl
      simp only [State.intSweep_led, State.intSweep_buf, State.intSweep_pkts, State.intSweep_tbl]
      rw [hlat, hcnt, hprev, hheld, hrsnLat, hrsn, hdue', hlatched, habsent, himb, hbuf, hpkts, htbl, hled]
      obtain ⟨h1, h2, h3, h4, h5, h6, h7, h8⟩ := s.closedLedger_counts
      exact ⟨h1, h2, h3, h4, h5, h6, rfl, rfl, h7, h8,
        State.closePoints_open (·.buf) (by simp) (by simp) hl, State.closePoints_open (·.pkts) (by simp) (by simp) hl,
        State.closePoints_open (·.tbl) (by simp) (by simp) hl⟩
    · simp only [State.intSweep_led, State.intSweep_buf, State.intSweep_clusters, State.intSweep_tbl]
      rw [hlat, hcnt, hheld, hdue', hlatched, hclu, hbuf, htbl, State.closePoints_latched hl]
      exact ⟨rfl, rfl, rfl, rfl, rfl, rfl, rfl, rfl⟩
  case passes =>
    intro s hon hdue hf
    refine (becomes_of_act (f := State.checkLedger) rfl (by simp [hon, hdue])).completes ?_
    rw [State.intSweep_led, State.intSweep_buf, State.intSweep_tbl, State.intSweep_flt]
    exact State.checkLedger_passes hf
  case fails =>
    intro s group par index hon hdue hf hr hl hh fails intv hroom
    refine (becomes_of_act (f := State.checkLedger) rfl (by simp [hon, hdue])).completes ?_
    rw [State.intSweep_led, State.rg_intSweep, State.intSweep_flt]
    obtain ⟨hled, hcount, hhist⟩ := State.checkLedger_fails hf hr hl hh hroom
    refine ⟨?_, ?_, ?_⟩
    · exact hled
    · exact hcount
    · exact hhist
  case period =>
    intro s hon hdue
    refine (becomes_of_act (f := State.endPeriod) rfl (by simp [hon, hdue])).completes ?_
    rw [State.intSweep_led, State.intSweep_tel]
    exact s.endPeriod_tel
  case digests =>
    intro s hon hne hat
    refine (becomes_of_act (f := State.digestEmit) rfl (by simp [hon, hne, hat])).completes ?_
    rw [State.intSweep_led, State.intSweep_tel]
    exact (State.digestEmit_recorded s).2
  case window =>
    intro s hon hend rate
    refine (becomes_of_act (f := State.endWindow) rfl (by simp [hon, hend])).completes ?_
    rw [State.intSweep_tel]
    exact ⟨s.endWindow_start.1, s.endWindow_start.2, fun i hi => s.endWindow_rates hi⟩
  case peaks =>
    intro s r v ho lp
    refine ⟨fun hv => ?_, ?_⟩
    · refine (becomes_of_access (f := fun s => s.bwClr r (v ||| 1)) rfl ho).completes fun i => ?_
      rw [State.intSweep_tel]
      exact State.bwClr_port r (bit_or_one v).1 ((bit_or_one v).2.trans hv) i
    · refine (becomes_of_access (f := fun s => s.bwClr r (v ||| 2)) rfl ho).completes ?_
      rw [State.intSweep_tel]
      exact State.bwClr_all r (bit_or_two v)
  case groups =>
    intro s r hi v ho
    refine (becomes_of_access (f := fun s => s.pmcClr hi v) rfl ho).completes fun n hn => ?_
    have hsweep : (s.pmcClr hi v).intSweep.ctr .pmcCntLo 0 n = (s.pmcClr hi v).ctr .pmcCntLo 0 n := by
      rw [State.ctr, State.intSweep_wide, State.ctr]
    exact hsweep.trans (s.ctr_pmcClr hi v hn)
  case imbalance =>
    intro s r x l ho hlive hx
    have hact := becomes_of_act (i := .imbalancePop r) (s := s) (c := true) (f := fun s =>
      if s.live then s.access r domTel fun s => (s.emit (.readData r s.imbHead.head)).imbPop
      else s.emit (.readData r s.imbHead.head)) rfl rfl
    rwa [if_pos hlive, ho.access, State.imbPop_head r hx] at hact
  case checks =>
    intro s r c w l ho hlive hw
    have hact := becomes_of_act (i := .mcLogPop r c) (s := s) (c := true) (f := fun s =>
      if s.live then s.access r (domPg (c / 8)) fun s => (s.emit (.readData r (s.mcHead c))).mcPop c
      else s.emit (.readData r (s.mcHead c))) rfl rfl
    rwa [if_pos hlive, ho.access, State.mcPop_head r hw] at hact

end Sys2Proof.Machine
end

section
/-! PROOFS of the family 04_nirum_engines: the effects of a microword on its thread. -/

namespace Sys2Proof.Machine

open Sys2Proof

/-! ### The stages of a microword's effect (R123-R131) -/

/-- R131: the count of a locked sequence's microwords, and where a sequence begins, its address and its torn bit. -/
def lockRun (t : Thread) (m : Micro) (pc : Nat) (torn : Bool) : Thread :=
  let t := if m.lock = 1 then { t with lockPc := pc, lockLen := 0, torn := torn } else t
  if t.lock.isSome then { t with lockLen := t.lockLen + 1 } else t

/-- R121, R128, R129, R133: verdict, next address, budget and the events that are waited for. -/
def stepRun (c : Ctx) (t0 : Thread) (m : Micro) (t : Thread) : Thread :=
  let t := { t with verdict := vdRun c t0 m }
  let t := nextRun c t0 m t
  let t := if c.bg then { t with bgLeft := t.bgLeft - 1 } else { t with budget := t.budget - 1 }
  { t with no := t0.no + 1, stepping := if t.stepping = 1 then 2 else t.stepping, await := BitVec.ofNat 4 m.wfe }

/-- R131: the torn bit of the line that a microword's immediate names. -/
def State.tornBit (s : State) (k : Nat) (m : Micro) : Bool :=
  bit (s.rg .necLockTorn (keyClu k) (m.imm % 64 / 32)) (m.imm % 32)

/-- R123-R131: a thread after a microword that has no UNLOCK. -/
def State.ranThr (s : State) (k : Nat) (m : Micro) : Thread :=
  let c := s.thrCtx k
  let t0 := s.thr k
  stepRun c t0 m (s.memRun c t0 m (lockRun (aluRun c t0 m) m t0.pc (s.tornBit k m)))

theorem dstPut_keeps {β : Type} (g : Thread → β) (h : ∀ t x mw, g { t with g := x, mway := mw } = g t) (t : Thread)
    (code : Nat) (v : Word) : g (dstPut t code v) = g t := by
  unfold dstPut
  split
  · exact h t _ t.mway
  · split
    · exact h t t.g _
    · rfl

/-- R123, R125: the ALUs write general registers, MWAY and flags, nothing else. -/
theorem aluRun_keeps {β : Type} (g : Thread → β)
    (h : ∀ t x mw fa fb, g { t with g := x, mway := mw, fa := fa, fb := fb } = g t) (c : Ctx) (t : Thread) (m : Micro) :
    g (aluRun c t m) = g t := by
  have hput := dstPut_keeps g fun t x mw => h t x mw t.fa t.fb
  unfold aluRun
  extract_lets a1 a2 b1 b2 t1 t2 t3
  have h1 : g t1 = g t := h t t.g t.mway _ _
  have h2 : g t2 = g t1 := by unfold t2; split; exacts [hput .., rfl]
  have h3 : g t3 = g t2 := by unfold t3; split; exacts [hput .., rfl]
  have h4 : g (if bothMway m then { t3 with mway := fld (Config.freeWord (c.free + 127)) 3 0 } else t3) = g t3 := by
    split
    · exact h t3 t3.g _ t3.fa t3.fb
    · rfl
  exact h4.trans (h3.trans (h2.trans h1))

theorem lockRun_keeps {β : Type} (g : Thread → β)
    (h : ∀ t pc len torn, g { t with lockPc := pc, lockLen := len, torn := torn } = g t) (t : Thread) (m : Micro)
    (pc : Nat) (torn : Bool) : g (lockRun t m pc torn) = g t := by
  unfold lockRun
  extract_lets t1
  have h1 : g t1 = g t := by unfold t1; split; exacts [h .., rfl]
  refine Eq.trans ?_ h1
  split
  · exact h t1 t1.lockPc _ t1.torn
  · rfl

theorem nextRun_keeps {β : Type} (g : Thread → β) (h : ∀ t pc st, g { t with pc := pc, stack := st } = g t) (c : Ctx)
    (t0 : Thread) (m : Micro) (t : Thread) : g (nextRun c t0 m t) = g t := by
  unfold nextRun
  dsimp only
  repeat' split
  all_goals exact h t _ _

/-- R129: the next address. -/
theorem nextRun_pc (c : Ctx) (t0 : Thread) (m : Micro) (t : Thread) :
    (nextRun c t0 m t).pc =
      if m.nxtOp = 1 ∨ m.nxtOp = 3 ∨ (m.nxtOp = 2 ∨ m.nxtOp = 4) ∧ condHolds c t0 m = true then m.nxtAddr
      else if m.nxtOp = 5 ∨ m.nxtOp = 6 ∧ condHolds c t0 m = true then (t0.stack.getLast?).getD 0
      else if m.nxtOp = 7 then m.nxtAddr / 16 * 16 + t0.mway
      else (t0.pc + 1) % 16384 := by
  unfold nextRun pushes pops pcNext
  cases condHolds c t0 m <;> grind

/-- R129: the stack. -/
theorem nextRun_stack (c : Ctx) (t0 : Thread) (m : Micro) (t : Thread) (h : t.stack = t0.stack) :
    (nextRun c t0 m t).stack =
      if m.nxtOp = 3 ∨ m.nxtOp = 4 ∧ condHolds c t0 m = true then t0.stack ++ [(t0.pc + 1) % 16384]
      else if m.nxtOp = 5 ∨ m.nxtOp = 6 ∧ condHolds c t0 m = true then t0.stack.dropLast else t0.stack := by
  unfold nextRun pushes pops pcNext
  cases condHolds c t0 m <;> grind

theorem stepRun_keeps {β : Type} (g : Thread → β)
    (h : ∀ t v pc st bl b no sp aw, g { t with
      verdict := v, pc := pc, stack := st, bgLeft := bl, budget := b, no := no, stepping := sp, await := aw } = g t)
    (c : Ctx) (t0 : Thread) (m : Micro) (t : Thread) : g (stepRun c t0 m t) = g t := by
  unfold stepRun
  extract_lets t1 t2 t3
  have h1 : g t1 = g t := h t _ t.pc t.stack t.bgLeft t.budget t.no t.stepping t.await
  have h2 : g t2 = g t1 := nextRun_keeps g
    (fun t pc st => h t t.verdict pc st t.bgLeft t.budget t.no t.stepping t.await) c t0 m t1
  have h3 : g t3 = g t2 := by
    unfold t3
    split
    · exact h t2 t2.verdict t2.pc t2.stack _ t2.budget t2.no t2.stepping t2.await
    · exact h t2 t2.verdict t2.pc t2.stack t2.bgLeft _ t2.no t2.stepping t2.await
  exact (h t3 t3.verdict t3.pc t3.stack t3.bgLeft t3.budget _ _ _).trans (h3.trans (h2.trans h1))

/-- R121, R128, R129, R133: what the last stage of a packet's microword writes. -/
theorem stepRun_writes {c : Ctx} (hbg : c.bg = false) (t0 : Thread) (m : Micro) (t : Thread) :
    (stepRun c t0 m t).verdict = vdRun c t0 m ∧ (stepRun c t0 m t).pc = (nextRun c t0 m t).pc ∧
      (stepRun c t0 m t).stack = (nextRun c t0 m { t with verdict := vdRun c t0 m }).stack ∧
      (stepRun c t0 m t).budget = t.budget - 1 := by
  have hv : (nextRun c t0 m { t with verdict := vdRun c t0 m }).verdict = vdRun c t0 m :=
    nextRun_keeps (·.verdict) (fun _ _ _ => rfl) c t0 m _
  have hb : (nextRun c t0 m { t with verdict := vdRun c t0 m }).budget = t.budget :=
    nextRun_keeps (·.budget) (fun _ _ _ => rfl) c t0 m _
  unfold stepRun
  simp only [hbg, Bool.false_eq_true, if_false, hv, hb, nextRun_pc, and_self]

theorem State.memRun_keeps {β : Type} (g : Thread → β)
    (h : ∀ t rt ts rl sb ls rc, g { t with
      rdTree := rt, tsteps := ts, rdLoad := rl, sb := sb, lockStores := ls, rdCount := rc } = g t)
    (s : State) (c : Ctx) (t0 : Thread) (m : Micro) (t : Thread) : g (s.memRun c t0 m t) = g t := by
  unfold State.memRun
  dsimp only
  split
  · exact h t _ _ t.rdLoad t.sb t.lockStores t.rdCount
  · exact h t t.rdTree t.tsteps _ t.sb t.lockStores t.rdCount
  · split
    · rfl
    · exact h t t.rdTree t.tsteps t.rdLoad _ _ t.rdCount
  · split
    · rfl
    · exact h t t.rdTree t.tsteps t.rdLoad _ t.lockStores _
  · rfl

/-- R127, R130: the entry that a microword's memory operation buffers. -/
def bufferedBy (c : Ctx) (t0 : Thread) (m : Micro) (seq : Bool) : List SbEntry :=
  let a := fld (srcVal c t0 m m.memAddr) 15 0
  if m.memOp = 3 ∧ t0.sample.isNone = true then
    [{ cadd := false, held := seq, seq := seq, no := t0.no, addr := a, data := dataVal t0 m.memDst }]
  else if m.memOp = 4 ∧ t0.sample.isNone = true then
    [{ cadd := true, no := t0.no, addr := a, data := if 32768 ≤ m.imm then wd (0xFFFF0000 + m.imm) else wd m.imm }]
  else []

/-- R127, R130: what a memory operation asks for and buffers. -/
theorem State.memRun_writes (s : State) (c : Ctx) (t0 : Thread) (m : Micro) (t : Thread) :
    let a := fld (srcVal c t0 m m.memAddr) 15 0
    let u := s.memRun c t0 m t
    u.sb = t.sb ++ bufferedBy c t0 m t.lock.isSome ∧
      u.rdTree = t.rdTree ++ (if m.memOp = 1 then [(t0.no, t0.pc, a)] else []) ∧
      u.rdLoad = t.rdLoad ++ (if m.memOp = 2 then [(t0.no, t0.pc, a, s.ownStore c.cluster t0 a)] else []) ∧
      u.rdCount = t.rdCount ++ (if m.memOp = 4 ∧ t0.sample.isNone = true then [(t0.no, t0.pc, none)] else []) ∧
      u.tsteps = (if m.memOp = 1 then t.tsteps + 1 else t.tsteps) := by
  unfold State.memRun bufferedBy
  dsimp only
  split
  · next h => simp [h]
  · next h => simp [h]
  · next h => cases hs : t0.sample <;> simp [h]
  · next h => cases hs : t0.sample <;> simp [h]
  · next h1 h2 h3 h4 =>
    have h1 : m.memOp ≠ 1 := h1
    have h2 : m.memOp ≠ 2 := h2
    have h3 : m.memOp ≠ 3 := h3
    have h4 : m.memOp ≠ 4 := h4
    simp [h1, h2, h3, h4]

/-- R123: what a microword's stages after the ALUs do not write stands as the ALUs have left it. -/
theorem State.ranThr_alu {β : Type} (g : Thread → β)
    (hl : ∀ t pc len torn, g { t with lockPc := pc, lockLen := len, torn := torn } = g t)
    (hm : ∀ t rt ts rl sb ls rc, g { t with
      rdTree := rt, tsteps := ts, rdLoad := rl, sb := sb, lockStores := ls, rdCount := rc } = g t)
    (hs : ∀ t v pc st bl b no sp aw, g { t with
      verdict := v, pc := pc, stack := st, bgLeft := bl, budget := b, no := no, stepping := sp, await := aw } = g t)
    (s : State) (k : Nat) (m : Micro) : g (s.ranThr k m) = g (aluRun (s.thrCtx k) (s.thr k) m) :=
  (stepRun_keeps g hs ..).trans ((State.memRun_keeps g hm ..).trans (lockRun_keeps g hl ..))

/-- R123: what no stage of a microword writes stands in the thread. -/
theorem State.ranThr_keeps {β : Type} (g : Thread → β)
    (ha : ∀ t x mw fa fb, g { t with g := x, mway := mw, fa := fa, fb := fb } = g t)
    (hl : ∀ t pc len torn, g { t with lockPc := pc, lockLen := len, torn := torn } = g t)
    (hm : ∀ t rt ts rl sb ls rc, g { t with
      rdTree := rt, tsteps := ts, rdLoad := rl, sb := sb, lockStores := ls, rdCount := rc } = g t)
    (hs : ∀ t v pc st bl b no sp aw, g { t with
      verdict := v, pc := pc, stack := st, bgLeft := bl, budget := b, no := no, stepping := sp, await := aw } = g t)
    (s : State) (k : Nat) (m : Micro) : g (s.ranThr k m) = g (s.thr k) :=
  (s.ranThr_alu g hl hm hs k m).trans (aluRun_keeps g ha ..)

/-- R123, R126-R131, R133: what a packet's microword writes of its thread beyond the ALUs' results. -/
theorem State.ranThr_writes {s : State} {k : Nat} (m : Micro) (hbg : (s.thr k).bg = false) :
    let c := s.thrCtx k
    let t := s.thr k
    let u := s.ranThr k m
    let a := fld (srcVal c t m m.memAddr) 15 0
    u.verdict = vdRun c t m ∧
      u.pc = (if m.nxtOp = 1 ∨ m.nxtOp = 3 ∨ (m.nxtOp = 2 ∨ m.nxtOp = 4) ∧ condHolds c t m = true then m.nxtAddr
        else if m.nxtOp = 5 ∨ m.nxtOp = 6 ∧ condHolds c t m = true then (t.stack.getLast?).getD 0
        else if m.nxtOp = 7 then m.nxtAddr / 16 * 16 + t.mway
        else (t.pc + 1) % 16384) ∧
      u.stack = (if m.nxtOp = 3 ∨ m.nxtOp = 4 ∧ condHolds c t m = true then t.stack ++ [(t.pc + 1) % 16384]
        else if m.nxtOp = 5 ∨ m.nxtOp = 6 ∧ condHolds c t m = true then t.stack.dropLast else t.stack) ∧
      u.budget = t.budget - 1 ∧ u.sb = t.sb ++ bufferedBy c t m t.lock.isSome ∧
      u.rdTree = t.rdTree ++ (if m.memOp = 1 then [(t.no, t.pc, a)] else []) ∧
      u.rdLoad = t.rdLoad ++ (if m.memOp = 2 then [(t.no, t.pc, a, s.ownStore c.cluster t a)] else []) ∧
      u.rdCount = t.rdCount ++ (if m.memOp = 4 ∧ t.sample.isNone = true then [(t.no, t.pc, none)] else []) ∧
      u.tsteps = (if m.memOp = 1 then t.tsteps + 1 else t.tsteps) := by
  intro c t u a
  let t1 := lockRun (aluRun c t m) m t.pc (s.tornBit k m)
  have hkeep {β : Type} (g : Thread → β)
      (ha : ∀ t x mw fa fb, g { t with g := x, mway := mw, fa := fa, fb := fb } = g t)
      (hl : ∀ t pc len torn, g { t with lockPc := pc, lockLen := len, torn := torn } = g t) : g t1 = g t :=
    (lockRun_keeps g hl ..).trans (aluRun_keeps g ha ..)
  have hkeep2 {β : Type} (g : Thread → β)
      (hm : ∀ t rt ts rl sb ls rc, g { t with
        rdTree := rt, tsteps := ts, rdLoad := rl, sb := sb, lockStores := ls, rdCount := rc } = g t) :
      g (s.memRun c t m t1) = g t1 := State.memRun_keeps g hm ..
  have hkeep3 {β : Type} (g : Thread → β)
      (hs : ∀ t v pc st bl b no sp aw, g { t with
        verdict := v, pc := pc, stack := st, bgLeft := bl, budget := b, no := no, stepping := sp, await := aw } = g t) :
      g u = g (s.memRun c t m t1) := stepRun_keeps g hs ..
  obtain ⟨hv, hpc, hstack, hb⟩ := stepRun_writes (c := c) hbg t m (s.memRun c t m t1)
  obtain ⟨hsb, htree, hload, hcount, hsteps⟩ := s.memRun_writes c t m t1
  have hlock : t1.lock = t.lock := hkeep (·.lock) (fun _ _ _ _ _ => rfl) fun _ _ _ _ => rfl
  have hst : (s.memRun c t m t1).stack = t.stack :=
    (hkeep2 (·.stack) fun _ _ _ _ _ _ _ => rfl).trans (hkeep (·.stack) (fun _ _ _ _ _ => rfl) fun _ _ _ _ => rfl)
  refine ⟨hv, hpc.trans (nextRun_pc ..), hstack.trans (nextRun_stack _ _ _ _ hst), hb.trans ?_, ?_, ?_, ?_, ?_, ?_⟩
  · rw [hkeep2 (·.budget) fun _ _ _ _ _ _ _ => rfl, hkeep (·.budget) (fun _ _ _ _ _ => rfl) fun _ _ _ _ => rfl]
  · rw [hkeep3 (·.sb) fun _ _ _ _ _ _ _ _ _ => rfl, hsb, hlock,
      hkeep (·.sb) (fun _ _ _ _ _ => rfl) fun _ _ _ _ => rfl]
  · rw [hkeep3 (·.rdTree) fun _ _ _ _ _ _ _ _ _ => rfl, htree,
      hkeep (·.rdTree) (fun _ _ _ _ _ => rfl) fun _ _ _ _ => rfl]
  · rw [hkeep3 (·.rdLoad) fun _ _ _ _ _ _ _ _ _ => rfl, hload,
      hkeep (·.rdLoad) (fun _ _ _ _ _ => rfl) fun _ _ _ _ => rfl]
  · rw [hkeep3 (·.rdCount) fun _ _ _ _ _ _ _ _ _ => rfl, hcount,
      hkeep (·.rdCount) (fun _ _ _ _ _ => rfl) fun _ _ _ _ => rfl]
  · rw [hkeep3 (·.tsteps) fun _ _ _ _ _ _ _ _ _ => rfl, hsteps,
      hkeep (·.tsteps) (fun _ _ _ _ _ => rfl) fun _ _ _ _ => rfl]

end Sys2Proof.Machine
end

section
/-! PROOFS of the family 04_nirum_engines: the issue of a microword. -/

namespace Sys2Proof.Machine

open Sys2Proof

/-! ### What an issue decides (R123, R133-R135) -/

/-- R133: a packet's thread with no budget left overruns. -/
theorem State.issue_spent {s : State} {k : Nat} (up : BitVec 144) (hbg : (s.thr k).bg = false)
    (hb : (s.thr k).budget = 0) : s.issue k up = s.overrun k := by
  simp only [State.issue, hbg, Bool.false_eq_true, if_false, hb, if_true]

/-- R134: a word of wrong parity is a machine check, whatever its fields. -/
theorem State.issue_parity {s : State} {k : Nat} {up : BitVec 144} (hbg : (s.thr k).bg = false)
    (hb : (s.thr k).budget ≠ 0)
    (hp : parityOk (s.cword (keyClu k) (s.activeSlotOf (keyClu k)) (s.thr k).pc ^^^ up) = false) :
    s.issue k up = s.machineCheck k 1 (s.thr k).no (s.thr k).pc 0 := by
  unfold State.activeSlotOf at hp
  simp only [State.issue, hbg, Bool.false_eq_true, if_false, hb, hp, Bool.not_false, if_true]

/-- The microword that a thread of a cluster fetches, an upset's bits in it. -/
def State.fetched (s : State) (k : Nat) (up : BitVec 144) : Micro :=
  microOf (s.cword (keyClu k) (s.activeSlotOf (keyClu k)) (s.thr k).pc ^^^ up)

section
variable {s : State} {k : Nat} {up : BitVec 144} (hbg : (s.thr k).bg = false) (hb : (s.thr k).budget ≠ 0)
  (hp : parityOk (s.cword (keyClu k) (s.activeSlotOf (keyClu k)) (s.thr k).pc ^^^ up) = true)
include hbg hb hp

/-- R133: the limit of a packet's tree reads is looked at before the word's fields. -/
theorem State.issue_limit (hm : (s.fetched k up).memOp = 1) (hl : 40 ≤ (s.thr k).tsteps) :
    s.issue k up = s.overrun k := by
  unfold State.activeSlotOf at hp
  unfold State.fetched State.activeSlotOf at hm
  simp only [State.issue, hbg, Bool.false_eq_true, if_false, hb, hp, Bool.not_true, Bool.not_false, Bool.true_and, hm,
    hl, decide_true, if_true]

/-- R134: a word whose fields are at fault is a machine check. -/
theorem State.issue_cause (hl : (s.fetched k up).memOp ≠ 1 ∨ (s.thr k).tsteps < 40) {cause : Nat}
    (hc : microCheck (s.thrCtx k) (s.thr k) (s.fetched k up) = some cause) :
    s.issue k up = s.machineCheck k cause (s.thr k).no (s.thr k).pc 0 := by
  have hno : ¬ ((s.fetched k up).memOp = 1 ∧ 40 ≤ (s.thr k).tsteps) := by omega
  unfold State.activeSlotOf at hp
  unfold State.fetched State.activeSlotOf at hno hc
  simp only [State.issue, hbg, Bool.false_eq_true, if_false, hb, hp, Bool.not_true, Bool.not_false, Bool.true_and,
    Bool.and_eq_true, decide_eq_true_eq, hno, hc]

/-- R123: a word that passes every check waits, or issues. -/
theorem State.issue_passes (hl : (s.fetched k up).memOp = 1 → (s.thr k).tsteps < 40)
    (hc : microCheck (s.thrCtx k) (s.thr k) (s.fetched k up) = none) :
    s.issue k up = s.tryIssue k (s.thrCtx k) (s.fetched k up) := by
  have hno : ¬ ((s.fetched k up).memOp = 1 ∧ 40 ≤ (s.thr k).tsteps) := by omega
  unfold State.activeSlotOf at hp
  unfold State.fetched State.activeSlotOf at hno hc ⊢
  simp only [State.issue, hbg, Bool.false_eq_true, if_false, hb, hp, Bool.not_true, Bool.not_false, Bool.true_and,
    Bool.and_eq_true, decide_eq_true_eq, hno, hc]

end

/-! ### The stages of a microword's effect on the state (R123) -/

/-- R123: a thread after a microword. -/
def State.issuedThr (s : State) (k : Nat) (m : Micro) : Thread :=
  if m.lock = 2 then unlockRun (s.ranThr k m) else s.ranThr k m

/-- R123, R260: the state once a microword has taken effect on its thread. -/
def State.issuedSt (s : State) (k : Nat) (m : Micro) : State :=
  let u := s.setThr k (s.issuedThr k m)
  if m.memOp = 1 then u.pmcCluster (keyClu k) 2 else u

/-- R123, R131: the state once it has taken effect on its lock line, its credit and the free values. -/
def State.ranState (s : State) (k : Nat) (m : Micro) : State :=
  let c := s.thrCtx k
  let u := s.issuedSt k m
  let u := if m.lock = 2 then u.unlockLine k ((s.thr k).lock.getD 0) else u
  let u := if c.bg then u.setClu c.cluster { u.clu c.cluster with credit := (u.clu c.cluster).credit - 1 } else u
  { u with free := if c.bg || c.spare || bothMway m then u.free + bgFree else u.free }

/-- R118, R121, R129: a thread delivers its verdict, ends its background work, or goes on. -/
def State.microEnd (s : State) (k : Nat) (c : Ctx) (m : Micro) : State :=
  if m.nxtOp = 8 then s.deliver k (s.thr k).verdict .verdict
  else if m.nxtOp = 9 then s.setThr k ((s.thr k).finish s.mono)
  else
    let (o, s) := if m.nxtOp = 10 then s.nextOrder c.cluster else ((s.thr k).order, s)
    s.putThr k { s.thr k with order := o }

theorem State.execMicro_eq (s : State) (k : Nat) (m : Micro) :
    s.execMicro k (s.thrCtx k) m =
      ((s.ranState k m).countIssue k (s.thr k).pc).microEnd k (s.thrCtx k) m := rfl

/-- What an issue's own counts, issue priorities and free values leave as it was, its thread too. -/
structure Untouched {β : Type} (k : Nat) (g : State → β) : Prop where
  thr : ∀ s t, g (State.setThr s k t) = g s
  wide : ∀ (s : State) w, g { s with wide := w } = g s
  free : ∀ (s : State) n, g { s with free := n } = g s
  micro : ∀ (s : State) c n, g (s.setClu c { s.clu c with micro := n }) = g s
  issued : ∀ (s : State) c n, g (s.setClu c { s.clu c with issued := n }) = g s

theorem State.pmc_same {β : Type} (g : State → β) (h : ∀ (s : State) w, g { s with wide := w } = g s) (s : State)
    (hit : Word → Bool) (n : Nat) : g (s.pmc hit n) = g s := ite_same g _ _ _ s (h ..) rfl

/-- R260, R262: the count of an issued microword on a thread that is not profiled. -/
def State.issueCounted (s : State) (k pc : Nat) : State :=
  let c := keyClu k
  let u := (s.setClu c { s.clu c with micro := (s.clu c).micro + 1 }).pmcCluster c 1
  u.setThr k { u.thr k with hist := (pc :: (u.thr k).hist).take 13, trig := [] }

theorem State.countIssue_eq {s : State} {k : Nat} (pc : Nat) (hbg : (s.thr k).bg = false)
    (htrig : (s.thr k).trig = []) (hprof : bit (s.rg .pmcProfCfg) 31 = false) :
    s.countIssue k pc = s.issueCounted k pc := by
  let u := (s.setClu (keyClu k) { s.clu (keyClu k) with micro := (s.clu (keyClu k)).micro + 1 }).pmcCluster (keyClu k) 1
  have hthr : u.thr = s.thr := (State.pmcCluster_exported ..).thr.trans (State.thr_setClu ..)
  have hheld : u.held = s.held := (State.pmc_held ..).trans (State.setClu_held ..)
  have hbg' : (u.thr k).bg = false := by rw [hthr, hbg]
  have htrig' : (u.thr k).trig = [] := by rw [hthr, htrig]
  have hprof' : bit (u.rg .pmcProfCfg) 31 = false := by rw [State.rg, hheld]; exact hprof
  unfold State.countIssue State.issueCounted
  simp only [show (State.pmcCluster (s.setClu (keyClu k) { s.clu (keyClu k) with
    micro := (s.clu (keyClu k)).micro + 1 }) (keyClu k) 1) = u from rfl, hbg', hprof', htrig', Bool.false_and,
    Bool.false_eq_true, if_false, List.map_nil, List.append_nil, List.filter_nil, List.foldl_nil]

theorem Untouched.issueCounted {β : Type} {k : Nat} {g : State → β} (h : Untouched k g) (s : State) (pc : Nat) :
    g (s.issueCounted k pc) = g s :=
  (h.thr ..).trans ((State.pmc_same g h.wide ..).trans (h.micro ..))

/-- R260, R262: of the thread, the count writes the address history and the triggers alone. -/
theorem State.thr_issueCounted {β : Type} (g : Thread → β) (h : ∀ t hs tr, g { t with hist := hs, trig := tr } = g t)
    (s : State) (k pc : Nat) : g ((s.issueCounted k pc).thr k) = g (s.thr k) := by
  rw [State.issueCounted, State.thr_setThr, if_pos rfl, h, (State.pmcCluster_exported ..).thr, State.thr_setClu]

end Sys2Proof.Machine
end

section
/-! PROOFS of the family 04_nirum_engines: what an issued microword leaves. -/

namespace Sys2Proof.Machine

open Sys2Proof

/-! ### The stages beside the thread -/

/-- R131: the release of a line changes lines alone. -/
theorem State.unlockLine_same {β : Type} (g : State → β) (h : ∀ s c l x, g (State.setLine s c l x) = g s) (s : State)
    (k l : Nat) : g (s.unlockLine k l) = g s := by
  unfold State.unlockLine
  dsimp only
  split
  · exact (State.passLine_same g h ..).trans (h ..)
  · rfl

theorem State.thr_issuedSt (s : State) (k : Nat) (m : Micro) : (s.issuedSt k m).thr k = s.issuedThr k m := by
  have hu : (s.setThr k (s.issuedThr k m)).thr k = s.issuedThr k m := (State.thr_setThr ..).trans (if_pos rfl)
  exact (congrFun (ite_same (·.thr) _ _ _ _ (State.pmcCluster_exported ..).thr rfl) k).trans hu

theorem Untouched.issuedSt {β : Type} {k : Nat} {g : State → β} (hg : Untouched k g) (s : State) (m : Micro) :
    g (s.issuedSt k m) = g s :=
  (ite_same g _ _ _ _ (State.pmc_same g hg.wide ..) rfl).trans (hg.thr ..)

theorem State.thr_ranState (s : State) (k : Nat) (m : Micro) : (s.ranState k m).thr k = s.issuedThr k m := by
  unfold State.ranState
  extract_lets c u u1 x u2
  have hu1 : u1.thr = u.thr := ite_same (·.thr) _ _ _ u (State.unlockLine_same (·.thr) State.thr_setLine ..) rfl
  have hu2 : u2.thr = u1.thr := ite_same (·.thr) _ _ _ u1 (State.thr_setClu ..) rfl
  exact (congrFun (hu2.trans hu1) k).trans (s.thr_issuedSt k m)

/-- R123, R131: beside its thread and its line, a packet's microword touches nothing but counts and free values. -/
theorem Untouched.ranState {β : Type} {k : Nat} {g : State → β} (hg : Untouched k g) {s : State} (m : Micro)
    (hbg : (s.thr k).bg = false) :
    g (s.ranState k m) =
      g (if m.lock = 2 then (s.issuedSt k m).unlockLine k ((s.thr k).lock.getD 0) else s.issuedSt k m) := by
  unfold State.ranState
  extract_lets c u u1 x u2
  have hu2 : u2 = u1 := if_neg (by rw [show c.bg = false from hbg]; decide)
  exact (hg.free ..).trans (congrArg g hu2)

/-- R118, R121: a microword that ends no work gives its thread an issue priority, and the thread settles. -/
theorem State.microEnd_goes {s : State} {c : Ctx} {m : Micro} (k : Nat) (h8 : m.nxtOp ≠ 8) (h9 : m.nxtOp ≠ 9) :
    ∃ (o : Nat) (u : State), u.thr = s.thr ∧ s.microEnd k c m = u.putThr k { u.thr k with order := o } ∧
      ∀ {β : Type} (g : State → β), Untouched k g → g u = g s := by
  rcases eq_or_ne m.nxtOp 10 with h | h
  · refine ⟨(s.nextOrder c.cluster).1, (s.nextOrder c.cluster).2, State.thr_setClu .., ?_, fun g hg => hg.issued ..⟩
    simp only [State.microEnd, h, if_true]
    rfl
  · refine ⟨(s.thr k).order, s, rfl, ?_, fun _ _ => rfl⟩
    simp only [State.microEnd, h8, h9, h, if_false]

/-- What the checks of a microword rule out for the cases that follow (R126, R129, R131). -/
theorem microCheck_none {c : Ctx} {t : Thread} {m : Micro} (hbg : c.bg = false) (h : microCheck c t m = none) :
    m.nxtOp ≠ 9 ∧ (m.lock = 2 → t.inSeq = true) ∧ (m.nxtOp = 8 → t.inSeq = false) := by
  unfold microCheck at h
  split at h
  · cases h
  · next hill =>
    split at h
    · cases h
    · split at h
      · cases h
      · next hlock =>
        simp only [illegal, Bool.or_eq_true, not_or] at hill
        simp only [lockFault, Bool.or_eq_true, not_or] at hlock
        obtain ⟨⟨-, h9⟩, -⟩ := hill
        obtain ⟨⟨-, h2⟩, h8⟩ := hlock
        refine ⟨?_, ?_, ?_⟩
        · simpa [hbg] using h9
        · simpa using h2
        · intro hn
          simp [hn] at h8
          exact h8.1

/-- R123, R130: a microword that waits neither for a line nor for room issues. -/
theorem State.tryIssue_issues {s : State} {k : Nat} {c : Ctx} {m : Micro}
    (hlock : m.lock = 1 → (s.thr k).lock.isSome = true) (hsb : m.memOp = 3 ∨ m.memOp = 4 → (s.thr k).sb.length < 8) :
    s.tryIssue k c m = s.execMicro k c m := by
  have h1 : (m.lock = 1 && (s.thr k).lock.isNone) = false := by
    by_cases h : m.lock = 1
    · have := hlock h; cases hl : (s.thr k).lock <;> simp_all
    · simp [h]
  have h2 : ((m.memOp = 3 || m.memOp = 4) && 8 ≤ (s.thr k).sb.length) = false := by
    by_cases h : m.memOp = 3 ∨ m.memOp = 4
    · simp [Nat.not_le.mpr (hsb h)]
    · simp [not_or.mp h]
  simp only [State.tryIssue, h1, h2, Bool.false_eq_true, if_false]

end Sys2Proof.Machine
end

section
/-! PROOFS of the family 04_nirum_engines: the cases of an issued microword. -/

namespace Sys2Proof.Machine

open Sys2Proof

/-! ### A microword that ends no work -/

/-- A reading of a thread that neither the counts of an issue nor settling change. -/
structure Lasting {β : Type} (g : Thread → β) : Prop where
  counts : ∀ t hs tr o, g { t with hist := hs, trig := tr, order := o } = g t
  settles : ∀ t st aw pr hr sp ha, g { t with
    st := st, await := aw, prior := pr, haltReq := hr, stepping := sp, haltAt := ha } = g t

/-- R123: what no microword writes of its thread, an UNLOCK's included. -/
theorem State.issuedThr_keeps {β : Type} (g : Thread → β)
    (ha : ∀ t x mw fa fb, g { t with g := x, mway := mw, fa := fa, fb := fb } = g t)
    (hl : ∀ t pc len torn, g { t with lockPc := pc, lockLen := len, torn := torn } = g t)
    (hm : ∀ t rt ts rl sb ls rc, g { t with
      rdTree := rt, tsteps := ts, rdLoad := rl, sb := sb, lockStores := ls, rdCount := rc } = g t)
    (hs : ∀ t v pc st bl b no sp aw, g { t with
      verdict := v, pc := pc, stack := st, bgLeft := bl, budget := b, no := no, stepping := sp, await := aw } = g t)
    (hu : ∀ t lk ll ls sb, g { t with lock := lk, lockLen := ll, lockStores := ls, sb := sb } = g t)
    (s : State) (k : Nat) (m : Micro) : g (s.issuedThr k m) = g (s.thr k) := by
  unfold State.issuedThr
  split
  · exact (hu ..).trans (s.ranThr_keeps g ha hl hm hs k m)
  · exact s.ranThr_keeps g ha hl hm hs k m

/-- The register words are no part of what an issue touches. -/
theorem untouched_held (k : Nat) : Untouched k (fun s : State => s.held) :=
  ⟨fun _ _ => State.setThr_held .., fun _ _ => rfl, fun _ _ => rfl, fun _ _ _ => State.setClu_held ..,
    fun _ _ _ => State.setClu_held ..⟩

section
variable {s : State} {k : Nat} {m : Micro} (hbg : (s.thr k).bg = false) (htrig : (s.thr k).trig = [])
  (hprof : bit (s.rg .pmcProfCfg) 31 = false)
include hbg htrig hprof

/-- R123, R260: an issued microword on a packet's thread that is not profiled, in its three steps. -/
theorem State.execMicro_counted :
    s.execMicro k (s.thrCtx k) m = ((s.ranState k m).issueCounted k (s.thr k).pc).microEnd k (s.thrCtx k) m := by
  have hheld : (s.ranState k m).held = s.held := by
    refine ((untouched_held k).ranState m hbg).trans ?_
    refine Eq.trans ?_ ((untouched_held k).issuedSt s m)
    exact ite_same (·.held) _ _ _ _ (State.unlockLine_same (·.held) (fun _ _ _ _ => State.setClu_held ..) ..) rfl
  rw [s.execMicro_eq, State.countIssue_eq]
  · rw [s.thr_ranState, s.issuedThr_keeps (·.bg) (fun _ _ _ _ _ => rfl) (fun _ _ _ _ => rfl)
      (fun _ _ _ _ _ _ _ => rfl) (fun _ _ _ _ _ _ _ _ _ => rfl) fun _ _ _ _ _ => rfl]
    exact hbg
  · rw [s.thr_ranState, s.issuedThr_keeps (·.trig) (fun _ _ _ _ _ => rfl) (fun _ _ _ _ => rfl)
      (fun _ _ _ _ _ _ _ => rfl) (fun _ _ _ _ _ _ _ _ _ => rfl) fun _ _ _ _ _ => rfl]
    exact htrig
  · rw [State.rg, hheld]
    exact hprof

/-- R123: a microword that ends no work: its thread holds what it has written, and beside that and its line only
counts, priorities and free values have moved. -/
theorem State.execMicro_goes (h8 : m.nxtOp ≠ 8) (h9 : m.nxtOp ≠ 9) :
    (∀ {β : Type} (g : Thread → β), Lasting g →
      g ((s.execMicro k (s.thrCtx k) m).thr k) = g (s.issuedThr k m)) ∧
    ∀ {β : Type} (g : State → β), Untouched k g → g (s.execMicro k (s.thrCtx k) m) =
      g (if m.lock = 2 then (s.issuedSt k m).unlockLine k ((s.thr k).lock.getD 0) else s.issuedSt k m) := by
  obtain ⟨o, u, hthr, hend, hsame⟩ :=
    State.microEnd_goes (s := (s.ranState k m).issueCounted k (s.thr k).pc) (c := s.thrCtx k) k h8 h9
  rw [State.execMicro_counted hbg htrig hprof, hend]
  refine ⟨fun g hg => ?_, fun g hg => ?_⟩
  · rw [State.putThr_field g hg.settles, hg.counts _ (u.thr k).hist (u.thr k).trig, hthr,
      State.thr_issueCounted g (fun t hs tr => hg.counts t hs tr t.order), State.thr_ranState]
  · refine (hg.thr ..).trans ((hsame g hg).trans ((hg.issueCounted ..).trans ?_))
    exact hg.ranState m hbg

/-- R123, R131: a microword that ends no work and has no UNLOCK touches its thread, counts, priorities and free values
alone. -/
theorem State.execMicro_untouched (h8 : m.nxtOp ≠ 8) (h9 : m.nxtOp ≠ 9) (h2 : m.lock ≠ 2) {β : Type} {g : State → β}
    (hg : Untouched k g) : g (s.execMicro k (s.thrCtx k) m) = g s := by
  rw [(State.execMicro_goes hbg htrig hprof h8 h9).2 g hg, if_neg h2, hg.issuedSt]

end

theorem untouched_thr {k j : Nat} (h : j ≠ k) : Untouched k (fun s : State => s.thr j) :=
  ⟨fun _ _ => (State.thr_setThr ..).trans (if_neg h), fun _ _ => rfl, fun _ _ => rfl,
    fun _ _ _ => congrFun (State.thr_setClu ..) j, fun _ _ _ => congrFun (State.thr_setClu ..) j⟩

theorem State.scratch_setClu_same {s : State} {c : Nat} {x : Cluster} (h : x.scratch = (s.clu c).scratch) :
    (s.setClu c x).scratch = s.scratch := by
  funext d a
  rcases eq_or_ne d c with rfl | hd
  · simp [State.scratch, h]
  · simp [State.scratch, hd]

theorem untouched_scratch (k : Nat) : Untouched k (fun s : State => s.scratch) :=
  ⟨fun _ _ => State.scratch_setThr .., fun _ _ => rfl, fun _ _ => rfl, fun _ _ _ => State.scratch_setClu_same rfl,
    fun _ _ _ => State.scratch_setClu_same rfl⟩

theorem untouched_tbl (k : Nat) : Untouched k (fun s : State => s.tbl) :=
  ⟨fun _ _ => State.setThr_tbl .., fun _ _ => rfl, fun _ _ => rfl, fun _ _ _ => State.setClu_tbl ..,
    fun _ _ _ => State.setClu_tbl ..⟩

theorem untouched_buf (k : Nat) : Untouched k (fun s : State => s.buf) :=
  ⟨fun _ _ => State.setThr_buf .., fun _ _ => rfl, fun _ _ => rfl, fun _ _ _ => State.setClu_buf ..,
    fun _ _ _ => State.setClu_buf ..⟩

theorem untouched_dram (k : Nat) : Untouched k (fun s : State => s.dram) :=
  ⟨fun _ _ => State.setThr_dram .., fun _ _ => rfl, fun _ _ => rfl, fun _ _ _ => State.setClu_dram ..,
    fun _ _ _ => State.setClu_dram ..⟩

/-! ### LOCK (R131) -/

/-- R131: a packet's thread that requests a line, and the line's queue. -/
theorem State.askLock_packet {s : State} {k : Nat} (l : Nat) (hsample : (s.thr k).sample = none) :
    (s.askLock k l).thr = (s.putThr k { s.thr k with want := some l }).thr ∧
      (s.askLock k l).lockLine (keyClu k) l = { s.lockLine (keyClu k) l with
        waiters := if (s.thr k).sb = [] ∧ (s.lockLine (keyClu k) l).waiters.contains (k % 136) = false
          then (s.lockLine (keyClu k) l).waiters ++ [k % 136] else (s.lockLine (keyClu k) l).waiters } := by
  obtain ⟨put, hput⟩ : ∃ put, put = s.putThr k { s.thr k with want := some l } := ⟨_, rfl⟩
  have hline : put.lockLine = s.lockLine := by rw [hput]; exact State.lockLine_setThr ..
  have hask : s.askLock k l =
      if (s.thr k).sb.isEmpty then
        if (put.lockLine (keyClu k) l).waiters.contains (k % 136) then put
        else put.setLine (keyClu k) l { put.lockLine (keyClu k) l with
          waiters := (put.lockLine (keyClu k) l).waiters ++ [k % 136] }
      else put := by rw [hput]; exact if_neg (by simp [hsample])
  rw [hask, hline, ← hput]
  by_cases hsb : (s.thr k).sb = []
  · rw [if_pos (List.isEmpty_iff.mpr hsb)]
    cases hw : (s.lockLine (keyClu k) l).waiters.contains (k % 136) with
    | true =>
      rw [if_pos rfl, if_neg (by simp), hline]
      exact ⟨rfl, rfl⟩
    | false =>
      rw [if_neg (by simp), if_pos ⟨hsb, rfl⟩, State.thr_setLine, State.lockLine_setLine, if_pos ⟨rfl, rfl⟩]
      exact ⟨rfl, rfl⟩
  · rw [if_neg (by simpa using hsb), if_neg (fun h => hsb h.1), hline]
    exact ⟨rfl, rfl⟩

/-- R131: a packet's LOCK that has no line waits for it. -/
theorem State.tryIssue_asks {s : State} {k : Nat} {c : Ctx} {m : Micro} (h1 : m.lock = 1)
    (hlock : (s.thr k).lock = none) (hsample : (s.thr k).sample = none) :
    s.tryIssue k c m = s.askLock k (m.imm % 64) := by
  have hnone : ((s.askLock k (m.imm % 64)).thr k).lock = none := by
    rw [(State.askLock_packet (m.imm % 64) hsample).1, State.putThr_field (·.lock) fun _ _ _ _ _ _ _ => rfl]
    exact hlock
  simp only [State.tryIssue, h1, hlock, hnone, Option.isNone_none, decide_true, Bool.and_self, if_true]

/-! ### UNLOCK (R131) -/

theorem mem_tins_self {α : Type} (t : Tab α) (k : Nat) (x : α) : (k, x) ∈ tins t k x := by
  induction t with
  | nil => exact List.mem_singleton_self _
  | cons e t ih =>
    obtain ⟨a, v⟩ := e
    unfold tins
    split
    · exact List.mem_cons_self
    · split
      · exact List.mem_cons_self
      · exact List.mem_cons_of_mem _ ih

/-- R131: the lines of a list have no owner once each has passed on. -/
theorem State.owner_foldl_pass (c l : Nat) (ls : List (Nat × LockLine)) : ∀ s : State,
    (s.lockLine c l).owner = none ∨ (∃ x, (l, x) ∈ ls) →
      ((ls.foldl (fun st e => st.setLine c e.1 { st.lockLine c e.1 with owner := none, releasing := false }) s).lockLine
        c l).owner = none := by
  induction ls with
  | nil => exact fun s h => h.resolve_right fun ⟨_, hx⟩ => List.not_mem_nil hx
  | cons e ls ih =>
    intro s h
    rw [List.foldl_cons]
    refine ih _ ?_
    rw [State.lockLine_setLine]
    rcases eq_or_ne l e.1 with rfl | hne
    · exact .inl (by rw [if_pos ⟨rfl, rfl⟩])
    · rw [if_neg fun h => hne h.2]
      refine h.imp_right fun ⟨x, hx⟩ => ⟨x, ?_⟩
      exact (List.mem_cons.mp hx).resolve_left fun he => hne (congrArg Prod.fst he)

/-- R131: a line that its holder releases passes on, unless a store of its sequence is still to drain. -/
theorem State.owner_unlockLine {s : State} {k l : Nat}
    (ho : (s.lockLine (keyClu k) l).owner = some (k % 136)) :
    ((s.unlockLine k l).lockLine (keyClu k) l).owner =
      if ((s.thr k).sb.any fun e => e.seq) = true then some (k % 136) else none := by
  let x : LockLine := { s.lockLine (keyClu k) l with releasing := true }
  let u := s.setLine (keyClu k) l x
  have hu : s.unlockLine k l = u.passLine k := if_pos ho
  have hthr : u.thr = s.thr := State.thr_setLine ..
  rw [hu, State.passLine, hthr]
  by_cases hseq : ((s.thr k).sb.any fun e => e.seq) = true
  · rw [if_pos hseq, if_pos hseq, State.lockLine_setLine, if_pos ⟨rfl, rfl⟩]
    exact ho
  · rw [if_neg hseq, if_neg hseq]
    refine State.owner_foldl_pass _ _ _ u (.inr ⟨x, List.mem_filter.mpr ⟨?_, by simp [x, ho]⟩⟩)
    have hlocks : (u.clu (keyClu k)).locks = tset (fun _ => {}) (s.clu (keyClu k)).locks l x := by
      simp [u, State.setLine]
    have hx : x ≠ {} := fun h => Bool.noConfusion (congrArg LockLine.releasing h : true = false)
    rw [hlocks, tset, if_neg hx]
    exact mem_tins_self ..

theorem untouched_owner (k c l : Nat) : Untouched k (fun s : State => (s.lockLine c l).owner) := by
  have hclu (s : State) (d : Nat) (x : Cluster) (h : x.locks = (s.clu d).locks) :
      (s.setClu d x).lockLine c l = s.lockLine c l := by
    rcases eq_or_ne c d with rfl | hd
    · simp [State.lockLine, h]
    · simp [State.lockLine, hd]
  exact ⟨fun _ _ => by rw [State.lockLine_setThr], fun _ _ => rfl, fun _ _ => rfl,
    fun s d n => congrArg LockLine.owner (hclu s d _ rfl), fun s d n => congrArg LockLine.owner (hclu s d _ rfl)⟩

end Sys2Proof.Machine
end

section
/-! PROOFS of the family 04_nirum_engines: the end of a packet's program. -/

namespace Sys2Proof.Machine

open Sys2Proof

/-! ### The hand-off of a verdict (R159, R160) -/

/-- R160: where a verdict sends its frame goes by the variant, the ports and the tables. -/
theorem State.resolve_congr {s t : State} (hident : t.ident = s.ident) (hports : t.ports = s.ports)
    (htbl : t.tbl = s.tbl) (p : Pkt) (pr v : List Word) : t.resolve p pr v = s.resolve p pr v := by
  have hn : t.nPorts = s.nPorts := by simp only [State.nPorts, State.nGroups, hident]
  have hcp : t.cpRead = s.cpRead := by
    funext n table par idx; simp only [State.cpRead, htbl]
  have hport : t.port = s.port := by
    funext lp; simp only [State.port, hports]
  have hlen : t.lenAfter = s.lenAfter := by
    funext n par v len; simp only [State.lenAfter, State.tmplLen, hcp]
  have hrw : t.rewriteOk = s.rewriteOk := by
    funext n par v len
    unfold State.rewriteOk
    rw [hlen]
  have hlag : t.lagPick = s.lagPick := by
    funext n par g hash; simp only [State.lagPick, hcp, hport]
  unfold State.resolve
  rw [hn, hrw, hlag]

/-- R26, R160: what the resequencer is told of a frame whose verdict is resolved. -/
def handed (p : Nat) : Nat ⊕ Target → SeqItem
  | .inl _ => .gone
  | .inr d => .pass p d

theorem State.thr_seqPut (s : State) (lp seq : Nat) (i : SeqItem) : (s.seqPut lp seq i).thr = s.thr := rfl

/-- R159, R160: a verdict that is handed off stands in its place in its port's order, and no thread changes. -/
theorem State.handOff_rest (s : State) (p : Nat) (v : List Word) (src : PuntSrc) :
    let q := s.pkt p
    let pr := s.cpRead (q.stamp.lport / 32) 4 q.stamp.epoch (pktProfile q)
    (s.handOff p v src).thr = s.thr ∧
      (s.handOff p v src).held26 q.stamp.lport =
        s.held26 q.stamp.lport ++ [(q.stamp.seq, handed p (s.resolve q pr v))] := by
  intro q pr
  obtain ⟨x, hx, hu⟩ := s.sealVerdict_recorded p v src
  obtain ⟨u, heq⟩ : ∃ u, u = s.sealVerdict p v src := ⟨_, rfl⟩
  rw [← heq] at hu
  have hthr : u.thr = s.thr := hu.thr
  have hheld : u.held26 = s.held26 := hu.held26
  have hstamp : (u.pkt p).stamp = q.stamp := by rw [hu.pkt, State.pkt_setPkt, if_pos rfl, hx]
  have hres : u.resolve q pr v = s.resolve q pr v :=
    State.resolve_congr (hu.ident.trans (State.setPkt_ident ..)) (hu.ports.trans (State.setPkt_ports ..))
      (hu.tbl.trans (State.setPkt_tbl ..)) q pr v
  cases hr : s.resolve q pr v with
  | inl r =>
    have hoff : s.handOff p v src = u.endPkt p .engines r := by
      unfold State.handOff
      simp only [← heq]
      rw [show u.resolve _ _ v = Sum.inl r from hres.trans hr]
    obtain ⟨-, hthreads, -, -⟩ := u.endPkt_rest p .engines r
    rw [hoff]
    refine ⟨Eq.trans ?_ hthr, ?_⟩
    · funext j; simp only [State.thr, hthreads]
    · rw [State.held26_endPkt, hstamp, if_pos rfl, hheld]; rfl
  | inr d =>
    have hoff : s.handOff p v src = u.seqPut q.stamp.lport q.stamp.seq (.pass p d) := by
      unfold State.handOff
      simp only [← heq]
      rw [show u.resolve _ _ v = Sum.inr d from hres.trans hr]
    rw [hoff, State.thr_seqPut, State.held26_seqPut, if_pos rfl, hheld]
    exact ⟨hthr, rfl⟩

/-! ### END (R120, R129, R355, R398) -/

/-- R115, R140, R355: what a packet's end counts and samples is its cluster's alone. -/
theorem State.endCounts_same {β : Type} (g : State → β) (h : ∀ s c x, g (State.setClu s c x) = g s) (s : State) (k : Nat)
    (d : Option Word) : g ((s.countHold k).samplePrimary k d) = g s := by
  have hhold : g (s.countHold k) = g s := h ..
  refine Eq.trans ?_ hhold
  unfold State.samplePrimary
  dsimp only
  split
  · exact h ..
  · rfl

/-- R120, R398: a thread whose packet has ended. -/
theorem Thread.finish_fields (t : Thread) (now : Nat) :
    (t.finish now).st = (if t.haltReq = true ∨ t.stepping ≠ 0 then .halted else .idle) ∧ (t.finish now).pkt = none ∧
      (t.finish now).sb = t.sb := by
  have hpend : t.pend = true ↔ t.haltReq = true ∨ t.stepping ≠ 0 := by simp [Thread.pend]
  unfold Thread.finish
  by_cases h : t.pend = true
  · rw [if_pos h, if_pos (hpend.mp h)]; exact ⟨rfl, rfl, rfl⟩
  · rw [if_neg h, if_neg fun h' => h (hpend.mpr h')]; exact ⟨rfl, rfl, rfl⟩

/-- R129, R158: a thread that delivers its packet's verdict has ended its work, and the frame is handed off. -/
theorem State.deliver_packet {s : State} {k p : Nat} (v : List Word) (hp : (s.thr k).pkt = some p) :
    let q := s.pkt p
    let pr := s.cpRead (q.stamp.lport / 32) 4 q.stamp.epoch (pktProfile q)
    let t := s.deliver k v .verdict
    (t.thr k).st = (if (s.thr k).haltReq = true ∨ (s.thr k).stepping ≠ 0 then .halted else .idle) ∧
      (t.thr k).pkt = none ∧ (t.thr k).sb = (s.thr k).sb ∧
      t.held26 q.stamp.lport = s.held26 q.stamp.lport ++ [(q.stamp.seq, handed p (s.resolve q pr v))] := by
  intro q pr t
  let d := some (digestOf v (s.thrCtx k).stamp.epoch)
  obtain ⟨u, hu⟩ : ∃ u, u = (s.countHold k).samplePrimary k d := ⟨_, rfl⟩
  obtain ⟨w, hw⟩ : ∃ w, w = u.setThr k (({ s.thr k with verdict := v } : Thread).finish u.mono) := ⟨_, rfl⟩
  have ht : t = w.handOff p v .verdict := by
    rw [hw, hu]
    change s.deliver k v .verdict = _
    simp only [State.deliver, hp]
    rfl
  have hsame {β : Type} (g : State → β) (hclu : ∀ s c x, g (State.setClu s c x) = g s)
      (hthr : ∀ s k x, g (State.setThr s k x) = g s) : g w = g s := by
    rw [hw, hthr, hu, State.endCounts_same g hclu]
  have hq : w.pkt p = q := by simp only [State.pkt, hsame (·.pkts) (by simp) (by simp), q]
  have htbl : w.tbl = s.tbl := hsame (·.tbl) (by simp) (by simp)
  have hheld : w.held26 = s.held26 := by
    funext lp; simp only [State.held26, hsame (·.reseq) (by simp) (by simp)]
  have hpr : w.cpRead (q.stamp.lport / 32) 4 q.stamp.epoch (pktProfile q) = pr := by
    simp only [State.cpRead, htbl, pr]
  have hres : w.resolve q pr v = s.resolve q pr v :=
    State.resolve_congr (hsame (·.ident) (by simp) (by simp)) (hsame (·.ports) (by simp) (by simp)) htbl q pr v
  obtain ⟨hthr, hseq⟩ := w.handOff_rest p v .verdict
  obtain ⟨hst, hpkt, hsb⟩ := ({ s.thr k with verdict := v } : Thread).finish_fields u.mono
  have hend : w.thr k = ({ s.thr k with verdict := v } : Thread).finish u.mono := by
    rw [hw, State.thr_setThr, if_pos rfl]
  rw [hq, hpr, hres, hheld] at hseq
  rw [ht, hthr, hend]
  exact ⟨hst, hpkt, hsb, hseq⟩

end Sys2Proof.Machine
end

section
/-! PROOFS of the family 04_nirum_engines: the issue of a microword, settled. -/

namespace Sys2Proof.Machine

open Sys2Proof

/-! ### END of an issued microword -/

/-- R398: a STEP is done once its microword has issued. -/
theorem stepRun_stepping (c : Ctx) (t0 : Thread) (m : Micro) (t : Thread) :
    (stepRun c t0 m t).stepping = if t.stepping = 1 then 2 else t.stepping := by
  unfold stepRun
  extract_lets t1 t2 t3
  have h2 : t2.stepping = t.stepping := nextRun_keeps (·.stepping) (fun _ _ _ => rfl) c t0 m t1
  have h3 : t3.stepping = t2.stepping := by unfold t3; split <;> rfl
  change (if t3.stepping = 1 then 2 else t3.stepping) = _
  rw [h3, h2]

theorem State.ranThr_stepping (s : State) (k : Nat) (m : Micro) :
    (s.ranThr k m).stepping ≠ 0 ↔ (s.thr k).stepping ≠ 0 := by
  have hkeep : (s.memRun (s.thrCtx k) (s.thr k) m
      (lockRun (aluRun (s.thrCtx k) (s.thr k) m) m (s.thr k).pc (s.tornBit k m))).stepping = (s.thr k).stepping :=
    (State.memRun_keeps (·.stepping) (fun _ _ _ _ _ _ _ => rfl) ..).trans
      ((lockRun_keeps (·.stepping) (fun _ _ _ _ => rfl) ..).trans
        (aluRun_keeps (·.stepping) (fun _ _ _ _ _ => rfl) ..))
  rw [State.ranThr, stepRun_stepping, hkeep]
  split <;> omega

/-- What an issue's stages leave of all that lies outside threads, clusters, counters and free values. -/
theorem untouched_of {β : Type} (k : Nat) {g : State → β} (hthr : ∀ s k x, g (State.setThr s k x) = g s)
    (hclu : ∀ s c x, g (State.setClu s c x) = g s) (hwide : ∀ (s : State) w, g { s with wide := w } = g s)
    (hfree : ∀ (s : State) n, g { s with free := n } = g s) : Untouched k g :=
  ⟨fun s t => hthr s k t, hwide, hfree, fun _ _ _ => hclu .., fun _ _ _ => hclu ..⟩

/-- R120, R123, R129: the END of a packet's program. -/
theorem State.execMicro_ends {s : State} {k p : Nat} {m : Micro} (hbg : (s.thr k).bg = false)
    (htrig : (s.thr k).trig = []) (hprof : bit (s.rg .pmcProfCfg) 31 = false) (h8 : m.nxtOp = 8) (h0 : m.lock = 0)
    (hp : (s.thr k).pkt = some p) :
    let q := s.pkt p
    let v := vdRun (s.thrCtx k) (s.thr k) m
    let pr := s.cpRead (q.stamp.lport / 32) 4 q.stamp.epoch (pktProfile q)
    let t := s.execMicro k (s.thrCtx k) m
    (t.thr k).st = (if (s.thr k).haltReq = true ∨ (s.thr k).stepping ≠ 0 then .halted else .idle) ∧
      (t.thr k).pkt = none ∧
      (t.thr k).sb = (s.thr k).sb ++ bufferedBy (s.thrCtx k) (s.thr k) m (s.thr k).lock.isSome ∧
      t.held26 q.stamp.lport = s.held26 q.stamp.lport ++ [(q.stamp.seq, handed p (s.resolve q pr v))] := by
  intro q v pr t
  have h2 : m.lock ≠ 2 := by omega
  obtain ⟨u, hu⟩ : ∃ u, u = (s.ranState k m).issueCounted k (s.thr k).pc := ⟨_, rfl⟩
  have hthr {β : Type} (g : Thread → β) (hg : ∀ t hs tr, g { t with hist := hs, trig := tr } = g t) :
      g (u.thr k) = g (s.ranThr k m) := by
    rw [hu, State.thr_issueCounted g hg, State.thr_ranState, State.issuedThr, if_neg h2]
  have hsame {β : Type} (g : State → β) (hg : Untouched k g) : g u = g s := by
    rw [hu, hg.issueCounted, hg.ranState m hbg, if_neg h2, hg.issuedSt]
  have hkeep {β : Type} (g : Thread → β) (hg : ∀ t hs tr, g { t with hist := hs, trig := tr } = g t)
      (ha : ∀ t x mw fa fb, g { t with g := x, mway := mw, fa := fa, fb := fb } = g t)
      (hl : ∀ t pc len torn, g { t with lockPc := pc, lockLen := len, torn := torn } = g t)
      (hm : ∀ t rt ts rl sb ls rc, g { t with
        rdTree := rt, tsteps := ts, rdLoad := rl, sb := sb, lockStores := ls, rdCount := rc } = g t)
      (hs : ∀ t v pc st bl b no sp aw, g { t with
        verdict := v, pc := pc, stack := st, bgLeft := bl, budget := b, no := no, stepping := sp, await := aw } = g t) :
      g (u.thr k) = g (s.thr k) := (hthr g hg).trans (s.ranThr_keeps g ha hl hm hs k m)
  have hpkt : (u.thr k).pkt = some p :=
    (hkeep (·.pkt) (fun _ _ _ => rfl) (fun _ _ _ _ _ => rfl) (fun _ _ _ _ => rfl) (fun _ _ _ _ _ _ _ => rfl)
      fun _ _ _ _ _ _ _ _ _ => rfl).trans hp
  have hhalt : (u.thr k).haltReq = (s.thr k).haltReq :=
    hkeep (·.haltReq) (fun _ _ _ => rfl) (fun _ _ _ _ _ => rfl) (fun _ _ _ _ => rfl) (fun _ _ _ _ _ _ _ => rfl)
      fun _ _ _ _ _ _ _ _ _ => rfl
  have hstep : (u.thr k).stepping ≠ 0 ↔ (s.thr k).stepping ≠ 0 := by
    rw [hthr (·.stepping) fun _ _ _ => rfl]; exact s.ranThr_stepping k m
  obtain ⟨hv, -, -, -, hsb, -⟩ := State.ranThr_writes m hbg
  have hverdict : (u.thr k).verdict = v := (hthr (·.verdict) fun _ _ _ => rfl).trans hv
  have hbuffer := (hthr (·.sb) fun _ _ _ => rfl).trans hsb
  have htbl : u.tbl = s.tbl := hsame _ (untouched_tbl k)
  have hq : u.pkt p = q := by
    have hpkts : u.pkts = s.pkts := hsame (·.pkts) (untouched_of k (by simp) (by simp) (fun _ _ => rfl) fun _ _ => rfl)
    simp only [State.pkt, hpkts, q]
  have hheld : u.held26 = s.held26 := by
    have hreseq : u.reseq = s.reseq :=
      hsame (·.reseq) (untouched_of k (by simp) (by simp) (fun _ _ => rfl) fun _ _ => rfl)
    funext lp; simp only [State.held26, hreseq]
  have hpr : u.cpRead (q.stamp.lport / 32) 4 q.stamp.epoch (pktProfile q) = pr := by
    simp only [State.cpRead, htbl, pr]
  have hres : u.resolve q pr v = s.resolve q pr v := State.resolve_congr
    (hsame (·.ident) (untouched_of k (by simp) (by simp) (fun _ _ => rfl) fun _ _ => rfl))
    (hsame (·.ports) (untouched_of k (by simp) (by simp) (fun _ _ => rfl) fun _ _ => rfl)) htbl q pr v
  have ht : t = u.deliver k v .verdict := by
    have hend : u.microEnd k (s.thrCtx k) m = u.deliver k (u.thr k).verdict .verdict := if_pos h8
    rw [← hverdict, ← hend, hu]
    exact State.execMicro_counted hbg htrig hprof
  obtain ⟨hst, hnone, hsb', hseq⟩ := u.deliver_packet v hpkt
  rw [hq, hpr, hres, hheld] at hseq
  rw [ht, hst, hnone, hsb', hbuffer, hseq]
  refine ⟨?_, rfl, rfl, rfl⟩
  simp only [hhalt, hstep]

end Sys2Proof.Machine
end

section
/-! PROOFS of the family 04_nirum_engines: the issue of a microword, its obligation. -/

namespace Sys2Proof.Machine

open Sys2Proof

/-! ### What lasts of an issued microword -/

/-- A thread without what counts, issue priorities and settling change of it. -/
def Thread.work (t : Thread) : Thread :=
  { t with hist := [], trig := [], order := 0, st := .idle, await := 0, prior := .idle, haltReq := false, stepping := 0,
           haltAt := 0 }

theorem lasting_work : Lasting Thread.work := ⟨fun _ _ _ _ => rfl, fun _ _ _ _ _ _ _ => rfl⟩

section
variable {t u : Thread} (h : t.work = u.work)
include h

/-- R123: the results of a microword are part of a thread's work. -/
theorem Thread.work_results :
    t.g = u.g ∧ t.fa = u.fa ∧ t.fb = u.fb ∧ t.mway = u.mway ∧ t.verdict = u.verdict ∧ t.pc = u.pc ∧
      t.stack = u.stack ∧ t.budget = u.budget :=
  ⟨congrArg (·.g) h, congrArg (·.fa) h, congrArg (·.fb) h, congrArg (·.mway) h, congrArg (·.verdict) h,
    congrArg (·.pc) h, congrArg (·.stack) h, congrArg (·.budget) h⟩

/-- R127, R130, R131: a thread's memory operations and its lock are part of its work. -/
theorem Thread.work_memory :
    t.sb = u.sb ∧ t.lock = u.lock ∧ t.lockLen = u.lockLen ∧ t.rdTree = u.rdTree ∧ t.rdLoad = u.rdLoad ∧
      t.rdCount = u.rdCount ∧ t.tsteps = u.tsteps :=
  ⟨congrArg (·.sb) h, congrArg (·.lock) h, congrArg (·.lockLen) h, congrArg (·.rdTree) h, congrArg (·.rdLoad) h,
    congrArg (·.rdCount) h, congrArg (·.tsteps) h⟩

end

/-- R123, R125: a microword's ALU results stand in its thread, and so does its lock. -/
theorem State.ranThr_results (s : State) (k : Nat) (m : Micro) :
    let r := aluRun (s.thrCtx k) (s.thr k) m
    let u := s.ranThr k m
    u.g = r.g ∧ u.fa = r.fa ∧ u.fb = r.fb ∧ u.mway = r.mway ∧ u.lock = (s.thr k).lock := by
  intro r u
  have h {β : Type} (g : Thread → β) := s.ranThr_alu g (k := k) (m := m)
  exact ⟨h (·.g) (fun _ _ _ _ => rfl) (fun _ _ _ _ _ _ _ => rfl) fun _ _ _ _ _ _ _ _ _ => rfl,
    h (·.fa) (fun _ _ _ _ => rfl) (fun _ _ _ _ _ _ _ => rfl) fun _ _ _ _ _ _ _ _ _ => rfl,
    h (·.fb) (fun _ _ _ _ => rfl) (fun _ _ _ _ _ _ _ => rfl) fun _ _ _ _ _ _ _ _ _ => rfl,
    h (·.mway) (fun _ _ _ _ => rfl) (fun _ _ _ _ _ _ _ => rfl) fun _ _ _ _ _ _ _ _ _ => rfl,
    s.ranThr_keeps (·.lock) (fun _ _ _ _ _ => rfl) (fun _ _ _ _ => rfl) (fun _ _ _ _ _ _ _ => rfl)
      (fun _ _ _ _ _ _ _ _ _ => rfl) k m⟩

/-! ### UNLOCK of an issued microword (R131) -/

/-- R131: an UNLOCK ends its sequence and releases the held stores. -/
theorem State.issuedThr_unlock {s : State} {k : Nat} {m : Micro} (hbg : (s.thr k).bg = false) (h2 : m.lock = 2) :
    (s.issuedThr k m).lock = none ∧ (s.issuedThr k m).lockLen = 0 ∧
      (s.issuedThr k m).sb =
        ((s.thr k).sb ++ bufferedBy (s.thrCtx k) (s.thr k) m (s.thr k).lock.isSome).map
          (fun e => { e with held := false }) ∧
      (s.issuedThr k m).budget = (s.thr k).budget - 1 := by
  obtain ⟨-, -, -, hbudget, hsb, -⟩ := State.ranThr_writes m hbg
  rw [State.issuedThr, if_pos h2, ← hsb, ← hbudget]
  exact ⟨rfl, rfl, rfl, rfl⟩

/-- The release of stores leaves which of them a sequence has issued. -/
theorem any_seq_released (sb : List SbEntry) :
    ((sb.map fun e => { e with held := false }).any fun e => e.seq) = sb.any fun e => e.seq := by
  rw [List.any_map]; rfl

/-- R131: the line of a microword that unlocks is free once no store of the sequence is left. -/
theorem State.execMicro_frees {s : State} {k l : Nat} {m : Micro} (hbg : (s.thr k).bg = false)
    (htrig : (s.thr k).trig = []) (hprof : bit (s.rg .pmcProfCfg) 31 = false) (h8 : m.nxtOp ≠ 8) (h9 : m.nxtOp ≠ 9)
    (h2 : m.lock = 2) (hl : (s.thr k).lock = some l)
    (ho : (s.lockLine (keyClu k) l).owner = some (k % 136)) :
    ((s.execMicro k (s.thrCtx k) m).lockLine (keyClu k) l).owner =
      if (((s.thr k).sb ++ bufferedBy (s.thrCtx k) (s.thr k) m (s.thr k).lock.isSome).any fun e => e.seq) = true
        then some (k % 136) else none := by
  obtain ⟨-, -, hsb, -⟩ := State.issuedThr_unlock hbg h2
  have ho' : ((s.issuedSt k m).lockLine (keyClu k) l).owner = some (k % 136) :=
    ((untouched_owner k (keyClu k) l).issuedSt s m).trans ho
  have hget : (s.thr k).lock.getD 0 = l := by rw [hl]; rfl
  rw [(State.execMicro_goes hbg htrig hprof h8 h9).2 _ (untouched_owner k (keyClu k) l), if_pos h2, hget,
    State.owner_unlockLine ho', s.thr_issuedSt, hsb, any_seq_released]

/-- Settles O14: what the issue decides, then its effect by the microword's LOCK field and END. -/
theorem microwordIssue : Obligations.MicrowordIssue := by
  intro s c e th slot up hrun hmay k t w m i hbg
  have hk : keyClu k = c := keyClu_thrKey c e th
  have hact : Becomes i s (s.issue k up) := becomes_of_act (f := fun s => s.issue k up) rfl (by simp [hrun, hmay])
  have hw : s.cword (keyClu k) (s.activeSlotOf (keyClu k)) (s.thr k).pc ^^^ up = w := by rw [hk]
  have hm : s.fetched k up = m := congrArg microOf hw
  refine ⟨fun hb => ?spent, fun hb hp => ?parity, fun hb hp hop hl => ?limit, fun cause hb hp hl hc => ?cause,
    fun hb hp hc htrig hprof hl hfull => ?passes⟩
  case spent => rwa [State.issue_spent up hbg hb] at hact
  case parity => rwa [State.issue_parity hbg hb (by rw [hw]; exact hp)] at hact
  case limit => rwa [State.issue_limit hbg hb (by rw [hw]; exact hp) (by rw [hm]; exact hop) hl] at hact
  case cause =>
    rwa [State.issue_cause hbg hb (by rw [hw]; exact hp) (by rw [hm]; exact hl) (by rw [hm]; exact hc)] at hact
  case passes =>
    intro r cond a seq real sb
    rw [State.issue_passes hbg hb (by rw [hw]; exact hp) (by rw [hm]; exact hl) (by rw [hm]; exact hc), hm] at hact
    obtain ⟨h9, hin, hout⟩ := microCheck_none hbg hc
    refine ⟨fun hlock h8 => hact.completes ?goes, fun h1 hseq hreal => hact.completes ?asks,
      fun l h2 hlock => hact.completes ?unlocks, fun p h8 h0 hpkt => hact.completes ?ends⟩
    case goes =>
      have h2 : m.lock ≠ 2 := by omega
      rw [State.tryIssue_issues (fun h1 => (hlock.resolve_left (by omega)).2) hfull]
      have hwork : ((s.execMicro k (s.thrCtx k) m).thr k).work = (s.ranThr k m).work := by
        rw [(State.execMicro_goes hbg htrig hprof h8 h9).1 _ lasting_work, State.issuedThr, if_neg h2]
      have hsame {β : Type} {g : State → β} (hg : Untouched k g) : g (s.execMicro k (s.thrCtx k) m) = g s :=
        State.execMicro_untouched hbg htrig hprof h8 h9 h2 hg
      obtain ⟨hg', hfa', hfb', hmway', hv', hpc', hstack', hbudget'⟩ := Thread.work_results hwork
      obtain ⟨hsb', hlock', -, htree', hload', hcount', hsteps'⟩ := Thread.work_memory hwork
      obtain ⟨hg, hfa, hfb, hmway, hlk⟩ := s.ranThr_results k m
      obtain ⟨hv, hpc, hstack, hbudget, hsb, htree, hload, hcount, hsteps⟩ := State.ranThr_writes m hbg
      have hclu : (s.thrCtx k).cluster = c := hk
      rw [hclu] at hload
      simp only [State.thr_intSweep, State.scratch_intSweep, State.intSweep_tbl, State.intSweep_buf,
        State.intSweep_dram]
      exact ⟨hpc'.trans hpc, hstack'.trans hstack, hbudget'.trans hbudget, hg'.trans hg, hfa'.trans hfa,
        hfb'.trans hfb, hmway'.trans hmway, hv'.trans hv, hsb'.trans hsb, hlock'.trans hlk, htree'.trans htree,
        hload'.trans hload, hcount'.trans hcount, hsteps'.trans hsteps, fun j hj => hsame (untouched_thr hj),
        fun d b => congrFun (congrFun (hsame (untouched_scratch k)) d) b, hsame (untouched_tbl k),
        hsame (untouched_buf k), hsame (untouched_dram k)⟩
    case asks =>
      have hnone : (s.thr k).lock = none := Option.isNone_iff_eq_none.mp (Option.isSome_eq_false_iff.mp hseq)
      have hsample : (s.thr k).sample = none := Option.isNone_iff_eq_none.mp hreal
      obtain ⟨hthr, hline⟩ := State.askLock_packet (m.imm % 64) hsample
      have hkeep {β : Type} (g : Thread → β)
          (hg : ∀ t st aw pr hr sp ha, g { t with
            st := st, await := aw, prior := pr, haltReq := hr, stepping := sp, haltAt := ha } = g t) :
          g ((s.askLock k (m.imm % 64)).thr k) = g { s.thr k with want := some (m.imm % 64) } := by
        rw [hthr]; exact State.putThr_field g hg ..
      rw [hk] at hline
      rw [State.tryIssue_asks h1 hnone hsample, State.thr_intSweep, State.lockLine_intSweep, hline]
      exact ⟨hkeep (·.want) fun _ _ _ _ _ _ _ => rfl, (hkeep (·.lock) fun _ _ _ _ _ _ _ => rfl).trans hnone,
        hkeep (·.pc) fun _ _ _ _ _ _ _ => rfl, hkeep (·.budget) fun _ _ _ _ _ _ _ => rfl,
        hkeep (·.sb) fun _ _ _ _ _ _ _ => rfl, rfl, rfl⟩
    case unlocks =>
      have h8 : m.nxtOp ≠ 8 := fun h => by simpa [hin h2] using hout h
      obtain ⟨hnone, hlen, hsb, hbudget⟩ := State.issuedThr_unlock hbg h2
      have hwork : ((s.execMicro k (s.thrCtx k) m).thr k).work = (s.issuedThr k m).work :=
        (State.execMicro_goes hbg htrig hprof h8 h9).1 _ lasting_work
      obtain ⟨-, -, -, -, -, -, -, hbudget'⟩ := Thread.work_results hwork
      obtain ⟨hsb', hnone', hlen', -⟩ := Thread.work_memory hwork
      rw [State.tryIssue_issues (fun h1 => by omega) hfull, State.thr_intSweep, State.lockLine_intSweep]
      refine ⟨hnone'.trans hnone, hlen'.trans hlen, hsb'.trans hsb, hbudget'.trans hbudget, fun ho => ?_⟩
      rw [← hk] at ho ⊢
      exact State.execMicro_frees hbg htrig hprof h8 h9 h2 hlock ho
    case ends =>
      obtain ⟨hst, hnone, hsb, hheld⟩ := State.execMicro_ends hbg htrig hprof h8 h0 hpkt
      rw [State.tryIssue_issues (fun h1 => by omega) hfull, State.thr_intSweep, State.held26_intSweep]
      exact ⟨hst, hnone, hsb, hheld⟩

end Sys2Proof.Machine
end

section
/-! PROOFS of the family 06_epochs_and_commands: what the completion of a table command leaves, the command unit's step,
and the table commands that read, search, or are refused. -/

namespace Sys2Proof.Machine

open Sys2Proof

/-! ### What a completion leaves (R193, R196, R198, R302) -/

/-- A state with nothing of what the completion of a command writes: the queue and the banks' BUSY, register words,
rings, links, and what leaves the block. -/
def State.beyondCpl (s : State) : State :=
  { s with cu := { s.cu with q := [], busy := [] }, free := 0, held := [], hosts := [], out := [], rings := [] }

theorem State.setRg_beyondCpl (s : State) (n : RegName) (k j : Nat) (v : Word) (i : Nat) :
    (s.setRg n k j v i).beyondCpl = s.beyondCpl := rfl

theorem State.setRing_beyondCpl (s : State) (h t : Nat) (x : Ring) : (s.setRing h t x).beyondCpl = s.beyondCpl := rfl

theorem State.withBusy_beyondCpl (s : State) (l : List Bool) :
    ({ s with cu := { s.cu with busy := l } } : State).beyondCpl = s.beyondCpl := rfl

theorem State.toHost_beyondCpl (s : State) (h a : Nat) (b : List Byte) : (s.toHost h a b).beyondCpl = s.beyondCpl := rfl

/-- R193: a completion goes to its bank's registers or to its ring, and touches nothing else. -/
theorem State.complete_beyondCpl (s : State) (c : TCmd) (x : Cpl) : (s.complete c x).beyondCpl = s.beyondCpl := by
  unfold State.complete
  generalize hy : (if (x.status ≠ 0 && c.op ≠ 0x0C : Bool) then _ else (x, s)) = y
  have hfree : y.2.beyondCpl = s.beyondCpl := by
    rw [← hy]
    split <;> rfl
  cases c.src with
  | bank r =>
    refine Eq.trans (State.withBusy_beyondCpl _ _) ((foldl_same State.beyondCpl _ (fun st i => ?_) _ _).trans hfree)
    exact State.setRg_beyondCpl ..
  | ring h t =>
    dsimp only
    split
    · rw [State.setRing_beyondCpl, State.toHost_beyondCpl, State.setRing_beyondCpl, State.setRing_beyondCpl, hfree]
    · rw [State.setRing_beyondCpl, State.setRing_beyondCpl, hfree]

/-- A command that leaves the queue leaves all else as it was. -/
theorem State.cuPop_beyondCpl (s : State) : s.cuPop.beyondCpl = s.beyondCpl := by
  unfold State.cuPop
  split <;> rfl

theorem State.cuSkip_beyondCpl (n : Nat) (s : State) : (s.cuSkip n).beyondCpl = s.beyondCpl := by
  induction n generalizing s with
  | zero => rfl
  | succ n ih =>
    unfold State.cuSkip
    split
    · split
      · rfl
      · rw [ih, State.complete_beyondCpl, State.cuPop_beyondCpl]
    · rfl

/-- R191: the commands of undefined opcodes complete, which touches nothing beyond completions. -/
theorem State.cuTidy_beyondCpl (s : State) : s.cuTidy.beyondCpl = s.beyondCpl := State.cuSkip_beyondCpl ..

/-- R183: so does the completion of several commands. -/
theorem State.completeAll_beyondCpl (l : List TCmd) (x : State → Cpl) (s : State) :
    (l.foldl (fun st c => st.complete c (x st)) s).beyondCpl = s.beyondCpl :=
  foldl_same _ _ (fun st c => st.complete_beyondCpl c (x st)) l s

section
variable {s t : State} (h : s.beyondCpl = t.beyondCpl)
include h

theorem State.tbl_of_beyondCpl : s.tbl = t.tbl := congrArg (·.tbl) h
theorem State.epc_of_beyondCpl : s.epc = t.epc := congrArg (·.epc) h
theorem State.groups_of_beyondCpl : s.groups = t.groups := congrArg (·.groups) h
theorem State.settleWait_of_beyondCpl : s.cu.settleWait = t.cu.settleWait := congrArg (·.cu.settleWait) h

end

@[simp] theorem State.complete_tbl (s : State) (c : TCmd) (x : Cpl) : (s.complete c x).tbl = s.tbl :=
  State.tbl_of_beyondCpl (s.complete_beyondCpl c x)
@[simp] theorem State.complete_epc (s : State) (c : TCmd) (x : Cpl) : (s.complete c x).epc = s.epc :=
  State.epc_of_beyondCpl (s.complete_beyondCpl c x)
@[simp] theorem State.cuPop_tbl (s : State) : s.cuPop.tbl = s.tbl := State.tbl_of_beyondCpl s.cuPop_beyondCpl
@[simp] theorem State.cuPop_epc (s : State) : s.cuPop.epc = s.epc := State.epc_of_beyondCpl s.cuPop_beyondCpl
@[simp] theorem State.cuTidy_tbl (s : State) : s.cuTidy.tbl = s.tbl := State.tbl_of_beyondCpl s.cuTidy_beyondCpl
@[simp] theorem State.cuTidy_epc (s : State) : s.cuTidy.epc = s.epc := State.epc_of_beyondCpl s.cuTidy_beyondCpl

/-! ### The command unit's next command (R196) -/

/-- R196: the command at the head runs on the state without it, and the commands of no opcode behind it complete. -/
theorem becomes_of_cuRun {i : Instr} {s : State} {c : TCmd} {b : Bool} {f : State → TCmd → State}
    (h : exec i s = act b (fun s => s.cuRun f) s) (hb : b = true) (hc : s.cuHead = some c) :
    Becomes i s (f s.cuPop c).cuTidy := by
  have hrun : s.cuRun f = (f s.cuPop c).cuTidy := by simp only [State.cuRun, hc]
  rw [← hrun]
  exact becomes_of_act (f := fun s => s.cuRun f) h hb

theorem State.cuIs_iff {s : State} {c : TCmd} (hc : s.cuHead = some c) (op : Nat) : s.cuIs op = true ↔ c.op = op := by
  simp [State.cuIs, hc]

/-- R190: the next command, of an opcode, while the table domain is on. -/
theorem State.cuReady {s : State} {c : TCmd} {op : Nat} (hon : s.tblOn = true) (hc : s.cuHead = some c)
    (hop : c.op = op) : (s.tblOn && s.cuIs op) = true := by
  rw [hon, (State.cuIs_iff hc op).2 hop]; rfl

/-! ### Checks and data of a table command (R190, R194, R198) -/

theorem State.finish_failWith (s : State) (c : TCmd) (st : Nat) (ok : Bool) :
    State.finish c (failWith s st) ok = s.complete c { status := st } := rfl

section
variable {s : State} {c : TCmd} {d : Option (List Word)} {f : List Word → CmdRes}

theorem State.cmdRun_refused {st : Nat} (h : s.cmdCheck c = some st) : s.cmdRun c d f = failWith s st := by
  simp only [State.cmdRun, h]

theorem State.cmdRun_data {ws : List Word} (h : s.cmdCheck c = none) (hn : needsData c.op c.table = true)
    (hd : s.cmdData c d = some ws) : s.cmdRun c d f = f ws := by
  simp only [State.cmdRun, h, hn, hd, if_true]

theorem State.cmdRun_noData (h : s.cmdCheck c = none) (hn : needsData c.op c.table = false) :
    s.cmdRun c d f = f [] := by
  simp only [State.cmdRun, h, hn, Bool.false_eq_true, if_false]

end

/-- R190, R198: a command of staging whose own words are refused completes with their status. -/
theorem State.formed_refused {s : State} {c : TCmd} {st : Nat} (f : State → TCmd → State) (h : formCheck c = some st) :
    State.formed f s c = s.complete c { status := st } := by
  simp only [State.formed, h]

theorem State.formed_passes {s : State} {c : TCmd} (f : State → TCmd → State) (h : formCheck c = none) :
    State.formed f s c = f s c := by
  simp only [State.formed, h]

/-- R175, R183: a SETTLE_WAIT that a check refuses. -/
theorem State.settleWait_refused {s : State} {c : TCmd} {st : Nat} (h : s.cmdCheck c = some st) :
    State.formed State.settleWait s c = s.complete c { status := st } := by
  unfold State.cmdCheck at h
  cases hf : formCheck c with
  | some st' =>
    rw [hf] at h
    rw [State.formed_refused _ hf, Option.some.inj h]
  | none =>
    rw [hf] at h
    rw [State.formed_passes _ hf]
    simp only [State.settleWait, h]

/-! ### Table commands at the head (R190, R194) -/

section
variable {i : Instr} {s : State} {c : TCmd} {op : Nat} {d : Option (List Word)}
  {run : State → TCmd → List Word → CmdRes} {ok : Bool}
  (h : exec i s = act (s.tblOn && s.cuIs op)
    (fun s => s.cuRun fun s c => State.finish c (s.cmdRun c d fun ws => run s c ws) ok) s)
  (hon : s.tblOn = true) (hc : s.cuHead = some c) (hop : c.op = op)
include h hon hc hop

/-- R190: a table command at the head runs after its checks and the read of its data, and completes. -/
theorem becomes_tableCmd : Becomes i s (State.finish c (s.cuPop.cmdRun c d fun ws => run s.cuPop c ws) ok).cuTidy :=
  becomes_of_cuRun h (State.cuReady hon hc hop) hc

/-- R194: a table command that a check refuses completes with the check's status. -/
theorem becomes_tableCmd_refused {st : Nat} (hcheck : s.cuPop.cmdCheck c = some st) :
    Becomes i s (s.cuPop.complete c { status := st }).cuTidy := by
  have hb := becomes_tableCmd h hon hc hop
  rwa [State.cmdRun_refused hcheck, State.finish_failWith] at hb

/-- R190: a table command that passes its checks runs on its data. -/
theorem becomes_tableCmd_data {ws : List Word} (hcheck : s.cuPop.cmdCheck c = none)
    (hn : needsData op c.table = true) (hd : s.cuPop.cmdData c d = some ws) :
    Becomes i s (State.finish c (run s.cuPop c ws) ok).cuTidy := by
  have hb := becomes_tableCmd h hon hc hop
  rwa [State.cmdRun_data hcheck (hop ▸ hn) hd] at hb

/-- R190: a table command without data words runs once it has passed its checks. -/
theorem becomes_tableCmd_plain (hcheck : s.cuPop.cmdCheck c = none) (hn : needsData op c.table = false) :
    Becomes i s (State.finish c (run s.cuPop c []) ok).cuTidy := by
  have hb := becomes_tableCmd h hon hc hop
  rwa [State.cmdRun_noData hcheck (hop ▸ hn)] at hb

end

/-- Settles O19: each command runs on what its check answers, and the completion of a refused one touches no table. -/
theorem tableChecks : Obligations.TableChecks := by
  intro s c data ok st hon hc hcheck
  have hstaging {i : Instr} {b : Bool} {f : State → TCmd → State}
      (h : exec i s = act b (fun s => s.cuRun (State.formed f)) s) (hb : b = true) (hf : formCheck c = some st) :
      Becomes i s (s.cuPop.complete c { status := st }).cuTidy := by
    rw [← State.formed_refused f hf]
    exact becomes_of_cuRun h hb hc
  refine ⟨by simp, by simp, fun h => ?_, fun h => ?_, fun h => ?_, fun h => ?_, fun h => ?_, fun h => ?_, fun h => ?_,
    fun h => ?_, fun h => ?_, fun h => ?_, fun h => ?_, fun h => ?wait, fun hf =>
      ⟨fun h => ?begins, fun h hfan => ?commits, fun h => ?aborts⟩⟩
  case wait =>
    rw [← State.settleWait_refused hcheck]
    exact becomes_of_cuRun rfl (State.cuReady hon hc h) hc
  case begins | aborts => exact hstaging rfl (State.cuReady hon hc h) hf
  case commits => exact hstaging rfl (by rw [State.cuReady hon hc h, hfan]; rfl) hf
  all_goals exact becomes_tableCmd_refused rfl hon hc h hcheck

/-! ### What READ and SEARCH answer (R191, R193) -/

/-- R191: the answer of a command that reads: what the place found shows, or NOT_FOUND. -/
def State.tableAnswer {α : Type} (s : State) (code : α → Word) (entry : α → List Word) : Option α → CmdRes
  | some x => { cpl := { r0 := code x }, st := s, out := some (entry x) }
  | none => failWith s 0x07

section
variable {α : Type} {s : State} {code : α → Word} {entry : α → List Word} {l : List α} {p : α → Bool}

/-- R191: an entry that is answered is one of those looked at. -/
theorem State.tableAnswer_found {e : List Word} (h : (s.tableAnswer code entry (l.find? p)).out = some e) :
    ∃ x ∈ l, p x = true ∧ e = entry x ∧
      s.tableAnswer code entry (l.find? p) = { cpl := { r0 := code x }, st := s, out := some e } := by
  cases hf : l.find? p with
  | none => rw [hf] at h; exact absurd h (Option.some_ne_none e).symm
  | some x =>
    rw [hf] at h
    have he : e = entry x := (Option.some.inj h).symm
    exact ⟨x, List.mem_of_find?_eq_some hf, List.find?_some hf, he, by rw [he]; rfl⟩

/-- R193: where no entry is answered, none of those looked at is the one sought. -/
theorem State.tableAnswer_notFound (h : (s.tableAnswer code entry (l.find? p)).out = none) :
    s.tableAnswer code entry (l.find? p) = failWith s 0x07 ∧ ∀ x ∈ l, p x = false := by
  cases hf : l.find? p with
  | none => exact ⟨rfl, fun x hx => Bool.eq_false_iff.2 (List.find?_eq_none.1 hf x hx)⟩
  | some x => rw [hf] at h; exact absurd h (Option.some_ne_none _)

end

section
variable {s : State} {c : TCmd} {ws : List Word}

/-- R191: READ of a station key looks at the entries of one replica. -/
theorem State.readRun_sta (h : c.table = 0) : s.readRun c ws =
    s.tableAnswer (fun x => wd (lifeOf (wAt x.2 1))) (fun x => x.2) (s.tbl.staR.find? fun e =>
      e.1 / 2 ^ 20 == fld c.arg0 2 1 && staIs (staBd ws) (staMac ws) e.2 &&
        lifeSees (lifeOf (wAt e.2 1)) (bit c.arg0 0) s.epc.s) := by
  simp only [State.readRun, h, State.staReplica]
  cases List.find? _ s.tbl.staR <;> rfl

/-- R191: READ of a neighbour key looks at the entries of one replica. -/
theorem State.readRun_nbr (h : c.table = 1) (hk : nbrKindOk (padTo c.count ws) c.count = true) : s.readRun c ws =
    s.tableAnswer (fun x => wd (lifeOf (nbrLifeWord x.2))) (fun x => x.2) (s.tbl.nbrR.find? fun x =>
      x.1 / 2 ^ 18 == fld c.arg0 2 1 &&
        nbrIs (nbrV6 (padTo c.count ws)) (fld (nbrLifeWord (padTo c.count ws)) 29 16) (nbrAddr (padTo c.count ws))
            x.2 && lifeSees (lifeOf (nbrLifeWord x.2)) (bit c.arg0 0) s.epc.s) := by
  simp only [State.readRun, h, State.nbrReplica, hk, Bool.not_true, Bool.false_eq_true, if_false]
  cases List.find? _ s.tbl.nbrR <;> rfl

/-- R191, R217: READ of a replication row looks at its two slots. -/
theorem State.readRun_rep (h : c.table = 10) (hi : c.index < 32768) : s.readRun c ws =
    s.tableAnswer (fun x => wd (s.repSlot x.1).life) (fun x => repWords (s.repSlot x.1))
      ((s.repFind c.index).find? fun e => lifeSees e.2 (bit c.arg0 0) s.epc.s) := by
  simp only [State.readRun, h, State.repSee, if_neg (Nat.not_le.2 hi)]
  cases List.find? _ (s.repFind c.index) <;> rfl

/-- R169, R191: READ of a copy table's entry answers the master copy. -/
theorem State.readRun_cp (h4 : 4 ≤ c.table) (h9 : c.table ≤ 9) (hi : c.index < cpSize c.table)
    (h8 : c.table ≠ 8 ∨ c.index < s.nPorts) : s.readRun c ws =
      { cpl := { r0 := wd 0 }, st := s, out := some (s.cpMaster c.table (bit c.arg0 0) c.index) } := by
  have hport : (c.table = 8 && s.nPorts ≤ c.index : Bool) = false := by
    rcases h8 with h | h <;> simp [h]
  unfold State.readRun
  dsimp only
  split
  case h_6 => rw [if_neg (Nat.not_le.2 hi), hport]; rfl
  all_goals omega

/-- R191: SEARCH of a station key looks at its entries in the master copy. -/
theorem State.searchRun_sta (h : c.table = 0) : s.searchRun c ws =
    s.tableAnswer (fun x => staSlotCode x.1) (fun x => s.sta x.1) ((s.staFind (staBd ws) (staMac ws)).find? fun e =>
      lifeSees e.2 (bit c.arg0 0) s.epc.s) := by
  simp only [State.searchRun, h, if_true]
  cases List.find? _ (s.staFind (staBd ws) (staMac ws)) <;> rfl

/-- R191: SEARCH of a neighbour key looks at its entries in the master copy. -/
theorem State.searchRun_nbr (h : c.table = 1) (hk : nbrKindOk (padTo c.count ws) c.count = true) : s.searchRun c ws =
    s.tableAnswer (fun x => wd x.1) (fun x => s.nbr x.1) ((s.nbrFind (nbrV6 (padTo c.count ws))
      (fld (nbrLifeWord (padTo c.count ws)) 29 16) (nbrAddr (padTo c.count ws))).find? fun e =>
        lifeSees e.2 (bit c.arg0 0) s.epc.s) := by
  simp only [State.searchRun, h, hk, Bool.not_true, Bool.false_eq_true, if_false, Nat.one_ne_zero]
  cases List.find? _ (s.nbrFind _ _ _) <;> rfl

end

/-- R217: a valid slot of a row stands there with its life. -/
theorem State.life_of_mem_repFind {s : State} {g : Nat} {x : Nat × Nat} (h : x ∈ s.repFind g) :
    (s.repSlot x.1).life = x.2 := by
  obtain ⟨k, -, rfl⟩ := List.mem_map.1 h
  rfl

/-- Settles O20: a command that passes runs on its data, and READ and SEARCH answer the first entry that the parity
sees among those of their key. -/
theorem tableCommands : Obligations.TableCommands := by
  refine ⟨fun s c data ok ws hon hc => ?_, fun s c ws => ?_⟩
  · intro u ran
    refine ⟨fun h subs => ?bulk, fun hcheck hd => ?_, fun hcheck => ?_⟩
    case bulk =>
      exact becomes_of_cuRun (f := fun s c => State.finish c (s.bulk c subs) true) rfl (State.cuReady hon hc h) hc
    · refine ⟨fun h ht => ?readKey, fun h ht => ?readPlace, fun h => ?_, fun h => ?_, fun h ht => ?deleteKey,
        fun h ht => ?deletePlace, fun h => ?_, fun h => ?_⟩
      case readPlace | deletePlace => exact becomes_tableCmd_plain rfl hon hc h hcheck (by simp [needsData, ht])
      case readKey | deleteKey => exact becomes_tableCmd_data rfl hon hc h hcheck (by simp [needsData, ht]) hd
      all_goals exact becomes_tableCmd_data rfl hon hc h hcheck rfl hd
    · have hplain {i : Instr} {op : Nat} {run : State → TCmd → CmdRes}
          (h : exec i s = act (s.tblOn && s.cuIs op)
            (fun s => s.cuRun fun s c => State.finish c (s.cmdRun c none fun _ => run s c) true) s)
          (hop : c.op = op) (hn : needsData op c.table = false) : Becomes i s (ran (run u c) true) :=
        becomes_tableCmd_plain (run := fun s c _ => run s c) h hon hc hop hcheck hn
      exact ⟨fun h => hplain (run := State.treeRetireRun) rfl h rfl,
        fun h => hplain (run := State.setRootRun) rfl h rfl, fun h => hplain (run := State.flushRun) rfl h rfl,
        fun h => hplain (run := fun s _ => s.ageRun) rfl h rfl,
        fun h => hplain (run := State.widthRun) rfl h rfl⟩
  · intro par sees nb give read search
    have hread {all : Tab (List Word)} {size : Nat} {is : List Word → Bool} {life : List Word → Nat}
        (h : s.readRun c ws = s.tableAnswer (fun x => wd (life x.2)) (fun x => x.2) (all.find? fun e =>
          e.1 / size == fld c.arg0 2 1 && is e.2 && sees (life e.2))) : read all size is life := by
      refine ⟨fun e he => ?_, fun hn => ?_⟩
      · rw [h] at he ⊢
        obtain ⟨x, hx, hp, rfl, heq⟩ := State.tableAnswer_found he
        simp only [Bool.and_eq_true] at hp
        obtain ⟨⟨hk, his⟩, hsees⟩ := hp
        exact ⟨heq, his, hsees, x, hx, eq_of_beq hk, rfl⟩
      · rw [h] at hn ⊢
        obtain ⟨heq, hall⟩ := State.tableAnswer_notFound hn
        refine ⟨heq, fun x hx hk his => ?_⟩
        simpa [hk, his] using hall x hx
    have hsearch {found : List (Nat × Nat)} {entry : Nat → List Word} {code : Nat → Word}
        (h : s.searchRun c ws =
          s.tableAnswer (fun x => code x.1) (fun x => entry x.1) (found.find? fun x => sees x.2)) :
        search found entry code := by
      refine ⟨fun e he => ?_, fun hn => ?_⟩
      · rw [h] at he ⊢
        exact State.tableAnswer_found he
      · rw [h] at hn ⊢
        exact State.tableAnswer_notFound hn
    refine ⟨fun h => hread (State.readRun_sta h), fun h hk => hread (State.readRun_nbr h hk), fun h hi => ?asc,
      fun h hi => ?tree, fun h4 h9 hi h8 => State.readRun_cp h4 h9 hi h8, fun h hi => ?rep,
      fun h => hsearch (State.searchRun_sta h), fun h hk => hsearch (State.searchRun_nbr h hk)⟩
    case asc =>
      simp only [State.readRun, h, hi, Bool.not_true, Bool.false_eq_true, if_false, List.isEmpty_iff]
      rfl
    case tree => simp only [State.readRun, h, if_neg (Nat.not_le.2 hi)]; rfl
    case rep =>
      rw [State.readRun_rep h hi]
      refine ⟨fun e he => ?_, State.tableAnswer_notFound⟩
      obtain ⟨x, hx, hp, he', heq⟩ := State.tableAnswer_found he
      exact ⟨x, hx, hp, he', by rw [heq, State.life_of_mem_repFind hx]⟩

end Sys2Proof.Machine
end

section
/-! PROOFS of the family 06_epochs_and_commands: staging, commit and flip, the phases of a settle, and the abort. -/

namespace Sys2Proof.Machine

open Sys2Proof

/-! ### The command that leaves the queue, and what completions leave (R193, R196) -/

/-- R196: a command that leaves the queue leaves all that does not show the queue. -/
theorem State.cuPop_same {β : Type} (g : State → β)
    (hq : ∀ (s : State) (l : List TCmd), g { s with cu := { s.cu with q := l } } = g s) (s : State) :
    g s.cuPop = g s := by
  unfold State.cuPop
  split
  · exact hq ..
  · rfl

/-- R190, R198: a command of staging at the head whose own words pass acts on the state without it. -/
theorem becomes_stagingCmd {i : Instr} {s : State} {c : TCmd} {b : Bool} {f : State → TCmd → State}
    (h : exec i s = act b (fun s => s.cuRun (State.formed f)) s) (hb : b = true) (hc : s.cuHead = some c)
    (hf : formCheck c = none) : Becomes i s (f s.cuPop c).cuTidy := by
  rw [← State.formed_passes f hf]
  exact becomes_of_cuRun h hb hc

/-! ### Staging (R175, R176) -/

/-- R176: the epoch unit once a BEGIN_STAGE has opened staging. -/
def State.stagedBy (s : State) (c : TCmd) : Epoch :=
  let e := { s.epc with st := .staging, owner := some c.req, token := c.token, touched := [] }
  if s.epc.s then { e with schemaA := c.arg0.setWidth 4, rootA := s.epc.rootC, seedA := s.rg .tblLagSeed }
  else { e with schemaC := c.arg0.setWidth 4, rootC := s.epc.rootA, seedC := s.rg .tblLagSeed }

theorem State.openStage_unit (s : State) (c : TCmd) :
    (s.openStage c).epc = s.stagedBy c ∧ (s.openStage c).tbl = s.tbl := by
  unfold State.openStage
  dsimp only
  rw [State.complete_epc, State.complete_tbl]
  exact ⟨rfl, rfl⟩

section
variable {s : State} {c : TCmd} (hw : s.cu.beginWait = [])
include hw

theorem State.begin_idle (hst : s.epc.st = .idle) : s.begin_ c = s.openStage c := by
  simp only [State.begin_, hst, hw, List.isEmpty_nil, if_true]

theorem State.begin_staging (hst : s.epc.st = .staging) : s.begin_ c = s.stageOpen c := by
  simp only [State.begin_, hst, hw, List.isEmpty_nil, if_true]

end

theorem State.beginNext_idle {s : State} {c : TCmd} {l : List TCmd} (hw : s.cu.beginWait = c :: l)
    (hst : s.epc.st = .idle) :
    s.beginNext = (({ s with cu := { s.cu with beginWait := l } } : State).openStage c).cuTidy := by
  simp only [State.beginNext, hw, hst, if_true]

/-- Settles O24: a BEGIN_STAGE at the head acts by the state that it finds, a waiting one once the unit is IDLE. -/
theorem stagingOpens : Obligations.StagingOpens := by
  intro s c hon e e'
  have hopens (u : State) (hepc : u.stagedBy c = e') (htbl : u.tbl = s.tbl) :
      (u.openStage c).cuTidy.intSweep.epc = e' ∧ (u.openStage c).cuTidy.intSweep.tbl = s.tbl := by
    rw [State.intSweep_epc, State.intSweep_tbl, State.cuTidy_epc, State.cuTidy_tbl, ← hepc, ← htbl]
    exact u.openStage_unit c
  have hhead (hc : s.cuHead = some c) (hop : c.op = 9) (hf : formCheck c = none) :
      Becomes .beginStage s (s.cuPop.begin_ c).cuTidy :=
    becomes_stagingCmd rfl (State.cuReady hon hc hop) hc hf
  have hwait : s.cuPop.cu.beginWait = s.cu.beginWait := s.cuPop_same (·.cu.beginWait) fun _ _ => rfl
  refine ⟨fun hc hop hf hw hst => (hhead hc hop hf).completes ?_, fun hc hop hf hw hst => ?_, fun l hw hst => ?_⟩
  · rw [State.begin_idle (hwait.trans hw) (by rwa [State.cuPop_epc])]
    exact hopens _ (s.cuPop_same (·.stagedBy c) fun _ _ => rfl) s.cuPop_tbl
  · have hb := hhead hc hop hf
    rwa [State.begin_staging (hwait.trans hw) (by rwa [State.cuPop_epc]), State.stageOpen, State.cuPop_epc] at hb
  · have hb : Becomes .waitingBeginStage s s.beginNext :=
      becomes_of_act (f := State.beginNext) rfl (by simp [hon, hst])
    rw [State.beginNext_idle hw hst] at hb
    exact hb.completes (hopens _ rfl rfl)

/-! ### Commit and flip (R180, R181) -/

/-- R180: the flip is sent to one group, if it is Active. -/
def State.flipTo (s : State) (n : Nat) : State :=
  if s.isActive (domPg n) then s.setGrp n { s.grp n with flip := List.replicate 6 true } else s

theorem State.sendFlip_eq (s : State) : s.sendFlip = (List.range s.nGroups).foldl State.flipTo s := rfl

theorem State.flipTo_same {β : Type} (g : State → β) (hgrp : ∀ s n x, g (State.setGrp s n x) = g s) (s : State)
    (n : Nat) : g (s.flipTo n) = g s :=
  ite_same g _ _ _ s (hgrp ..) rfl

theorem State.sendFlip_epc (s : State) : s.sendFlip.epc = s.epc :=
  foldl_same (·.epc) _ (State.flipTo_same (·.epc) fun _ _ _ => rfl) ..

theorem State.sendFlip_tbl (s : State) : s.sendFlip.tbl = s.tbl :=
  foldl_same (·.tbl) _ (State.flipTo_same (·.tbl) fun _ _ _ => rfl) ..

theorem State.flip_flipTo (s : State) (n m : Nat) :
    ((s.flipTo m).grp n).flip =
      if n = m ∧ s.isActive (domPg n) = true then List.replicate 6 true else (s.grp n).flip := by
  unfold State.flipTo
  rcases eq_or_ne n m with rfl | hnm
  · by_cases ha : s.isActive (domPg n) = true <;> simp [ha]
  · by_cases ha : s.isActive (domPg m) = true <;> simp [ha, hnm]

/-- R180: every Active group of a list has been sent the flip. -/
theorem State.flip_foldl (n : Nat) (l : List Nat) : ∀ s : State,
    ((l.foldl State.flipTo s).grp n).flip =
      if n ∈ l ∧ s.isActive (domPg n) = true then List.replicate 6 true else (s.grp n).flip := by
  induction l with
  | nil => simp
  | cons m l ih =>
    intro s
    have hact : (s.flipTo m).isActive (domPg n) = s.isActive (domPg n) :=
      State.flipTo_same (·.isActive (domPg n)) (fun _ _ _ => rfl) s m
    rw [List.foldl_cons, ih, hact, State.flip_flipTo]
    by_cases hl : n ∈ l <;> by_cases ha : s.isActive (domPg n) = true <;> simp [hl, ha]

/-- R180: the state of a COMMIT that passes, before it sends the flip. -/
def State.committing (s : State) (c : TCmd) : State :=
  { s with
    tbl := { s.tbl with node := liveNodes s.tbl.node },
    epc := { s.epc with
      num := s.epc.num + 1, st := .flipping, flipTime := BitVec.ofNat 64 s.now,
      flipAt := s.mono, late := false, commitBy := some c } }

theorem State.commitRun_passes {s : State} {c : TCmd} (h : s.stageCheck c = none)
    (hs : s.schemaServed (s.schemaOf s.epc.s) = true) : s.commitRun c = (s.committing c).sendFlip := by
  simp only [State.commitRun, h, hs, Bool.not_true, Bool.false_eq_true, if_false]
  rfl

theorem State.startDone_unit (s : State) : s.startDone.epc = s.epc ∧ s.startDone.tbl = s.tbl := by
  unfold State.startDone
  split <;> exact ⟨rfl, rfl⟩

/-- R181: the epoch unit and the tables once the flip is complete. -/
theorem State.commitEnd_unit (s : State) :
    s.commitEnd.epc = { s.epc with
        c := bit s.epc.num 0, st := .draining, owner := none, token := 0, commitBy := none, committed := true } ∧
      s.commitEnd.tbl = s.tbl := by
  unfold State.commitEnd
  dsimp only
  rw [State.cuTidy_epc, State.cuTidy_tbl]
  split
  · rw [State.complete_epc, State.complete_tbl]
    exact State.startDone_unit _
  · exact State.startDone_unit _

/-- Settles O25: a COMMIT that passes sends the flip group by group, and the flip's end starts the drain. -/
theorem commitFlips : Obligations.CommitFlips := by
  refine ⟨fun s c hon hc hop hf hfan hcheck hserved => ?commit, fun s pipe hpg hflip => ?pipe,
    fun s hon hst hdone => ?complete, fun s hon hst hdone htime => ?timeout⟩
  case commit =>
    have hb : Becomes .commit s (s.cuPop.commitRun c).cuTidy :=
      becomes_stagingCmd rfl (by rw [State.cuReady hon hc hop, hfan]; rfl) hc hf
    have hsame {β : Type} (g : State → β) (hq : ∀ (s : State) l, g { s with cu := { s.cu with q := l } } = g s) :
        g s.cuPop = g s := s.cuPop_same g hq
    rw [State.commitRun_passes ((hsame (·.stageCheck c) fun _ _ => rfl).trans hcheck)
      ((hsame (fun s => s.schemaServed (s.schemaOf s.epc.s)) fun _ _ => rfl).trans hserved)] at hb
    refine hb.completes ?_
    rw [State.intSweep_epc, State.intSweep_tbl, State.cuTidy_epc, State.cuTidy_tbl, State.sendFlip_epc,
      State.sendFlip_tbl, State.grp_intSweep, ← hsame (·.epc) fun _ _ => rfl, ← hsame (·.tbl) fun _ _ => rfl,
      ← hsame (·.now) fun _ _ => rfl]
    refine ⟨rfl, rfl, rfl, rfl, rfl, rfl, fun n hn ha => ?_⟩
    have hn' : n < s.cuPop.nGroups := by rwa [hsame (·.nGroups) fun _ _ => rfl]
    have ha' : s.cuPop.isActive (domPg n) = true := by rwa [hsame (·.isActive (domPg n)) fun _ _ => rfl]
    rw [State.grp, State.groups_of_beyondCpl (State.cuTidy_beyondCpl _), ← State.grp, State.sendFlip_eq,
      State.flip_foldl]
    exact if_pos ⟨List.mem_range.2 hn', ha'⟩
  case pipe => exact becomes_of_act (f := fun s => s.takeFlip pipe) rfl (by rw [hpg, hflip]; rfl)
  case complete =>
    have hb : Becomes .commitComplete s s.commitEnd :=
      becomes_of_act (f := State.commitEnd) rfl (by simp [hon, hst, hdone])
    exact hb.completes (by simpa using s.commitEnd_unit)
  case timeout =>
    exact becomes_of_act (f := fun s => (List.range s.nGroups).foldl State.lateGroup s) rfl
      (by simp [hon, hst, hdone, htime])

/-! ### The samples of the old parity (R361) -/

/-- R361: the discarding of some samples leaves all that is no cluster's, no thread's and no register word. -/
theorem State.dropSome_same {β : Type} (g : State → β) (hclu : ∀ s c x, g (State.setClu s c x) = g s)
    (hbump : ∀ s n k j m, g (State.bump s n k j m) = g s) (hthr : ∀ s k x, g (State.setThr s k x) = g s) (s : State)
    (c : Nat) (p : Sample → Bool) : g (s.dropSamples c p) = g s := by
  unfold State.dropSamples
  dsimp only
  rw [State.endReruns_same g hthr]
  exact ite_same g _ _ _ s (hclu ..) ((hbump ..).trans (hclu ..))

/-- R361: of the clusters, the one some of whose samples are discarded keeps the others. -/
theorem State.samples_dropSome (s : State) (c d : Nat) (p : Sample → Bool) :
    ((s.dropSamples d p).clu c).samples =
      if c = d then (s.clu c).samples.filter fun e => ! p e.2 else (s.clu c).samples := by
  have hclu (u : State) (n : Nat) (gone : Nat → Bool) (b : Bool) :
      ((if b = true then u else u.bump .necSentSkipped d 0 n).endReruns d gone).clu c = u.clu c := by
    rw [State.endReruns_same (·.clu c) fun _ _ _ => rfl]
    exact ite_same (·.clu c) _ _ _ u rfl rfl
  unfold State.dropSamples
  dsimp only
  rw [hclu, State.clu_setClu]
  split
  next hcd => rw [hcd]
  · rfl

/-- R361: the clusters of a list have lost some samples. -/
theorem State.samples_foldl (p : Sample → Bool) (c : Nat) (l : List Nat) : ∀ s : State,
    ((l.foldl (fun st d => st.dropSamples d p) s).clu c).samples =
      if c ∈ l then (s.clu c).samples.filter (fun e => ! p e.2) else (s.clu c).samples := by
  induction l with
  | nil => simp
  | cons d l ih =>
    intro s
    rw [List.foldl_cons, ih, State.samples_dropSome]
    by_cases hl : c ∈ l <;> by_cases hd : c = d <;> simp [hl, hd]

theorem State.dropOldSamples_epc (s : State) : s.dropOldSamples.epc = s.epc :=
  foldl_same (·.epc) _ (fun s c => s.dropSome_same (·.epc) (by simp) (by simp) (by simp) c _) ..

/-- R361: no sample of the old parity is left. -/
theorem State.epoch_dropOldSamples {s : State} {c : Nat} (hc : c < s.nClusters) {e : Nat × Sample}
    (he : e ∈ (s.dropOldSamples.clu c).samples) : e.2.stamp.epoch = s.epc.c := by
  unfold State.dropOldSamples at he
  rw [State.samples_foldl, if_pos (List.mem_range.2 hc)] at he
  simpa using (List.mem_filter.1 he).2

/-! ### The phases of a settle and of an abort (R183, R184, R189) -/

/-- R184: while a touched table is left, the sweep goes on. -/
theorem State.sweepEnd_more {s : State} (w : Sweep) (h : s.epc.sweepTabs ≠ []) : s.sweepEnd w = s := by
  simp [State.sweepEnd, h]

section
variable {s : State} {w : Sweep} {n i : Nat} {l : List Nat} (hl : s.epc.sweepTabs = i :: l)
include hl

/-- R184: a sweep that leaves its table unfinished comes to a later place of it. -/
theorem State.sweepRun_within (hr : (s.sweepTable w i s.epc.sweepPos n).2.1 = false)
    (hu : (s.sweepTable w i s.epc.sweepPos n).2.2.epc.sweepTabs = i :: l) :
    s.sweepRun w n = (let r := s.sweepTable w i s.epc.sweepPos n
      { r.2.2 with epc := { r.2.2.epc with
        restored := r.2.2.epc.restored + r.1, sweepPos := min (sweepSize i) (s.epc.sweepPos + n) } }) := by
  simp only [State.sweepRun, hl, hr, Bool.false_eq_true, if_false]
  exact State.sweepEnd_more w (by simp [hu])

/-- R184, R189: a sweep that finishes a table goes on to the next one, or ends. -/
theorem State.sweepRun_finishes (hr : (s.sweepTable w i s.epc.sweepPos n).2.1 = true) :
    s.sweepRun w n = (let r := s.sweepTable w i s.epc.sweepPos n
      ({ r.2.2 with epc := { r.2.2.epc with
        restored := r.2.2.epc.restored + r.1, sweepTabs := l, sweepPos := 0 } } : State).sweepEnd w) := by
  simp only [State.sweepRun, hl, hr, if_true]

end

/-- R183: the state at the end of a settle, but for the completions. -/
def State.settleEnded (s : State) : State :=
  { s with
    epc := { s.epc with s := ! s.epc.c, st := .idle, touched := [], sweepPos := 0 },
    cu := { s.cu with settleWait := [] } }

theorem State.settleDone_beyondCpl (s : State) : s.settleDone.beyondCpl = s.settleEnded.beyondCpl :=
  (State.cuTidy_beyondCpl _).trans (State.completeAll_beyondCpl _ (fun st => { r0 := st.epc.num }) _)

/-- R189: the root and the seed of S are those of C again. -/
def Epoch.restoredRoots (e : Epoch) : Epoch :=
  if e.s then { e with rootA := e.rootC, seedA := e.seedC } else { e with rootC := e.rootA, seedC := e.seedA }

/-- R189: the state at the end of an abort, but for the completions. -/
def State.abandoned (s : State) : State :=
  { s with
    epc := { s.epc.restoredRoots with
      st := .idle, owner := none, token := 0, abortBy := none,
      forced := false, touched := [], sweepPos := 0, restored := 0 },
    cu := { s.cu with settleWait := [] } }

theorem State.abortEnd_beyondCpl (s : State) : s.abortEnd.beyondCpl = s.abandoned.beyondCpl := by
  refine (State.cuTidy_beyondCpl _).trans ((State.completeAll_beyondCpl _ (fun st => { r0 := st.epc.num }) _).trans ?_)
  dsimp only
  split
  · exact State.complete_beyondCpl ..
  · rfl

/-- R183: the settle moves to its sweep while there is a table to sweep. -/
theorem State.toSweep_sweeps {s : State} (h : sweepOrder s.epc.touched ≠ []) :
    s.toSweep = { s.dropOldSamples with epc := { s.dropOldSamples.epc with
      st := .sweeping, sweepTabs := sweepOrder s.dropOldSamples.epc.touched, sweepPos := 0 } } :=
  State.sweepEnd_more .settle (by rw [s.dropOldSamples_epc]; exact h)

/-- R183: the settle goes on to its sweep once no frame of the old parity is held. -/
def State.sweepIfGone (s : State) : State := if s.oldGone then s.toSweep else s

/-- R183: the settle ends where no table was touched. -/
theorem State.toSweep_ends {s : State} (h : sweepOrder s.epc.touched = []) :
    s.toSweep.epc.st = .idle ∧ s.toSweep.epc.s = ! s.epc.c ∧ s.toSweep.epc.c = s.epc.c := by
  unfold State.toSweep State.sweepEnd
  dsimp only
  rw [s.dropOldSamples_epc, h, List.isEmpty_nil, if_pos rfl, if_pos rfl,
    State.epc_of_beyondCpl (State.settleDone_beyondCpl _)]
  exact ⟨rfl, rfl, rfl⟩

/-! ### The sweep's visit of a station entry (R184, R189) -/

section
variable {s : State} {k : Nat}

theorem State.sweepSta_always (w : Sweep) (h : lifeOf (wAt (s.sta k) 1) = 0) : s.sweepSta w k = (false, s) := by
  simp only [State.sweepSta, h]

theorem State.sta_sweep_kept (h : lifeOf (wAt (s.sta k) 1) = 1) :
    (s.sweepSta .settle k).2.sta k = setAt (staWithLife (s.sta k) 0) 3 (wAt (s.sta k) 3 &&& ~~~ flag 28 true) := by
  simp [State.sweepSta, h]

theorem State.sta_sweep_restored (h : lifeOf (wAt (s.sta k) 1) = 2) :
    (s.sweepSta .abort k).2.sta k = staWithLife (s.sta k) 0 := by
  simp [State.sweepSta, h]

/-- R184, R189: an abort removes what would have come, a settle what was to go. -/
theorem State.sta_sweep_gone {w : Sweep} (h : lifeOf (wAt (s.sta k) 1) = 1 ∧ w = .abort ∨
    lifeOf (wAt (s.sta k) 1) = 2 ∧ w = .settle) : (s.sweepSta w k).2.sta k = [] := by
  rcases h with ⟨h, rfl⟩ | ⟨h, rfl⟩ <;> simp [State.sweepSta, h]

theorem State.sta_sweep_other (s : State) (w : Sweep) {j k : Nat} (hj : j ≠ k) :
    (s.sweepSta w k).2.sta j = s.sta j := by
  unfold State.sweepSta
  dsimp only
  split <;> simp [hj]

end

/-- Settles O26: the phases by their equations, and the sweep's visit of a station entry by its life. -/
theorem settlePhases : Obligations.SettlePhases := by
  refine ⟨fun s hon hst hgone hl => ⟨?drained, fun c hc e he => State.epoch_dropOldSamples hc he⟩,
    fun s hon hst hgone hl => ?untouched, fun s hon hst hgone htime => ?timeout, fun s n hon hst => ?flush,
    fun s n i l hon hst hl => ?sweep, fun s => ⟨?settled, ?aborted⟩, fun s w k => ?station⟩
  case drained =>
    rw [← State.toSweep_sweeps hl]
    exact becomes_of_act (f := State.toSweep) rfl (by simp [hon, hst, hgone])
  case untouched =>
    have hb : Becomes .drainComplete s s.toSweep :=
      becomes_of_act (f := State.toSweep) rfl (by simp [hon, hst, hgone])
    exact hb.completes (by simpa using State.toSweep_ends hl)
  case timeout =>
    have hlate : ({ s with epc := { s.epc with st := .flushing } } : State).oldGone = false := hgone
    have hb : Becomes .drainTimeout s ({ s with epc := { s.epc with st := .flushing } } : State).sweepIfGone :=
      becomes_of_act (f := fun s => ({ s with epc := { s.epc with st := .flushing } } : State).sweepIfGone) rfl
        (by simp [hon, hst, htime])
    rwa [State.sweepIfGone, if_neg (Bool.eq_false_iff.1 hlate)] at hb
  case flush =>
    have hb : Becomes (.epochFlush n) s (s.flushStale n).sweepIfGone :=
      becomes_of_act (f := fun s => (s.flushStale n).sweepIfGone) rfl (by simp [hon, hst])
    exact ⟨fun h => by rwa [State.sweepIfGone, if_neg (Bool.eq_false_iff.1 h)] at hb,
      fun h => by rwa [State.sweepIfGone, if_pos h] at hb⟩
  case sweep =>
    have hb : Becomes (.settleSweep n) s (s.sweepRun .settle n) :=
      becomes_of_act (f := fun s => s.sweepRun .settle n) rfl (by simp [hon, hst])
    refine ⟨fun hr hu => ?_, fun hr hnil => ?_⟩
    · rwa [State.sweepRun_within hl hr hu] at hb
    · subst hnil
      rwa [State.sweepRun_finishes hl hr] at hb
  case settled =>
    have h := s.settleDone_beyondCpl
    rw [State.epc_of_beyondCpl h, State.tbl_of_beyondCpl h, State.settleWait_of_beyondCpl h]
    exact ⟨rfl, rfl, rfl, rfl, rfl, rfl⟩
  case aborted =>
    have h := s.abortEnd_beyondCpl
    rw [State.epc_of_beyondCpl h, State.tbl_of_beyondCpl h]
    cases hs : s.epc.s <;> simp [State.abandoned, Epoch.restoredRoots, hs]
  case station =>
    exact ⟨fun h => State.sweepSta_always w h, fun h hw => hw ▸ State.sta_sweep_kept h,
      fun h hw => State.sta_sweep_gone (.inr ⟨h, hw⟩), fun h hw => State.sta_sweep_gone (.inl ⟨h, hw⟩),
      fun h hw => hw ▸ State.sta_sweep_restored h, fun j hj => State.sta_sweep_other s w hj⟩

/-! ### Abort and wait (R173, R183, R189) -/

theorem State.abortRun_passes {s : State} {c : TCmd} (h : s.stageCheck c = none) :
    s.abortRun c = s.startAbort (some c) false := by
  simp only [State.abortRun, h]

theorem State.startAbort_epc (s : State) (b : Option TCmd) (forced : Bool) :
    (s.startAbort b forced).epc = { s.epc with
      st := .aborting, abortBy := b, forced := forced, commitBy := none, sweepTabs := sweepOrder s.epc.touched,
      sweepPos := 0, restored := 0 } := rfl

theorem State.startAbort_tbl (s : State) (b : Option TCmd) (forced : Bool) : (s.startAbort b forced).tbl = s.tbl := rfl

/-- R173: a write of EPC_CFG with FORCE_ABORT 1 aborts an open staging. -/
theorem State.writeEpcCfg_forces {s : State} {v : Word} (hv : bit v 31 = true) (hst : s.epc.st = .staging) :
    s.writeEpcCfg v = (s.setRg .epcCfg 0 0 (v &&& 0xFFFF)).startAbort none true := by
  have hst' : (s.setRg .epcCfg 0 0 (v &&& 0xFFFF)).epc.st = .staging := hst
  simp only [State.writeEpcCfg, hv, hst', decide_true, Bool.and_self, if_true]

/-- R175, R190: a command that passes its checks passes those of its own words, and of staging where it is staged. -/
theorem formCheck_of_cmdCheck {s : State} {c : TCmd} (h : s.cmdCheck c = none) :
    formCheck c = none ∧ s.ownCheck c = none := by
  unfold State.cmdCheck at h
  split at h
  · cases h
  next hf => exact ⟨hf, h⟩

theorem State.settleWait_now {s : State} {c : TCmd} (h : s.ownCheck c = none)
    (hst : s.epc.st = .idle ∨ s.epc.st = .staging) : s.settleWait c = s.complete c { r0 := s.epc.num } := by
  rcases hst with hst | hst <;> simp only [State.settleWait, h, hst]

theorem State.settleWait_waits {s : State} {c : TCmd} (h : s.ownCheck c = none) (hi : s.epc.st ≠ .idle)
    (hs : s.epc.st ≠ .staging) :
    s.settleWait c = { s with cu := { s.cu with settleWait := s.cu.settleWait ++ [c] } } := by
  unfold State.settleWait
  rw [h]
  split <;> simp_all

/-- Settles O27: the two ways to start an abort, the end of its last table's sweep, and SETTLE_WAIT by the state that it
finds. -/
theorem abortAndWait : Obligations.AbortAndWait := by
  refine ⟨fun s c hon hc hop hf hcheck => ?abort, fun s r v ho hv hst => ?force, fun s n i hon hst hl => ?sweep,
    fun s c hon hc hop hcheck => ?wait⟩
  case abort =>
    have hb : Becomes .abortStage s (s.cuPop.abortRun c).cuTidy :=
      becomes_stagingCmd rfl (State.cuReady hon hc hop) hc hf
    rw [State.abortRun_passes ((s.cuPop_same (·.stageCheck c) fun _ _ => rfl).trans hcheck)] at hb
    refine hb.completes ?_
    rw [State.intSweep_epc, State.intSweep_tbl, State.cuTidy_epc, State.cuTidy_tbl, State.startAbort_epc,
      State.startAbort_tbl, State.cuPop_epc, State.cuPop_tbl]
    exact ⟨rfl, rfl⟩
  case force =>
    have hb : Becomes (.forceAbort r v) s (s.writeEpcCfg v) :=
      becomes_of_access (f := fun s => s.writeEpcCfg v) rfl ho
    rw [State.writeEpcCfg_forces hv hst] at hb
    refine hb.completes ?_
    rw [State.intSweep_epc, State.intSweep_tbl, State.rg_intSweep]
    exact ⟨rfl, s.rg_setRg .epcCfg 0 0 0 _, rfl⟩
  case sweep =>
    intro r u hr
    have hb : Becomes (.abortSweep n) s (s.sweepRun .abort n) :=
      becomes_of_act (f := fun s => s.sweepRun .abort n) rfl (by simp [hon, hst])
    rwa [State.sweepRun_finishes hl hr] at hb
  case wait =>
    obtain ⟨hf, hown⟩ := formCheck_of_cmdCheck hcheck
    have hb : Becomes .settleWait s (s.cuPop.settleWait c).cuTidy :=
      becomes_stagingCmd rfl (State.cuReady hon hc hop) hc hf
    refine ⟨fun hst => ?_, fun hi hs => hb.completes ?_⟩
    · rwa [State.settleWait_now hown (by rwa [State.cuPop_epc]), State.cuPop_epc] at hb
    · rw [State.settleWait_waits hown (by rwa [State.cuPop_epc]) (by rwa [State.cuPop_epc]), State.intSweep_cu,
        State.intSweep_epc, State.settleWait_of_beyondCpl (State.cuTidy_beyondCpl _), State.cuTidy_epc]
      exact ⟨congrArg (· ++ [c]) (s.cuPop_same (·.cu.settleWait) fun _ _ => rfl), s.cuPop_epc⟩

end Sys2Proof.Machine
end

section
/-! PROOFS of the family 06_epochs_and_commands: what the loss of a host leaves. -/

namespace Sys2Proof.Machine

open Sys2Proof

/-! ### Reads of DRAM that are dropped (R288, R311, R330) -/

/-- R332: what a channel's kept reads leave of all that is no DRAM channel. -/
theorem State.keepReads_same {β : Type} (g : State → β) (hdch : ∀ s c x, g (State.setDch s c x) = g s) (s : State)
    (c : Nat) (keep : DReq → Bool) : g (s.keepReads c keep) = g s := hdch ..

theorem State.queues_keepReads (s : State) (c d : Nat) (keep : DReq → Bool) :
    ((s.keepReads d keep).dch c).rq = (if c = d then (s.dch c).rq.filter keep else (s.dch c).rq) ∧
      ((s.keepReads d keep).dch c).wq = (s.dch c).wq := by
  unfold State.keepReads
  dsimp only
  rw [State.dch_setDch]
  rcases eq_or_ne c d with rfl | hcd
  · rw [if_pos rfl, if_pos rfl]; exact ⟨rfl, rfl⟩
  · rw [if_neg hcd, if_neg hcd]; exact ⟨rfl, rfl⟩

/-- R332: each channel of a list keeps some of its reads, and all of its writes. -/
theorem State.queues_foldl_keepReads (keep : DReq → Bool) (c : Nat) (l : List Nat) : ∀ s : State,
    ((l.foldl (fun st d => st.keepReads d keep) s).dch c).rq =
        (if c ∈ l then (s.dch c).rq.filter keep else (s.dch c).rq) ∧
      ((l.foldl (fun st d => st.keepReads d keep) s).dch c).wq = (s.dch c).wq := by
  induction l with
  | nil => simp
  | cons d l ih =>
    intro s
    obtain ⟨hrq, hwq⟩ := s.queues_keepReads c d keep
    rw [List.foldl_cons, (ih _).1, (ih _).2, hrq, hwq]
    by_cases hl : c ∈ l <;> by_cases hd : c = d <;> simp [hl, hd]

/-! ### The steps of a host's loss (R288, R289, R311) -/

/-- R288, R289: the function of a lost host: at reset but for its cause, its losses and what is not its own. -/
def HostFn.lost (f : HostFn) (cause : Nat) (linkOff : Bool) : HostFn :=
  { linkUp := if linkOff then false else f.linkUp, width := if linkOff then 0 else f.width,
    speed := if linkOff then 0 else f.speed, loss := cause, losses := sat 8 (f.losses + 1),
    perst := f.perst || cause = 4, subsys := if cause = 4 then none else f.subsys }

/-- R225, R285, R288: a lost host's function is at reset, the flush of its queues begins, and its INTA is taken back. -/
def State.hostQuieted (s : State) (h cause : Nat) (linkOff : Bool) : State :=
  let u := (s.setHst h ((s.hst h).lost cause linkOff)).markFlush fun q => 2560 ≤ q && (q - 2560) / 16 == h
  if (s.hst h).intx && ! linkOff then u.emit (.intx h false) else u

/-- R289: a host's words, rings and channels are at reset. -/
def State.hostCleared (u : State) (h : Nat) : State :=
  { u with
    held := tdrop (u.hostWord h) u.held,
    priv := tdrop (fun k => k / 2 ^ 40 == h && isStaging (k % 2 ^ 40)) u.priv,
    latch := tdrop (fun k => k == h || k == 3 + h) u.latch,
    rings := tdrop (fun k => k / 52 == h) u.rings,
    dma := tdrop (fun n => u.chanOwner n == h) u.dma }

/-- R288, R311: the reads of DRAM for a host are dropped. -/
def State.hostReadsDropped (s : State) (h : Nat) : State :=
  (List.range 4).foldl (fun st c => st.keepReads c fun r => ! s.readFor h r.who) s

/-- R189: a host's open staging is aborted. -/
def State.abortOwn (s : State) (h : Nat) : State :=
  if s.epc.owner = some (hostReq h) && s.epc.st = .staging then s.startAbort none false else s

theorem State.hostQuieted_same {β : Type} (g : State → β) (hemit : ∀ s o, g (State.emit s o) = g s)
    (hbuf : ∀ (s : State) b, g { s with buf := b } = g s) (s : State) (h cause : Nat) (linkOff : Bool) :
    g (s.hostQuieted h cause linkOff) = g (s.setHst h ((s.hst h).lost cause linkOff)) :=
  ite_same g _ _ _ _ ((hemit ..).trans (hbuf ..)) (hbuf ..)

/-- R306: a host without a picked frame has none to flush. -/
theorem State.dropHostPicks_none {s : State} {h : Nat} (hp : s.hostPicked h = []) :
    s.dropHostPicks h = { s with sched := { s.sched with hostPick := tset (fun _ => []) s.sched.hostPick h [] } } := by
  unfold State.dropHostPicks
  rw [show tget (fun _ => []) s.sched.hostPick h = [] from hp]
  rfl

theorem State.abortOwn_same {β : Type} (g : State → β) (hg : ∀ s b f, g (State.startAbort s b f) = g s) (s : State)
    (h : Nat) : g (s.abortOwn h) = g s := ite_same g _ _ _ s (hg ..) rfl

theorem State.abortOwn_owner {s : State} {h : Nat} (ho : s.epc.owner = some (hostReq h)) (hst : s.epc.st = .staging) :
    (s.abortOwn h).epc.st = .aborting := by
  simp only [State.abortOwn, ho, hst, decide_true, Bool.and_self, if_true]
  rfl

theorem State.abortOwn_other {s : State} {h : Nat} (ho : s.epc.owner ≠ some (hostReq h)) : s.abortOwn h = s := by
  simp [State.abortOwn, ho]

/-- R289, R306, R311: a host's state is cleared, its commands are forgotten and its picked frames flushed. -/
def State.hostEmptied (s : State) (h cause : Nat) (linkOff : Bool) : State :=
  (((s.hostQuieted h cause linkOff).hostCleared h).cuForget h).dropHostPicks h

theorem State.hostLoss_eq (s : State) (h cause : Nat) (linkOff : Bool) :
    s.hostLoss h cause linkOff = ((s.hostEmptied h cause linkOff).hostReadsDropped h).abortOwn h := rfl

section
variable {s : State} {h : Nat} (hp : s.hostPicked h = []) (cause : Nat) (linkOff : Bool)
include hp

theorem State.hostEmptied_same {β : Type} (g : State → β) (hforget : ∀ s h, g (State.cuForget s h) = g s)
    (hsched : ∀ (s : State) x, g { s with sched := x } = g s) :
    g (s.hostEmptied h cause linkOff) = g ((s.hostQuieted h cause linkOff).hostCleared h) := by
  have hnone : (((s.hostQuieted h cause linkOff).hostCleared h).cuForget h).hostPicked h = [] :=
    (State.hostQuieted_same (·.hostPicked h) (fun _ _ => rfl) (fun _ _ => rfl) ..).trans hp
  rw [State.hostEmptied, State.dropHostPicks_none hnone, hsched, hforget]

/-- R288, R289: what of a host is at reset, and what the other host keeps. -/
theorem State.hostEmptied_parts :
    (s.hostEmptied h cause linkOff).hosts = (s.setHst h ((s.hst h).lost cause linkOff)).hosts ∧
      (s.hostEmptied h cause linkOff).rings = tdrop (fun k => k / 52 == h) s.rings ∧
      (s.hostEmptied h cause linkOff).dma = tdrop (fun n => s.chanOwner n == h) s.dma := by
  have hq {β : Type} (g : State → β) (hemit : ∀ s o, g (State.emit s o) = g s)
      (hbuf : ∀ (s : State) b, g { s with buf := b } = g s) := s.hostQuieted_same g hemit hbuf h cause linkOff
  rw [State.hostEmptied_same hp cause linkOff (·.hosts) (fun _ _ => rfl) fun _ _ => rfl,
    State.hostEmptied_same hp cause linkOff (·.rings) (fun _ _ => rfl) fun _ _ => rfl,
    State.hostEmptied_same hp cause linkOff (·.dma) (fun _ _ => rfl) fun _ _ => rfl]
  refine ⟨hq (·.hosts) (fun _ _ => rfl) fun _ _ => rfl, ?_, ?_⟩
  · exact congrArg (tdrop fun k => k / 52 == h) (hq (·.rings) (fun _ _ => rfl) fun _ _ => rfl)
  · exact hq (fun u => tdrop (fun n => u.chanOwner n == h) u.dma) (fun _ _ => rfl) fun _ _ => rfl

/-- R288, R289: DRAM, the pins of the package and the phase of the epoch unit are not the host's. -/
theorem State.hostEmptied_rest :
    (s.hostEmptied h cause linkOff).dram = s.dram ∧ (s.hostEmptied h cause linkOff).readFor = s.readFor ∧
      (s.hostEmptied h cause linkOff).epc.st = s.epc.st ∧ (s.hostEmptied h cause linkOff).epc.owner = s.epc.owner ∧
      (s.hostEmptied h cause linkOff).epc.num = s.epc.num := by
  have hrest {β : Type} (g : State → β) (hforget : ∀ s h, g (State.cuForget s h) = g s)
      (hsched : ∀ (s : State) x, g { s with sched := x } = g s) (hclear : ∀ s h, g (State.hostCleared s h) = g s)
      (hemit : ∀ s o, g (State.emit s o) = g s) (hbuf : ∀ (s : State) b, g { s with buf := b } = g s)
      (hset : ∀ s h x, g (State.setHst s h x) = g s) : g (s.hostEmptied h cause linkOff) = g s := by
    rw [State.hostEmptied_same hp cause linkOff g hforget hsched, hclear, State.hostQuieted_same g hemit hbuf, hset]
  refine ⟨hrest (·.dram) ?_ ?_ ?_ ?_ ?_ ?_, hrest (·.readFor) ?_ ?_ ?_ ?_ ?_ ?_, hrest (·.epc.st) ?_ ?_ ?_ ?_ ?_ ?_,
    hrest (·.epc.owner) ?_ ?_ ?_ ?_ ?_ ?_, hrest (·.epc.num) ?_ ?_ ?_ ?_ ?_ ?_⟩
  all_goals intros; rfl

end

/-- R288, R289: of what is neither DRAM's nor the epoch unit's, the end of a loss leaves all. -/
theorem State.hostLoss_same {β : Type} (g : State → β) (hdch : ∀ s c x, g (State.setDch s c x) = g s)
    (habort : ∀ s b f, g (State.startAbort s b f) = g s) (s : State) (h cause : Nat) (linkOff : Bool) :
    g (s.hostLoss h cause linkOff) = g (s.hostEmptied h cause linkOff) := by
  rw [State.hostLoss_eq, State.abortOwn_same g habort]
  exact foldl_same g _ (fun s c => s.keepReads_same g hdch c _) ..

/-- R288, R311: the DRAM channels keep their writes, and the reads for others. -/
theorem State.hostLoss_queues {s : State} {h : Nat} (hp : s.hostPicked h = []) (cause : Nat) (linkOff : Bool) {c : Nat}
    (hc : c < 4) :
    ((s.hostLoss h cause linkOff).dch c).rq = (s.dch c).rq.filter (fun r => ! s.readFor h r.who) ∧
      ((s.hostLoss h cause linkOff).dch c).wq = (s.dch c).wq := by
  obtain ⟨hdram, hreads, -⟩ := State.hostEmptied_rest hp cause linkOff
  have hdch : (s.hostEmptied h cause linkOff).dch c = s.dch c := by rw [State.dch, hdram, ← State.dch]
  rw [State.hostLoss_eq, State.abortOwn_same (·.dch c) (fun _ _ _ => rfl), ← hreads, ← hdch]
  have hqueues := State.queues_foldl_keepReads (fun r => ! (s.hostEmptied h cause linkOff).readFor h r.who) c
    (List.range 4) (s.hostEmptied h cause linkOff)
  rwa [if_pos (List.mem_range.2 hc)] at hqueues

/-- Settles O46: what each step of the loss leaves, and what a read of the cleared tables answers. -/
theorem hostLoss : Obligations.HostLoss := by
  intro s h cause off hp t
  obtain ⟨hhosts, hrings, hdma⟩ := State.hostEmptied_parts hp cause off
  obtain ⟨hdram, hreads, hst, howner, hnum⟩ := State.hostEmptied_rest hp cause off
  have hsame {β : Type} (g : State → β) (hdch : ∀ s c x, g (State.setDch s c x) = g s)
      (habort : ∀ s b f, g (State.startAbort s b f) = g s) : g t = g (s.hostEmptied h cause off) :=
    State.hostLoss_same g hdch habort ..
  have hhst (k : Nat) : t.hst k = if k = h then (s.hst h).lost cause off else s.hst k := by
    rw [State.hst, (hsame (·.hosts) (fun _ _ _ => rfl) fun _ _ _ => rfl).trans hhosts, ← State.hst, State.hst_setHst]
  have hring (k i : Nat) : t.ring k i = if (52 * k + i) / 52 = h then {} else s.ring k i := by
    rw [State.ring, (hsame (·.rings) (fun _ _ _ => rfl) fun _ _ _ => rfl).trans hrings, tget_tdrop]
    simp [State.ring]
  have hchan (n : Nat) : t.chan n = if s.chanOwner n = h then {} else s.chan n := by
    rw [State.chan, (hsame (·.dma) (fun _ _ _ => rfl) fun _ _ _ => rfl).trans hdma, tget_tdrop]
    simp [State.chan]
  have hepc {β : Type} (g : Epoch → β) :
      g ((s.hostEmptied h cause off).hostReadsDropped h).epc = g (s.hostEmptied h cause off).epc :=
    foldl_same (fun s => g s.epc) _ (fun s c => s.keepReads_same (fun s => g s.epc) (fun _ _ _ => rfl) c _) ..
  have hother : 1 - (h : Nat) ≠ h := by omega
  have hat (k : Nat) {i : Nat} (hi : i < 52) : (52 * k + i) / 52 = k := by omega
  refine ⟨(hhst h).trans ?function, (hhst _).trans (if_neg hother),
    fun i hi => (hring ..).trans (if_pos (hat h hi)), fun i hi => (hring ..).trans (if_neg ?other),
    fun n hn => (hchan n).trans (if_pos hn), fun n hn => (hchan n).trans (if_neg hn), fun c hc => ?reads, ?memory,
    fun ho hs => ?aborted, fun ho => ?stands⟩
  case function =>
    rw [if_pos rfl, HostFn.lost]
    cases off <;> rfl
  case other => rwa [hat _ hi]
  case reads => exact State.hostLoss_queues hp cause off hc
  case memory => exact (hsame (·.dram.mem) (fun _ _ _ => rfl) fun _ _ _ => rfl).trans (congrArg (·.mem) hdram)
  case aborted =>
    exact State.abortOwn_owner ((hepc (·.owner)).trans (howner.trans ho)) ((hepc (·.st)).trans (hst.trans hs))
  case stands =>
    have hown : t.epc = ((s.hostEmptied h cause off).hostReadsDropped h).epc :=
      congrArg (·.epc) (State.abortOwn_other fun ho' => ho (howner.symm.trans ((hepc (·.owner)).symm.trans ho')))
    rw [hown]
    exact ⟨(hepc (·.st)).trans hst, (hepc (·.owner)).trans howner, (hepc (·.num)).trans hnum⟩

end Sys2Proof.Machine
end

section
/-! PROOFS of the family 07_buffer_and_replication: the queues of the hosts, and the age checkers. -/

namespace Sys2Proof.Machine

open Sys2Proof

/-! ### The pick of a host's scheduler (R206, R236, R304) -/

/-- R206: the head of a queue leaves it, and its cells are no longer the queue's. -/
theorem State.popQueue_head {s : State} {q d : Nat} {l : List Nat} (hq : s.queue q = d :: l) :
    s.popQueue q = (s.setQueue q l).moveUsed q (· - poolCells (s.desc d).pool) := by
  simp only [State.popQueue, hq]

/-- R260: what happens at a queue is counted in the event counters alone. -/
theorem State.pmcQueue_wide (s : State) (q ev n : Nat) : ∃ w, s.pmcQueue q ev n = { s with wide := w } := by
  unfold State.pmcQueue State.pmc
  split
  · exact ⟨_, rfl⟩
  · exact ⟨s.wide, rfl⟩

/-- R304: host `h` has taken host queue `j`, whose head `d` is the last of its picked frames. -/
def State.hostTakes (s : State) (h j d : Nat) : State :=
  { s with
    sched := { s.sched with
      hostRr := tset (fun _ => 15) s.sched.hostRr h j
      hostPick := tset (fun _ => []) s.sched.hostPick h
        (s.hostPicked h ++ [{ desc := d, queue := 2560 + 16 * h + j, at_ := s.now }]) } }

theorem State.hostTakes_hostPicked (s : State) (h j d : Nat) :
    (s.hostTakes h j d).hostPicked h =
      s.hostPicked h ++ [{ desc := d, queue := 2560 + 16 * h + j, at_ := s.now }] :=
  (tget_tset ..).trans (if_pos rfl)

@[simp] theorem State.hostTakes_buf (s : State) (h j d : Nat) : (s.hostTakes h j d).buf = s.buf := rfl

/-- R236, R304: a host's pick takes the head of the next ready queue out of that queue, counts it, and adds it to the
picked frames. -/
theorem State.hostPickRun_head {s : State} {h j d : Nat} {l : List Nat} (hj : s.hostNext h = some j)
    (hq : s.queue (2560 + 16 * h + j) = d :: l) :
    ∃ w, s.hostPickRun h = ({ s.popQueue (2560 + 16 * h + j) with wide := w } : State).hostTakes h j d := by
  obtain ⟨w₁, h₁⟩ := (s.popQueue (2560 + 16 * h + j)).pmcQueue_wide (2560 + 16 * h + j) 1 1
  obtain ⟨w₂, h₂⟩ := ({ s.popQueue (2560 + 16 * h + j) with wide := w₁ } : State).pmcQueue_wide
    (2560 + 16 * h + j) 2 (s.headBytes (2560 + 16 * h + j))
  refine ⟨w₂, ?_⟩
  simp only [State.hostPickRun, hj, hq, h₁, h₂]
  rfl

theorem becomes_hostQueuePick {s : State} {h : Fin 2} (hon : s.hostOn h = true) (hok : s.hostOk h = true)
    (hclk : s.clkOk 144 = true) : Becomes (.hostQueuePick h) s (s.hostPickRun h) :=
  becomes_of_act (f := fun s => s.hostPickRun h) rfl (by simp [hon, hok, hclk])

@[simp] theorem State.hostPicked_intSweep (s : State) : s.intSweep.hostPicked = s.hostPicked := by
  funext h; simp [State.hostPicked]

/-! ### The writing of a punt (R257, R305, R306) -/

/-- R242, R306: the oldest picked frame of a host, once it is stored whole, is written into punt buffers. -/
theorem becomes_puntWrite {s : State} {h : Fin 2} {p : Picked} {l : List Picked} (hon : s.hostOn h = true)
    (hok : s.hostOk h = true) (hclk : s.clkOk 144 = true) (hp : s.hostPicked h = p :: l)
    (hw : (s.bufr (s.desc p.desc).buf).written = true) : Becomes (.puntWrite h) s (s.puntRun h) :=
  becomes_of_act (f := fun s => s.puntRun h) rfl (by simp [hon, hok, hclk, State.puntDue, hp, hw])

/-- The picked frames of a host, written. -/
def State.setHostPicked (s : State) (h : Nat) (l : List Picked) : State :=
  { s with sched := { s.sched with hostPick := tset (fun _ => []) s.sched.hostPick h l } }

section
variable {s : State} {h : Nat} {p : Picked} {l : List Picked} (hp : s.hostPicked h = p :: l)
include hp

/-- R306, R348: a picked frame whose read is uncorrectable is an event, and is dropped. -/
theorem State.puntRun_bad (hbad : (s.bufr (s.desc p.desc).buf).ecc = true) :
    s.puntRun h = ((s.setHostPicked h l).bufBad (s.desc p.desc).buf).dropDesc p.desc 0x2F := by
  simp only [State.puntRun, hp]
  exact if_pos hbad

/-- R257, R305: a picked frame that reads well fills the punt buffers of its ring, and leaves at the time of writing. -/
theorem State.puntRun_good (hgood : (s.bufr (s.desc p.desc).buf).ecc = false) :
    s.puntRun h =
      (State.puntAll h (16 + (p.queue - 2560) % 16) ((s.setHostPicked h l).puntWords p.desc p.queue s.now)
        (s.desc p.desc).epoch true
        (puntSplit (s.ring h (16 + (p.queue - 2560) % 16)).posted ((s.setHostPicked h l).puntBytes p.desc))
        (s.setHostPicked h l)).leave p.desc p.queue s.now := by
  simp only [State.puntRun, hp]
  exact if_neg (Bool.eq_false_iff.mp hgood)

end

/-! ### Age checkers (R223, R224) -/

theorem becomes_ageCheck {s : State} {q : Fin 2592} (n : Nat) (hlive : s.live = true) (hclk : s.clkOk 144 = true)
    (hage : s.ageOn q = true) : Becomes (.ageCheck q n) s (s.ageHeads q n) :=
  becomes_of_act (f := fun s => s.ageHeads q n) rfl (by simp [hlive, hclk, hage])

/-- R224: a head older than the limit is discarded, and the checker goes on to the next. -/
theorem State.ageHeads_old {s : State} {q d : Nat} {l : List Nat} (n : Nat) (hq : s.queue q = d :: l)
    (hold : s.ageLimit < age48 s.now (s.desc d).time) :
    s.ageHeads q (n + 1) = (s.discardHead q 0x2D).ageHeads q n := by
  simp only [State.ageHeads, hq, hold, if_true]

/-- Settles O18: the pick moves a head from its queue to the picked frames, a punt ends by what the read of its buffer
finds, and the age check looks at one head. -/
theorem hostQueues : Obligations.HostQueues := by
  refine ⟨fun s h j d l hon hok hclk hj hq => ?pick, fun s h p l hon hok hclk hp hw => ?punt,
    fun s q d l hlive hclk hage hq hold => ?age⟩
  case pick =>
    refine (becomes_hostQueuePick hon hok hclk).completes ?_
    rw [State.hostPicked_intSweep, State.queue_intSweep, State.intSweep_buf]
    obtain ⟨w, hrun⟩ := State.hostPickRun_head hj hq
    rw [hrun, State.popQueue_head hq, State.hostTakes_buf]
    exact ⟨State.hostTakes_hostPicked .., (State.queue_setQueue ..).trans (if_pos rfl), rfl⟩
  case punt =>
    have hb := becomes_puntWrite hon hok hclk hp hw
    refine ⟨fun hbad => ?_, fun hgood => ?_⟩
    · rwa [State.puntRun_bad hp hbad] at hb
    · rwa [State.puntRun_good hp hgood] at hb
  case age =>
    have hb := becomes_ageCheck 1 hlive hclk hage
    rwa [State.ageHeads_old 0 hq hold] at hb

end Sys2Proof.Machine
end

section
/-! PROOFS of the family 08_scheduling_and_latency: a scheduler's pick, the egress read, and the end of a transmission. -/

namespace Sys2Proof.Machine

open Sys2Proof

/-! ### The grants of queues whose LEVEL has changed (R239) -/

/-- R239: one level of a port loses its grant if the holder's LEVEL is another. -/
def State.takeGrant (s : State) (lp lvl : Nat) : State :=
  if (s.grantOf lp lvl).any fun q => s.qLevel q != lvl then s.setGrant lp lvl none else s

theorem State.takeGrants_eq (s : State) (lp : Nat) : s.takeGrants lp = (s.takeGrant lp 0).takeGrant lp 1 := rfl

theorem State.qLevel_takeGrant (s : State) (lp lvl : Nat) : (s.takeGrant lp lvl).qLevel = s.qLevel :=
  ite_same (·.qLevel) _ _ _ s rfl rfl

theorem State.grantOf_setGrant (s : State) (lp lvl k : Nat) (q : Option Nat) :
    (s.setGrant lp lvl q).grantOf lp k = if k = lvl then q else s.grantOf lp k := by
  simp [State.grantOf, State.setGrant]

theorem State.grantOf_takeGrant (s : State) (lp lvl : Nat) :
    (s.takeGrant lp lvl).grantOf lp lvl = (s.grantOf lp lvl).filter fun q => s.qLevel q == lvl := by
  unfold State.takeGrant
  cases hg : s.grantOf lp lvl with
  | none => simpa using hg
  | some q => by_cases hl : s.qLevel q = lvl <;> simp [hl, hg, State.grantOf_setGrant, Option.filter]

/-- R239: the grant of another level stays. -/
theorem State.grantOf_takeGrant_of_ne (s : State) (lp : Nat) {lvl k : Nat} (h : k ≠ lvl) :
    (s.takeGrant lp lvl).grantOf lp k = s.grantOf lp k :=
  ite_same (·.grantOf lp k) _ _ _ s ((s.grantOf_setGrant ..).trans (if_neg h)) rfl

theorem State.qLevel_takeGrants (s : State) (lp : Nat) : (s.takeGrants lp).qLevel = s.qLevel := by
  rw [State.takeGrants_eq, State.qLevel_takeGrant, State.qLevel_takeGrant]

/-- R239: after the taking, each of the two levels has its grant only for a queue of that level. -/
theorem State.grantOf_takeGrants (s : State) (lp : Nat) {lvl : Nat} (h : lvl < 2) :
    (s.takeGrants lp).grantOf lp lvl = (s.grantOf lp lvl).filter fun q => s.qLevel q == lvl := by
  rw [State.takeGrants_eq]
  interval_cases lvl
  · rw [State.grantOf_takeGrant_of_ne _ _ (by decide), State.grantOf_takeGrant]
  · rw [State.grantOf_takeGrant, State.qLevel_takeGrant, State.grantOf_takeGrant_of_ne _ _ (by decide)]

/-! ### The pick (R236, R238) -/

/-- R206: a pick from a queue leaves the frames picked for the ports. -/
theorem State.pickedOf_popQueue (s : State) (q : Nat) : (s.popQueue q).pickedOf = s.pickedOf := by
  unfold State.popQueue
  split <;> rfl

theorem State.now_popQueue (s : State) (q : Nat) : (s.popQueue q).now = s.now := by
  unfold State.popQueue
  split <;> rfl

/-- R236: a port's picked frames, and one more. -/
def State.addPicked (s : State) (lp : Nat) (x : Picked) : State :=
  { s with sched := { s.sched with picked := tmod (fun _ => []) s.sched.picked lp (· ++ [x]) } }

theorem State.pickedOf_addPicked (s : State) (lp : Nat) (x : Picked) :
    (s.addPicked lp x).pickedOf lp = s.pickedOf lp ++ [x] := by
  simp [State.pickedOf, State.addPicked]

theorem State.queue_addPicked (s : State) (lp : Nat) (x : Picked) : (s.addPicked lp x).queue = s.queue := rfl

/-- R260: what does not show the event counters is the same after they have counted. -/
theorem State.pmcQueue_same {β : Type} (g : State → β) (hwide : ∀ s w, g { s with wide := w } = g s) (s : State)
    (q ev n : Nat) : g (s.pmcQueue q ev n) = g s := by
  obtain ⟨w, hw⟩ := s.pmcQueue_wide q ev n
  rw [hw, hwide]

/-- R238, R240, R260: the head of queue `q` of port `lp` leaves it; the shapers of both are debited its line bytes, and
it is counted. -/
def State.payHead (s : State) (lp q : Nat) : State :=
  let b := s.headBytes q
  ((((s.popQueue q).shpDebit q b).shpDebit (2560 + lp) b).pmcQueue q 1).pmcQueue q 2 b

/-- R238: beside the shapers and the event counters, paying for a head is its leaving the queue. -/
theorem State.payHead_same {β : Type} (g : State → β) (hwide : ∀ s w, g { s with wide := w } = g s)
    (hshp : ∀ s i b, g (State.setShp s i b) = g s) (s : State) (lp q : Nat) :
    g (s.payHead lp q) = g (s.popQueue q) := by
  unfold State.payHead State.shpDebit
  rw [State.pmcQueue_same g hwide, State.pmcQueue_same g hwide, hshp, hshp]

theorem State.queue_payHead {s : State} {q d : Nat} {l : List Nat} (lp : Nat) (hq : s.queue q = d :: l) (k : Nat) :
    (s.payHead lp q).queue k = if k = q then l else s.queue k :=
  (State.payHead_same (·.queue k) (fun _ _ => rfl) (fun _ _ _ => rfl) s lp q).trans (State.queue_popQueue hq k)

theorem State.pickedOf_payHead (s : State) (lp q k : Nat) : (s.payHead lp q).pickedOf k = s.pickedOf k :=
  (State.payHead_same (·.pickedOf k) (fun _ _ => rfl) (fun _ _ _ => rfl) s lp q).trans
    (congrFun (s.pickedOf_popQueue q) k)

theorem State.now_payHead (s : State) (lp q : Nat) : (s.payHead lp q).now = s.now :=
  (State.payHead_same (·.now) (fun _ _ => rfl) (fun _ _ _ => rfl) s lp q).trans (s.now_popQueue q)

/-- R238: a pick takes and pays for the head of the queue that the turns come to, and adds it to the picked frames. -/
theorem State.pick_head {s s' : State} {lp lvl q d : Nat} {l : List Nat} (hl : s.pickLevel lp = some lvl)
    (hs : State.serve lp lvl 500 (s.takeGrants lp) = some (q, s')) (hq : s'.queue q = d :: l) :
    s.pick lp = (s'.payHead lp q).addPicked lp { desc := d, queue := q, at_ := (s'.payHead lp q).now } := by
  simp only [State.pick, hl, hs, hq]
  rfl

theorem becomes_schedulerPick {s : State} {lp : Fin 256} (hpg : s.pgOn (lp / 32) = true) (hclk : s.clkOk 144 = true)
    (hmay : s.mayPick lp = true) : Becomes (.schedulerPick lp) s (s.pick lp) :=
  becomes_of_act (f := fun s => s.pick lp) rfl (by simp [hpg, hclk, hmay])

@[simp] theorem State.pickedOf_intSweep (s : State) : s.intSweep.pickedOf = s.pickedOf := by
  funext lp; simp [State.pickedOf]

/-! ### The egress read (R242, R257) -/

/-- R242, R257: the frame `p` of a port is read, rewritten and handed to the MAC; an uncorrectable read marks it bad and
is an event (R348). -/
def State.readPicked (s : State) (lp delay : Nat) (ecc : Bool) (p : Picked) : State :=
  let bad := ecc || (s.bufr (s.desc p.desc).buf).ecc
  let u := if bad then s.bufBad (s.desc p.desc).buf else s
  u.setPicked lp ((u.pickedOf lp).map fun x => if x = p then
    { p with tout := some (s.now + delay), bad := bad, frame := finished (s.descFrame (lp / 32) p.desc) } else x)

theorem State.readStart_readable {s : State} {lp : Nat} {p : Picked} (delay : Nat) (ecc : Bool)
    (hp : s.readable lp = some p) : s.readStart lp delay ecc = s.readPicked lp delay ecc p := by
  simp only [State.readStart, hp]
  rfl

theorem becomes_egressReadStart {s : State} {lp : Fin 256} {p : Picked} (delay : Nat) (ecc : Bool)
    (hpg : s.pgOn (lp / 32) = true) (hclk : s.clkOk 144 = true) (hp : s.readable lp = some p) :
    Becomes (.egressReadStart lp delay ecc) s (s.readPicked lp delay ecc p) := by
  rw [← State.readStart_readable delay ecc hp]
  exact becomes_of_act (f := fun s => s.readStart lp delay ecc) rfl (by simp [hpg, hclk, hp])

/-! ### The end of a transmission (R248, R259) -/

section
variable {s : State} {p : Picked} {l : List Picked} {t : Nat}

/-- R257: the oldest picked frame of a port whose MAC clock runs ends once it has been handed over. -/
theorem becomes_transmitEnd {lp : Fin 256} (hpg : s.pgOn (lp / 32) = true) (hclk : s.clkOk (64 + lp / 32) = true)
    (hp : s.pickedOf lp = p :: l) (ht : p.tout = some t) (hdue : t ≤ s.now) :
    Becomes (.transmitEnd lp) s (s.endTx lp) :=
  becomes_of_act (f := fun s => s.endTx lp) rfl (by simp [hpg, hclk, State.txDue, hp, ht, hdue])

variable {lp : Nat} (hp : s.pickedOf lp = p :: l) (ht : p.tout = some t)
include hp ht

/-- R248, R259: a good frame is on the line, counted as sent and in the line's octets, and its descriptor leaves. -/
theorem State.endTx_good (hgood : p.bad = false) :
    s.endTx lp = (((((s.setPicked lp l).addCtr .macTxOkLo (lp / 32) (lp % 32)).addLine lp 1
      (s.desc p.desc).len).emit (.tx lp p.frame true)).leave p.desc p.queue t) := by
  simp only [State.endTx, hp, ht]
  exact if_neg (Bool.eq_false_iff.mp hgood)

/-- R248: a bad frame is ended in error, and its descriptor is dropped. -/
theorem State.endTx_bad (hbad : p.bad = true) :
    s.endTx lp = ((((s.setPicked lp l).bump .macTxErrEof (lp / 32) (lp % 32)).emit
      (.tx lp p.frame false)).dropDesc p.desc 0x2F) := by
  simp only [State.endTx, hp, ht]
  exact if_pos hbad

end

/-- Settles O17: the pick moves the head of the served queue to the picked frames, the grants of old levels are gone
level by level, the read marks its frame, and a transmission ends by what its read found. -/
theorem transmission : Obligations.Transmission := by
  refine ⟨fun s s' lp lvl q d l hpg hclk hmay hl hs hq => ?pick,
    fun s lp => ⟨fun lvl h => s.grantOf_takeGrants lp h, congrFun (s.qLevel_takeGrants lp)⟩,
    fun s lp delay ecc p hpg hclk hp => becomes_egressReadStart delay ecc hpg hclk hp,
    fun s lp p l t hpg hclk hp ht hdue => ?transmit⟩
  case pick =>
    refine (becomes_schedulerPick hpg hclk hmay).completes ?_
    have hpick := State.pick_head hl hs hq
    rw [State.now_payHead] at hpick
    have hqueue (k : Nat) : (s.pick lp).queue k = if k = q then l else s'.queue k := by
      rw [hpick, State.queue_addPicked]
      exact State.queue_payHead lp hq k
    have hpicked : (s.pick lp).pickedOf lp = s'.pickedOf lp ++ [{ desc := d, queue := q, at_ := s'.now }] := by
      rw [hpick, State.pickedOf_addPicked, State.pickedOf_payHead]
    rw [State.pickedOf_intSweep, State.queue_intSweep]
    exact ⟨hpicked, (hqueue q).trans (if_pos rfl), fun k hk => (hqueue k).trans (if_neg hk)⟩
  case transmit =>
    have hb := becomes_transmitEnd hpg hclk hp ht hdue
    refine ⟨fun hgood => ?_, fun hbad => ?_⟩
    · rwa [State.endTx_good hp ht hgood] at hb
    · rwa [State.endTx_bad hp ht hbad] at hb

end Sys2Proof.Machine
end

section
/-! PROOFS of the family 09_ledger_and_telemetry: the passing of device time. -/

namespace Sys2Proof.Machine

open Sys2Proof

/-! ### A count of the time base (R251, R379) -/

/-- R379: a count of the time base writes the time unit alone. -/
theorem State.count_eq_withTime (s : State) : s.count = { s with time := s.count.time } := by
  simp only [State.count]
  split <;> rfl

/-- R379: without trim, device time advances by one. -/
theorem State.now_count {s : State} (h : s.time.trim = 0) : s.count.now = s.now + 1 := by
  have hdue : s.time.due = false := by simp [TimeUnit.due, h]
  simp [State.count, hdue, State.now]

/-- R379, R409: device time stands while the clocks are stopped. -/
theorem State.tick_stopped {s : State} (h : s.frz.stopped = true ∨ s.clkOk 153 = false) : s.tick = s :=
  if_pos (by simpa using h)

theorem State.tick_running {s : State} (hfrz : s.frz.stopped = false) (hclk : s.clkOk 153 = true) :
    s.tick = s.count.closeReached := if_neg (by simp [hfrz, hclk])

/-- R251: a close of the points that the boundary brings leaves device time. -/
theorem State.closeReached_time (s : State) : s.closeReached.time = s.time :=
  ite_same State.time _ _ _ s (congrArg Prod.fst s.closePoints_timeAndWords) rfl

/-- R251: the points stay open where no interval runs, the TEL domain is not Active, or the boundary is not reached. -/
theorem State.closeReached_before {s : State}
    (h : s.led.open_ = false ∨ s.isActive domTel = false ∨ s.now < s.ledEnd) : s.closeReached = s := by
  refine if_neg ?_
  rcases h with h | h | h
  · simp [h]
  · simp [h]
  · simp [Nat.not_le.mpr h]

theorem State.closeReached_due {s : State} (hopen : s.led.open_ = true) (htel : s.isActive domTel = true)
    (hend : s.ledEnd ≤ s.now) : s.closeReached = s.closePoints :=
  if_pos (by simp [hopen, htel, hend])

/-- Settles O2: the step is the tick, which is a count of the time base and, at the boundary, the close of the points. -/
theorem idleStepIsTime : Obligations.IdleStepIsTime := by
  intro s hidle
  have hstep : Machine.step s = .next s.tick := by simp only [Machine.step, hidle]
  refine ⟨s.tick, hstep, State.tick_stopped, fun hfrz hclk => ?_⟩
  rw [State.tick_running hfrz hclk]
  have htime : s.count.closeReached.time = s.count.time := s.count.closeReached_time
  have hnow : s.count.closeReached.now = s.count.now := congrArg TimeUnit.now htime
  have hcount : s.count = { s with time := s.count.closeReached.time } :=
    s.count_eq_withTime.trans (by rw [htime])
  have hled : s.count.led = s.led := (congrArg State.led hcount :)
  have htel : s.count.isActive domTel = s.isActive domTel := (congrArg (State.isActive · domTel) hcount :)
  have hend : s.count.ledEnd = s.ledEnd := (congrArg State.ledEnd hcount :)
  rw [hnow]
  refine ⟨State.now_count, fun hopen => ?_, fun hopen hact hdue => ?_⟩
  · exact (State.closeReached_before (by rwa [hled, htel, hend])).trans hcount
  · exact (State.closeReached_due (by rwa [hled]) (by rwa [htel]) (by rwa [hend])).trans
      (congrArg State.closePoints hcount)

end Sys2Proof.Machine
end

section
/-! PROOFS of the family 09_ledger_and_telemetry: the running balances of the accounts. -/

namespace Sys2Proof.Machine

open Sys2Proof

/-! ### Running balances (R247, R249) -/

/-- R247: what a count of a term adds to the balance of its account. -/
def Term.signed (x : Term) (n : Nat) : Int := if x.enters then (n : Int) else -(n : Int)

theorem Term.signed_add (x : Term) (n m : Nat) : x.signed (n + m) = x.signed n + x.signed m := by
  unfold Term.signed
  split <;> omega

/-- R247: the running count of a term of an account. -/
def State.countOf (s : State) (a : Nat) (x : Term) : Nat := tget (fun _ => 0) s.led.cnt (a * 16 + x.idx)

/-- R247: an account's balance is the sum of its signed terms, less the frames that it holds. -/
theorem State.running_eq_sum (s : State) (a : Nat) :
    s.running a = (allTerms.map fun x => x.signed (s.countOf a x)).sum - s.heldBy a := by
  simp [State.running, allTerms, Term.signed, State.countOf, Term.enters, Int.sub_eq_add_neg, add_assoc]

/-- R247, R249: what a running balance is read from: the ledger's counts, the frames of the holding store, and the
descriptors. -/
def State.accounted (s : State) : Tab Nat × Tab Pkt × Tab Desc := (s.led.cnt, s.pkts, s.buf.descs)

theorem State.running_congr {s t : State} (h : t.accounted = s.accounted) (a : Nat) : t.running a = s.running a := by
  obtain ⟨hcnt, hpkts, hdescs⟩ : t.led.cnt = s.led.cnt ∧ t.pkts = s.pkts ∧ t.buf.descs = s.buf.descs := by
    simpa [State.accounted] using h
  simp only [State.running, State.heldBy, hcnt, hpkts, hdescs]

theorem State.heldBy_recorded {s t : State} (h : s.Recorded t) (a : Nat) : t.heldBy a = s.heldBy a := by
  rw [State.heldBy, State.heldBy, h.pkts, h.buf]

theorem State.Exported.accounted {s t : State} (h : s.Exported t) : t.accounted = s.accounted := by
  rw [State.accounted, State.accounted, h.led, h.pkts, h.buf]

/-! ### The counting of a term (R246, R250) -/

/-- R248: the key of a count names its account and its term. -/
theorem countKey_inj {a b : Nat} {x y : Term} (h : a * 16 + x.idx = b * 16 + y.idx) : a = b ∧ x = y := by
  have hlt (z : Term) : z.idx < 16 := by cases z <;> decide
  have hx := hlt x
  have hy := hlt y
  have hidx : x.idx = y.idx := by omega
  exact ⟨by omega, by revert hidx; cases x <;> cases y <;> decide⟩

theorem countKey_eq_iff (a b : Nat) (x y : Term) : a * 16 + x.idx = b * 16 + y.idx ↔ a = b ∧ x = y :=
  ⟨countKey_inj, fun ⟨hab, hxy⟩ => by rw [hab, hxy]⟩

/-- R250: a port's account is no group's. -/
theorem acctP_ne_acctG {lp : Nat} (h : lp < 256) (par : Bool) : acctP lp par ≠ acctG lp par := by
  unfold acctP acctG
  omega

/-- R246, R250: the counts of the port's account and of its group's go up, and no other. -/
theorem State.countOf_book (s : State) {lp : Nat} (h : lp < 256) (par : Bool) (x : Term) (n a : Nat) (y : Term) :
    (s.book lp par x n).countOf a y = s.countOf a y + if inAcct a lp par ∧ y = x then n else 0 := by
  have hcnt : (s.book lp par x n).led.cnt =
      tmod (fun _ => 0) (tmod (fun _ => 0) s.led.cnt (acctP lp par * 16 + x.idx) (· + n))
        (acctG lp par * 16 + x.idx) (· + n) :=
    congrArg Ledger.cnt (State.pmc_exported ..).led
  have hne := acctP_ne_acctG h par
  simp only [State.countOf, hcnt, tget_tmod, countKey_eq_iff, inAcct, Bool.or_eq_true, beq_iff_eq]
  by_cases hxy : y = x
  · subst hxy
    by_cases hP : a = acctP lp par
    · subst hP; simp [hne]
    · by_cases hG : a = acctG lp par
      · subst hG; simp [hne.symm]
      · simp [hP, hG]
  · simp [hxy]

/-- R248: each term stands once in the balance. -/
theorem sum_allTerms_single (x : Term) (v : Int) : (allTerms.map fun y => if y = x then v else 0).sum = v := by
  cases x <;> simp [allTerms]

/-- R246, R250: what the counting of a term moves. -/
theorem State.running_book (s : State) {lp : Nat} (h : lp < 256) (par : Bool) (x : Term) (n a : Nat) :
    (s.book lp par x n).running a = s.running a + if inAcct a lp par then x.signed n else 0 := by
  have hterm (y : Term) : y.signed ((s.book lp par x n).countOf a y) =
      y.signed (s.countOf a y) + if y = x then (if inAcct a lp par then x.signed n else 0) else 0 := by
    rw [s.countOf_book h, Term.signed_add]
    by_cases hy : y = x
    · subst hy
      by_cases ha : inAcct a lp par <;> simp [ha, Term.signed]
    · simp [hy, Term.signed]
  rw [State.running_eq_sum, State.running_eq_sum, State.heldBy_recorded (s.book_recorded ..), funext hterm,
    List.sum_map_add, sum_allTerms_single]
  omega

/-! ### A drop at a boundary (R248, R256, R264) -/

/-- R264: a capture leaves neither a count in the ledger nor a digest in the batch. -/
theorem State.capture_exported (s : State) (b : Boundary) (code : Nat) (d : DropInfo) :
    s.Exported (s.capture b code d) := by
  unfold State.capture
  dsimp only
  refine .ite (.ite (.ite ((State.telLost_exported ..).after .of_eq) ?_) .of_eq) (.refl s)
  exact .ite ((State.telLost_exported ..).after .of_eq) ((State.toRegion_exported ..).after .of_eq)

/-- R256: the count of a reason is beside the balance. -/
theorem State.bookReason_accounted (s : State) (lp : Nat) (par : Bool) (code : Nat) :
    (s.bookReason lp par code).accounted = s.accounted := by
  unfold State.bookReason
  exact (State.pmc_exported ..).accounted.trans rfl

/-- R248: a drop moves the balances as the count of its boundary's term does. -/
theorem State.running_drop (s : State) (b : Boundary) (r : Nat) (i : DropInfo) (a : Nat) :
    (s.drop b r i).running a = (s.book i.lp i.par b.term).running a :=
  State.running_congr ((State.capture_exported ..).accounted.trans (State.bookReason_accounted ..)) a

/-! ### The release of a descriptor (R207, R249) -/

/-- R215: the states of the pools are beside the balance. -/
theorem State.poolSteps_accounted (s : State) : s.poolSteps.accounted = s.accounted := by
  refine foldl_same State.accounted State.poolStep (fun s k => ?_) _ s
  unfold State.poolStep
  split
  · refine ite_same State.accounted _ _ _ s ?_ rfl
    rw [State.accounted, State.orRg_led, State.orRg_pkts, State.orRg_buf]
    rfl
  · rfl

/-- R207: so is the release of a buffer. -/
theorem State.relBuf_accounted (s : State) (b : Nat) : (s.relBuf b).accounted = s.accounted := by
  unfold State.relBuf
  extract_lets x s1 s2 y i s3
  have h1 : s1.accounted = s.accounted := ite_same State.accounted _ _ _ s rfl rfl
  have h2 : s2.accounted = s1.accounted := ite_same State.accounted _ _ _ s1 rfl rfl
  exact ite_same State.accounted _ _ _ s ((State.poolSteps_accounted _).trans (h2.trans h1)) rfl

theorem tdel_above {α : Type} {t : Tab α} {n k : Nat} (h : above n t) (hk : k ≤ n) : tdel t k = t := by
  induction t generalizing n with
  | nil => rfl
  | cons e t ih =>
    obtain ⟨a, v⟩ := e
    obtain ⟨hn, ht⟩ := h
    rw [tdel, if_neg (by omega), ih ht (by omega)]

theorem rising_of_above {α : Type} {t : Tab α} {n : Nat} (h : above n t) : rising t = true := by
  cases t with
  | nil => rfl
  | cons e t =>
    obtain ⟨a, v⟩ := e
    exact (rising_cons a v t).mpr h.2

/-- The entry of a key in use is the one by which a table and the table without it differ. -/
theorem countP_tdel {α : Type} (d : Nat → α) (p : α → Bool) {t : Tab α} {k : Nat} (hrise : rising t = true)
    (hk : k ∈ tkeys t) :
    t.countP (fun e => p e.2) = (tdel t k).countP (fun e => p e.2) + if p (tget d t k) then 1 else 0 := by
  induction t with
  | nil => cases hk
  | cons e t ih =>
    obtain ⟨a, v⟩ := e
    have habove : above a t := (rising_cons a v t).mp hrise
    by_cases ha : k = a
    · subst ha
      simp [tdel, tget, tdel_above habove le_rfl, List.countP_cons]
    · have hkt : k ∈ tkeys t := by simpa [tkeys, ha] using hk
      simp only [tdel, tget, if_neg ha, List.countP_cons, ih (rising_of_above habove) hkt]
      omega

/-- R207: a state from whose descriptors one is gone. -/
def State.withoutDesc (s : State) (d : Nat) : State := { s with buf := { s.buf with descs := tdel s.buf.descs d } }

/-- R207: of what the balance is read from, the release of a descriptor takes the descriptor alone. -/
theorem State.relDesc_accounted (s : State) (d : Nat) : (s.relDesc d).accounted = (s.withoutDesc d).accounted := by
  refine (State.relBuf_accounted ..).trans ?_
  simp [State.accounted, State.withoutDesc, tset]

section
variable {s : State} {d : Nat} (hwf : twf (fun _ => ({} : Desc)) s.buf.descs = true) (hd : d ∈ tkeys s.buf.descs)
include hwf hd

/-- R249: a descriptor counts as one frame held, in its port's account and in its group's. -/
theorem State.heldBy_eq_withoutDesc (a : Nat) :
    s.heldBy a = (s.withoutDesc d).heldBy a + if inAcct a (s.desc d).lport (s.desc d).epoch then 1 else 0 := by
  have hrise := ((twf_iff _ _).mp hwf).1
  have hcount := countP_tdel (fun _ => ({} : Desc)) (fun x => inAcct a x.lport x.epoch) hrise hd
  rw [State.heldBy, hcount, ← Nat.add_assoc]
  rfl

/-- R207, R249: a descriptor that is released is held no more. -/
theorem State.running_relDesc (a : Nat) :
    (s.relDesc d).running a = s.running a + if inAcct a (s.desc d).lport (s.desc d).epoch then 1 else 0 := by
  have hcnt : (s.withoutDesc d).countOf a = s.countOf a := rfl
  rw [State.running_congr (s.relDesc_accounted d), State.running_eq_sum, State.running_eq_sum, hcnt,
    State.heldBy_eq_withoutDesc hwf hd]
  split <;> omega

/-- R248, R249: a descriptor that is dropped at egress is counted as it ceases to be held. -/
theorem State.running_dropDesc (hlp : (s.desc d).lport < 256) (r a : Nat) :
    (s.dropDesc d r).running a = s.running a := by
  have hbuf : (s.drop .egress r (s.descInfo d)).buf = s.buf := (s.drop_recorded ..).buf
  have hdesc : (s.drop .egress r (s.descInfo d)).desc d = s.desc d := by simp only [State.desc, hbuf]
  have hdrop : (s.drop .egress r (s.descInfo d)).running a =
      s.running a + if inAcct a (s.desc d).lport (s.desc d).epoch then -1 else 0 :=
    (s.running_drop ..).trans (s.running_book hlp (s.desc d).epoch .dEgr 1 a)
  rw [State.dropDesc, State.running_relDesc (by rwa [hbuf]) (by rwa [hbuf]), hdesc, hdrop]
  split <;> omega

end

/-- Settles O38: a count moves one signed term of its port's account and of its group's, and a drop at egress counts
the one frame that its release takes from those held. -/
theorem countingBalances : Obligations.CountingBalances :=
  ⟨fun s _ par x n a hlp => s.running_book hlp par x n a,
    fun _ _ r a hwf hd hlp => State.running_dropDesc hwf hd hlp r a⟩

end Sys2Proof.Machine
end

section
/-! PROOFS of the family 10_pcie_endpoint: a host's link, its loss by each cause, and its return. -/

namespace Sys2Proof.Machine

open Sys2Proof

/-- A command whose condition holds becomes the state that its meaning then names. -/
theorem becomes_of_condition {i : Instr} {s t : State} {c : Bool}
    (he : exec i s = .next (if c then t.intSweep else s)) (hc : c = true) : Becomes i s t := by
  rw [Becomes, he, if_pos hc]

/-! ### The operations of loss and return (R288-R290) -/

section
variable {s : State} {h : Nat} {v : Word}

theorem State.loseHost_present (hp : (s.hst h).present = true) (cause : Nat) (linkOff : Bool) :
    s.loseHost h cause linkOff = s.hostLoss h cause linkOff := if_pos hp

/-- R290: LEAVE makes a present host absent with LOSS 6. -/
theorem State.writeHostCtl_leave (hp : (s.hst h).present = true) (hleave : bit v 1 = true) :
    s.writeHostCtl h v = s.hostLoss h 6 false := by
  rw [State.writeHostCtl, if_pos hleave, if_pos hp, State.loseHost_present hp]

/-- R290: PRESENT without LEAVE ends the absence of a host whose bus mastering is on. -/
theorem State.writeHostCtl_present (hleave : bit v 1 = false) (hpresent : bit v 0 = true)
    (hbme : (s.hst h).bme = true) (hin : s.hostIn h = true) :
    s.writeHostCtl h v = s.setHst h { s.hst h with present := true } := by
  rw [State.writeHostCtl, if_neg (by simp [hleave]), if_pos (by simp [hpresent, hbme, hin])]

end

/-! ### The events that lose a host, and its return (R288-R290) -/

section
variable {s : State} {h : Fin 2}

/-- R288: an event that loses a present host becomes its loss with the event's cause. -/
theorem becomes_hostLoss {i : Instr} {c : Bool} {cause : Nat} {linkOff : Bool}
    (he : exec i s = act c (fun s => s.loseHost h cause linkOff) s) (hc : c = true)
    (hp : (s.hst h).present = true) : Becomes i s (s.hostLoss h cause linkOff) := by
  rw [← State.loseHost_present hp]
  exact becomes_of_act he hc

/-- R288: PERST loses a present host, and its pin is low. -/
theorem becomes_perstAssert (hp : (s.hst h).present = true) (hin : s.hostIn h = true) :
    Becomes (.perstAssert h) s
      ((s.hostLoss h 4 true).setHst h { (s.hostLoss h 4 true).hst h with perst := true }) := by
  rw [← State.loseHost_present hp]
  exact becomes_of_condition rfl hin

/-- R290: a write of PCI_HOST_CTL with LEAVE loses a present host, whatever else it writes. -/
theorem becomes_leave (hp : (s.hst h).present = true) {r : Req} (v : Word) (hon : s.regOn = true)
    (hr : mayBank r h = true) : Becomes (.leave r h v) s (s.hostLoss h 6 false) := by
  rw [← State.writeHostCtl_leave hp (bit_or_two v)]
  exact becomes_of_condition rfl (by simp [hon, hr])

/-- R290: a write of PCI_HOST_CTL with PRESENT and without LEAVE returns a host whose bus mastering is on. -/
theorem becomes_present {r : Req} {v : Word} (hon : s.regOn = true) (hr : mayBank r h = true)
    (hleave : bit v 1 = false) (hbme : (s.hst h).bme = true) (hin : s.hostIn h = true) :
    Becomes (.present r h v) s (s.setHst h { s.hst h with present := true }) := by
  obtain ⟨hpresent, hkept⟩ := bit_or_one v
  rw [← State.writeHostCtl_present (hkept.trans hleave) hpresent hbme hin]
  exact becomes_of_condition rfl (by simp [hon, hr])

end

/-- Settles O45: under its condition a link's event is its operation, each event of a present host is its loss by that
event's cause, and a write of PCI_HOST_CTL acts by its LEAVE and else by its PRESENT. -/
theorem linkEvents : Obligations.LinkEvents := by
  refine ⟨fun s h hon => ⟨fun vec hup hmse => ?unmask, fun hmay => ?l0s, fun hmay => ?l1, fun w sp hin hdown => ?up⟩,
    fun s h hp hin => ⟨fun hup => ⟨?down, ?hot, fun hon => ?flr, fun hon hbme => ?master⟩, becomes_perstAssert hp hin,
      fun r v => becomes_leave hp v⟩,
    fun s r h v => becomes_present⟩
  case unmask => exact becomes_of_condition rfl (by simp [hon, hup, hmse])
  case l0s | l1 => exact becomes_of_condition rfl (by simp [hon, hmay])
  case up => exact becomes_of_condition rfl (by simp [hon, hin, hdown])
  case down | hot => exact becomes_hostLoss rfl (by simp [hin, hup]) hp
  case flr => exact becomes_hostLoss rfl (by simp [hon, hin, hup]) hp
  case master => exact becomes_hostLoss rfl (by simp [hon, hin, hup, hbme]) hp

end Sys2Proof.Machine
end

section
/-! PROOFS of the family 11_rings_and_dma: the flow of a DMA program. -/

namespace Sys2Proof.Machine

open Sys2Proof

/-- A command becomes what the state that its meaning names is shown to be. -/
theorem Becomes.to_eq {i : Instr} {s t u : State} (h : Becomes i s t) (e : t = u) : Becomes i s u := e ▸ h

/-! ### Tables written more than once -/

section
variable {α : Type}

theorem tdel_tins (t : Tab α) (k : Nat) (x : α) : tdel (tins t k x) k = tdel t k := by
  induction t with
  | nil => simp [tins, tdel]
  | cons e t ih =>
    obtain ⟨a, v⟩ := e
    unfold tins
    split
    · simp [tdel]
    · split <;> simp [tdel, *]

theorem tins_tins (t : Tab α) (k : Nat) (x y : α) : tins (tins t k x) k y = tins t k y := by
  induction t with
  | nil => simp [tins]
  | cons e t ih =>
    obtain ⟨a, v⟩ := e
    by_cases hlt : k < a
    · simp [tins, hlt]
    · by_cases heq : k = a <;> simp [tins, hlt, heq, ih]

/-- A key written twice holds the second value, where the first was listed. -/
theorem tset_tset [DecidableEq α] {d : Nat → α} {k : Nat} {x : α} (hx : x ≠ d k) (t : Tab α) (y : α) :
    tset d (tset d t k x) k y = tset d t k y := by
  unfold tset
  rw [if_neg hx, tdel_tins, tins_tins]

/-- A table into which values are written in turn reads as its own value at a key that no other of them takes. -/
theorem tget_foldl_tset [DecidableEq α] (d : Nat → α) (key : Nat → Nat) (val : Nat → α) {n i : Nat}
    (t : Tab α) (hi : i < n) (hkey : ∀ j < n, key i = key j → i = j) :
    tget d ((List.range n).foldl (fun t j => tset d t (key j) (val j)) t) (key i) = val i := by
  induction n with
  | zero => omega
  | succ n ih =>
    rw [List.range_succ, List.foldl_append, List.foldl_cons, List.foldl_nil, tget_tset]
    split
    next h => rw [hkey n n.lt_succ_self h]
    next h =>
      have hne : i ≠ n := fun e => h (e ▸ rfl)
      exact ih (by omega) fun j hj => hkey j (by omega)

end

/-! ### What the shared operations leave of the channels (R312, R317) -/

@[simp] theorem State.chan_setChan_same (s : State) (n : Nat) (x : Chan) : (s.setChan n x).chan n = x :=
  (s.chan_setChan n n x).trans (if_pos rfl)

theorem State.readHost_dma (s : State) (h a len : Nat) : (s.readHost h a len).dma = s.dma := by
  simp [State.readHost, State.tlp]

theorem State.readHost_held (s : State) (h a len : Nat) : (s.readHost h a len).held = s.held := by
  simp [State.readHost, State.tlp]

/-- R313: a read of host memory leaves every channel as it was. -/
theorem State.readHost48_dma (s : State) (h a len : Nat) : (s.readHost48 h a len).dma = s.dma := by
  unfold State.readHost48
  extract_lets b
  split <;> simp only [State.readHost_dma]

theorem State.readHost48_held (s : State) (h a len : Nat) : (s.readHost48 h a len).held = s.held := by
  unfold State.readHost48
  extract_lets b
  split <;> simp only [State.readHost_held]

theorem State.readHost48_chan (s : State) (h a len k : Nat) : (s.readHost48 h a len).chan k = s.chan k := by
  simp only [State.chan, State.readHost48_dma]

/-- R312: where a channel stands in its program: PC, the instructions held and the loop counters. -/
def Chan.place (c : Chan) : Nat × Tab (List Word) × Tab Nat := (c.pc, c.ins, c.ctr)

theorem Chan.place_eq_iff {c : Chan} {pc : Nat} {ins : Tab (List Word)} {ctr : Tab Nat} :
    c.place = (pc, ins, ctr) ↔ c.pc = pc ∧ c.ins = ins ∧ c.ctr = ctr := by simp [Chan.place]

/-- R317: a channel that stops stays where it is in its program. -/
theorem State.stopChan_place (s : State) (n err : Nat) : ((s.stopChan n err).chan n).place = (s.chan n).place := by
  simp [State.stopChan, Chan.place]

/-- R312, R317: so does one whose next instruction is to be read or is illegal. -/
theorem State.nextIns_place (s : State) (n : Nat) : ((s.nextIns n).chan n).place = (s.chan n).place :=
  ite_same (fun t => (t.chan n).place) _ _ _ s (congrArg Chan.place (s.readHost48_chan ..))
    (ite_same (fun t => (t.chan n).place) _ _ _ s (s.stopChan_place n 1) rfl)

theorem State.nextIns_held (s : State) (n : Nat) : (s.nextIns n).held = s.held :=
  ite_same State.held _ _ _ s (s.readHost48_held ..) (ite_same State.held _ _ _ s (s.setChan_held ..) rfl)

/-- R312: PC moves, and the instructions and the counters stay. -/
theorem State.goIns_place (s : State) (n pc : Nat) :
    ((s.goIns n pc).chan n).place = (pc % 2 ^ 16, (s.chan n).ins, (s.chan n).ctr) := by
  rw [State.goIns, State.nextIns_place, State.chan_setChan_same]
  rfl

theorem State.chan_intSweep (s : State) (n : Nat) : s.intSweep.chan n = s.chan n := by
  simp only [State.chan, State.intSweep_dma]

/-- A channel written twice holds the second value, where the first was not that of a channel at reset. -/
theorem State.setChan_setChan {x : Chan} (hx : x ≠ {}) (s : State) (n : Nat) (y : Chan) :
    (s.setChan n x).setChan n y = s.setChan n y := by
  unfold State.setChan
  rw [tset_tset hx]

/-! ### GO, ABORT and the reading of the program (R312, R317, R318) -/

section
variable {s : State} {n : Nat}

theorem State.writeDmaCtl_go {v : Word} (habort : bit v 30 = false) (hgo : bit v 31 = true) :
    s.writeDmaCtl n v = s.goDma n := by simp [State.writeDmaCtl, habort, hgo]

theorem State.writeDmaCtl_abort {v : Word} (habort : bit v 30 = true) (hrun : (s.chan n).st = .running) :
    s.writeDmaCtl n v = s.setChan n { s.chan n with
      st := .aborted, ended := true, waitAt := none, waiting := false, barWait := false, rd := [] } := by
  simp [State.writeDmaCtl, State.abortDma, habort, hrun]

/-- The word of DMA_CTL that GO writes: GO without ABORT. -/
theorem bit_goWord (v : Word) :
    bit ((v &&& 0xBFFFFFFF) ||| flag 31 true) 30 = false ∧ bit ((v &&& 0xBFFFFFFF) ||| flag 31 true) 31 = true := by
  have hmask : (0xBFFFFFFF : Word) = ~~~ flag 30 true := by decide
  rw [hmask]
  exact ⟨(bit_or_flag_of_ne _ (by decide)).trans (bit_andNot_flag v (by decide)), bit_or_flag _ (by decide)⟩

/-- R318: the channels after GO: the one that it starts, at the program that its registers name, and the others. -/
theorem State.goDma_chan (hidle : (s.chan n).st ≠ .running) (k : Nat) :
    (s.goDma n).chan k =
      if k = n then
        { s.chan n with
          st := .running, err := 0, pc := 0, run := (s.chan n).run + 1
          prog := addr64 (s.rg .dmaProgLo n) (s.rg .dmaProgHi n)
          sbase := addr64 (s.rg .dmaSbaseLo n) (s.rg .dmaSbaseHi n)
          ins := [], ctr := [], waitAt := none, waiting := false, barWait := false, moved := 0, rd := [] }
      else s.chan k := by
  rw [State.goDma, if_neg hidle, State.readHost48_chan, State.chan_setChan]

/-- R312: the instructions that a channel holds after a read of its program. -/
def Chan.insRead (c : Chan) (l : List (List Word)) : Tab (List Word) :=
  (List.range (min 16 l.length)).foldl
    (fun t i => tset (fun _ => []) t ((c.pc + i) % 2 ^ 16) (padTo 4 ((l[i]?).getD []))) []

theorem State.progDone_place (l : List (List Word)) :
    ((s.progDone n (some l)).chan n).place = ((s.chan n).pc, (s.chan n).insRead l, (s.chan n).ctr) := by
  refine (State.nextIns_place ..).trans ?_
  rw [State.chan_setChan_same]
  rfl

/-- R312: each instruction read is held at its index, while the indices do not go round. -/
theorem Chan.insRead_get (c : Chan) (l : List (List Word)) {i : Nat} (hi : i < min 16 l.length)
    (hpc : c.pc + i < 65536) :
    tget (fun _ => []) (c.insRead l) (c.pc + i) = padTo 4 ((l[i]?).getD []) := by
  have hmod : (c.pc + i) % 2 ^ 16 = c.pc + i := Nat.mod_eq_of_lt hpc
  have hget := tget_foldl_tset (fun _ => []) (fun j => (c.pc + j) % 2 ^ 16) (fun j => padTo 4 ((l[j]?).getD [])) []
    hi (fun j hj h => by omega)
  rwa [hmod] at hget

end

/-! ### Barriers (R315) -/

/-- R315: a channel that waits for writes goes on once those of its barrier's space are confirmed, and else has the
writes to host memory confirmed. -/
def State.barCheck (s : State) (n : Nat) : State :=
  let c := s.chan n
  if ! c.barWait then s
  else if c.writesOut c.barSp then (if c.barSp = 1 then s else s.confirm n)
  else s.barDone n

section
variable {s : State} {n : Nat} {x : Chan} (hx : s.chan n = x)
include hx

theorem State.barCheck_unbarred (h : x.barWait = false) : s.barCheck n = s := by
  simp [State.barCheck, hx, h]

/-- R315: writes to internal space are acknowledged without being asked for. -/
theorem State.barCheck_internal (hsp : x.barSp = 1) (hout : 0 < x.out) : s.barCheck n = s := by
  simp [State.barCheck, Chan.writesOut, hx, hsp, hout]

theorem State.barCheck_confirms (hbar : x.barWait = true) (hsp : x.barSp ≠ 1) (hw : x.writesOut x.barSp = true) :
    s.barCheck n = s.confirm n := by
  simp [State.barCheck, hx, hbar, hsp, hw]

/-- R315, R317: an instruction's own barrier is complete with the instruction's error. -/
theorem State.barCheck_completes (hbar : x.barWait = true) (hsp : x.barSp ≠ 2) (hw : x.writesOut x.barSp = false) :
    s.barCheck n = s.insDone n x.moved x.barErr := by
  simp [State.barCheck, State.barDone, hx, hbar, hsp, hw]

/-- R315, R317: a FENCE is complete with the failed confirmation that has been remembered. -/
theorem State.barCheck_fence (hbar : x.barWait = true) (hsp : x.barSp = 2) (hout : x.out = 0)
    (hhost : x.hostOut = false) (hflush : x.flush = false) :
    s.barCheck n = (s.setChan n { s.chan n with werr := 0 }).insDone n x.moved x.werr := by
  simp [State.barCheck, State.barDone, Chan.writesOut, hx, hbar, hsp, hout, hhost, hflush]

end

/-! ### Acknowledgements (R315) -/

section
variable {s : State} {n : Nat}

theorem State.ackWrite_internal (ok : Bool) :
    s.ackWrite n false ok = (s.setChan n { s.chan n with out := (s.chan n).out - 1 }).barCheck n := by
  rw [State.barCheck, State.chan_setChan_same]
  rfl

/-- R315: a channel as the end of its flushing read leaves it. -/
def Chan.flushed (c : Chan) (ok : Bool) : Chan :=
  if ok then { c with flush := false }
  else if c.barWait && c.barSp = 0 && ! c.hostOut then
    { c with flush := false, barErr := if c.barErr = 0 then 2 else c.barErr }
  else { c with flush := false, werr := 2 }

theorem State.chan_flushed (s : State) (n : Nat) (x : Chan) : ((s.setChan n x).tlp (s.chanOwner n)).chan n = x :=
  s.chan_setChan_same n x

theorem State.ackWrite_flush (ok : Bool) :
    s.ackWrite n true ok = ((s.setChan n ((s.chan n).flushed ok)).tlp (s.chanOwner n)).barCheck n := by
  rw [State.barCheck, State.chan_flushed]
  rfl

/-- R315: a flushing read that confirms the writes of no instruction's own barrier is remembered where it fails. -/
theorem Chan.flushed_other {c : Chan} (ok : Bool) (hother : c.barWait = false ∨ c.barSp = 2) :
    c.flushed ok = { c with flush := false, werr := if ok then c.werr else 2 } := by
  have hown : (c.barWait && decide (c.barSp = 0) && ! c.hostOut) = false := by
    rcases hother with h | h <;> simp [h]
  cases ok <;> simp [Chan.flushed, hown]

/-- R315: one that confirms the writes of an instruction's own barrier gives that barrier its error where it fails. -/
theorem Chan.flushed_own {c : Chan} (ok : Bool) (hbar : c.barWait = true) (hhost : c.hostOut = false)
    (hsp : c.barSp = 0) :
    c.flushed ok = { c with flush := false, barErr := if ok = false ∧ c.barErr = 0 then 2 else c.barErr } := by
  cases ok <;> simp [Chan.flushed, hbar, hhost, hsp]

end

/-! ### Instructions (R313, R314) -/

section
variable {s : State} {n : Nat}

/-- R314: the loop counter that a LOOP names. -/
def Chan.loopCtr (c : Chan) : Nat := tget (fun _ => 0) c.ctr (fld (wAt c.instr 0) 25 24)

/-- R314: what a LOOP leaves in its counter: one that is not loaded takes the count of the instruction. -/
def Chan.loopLeft (c : Chan) : Nat := if c.loopCtr = 0 then (wAt c.instr 1).toNat else c.loopCtr - 1

/-- R314: a LOOP goes back while any is left. -/
theorem State.loop_place : ((s.loop n).chan n).place =
    (if 0 < (s.chan n).loopLeft then fld (wAt (s.chan n).instr 0) 15 0 else ((s.chan n).pc + 1) % 65536,
      (s.chan n).ins,
      tset (fun _ => 0) (s.chan n).ctr (fld (wAt (s.chan n).instr 0) 25 24) (s.chan n).loopLeft) := by
  have hleft (held load : Nat) : (if held = 0 then load + 1 else held) - 1 = if held = 0 then load else held - 1 := by
    split <;> rfl
  have hback : fld (wAt (s.chan n).instr 0) 15 0 % 2 ^ 16 = fld (wAt (s.chan n).instr 0) 15 0 :=
    Nat.mod_eq_of_lt (fld_lt _ 15 0)
  rw [State.loop, hleft, ← Chan.loopCtr, ← Chan.loopLeft]
  split
  · rw [State.goIns_place, State.chan_setChan_same, hback]
  · rw [State.goIns_place, State.chan_setChan_same]
    rfl

/-- R314: a WAIT whose poll, if it has one, is aligned. -/
theorem State.waitIns_begins (h : bit (wAt (s.chan n).instr 0) 25 = false ∨ waitAddr (s.chan n).instr % 4 = 0) :
    s.waitIns n = s.setChan n { s.chan n with
      waiting := true, pollAt := s.mono
      waitAt := if bit (wAt (s.chan n).instr 0) 25 && fld (wAt (s.chan n).instr 0) 23 8 = 0 then none
        else some (s.mono + fld (wAt (s.chan n).instr 0) 23 8 * 1000) } :=
  if_neg (by rcases h with h | h <;> simp [h])

theorem State.waitIns_misaligned (hpoll : bit (wAt (s.chan n).instr 0) 25 = true)
    (hodd : waitAddr (s.chan n).instr % 4 ≠ 0) : s.waitIns n = s.insDone n 0 4 := if_pos (by simp [hpoll, hodd])

/-- R11, R314: a poll, by the word that it sees. -/
theorem State.pollIns_eq {got : Option Word} (h : s.pollWord n (waitAddr (s.chan n).instr) = got) :
    s.pollIns n = (s.setChan n { s.chan n with pollAt := s.mono + 1000 }).polled n (s.chan n).instr got := h ▸ rfl

theorem State.waitEnd_eq : s.waitEnd n = s.insDone n 0 (if bit (wAt (s.chan n).instr 0) 25 then 5 else 0) := by
  unfold State.waitEnd
  split <;> rfl

theorem State.endIns_eq : s.endIns n = s.setChan n { s.chan n with
    st := .done, ended := true, signaled := (s.chan n).signaled || bit (wAt (s.chan n).instr 0) 26 } := by
  have hdone : ({ s.chan n with st := .done, ended := true } : Chan) ≠ {} := fun h => by cases congrArg Chan.st h
  rw [State.endIns, State.sigInt, State.setChan_setChan hdone, State.chan_setChan_same]

end

/-! ### The commands of a program, each under its condition (R312-R318) -/

section
variable {s : State} {ch : Fin 16}

theorem becomes_dmaCtl {i : Instr} {r : Req} {w : Word}
    (he : exec i s = act (s.live && s.mayChan r ch) (fun s => s.writeDmaCtl ch w) s) (hlive : s.live = true)
    (hmay : s.mayChan r ch = true) : Becomes i s (s.writeDmaCtl ch w) :=
  becomes_of_act he (by simp [hlive, hmay])

theorem becomes_programFetch (prog : Option (List (List Word))) (hon : s.chanOn ch = true)
    (hnone : (s.chan ch).instr = []) : Becomes (.programFetch ch prog) s (s.progDone ch prog) :=
  becomes_of_condition rfl (by simp [hon, hnone])

theorem becomes_loop (hat : s.atIns ch 2 = true) : Becomes (.loop ch) s (s.loop ch) := becomes_of_condition rfl hat

theorem becomes_wait (hat : s.atIns ch 3 = true) : Becomes (.wait ch) s (s.waitIns ch) := becomes_of_condition rfl hat

theorem becomes_waitPoll (hon : s.chanOn ch = true) (hwait : (s.chan ch).waiting = true)
    (hpoll : bit (wAt (s.chan ch).instr 0) 25 = true) (hdue : s.pollDue ch = true) :
    Becomes (.waitPoll ch) s (s.pollIns ch) :=
  becomes_of_condition rfl (by simp [hon, hwait, hpoll, hdue])

theorem becomes_waitExpiry {t0 : Nat} (hon : s.chanOn ch = true) (hwait : (s.chan ch).waiting = true)
    (hset : (s.chan ch).waitAt = some t0) (hdue : t0 ≤ s.mono) : Becomes (.waitExpiry ch) s (s.waitEnd ch) :=
  becomes_of_condition rfl (by simp [hon, hwait, hset, hdue])

theorem becomes_nop (hat : s.atIns ch 6 = true) : Becomes (.nop ch) s (s.goIns ch ((s.chan ch).pc + 1)) :=
  becomes_of_condition rfl hat

theorem becomes_dmaEnd (hat : s.atIns ch 7 = true) : Becomes (.dmaEnd ch) s (s.endIns ch) :=
  becomes_of_condition rfl hat

theorem becomes_writeAcknowledge (ok : Bool) (hlive : s.live = true) (hout : 0 < (s.chan ch).out) :
    Becomes (.writeAcknowledge ch false ok) s
      ((s.setChan ch { s.chan ch with out := (s.chan ch).out - 1 }).barCheck ch) := by
  rw [← State.ackWrite_internal]
  exact becomes_of_condition rfl (by simp [hlive, hout])

theorem becomes_flushAcknowledge (ok : Bool) (hlive : s.live = true) (hflush : (s.chan ch).flush = true) :
    Becomes (.writeAcknowledge ch true ok) s
      (((s.setChan ch ((s.chan ch).flushed ok)).tlp (s.chanOwner ch)).barCheck ch) := by
  rw [← State.ackWrite_flush]
  exact becomes_of_condition rfl (by simp [hlive, hflush])

end

/-- Settles O49: a fetch, a LOOP and a NOP leave a channel where their place in the program says, and an
acknowledgement leaves a barrier what `barCheck` makes of it: open, or complete with its error. -/
theorem dmaFlow : Obligations.DmaFlow := by
  refine ⟨fun s r ch v hlive hmay => ⟨fun hidle => ?go, fun hrun => ?abort⟩,
    fun s ch hon hnone => ⟨becomes_programFetch none hon hnone, fun l => ?read⟩,
    fun s ch => ⟨fun hat => ?loop, fun hat h => (becomes_wait hat).to_eq (State.waitIns_begins h),
      fun hat hpoll hodd => (becomes_wait hat).to_eq (State.waitIns_misaligned hpoll hodd),
      fun hon hwait hpoll hdue => ?poll,
      fun t0 hon hwait hset hdue => (becomes_waitExpiry hon hwait hset hdue).to_eq State.waitEnd_eq,
      fun hat => ?nop, fun hat => (becomes_dmaEnd hat).to_eq State.endIns_eq,
      fun ok hlive hout => ?acknowledged, fun ok hlive hflush => ?flushed⟩⟩
  case go =>
    obtain ⟨habort, hgo⟩ := bit_goWord v
    have hb : Becomes (.dmaGo r ch v) s (s.goDma ch) :=
      (becomes_dmaCtl rfl hlive hmay).to_eq (State.writeDmaCtl_go habort hgo)
    refine hb.completes ?_
    simp only [State.chan_intSweep, State.goDma_chan hidle]
    simp +contextual
  case abort =>
    exact (becomes_dmaCtl rfl hlive hmay).to_eq (State.writeDmaCtl_abort (bit_or_flag v (by decide)) hrun)
  case read =>
    obtain ⟨hpc, hins, -⟩ := Chan.place_eq_iff.mp (State.progDone_place (s := s) (n := ch) l)
    refine (becomes_programFetch (some l) hon hnone).completes ?_
    rw [State.chan_intSweep, hpc, hins]
    exact ⟨rfl, fun i => (s.chan ch).insRead_get l⟩
  case loop =>
    obtain ⟨hpc, -, hctr⟩ := Chan.place_eq_iff.mp (State.loop_place (s := s) (n := ch))
    refine (becomes_loop hat).completes ?_
    rw [State.chan_intSweep, hpc, hctr]
    exact ⟨(tget_tset ..).trans (if_pos rfl), rfl⟩
  case poll =>
    have hb {got : Option Word} (h : s.pollWord ch (waitAddr (s.chan ch).instr) = got) :=
      (becomes_waitPoll hon hwait hpoll hdue).to_eq (State.pollIns_eq h)
    exact ⟨hb, fun v hv => ⟨fun hmet => (hb hv).to_eq (if_pos hmet), fun hnot => (hb hv).to_eq (if_neg hnot)⟩⟩
  case nop =>
    obtain ⟨hpc, hins, -⟩ := Chan.place_eq_iff.mp (s.goIns_place ch ((s.chan ch).pc + 1))
    refine (becomes_nop hat).completes ?_
    rw [State.chan_intSweep, hpc, hins, State.intSweep_held]
    exact ⟨rfl, rfl, (State.nextIns_held ..).trans (s.setChan_held ..)⟩
  case acknowledged =>
    have hb := becomes_writeAcknowledge (ch := ch) ok hlive hout
    have hx := s.chan_setChan_same ch { s.chan ch with out := (s.chan ch).out - 1 }
    refine ⟨fun hopen => hb.to_eq ?_,
      fun hbar hlast hsp => hb.to_eq
        (State.barCheck_completes hx hbar (by simp [hsp]) (by simp [Chan.writesOut, hsp, hlast]) :),
      fun hbar hlast hsp hhost hflush => hb.to_eq (State.barCheck_fence hx hbar hsp (by simp [hlast]) hhost hflush :)⟩
    rcases hopen with hbar | ⟨hsp, hmore⟩
    · exact State.barCheck_unbarred hx hbar
    · exact State.barCheck_internal hx hsp (Nat.sub_pos_of_lt hmore)
  case flushed =>
    have hb := becomes_flushAcknowledge (ch := ch) ok hlive hflush
    have hx := s.chan_flushed ch ((s.chan ch).flushed ok)
    refine ⟨fun hbar => ?_, fun hbar hhost hsp => ?_, fun hbar hhost hsp hout => ?_⟩
    · rw [Chan.flushed_other ok (.inl hbar)] at hb hx
      exact hb.to_eq (State.barCheck_unbarred hx hbar)
    · rw [Chan.flushed_own ok hbar hhost hsp] at hb hx
      exact hb.to_eq (State.barCheck_completes hx hbar (by simp [hsp]) (by simp [Chan.writesOut, hsp, hhost]) :)
    · rw [Chan.flushed_other ok (.inr hsp)] at hb hx
      exact hb.to_eq (State.barCheck_fence hx hbar hsp hout hhost rfl :)

end Sys2Proof.Machine
end

section
/-! PROOFS of the family 11_rings_and_dma: the data that a DMA program moves, its signals and its barriers. -/

namespace Sys2Proof.Machine

open Sys2Proof

/-! ### Barriers of instructions (R315) -/

/-- R315: a channel whose instruction waits for its writes to a space. -/
def Chan.barred (c : Chan) (moved err sp : Nat) : Chan :=
  { c with barWait := true, barSp := sp, barErr := err, moved := moved }

theorem State.insWait_unbarred (s : State) (n moved err sp : Nat) :
    s.insWait n moved err false sp = s.insDone n moved err := if_neg Bool.false_ne_true

/-- R315: an instruction with a barrier waits until no write of its space is outstanding. -/
theorem State.insWait_barred (s : State) (n moved err sp : Nat) :
    s.insWait n moved err true sp = (s.setChan n ((s.chan n).barred moved err sp)).barCheck n := by
  have hunfold : s.insWait n moved err true sp =
      let t := s.setChan n ((s.chan n).barred moved err sp)
      if ! (t.chan n).writesOut sp then t.barDone n else if sp = 1 then t else t.confirm n := rfl
  rw [hunfold, State.barCheck]
  simp only [State.chan_setChan_same, Chan.barred]
  cases Chan.writesOut _ sp <;> rfl

/-- R315: what a FENCE waits for. -/
theorem Chan.writesOut_fence {c : Chan} :
    c.writesOut 2 = true ↔ 0 < c.out ∨ c.hostOut = true ∨ c.flush = true := by simp [Chan.writesOut]

section
variable {s : State} {n sp : Nat} (moved err : Nat)

theorem State.insWait_internal (hsp : sp = 1) (hout : 0 < (s.chan n).out) :
    s.insWait n moved err true sp = s.setChan n ((s.chan n).barred moved err sp) := by
  rw [State.insWait_barred]
  exact State.barCheck_internal (s.chan_setChan_same ..) hsp hout

/-- R315: writes to host memory are confirmed by a read that follows them. -/
theorem State.insWait_confirms (hsp : sp ≠ 1) (hw : (s.chan n).writesOut sp = true) :
    s.insWait n moved err true sp = (s.setChan n ((s.chan n).barred moved err sp)).confirm n := by
  rw [State.insWait_barred]
  exact State.barCheck_confirms (s.chan_setChan_same ..) rfl hsp hw

theorem State.insWait_completes (hsp : sp ≠ 2) (hw : (s.chan n).writesOut sp = false) :
    s.insWait n moved err true sp = (s.setChan n ((s.chan n).barred moved err sp)).insDone n moved err := by
  rw [State.insWait_barred]
  exact (State.barCheck_completes (s.chan_setChan_same n ((s.chan n).barred moved err sp)) rfl hsp hw :)

end

/-! ### MOVE (R314, R316, R329) -/

/-- R329: a request is split into no units where it is for no bytes. -/
theorem splitReq_eq_nil_iff (fuel a len : Nat) : splitReq (fuel + 1) a len = [] ↔ len = 0 := by
  simp [splitReq]

theorem MoveArgs.parts_ne_nil_iff (a : MoveArgs) :
    a.parts ≠ [] ↔ if a.srcSp = 1 then 0 < a.len else 4 ≤ a.len := by
  unfold MoveArgs.parts
  split
  · simp [splitReq_eq_nil_iff, Nat.pos_iff_ne_zero]
  · simp only [ne_eq, List.replicate_eq_nil_iff]
    omega

/-- R316, R329: a MOVE is to wait for reads of DRAM. -/
def MoveArgs.reads (a : MoveArgs) : Prop := a.aligned = true ∧ a.fromDram = true ∧ a.parts ≠ []

theorem MoveArgs.not_reads_of_misaligned {a : MoveArgs} (h : a.aligned = false) : ¬ a.reads := by
  simp [MoveArgs.reads, h]

theorem MoveArgs.not_reads_host {a : MoveArgs} (h : a.srcSp = 0) : ¬ a.reads := by
  simp [MoveArgs.reads, MoveArgs.fromDram, h]

theorem MoveArgs.reads_iff_run {a : MoveArgs} (haligned : a.aligned = true) (hsp : a.srcSp = 1) :
    a.reads ↔ dramBase < a.src + a.len ∧ 0 < a.len := by
  simp [MoveArgs.reads, MoveArgs.fromDram, -ne_eq, MoveArgs.parts_ne_nil_iff, haligned, hsp]

/-- R316: the fixed address is a whole word, so that it lies in DRAM, or all of it before. -/
theorem MoveArgs.reads_iff_fixed {a : MoveArgs} (haligned : a.aligned = true) (hsp : a.srcSp = 2) :
    a.reads ↔ dramBase ≤ a.src ∧ 4 ≤ a.len := by
  have hword : a.src % 4 = 0 := by
    simp only [MoveArgs.aligned, hsp, Bool.and_eq_true, Bool.or_eq_true, decide_eq_true_eq] at haligned
    obtain ⟨⟨hsrc, -⟩, -⟩ := haligned
    exact hsrc.resolve_left (by decide)
  have hbase : dramBase < a.src + 4 ↔ dramBase ≤ a.src := by
    unfold dramBase
    omega
  simp [MoveArgs.reads, MoveArgs.fromDram, -ne_eq, MoveArgs.parts_ne_nil_iff, haligned, hsp, hbase]

/-- R314: a channel as its MOVE begins to copy: no read is under way, and the next may go on where it ends. -/
def Chan.moveEnded (c : Chan) : Chan :=
  let a := c.moveArgs
  { c with
    rd := []
    srcEnd := if a.srcSp = 2 then a.src else a.src + a.len
    dstEnd := if a.dstSp = 2 then a.dst else a.dst + a.len }

theorem Chan.moveEnded_of_unread {c : Chan} (hrd : c.rd = []) : c.moveEnded =
    { c with
      srcEnd := if c.moveArgs.srcSp = 2 then c.moveArgs.src else c.moveArgs.src + c.moveArgs.len
      dstEnd := if c.moveArgs.dstSp = 2 then c.moveArgs.dst else c.moveArgs.dst + c.moveArgs.len } := by
  rw [Chan.moveEnded, ← hrd]

section
variable {s : State} {n : Nat} (data : List Byte) (ok : Bool)

/-- R316, R329: a MOVE copies once its reads of DRAM have been served. -/
theorem State.move_served (hrd : (s.chan n).rd ≠ []) (hall : ((s.chan n).rd.all fun p => p.data.isSome) = true) :
    s.move n data ok =
      let a := (s.chan n).moveArgs
      let b := partBytes (s.chan n).rd 0
      ((s.setChan n (s.chan n).moveEnded).copy n a.srcSp a.dstSp a.src a.dst a.len (some b.1) b.2
        (if b.1.length < a.len then 3 else 0)).done n a := by
  rw [State.move, if_pos hrd, if_pos hall]
  rfl

theorem State.move_unserved (hrd : (s.chan n).rd ≠ []) (hall : ((s.chan n).rd.all fun p => p.data.isSome) = false) :
    s.move n data ok = s := by
  rw [State.move, if_pos hrd, if_neg (by simp [hall])]

section
variable (hrd : (s.chan n).rd = [])
include hrd

theorem State.move_reads (h : (s.chan n).moveArgs.reads) : s.move n data ok = s.moveRead n (s.chan n).moveArgs := by
  obtain ⟨haligned, hdram, hparts⟩ := h
  rw [State.move, if_neg (by simp [hrd]), if_pos (by simp [haligned, hdram, hparts])]

theorem State.move_unread (h : ¬ (s.chan n).moveArgs.reads) : s.move n data ok =
    let a := (s.chan n).moveArgs
    let u := s.setChan n (s.chan n).moveEnded
    if ! a.aligned then u.insDone n 0 4
    else if a.srcSp = 0 then
      ((u.readHost48 (s.chanOwner n) a.src a.len).copy n 0 a.dstSp a.src a.dst a.len (some data) []
        (if ok then 0 else 1)).done n a
    else (u.copy n a.srcSp a.dstSp a.src a.dst a.len none [] 0).done n a := by
  rw [State.move, if_neg (by simp [hrd]), if_neg (by simpa [MoveArgs.reads] using h), Chan.moveEnded_of_unread hrd]
  rfl

theorem State.move_misaligned (hodd : (s.chan n).moveArgs.aligned = false) :
    s.move n data ok = (s.setChan n (s.chan n).moveEnded).insDone n 0 4 :=
  (State.move_unread data ok hrd (MoveArgs.not_reads_of_misaligned hodd)).trans (if_pos (by simp [hodd]))

/-- R314: a MOVE from host memory copies the bytes that came back. -/
theorem State.move_host (heven : (s.chan n).moveArgs.aligned = true) (hsp : (s.chan n).moveArgs.srcSp = 0) :
    s.move n data ok =
      let a := (s.chan n).moveArgs
      (((s.setChan n (s.chan n).moveEnded).readHost48 (s.chanOwner n) a.src a.len).copy n 0 a.dstSp a.src a.dst a.len
        (some data) [] (if ok then 0 else 1)).done n a :=
  (State.move_unread data ok hrd (MoveArgs.not_reads_host hsp)).trans <| (if_neg (by simp [heven])).trans (if_pos hsp)

/-- R316: a MOVE from registers or table memory reads its words as it copies. -/
theorem State.move_internal {sp : Nat} (heven : (s.chan n).moveArgs.aligned = true)
    (hsp : (s.chan n).moveArgs.srcSp = sp) (hpos : sp ≠ 0) (hno : ¬ (s.chan n).moveArgs.reads) :
    s.move n data ok =
      let a := (s.chan n).moveArgs
      ((s.setChan n (s.chan n).moveEnded).copy n sp a.dstSp a.src a.dst a.len none [] 0).done n a := by
  subst hsp
  exact (State.move_unread data ok hrd hno).trans <| (if_neg (by simp [heven])).trans (if_neg hpos)

end
end

/-! ### SIGNAL (R314-R316) -/

section
variable {s : State} {n : Nat}

/-- R313: the space that an instruction's word 0 gives a SIGNAL, and the address of the word that it writes there. -/
def Chan.signalSp (c : Chan) : Nat := fld (wAt c.instr 0) 25 24

def Chan.signalAt (c : Chan) : Nat := insAddr c.signalSp (wAt c.instr 1).toNat (fld (wAt c.instr 3) 15 0)

/-- R314: SIGNALED, as the instruction of the channel `c` leaves it. -/
def State.sigBy (s : State) (n : Nat) (c : Chan) : State := s.sigInt n (bit (wAt c.instr 0) 26)

theorem State.signal_alone (hsp : (s.chan n).signalSp = 3) : s.signal n = (s.sigBy n (s.chan n)).insDone n 0 0 :=
  if_pos hsp

/-- R315: a SIGNAL's write to host memory is to be confirmed. -/
theorem State.signal_host (hsp : (s.chan n).signalSp = 0) :
    s.signal n =
      let t := (s.toHost48 (s.chanOwner n) (s.chan n).signalAt (leBytes (wAt (s.chan n).instr 2))).sigBy n (s.chan n)
      (t.setChan n { t.chan n with hostEnd := spAddr 0 ((s.chan n).signalAt + 3), hostOut := true }).insWait n 4 0
        (bit (wAt (s.chan n).instr 0) 27) 0 := by
  have h0 : fld (wAt (s.chan n).instr 0) 25 24 = 0 := hsp
  rw [State.signal, if_neg (by simp [h0]), if_neg (by simp [h0]), if_neg (by simp [h0]), if_pos h0]
  rfl

/-- R314, R316: a SIGNAL to internal space fails, or writes its word; where that write has stopped its channel, nothing
more follows (R311, R318). -/
theorem State.signal_internal (hsp : (s.chan n).signalSp = 1 ∨ (s.chan n).signalSp = 2) :
    s.signal n =
      if (s.chan n).signalAt % 4 ≠ 0 then (s.sigBy n (s.chan n)).insDone n 0 4
      else if s.intRefused (hostReq (s.chanOwner n)) (s.chan n).signalAt true then (s.sigBy n (s.chan n)).insDone n 0 3
      else
        let u := s.intWrite n (s.chan n).signalAt (wAt (s.chan n).instr 2)
        if u.chanRuns n = false then u
        else
          let t := u.sigBy n (s.chan n)
          (t.setChan n { t.chan n with out := (t.chan n).out + 1 }).insWait n 4 0
            (bit (wAt (s.chan n).instr 0) 27) 1 := by
  have h3 : fld (wAt (s.chan n).instr 0) 25 24 ≠ 3 := by unfold Chan.signalSp at hsp; omega
  have h0 : fld (wAt (s.chan n).instr 0) 25 24 ≠ 0 := by unfold Chan.signalSp at hsp; omega
  simp only [State.signal, h3, h0, if_false, ne_eq, not_false_iff, decide_true, Bool.true_and, decide_eq_true_eq,
    Bool.not_eq_true']
  rfl

end

theorem becomes_move {s : State} {ch : Fin 16} (data : List Byte) (ok : Bool) (hat : s.atIns ch 1 = true) :
    Becomes (.move ch data ok) s (s.move ch data ok) := becomes_of_condition rfl hat

theorem becomes_signal {s : State} {ch : Fin 16} (hat : s.atIns ch 4 = true) : Becomes (.signal ch) s (s.signal ch) :=
  becomes_of_condition rfl hat

theorem becomes_fence {s : State} {ch : Fin 16} (hat : s.atIns ch 5 = true) :
    Becomes (.fence ch) s ((s.setChan ch ((s.chan ch).barred 0 0 2)).barCheck ch) := by
  rw [← State.insWait_barred]
  exact becomes_of_condition rfl hat

/-- Settles O50: whether a MOVE reads DRAM, the space of a SIGNAL's word and the writes still out decide each case; what
follows an instruction's own writes is one wait for those of its space. -/
theorem dmaData : Obligations.DmaData := by
  refine ⟨fun s ch data ok hat => ?move, fun s ch hat => ?signal, fun s ch hat => ?fence,
    fun s ch moved err sp => ?barrier⟩
  case move =>
    intro c a ends u fin
    have hfin (m : Moving) : m.done ch a = fin m := by simp [fin, Moving.done]
    have hb := becomes_move data ok hat
    refine ⟨fun hrd => ?unread, fun hrd => ⟨fun hall => ?served, fun hall => ?unserved⟩⟩
    case unread =>
      refine ⟨fun hodd => hb.to_eq (State.move_misaligned data ok hrd hodd),
        fun heven hsp => hb.to_eq ((State.move_host data ok hrd heven hsp).trans (hfin _)),
        fun heven hsp hno => hb.to_eq ((State.move_internal data ok hrd heven hsp (by decide) ?_).trans (hfin _)),
        fun heven hsp hdram hlen => hb.to_eq (State.move_reads data ok hrd ?_),
        fun heven hsp hno => hb.to_eq ((State.move_internal data ok hrd heven hsp (by decide) ?_).trans (hfin _)),
        fun heven hsp hdram hlen => hb.to_eq (State.move_reads data ok hrd ?_)⟩
      · exact fun h => absurd ((MoveArgs.reads_iff_run heven hsp).mp h) (by omega)
      · exact (MoveArgs.reads_iff_run heven hsp).mpr ⟨hdram, hlen⟩
      · exact fun h => absurd ((MoveArgs.reads_iff_fixed heven hsp).mp h) (by omega)
      · exact (MoveArgs.reads_iff_fixed heven hsp).mpr ⟨hdram, hlen⟩
    case served => exact hb.to_eq ((State.move_served data ok hrd hall).trans (hfin _))
    case unserved => exact hb.to_eq (State.move_unserved data ok hrd hall)
  case signal =>
    intro w w0 sp a sig
    have hb := becomes_signal hat
    refine ⟨fun hsp => hb.to_eq (State.signal_alone hsp), fun hsp => hb.to_eq (State.signal_host hsp),
      fun hsp => ?_⟩
    have hin := hb.to_eq (State.signal_internal hsp)
    refine ⟨fun hodd => hin.to_eq (if_pos hodd), fun heven hno => hin.to_eq ?_, fun heven hmay => ?_⟩
    · exact (if_neg (not_not.mpr heven)).trans (if_pos hno)
    · have hwrites := hin.to_eq ((if_neg (not_not.mpr heven)).trans (if_neg (ne_true_of_eq_false hmay)))
      exact ⟨fun hstop => hwrites.to_eq (if_pos hstop),
        fun hruns => hwrites.to_eq (if_neg (ne_false_of_eq_true hruns))⟩
  case fence =>
    have hb := becomes_fence hat
    have hx := s.chan_setChan_same ch ((s.chan ch).barred 0 0 2)
    refine ⟨fun hout hhost hflush => hb.to_eq (State.barCheck_fence hx rfl rfl hout hhost hflush :),
      fun hopen => hb.to_eq
        (State.barCheck_confirms hx rfl (show 2 ≠ 1 by decide) (Chan.writesOut_fence.mpr hopen) :)⟩
  case barrier =>
    refine ⟨s.insWait_unbarred ch moved err sp, State.insWait_internal moved err, fun hsp hw => ?_, fun hnone => ?_⟩
    · exact State.insWait_confirms moved err (by omega) (by rcases hw with h | h <;> simp [Chan.writesOut, hsp, h])
    · refine State.insWait_completes moved err (by omega) ?_
      rcases hnone with ⟨hsp, hout⟩ | ⟨hsp, hhost, hflush⟩
      · simp [Chan.writesOut, hsp, hout]
      · simp [Chan.writesOut, hsp, hhost, hflush]

end Sys2Proof.Machine
end

section
/-! PROOFS of the family 11_rings_and_dma: doorbells, descriptor fetches, write-backs and the settings of rings. -/

namespace Sys2Proof.Machine

open Sys2Proof

/-! ### Doorbells (R295) -/

section
variable {s : State} {h : Nat}

/-- R295: a nudge counts where the device may read the host's memory and NUDGE_EN is 1. -/
theorem State.nudge_starts (hen : bit (s.rg .rngCtl h) 31 = true) (hreach : s.hostReach h = true)
    (hidle : (s.hst h).fetching = false) : s.nudge h = s.dbStart h := by
  simp [State.nudge, State.dbWant, hen, hreach, hidle]

theorem State.nudge_again (hen : bit (s.rg .rngCtl h) 31 = true) (hreach : s.hostReach h = true)
    (hrun : (s.hst h).fetching = true) : s.nudge h = s.setHst h { s.hst h with again := true } := by
  simp [State.nudge, State.dbWant, hen, hreach, hrun]

/-- R295: a doorbell fetch that fails and that no nudge has asked for once more. -/
theorem State.dbDone_failed (hagain : (s.hst h).again = false) :
    s.dbDone h none =
      ((s.setHst h { s.hst h with fetching := false, again := false }).tlp h).orRg .rngErr h 0 (flag 31 true) :=
  if_neg (ne_true_of_eq_false hagain)

/-- R294, R295: one that brings the record gives every ring its host count. -/
theorem State.dbDone_record (hagain : (s.hst h).again = false) (ws : List Word) :
    s.dbDone h (some ws) = (List.range 52).foldl (fun st t => st.takeCount h t (wAt ws t))
      ((s.setHst h { s.hst h with fetching := false, again := false }).tlp h) :=
  if_neg (ne_true_of_eq_false hagain)

end

/-! ### Descriptor fetches (R297) -/

/-- The first of a range of numbers that a search takes. -/
theorem findSome?_range {α : Type} {f : Nat → Option α} {n : Nat} {x : α}
    (h : (List.range n).findSome? f = some x) : ∃ j < n, f j = some x ∧ ∀ i < j, f i = none := by
  obtain ⟨l, j, r, hl, hx, hnone⟩ := List.findSome?_eq_some_iff.mp h
  rw [List.range_eq_range', List.range'_eq_append_iff] at hl
  obtain ⟨k, hk, rfl, hr⟩ := hl
  obtain ⟨rfl, hlt, -⟩ := List.range'_eq_cons_iff.mp hr.symm
  exact ⟨_, by omega, hx, fun i hi => hnone i (by simp [List.mem_range'_1]; omega)⟩

section
variable {s : State} {h t : Nat}

/-- R297: the ring whose turn it is may have descriptors fetched, and none from the rotation's start to it. -/
theorem State.fetchNext_some (hnext : s.fetchNext h = some t) :
    t < 52 ∧ s.fetchCount h t ≠ 0 ∧
      ∀ i < (t + 52 - (s.hst h).rr % 52) % 52, s.fetchCount h (((s.hst h).rr + i) % 52) = 0 := by
  obtain ⟨j, hj, hturn, hbefore⟩ := findSome?_range hnext
  obtain ⟨hcount, rfl⟩ : s.fetchCount h (((s.hst h).rr + j) % 52) ≠ 0 ∧ ((s.hst h).rr + j) % 52 = t := by
    simpa using hturn
  have hsteps : (((s.hst h).rr + j) % 52 + 52 - (s.hst h).rr % 52) % 52 = j := by omega
  refine ⟨Nat.mod_lt _ (by decide), hcount, fun i hi => ?_⟩
  simpa using hbefore i (hsteps ▸ hi)

/-- R297, R302: a fetch of descriptors, the rotation moved on past its ring. -/
theorem State.descStart_next (hn : s.fetchCount h t ≠ 0) :
    s.descStart h t =
      let r := s.ring h t
      let u := if t < 8 then s.moveOwed h t (· + s.fetchCount h t) else s
      let v := u.setRing h t { u.ring h t with inFlight := s.fetchCount h t }
      (v.setHst h { v.hst h with rr := (t + 1) % 52 }).readHost h (r.base + r.fetched.toNat % r.size * 32)
        (32 * s.fetchCount h t) :=
  if_neg hn

/-- R297, R302: a failed fetch stops its ring with cause 2, and what a command ring owed for it is owed no more. -/
theorem State.descDone_failed_cmds (ht : t < 8) :
    s.descDone h t none =
      let u := (s.tlp h).moveOwed h t (· - (s.ring h t).inFlight)
      (u.setRing h t { u.ring h t with inFlight := 0 }).ringErr h t 2 := by
  simp only [State.descDone, if_pos ht]
  rfl

theorem State.descDone_failed (ht : 8 ≤ t) :
    s.descDone h t none = ((s.tlp h).setRing h t { s.ring h t with inFlight := 0 }).ringErr h t 2 := by
  simp only [State.descDone, if_neg (Nat.not_lt.mpr ht)]
  rfl

end

/-! ### Settings of rings (R294, R299) -/

theorem testBit_fld {w : Word} {hi lo i : Nat} (h : i < hi + 1 - lo) : (fld w hi lo).testBit i = bit w (lo + i) := by
  simp [fld, bit, BitVec.getLsbD, Nat.testBit_shiftRight, h]

/-- A flag above a field leaves the field. -/
theorem fld_or_flag (v : Word) {hi lo i : Nat} (h : hi < i) : fld (v ||| flag i true) hi lo = fld v hi lo :=
  fld_eq_of_bits (fld_lt v hi lo) fun j hj => (bit_or_flag_of_ne v (by omega)).trans (testBit_fld hj).symm

section
variable {s : State} {h t : Nat}

theorem State.ring_intSweep (s : State) (h t : Nat) : s.intSweep.ring h t = s.ring h t := by
  simp only [State.ring, State.intSweep_rings]

theorem State.ring_readHost (s : State) (k a len h t : Nat) : (s.readHost k a len).ring h t = s.ring h t := by
  simp [State.ring, State.readHost, State.tlp]

theorem State.ring_setRg (s : State) (n : RegName) (k j : Nat) (v : Word) (h t : Nat) :
    (s.setRg n k j v).ring h t = s.ring h t := by
  simp only [State.ring, State.setRg_rings]

/-- R298: a ring that stops with an error keeps its settings and counts. -/
theorem State.ring_ringErr (s : State) (h t cause : Nat) :
    (s.ringErr h t cause).ring h t = { s.ring h t with err := true } := by
  rw [State.ringErr, State.ring_setRing]
  split
  · rfl
  · rw [State.ring_setRg]

/-- R294, R296, R299: a ring as its enable with a host count leaves it, where the count lies in range. -/
def Ring.started (old : Ring) (base : Nat) (v c : Word) : Ring :=
  { en := true, used := true, base := base, log2 := max 6 (min 16 (fld v 27 24)), gen := fld v 23 17
    cpl := fld v 14 12, coalUs := fld v 11 4, coalLog := fld v 3 0, host := c, wbDue := old.wbDue || old.dev ≠ 0 }

theorem State.ring_ringStart (s : State) (h t : Nat) (v c : Word) :
    ∃ base e, (s.ringStart h t v (some c)).ring h t = { (s.ring h t).started base v c with err := e } := by
  have hread (u : State) :
      (if u.hostReach h then u.readHost h (u.dbAddr h) 256 else u).ring h t = u.ring h t :=
    ite_same (·.ring h t) _ _ _ u (u.ring_readHost ..) rfl
  simp only [State.ringStart, Option.isNone_some, Bool.false_eq_true, if_false]
  split
  · exact ⟨_, true, by rw [State.ring_ringErr, hread, State.ring_setRing]; rfl⟩
  · exact ⟨_, false, by rw [hread, State.ring_setRing]; rfl⟩

/-- R299: a write of RNG_CFG with EN 1 to an idle ring that is off enables it. -/
theorem State.writeRngCfg_enables {v : Word} (count : Option Word) (hen : bit v 31 = true)
    (hoff : (s.ring h t).en = false) (hidle : s.ringIdle h t = true) :
    s.writeRngCfg h t v count = (s.setRg .rngCfg h t (v &&& 0x8FFE7FFF)).ringStart h t v count := by
  simp [State.writeRngCfg, hen, hoff, hidle]

/-- R299: one with EN 0 disables it and clears its error. -/
theorem State.writeRngCfg_disables {v : Word} (count : Option Word) (hen : bit v 31 = false) :
    ((s.writeRngCfg h t v count).ring h t).en = false ∧ ((s.writeRngCfg h t v count).ring h t).err = false := by
  simp [State.writeRngCfg, hen]

theorem bit_disableWord (v : Word) : bit (v &&& 0x7FFFFFFF) 31 = false := by
  have hmask : (0x7FFFFFFF : Word) = ~~~ flag 31 true := by decide
  rw [hmask]
  exact bit_andNot_flag v (by decide)

end

/-! ### The commands of rings, each under its condition (R295-R299) -/

section
variable {s : State} {h : Fin 2}

theorem becomes_rngNudge {r : Req} (v : Word) (hlive : s.live = true) (hr : mayBank r h = true) :
    Becomes (.rngNudge r h v) s (s.nudge h) := becomes_of_condition rfl (by simp [hlive, hr])

theorem becomes_doorbellFetchComplete (words : Option (List Word)) (hon : s.hostOn h = true)
    (hrun : (s.hst h).fetching = true) : Becomes (.doorbellFetchComplete h words) s (s.dbDone h words) :=
  becomes_of_condition rfl (by simp [hon, hrun])

variable {t : Fin 52}

theorem becomes_descriptorFetch (hon : s.hostOn h = true) (hreach : s.hostReach h = true)
    (hnext : s.fetchNext h = some t.val) : Becomes (.descriptorFetch h t) s (s.descStart h t) :=
  becomes_of_condition rfl (by simp [hon, hreach, hnext])

theorem becomes_descriptorFetchComplete (descs : Option (List (List Word))) (hon : s.hostOn h = true)
    (hfly : 0 < (s.ring h t).inFlight) : Becomes (.descriptorFetchComplete h t descs) s (s.descDone h t descs) :=
  becomes_of_condition rfl (by simp [hon, hfly])

theorem becomes_ringEnable {r : Req} (v c : Word) (hlive : s.live = true) (hr : mayBank r h = true) :
    Becomes (.ringEnable r h t v c) s (s.writeRngCfg h t (v ||| flag 31 true) (some c)) :=
  becomes_of_condition rfl (by simp [hlive, hr])

theorem becomes_ringDisable {r : Req} (v : Word) (hlive : s.live = true) (hr : mayBank r h = true) :
    Becomes (.ringDisable r h t v) s (s.writeRngCfg h t (v &&& 0x7FFFFFFF) none) :=
  becomes_of_condition rfl (by simp [hlive, hr])

end

/-- Settles O47: each command is its operation under its condition; the search for the next ring takes the first of the
rotation that may fetch, and an enabled ring keeps its settings and counts even where its host count stops it. -/
theorem ringFetches : Obligations.RingFetches := by
  refine ⟨fun s h => ⟨fun r v hlive hr hen hreach => ?nudge, fun hon hreach hen hidle hdue => ?poll,
      fun hon hrun hagain => ?fetched⟩,
    fun s h t hon hreach hnext => ?fetch, fun s h t => State.fetchNext_some,
    fun s h t hon hfly => ⟨fun ds => ?taken, fun ht => ?failedCmds, fun ht => ?failed⟩,
    fun s h t hon hreach hdue => ?writeBack,
    fun s r h t v c hlive hr => ⟨fun hoff hidle => ?enable, ?disable⟩,
    fun s h t hon hlevel => becomes_of_condition rfl (by simp [hon, hlevel])⟩
  case nudge =>
    have hb := becomes_rngNudge v hlive hr
    exact ⟨fun hidle => hb.to_eq (State.nudge_starts hen hreach hidle),
      fun hrun => hb.to_eq (State.nudge_again hen hreach hrun)⟩
  case poll => exact becomes_of_condition rfl (by simp [hon, hreach, hen, hidle, hdue])
  case fetched =>
    exact ⟨(becomes_doorbellFetchComplete none hon hrun).to_eq (State.dbDone_failed hagain),
      fun ws => (becomes_doorbellFetchComplete (some ws) hon hrun).to_eq (State.dbDone_record hagain ws)⟩
  case fetch =>
    obtain ⟨-, hn, -⟩ := State.fetchNext_some hnext
    exact ⟨hn, (becomes_descriptorFetch hon hreach hnext).to_eq (State.descStart_next hn)⟩
  case taken =>
    have hb := becomes_descriptorFetchComplete (some ds) hon hfly
    exact ⟨fun ht => hb.to_eq (if_pos ht),
      fun hlo hhi => hb.to_eq ((if_neg (Nat.not_lt.mpr hlo)).trans (if_pos hhi)),
      fun hlo => hb.to_eq ((if_neg (by omega)).trans (if_neg (Nat.not_lt.mpr hlo)))⟩
  case failedCmds => exact (becomes_descriptorFetchComplete none hon hfly).to_eq (State.descDone_failed_cmds ht)
  case failed => exact (becomes_descriptorFetchComplete none hon hfly).to_eq (State.descDone_failed ht)
  case writeBack => exact becomes_of_condition rfl (by simp [hon, hreach, hdue])
  case enable =>
    refine (becomes_ringEnable v c hlive hr).completes ?_
    obtain ⟨base, e, hring⟩ := State.ring_ringStart (s.setRg .rngCfg h t ((v ||| flag 31 true) &&& 0x8FFE7FFF)) h t
      (v ||| flag 31 true) c
    rw [State.ring_intSweep, State.writeRngCfg_enables _ (bit_or_flag v (by decide)) hoff hidle, hring,
      State.ring_setRg]
    simp [Ring.started, fld_or_flag]
  case disable =>
    refine (becomes_ringDisable v hlive hr).completes ?_
    rw [State.ring_intSweep]
    exact State.writeRngCfg_disables none (bit_disableWord v)

end Sys2Proof.Machine
end

section
/-! PROOFS of the family 15_chain_freeze_debug and of the frames: what a step leaves of the fuses and the queue, and
three frames that a concrete state breaks. -/

namespace Sys2Proof.Machine

open Sys2Proof

/-! ### The front of the queue (R409) -/

/-- Settles O1: the step looks at the queue alone to find its command. -/
theorem stepRunsFront : Obligations.StepRunsFront := by
  intro c rest s h
  unfold step
  rw [h]

/-! ### The fuses (R409) -/

/-- R409: what leaves the identity and the fuses as they were restores none. -/
theorem State.FuseSafe.of_keep {s t : State} (h : t.keep = s.keep) : s.FuseSafe t := by
  have hident : t.ident = s.ident := congrArg (·.2.1) h
  have hfuses : t.fuses = s.fuses := State.fuses_of_keep h
  exact ⟨hident, by rw [hfuses]; exact id, by rw [hfuses]; exact id, by rw [hfuses]; exact id⟩

/-- R409: a blow leaves the queue and what the factory fixed, and no fuse that was blown is whole after it. -/
theorem State.blowDone_safe (s : State) : s.FuseSafe s.blowDone ∧ s.blowDone.pending = s.pending := by
  unfold State.blowDone
  split
  · next f _ =>
    extract_lets one z fuses
    have hk := (State.ownPop_keep _).trans
      (State.reply_keep ({ s with fuses := fuses, chain := { s.chain with blowing := none } }) f 0 [])
    have hfuses : fuses = if one then { s.fuses with payload := true } else { s.fuses with debug := true } := rfl
    refine ⟨⟨congrArg (·.2.1) hk, ?_⟩, congrArg (·.1) hk⟩
    rw [State.fuses_of_keep hk, hfuses]
    split <;> simp
  · exact ⟨.of_keep rfl, rfl⟩

/-- R409: a command leaves the queue, what the factory fixed, and every blown fuse. -/
theorem exec_safe {i : Instr} {s t : State} (e : exec i s = .next t) : s.FuseSafe t ∧ t.pending = s.pending := by
  by_cases hi : i = .fuseBlown
  · subst hi
    injection e with e
    subst e
    split
    · exact ⟨by simpa only [State.FuseSafe, State.intSweep_ident, State.intSweep_fuses] using s.blowDone_safe.1,
        (State.intSweep_pending _).trans s.blowDone_safe.2⟩
    · exact ⟨.of_keep rfl, rfl⟩
  · exact ⟨.of_keep (exec_keep hi e), congrArg (·.1) (exec_keep hi e)⟩

/-- Settles O3: the tick keeps the three, and a command runs on the state without its own front. -/
theorem fusesStayBlown : Obligations.FusesStayBlown := by
  intro s t e
  unfold step at e
  split at e
  · next hp =>
    injection e with e
    subst e
    have hk := State.tick_keep s
    exact ⟨.of_keep hk, by rw [hp]; exact (congrArg (·.1) hk : s.tick.pending = s.pending).trans hp⟩
  · next hp =>
    have h := exec_safe e
    exact ⟨h.1, by rw [hp]; exact h.2⟩

/-! ### Frames that do not hold -/

/-- R370, R375: port group 0 is Pale and has lost the replica that it shares, of which a hit bit is set; an access
wakes the group, which empties the replica, its hit bits too. -/
def State.paleUnkept : State :=
  { State.reset with
    dom := [(domPg 0, { target := .pale, shade := .pale })]
    reload := { unkept := [0] }, tbl := { hit := [(0, true)] } }

/-- R223: the last pipe of a first COMMIT has flipped, FWD_EN is 1 and FORCE_START is still set. -/
def State.firstCommit : State :=
  { State.reset with
    dom := [(domTbl, { target := .active, shade := .active })], held := [(regAddr .chipCtl 0 0 0, 0x100)],
    epc := { st := .flipping }, buf := { forceStart := true } }

/-- R138: a write of NEC_CTL without RESET or INVAL. -/
theorem becomes_admitWrite {s : State} (r : Req) (c : Fin 64) (v : Word) (hon : s.regOn = true) :
    Becomes (.admitWrite r c v) s (s.access r (domPg (c / 8)) fun s => s.writeNecCtl c v) :=
  becomes_of_act (f := fun s => s.access r (domPg (c / 8)) fun s => s.writeNecCtl c v) rfl hon

/-- R53, R277: a write of MAC_CTL with EN 1, whatever its domain. -/
theorem becomes_subPortEnableWrite {s : State} (r : Req) (lp : Fin 256) (v : Word) (hon : s.regOn = true) :
    Becomes (.subPortEnable r lp v) s (s.access r (domPg (lp / 32)) fun s => s.writeMacCtl lp (v ||| flag 15 true)) :=
  becomes_of_act (f := fun s => s.access r (domPg (lp / 32)) fun s => s.writeMacCtl lp (v ||| flag 15 true)) rfl hon

/-- Refutes O58: a write of NEC_CTL wakes a Pale port group, and the replica that its partner did not keep for it loses
its hit bits, which lie beside neither what a woken group does nor a packet's way. -/
theorem not_engineFrames : ¬ Obligations.EngineFrames := by
  intro h
  unfold Obligations.EngineFrames at h
  have hadmit : ∀ x0 x1 x2, Keeps (.admitWrite x0 x1 x2) (·.besideWoken.besidePackets) := by
    repeat obtain ⟨_, h⟩ := h
    assumption
  have hhit := congrArg (·.tbl.hit) (hadmit .host0 0 0 State.paleUnkept _ (becomes_admitWrite .host0 0 0 rfl))
  exact absurd hhit (by decide +kernel)

/-- Refutes O59: the end of a first COMMIT clears FORCE_START, which the buffer holds. -/
theorem not_tableFrames : ¬ Obligations.TableFrames := by
  intro h
  unfold Obligations.TableFrames at h
  have hcommit : Keeps .commitComplete State.besideCommands := by
    repeat obtain ⟨_, h⟩ := h
    assumption
  have hforce := congrArg (·.buf.forceStart) (hcommit State.firstCommit _ rfl)
  exact absurd hforce (by decide +kernel)

/-- Refutes O60: a write of MAC_CTL wakes a Pale port group, and the replica that its partner did not keep for it loses
its hit bits, which lie beside neither what a woken group does nor ports and cages. -/
theorem not_portFrames : ¬ Obligations.PortFrames := by
  intro h
  unfold Obligations.PortFrames at h
  have henable : ∀ x0 x1 x2, Keeps (.subPortEnable x0 x1 x2) (·.besideWoken.besideCages) := by
    repeat obtain ⟨_, h⟩ := h
    assumption
  have hhit := congrArg (·.tbl.hit) (henable .host0 0 0 State.paleUnkept _ (becomes_subPortEnableWrite .host0 0 0 rfl))
  exact absurd hhit (by decide +kernel)

end Sys2Proof.Machine
end

section
/-! PROOFS of the family 12_dram: what each operation may write of the state, and the canonical form of the
contents of DRAM, which every operation keeps. -/

namespace Sys2Proof.Machine

open Sys2Proof

set_option Elab.async false

/-! ### Parts of the state, and what an operation may write -/

/-- The parts of the state: its fields, and of the field `dram` the contents of the devices, as `image`. -/
inductive Part where
  | pending | ident | straps | fuses | time | held | wide | rxAt | priv | latch | dom | reload | clk | ports | cages
  | buses | groups | pkts | nextPkt | reseq | clusters | threads | cstore | img | tbl | cu | epc | buf | sched | led
  | tel | hosts | rings | dma | dram | image | flt | chain | frz | dbg | free | out
  deriving DecidableEq

/-- A part is in one state what it is in another. -/
def Part.Same (s t : State) : Part → Prop
  | .pending => t.pending = s.pending
  | .ident => t.ident = s.ident
  | .straps => t.straps = s.straps
  | .fuses => t.fuses = s.fuses
  | .time => t.time = s.time
  | .held => t.held = s.held
  | .wide => t.wide = s.wide
  | .rxAt => t.rxAt = s.rxAt
  | .priv => t.priv = s.priv
  | .latch => t.latch = s.latch
  | .dom => t.dom = s.dom
  | .reload => t.reload = s.reload
  | .clk => t.clk = s.clk
  | .ports => t.ports = s.ports
  | .cages => t.cages = s.cages
  | .buses => t.buses = s.buses
  | .groups => t.groups = s.groups
  | .pkts => t.pkts = s.pkts
  | .nextPkt => t.nextPkt = s.nextPkt
  | .reseq => t.reseq = s.reseq
  | .clusters => t.clusters = s.clusters
  | .threads => t.threads = s.threads
  | .cstore => t.cstore = s.cstore
  | .img => t.img = s.img
  | .tbl => t.tbl = s.tbl
  | .cu => t.cu = s.cu
  | .epc => t.epc = s.epc
  | .buf => t.buf = s.buf
  | .sched => t.sched = s.sched
  | .led => t.led = s.led
  | .tel => t.tel = s.tel
  | .hosts => t.hosts = s.hosts
  | .rings => t.rings = s.rings
  | .dma => t.dma = s.dma
  | .dram => t.dram = s.dram
  | .image => t.dramDflt = s.dramDflt ∧ t.dram.mem = s.dram.mem
  | .flt => t.flt = s.flt
  | .chain => t.chain = s.chain
  | .frz => t.frz = s.frz
  | .dbg => t.dbg = s.dbg
  | .free => t.free = s.free
  | .out => t.out = s.out

/-- Every part. -/
def Part.all : List Part :=
  [.pending, .ident, .straps, .fuses, .time, .held, .wide, .rxAt, .priv, .latch, .dom, .reload, .clk, .ports, .cages,
    .buses, .groups, .pkts, .nextPkt, .reseq, .clusters, .threads, .cstore, .img, .tbl, .cu, .epc, .buf, .sched, .led,
    .tel, .hosts, .rings, .dma, .dram, .image, .flt, .chain, .frz, .dbg, .free, .out]

theorem Part.mem_all (p : Part) : p ∈ Part.all := by cases p <;> decide

theorem Part.Same.refl (s : State) (p : Part) : p.Same s s := by
  cases p
  case image => exact ⟨rfl, rfl⟩
  all_goals exact rfl

theorem Part.Same.trans {s t u : State} {p : Part} (h : p.Same s t) (g : p.Same t u) : p.Same s u := by
  cases p
  case image => exact ⟨g.1.trans h.1, g.2.trans h.2⟩
  all_goals exact (Eq.trans g h :)

/-- R320: the contents of DRAM are in canonical form. -/
def State.Canonical (s : State) : Prop := twf s.dramDflt s.dram.mem = true

/-- What leads from `s` to `t` writes no part but those of `l`, and leaves the contents of DRAM in canonical form. -/
structure State.Writes (s : State) (l : List Part) (t : State) : Prop where
  same : ∀ p, p ∉ l → p.Same s t
  canon : s.Canonical → t.Canonical

namespace State.Writes

variable {s t u : State} {k l : List Part}

theorem refl (s : State) : s.Writes l s := ⟨fun p _ => .refl s p, id⟩

theorem trans (h : s.Writes l t) (g : t.Writes l u) : s.Writes l u :=
  ⟨fun p hp => (h.same p hp).trans (g.same p hp), g.canon ∘ h.canon⟩

/-- What writes few parts writes no more than more. -/
theorem widen (h : s.Writes k t) (hk : k ⊆ l := by decide +kernel) : s.Writes l t :=
  ⟨fun p hp => h.same p fun hm => hp (hk hm), h.canon⟩

/-- An operation after others. -/
theorem after (g : t.Writes k u) (h : s.Writes l t) (hk : k ⊆ l := by decide +kernel) : s.Writes l u :=
  h.trans (g.widen hk)

theorem of_image (himage : Part.image.Same s t) (h : ∀ p, p ∉ l → p ≠ .image → p.Same s t := by
      intro p hp hi; cases p <;> first | exact absurd (by decide) hp | exact absurd rfl hi | exact rfl) :
    s.Writes l t :=
  ⟨fun p hp => if hi : p = .image then hi ▸ himage else h p hp hi, fun hs => by
    obtain ⟨hdflt, hmem⟩ := himage
    rw [State.Canonical, hdflt, hmem]
    exact hs⟩

/-- What is not the contents of DRAM is written as it may be. -/
theorem of_same (h : ∀ p, p ∉ l → p.Same s t := by
      intro p hp; cases p <;> first | exact absurd (by decide) hp | exact rfl | exact ⟨rfl, rfl⟩)
    (himage : Part.image.Same s t := by exact ⟨rfl, rfl⟩) : s.Writes l t :=
  ⟨h, fun hs => by
    obtain ⟨hdflt, hmem⟩ := himage
    rw [State.Canonical, hdflt, hmem]
    exact hs⟩

/-- Where all may be written, the contents of DRAM are. -/
theorem all (h : s.Canonical → t.Canonical) : s.Writes Part.all t := ⟨fun p hp => absurd p.mem_all hp, h⟩

theorem all_of_image (h : Part.image.Same s t) : s.Writes Part.all t :=
  .of_same (fun p hp => absurd p.mem_all hp) h

/-- A change of DRAM alone. -/
theorem of_dram {d : Dram} (h : s.Canonical → ({ s with dram := d } : State).Canonical) :
    s.Writes [.dram, .image] { s with dram := d } :=
  ⟨fun p hp => by cases p <;> first | exact absurd (by decide) hp | exact rfl, h⟩

theorem ite_snd {α : Type} {a b : α × State} {c : Prop} [Decidable c] (ha : s.Writes l a.2) (hb : s.Writes l b.2) :
    s.Writes l (if c then a else b).2 := by split <;> assumption

theorem ite {a b : State} {c : Prop} [Decidable c] (ha : s.Writes l a) (hb : s.Writes l b) :
    s.Writes l (if c then a else b) := by split <;> assumption

/-- A last step that is taken or left out. -/
theorem orElse {c : Prop} [Decidable c] (g : t.Writes l u) (h : s.Writes l t) : s.Writes l (if c then u else t) :=
  .ite (h.trans g) h

/-- A last step that is left out or taken. -/
theorem orThen {c : Prop} [Decidable c] (g : t.Writes l u) (h : s.Writes l t) : s.Writes l (if c then t else u) :=
  .ite h (h.trans g)

/-- The state that a pair brings. -/
theorem of_snd {α : Type} {x : α × State} {o : α} (e : x = (o, t)) (h : s.Writes l x.2) : s.Writes l t := by
  rwa [e] at h

theorem foldl {α : Type} {f : State → α → State} {xs : List α} (hf : ∀ (s : State) a, s.Writes l (f s a))
    (h : s.Writes l t) : s.Writes l (xs.foldl f t) :=
  List.foldlRecOn xs f (motive := fun t => s.Writes l t) h fun t ht a _ => ht.trans (hf t a)

/-- A loop that carries a value beside the state. -/
theorem foldl_snd {α β : Type} {f : β × State → α → β × State} {xs : List α} {x : β × State}
    (hf : ∀ (y : β × State) a, y.2.Writes l (f y a).2) (h : s.Writes l x.2) : s.Writes l (xs.foldl f x).2 :=
  List.foldlRecOn xs f (motive := fun y => s.Writes l y.2) h fun y hy a _ => hy.trans (hf y a)

end State.Writes

/-- What an unlisted byte reads as is a matter of the losses of its channel. -/
theorem State.dramDflt_congr {s t : State} (h : ∀ c < 4, (t.dch c).undef = (s.dch c).undef) :
    t.dramDflt = s.dramDflt := by
  funext x
  unfold State.dramDflt
  dsimp only
  by_cases hx : x / 2 ^ 38 < 4
  · rw [h _ hx]
  · rw [decide_eq_true (Nat.le_of_not_lt hx), Bool.true_or, Bool.true_or, if_pos rfl, if_pos rfl]

/-- The entries of a channel leave with what an unlisted byte of it read as. -/
theorem State.undef_fill (s : State) (f : Nat → DCh) (hf : ∀ c, (f c).undef = (s.dch c).undef) {k : Nat} (hk : k < 4)
    :
    (tget (fun _ => {}) ((List.range 4).foldl (fun t c => tset (fun _ => {}) t c (f c)) []) k).undef =
      (s.dch k).undef := by
  rw [tget_fill, if_pos hk, hf]

theorem State.withBlank_writes (s : State) (c : Nat) (x : DCh) :
    s.Writes [.dram, .image] { (s.setDch c x) with
      dram := { (s.setDch c x).dram with mem := tdrop (fun x => x / 2 ^ 38 == c) s.dram.mem } } := by
  refine .of_dram fun hs => ?_
  obtain ⟨hrising, hmem⟩ := (twf_iff ..).mp hs
  refine (twf_iff ..).mpr ⟨rising_filter _ _ hrising, fun e he => ?_⟩
  obtain ⟨hin, hc⟩ := List.mem_filter.mp he
  have hother : e.1 / 2 ^ 38 ≠ c := by simpa using hc
  have hdflt : (s.setDch c x).dramDflt e.1 = s.dramDflt e.1 := by
    unfold State.dramDflt
    rw [State.dch_setDch, if_neg hother]
  exact fun h => hmem e hin (h.trans hdflt)

theorem State.withDram_writes (s : State) (d : Dram) (hmem : d.mem = s.dram.mem := by rfl)
    (hch : d.ch = s.dram.ch := by rfl) : s.Writes [.dram] { s with dram := d } :=
  .of_image ⟨State.dramDflt_congr fun c _ => congrArg (fun t => (tget (fun _ => {}) t c).undef) hch, hmem⟩

/-- What the reset of a domain writes. -/
def resetParts : List Part := [.held, .wide, .rxAt, .priv, .dom, .reload, .clk, .ports, .cages, .buses, .groups,
  .pkts, .reseq, .clusters, .threads, .cstore, .img, .tbl, .cu, .epc, .buf, .sched, .led, .tel, .hosts, .rings, .dma,
  .dram, .image, .free, .out]

/-- What the loss of a host writes. -/
def hostParts : List Part := [.held, .wide, .priv, .latch, .groups, .cu, .epc, .buf, .sched, .led, .tel, .hosts,
  .rings, .dma, .dram, .out]

/-- What the state of a link writes. -/
def linkParts : List Part := [.held, .wide, .rxAt, .ports, .groups, .buf, .sched, .led, .tel, .dram, .out]

/-- What waking a domain writes. -/
def wakeParts : List Part := [.held, .dom, .reload, .groups, .clusters, .tbl, .buf, .sched, .led, .tel, .dram]

/-- What the end of a packet writes. -/
def packetParts : List Part := [.held, .wide, .groups, .pkts, .reseq, .led, .tel, .hosts, .rings, .dram, .out]

/-! ### One field of the state, or a few -/

theorem State.withTime_writes (s : State) (x : TimeUnit) : s.Writes [.time] { s with time := x } := .of_same
theorem State.withHeld_writes (s : State) (x : Tab Word) : s.Writes [.held] { s with held := x } := .of_same
theorem State.withWide_writes (s : State) (x : Tab (BitVec 64)) : s.Writes [.wide] { s with wide := x } := .of_same
theorem State.withRxAt_writes (s : State) (x : Tab Nat) : s.Writes [.rxAt] { s with rxAt := x } := .of_same
theorem State.withPriv_writes (s : State) (x : Tab Word) : s.Writes [.priv] { s with priv := x } := .of_same
theorem State.withLatch_writes (s : State) (x : Tab Word) : s.Writes [.latch] { s with latch := x } := .of_same
theorem State.withDom_writes (s : State) (x : Tab Domain) : s.Writes [.dom] { s with dom := x } := .of_same
theorem State.withReload_writes (s : State) (x : Reload) : s.Writes [.reload] { s with reload := x } := .of_same
theorem State.withClk_writes (s : State) (x : Clocks) : s.Writes [.clk] { s with clk := x } := .of_same
theorem State.withPorts_writes (s : State) (x : Tab SubPort) : s.Writes [.ports] { s with ports := x } := .of_same
theorem State.withCages_writes (s : State) (x : Tab Cage) : s.Writes [.cages] { s with cages := x } := .of_same
theorem State.withBuses_writes (s : State) (x : Tab CageBus) : s.Writes [.buses] { s with buses := x } := .of_same
theorem State.withGroups_writes (s : State) (x : Tab Group) : s.Writes [.groups] { s with groups := x } := .of_same
theorem State.withPkts_writes (s : State) (x : Tab Pkt) : s.Writes [.pkts] { s with pkts := x } := .of_same
theorem State.withNextPkt_writes (s : State) (x : Nat) : s.Writes [.nextPkt] { s with nextPkt := x } := .of_same
theorem State.withReseq_writes (s : State) (x : Tab (List (Nat × SeqItem))) : s.Writes [.reseq] { s with reseq := x }
    := .of_same
theorem State.withClusters_writes (s : State) (x : Tab Cluster) : s.Writes [.clusters] { s with clusters := x } :=
    .of_same
theorem State.withThreads_writes (s : State) (x : Tab Thread) : s.Writes [.threads] { s with threads := x } :=
    .of_same
theorem State.withCstore_writes (s : State) (x : Tab (BitVec 144)) : s.Writes [.cstore] { s with cstore := x } :=
    .of_same
theorem State.withImg_writes (s : State) (x : ImagePort) : s.Writes [.img] { s with img := x } := .of_same
theorem State.withTbl_writes (s : State) (x : Tables) : s.Writes [.tbl] { s with tbl := x } := .of_same
theorem State.withCu_writes (s : State) (x : CmdUnit) : s.Writes [.cu] { s with cu := x } := .of_same
theorem State.withEpc_writes (s : State) (x : Epoch) : s.Writes [.epc] { s with epc := x } := .of_same
theorem State.withBuf_writes (s : State) (x : Buffer) : s.Writes [.buf] { s with buf := x } := .of_same
theorem State.withSched_writes (s : State) (x : Sched) : s.Writes [.sched] { s with sched := x } := .of_same
theorem State.withLed_writes (s : State) (x : Ledger) : s.Writes [.led] { s with led := x } := .of_same
theorem State.withTel_writes (s : State) (x : Telem) : s.Writes [.tel] { s with tel := x } := .of_same
theorem State.withHosts_writes (s : State) (x : Tab HostFn) : s.Writes [.hosts] { s with hosts := x } := .of_same
theorem State.withRings_writes (s : State) (x : Tab Ring) : s.Writes [.rings] { s with rings := x } := .of_same
theorem State.withDma_writes (s : State) (x : Tab Chan) : s.Writes [.dma] { s with dma := x } := .of_same
theorem State.withFlt_writes (s : State) (x : Faults) : s.Writes [.flt] { s with flt := x } := .of_same
theorem State.withChain_writes (s : State) (x : Chain) : s.Writes [.chain] { s with chain := x } := .of_same
theorem State.withFrz_writes (s : State) (x : FreezeSt) : s.Writes [.frz] { s with frz := x } := .of_same
theorem State.withDbg_writes (s : State) (x : Tab DbgOp) : s.Writes [.dbg] { s with dbg := x } := .of_same
theorem State.withFree_writes (s : State) (x : Nat) : s.Writes [.free] { s with free := x } := .of_same
theorem State.withOut_writes (s : State) (x : List Out) : s.Writes [.out] { s with out := x } := .of_same
theorem State.withTimeTel_writes (s : State) (x : TimeUnit) (y : Telem) :
    s.Writes [.time, .tel] { s with time := x, tel := y } := .of_same
theorem State.withReloadTbl_writes (s : State) (x : Reload) (y : Tables) :
    s.Writes [.reload, .tbl] { s with reload := x, tbl := y } := .of_same
theorem State.withClustersThreads_writes (s : State) (x : Tab Cluster) (y : Tab Thread) :
    s.Writes [.clusters, .threads] { s with clusters := x, threads := y } := .of_same
theorem State.withTblCu_writes (s : State) (x : Tables) (y : CmdUnit) :
    s.Writes [.tbl, .cu] { s with tbl := x, cu := y } := .of_same
theorem State.withTblEpc_writes (s : State) (x : Tables) (y : Epoch) :
    s.Writes [.tbl, .epc] { s with tbl := x, epc := y } := .of_same
theorem State.withTblFree_writes (s : State) (x : Tables) (y : Nat) :
    s.Writes [.tbl, .free] { s with tbl := x, free := y } := .of_same
theorem State.withCuEpc_writes (s : State) (x : CmdUnit) (y : Epoch) :
    s.Writes [.cu, .epc] { s with cu := x, epc := y } := .of_same
theorem State.withBufSched_writes (s : State) (x : Buffer) (y : Sched) :
    s.Writes [.buf, .sched] { s with buf := x, sched := y } := .of_same
theorem State.withBufFree_writes (s : State) (x : Buffer) (y : Nat) :
    s.Writes [.buf, .free] { s with buf := x, free := y } := .of_same
theorem State.withLedTel_writes (s : State) (x : Ledger) (y : Telem) :
    s.Writes [.led, .tel] { s with led := x, tel := y } := .of_same
theorem State.withHostsOut_writes (s : State) (x : Tab HostFn) (y : List Out) :
    s.Writes [.hosts, .out] { s with hosts := x, out := y } := .of_same
theorem State.withChainFree_writes (s : State) (x : Chain) (y : Nat) :
    s.Writes [.chain, .free] { s with chain := x, free := y } := .of_same

/-! ### What each operation writes, in the order in which they call each other -/

theorem State.setRg_writes (s : State) (n : RegName) (k j : Nat) (v : Word) (i : Nat) : s.Writes [.held] (s.setRg n k
    j v i) := by
  unfold State.setRg
  exact (State.withHeld_writes ..).widen

theorem State.bump_writes (s : State) (n : RegName) (k j c : Nat) : s.Writes [.held] (s.bump n k j c) := by
  unfold State.bump
  exact State.setRg_writes ..

theorem State.emit_writes (s : State) (o : Out) : s.Writes [.out] (s.emit o) := by
  unfold State.emit
  exact (State.withOut_writes ..).widen

theorem State.setHst_writes (s : State) (h : Nat) (x : HostFn) : s.Writes [.hosts] (s.setHst h x) := by
  unfold State.setHst
  exact (State.withHosts_writes ..).widen

theorem State.toHost_writes (s : State) (h a : Nat) (bytes : List Byte) : s.Writes [.hosts, .out] (s.toHost h a bytes)
    := by
  unfold State.toHost
  exact (State.emit_writes ..).after (State.setHst_writes ..).widen

theorem State.toHost48_writes (s : State) (h a : Nat) (b : List Byte) : s.Writes [.hosts, .out] (s.toHost48 h a b) :=
    by
  unfold State.toHost48
  exact .ite (State.toHost_writes ..).widen ((State.toHost_writes ..).after (State.toHost_writes ..).widen)

theorem State.insStatus_writes (s : State) (n moved err : Nat) : s.Writes [.held, .hosts, .out] (s.insStatus n moved
    err) := by
  unfold State.insStatus
  exact .orThen (State.toHost48_writes ..).widen (.ite (.refl _) (State.bump_writes ..).widen)

theorem State.setChan_writes (s : State) (n : Nat) (x : Chan) : s.Writes [.dma] (s.setChan n x) := by
  unfold State.setChan
  exact (State.withDma_writes ..).widen

theorem State.tlp_writes (s : State) (h : Nat) : s.Writes [.hosts] (s.tlp h) := by
  unfold State.tlp
  exact State.setHst_writes ..

theorem State.readHost_writes (s : State) (h a len : Nat) : s.Writes [.hosts, .out] (s.readHost h a len) := by
  unfold State.readHost
  exact (State.emit_writes ..).after (State.tlp_writes ..).widen

theorem State.readHost48_writes (s : State) (h a len : Nat) : s.Writes [.hosts, .out] (s.readHost48 h a len) := by
  unfold State.readHost48
  exact .ite (State.readHost_writes ..).widen ((State.readHost_writes ..).after (State.readHost_writes ..).widen)

theorem State.fetchProg_writes (s : State) (n : Nat) : s.Writes [.hosts, .out] (s.fetchProg n) := by
  unfold State.fetchProg
  exact State.readHost48_writes ..

theorem State.stopChan_writes (s : State) (n err : Nat) : s.Writes [.dma] (s.stopChan n err) := by
  unfold State.stopChan
  exact State.setChan_writes ..

theorem State.nextIns_writes (s : State) (n : Nat) : s.Writes [.hosts, .dma, .out] (s.nextIns n) := by
  unfold State.nextIns
  exact .ite (State.fetchProg_writes ..).widen (.ite (State.stopChan_writes ..).widen (.refl _))

theorem State.goIns_writes (s : State) (n pc : Nat) : s.Writes [.hosts, .dma, .out] (s.goIns n pc) := by
  unfold State.goIns
  exact (State.nextIns_writes ..).after (State.setChan_writes ..).widen

theorem State.insDone_writes (s : State) (n moved err : Nat) : s.Writes [.held, .hosts, .dma, .out] (s.insDone n moved
    err) := by
  unfold State.insDone
  exact (State.goIns_writes ..).after ((State.setChan_writes ..).after (State.insStatus_writes ..).widen)

theorem State.barDone_writes (s : State) (n : Nat) : s.Writes [.held, .hosts, .dma, .out] (s.barDone n) := by
  unfold State.barDone
  exact .ite ((State.insDone_writes ..).after (State.setChan_writes ..).widen) (State.insDone_writes ..).widen

theorem State.confirm_writes (s : State) (n : Nat) : s.Writes [.hosts, .dma, .out] (s.confirm n) := by
  unfold State.confirm
  exact .ite ((State.readHost_writes ..).after (State.setChan_writes ..).widen) (.refl _)

theorem State.insWait_writes (s : State) (n moved err : Nat) (bar : Bool) (sp : Nat) : s.Writes [.held, .hosts, .dma,
    .out] (s.insWait n moved err bar sp) := by
  unfold State.insWait
  exact .ite (.ite ((State.barDone_writes ..).after (State.setChan_writes ..).widen) (.orThen (State.confirm_writes
    ..).widen (State.setChan_writes ..).widen)) (State.insDone_writes ..).widen

theorem Moving.done_writes (m : Moving) (n : Nat) (a : MoveArgs) : m.s.Writes [.held, .hosts, .dma, .out] (m.done n a)
    := by
  unfold Moving.done
  refine .ite (.refl _) (.ite (State.insDone_writes ..).widen ?_)
  exact (State.insWait_writes ..).after (.ite (.refl _) (State.setChan_writes ..).widen)

theorem State.sleepAcc_writes (s : State) (r : Req) : s.Writes [.held] (s.sleepAcc r) := by
  unfold State.sleepAcc
  split
  · exact (State.bump_writes ..).widen
  · exact (State.bump_writes ..).widen
  · exact .refl _

theorem State.orRg_writes (s : State) (n : RegName) (k j : Nat) (v : Word) : s.Writes [.held] (s.orRg n k j v) := by
  unfold State.orRg
  exact State.setRg_writes ..

theorem State.poolStep_writes (s : State) (k : Nat) : s.Writes [.held, .buf] (s.poolStep k) := by
  unfold State.poolStep
  exact .ite (.orElse (State.orRg_writes ..).widen (State.withBuf_writes ..).widen) (State.withBuf_writes ..).widen

theorem State.poolSteps_writes (s : State) : s.Writes [.held, .buf] s.poolSteps := by
  unfold State.poolSteps
  exact .foldl (fun _ _ => (State.poolStep_writes ..).widen) (.refl _)

theorem State.quadStep_writes (s : State) (k : Nat) : s.Writes [.held, .buf] (s.quadStep k) := by
  unfold State.quadStep
  exact .ite (State.poolSteps_writes ..).widen (.refl _)

theorem State.setGrp_writes (s : State) (n : Nat) (x : Group) : s.Writes [.groups] (s.setGrp n x) := by
  unfold State.setGrp
  exact (State.withGroups_writes ..).widen

theorem State.fillPols_writes (s : State) (n : Nat) : s.Writes [.groups, .sched] (s.fillPols n) := by
  unfold State.fillPols
  exact .ite ((State.setGrp_writes ..).after (State.withSched_writes ..).widen) (.refl _)

theorem State.emptyReplica_writes (s : State) (k : Nat) : s.Writes [.reload, .tbl] (s.emptyReplica k) := by
  unfold State.emptyReplica
  exact (State.withReloadTbl_writes ..).widen

theorem State.setClu_writes (s : State) (c : Nat) (x : Cluster) : s.Writes [.clusters] (s.setClu c x) := by
  unfold State.setClu
  exact (State.withClusters_writes ..).widen

theorem State.takeRoles_writes (s : State) (c : Nat) : s.Writes [.clusters] (s.takeRoles c) := by
  unfold State.takeRoles
  exact .ite (State.setClu_writes ..).widen (State.setClu_writes ..).widen

theorem State.absentAnew_writes (s : State) : s.Writes [.groups] s.absentAnew := by
  unfold State.absentAnew
  exact .foldl (fun _ _ => (State.setGrp_writes ..).widen) (.refl _)

theorem State.ledOpen_writes (s : State) : s.Writes [.groups, .led] s.ledOpen := by
  unfold State.ledOpen
  exact (State.absentAnew_writes ..).after (State.withLed_writes ..).widen

theorem State.setDch_writes (s : State) (c : Nat) (x : DCh)
    (hu : x.undef = (s.dch c).undef := by rfl) : s.Writes [.dram] (s.setDch c x) :=
  .of_image ⟨State.dramDflt_congr fun k _ => by
    rw [State.dch_setDch]
    split
    · next hk => rw [hu, hk]
    · rfl, rfl⟩

theorem State.exitDue_writes (s : State) (c : Nat) : s.Writes [.dram] (s.exitDue c) := by
  unfold State.exitDue
  exact .ite (State.setDch_writes ..).widen (.refl _)

theorem State.becomeActive_writes (s : State) (k : Nat) : s.Writes [.reload, .groups, .clusters, .tbl, .sched, .led,
    .tel, .dram] (s.becomeActive k) := by
  unfold State.becomeActive
  exact .ite (.foldl (fun _ _ => (State.takeRoles_writes ..).widen) ((State.withReload_writes ..).after (.orElse
    (State.emptyReplica_writes ..).widen ((State.fillPols_writes ..).after (State.setGrp_writes ..).widen)))) (.ite
    ((State.ledOpen_writes ..).after (State.withTel_writes ..).widen) (.ite (.foldl (fun _ _ => (State.exitDue_writes
    ..).widen) (.refl _)) (.refl _)))

theorem State.setDmn_writes (s : State) (k : Nat) (d : Domain) : s.Writes [.dom] (s.setDmn k d) := by
  unfold State.setDmn
  exact (State.withDom_writes ..).widen

theorem State.wake_writes (s : State) (k : Nat) : s.Writes wakeParts (s.wake k) := by
  unfold State.wake
  exact .ite ((State.quadStep_writes ..).after ((State.becomeActive_writes ..).after (State.setDmn_writes ..).widen))
    (.ite (State.setDmn_writes ..).widen (.refl _))

theorem State.reach_writes (s : State) (r : Req) (k : Nat) (peek : Bool) : s.Writes wakeParts (s.reach r k peek).2 :=
    by
  unfold State.reach
  extract_lets u
  have hu : s.Writes wakeParts u := .ite (.refl _) (State.wake_writes ..).widen
  exact .ite_snd (State.sleepAcc_writes ..).widen (.ite_snd hu ((State.sleepAcc_writes ..).after hu))

theorem State.reachUnnamed_writes (s : State) (r : Req) (a : Nat) (peek : Bool) : s.Writes wakeParts (s.reachUnnamed r
    a peek) := by
  unfold State.reachUnnamed
  split
  · exact (State.reach_writes ..).widen
  · exact .refl _

theorem State.histPop_writes (s : State) : s.Writes [.flt] s.histPop := by
  unfold State.histPop
  exact .ite (State.withFlt_writes ..).widen (State.withFlt_writes ..).widen

theorem State.imbPop_writes (s : State) : s.Writes [.led] s.imbPop := by
  unfold State.imbPop
  exact (State.withLed_writes ..).widen

theorem State.mcPop_writes (s : State) (c : Nat) : s.Writes [.clusters] (s.mcPop c) := by
  unfold State.mcPop
  exact State.setClu_writes ..

theorem State.setPol_writes (s : State) (p : Nat) (b : Bucket) : s.Writes [.sched] (s.setPol p b) := by
  unfold State.setPol
  exact (State.withSched_writes ..).widen

theorem State.fresh_writes (s : State) : s.Writes [.free] (s.fresh).2 := by
  unfold State.fresh
  exact (State.withFree_writes ..).widen

theorem State.addCtr_writes (s : State) (n : RegName) (k j c : Nat) : s.Writes [.wide] (s.addCtr n k j c) := by
  unfold State.addCtr
  exact (State.withWide_writes ..).widen

theorem State.rxStore_writes (s : State) (port : Nat) : s.Writes [.held, .wide, .rxAt] (s.rxStore port) := by
  unfold State.rxStore
  exact (State.withRxAt_writes ..).after (.foldl (fun _ _ => (.ite (.ite (State.bump_writes ..).widen
    (State.addCtr_writes ..).widen) (.refl _))) (.refl _))

theorem State.setLatch_writes (s : State) (k : Nat) (v : Word) : s.Writes [.latch] (s.setLatch k v) := by
  unfold State.setLatch
  exact (State.withLatch_writes ..).widen

theorem State.readEffect_writes (s : State) (r : Req) (x : RegAt) : s.Writes [.held, .wide, .rxAt, .latch, .clusters,
    .sched, .led, .flt, .free] (s.readEffect r x) := by
  unfold State.readEffect
  dsimp only
  split
  · exact (State.histPop_writes ..).widen
  · exact (State.imbPop_writes ..).widen
  · exact (State.mcPop_writes ..).widen
  · split
    · exact (State.setPol_writes ..).widen
    · exact .refl _
  · exact (State.fresh_writes ..).widen
  · exact (State.fresh_writes ..).widen
  · exact (State.fresh_writes ..).widen
  · exact (State.withHeld_writes ..).after ((State.fresh_writes ..).after (State.rxStore_writes ..).widen)
  · split
    · exact .orElse (State.fresh_writes ..).widen (State.setLatch_writes ..).widen
    · exact .refl _
    · exact .refl _
    · exact .ite (.refl _) (State.withHeld_writes ..).widen

theorem State.readReg_writes (s : State) (r : Req) (x : RegAt) (peek : Bool) : s.Writes [.held, .wide, .rxAt, .latch,
    .clusters, .sched, .led, .flt, .free] (s.readReg r x peek).2 := by
  unfold State.readReg
  dsimp only
  split
  · exact .refl _
  · exact (State.readEffect_writes ..).widen

theorem State.accRead_writes (s : State) (r : Req) (a : Nat) (peek : Bool) : s.Writes (wakeParts ++ [.wide, .rxAt,
    .latch, .flt, .free]) (s.accRead r a peek).2 := by
  unfold State.accRead
  dsimp only
  split
  · exact .refl _
  · split
    · exact (State.reachUnnamed_writes ..).widen
    · split
      · exact (State.readReg_writes ..).widen
      · split
        · exact (State.readReg_writes ..).after (State.reach_writes ..).widen
        · exact (State.reach_writes ..).widen

theorem State.intRead_writes (s : State) (n a : Nat) : s.Writes (wakeParts ++ [.wide, .rxAt, .latch, .flt, .free])
    (s.intRead n a).2 := by
  unfold State.intRead
  dsimp only
  split
  · exact (State.accRead_writes ..).widen
  · exact (State.reach_writes ..).widen

/-- An access to a register writes what the operation writes, and what waking its domain does. -/
theorem State.access_writes (s : State) (r : Req) (k : Nat) {f : State → State} {l : List Part}
    (hf : ∀ s : State, s.Writes l (f s)) (hl : wakeParts ⊆ l := by decide +kernel) : s.Writes l (s.access r k f) := by
  unfold State.access
  have hreach : s.Writes l (s.reach r k false).2 := (State.reach_writes ..).widen hl
  exact .ite (hreach.trans (hf _)) hreach

theorem State.logHist_writes (s : State) (r : HistRec) : s.Writes [.held, .flt] (s.logHist r) := by
  unfold State.logHist
  exact .ite ((State.withFlt_writes ..).after (.ite (State.bump_writes ..).widen (.refl _))) (.ite
    ((State.withFlt_writes ..).after (State.bump_writes ..).widen) (State.withFlt_writes ..).widen)

theorem State.logStatus_writes (s : State) (e : FaultEv) (int : Bool) : s.Writes [.held] (s.logStatus e int) := by
  unfold State.logStatus
  exact .orElse (State.orRg_writes ..).widen (State.orRg_writes ..).widen

theorem State.markFlush_writes (s : State) (qs : Nat → Bool) : s.Writes [.buf] (s.markFlush qs) := by
  unfold State.markFlush
  exact (State.withBuf_writes ..).widen

theorem State.setPort_writes (s : State) (lp : Nat) (p : SubPort) : s.Writes [.ports] (s.setPort lp p) := by
  unfold State.setPort
  exact (State.withPorts_writes ..).widen

theorem State.moveMember_writes (s : State) (m : Nat) (f : Nat → Nat) : s.Writes [.buf] (s.moveMember m f) := by
  unfold State.moveMember
  exact (State.withBuf_writes ..).widen

theorem State.freeHold_writes (s : State) (p : Pkt) : s.Writes [.groups] (s.freeHold p) := by
  unfold State.freeHold
  exact State.setGrp_writes ..

theorem State.setBlk_writes (s : State) (b : Nat) (x : Block) : s.Writes [.buf] (s.setBlk b x) := by
  unfold State.setBlk
  exact (State.withBuf_writes ..).widen

theorem State.setBuf_writes (s : State) (b : Nat) (x : Buf) : s.Writes [.buf] (s.setBuf b x) := by
  unfold State.setBuf
  exact (State.withBuf_writes ..).widen

theorem State.relBuf_writes (s : State) (b : Nat) : s.Writes [.held, .groups, .buf] (s.relBuf b) := by
  unfold State.relBuf
  exact .ite ((State.poolSteps_writes ..).after ((State.setBuf_writes ..).after ((State.setBlk_writes ..).after
    (.orElse (State.freeHold_writes ..).widen (.ite (State.moveMember_writes ..).widen (.refl _))))))
    (State.setBuf_writes ..).widen

theorem State.relDesc_writes (s : State) (d : Nat) : s.Writes [.held, .groups, .buf] (s.relDesc d) := by
  unfold State.relDesc
  exact (State.relBuf_writes ..).after (State.withBuf_writes ..).widen

theorem State.telLost_writes (s : State) (k n : Nat) : s.Writes [.held] (s.telLost k n) := by
  unfold State.telLost
  exact State.bump_writes ..

theorem State.dramWrite1_writes (s : State) (who : DramUser) (a : Nat) (bytes : List Byte) : s.Writes [.dram]
    (s.dramWrite1 who a bytes) := by
  unfold State.dramWrite1
  dsimp only
  split
  · exact .refl _
  · exact .ite (State.setDch_writes ..).widen (.refl _)

theorem State.dramWrite_writes (s : State) (who : DramUser) (a : Nat) (bytes : List Byte) : s.Writes [.dram]
    (s.dramWrite who a bytes) := by
  unfold State.dramWrite
  exact .foldl (fun _ _ => (State.dramWrite1_writes ..).widen) (.refl _)

theorem State.toRegion_writes (s : State) (k : Nat) (rec : List Byte) (n : Nat) : s.Writes [.held, .tel, .dram]
    (s.toRegion k rec n) := by
  unfold State.toRegion
  exact .ite ((State.withTel_writes ..).after (.foldl (fun _ _ => (State.dramWrite_writes ..).widen) (.refl _)))
    (State.telLost_writes ..).widen

theorem State.capture_writes (s : State) (b : Boundary) (code : Nat) (d : DropInfo) : s.Writes [.held, .tel, .dram]
    (s.capture b code d) := by
  unfold State.capture
  exact .ite (.orElse (.ite (State.telLost_writes ..).widen (.ite ((State.telLost_writes ..).after
    (State.withTel_writes ..).widen) ((State.toRegion_writes ..).after (State.withTel_writes ..).widen)))
    (State.withTel_writes ..).widen) (.refl _)

theorem State.pmc_writes (s : State) (hit : Word → Bool) (n : Nat) : s.Writes [.wide] (s.pmc hit n) := by
  unfold State.pmc
  exact .ite (State.withWide_writes ..).widen (.refl _)

theorem State.bookReason_writes (s : State) (lp : Nat) (par : Bool) (code : Nat) : s.Writes [.wide, .led]
    (s.bookReason lp par code) := by
  unfold State.bookReason
  exact (State.pmc_writes ..).after (State.withLed_writes ..).widen

theorem State.book_writes (s : State) (lp : Nat) (par : Bool) (t : Term) (n : Nat) : s.Writes [.wide, .led] (s.book lp
    par t n) := by
  unfold State.book
  exact (State.pmc_writes ..).after (State.withLed_writes ..).widen

theorem State.drop_writes (s : State) (b : Boundary) (reason : Nat) (d : DropInfo) : s.Writes [.held, .wide, .led,
    .tel, .dram] (s.drop b reason d) := by
  unfold State.drop
  exact (State.capture_writes ..).after ((State.bookReason_writes ..).after (State.book_writes ..).widen)

theorem State.dropDesc_writes (s : State) (d reason : Nat) : s.Writes [.held, .wide, .groups, .buf, .led, .tel, .dram]
    (s.dropDesc d reason) := by
  unfold State.dropDesc
  exact (State.relDesc_writes ..).after (State.drop_writes ..).widen

theorem State.dropPicked_writes (s : State) (lp : Nat) : s.Writes [.held, .wide, .groups, .buf, .sched, .led, .tel,
    .dram, .out] (s.dropPicked lp) := by
  unfold State.dropPicked
  exact .foldl (fun _ _ => ((State.dropDesc_writes ..).after (.ite ((State.emit_writes ..).after (State.bump_writes
    ..).widen) (.refl _)))) (State.withSched_writes ..).widen

theorem State.bumpHigh_writes (s : State) (n : RegName) (k j : Nat) : s.Writes [.held] (s.bumpHigh n k j) := by
  unfold State.bumpHigh
  exact State.setRg_writes ..

theorem State.setLink_writes (s : State) (lp : Nat) (st : LinkState) : s.Writes linkParts (s.setLink lp st) := by
  unfold State.setLink
  exact .ite (.refl _) (.orElse ((State.dropPicked_writes ..).after (State.bumpHigh_writes ..).widen)
    ((State.orRg_writes ..).after ((State.setPort_writes ..).after (.orElse (State.markFlush_writes ..).widen (.ite
    (State.rxStore_writes ..).widen (.refl _))))))

theorem State.forceDown_writes (s : State) (lp : Nat) (why : SubPort → SubPort) : s.Writes linkParts (s.forceDown lp
    why) := by
  unfold State.forceDown
  exact (State.setPort_writes ..).after (State.setLink_writes ..).widen

theorem State.setThr_writes (s : State) (k : Nat) (x : Thread) : s.Writes [.threads] (s.setThr k x) := by
  unfold State.setThr
  exact (State.withThreads_writes ..).widen

theorem State.endReruns_writes (s : State) (c : Nat) (gone : Nat → Bool) : s.Writes [.threads] (s.endReruns c gone) :=
    by
  unfold State.endReruns
  exact .foldl (fun _ _ => (.ite (State.setThr_writes ..).widen (.refl _))) (.refl _)

theorem State.dropSamples_writes (s : State) (c : Nat) (p : Sample → Bool) : s.Writes [.held, .clusters, .threads]
    (s.dropSamples c p) := by
  unfold State.dropSamples
  exact (State.endReruns_writes ..).after (.orThen (State.bump_writes ..).widen (State.setClu_writes ..).widen)

theorem State.clearAdmit_writes (s : State) (c : Nat) : s.Writes [.held, .clusters, .threads] (s.clearAdmit c) := by
  unfold State.clearAdmit
  exact (State.dropSamples_writes ..).after (State.setRg_writes ..).widen

theorem State.dlogs_writes (s : State) (c rank : Nat) (cmds : List Nat) : s.Writes [.dram, .free] (s.dlogs c rank
    cmds) := by
  unfold State.dlogs
  exact .ite (.refl _) ((State.setDch_writes ..).after (State.withFree_writes ..).widen)

theorem State.dlogAll_writes (s : State) (c : Nat) (cmds : List Nat) : s.Writes [.dram, .free] (s.dlogAll c cmds) :=
    by
  unfold State.dlogAll
  exact .foldl (fun _ _ => (State.dlogs_writes ..).widen) (.refl _)

theorem State.dramSet_writes (s : State) (x : Nat) (b : Byte) : s.Writes [.dram, .image] (s.dramSet x b) :=
  .of_dram fun hs => twf_tset _ _ _ _ hs

theorem State.dramPut_writes (s : State) (a : Nat) (l : List Byte) : s.Writes [.dram, .image] (s.dramPut a l) := by
  induction l generalizing s a with
  | nil => exact .refl _
  | cons b l ih => exact (State.dramSet_writes ..).trans (ih ..)

theorem State.dramStore_writes (s : State) (c x : Nat) (b : List Byte) : s.Writes [.dram, .image] (s.dramStore c x b)
    := by
  unfold State.dramStore
  exact (State.dramPut_writes ..).after (State.setDch_writes ..).widen

theorem State.dlogAcc_writes (s : State) (c cmd rank : Nat) : s.Writes [.dram, .free] (s.dlogAcc c cmd rank) := by
  unfold State.dlogAcc
  exact .ite (.refl _) ((State.setDch_writes ..).after (State.withFree_writes ..).widen)

theorem State.issueWrite_writes (s : State) (c : Nat) (r : DReq) : s.Writes [.dram, .image, .free] (s.issueWrite c r)
    := by
  unfold State.issueWrite
  exact (State.dramStore_writes ..).after (State.dlogAcc_writes ..).widen

theorem State.dramFlush_writes (s : State) (c : Nat) : s.Writes [.dram, .image, .free] (s.dramFlush c) := by
  unfold State.dramFlush
  exact (State.setDch_writes ..).after (.foldl (fun _ _ => (State.issueWrite_writes ..).widen) (.refl _))

theorem State.cplSend_writes (s : State) (h : Nat) (l : List HostCpl) : s.Writes [.hosts, .out] (s.cplSend h l) := by
  induction l generalizing s with
  | nil => exact (State.setHst_writes ..).widen
  | cons c l ih =>
    unfold State.cplSend
    exact .ite (((State.emit_writes ..).after (State.tlp_writes ..).widen).trans (ih _)) (State.setHst_writes
        ..).widen

theorem State.dramAnswer_writes (s : State) (who : DramUser) (no a : Nat) (b : List Byte) (bad : Bool) : s.Writes
    [.hosts, .dma, .out] (s.dramAnswer who no a b bad) := by
  unfold State.dramAnswer
  dsimp only
  split
  · exact .ite (State.cplSend_writes ..).widen ((State.emit_writes ..).after (State.tlp_writes ..).widen)
  · exact .ite (State.setChan_writes ..).widen (State.emit_writes ..).widen
  · exact (State.emit_writes ..).widen

theorem State.dropRead_writes (s : State) (r : DReq) : s.Writes [.held, .hosts, .dma, .out] (s.dropRead r) := by
  unfold State.dropRead
  split
  · exact (State.dramAnswer_writes ..).after (State.sleepAcc_writes ..).widen
  · exact (State.dramAnswer_writes ..).widen
  · exact .refl _

theorem State.dropReads_writes (s : State) (c : Nat) : s.Writes [.held, .hosts, .dma, .dram, .out] (s.dropReads c) :=
    by
  unfold State.dropReads
  exact .orElse (.foldl (fun _ _ => (State.dropRead_writes ..).widen) (.refl _)) (State.setDch_writes ..).widen

theorem State.dlogSre_writes (s : State) (c : Nat) : s.Writes [.dram, .free] (s.dlogSre c) := by
  unfold State.dlogSre
  exact .foldl (fun _ _ => ((State.dlogs_writes ..).after (State.withFree_writes ..).widen)) (.refl _)

theorem State.enterSr_writes (s : State) (c : Nat) : s.Writes [.dram, .free] (s.enterSr c) := by
  unfold State.enterSr
  exact (State.setDch_writes ..).after (State.dlogSre_writes ..).widen

theorem State.moveRegions_writes (s : State) (c : Nat) : s.Writes [.tel] (s.moveRegions c) := by
  unfold State.moveRegions
  dsimp only
  refine .foldl (fun _ _ => ?_) (.refl _)
  split
  · exact .ite (State.withTel_writes ..).widen (.refl _)
  · exact .refl _

theorem State.setDramSt_writes (s : State) (c : Nat) (st : DramState) : s.Writes [.dram] (s.setDramSt c st) := by
  unfold State.setDramSt
  exact .ite (.refl _) (State.setDch_writes ..).widen

theorem State.dramOffline_writes (s : State) (c : Nat) : s.Writes [.held, .tel, .hosts, .dma, .dram, .image, .free,
    .out] (s.dramOffline c) := by
  unfold State.dramOffline
  exact .ite ((State.setDramSt_writes ..).after ((State.moveRegions_writes ..).after (.orThen (State.enterSr_writes
    ..).widen ((State.dropReads_writes ..).after ((State.dramFlush_writes ..).after (.ite (State.dlogAll_writes
    ..).widen (.refl _))))))) (.ite ((State.setDramSt_writes ..).after ((State.moveRegions_writes ..).after
    (State.enterSr_writes ..).widen)) (.refl _))

theorem State.isoUnit_writes (s : State) (src code : Nat) (info : Word) : s.Writes (linkParts ++ [.clusters, .threads,
    .hosts, .dma, .image, .free]) (s.isoUnit src code info) := by
  unfold State.isoUnit
  dsimp only
  refine .ite ((State.poolSteps_writes ..).after (State.withBuf_writes ..).widen) ?_
  refine .ite (State.setGrp_writes ..).widen ?_
  refine .ite (.foldl (fun _ _ => (State.forceDown_writes ..).widen) (.refl _)) ?_
  refine .ite (.foldl (fun _ _ => (State.forceDown_writes ..).widen) (.refl _)) ?_
  refine .ite ?_ ?_
  · split
    · exact (State.clearAdmit_writes ..).widen
    · exact .refl _
  · refine .ite ?_ (.ite (State.dramOffline_writes ..).widen (.refl _))
    split
    · exact (State.dropSamples_writes ..).after (State.setRg_writes ..).widen
    · exact .refl _

theorem State.sxDown_writes (s : State) (n : Nat) : s.Writes linkParts (s.sxDown n) := by
  unfold State.sxDown
  exact .foldl (fun _ _ => (.ite (.refl _) (State.forceDown_writes ..).widen)) (.refl _)

theorem State.dramQuiet_writes (s : State) (c : Nat) (st : DramState) : s.Writes [.held, .hosts, .dma, .dram, .image,
    .free, .out] (s.dramQuiet c st) := by
  unfold State.dramQuiet
  exact .ite ((State.setDramSt_writes ..).after ((State.enterSr_writes ..).after ((State.dropReads_writes ..).after
    (State.dramFlush_writes ..).widen))) (.refl _)

theorem State.dramStop_writes (s : State) (c : Nat) : s.Writes [.held, .hosts, .dma, .dram, .image, .free, .out]
    (s.dramStop c) := by
  unfold State.dramStop
  exact State.dramQuiet_writes ..

theorem State.loseDram_writes (s : State) : s.Writes [.held, .dram] s.loseDram :=
  .of_image ⟨State.dramDflt_congr fun k hk =>
    s.undef_fill (fun c => { undef := (s.dch c).undef, poison := (s.dch c).poison }) (fun _ => rfl) hk, rfl⟩

theorem State.loseTbl_writes (s : State) : s.Writes [.held, .priv, .reload, .img, .tbl, .cu, .epc] s.loseTbl :=
    .of_same

theorem State.loseTel_writes (s : State) : s.Writes [.held, .wide, .priv, .led, .tel] s.loseTel := .of_same

theorem State.setPkt_writes (s : State) (k : Nat) (x : Pkt) : s.Writes [.pkts] (s.setPkt k x) := by
  unfold State.setPkt
  exact (State.withPkts_writes ..).widen

theorem State.dropPkt_writes (s : State) (k : Nat) : s.Writes [.pkts] (s.dropPkt k) := by
  unfold State.dropPkt
  exact State.setPkt_writes ..

theorem State.loseFlight_writes (s : State) (n : Nat) : s.Writes [.held, .groups, .pkts, .buf, .sched] (s.loseFlight
    n) := by
  unfold State.loseFlight
  exact .foldl (fun _ _ => (.foldl (fun _ _ => (State.relDesc_writes ..).widen) (State.withSched_writes ..).widen))
    (.foldl (fun _ _ => (State.dropPkt_writes ..).widen) (.refl _))

theorem State.loseReplica_writes (s : State) (n : Nat) : s.Writes [.reload, .tbl] (s.loseReplica n) := by
  unfold State.loseReplica
  exact .ite ((State.withReload_writes ..).after (State.emptyReplica_writes ..).widen) (.ite (.refl _)
    (State.withReload_writes ..).widen)

theorem State.setStale_writes (s : State) (n : Nat) : s.Writes [.reload] (s.setStale n) := by
  unfold State.setStale
  exact .ite (.refl _) (State.withReload_writes ..).widen

theorem State.losePg_writes (s : State) (n : Nat) : s.Writes (linkParts ++ [.priv, .reload, .cages, .buses, .pkts,
    .reseq, .clusters, .threads, .cstore, .tbl, .cu]) (s.losePg n) := by
  unfold State.losePg
  extract_lets s1 s2 inNec inPg inSch pol _ sched _ tbl _ s3
  have hdown : s.Writes (linkParts ++ [.priv, .reload, .cages, .buses, .pkts, .reseq, .clusters, .threads, .cstore,
      .tbl, .cu]) s2 := .foldl (fun _ _ => (State.forceDown_writes ..).widen) (State.loseFlight_writes ..).widen
  have hlost : s.Writes (linkParts ++ [.priv, .reload, .cages, .buses, .pkts, .reseq, .clusters, .threads, .cstore,
      .tbl, .cu]) s3 := by
    clear_value s2
    refine .after (k := [.held, .wide, .priv, .ports, .cages, .buses, .groups, .reseq, .clusters, .threads, .cstore,
      .tbl, .cu, .sched]) ?_ hdown
    exact .of_same
  exact (State.loseReplica_writes ..).after ((State.setStale_writes ..).after ((State.withReload_writes ..).after
      hlost))

theorem State.loseQuad_writes (s : State) (i : Nat) : s.Writes [.buf, .free] (s.loseQuad i) := by
  unfold State.loseQuad
  exact (State.withBufFree_writes ..).widen

theorem State.loseDom_writes (s : State) (k : Nat) : s.Writes resetParts (s.loseDom k) := by
  unfold State.loseDom
  exact .ite (State.loseDram_writes ..).widen (.ite (State.loseTbl_writes ..).widen (.ite (State.loseTel_writes
    ..).widen (.ite (State.losePg_writes ..).widen (.ite (State.loseQuad_writes ..).widen (.refl _)))))

theorem State.domReset_writes (s : State) (k : Nat) : s.Writes resetParts (s.domReset k) := by
  unfold State.domReset
  exact .ite (.refl _) (.orElse (State.poolSteps_writes ..).widen ((State.setDmn_writes ..).after
    ((State.loseDom_writes ..).after ((State.setDmn_writes ..).after ((State.withClk_writes ..).after (.orElse (.foldl
    (fun _ _ => (State.dramStop_writes ..).widen) (.refl _)) (.ite (State.sxDown_writes ..).widen (.refl _))))))))

theorem State.loseBuffer_writes (s : State) : s.Writes [.held, .groups, .buf, .sched] s.loseBuffer := by
  unfold State.loseBuffer
  exact (State.poolSteps_writes ..).after ((State.withBufSched_writes ..).after (.foldl (fun _ _ => (.ite
    (State.freeHold_writes ..).widen (.refl _))) (.refl _)))

theorem State.bufReset_writes (s : State) : s.Writes resetParts s.bufReset := by
  unfold State.bufReset
  exact (State.withClk_writes ..).after (.foldl (fun _ _ => (State.domReset_writes ..).widen) (State.loseBuffer_writes
    ..).widen)

theorem State.markReset_writes (s : State) : s.Writes [.led] s.markReset := by
  unfold State.markReset
  exact (State.withLed_writes ..).widen

theorem State.seqPut_writes (s : State) (lp seq : Nat) (i : SeqItem) : s.Writes [.reseq] (s.seqPut lp seq i) := by
  unfold State.seqPut
  exact (State.withReseq_writes ..).widen

theorem State.endPkt_writes (s : State) (k : Nat) (b : Boundary) (reason : Nat) : s.Writes [.held, .wide, .groups,
    .pkts, .reseq, .led, .tel, .dram] (s.endPkt k b reason) := by
  unfold State.endPkt
  exact (State.dropPkt_writes ..).after ((State.seqPut_writes ..).after ((State.freeHold_writes ..).after
    (State.drop_writes ..).widen))

theorem State.seqStep_writes (s : State) (kind : Nat) : s.Writes [.tel] (s.seqStep kind) := by
  unfold State.seqStep
  exact (State.withTel_writes ..).widen

theorem State.setRing_writes (s : State) (h t : Nat) (x : Ring) : s.Writes [.rings] (s.setRing h t x) := by
  unfold State.setRing
  exact (State.withRings_writes ..).widen

theorem State.toRing_writes (s : State) (k h t : Nat) (rec : List Byte) (n : Nat) : s.Writes [.held, .tel, .hosts,
    .rings, .out] (s.toRing k h t rec n) := by
  unfold State.toRing
  exact .ite ((State.setRing_writes ..).after ((State.toHost_writes ..).after (.ite (.refl _) ((State.seqStep_writes
    ..).after (State.toHost_writes ..).widen)))) (State.telLost_writes ..).widen

theorem State.routed_writes (s : State) (kind len : Nat) (stamp : BitVec 64) (body : List Word) (n : Nat) : s.Writes
    [.held, .tel, .hosts, .rings, .dram, .out] (s.routed kind len stamp body n) := by
  unfold State.routed
  exact .orElse (State.toRing_writes ..).widen (.orElse (State.toRegion_writes ..).widen (State.seqStep_writes
    ..).widen)

theorem State.digestEmit_writes (s : State) : s.Writes [.held, .tel, .hosts, .rings, .dram, .out] s.digestEmit := by
  rw [s.digestEmit_eq]
  exact .ite (.refl _) ((State.routed_writes ..).after (State.withTel_writes ..).widen)

theorem State.digestEntry_writes (s : State) (digest sent : Word) (kind : Nat) (st : Stamp) (c e t : Nat) : s.Writes
    [.held, .tel, .hosts, .rings, .dram, .out] (s.digestEntry digest sent kind st c e t) := by
  unfold State.digestEntry
  exact .ite (.refl _) (.ite (State.telLost_writes ..).widen (.orElse (State.digestEmit_writes ..).widen
    (State.withTel_writes ..).widen))

theorem State.sealVerdict_writes (s : State) (k : Nat) (v : List Word) (src : PuntSrc) : s.Writes [.held, .pkts, .tel,
    .hosts, .rings, .dram, .out] (s.sealVerdict k v src) := by
  unfold State.sealVerdict
  exact .orElse (State.digestEntry_writes ..).widen (State.setPkt_writes ..).widen

theorem State.handDrop_writes (s : State) (k reason : Nat) (v : List Word) : s.Writes packetParts (s.handDrop k reason
    v) := by
  unfold State.handDrop
  exact (State.endPkt_writes ..).after (State.sealVerdict_writes ..).widen

theorem State.clusterReset_writes (s : State) (c : Nat) : s.Writes (packetParts ++ [.clusters, .threads])
    (s.clusterReset c) := by
  unfold State.clusterReset
  dsimp only
  refine (State.setClu_writes ..).after ?_
  refine (State.setRg_writes ..).after ?_
  refine (State.setRg_writes ..).after ?_
  refine .ite ?_ ?_
  · refine (State.withThreads_writes ..).after ?_
    refine .foldl (fun _ _ => ?_) (State.clearAdmit_writes ..).widen
    split
    · exact (State.handDrop_writes ..).widen
    · exact .refl _
  · refine (State.bump_writes ..).after ?_
    refine (State.withThreads_writes ..).after ?_
    refine .foldl (fun _ _ => ?_) (State.clearAdmit_writes ..).widen
    split
    · exact (State.handDrop_writes ..).widen
    · exact .refl _

theorem State.rstdUnit_writes (s : State) (src code : Nat) (info : Word) : s.Writes resetParts (s.rstdUnit src code
    info) := by
  unfold State.rstdUnit
  dsimp only
  refine .ite (.ite ((State.bufReset_writes ..).after (State.markReset_writes ..).widen) ((State.domReset_writes
    ..).after (.ite (State.markReset_writes ..).widen (.refl _)))) ?_
  refine .ite ((State.bufReset_writes ..).after (State.markReset_writes ..).widen) ?_
  refine .ite ((State.domReset_writes ..).after (State.markReset_writes ..).widen) ?_
  refine .ite ((State.domReset_writes ..).after (State.markReset_writes ..).widen) ?_
  refine .ite (State.domReset_writes ..).widen ?_
  refine .ite ?_ (.ite (State.domReset_writes ..).widen (.ite (State.domReset_writes ..).widen (.ite
    (State.domReset_writes ..).widen (.refl _))))
  split
  · exact (State.clusterReset_writes ..).widen
  · exact .refl _

theorem State.setLine_writes (s : State) (c l : Nat) (x : LockLine) : s.Writes [.clusters] (s.setLine c l x) := by
  unfold State.setLine
  exact State.setClu_writes ..

theorem State.leaveLine_writes (s : State) (k : Nat) : s.Writes [.clusters] (s.leaveLine k).2 := by
  unfold State.leaveLine
  extract_lets t c me u
  have hu : s.Writes [.clusters] u := by
    unfold u
    split
    · exact State.setLine_writes ..
    · exact .refl _
  split
  · exact hu
  · exact .ite_snd ((State.setLine_writes ..).after hu) hu

theorem State.breakLock_writes (s : State) (k : Nat) : s.Writes [.held, .clusters, .threads] (s.breakLock k) := by
  unfold State.breakLock
  dsimp only
  split
  · exact .refl _
  · exact (State.setThr_writes ..).after (.orElse (State.orRg_writes ..).widen (State.leaveLine_writes ..).widen)

theorem State.dramFreeze_writes (s : State) (c : Nat) : s.Writes [.held, .hosts, .dma, .dram, .image, .free, .out]
    (s.dramFreeze c) := by
  unfold State.dramFreeze
  exact .ite (State.enterSr_writes ..).widen (State.dramQuiet_writes ..).widen

theorem State.freezeLatch_writes (s : State) (origin source event : Nat) (drives : Bool) : s.Writes [.held, .clusters,
    .threads, .hosts, .dma, .dram, .image, .frz, .free, .out] (s.freezeLatch origin source event drives) := by
  unfold State.freezeLatch
  dsimp only
  refine .ite (.ite (State.withFrz_writes ..).widen (.refl _)) ?_
  refine .foldl (fun _ _ => (State.dramFreeze_writes ..).widen) ?_
  refine .foldl (fun _ _ => (State.breakLock_writes ..).widen) ?_
  refine .foldl (fun _ _ => ?_) (State.withFrz_writes ..).widen
  refine .foldl (fun _ _ => ?_) (.refl _)
  split
  · exact .ite ((State.emit_writes ..).after (State.bump_writes ..).widen) (.refl _)
  · exact .refl _

theorem State.chipReset_writes (s : State) : s.Writes Part.all s.chipReset := by
  have hstop : s.Writes Part.all ((List.range 4).foldl State.dramStop s) :=
    .foldl (fun _ _ => (State.dramStop_writes ..).widen) (.refl _)
  unfold State.chipReset
  generalize (List.range 4).foldl State.dramStop s = u at hstop ⊢
  exact hstop.trans (.all_of_image ⟨State.dramDflt_congr fun k hk =>
    u.undef_fill (fun c => { undef := (u.dch c).undef, poison := (u.dch c).poison }) (fun _ => rfl) hk, rfl⟩)

theorem State.raiseCore_writes (s : State) (e : FaultEv) : s.Writes Part.all (s.raiseCore e) := by
  unfold State.raiseCore
  exact .orElse (.orElse (State.orRg_writes ..).widen (State.chipReset_writes ..).widen) (.orElse
    (State.freezeLatch_writes ..).widen (.orElse (State.rstdUnit_writes ..).widen (.orElse (State.isoUnit_writes
    ..).widen (.orElse (State.orRg_writes ..).widen ((State.logHist_writes ..).after (State.logStatus_writes
    ..).widen)))))

theorem State.raise_writes (s : State) (e : FaultEv) : s.Writes Part.all (s.raise e) := by
  unfold State.raise
  exact .orElse (.ite ((State.raiseCore_writes ..).after (State.withFlt_writes ..).widen) (State.withFlt_writes
    ..).widen) (State.raiseCore_writes ..).widen

theorem State.commitNone_writes (s : State) (r : Req) (a : Nat) : s.Writes Part.all (s.commitNone r a) := by
  unfold State.commitNone
  split
  · exact (State.raise_writes ..).widen
  · exact (State.raise_writes ..).widen
  · exact .refl _

theorem State.commitSlots_writes (s : State) (c : Nat) (cls pol : Word) : s.Writes [.clusters] (s.commitSlots c cls
    pol) := by
  unfold State.commitSlots
  exact State.setClu_writes ..

theorem State.carve_writes (s : State) (n : List Nat) : s.Writes [.held, .buf] (s.carve n) := by
  unfold State.carve
  exact (State.poolSteps_writes ..).after (.foldl (fun _ _ => (State.setBlk_writes ..).widen) (.refl _))

theorem State.commitCarve_writes (s : State) (lo hi : Word) : s.Writes [.held, .buf] (s.commitCarve lo hi) := by
  unfold State.commitCarve
  exact .ite (State.withBuf_writes ..).widen ((State.carve_writes ..).after ((State.withBuf_writes ..).after
    ((State.setRg_writes ..).after (State.setRg_writes ..).widen)))

theorem State.setIdx_writes (s : State) (o : Option Nat) {f : State → Nat → State} {l : List Part}
    (hf : ∀ (s : State) q, s.Writes l (f s q)) : s.Writes l (s.setIdx o f) := by
  unfold State.setIdx
  split
  · exact hf ..
  · exact .refl _

theorem State.setShp_writes (s : State) (i : Nat) (b : Bucket) : s.Writes [.sched] (s.setShp i b) := by
  unfold State.setShp
  exact (State.withSched_writes ..).widen

theorem State.commitReg_writes (s : State) (r : Req) (v : Word) : s.Writes Part.all (s.commitReg r v) := by
  unfold State.commitReg
  dsimp only
  split
  · exact State.commitNone_writes ..
  · split
    · exact .ite (.refl _) (State.access_writes _ _ _ fun _ => (State.commitSlots_writes ..).widen)
    · exact (State.commitCarve_writes ..).widen
    · split
      · exact State.access_writes _ _ _ fun _ => State.setIdx_writes _ _ fun _ _ => (State.setPol_writes ..).widen
      · exact .refl _
    · split
      · exact State.access_writes _ _ _ fun _ => State.setIdx_writes _ _ fun _ _ => (State.setShp_writes ..).widen
      · exact .refl _
    · exact State.commitNone_writes ..

theorem State.msixWrite_writes (s : State) (h i : Nat) (v : Word) : s.Writes [.hosts] (s.msixWrite h i v) := by
  unfold State.msixWrite
  exact .ite (State.setHst_writes ..).widen (.refl _)

theorem State.setPv_writes (s : State) (r : Req) (a : Nat) (v : Word) : s.Writes [.priv] (s.setPv r a v) := by
  unfold State.setPv
  exact (State.withPriv_writes ..).widen

theorem State.writePlain_writes (s : State) (r : Req) (x : RegAt) (v : Word) : s.Writes [.held, .priv] (s.writePlain r
    x v) := by
  unfold State.writePlain
  split
  · exact (State.withHeld_writes ..).widen
  · exact (State.setPv_writes ..).widen
  · exact .refl _

theorem State.startDone_writes (s : State) : s.Writes [.buf] s.startDone := by
  unfold State.startDone
  exact .ite (State.withBuf_writes ..).widen (.refl _)

theorem State.writeChipCtl_writes (s : State) (v : Word) : s.Writes Part.all (s.writeChipCtl v) := by
  unfold State.writeChipCtl
  exact .ite (State.chipReset_writes ..).widen (.ite ((State.startDone_writes ..).after (State.orRg_writes ..).widen)
    (.refl _))

theorem State.reRise_writes (s : State) (src : Nat) : s.Writes [.hosts] (s.reRise src) := by
  unfold State.reRise
  exact .foldl (fun _ _ => (State.setHst_writes ..).widen) (.refl _)

theorem State.writeStatus3_writes (s : State) (v : Word) : s.Writes [.held, .hosts, .flt] (s.writeStatus3 v) := by
  unfold State.writeStatus3
  exact .orElse (State.withFlt_writes ..).widen ((State.setRg_writes ..).after (.foldl (fun _ _ =>
    (State.reRise_writes ..).widen) (.refl _)))

theorem State.writeTest_writes (s : State) (v : Word) : s.Writes [.held, .flt] (s.writeTest v) := by
  unfold State.writeTest
  exact .ite (.refl _) (.orElse (.ite (State.withFlt_writes ..).widen (State.withFlt_writes ..).widen)
    (State.setRg_writes ..).widen)

theorem State.retire_writes (s : State) (c e cause : Nat) : s.Writes Part.all (s.retire c e cause) := by
  unfold State.retire
  exact .ite (.refl _) (.orElse (State.raise_writes ..).widen ((State.raise_writes ..).after (.ite
    ((State.setClu_writes ..).after ((State.dropSamples_writes ..).after ((State.setClu_writes ..).after
    (State.withFlt_writes ..).widen))) (.orElse (State.setClu_writes ..).widen ((State.setClu_writes ..).after
    (State.withFlt_writes ..).widen)))))

theorem State.writeRetire_writes (s : State) (c : Nat) (v : Word) : s.Writes Part.all (s.writeRetire c v) := by
  unfold State.writeRetire
  exact .foldl (fun _ _ => (.ite (State.retire_writes ..).widen (.refl _))) (.refl _)

theorem State.refuseStep_writes (s : State) (k : Nat) : s.Writes [.dom] (s.refuseStep k) := by
  unfold State.refuseStep
  exact State.setDmn_writes ..

theorem State.stepBegin_writes (s : State) (k : Nat) : s.Writes [.dom] (s.stepBegin k) := by
  unfold State.stepBegin
  dsimp only
  refine .ite (.refl _) ?_
  split
  · exact (State.setDmn_writes ..).widen
  · exact .ite (.ite (State.refuseStep_writes ..).widen (.ite (.refl _) (State.setDmn_writes ..).widen)) (.ite (.refl
      _) (State.setDmn_writes ..).widen)

theorem State.writeDom_writes (s : State) (k : Nat) (v : Word) : s.Writes resetParts (s.writeDom k v) := by
  unfold State.writeDom
  exact .ite (.refl _) (.orElse (State.domReset_writes ..).widen ((State.stepBegin_writes ..).after
    (State.setDmn_writes ..).widen))

theorem State.writeReload_writes (s : State) (v : Word) : s.Writes [.reload] (s.writeReload v) := by
  unfold State.writeReload
  exact (State.withReload_writes ..).widen

theorem State.writeTimeCtl_writes (s : State) (v : Word) : s.Writes [.time, .held] (s.writeTimeCtl v) := by
  unfold State.writeTimeCtl
  exact .orElse (State.withTime_writes ..).widen (State.setRg_writes ..).widen

theorem State.closeHold_writes (s : State) (c : Nat) : s.Writes [.clusters] (s.closeHold c) := by
  unfold State.closeHold
  exact State.setClu_writes ..

theorem State.closePoints_writes (s : State) : s.Writes [.groups, .clusters, .led, .tel] s.closePoints := by
  unfold State.closePoints
  exact .ite (.refl _) (.foldl (fun _ _ => (State.closeHold_writes ..).widen) ((State.absentAnew_writes ..).after
    (State.withLedTel_writes ..).widen))

theorem State.closeInterval_writes (s : State) : s.Writes [.wide, .groups, .clusters, .led, .tel] s.closeInterval :=
    by
  unfold State.closeInterval
  exact (State.addCtr_writes ..).after ((State.withLedTel_writes ..).after (State.closePoints_writes ..).widen)

theorem State.ledStep_writes (s : State) (t : Nat) : s.Writes [.wide, .groups, .clusters, .led, .tel] (s.ledStep t) :=
    by
  unfold State.ledStep
  exact .ite (.refl _) ((State.withLed_writes ..).after ((State.closePoints_writes ..).after (.ite
    (State.closeInterval_writes ..).widen (.refl _))))

theorem State.timeStep_writes (s : State) (t : Nat) : s.Writes [.time, .wide, .groups, .clusters, .led, .tel]
    (s.timeStep t) := by
  unfold State.timeStep
  exact (State.withTimeTel_writes ..).after (State.ledStep_writes ..).widen

theorem State.setSec_writes (s : State) (v : Word) : s.Writes [.time, .held, .wide, .groups, .clusters, .led, .tel]
    (s.setSec v) := by
  unfold State.setSec
  exact .ite ((State.withTime_writes ..).after (State.setRg_writes ..).widen) ((State.timeStep_writes ..).after
    (State.setRg_writes ..).widen)

theorem State.dropHostPicks_writes (s : State) (h : Nat) : s.Writes [.held, .wide, .groups, .buf, .sched, .led, .tel,
    .dram] (s.dropHostPicks h) := by
  unfold State.dropHostPicks
  exact .foldl (fun _ _ => (State.dropDesc_writes ..).widen) (State.withSched_writes ..).widen

theorem State.cuForget_writes (s : State) (h : Nat) : s.Writes [.cu, .epc] (s.cuForget h) := by
  unfold State.cuForget
  exact (State.withCuEpc_writes ..).widen

theorem State.keepReads_writes (s : State) (c : Nat) (keep : DReq → Bool) : s.Writes [.dram] (s.keepReads c keep) :=
    by
  unfold State.keepReads
  exact State.setDch_writes ..

theorem State.startAbort_writes (s : State) (by_ : Option TCmd) (forced : Bool) : s.Writes [.cu, .epc] (s.startAbort
    by_ forced) := by
  unfold State.startAbort
  exact (State.withEpc_writes ..).after (State.withCu_writes ..).widen

theorem State.hostLoss_writes (s : State) (h cause : Nat) (linkOff : Bool) : s.Writes hostParts (s.hostLoss h cause
    linkOff) := by
  unfold State.hostLoss
  extract_lets f f' s1 s2 s3 s4 s5
  have hlink : s.Writes hostParts s2 :=
    have hflush : s.Writes hostParts s1 := (State.markFlush_writes ..).after (State.setHst_writes ..).widen
    .ite ((State.emit_writes ..).after hflush) hflush
  have hlost : s.Writes hostParts s3 := .after (k := [.held, .priv, .latch, .rings, .dma]) .of_same hlink
  have hpicks : s.Writes hostParts s4 := (State.dropHostPicks_writes ..).after ((State.cuForget_writes ..).after
      hlost)
  exact .orElse (State.startAbort_writes ..).widen (.foldl (fun _ _ => (State.keepReads_writes ..).widen) hpicks)

theorem State.loseHost_writes (s : State) (h cause : Nat) (linkOff : Bool) : s.Writes hostParts (s.loseHost h cause
    linkOff) := by
  unfold State.loseHost
  exact .orThen (State.setHst_writes ..).widen (State.hostLoss_writes ..).widen

theorem State.writeHostCtl_writes (s : State) (h : Nat) (v : Word) : s.Writes hostParts (s.writeHostCtl h v) := by
  unfold State.writeHostCtl
  exact .ite (.ite (State.loseHost_writes ..).widen (.refl _)) (.ite (State.setHst_writes ..).widen (.refl _))

theorem State.sendLtr_writes (s : State) (h : Nat) : s.Writes [.hosts, .out] (s.sendLtr h) := by
  unfold State.sendLtr
  exact .ite ((State.emit_writes ..).after (State.tlp_writes ..).widen) (.refl _)

theorem State.writePmCfg_writes (s : State) (h : Nat) (v : Word) : s.Writes [.held, .hosts, .out] (s.writePmCfg h v)
    := by
  unfold State.writePmCfg
  exact .orThen (State.sendLtr_writes ..).widen (State.setRg_writes ..).widen

theorem State.dbStart_writes (s : State) (h : Nat) : s.Writes [.hosts, .out] (s.dbStart h) := by
  unfold State.dbStart
  exact (State.readHost_writes ..).after (State.setHst_writes ..).widen

theorem State.dbWant_writes (s : State) (h : Nat) : s.Writes [.hosts, .out] (s.dbWant h) := by
  unfold State.dbWant
  exact .ite (.refl _) (.ite (State.setHst_writes ..).widen (State.dbStart_writes ..).widen)

theorem State.nudge_writes (s : State) (h : Nat) : s.Writes [.hosts, .out] (s.nudge h) := by
  unfold State.nudge
  exact .ite (State.dbWant_writes ..).widen (.refl _)

theorem State.reRiseOf_writes (s : State) (h src : Nat) : s.Writes [.hosts] (s.reRiseOf h src) := by
  unfold State.reRiseOf
  exact State.setHst_writes ..

theorem State.ringErr_writes (s : State) (h t cause : Nat) : s.Writes [.held, .rings] (s.ringErr h t cause) := by
  unfold State.ringErr
  exact (State.setRing_writes ..).after (.ite (.refl _) (State.setRg_writes ..).widen)

theorem State.ringStart_writes (s : State) (h t : Nat) (v : Word) (count : Option Word) : s.Writes [.held, .hosts,
    .rings, .out] (s.ringStart h t v count) := by
  unfold State.ringStart
  exact .orElse (State.ringErr_writes ..).widen (.ite ((State.dbWant_writes ..).after (State.setRing_writes ..).widen)
    (.orElse (State.readHost_writes ..).widen (State.setRing_writes ..).widen))

theorem State.writeRngCfg_writes (s : State) (h t : Nat) (v : Word) (count : Option Word) : s.Writes [.held, .hosts,
    .rings, .out] (s.writeRngCfg h t v count) := by
  unfold State.writeRngCfg
  exact .ite (.ite (State.setRg_writes ..).widen (.ite ((State.ringStart_writes ..).after (State.setRg_writes
    ..).widen) (.refl _))) ((State.setRing_writes ..).after (State.setRg_writes ..).widen)

theorem State.abortDma_writes (s : State) (n : Nat) : s.Writes [.dma] (s.abortDma n) := by
  unfold State.abortDma
  exact .ite (State.setChan_writes ..).widen (.refl _)

theorem State.goDma_writes (s : State) (n : Nat) : s.Writes [.hosts, .dma, .out] (s.goDma n) := by
  unfold State.goDma
  exact .ite (.refl _) ((State.readHost48_writes ..).after (State.setChan_writes ..).widen)

theorem State.writeDmaCtl_writes (s : State) (n : Nat) (v : Word) : s.Writes [.hosts, .dma, .out] (s.writeDmaCtl n v)
    := by
  unfold State.writeDmaCtl
  exact .ite (State.abortDma_writes ..).widen (.ite (State.goDma_writes ..).widen (.refl _))

theorem State.writeDmaStat_writes (s : State) (n : Nat) (v : Word) : s.Writes [.hosts, .dma] (s.writeDmaStat n v) :=
    by
  unfold State.writeDmaStat
  exact (State.reRiseOf_writes ..).after (State.setChan_writes ..).widen

theorem State.complete_writes (s : State) (c : TCmd) (x : Cpl) : s.Writes [.held, .cu, .hosts, .rings, .free, .out]
    (s.complete c x) := by
  unfold State.complete
  dsimp only
  split
  · refine (State.withCu_writes ..).after ?_
    refine .foldl (fun _ _ => (State.setRg_writes ..).widen) ?_
    split
    · exact (State.fresh_writes ..).widen
    · exact .refl _
  · refine .ite ?_ ?_
    · refine (State.setRing_writes ..).after ?_
      refine (State.toHost_writes ..).after ?_
      refine (State.setRing_writes ..).after ?_
      refine (State.setRing_writes ..).after ?_
      split
      · exact (State.fresh_writes ..).widen
      · exact .refl _
    · refine (State.setRing_writes ..).after ?_
      refine (State.setRing_writes ..).after ?_
      split
      · exact (State.fresh_writes ..).widen
      · exact .refl _

theorem State.cuPop_writes (s : State) : s.Writes [.cu] s.cuPop := by
  unfold State.cuPop
  dsimp only
  split
  · exact (State.withCu_writes ..).widen
  · exact .refl _

theorem State.cuSkip_writes (n : Nat) (s : State) : s.Writes [.held, .cu, .hosts, .rings, .free, .out] (State.cuSkip n
    s) := by
  induction n generalizing s with
  | zero => exact .refl _
  | succ n ih =>
    unfold State.cuSkip
    split
    · exact .ite (.refl _) (((State.complete_writes ..).after (State.cuPop_writes ..).widen).trans (ih _))
    · exact .refl _

theorem State.cuTidy_writes (s : State) : s.Writes [.held, .cu, .hosts, .rings, .free, .out] s.cuTidy := by
  unfold State.cuTidy
  exact State.cuSkip_writes ..

theorem State.submit_writes (s : State) (b : Req) (v : Word) : s.Writes [.held, .cu, .hosts, .rings, .free, .out]
    (s.submit b v) := by
  unfold State.submit
  exact .ite ((State.cuTidy_writes ..).after (State.withCu_writes ..).widen) (.refl _)

theorem State.setImg_writes (s : State) (x : ImagePort) : s.Writes [.img] (s.setImg x) := by
  unfold State.setImg
  exact (State.withImg_writes ..).widen

theorem State.imgFail_writes (s : State) (status : Nat) : s.Writes [.img] (s.imgFail status) := by
  unfold State.imgFail
  exact State.setImg_writes ..

theorem State.writeImgCtl_writes (s : State) (v : Word) : s.Writes [.held, .img] (s.writeImgCtl v) := by
  unfold State.writeImgCtl
  exact .orElse (State.setImg_writes ..).widen (.orElse (State.imgFail_writes ..).widen (State.setRg_writes ..).widen)

theorem State.invalSlot_writes (s : State) (c i : Nat) : s.Writes [.clusters] (s.invalSlot c i) := by
  unfold State.invalSlot
  exact State.setClu_writes ..

theorem State.imgBody_writes (s : State) (h : List Word) : s.Writes [.clusters, .img] (s.imgBody h) := by
  unfold State.imgBody
  exact (State.setImg_writes ..).after (.foldl (fun _ _ => (State.invalSlot_writes ..).widen) (.refl _))

theorem State.setCword_writes (s : State) (c slot addr : Nat) (w : BitVec 144) : s.Writes [.cstore] (s.setCword c slot
    addr w) := by
  unfold State.setCword
  exact (State.withCstore_writes ..).widen

theorem State.imgWord_writes (s : State) : s.Writes [.cstore, .img] s.imgWord := by
  unfold State.imgWord
  exact .ite (.refl _) (.ite (State.imgFail_writes ..).widen ((State.setImg_writes ..).after (.foldl (fun _ _ =>
    (State.setCword_writes ..).widen) (.refl _))))

theorem State.imgDone_writes (s : State) : s.Writes [.clusters, .img] s.imgDone := by
  unfold State.imgDone
  exact (State.setImg_writes ..).after (.foldl (fun _ _ => (State.setClu_writes ..).widen) (.refl _))

theorem State.imgFinish_writes (s : State) : s.Writes [.clusters, .img] s.imgFinish := by
  unfold State.imgFinish
  exact .ite (State.imgDone_writes ..).widen (.refl _)

theorem State.imgData_writes (s : State) (v : Word) : s.Writes [.clusters, .cstore, .img] (s.imgData v) := by
  unfold State.imgData
  exact .ite (.orThen (.ite (State.imgBody_writes ..).widen (State.imgFail_writes ..).widen) (State.setImg_writes
    ..).widen) (.ite ((State.imgWord_writes ..).after (State.setImg_writes ..).widen) (.ite (State.setImg_writes
    ..).widen (.ite ((State.imgFail_writes ..).after (State.setImg_writes ..).widen) (.ite ((State.imgFail_writes
    ..).after (State.setImg_writes ..).widen) ((State.imgFinish_writes ..).after ((State.setImg_writes ..).after
    (State.setImg_writes ..).widen))))))

theorem State.writeEpcCfg_writes (s : State) (v : Word) : s.Writes [.held, .cu, .epc] (s.writeEpcCfg v) := by
  unfold State.writeEpcCfg
  exact .orElse (State.startAbort_writes ..).widen (State.setRg_writes ..).widen

theorem State.writePortCfg_writes (s : State) (pg p : Nat) (v : Word) : s.Writes [.held] (s.writePortCfg pg p v) := by
  unfold State.writePortCfg
  exact State.setRg_writes ..

theorem State.toAligning_writes (s : State) (lp : Nat) : s.Writes linkParts (s.toAligning lp) := by
  unfold State.toAligning
  exact (State.setPort_writes ..).after (State.setLink_writes ..).widen

theorem State.toDown_writes (s : State) (lp : Nat) : s.Writes linkParts (s.toDown lp) := by
  unfold State.toDown
  exact .ite (State.setLink_writes ..).widen (State.toAligning_writes ..).widen

theorem State.enableLp_writes (s : State) (lp : Nat) : s.Writes linkParts (s.enableLp lp) := by
  unfold State.enableLp
  exact .orElse (State.toDown_writes ..).widen (State.setPort_writes ..).widen

theorem State.writeMacCtl_writes (s : State) (lp : Nat) (v : Word) : s.Writes linkParts (s.writeMacCtl lp v) := by
  unfold State.writeMacCtl
  exact .ite ((State.enableLp_writes ..).after (State.setRg_writes ..).widen) (.orElse (State.forceDown_writes
    ..).widen (State.setRg_writes ..).widen)

theorem State.setCage_writes (s : State) (c : Nat) (x : Cage) : s.Writes [.cages] (s.setCage c x) := by
  unfold State.setCage
  exact (State.withCages_writes ..).widen

theorem State.cageDown_writes (s : State) (c : Nat) : s.Writes linkParts (s.cageDown c) := by
  unfold State.cageDown
  exact .foldl (fun _ _ => (.ite (State.forceDown_writes ..).widen (.refl _))) (.refl _)

theorem State.cageStart_writes (s : State) (c : Nat) : s.Writes (linkParts ++ [.cages]) (s.cageStart c) := by
  unfold State.cageStart
  exact (State.setCage_writes ..).after (.ite (State.cageDown_writes ..).widen (.refl _))

theorem State.setBus_writes (s : State) (n : Nat) (x : CageBus) : s.Writes [.buses] (s.setBus n x) := by
  unfold State.setBus
  exact (State.withBuses_writes ..).widen

theorem State.expPut_writes (s : State) (n k : Nat) (cmd v : Nat) : s.Writes [.out] (s.expPut n k cmd v) := by
  unfold State.expPut
  exact State.emit_writes ..

theorem State.writeBusCfg_writes (s : State) (n : Nat) (v : Word) : s.Writes (linkParts ++ [.cages, .buses])
    (s.writeBusCfg n v) := by
  unfold State.writeBusCfg
  exact .ite (.foldl (fun _ _ => (State.expPut_writes ..).widen) (.foldl (fun _ _ => (State.expPut_writes ..).widen)
    ((State.setBus_writes ..).after (.foldl (fun _ _ => (State.cageStart_writes ..).widen) (State.setRg_writes
    ..).widen)))) (.orElse (State.setBus_writes ..).widen (State.setRg_writes ..).widen)

theorem State.writeXfer_writes (s : State) (n : Nat) (v : Word) : s.Writes [.held, .buses] (s.writeXfer n v) := by
  unfold State.writeXfer
  exact .ite (.refl _) (.orElse (State.setBus_writes ..).widen (State.setRg_writes ..).widen)

theorem State.cageEvt_writes (s : State) (c i : Nat) : s.Writes [.held] (s.cageEvt c i) := by
  unfold State.cageEvt
  exact State.orRg_writes ..

theorem State.queueWrite_writes (s : State) (c : Nat) : s.Writes [.cages, .buses] (s.queueWrite c) := by
  unfold State.queueWrite
  exact .orElse (State.setBus_writes ..).widen (State.setCage_writes ..).widen

theorem State.cageTo_writes (s : State) (c : Nat) (st : CageState) : s.Writes (linkParts ++ [.cages, .buses])
    (s.cageTo c st) := by
  unfold State.cageTo
  exact (State.queueWrite_writes ..).after (.orElse (State.cageEvt_writes ..).widen ((State.setCage_writes ..).after
    (.ite (State.cageDown_writes ..).widen (.refl _))))

theorem State.cageCmd_writes (s : State) (c code : Nat) : s.Writes (linkParts ++ [.cages, .buses]) (s.cageCmd c code)
    := by
  unfold State.cageCmd
  dsimp only
  split
  · exact (State.cageTo_writes ..).widen
  · exact (State.cageTo_writes ..).widen
  · exact (State.cageTo_writes ..).widen
  · exact (State.cageTo_writes ..).widen
  · exact (State.cageTo_writes ..).widen
  · exact (State.cageTo_writes ..).widen
  · exact (State.queueWrite_writes ..).after (State.setCage_writes ..).widen
  · exact (State.queueWrite_writes ..).after (State.setCage_writes ..).widen
  · exact (State.cageTo_writes ..).widen
  · exact .refl _

theorem State.writeNecCtl_writes (s : State) (c : Nat) (v : Word) : s.Writes (packetParts ++ [.clusters, .threads])
    (s.writeNecCtl c v) := by
  unfold State.writeNecCtl
  exact .orElse (State.clusterReset_writes ..).widen (.orElse (State.dropSamples_writes ..).widen ((State.setRg_writes
    ..).after (.ite ((State.invalSlot_writes ..).after (.ite (State.invalSlot_writes ..).widen (.refl _))) (.ite
    (State.invalSlot_writes ..).widen (.refl _)))))

theorem State.checkerFault_writes (s : State) (c step : Nat) : s.Writes Part.all (s.checkerFault c step) := by
  unfold State.checkerFault
  exact (State.raise_writes ..).after ((State.setClu_writes ..).after (State.dropSamples_writes ..).widen)

theorem State.selfTest_writes (s : State) (c : Nat) (fail : Option Nat) (resume : Bool) : s.Writes Part.all
    (s.selfTest c fail resume) := by
  unfold State.selfTest
  dsimp only
  split
  · exact (State.checkerFault_writes ..).after (State.setClu_writes ..).widen
  · exact (State.setClu_writes ..).after (State.setClu_writes ..).widen

theorem State.writeSentCfg_writes (s : State) (c : Nat) (v : Word) (fail : Option Nat) : s.Writes Part.all
    (s.writeSentCfg c v fail) := by
  unfold State.writeSentCfg
  exact .orThen (.ite (State.setClu_writes ..).widen (State.selfTest_writes ..).widen) (State.setRg_writes ..).widen

theorem State.writeQuad_writes (s : State) (v : Word) : s.Writes [.held, .buf] (s.writeQuad v) := by
  unfold State.writeQuad
  exact .ite (.refl _) ((State.poolSteps_writes ..).after (State.withBuf_writes ..).widen)

theorem State.bwClr_writes (s : State) (r : Req) (v : Word) : s.Writes [.tel] (s.bwClr r v) := by
  unfold State.bwClr
  exact (State.withTel_writes ..).widen

theorem State.settleCap_writes (s : State) : s.Writes [.tel] s.settleCap := by
  unfold State.settleCap
  exact (State.withTel_writes ..).widen

theorem State.pmcClr_writes (s : State) (hi : Bool) (v : Word) : s.Writes [.wide] (s.pmcClr hi v) := by
  unfold State.pmcClr
  exact (State.withWide_writes ..).widen

theorem State.placeRgn_writes (s : State) (k : Nat) : s.Writes [.tel] (s.placeRgn k) := by
  unfold State.placeRgn
  exact .ite (State.withTel_writes ..).widen (.refl _)

theorem State.unuse_writes (s : State) (c : Nat) : s.Writes [.dram] (s.unuse c) := by
  unfold State.unuse
  exact .ite (.refl _) (State.setDramSt_writes ..).widen

theorem State.trainChannel_writes (s : State) (c : Nat) : s.Writes [.dram] (s.trainChannel c) := by
  unfold State.trainChannel
  exact .ite ((State.setDramSt_writes ..).after (State.setDch_writes ..).widen) (.refl _)

theorem State.writeDrcCfg_writes (s : State) (v : Word) : s.Writes [.held, .dram] (s.writeDrcCfg v) := by
  unfold State.writeDrcCfg
  exact .orElse (.ite (.foldl (fun _ _ => (State.trainChannel_writes ..).widen) (.refl _)) (.foldl (fun _ _ =>
    (State.setDch_writes ..).widen) (.refl _))) (.ite (.foldl (fun _ _ => (State.unuse_writes ..).widen)
    (State.setRg_writes ..).widen) (.refl _))

theorem State.startMigration_writes (s : State) (c r : Nat) : s.Writes [.dram] (s.startMigration c r) := by
  unfold State.startMigration
  exact (State.setDramSt_writes ..).after (State.setDch_writes ..).widen

theorem State.writeDrcCh_writes (s : State) (c : Nat) (v : Word) : s.Writes [.held, .tel, .hosts, .dma, .dram, .image,
    .free, .out] (s.writeDrcCh c v) := by
  unfold State.writeDrcCh
  dsimp only
  split
  · exact (State.dramOffline_writes ..).after (.ite (State.setRg_writes ..).widen (.refl _))
  · exact .orElse ((State.setDramSt_writes ..).after (State.setDch_writes ..).widen) (.ite (State.setRg_writes
      ..).widen (.refl _))
  · exact .orElse (State.startMigration_writes ..).widen (.ite (State.setRg_writes ..).widen (.refl _))
  · exact .ite (State.setRg_writes ..).widen (.refl _)

theorem State.writeDrcStat_writes (s : State) (c : Nat) (v : Word) : s.Writes [.hosts, .dram] (s.writeDrcStat c v) :=
    by
  unfold State.writeDrcStat
  exact (State.reRise_writes ..).after (State.setDch_writes ..).widen

theorem State.writeFrzCtl_writes (s : State) (v : Word) : s.Writes [.held, .clusters, .threads, .hosts, .dma, .dram,
    .image, .frz, .free, .out] (s.writeFrzCtl v) := by
  unfold State.writeFrzCtl
  exact .orElse (State.freezeLatch_writes ..).widen (State.setRg_writes ..).widen

theorem State.setDbgOp_writes (s : State) (r : Req) (x : DbgOp) : s.Writes [.dbg] (s.setDbgOp r x) := by
  unfold State.setDbgOp
  exact (State.withDbg_writes ..).widen

theorem State.haltThread_writes (s : State) (k no : Nat) : s.Writes [.clusters, .threads] (s.haltThread k no) := by
  unfold State.haltThread
  exact .ite (.refl _) (.ite (State.setThr_writes ..).widen ((State.setThr_writes ..).after (State.leaveLine_writes
    ..).widen))

theorem State.forceHaltThread_writes (s : State) (k no : Nat) : s.Writes [.held, .clusters, .threads]
    (s.forceHaltThread k no) := by
  unfold State.forceHaltThread
  exact (State.haltThread_writes ..).after (State.breakLock_writes ..).widen

theorem State.putThr_writes (s : State) (k : Nat) (t : Thread) : s.Writes [.threads] (s.putThr k t) := by
  unfold State.putThr
  exact State.setThr_writes ..

theorem State.resumeThread_writes (s : State) (k : Nat) : s.Writes [.threads] (s.resumeThread k) := by
  unfold State.resumeThread
  exact State.putThr_writes ..

theorem State.stepThread_writes (s : State) (k no : Nat) : s.Writes [.threads] (s.stepThread k no) := by
  unfold State.stepThread
  exact .ite (.refl _) (State.putThr_writes ..).widen

theorem State.passLine_writes (s : State) (k : Nat) : s.Writes [.clusters] (s.passLine k) := by
  unfold State.passLine
  exact .ite (.refl _) (.foldl (fun _ _ => (State.setLine_writes ..).widen) (.refl _))

theorem State.dropLock_writes (s : State) (k no : Nat) : s.Writes [.clusters, .threads] (s.dropLock k no) := by
  unfold State.dropLock
  exact (State.passLine_writes ..).after ((State.setThr_writes ..).after (State.leaveLine_writes ..).widen)

theorem State.setSample_writes (s : State) (c i : Nat) (x : Option Sample) : s.Writes [.clusters] (s.setSample c i x)
    := by
  unfold State.setSample
  exact State.setClu_writes ..

theorem State.samplePrimary_writes (s : State) (k : Nat) (d : Option Word) : s.Writes [.clusters] (s.samplePrimary k
    d) := by
  unfold State.samplePrimary
  dsimp only
  split
  · exact (State.setSample_writes ..).widen
  · exact .refl _

theorem State.sampleSentinel_writes (s : State) (k : Nat) (d : Option Word) : s.Writes [.clusters] (s.sampleSentinel k
    d) := by
  unfold State.sampleSentinel
  dsimp only
  split
  · exact .refl _
  · split
    · exact .refl _
    · exact (State.setSample_writes ..).widen

theorem State.abortThread_writes (s : State) (k : Nat) : s.Writes (packetParts ++ [.clusters, .threads])
    (s.abortThread k) := by
  unfold State.abortThread
  dsimp only
  split
  · exact (State.handDrop_writes ..).after ((State.setThr_writes ..).after ((State.samplePrimary_writes ..).after
      (State.dropLock_writes ..).widen))
  · exact (State.setThr_writes ..).after ((State.sampleSentinel_writes ..).after (State.dropLock_writes ..).widen)

theorem State.dbgAct_writes (s : State) (op no : Nat) (ks : List Nat) : s.Writes (packetParts ++ [.clusters,
    .threads]) (s.dbgAct op no ks) := by
  unfold State.dbgAct
  exact .foldl (fun _ _ => (.ite (State.haltThread_writes ..).widen (.ite (State.forceHaltThread_writes ..).widen
    (.ite (.refl _) (.ite (State.resumeThread_writes ..).widen (.ite (State.stepThread_writes ..).widen
    (State.abortThread_writes ..).widen)))))) (.refl _)

theorem State.writeDbg_writes (s : State) (r : Req) (v : Word) : s.Writes (packetParts ++ [.clusters, .threads, .dbg])
    (s.writeDbg r v) := by
  unfold State.writeDbg
  exact .ite (.refl _) (.orThen (.orElse ((State.setDbgOp_writes ..).after (State.dbgAct_writes ..).widen)
    (State.setDbgOp_writes ..).widen) (State.setDbgOp_writes ..).widen)

theorem State.writeThrWord_writes (s : State) (r : Req) (i : Nat) (v : Word) : s.Writes [.threads] (s.writeThrWord r i
    v) := by
  unfold State.writeThrWord
  dsimp only
  split
  · exact .ite (State.setThr_writes ..).widen (.refl _)
  · exact .refl _

theorem State.writeReg_writes (s : State) (r : Req) (x : RegAt) (v : Word) : s.Writes Part.all (s.writeReg r x v) :=
    by
  unfold State.writeReg
  dsimp only
  refine .ite (.refl _) ?_
  split
  · exact (State.writeChipCtl_writes ..).widen
  · exact (State.writeStatus3_writes ..).widen
  · exact (State.withFlt_writes ..).after (State.writePlain_writes ..).widen
  · exact (State.writeTest_writes ..).widen
  · exact .ite (State.writeRetire_writes ..).widen (.refl _)
  · exact (State.writeDom_writes ..).widen
  · exact (State.writeReload_writes ..).widen
  · exact (State.writeTimeCtl_writes ..).widen
  · exact (State.setSec_writes ..).widen
  · exact .ite (State.writePlain_writes ..).widen (.refl _)
  · exact .ite (State.writePlain_writes ..).widen (.refl _)
  · exact .ite (State.writeHostCtl_writes ..).widen (.refl _)
  · exact .ite (State.writePmCfg_writes ..).widen (.refl _)
  · exact .ite (State.writePlain_writes ..).widen (.refl _)
  · exact .ite (State.writePlain_writes ..).widen (.refl _)
  · exact .ite (State.writePlain_writes ..).widen (.refl _)
  · exact .ite (State.writePlain_writes ..).widen (.refl _)
  · exact .ite (State.writePlain_writes ..).widen (.refl _)
  · exact .ite (State.writePlain_writes ..).widen (.refl _)
  · exact .ite (State.writePlain_writes ..).widen (.refl _)
  · exact .ite (State.nudge_writes ..).widen (.refl _)
  · exact .ite ((State.reRiseOf_writes ..).after ((State.reRiseOf_writes ..).after (State.writePlain_writes
      ..).widen)) (.refl _)
  · exact .ite (State.writeRngCfg_writes ..).widen (.refl _)
  · exact .ite (State.writePlain_writes ..).widen (.refl _)
  · exact .ite (State.writePlain_writes ..).widen (.refl _)
  · exact .ite (State.writeDmaCtl_writes ..).widen (.refl _)
  · exact .ite (State.writeDmaStat_writes ..).widen (.refl _)
  · exact .ite (State.writePlain_writes ..).widen (.refl _)
  · exact .ite (State.writePlain_writes ..).widen (.refl _)
  · exact .ite (State.writePlain_writes ..).widen (.refl _)
  · exact .ite (State.writePlain_writes ..).widen (.refl _)
  · exact (State.submit_writes ..).widen
  · exact .ite (State.writePlain_writes ..).widen (.refl _)
  · exact (State.writeImgCtl_writes ..).widen
  · exact .ite (State.imgData_writes ..).widen (.refl _)
  · exact (State.reRise_writes ..).widen
  · exact (State.writeEpcCfg_writes ..).widen
  · exact (State.writePortCfg_writes ..).widen
  · exact (State.writeMacCtl_writes ..).widen
  · exact (State.reRise_writes ..).after (State.writePlain_writes ..).widen
  · exact (State.writeBusCfg_writes ..).widen
  · exact .ite (.refl _) (State.writePlain_writes ..).widen
  · exact (State.writeXfer_writes ..).widen
  · exact (State.cageCmd_writes ..).widen
  · exact (State.reRise_writes ..).after (State.writePlain_writes ..).widen
  · exact (State.writeNecCtl_writes ..).widen
  · exact (State.setPv_writes ..).widen
  · exact (State.setPv_writes ..).widen
  · exact (State.writeSentCfg_writes ..).widen
  · exact (State.setPv_writes ..).widen
  · exact (State.setPv_writes ..).widen
  · exact (State.poolSteps_writes ..).after (State.writePlain_writes ..).widen
  · exact (State.poolSteps_writes ..).after (State.writePlain_writes ..).widen
  · exact (State.reRise_writes ..).after (State.writePlain_writes ..).widen
  · exact (State.writeQuad_writes ..).widen
  · exact State.setIdx_writes _ _ fun _ _ => (State.withSched_writes ..).widen
  · exact State.setIdx_writes _ _ fun _ _ => (State.withSched_writes ..).widen
  · exact State.setIdx_writes _ _ fun _ _ => (State.withSched_writes ..).widen
  · exact State.setIdx_writes _ _ fun _ _ => (State.setPv_writes ..).widen
  · exact State.setIdx_writes _ _ fun _ _ => (State.setPv_writes ..).widen
  · exact State.setIdx_writes _ _ fun _ _ => (State.setPv_writes ..).widen
  · exact State.setIdx_writes _ _ fun _ _ => (State.setPv_writes ..).widen
  · exact (State.bwClr_writes ..).widen
  · exact (State.writePlain_writes ..).after (State.settleCap_writes ..).widen
  · exact (State.pmcClr_writes ..).widen
  · exact (State.pmcClr_writes ..).widen
  · exact (State.placeRgn_writes ..).after (State.writePlain_writes ..).widen
  · exact (State.writeDrcCfg_writes ..).widen
  · exact (State.writeDrcCh_writes ..).widen
  · exact (State.writeDrcStat_writes ..).widen
  · exact (State.writeFrzCtl_writes ..).widen
  · exact (State.writeDbg_writes ..).widen
  · exact (State.setPv_writes ..).widen
  · exact (State.writeThrWord_writes ..).widen
  · exact (State.writePlain_writes ..).widen

theorem State.accWrite_writes (s : State) (r : Req) (a : Nat) (v : Word) : s.Writes Part.all (s.accWrite r a v) := by
  unfold State.accWrite
  split
  · exact .ite (State.msixWrite_writes ..).widen (.refl _)
  · split
    · exact (State.reachUnnamed_writes ..).widen
    · refine .ite (State.commitReg_writes ..).widen ?_
      split
      · exact (State.writeReg_writes ..).widen
      · exact State.access_writes _ _ _ fun _ => State.writeReg_writes ..

theorem State.intWrite_writes (s : State) (n a : Nat) (v : Word) : s.Writes Part.all (s.intWrite n a v) := by
  unfold State.intWrite
  exact .ite (State.accWrite_writes ..).widen ((State.dramWrite_writes ..).after (State.reach_writes ..).widen)

theorem State.abortEnd_writes (s : State) : s.Writes [.held, .cu, .epc, .hosts, .rings, .free, .out] s.abortEnd := by
  unfold State.abortEnd
  dsimp only
  refine (State.cuTidy_writes ..).after ?_
  refine .foldl (fun _ _ => (State.complete_writes ..).widen) ?_
  split
  · exact (State.complete_writes ..).after (State.withCuEpc_writes ..).widen
  · exact (State.withCuEpc_writes ..).widen

theorem State.abortRun_writes (s : State) (c : TCmd) : s.Writes [.held, .cu, .epc, .hosts, .rings, .free, .out]
    (s.abortRun c) := by
  unfold State.abortRun
  split
  · exact (State.complete_writes ..).widen
  · exact (State.startAbort_writes ..).widen

theorem State.accept_writes (s : State) (lp : Nat) (bytes : List Byte) (time pipe : Nat) (inject : Bool) : s.Writes
    [.ports, .groups, .pkts, .nextPkt] (s.accept lp bytes time pipe inject).2 := by
  unfold State.accept
  exact (State.setPkt_writes ..).after ((State.setGrp_writes ..).after ((State.setPort_writes ..).after
    (State.withNextPkt_writes ..).widen))

theorem State.takeBuf_writes {s : State} {k choice b blk : Nat} {t : State}
    (h : s.takeBuf k choice = some (b, blk, t)) : s.Writes [.buf] t := by
  unfold State.takeBuf at h
  obtain ⟨x, -, hx⟩ := Option.map_eq_some_iff.mp h
  obtain ⟨-, -, rfl⟩ := Prod.mk.inj hx
  exact (State.withBuf_writes ..).after (State.setBlk_writes ..)

theorem State.admitBuf_writes (s : State) (a : Adm) (buf : Option Nat) : s.Writes [.held, .buf] (s.admitBuf a buf).2
    := by
  unfold State.admitBuf
  split
  · exact .refl _
  · split
    · exact .refl _
    · next u h =>
      have htake : s.Writes [.held, .buf] u := (State.takeBuf_writes h).widen
      dsimp only
      exact (State.poolSteps_writes ..).after ((State.setBuf_writes ..).after htake)

theorem State.moveUsed_writes (s : State) (q : Nat) (f : Nat → Nat) : s.Writes [.buf] (s.moveUsed q f) := by
  unfold State.moveUsed
  exact (State.withBuf_writes ..).widen

theorem State.pmcQueue_writes (s : State) (q ev n : Nat) : s.Writes [.wide] (s.pmcQueue q ev n) := by
  unfold State.pmcQueue
  exact State.pmc_writes ..

theorem State.telCount_writes (s : State) (f : Telem → Telem) : s.Writes [.tel] (s.telCount f) := by
  unfold State.telCount
  exact .ite (State.withTel_writes ..).widen (.refl _)

theorem State.telEnq_writes (s : State) (q : Nat) : s.Writes [.wide, .tel] (s.telEnq q) := by
  unfold State.telEnq
  exact (State.pmcQueue_writes ..).after (State.telCount_writes ..).widen

theorem State.setQueue_writes (s : State) (q : Nat) (l : List Nat) : s.Writes [.buf] (s.setQueue q l) := by
  unfold State.setQueue
  exact (State.withBuf_writes ..).widen

theorem State.enqueue_writes (s : State) (q d : Nat) : s.Writes [.wide, .buf, .tel] (s.enqueue q d) := by
  unfold State.enqueue
  exact (State.telEnq_writes ..).after (State.setQueue_writes ..).widen

theorem State.acceptOne_writes (s : State) (a : Adm) (q : Nat) (shared : Bool) (buf : Option Nat) : s.Writes [.held,
    .wide, .buf, .tel] (s.acceptOne a q shared buf).2 := by
  unfold State.acceptOne
  split
  next b s1 e =>
  extract_lets x s2 d _ y s3 _ s4
  have hadmit : s.Writes [.held, .wide, .buf, .tel] s1 := .of_snd e (State.admitBuf_writes ..).widen
  have hshare : s.Writes [.held, .wide, .buf, .tel] s2 :=
    .ite ((State.moveMember_writes ..).after ((State.setBuf_writes ..).after hadmit)) hadmit
  have hdesc : s.Writes [.held, .wide, .buf, .tel] s4 := (State.withBuf_writes ..).after ((State.moveUsed_writes
      ..).after hshare)
  exact .ite_snd ((State.enqueue_writes ..).after hdesc) ((State.withBuf_writes ..).after hdesc)

theorem State.imbPut_writes (s : State) (group par sum : Bool) (index : Nat) (diff : Int) : s.Writes [.held, .led]
    (s.imbPut group par sum index diff) := by
  unfold State.imbPut
  exact .ite (State.bump_writes ..).widen (State.withLed_writes ..).widen

theorem State.acctFail_writes (s : State) (a : Bool × Nat × Bool) : s.Writes [.held, .led] (s.acctFail a) := by
  unfold State.acctFail
  exact .ite (.refl _) ((State.bump_writes ..).after (.foldl (fun _ _ => (State.imbPut_writes ..).widen) (.refl _)))

theorem State.ackWrite_writes (s : State) (n : Nat) (host ok : Bool) : s.Writes [.held, .hosts, .dma, .out]
    (s.ackWrite n host ok) := by
  unfold State.ackWrite
  exact .orThen (.ite (.ite (.refl _) (State.confirm_writes ..).widen) (State.barDone_writes ..).widen) (.orElse
    (State.tlp_writes ..).widen (State.setChan_writes ..).widen)

theorem State.pmcCluster_writes (s : State) (c ev n : Nat) : s.Writes [.wide] (s.pmcCluster c ev n) := by
  unfold State.pmcCluster
  exact State.pmc_writes ..

theorem State.mcLog_writes (s : State) (c e : Nat) (t cause addr : Nat) : s.Writes [.held, .clusters] (s.mcLog c e t
    cause addr) := by
  unfold State.mcLog
  exact .ite ((State.bump_writes ..).after (State.bump_writes ..).widen) ((State.setClu_writes ..).after
    (State.bump_writes ..).widen)

theorem State.mcRecord_writes (s : State) (k cause : Nat) (addr info : Nat) : s.Writes Part.all (s.mcRecord k cause
    addr info) := by
  unfold State.mcRecord
  exact (State.raise_writes ..).after ((State.pmcCluster_writes ..).after (State.mcLog_writes ..).widen)

theorem State.countHold_writes (s : State) (k : Nat) : s.Writes [.clusters] (s.countHold k) := by
  unfold State.countHold
  exact State.setClu_writes ..

theorem State.csRepair_writes (s : State) (c slot addr : Nat) : s.Writes Part.all (s.csRepair c slot addr) := by
  unfold State.csRepair
  refine .ite (.refl _) ?_
  split
  · exact (State.raise_writes ..).after (State.setCword_writes ..).widen
  · exact (State.raise_writes ..).widen

theorem State.afterParity_writes (s : State) (c e : Nat) (slot addr : Nat) : s.Writes Part.all (s.afterParity c e slot
    addr) := by
  unfold State.afterParity
  exact .ite (.orElse (State.retire_writes ..).widen (State.setClu_writes ..).widen) (State.csRepair_writes ..).widen

theorem State.machineCheck_writes (s : State) (k cause : Nat) (no addr info : Nat) : s.Writes Part.all (s.machineCheck
    k cause no addr info) := by
  unfold State.machineCheck
  dsimp only
  refine .ite ?_ ?_
  · refine (State.afterParity_writes ..).after ?_
    refine (State.mcRecord_writes ..).after ?_
    split
    · exact (State.handDrop_writes ..).after ((State.setThr_writes ..).after ((State.samplePrimary_writes ..).after
        ((State.countHold_writes ..).after (State.dropLock_writes ..).widen)))
    · exact (State.setThr_writes ..).after ((State.sampleSentinel_writes ..).after (State.dropLock_writes ..).widen)
  · refine (State.mcRecord_writes ..).after ?_
    split
    · exact (State.handDrop_writes ..).after ((State.setThr_writes ..).after ((State.samplePrimary_writes ..).after
        ((State.countHold_writes ..).after (State.dropLock_writes ..).widen)))
    · exact (State.setThr_writes ..).after ((State.sampleSentinel_writes ..).after (State.dropLock_writes ..).widen)

theorem State.readFails_writes (s : State) (k cause : Nat) (no addr info : Nat) : s.Writes Part.all (s.readFails k
    cause no addr info) := by
  unfold State.readFails
  exact .ite (State.mcRecord_writes ..).widen (State.machineCheck_writes ..).widen

theorem State.addFails_writes (s : State) (k : Nat) (e : SbEntry) : s.Writes Part.all (s.addFails k e) := by
  unfold State.addFails
  exact (State.readFails_writes ..).after (State.putThr_writes ..).widen

theorem State.addLine_writes (s : State) (lp dir len : Nat) : s.Writes [.tel] (s.addLine lp dir len) := by
  unfold State.addLine
  exact (State.telCount_writes ..).after (State.withTel_writes ..).widen

theorem State.dropAt_writes (s : State) (k : Nat) (b : Boundary) (reason : Nat) : s.Writes [.held, .wide, .groups,
    .pkts, .led, .tel, .dram] (s.dropAt k b reason) := by
  unfold State.dropAt
  exact (State.dropPkt_writes ..).after ((State.freeHold_writes ..).after (State.drop_writes ..).widen)

theorem State.telRefused_writes (s : State) (q : Nat) : s.Writes [.wide, .tel] (s.telRefused q) := by
  unfold State.telRefused
  exact (State.pmcQueue_writes ..).after (State.telCount_writes ..).widen

theorem State.holdBad_writes (s : State) (k : Nat) : s.Writes Part.all (s.holdBad k) := by
  unfold State.holdBad
  exact (State.raise_writes ..).after ((State.dropAt_writes ..).after (State.fresh_writes ..).widen)

theorem State.admitSingle_writes (s : State) (k q : Nat) (a : Adm) (holdEcc : Bool) : s.Writes Part.all (s.admitSingle
    k q a holdEcc) := by
  unfold State.admitSingle
  split
  · exact (State.dropAt_writes ..).after (State.telRefused_writes ..).widen
  · exact .ite (State.holdBad_writes ..).widen ((State.dropPkt_writes ..).after (State.acceptOne_writes ..).widen)

theorem State.refuseRep_writes (s : State) (d : DropInfo) (q : Option Nat) (order : Nat) : s.Writes [.held, .wide,
    .led, .tel, .dram] (s.refuseRep d q order) := by
  unfold State.refuseRep
  dsimp only
  split
  · exact (State.telRefused_writes ..).after ((State.bump_writes ..).after (State.drop_writes ..).widen)
  · exact (State.bump_writes ..).after (State.drop_writes ..).widen

theorem State.admitMany_writes (a : Adm) (l : List (Option Nat)) (buf : Option Nat) (lost : Nat) (s : State) :
    s.Writes [.held, .wide, .buf, .led, .tel, .dram] (State.admitMany a l buf lost s).2 := by
  have hfewer : ∀ (buf : Option Nat) (u : State), u.Writes [.held, .wide, .buf, .led, .tel, .dram] (match buf with
      | some b => u.setBuf b { u.bufr b with refs := (u.bufr b).refs - 1 }
      | none => u : State) := by
    intro buf u
    cases buf with
    | none => exact .refl _
    | some b => exact (State.setBuf_writes ..).widen
  induction l generalizing buf lost s with
  | nil => exact .refl _
  | cons q l ih =>
    unfold State.admitMany
    dsimp only
    split
    · exact ((State.refuseRep_writes ..).widen.trans (hfewer ..)).trans (ih ..)
    · split
      · exact ((State.refuseRep_writes ..).widen.trans (hfewer ..)).trans (ih ..)
      · exact (State.acceptOne_writes ..).widen.trans (ih ..)

theorem State.admitGroup_writes (s : State) (k g mcq : Nat) (a : Adm) (holdEcc : Bool) : s.Writes Part.all
    (s.admitGroup k g mcq a holdEcc) := by
  unfold State.admitGroup
  refine .ite (State.dropAt_writes ..).widen (.ite (State.holdBad_writes ..).widen ?_)
  dsimp only
  split
  · next u h =>
    have hmany : s.Writes Part.all u := .of_snd h ((State.admitMany_writes ..).after (State.book_writes ..).widen)
    exact (State.dropPkt_writes ..).after hmany
  · next u h =>
    have hmany : s.Writes Part.all u := .of_snd h ((State.admitMany_writes ..).after (State.book_writes ..).widen)
    exact (State.dropPkt_writes ..).after ((State.freeHold_writes ..).after hmany)

theorem State.admitFrame_writes (s : State) (k : Nat) (t : Target) (holdEcc : Bool) (choice : Nat) : s.Writes Part.all
    (s.admitFrame k t holdEcc choice) := by
  unfold State.admitFrame
  dsimp only
  split
  · exact (State.dropAt_writes ..).widen
  · split
    · exact (State.admitSingle_writes ..).widen
    · exact (State.admitSingle_writes ..).widen
    · exact (State.admitSingle_writes ..).widen
    · exact (State.admitGroup_writes ..).widen

theorem State.digSample_writes (s : State) (who : Nat) : s.Writes [.tel] (s.digSample who).2 := by
  unfold State.digSample
  dsimp only
  split
  · exact .refl _
  · exact (State.withTel_writes ..).widen

theorem State.handOff_writes (s : State) (k : Nat) (v : List Word) (src : PuntSrc) : s.Writes packetParts (s.handOff k
    v src) := by
  unfold State.handOff
  dsimp only
  split
  · exact (State.endPkt_writes ..).after (State.sealVerdict_writes ..).widen
  · exact (State.seqPut_writes ..).after (State.sealVerdict_writes ..).widen

theorem State.forward_writes (s : State) (k : Nat) : s.Writes packetParts (s.forward k) := by
  unfold State.forward
  exact .ite ((State.handOff_writes ..).after ((State.setPkt_writes ..).after (State.digSample_writes ..).widen))
    ((State.setGrp_writes ..).after (State.setPkt_writes ..).widen)

theorem State.lrnMove_writes (s : State) (lp : Nat) (f : Nat → Nat) : s.Writes [.held] (s.lrnMove lp f) := by
  unfold State.lrnMove
  exact State.setRg_writes ..

theorem State.postNotice_writes (s : State) (x : Notice) : s.Writes [.held, .groups, .cu] (s.postNotice x) := by
  unfold State.postNotice
  exact .ite (State.bump_writes ..).widen ((State.withCu_writes ..).after ((State.lrnMove_writes ..).after
    (State.setGrp_writes ..).widen))

theorem State.learn_writes (s : State) (k : Nat) (x : Notice) : s.Writes (packetParts ++ [.cu]) (s.learn k x) := by
  unfold State.learn
  exact .ite (State.forward_writes ..).widen (.ite ((State.forward_writes ..).after (State.postNotice_writes
    ..).widen) (.ite ((State.forward_writes ..).after (State.bumpHigh_writes ..).widen) ((State.endPkt_writes
    ..).after (State.bumpHigh_writes ..).widen)))

theorem State.decideLearn_writes (s : State) (k : Nat) : s.Writes (packetParts ++ [.cu]) (s.decideLearn k) := by
  unfold State.decideLearn
  dsimp only
  refine .ite (State.forward_writes ..).widen ?_
  split
  · exact (State.learn_writes ..).widen
  · exact .ite (.ite (State.endPkt_writes ..).widen (State.learn_writes ..).widen) (State.forward_writes ..).widen
  · exact (State.forward_writes ..).widen

theorem State.afterLookups_writes (s : State) (k : Nat) : s.Writes (packetParts ++ [.cu]) (s.afterLookups k) := by
  unfold State.afterLookups
  exact .ite (.refl _) (State.decideLearn_writes ..).widen

theorem State.freezeChannel_writes (s : State) (c : Nat) : s.Writes [.held, .tel, .hosts, .dma, .dram, .out]
    (s.freezeChannel c) := by
  unfold State.freezeChannel
  extract_lets d s1 s2 _ s3
  have hreads : s.Writes [.held, .tel, .hosts, .dma, .dram, .out] s1 :=
    .foldl (fun _ _ => (State.dramAnswer_writes ..).widen) (State.setDch_writes ..).widen
  have hlost : s.Writes [.held, .tel, .hosts, .dma, .dram, .out] s2 := .foldl (fun _ _ => .ite (.refl _)
      (State.telLost_writes ..).widen) hreads
  clear_value s2
  have hwrites : s.Writes [.held, .tel, .hosts, .dma, .dram, .out] s3 := (State.setDch_writes ..).after hlost
  exact (State.setDramSt_writes ..).after ((State.moveRegions_writes ..).after hwrites)

theorem State.afterUe_writes (s : State) (c rank : Nat) : s.Writes [.held, .tel, .hosts, .dma, .dram, .out] (s.afterUe
    c rank) := by
  unfold State.afterUe
  exact .ite (.ite (.refl _) (State.freezeChannel_writes ..).widen) (.ite (State.startMigration_writes ..).widen
    (State.freezeChannel_writes ..).widen)

theorem State.setGrant_writes (s : State) (lp lvl : Nat) (q : Option Nat) : s.Writes [.sched] (s.setGrant lp lvl q) :=
    by
  unfold State.setGrant
  exact (State.withSched_writes ..).widen

theorem State.setDeficit_writes (s : State) (q n : Nat) : s.Writes [.sched] (s.setDeficit q n) := by
  unfold State.setDeficit
  exact (State.withSched_writes ..).widen

theorem State.queueEmptied_writes (s : State) (q : Nat) : s.Writes [.sched] (s.queueEmptied q) := by
  unfold State.queueEmptied
  exact .ite (.foldl (fun _ _ => (.ite (State.setGrant_writes ..).widen (.refl _))) (State.setDeficit_writes
    ..).widen) (.refl _)

theorem State.popQueue_writes (s : State) (q : Nat) : s.Writes [.buf] (s.popQueue q) := by
  unfold State.popQueue
  split
  · exact .refl _
  · exact (State.moveUsed_writes ..).after (State.setQueue_writes ..).widen

theorem State.discardHead_writes (s : State) (q reason : Nat) : s.Writes [.held, .wide, .groups, .buf, .sched, .led,
    .tel, .dram] (s.discardHead q reason) := by
  unfold State.discardHead
  split
  · exact .refl _
  · exact (State.dropDesc_writes ..).after ((State.queueEmptied_writes ..).after (State.popQueue_writes ..).widen)

theorem State.ageHeads_writes (s : State) (q n : Nat) : s.Writes [.held, .wide, .groups, .buf, .sched, .led, .tel,
    .dram] (s.ageHeads q n) := by
  induction n generalizing s with
  | zero => exact .refl _
  | succ n ih =>
    unfold State.ageHeads
    split
    · exact .refl _
    · exact .ite ((State.discardHead_writes ..).trans (ih _)) (.refl _)

theorem State.hitClear_writes (s : State) (key : Nat) : s.Writes [.tbl] (s.hitClear key) := by
  unfold State.hitClear
  exact (State.withTbl_writes ..).widen

theorem State.wakePg_writes (s : State) (n : Nat) : s.Writes wakeParts (s.wakePg n) := by
  unfold State.wakePg
  exact .ite (State.wake_writes ..).widen (.refl _)

theorem State.onReplicas_writes (s : State) (f : Nat → Tables → Tables) : s.Writes wakeParts (s.onReplicas f) := by
  unfold State.onReplicas
  exact .foldl (fun _ _ => (.ite ((State.withTbl_writes ..).after ((State.wakePg_writes ..).after (State.wakePg_writes
    ..).widen)) (.orThen (State.withReload_writes ..).widen ((State.setStale_writes ..).after (State.setStale_writes
    ..).widen)))) (.refl _)

theorem State.staPut_writes (s : State) (key : Nat) (e : List Word) : s.Writes wakeParts (s.staPut key e) := by
  unfold State.staPut
  exact (State.onReplicas_writes ..).after (State.withTbl_writes ..).widen

theorem State.lrnDrop_writes (s : State) (key : Nat) (e : List Word) : s.Writes [.held, .tbl] (s.lrnDrop key e) := by
  unfold State.lrnDrop
  exact .orThen (.ite (State.lrnMove_writes ..).widen (.ite (State.lrnMove_writes ..).widen (.refl _)))
    (State.withTbl_writes ..).widen

theorem State.staRemove_writes (s : State) (key : Nat) : s.Writes wakeParts (s.staRemove key) := by
  unfold State.staRemove
  exact (State.hitClear_writes ..).after ((State.staPut_writes ..).after (State.lrnDrop_writes ..).widen)

theorem State.ageVisit_writes (s : State) (key : Nat) : s.Writes wakeParts (s.ageVisit key) := by
  unfold State.ageVisit
  exact .ite (.refl _) (.ite ((State.hitClear_writes ..).after (.ite (State.staPut_writes ..).widen (.refl _))) (.ite
    (State.staRemove_writes ..).widen (State.staPut_writes ..).widen))

theorem State.spillVisit_writes (s : State) (b : Nat) : s.Writes [.tbl] (s.spillVisit b) := by
  unfold State.spillVisit
  exact .ite (.refl _) (State.withTbl_writes ..).widen

theorem State.ageRun_writes (s : State) : s.Writes wakeParts (s.ageRun).st := by
  unfold State.ageRun
  exact .foldl (fun _ _ => (State.spillVisit_writes ..).widen) (.foldl (fun _ _ => (State.ageVisit_writes ..).widen)
    (.refl _))

theorem State.ageStep_writes (s : State) : s.Writes (wakeParts ++ [.cu]) s.ageStep := by
  unfold State.ageStep
  exact .orElse (State.spillVisit_writes ..).widen ((State.ageVisit_writes ..).after (State.withCu_writes ..).widen)

theorem State.chainFlush_writes (s : State) : s.Writes [.chain, .out] s.chainFlush := by
  unfold State.chainFlush
  exact .ite (.foldl (fun _ _ => (State.emit_writes ..).widen) (State.withChain_writes ..).widen) (.refl _)

theorem State.chainSend_writes (s : State) (w0 : Word) (ver addr status : Nat) (data : List Word) : s.Writes [.chain,
    .out] (s.chainSend w0 ver addr status data) := by
  unfold State.chainSend
  exact (State.chainFlush_writes ..).after (State.withChain_writes ..).widen

theorem State.reply_writes (s : State) (f : List Word) (status : Nat) (data : List Word) : s.Writes [.chain, .out]
    (s.reply f status data) := by
  unfold State.reply
  exact State.chainSend_writes ..

theorem State.chainQueue_writes (s : State) (l : List (List Word)) : s.Writes [.chain, .out] (s.chainQueue l) := by
  induction l generalizing s with
  | nil => exact (State.withChain_writes ..).widen
  | cons f l ih =>
    unfold State.chainQueue
    split
    · exact (State.reply_writes ..).widen.trans (ih _)
    · exact (State.withChain_writes ..).widen

theorem State.ownPop_writes (s : State) : s.Writes [.chain, .out] s.ownPop := by
  unfold State.ownPop
  exact State.chainQueue_writes ..

theorem State.forwardAll_writes (s : State) (l : List (List Word)) : s.Writes [.chain, .out] (s.forwardAll l) := by
  induction l generalizing s with
  | nil => exact (State.chainFlush_writes ..).after (State.withChain_writes ..).widen
  | cons f l ih =>
    unfold State.forwardAll
    exact .ite (State.withChain_writes ..).widen ((State.emit_writes ..).widen.trans (ih _))

theorem State.chainPop_writes (s : State) : s.Writes [.chain, .out] s.chainPop := by
  unfold State.chainPop
  exact .ite (State.ownPop_writes ..).widen (State.forwardAll_writes ..).widen

theorem State.answer_writes (s : State) (status : Nat) (data : List Word) : s.Writes [.chain, .out] (s.answer status
    data) := by
  unfold State.answer
  exact (State.chainPop_writes ..).after (State.reply_writes ..).widen

theorem failWith_writes (s : State) (code : Nat) : s.Writes [] (failWith s code).st := by
  unfold failWith
  exact .refl _

theorem State.touch_writes (s : State) (c : TCmd) : s.Writes [.epc] (s.touch c) := by
  unfold State.touch
  exact .ite (State.withEpc_writes ..).widen (.refl _)

theorem State.ascLaunch_writes (s : State) (idx : Nat) (words : List Word) (width : Option Nat) : s.Writes (wakeParts
    ++ [.cu]) (s.ascLaunch idx words width).2 := by
  unfold State.ascLaunch
  exact (State.withCu_writes ..).after (.foldl (fun _ _ => (.ite (State.wakePg_writes ..).widen (State.setStale_writes
    ..).widen)) (.refl _))

theorem State.ascPut_writes (s : State) (idx : Nat) (e : AscEntry) : s.Writes (wakeParts ++ [.cu]) (s.ascPut idx e).2
    := by
  unfold State.ascPut
  exact (State.ascLaunch_writes ..).after (State.withTbl_writes ..).widen

theorem State.setTag_writes (s : State) (table idx who : Nat) : s.Writes [.tbl] (s.setTag table idx who) := by
  unfold State.setTag
  exact (State.withTbl_writes ..).widen

theorem State.wrote_writes (s : State) (c : TCmd) (key : Nat) (kept : Bool) : s.Writes [.tbl] (s.wrote c key kept) :=
    by
  unfold State.wrote
  exact State.setTag_writes ..

theorem State.ascDelete_writes (s : State) (c : TCmd) : s.Writes (wakeParts ++ [.cu, .epc]) (s.ascDelete c).st := by
  unfold State.ascDelete
  dsimp only
  split
  · exact (failWith_writes ..).widen
  · split
    · exact (failWith_writes ..).widen
    · split
      · exact (failWith_writes ..).widen
      · split
        · exact (State.touch_writes ..).widen
        · exact (State.touch_writes ..).after ((State.wrote_writes ..).after (State.ascPut_writes ..).widen)

theorem State.ascFix_writes (s : State) (pipe : Nat) : s.Writes Part.all (s.ascFix pipe) := by
  unfold State.ascFix
  dsimp only
  split
  · exact .refl _
  · exact (State.raise_writes ..).after ((State.bump_writes ..).after ((State.bump_writes ..).after
      (State.withTblCu_writes ..).widen))

theorem State.ascUpset_writes (s : State) (pipe bank unit : Nat) : s.Writes [.tbl, .free] (s.ascUpset pipe bank unit)
    := by
  unfold State.ascUpset
  exact (State.withTblFree_writes ..).widen

theorem State.ascScan_writes (s : State) (unit : Nat) (upsets : List (Nat × Nat)) : s.Writes [.tbl, .cu, .free]
    (s.ascScan unit upsets) := by
  unfold State.ascScan
  exact .foldl (fun _ _ => (.foldl (fun _ _ => (.ite (.refl _) (.orElse (State.withCu_writes ..).widen (.ite
    (State.ascUpset_writes ..).widen (.refl _))))) (.refl _))) (.refl _)

theorem State.ascTake_writes (s : State) (pipe : Nat) (f : Fan) : s.Writes [.held, .tbl] (s.ascTake pipe f) := by
  unfold State.ascTake
  exact (State.bump_writes ..).after (State.withTbl_writes ..).widen

theorem State.ascWrite_writes (s : State) (c : TCmd) (ws : List Word) : s.Writes (wakeParts ++ [.cu, .epc])
    (s.ascWrite c ws).st := by
  unfold State.ascWrite
  dsimp only
  split
  · exact (failWith_writes ..).widen
  · split
    · exact (failWith_writes ..).widen
    · split
      · exact (failWith_writes ..).widen
      · split
        · exact (failWith_writes ..).widen
        · exact (State.touch_writes ..).after ((State.wrote_writes ..).after (State.ascPut_writes ..).widen)

theorem State.askLock_writes (s : State) (k l : Nat) : s.Writes [.clusters, .threads] (s.askLock k l) := by
  unfold State.askLock
  exact .ite (State.setThr_writes ..).widen (.orElse (.ite (.refl _) (State.setLine_writes ..).widen)
    (State.putThr_writes ..).widen)

theorem State.nextOrder_writes (s : State) (c : Nat) : s.Writes [.clusters] (s.nextOrder c).2 := by
  unfold State.nextOrder
  exact State.setClu_writes ..

theorem State.background_writes (s : State) (c e t : Nat) : s.Writes [.clusters, .threads] (s.background c e t) := by
  unfold State.background
  exact (State.setThr_writes ..).after (State.nextOrder_writes ..).widen

theorem State.cplPut_writes (s : State) (h : Nat) (c : HostCpl) : s.Writes [.hosts, .out] (s.cplPut h c) := by
  unfold State.cplPut
  exact State.cplSend_writes ..

theorem State.unclaimed_writes (s : State) (h : Nat) (read : Bool) : s.Writes [.hosts, .out] (s.unclaimed h read) :=
    by
  unfold State.unclaimed
  exact .ite (State.cplPut_writes ..).widen (.refl _)

theorem State.bar_writes (s : State) (h : Nat) (read : Bool) {f : State → State} {l : List Part}
    (hf : ∀ s : State, s.Writes l (f s)) (hl : [.hosts, .out] ⊆ l := by decide +kernel) : s.Writes l (s.bar h read f)
        := by
  unfold State.bar
  have htlp : s.Writes [.hosts, .out] (s.tlp h) := (State.tlp_writes ..).widen
  exact .ite ((htlp.widen hl).trans (hf _)) (((State.unclaimed_writes ..).after htlp).widen hl)

theorem State.hostAccess_writes (s : State) (h a : Nat) : s.Writes Part.all (s.hostAccess h a) := by
  unfold State.hostAccess
  exact State.raise_writes ..

theorem State.unmapped_writes (s : State) (h : Nat) : s.Writes [.held] (s.unmapped h) := by
  unfold State.unmapped
  exact State.bump_writes ..

theorem State.bar0Read_writes (s : State) (h off : Nat) : s.Writes Part.all (s.bar0Read h off).2 := by
  unfold State.bar0Read
  split
  · split
    · exact .refl _
    · exact (State.hostAccess_writes ..).widen
  · split
    · exact (State.unmapped_writes ..).widen
    · split
      · exact (State.accRead_writes ..).widen
      · exact (State.hostAccess_writes ..).widen

theorem State.bar0Write_writes (s : State) (h off : Nat) (v : Word) : s.Writes Part.all (s.bar0Write h off v) := by
  unfold State.bar0Write
  split
  · exact .ite (State.msixWrite_writes ..).widen (State.hostAccess_writes ..).widen
  · split
    · exact (State.unmapped_writes ..).widen
    · exact .ite (State.hostAccess_writes ..).widen (.ite (.refl _) (State.accWrite_writes ..).widen)

theorem State.bar2Read_writes (s : State) (h off : Nat) : s.Writes Part.all (s.bar2Read h off).2 := by
  unfold State.bar2Read
  dsimp only
  split
  · exact (State.hostAccess_writes ..).widen
  · split
    · split
      · split
        · exact (State.setLatch_writes ..).after (State.reach_writes ..).widen
        · exact (State.reach_writes ..).widen
      · exact (State.reach_writes ..).widen
    · exact .refl _

theorem State.dramRead1_writes (s : State) (who : DramUser) (a n : Nat) : s.Writes [.hosts, .dma, .dram, .out]
    (s.dramRead1 who a n) := by
  unfold State.dramRead1
  dsimp only
  split
  · exact (State.dramAnswer_writes ..).after (State.withDram_writes ..).widen
  · exact .ite ((State.setDch_writes ..).after (State.withDram_writes ..).widen)
      ((State.dramAnswer_writes ..).after (State.withDram_writes ..).widen)

theorem State.dramRead_writes (s : State) (who : DramUser) (a len : Nat) : s.Writes [.hosts, .dma, .dram, .out]
    (s.dramRead who a len) := by
  unfold State.dramRead
  exact .foldl (fun _ _ => (State.dramRead1_writes ..).widen) (.refl _)

theorem State.bar4_writes (s : State) (h off len : Nat) (write : Option (List Byte)) : s.Writes (wakeParts ++ [.hosts,
    .dma, .out]) (s.bar4 h off len write) := by
  unfold State.bar4
  dsimp only
  split
  · exact .orThen (State.cplPut_writes ..).widen (State.unmapped_writes ..).widen
  · refine .ite (.ite ((State.unmapped_writes ..).after (.ite (State.unmapped_writes ..).widen (.refl _))) (.orThen
      (State.cplPut_writes ..).widen ((State.reach_writes ..).after (.ite (State.unmapped_writes ..).widen (.refl
      _))))) ?_
    refine .ite ?_ (.orThen (State.cplPut_writes ..).widen (.orElse (State.sleepAcc_writes ..).widen
      ((State.reach_writes ..).after (.ite (State.unmapped_writes ..).widen (.refl _)))))
    split
    · exact (State.dramWrite_writes ..).after ((State.reach_writes ..).after (.ite (State.unmapped_writes ..).widen
        (.refl _)))
    · exact (State.dramRead_writes ..).after ((State.cplPut_writes ..).after ((State.reach_writes ..).after (.ite
        (State.unmapped_writes ..).widen (.refl _))))

theorem State.openStage_writes (s : State) (c : TCmd) : s.Writes [.held, .cu, .epc, .hosts, .rings, .free, .out]
    (s.openStage c) := by
  unfold State.openStage
  exact (State.complete_writes ..).after (State.withEpc_writes ..).widen

theorem State.stageOpen_writes (s : State) (c : TCmd) : s.Writes [.held, .cu, .hosts, .rings, .free, .out]
    (s.stageOpen c) := by
  unfold State.stageOpen
  exact State.complete_writes ..

theorem State.beginNext_writes (s : State) : s.Writes [.held, .cu, .epc, .hosts, .rings, .free, .out] s.beginNext :=
    by
  unfold State.beginNext
  dsimp only
  split
  · exact .refl _
  · exact (State.cuTidy_writes ..).after (.ite ((State.openStage_writes ..).after (State.withCu_writes ..).widen)
      ((State.stageOpen_writes ..).after (State.withCu_writes ..).widen))

theorem State.begin__writes (s : State) (c : TCmd) : s.Writes [.held, .cu, .epc, .hosts, .rings, .free, .out]
    (s.begin_ c) := by
  unfold State.begin_
  dsimp only
  split
  · exact .ite (State.openStage_writes ..).widen (State.withCu_writes ..).widen
  · exact .ite (State.stageOpen_writes ..).widen (State.withCu_writes ..).widen
  · exact (State.withCu_writes ..).widen

theorem State.blowCmd_writes (s : State) : s.Writes [.chain, .out] s.blowCmd := by
  unfold State.blowCmd
  exact .ite (State.withChain_writes ..).widen (State.answer_writes ..).widen

theorem State.bufBad_writes (s : State) (b : Nat) : s.Writes Part.all (s.bufBad b) := by
  unfold State.bufBad
  exact (State.raise_writes ..).after (State.fresh_writes ..).widen

theorem State.bufWritten_writes (s : State) (b : Nat) : s.Writes [.groups, .buf] (s.bufWritten b) := by
  unfold State.bufWritten
  exact .ite (.refl _) ((State.setBuf_writes ..).after (.ite (State.freeHold_writes ..).widen (.refl _)))

theorem State.cmdRun_writes (s : State) (c : TCmd) (d : Option (List Word)) {f : List Word → CmdRes} {l : List Part}
    (hf : ∀ ws, s.Writes l (f ws).st) : s.Writes l (s.cmdRun c d f).st := by
  unfold State.cmdRun
  split
  · exact .refl _
  · split
    · split
      · exact hf _
      · exact .refl _
    · exact hf _

theorem State.onGroups_writes (s : State) (f : Nat → Tables → Tables) : s.Writes wakeParts (s.onGroups f) := by
  unfold State.onGroups
  exact .foldl (fun _ _ => (.ite ((State.withTbl_writes ..).after (State.wakePg_writes ..).widen)
    (State.setStale_writes ..).widen)) (.refl _)

theorem State.cpPut_writes (s : State) (table : Nat) (par : Bool) (idx : Nat) (e : List Word) : s.Writes wakeParts
    (s.cpPut table par idx e) := by
  unfold State.cpPut
  exact (State.onGroups_writes ..).after (State.withTbl_writes ..).widen

theorem State.setDirty_writes (s : State) (table idx : Nat) (b : Bool) : s.Writes [.tbl] (s.setDirty table idx b) :=
    by
  unfold State.setDirty
  exact (State.withTbl_writes ..).widen

theorem State.cpWrite_writes (s : State) (c : TCmd) (ws : List Word) : s.Writes (wakeParts ++ [.epc]) (s.cpWrite c
    ws).st := by
  unfold State.cpWrite
  dsimp only
  split
  · exact (failWith_writes ..).widen
  · split
    · exact (failWith_writes ..).widen
    · split
      · exact (failWith_writes ..).widen
      · split
        · exact (failWith_writes ..).widen
        · exact (State.touch_writes ..).after ((State.wrote_writes ..).after (.orElse (State.setDirty_writes ..).widen
            (.foldl (fun _ _ => (State.cpPut_writes ..).widen) (.refl _))))

theorem State.writeRun_writes (s : State) (c : TCmd) (ws : List Word) : s.Writes (wakeParts ++ [.cu, .epc])
    (s.writeRun c ws).st := by
  unfold State.writeRun
  split
  · exact (State.ascWrite_writes ..).widen
  · exact (State.cpWrite_writes ..).widen

theorem State.lrnAdd_writes (s : State) (e : List Word) : s.Writes [.held] (s.lrnAdd e) := by
  unfold State.lrnAdd
  exact .ite (State.lrnMove_writes ..).widen (.refl _)

theorem State.staInsert_writes (s : State) (c : TCmd) (e : List Word) : s.Writes (wakeParts ++ [.epc]) (s.staInsert c
    e).st := by
  unfold State.staInsert
  dsimp only
  split
  · exact (failWith_writes ..).widen
  · split
    · exact (failWith_writes ..).after (.ite (State.bump_writes ..).widen (.refl _))
    · exact (State.touch_writes ..).after ((State.wrote_writes ..).after ((State.lrnAdd_writes ..).after
        ((State.staPut_writes ..).after (State.lrnDrop_writes ..).widen)))

theorem State.nbrPut_writes (s : State) (key : Nat) (e : List Word) : s.Writes wakeParts (s.nbrPut key e) := by
  unfold State.nbrPut
  exact (State.onReplicas_writes ..).after (State.withTbl_writes ..).widen

theorem State.nbrInsert_writes (s : State) (c : TCmd) (e : List Word) : s.Writes (wakeParts ++ [.epc]) (s.nbrInsert c
    e).st := by
  unfold State.nbrInsert
  dsimp only
  split
  · exact (failWith_writes ..).widen
  · split
    · exact (failWith_writes ..).widen
    · exact (State.touch_writes ..).after ((State.wrote_writes ..).after (State.nbrPut_writes ..).widen)

theorem State.repPut_writes (s : State) (k : Nat) (e : RepEntry) : s.Writes [.tbl] (s.repPut k e) := by
  unfold State.repPut
  exact (State.withTbl_writes ..).widen

theorem State.repInsert_writes (s : State) (c : TCmd) (ws : List Word) : s.Writes [.tbl, .epc] (s.repInsert c ws).st
    := by
  unfold State.repInsert
  dsimp only
  split
  · exact (failWith_writes ..).widen
  · split
    · exact (failWith_writes ..).widen
    · split
      · exact (failWith_writes ..).widen
      · split
        · exact (failWith_writes ..).widen
        · exact (State.touch_writes ..).after ((State.wrote_writes ..).after (State.repPut_writes ..).widen)

theorem State.insertRun_writes (s : State) (c : TCmd) (ws : List Word) : s.Writes (wakeParts ++ [.epc]) (s.insertRun c
    ws).st := by
  unfold State.insertRun
  split
  · exact (State.staInsert_writes ..).widen
  · exact (State.nbrInsert_writes ..).widen
  · exact (State.repInsert_writes ..).widen

theorem State.staDelete_writes (s : State) (c : TCmd) (e : List Word) : s.Writes (wakeParts ++ [.epc]) (s.staDelete c
    e).st := by
  unfold State.staDelete
  dsimp only
  split
  · exact (failWith_writes ..).widen
  · refine (State.touch_writes ..).after ?_
    split
    · exact (State.wrote_writes ..).after (State.staRemove_writes ..).widen
    · exact (State.wrote_writes ..).after (State.staPut_writes ..).widen
    · exact .refl _

theorem State.nbrDelete_writes (s : State) (c : TCmd) (e : List Word) : s.Writes (wakeParts ++ [.epc]) (s.nbrDelete c
    e).st := by
  unfold State.nbrDelete
  dsimp only
  split
  · exact (failWith_writes ..).widen
  · split
    · exact (failWith_writes ..).widen
    · refine (State.touch_writes ..).after ?_
      split
      · exact (State.wrote_writes ..).after (State.nbrPut_writes ..).widen
      · exact (State.wrote_writes ..).after (State.nbrPut_writes ..).widen
      · exact .refl _

theorem State.repDelete_writes (s : State) (c : TCmd) : s.Writes [.tbl, .epc] (s.repDelete c).st := by
  unfold State.repDelete
  dsimp only
  split
  · exact (failWith_writes ..).widen
  · split
    · exact (failWith_writes ..).widen
    · refine (State.touch_writes ..).after ?_
      split
      · exact (State.wrote_writes ..).after (State.repPut_writes ..).widen
      · exact (State.wrote_writes ..).after (State.repPut_writes ..).widen
      · exact .refl _

theorem State.deleteRun_writes (s : State) (c : TCmd) (ws : List Word) : s.Writes (wakeParts ++ [.cu, .epc])
    (s.deleteRun c ws).st := by
  unfold State.deleteRun
  split
  · exact (State.staDelete_writes ..).widen
  · exact (State.nbrDelete_writes ..).widen
  · exact (State.ascDelete_writes ..).widen
  · exact (State.repDelete_writes ..).widen

theorem State.setNode_writes (s : State) (i : Nat) (x : NodeState) : s.Writes [.tbl] (s.setNode i x) := by
  unfold State.setNode
  exact (State.withTbl_writes ..).widen

theorem State.treePut_writes (s : State) (i : Nat) (e : List Word) : s.Writes wakeParts (s.treePut i e) := by
  unfold State.treePut
  exact (State.onGroups_writes ..).after (State.withTbl_writes ..).widen

theorem State.treeWriteRun_writes (s : State) (c : TCmd) (ws : List Word) : s.Writes (wakeParts ++ [.epc])
    (s.treeWriteRun c ws).st := by
  unfold State.treeWriteRun
  dsimp only
  split
  · exact (failWith_writes ..).widen
  · split
    · exact (failWith_writes ..).widen
    · split
      · exact (failWith_writes ..).widen
      · exact (State.touch_writes ..).after ((State.wrote_writes ..).after ((State.setNode_writes ..).after
          (State.treePut_writes ..).widen))

theorem State.treeRetireRun_writes (s : State) (c : TCmd) : s.Writes [.tbl, .epc] (s.treeRetireRun c).st := by
  unfold State.treeRetireRun
  dsimp only
  split
  · exact (failWith_writes ..).widen
  · split
    · exact (failWith_writes ..).widen
    · exact (State.touch_writes ..).after (State.setNode_writes ..).widen

theorem State.setRootOf_writes (s : State) (par : Bool) (v : BitVec 16) : s.Writes [.epc] (s.setRootOf par v) := by
  unfold State.setRootOf
  exact .ite (State.withEpc_writes ..).widen (State.withEpc_writes ..).widen

theorem State.setRootRun_writes (s : State) (c : TCmd) : s.Writes [.epc] (s.setRootRun c).st := by
  unfold State.setRootRun
  dsimp only
  split
  · exact (failWith_writes ..).widen
  · exact (State.setRootOf_writes ..).widen

theorem State.subRun_writes (s : State) (c : TCmd) (d : Option (List Word)) : s.Writes (wakeParts ++ [.cu, .epc])
    (s.subRun c d).st := by
  unfold State.subRun
  refine State.cmdRun_writes _ _ _ fun ws => ?_
  split
  · exact (State.writeRun_writes ..).widen
  · exact (State.insertRun_writes ..).widen
  · exact (State.deleteRun_writes ..).widen
  · exact (State.treeWriteRun_writes ..).widen
  · exact (State.treeRetireRun_writes ..).widen
  · exact (State.setRootRun_writes ..).widen
  · exact .refl _

theorem State.bulkRun_writes (c : TCmd) (l : List BulkSub) (i : Nat) (acc : CmdRes) : acc.st.Writes (wakeParts ++
    [.cu, .epc]) (State.bulkRun c l i acc).st := by
  induction l generalizing i acc with
  | nil => exact .refl _
  | cons b l ih =>
    unfold State.bulkRun
    extract_lets sub r o
    have hr : acc.st.Writes (wakeParts ++ [.cu, .epc]) r.st := by
      unfold r
      split
      · exact .refl _
      · split
        · exact .refl _
        · exact State.subRun_writes ..
    split
    · exact hr.trans (ih _ { cpl := _, st := r.st, fans := _ })
    · exact hr

theorem State.bulk_writes (s : State) (c : TCmd) (subs : Option (List BulkSub)) : s.Writes (wakeParts ++ [.cu, .epc])
    (s.bulk c subs).st := by
  have hrun (l : List BulkSub) :
      s.Writes (wakeParts ++ [.cu, .epc]) (State.bulkRun c l 0 { cpl := { r1 := 0xFFFFFFFF }, st := s }).st :=
    State.bulkRun_writes c l 0 { cpl := { r1 := 0xFFFFFFFF }, st := s }
  unfold State.bulk
  dsimp only
  split
  · exact .refl _
  split
  · exact .refl _
  split
  · exact .refl _
  split
  · exact .refl _
  · exact .refl _
  · split
    · exact hrun _
    · exact hrun _

theorem State.busFail_writes (s : State) (n : Nat) (e : BusEnd) : s.Writes [.out] (s.busFail n e) := by
  unfold State.busFail
  exact .ite (State.emit_writes ..).widen (.refl _)

theorem State.cagePress_writes (s : State) (c : Nat) : s.Writes (linkParts ++ [.cages, .buses]) (s.cagePress c) := by
  unfold State.cagePress
  dsimp only
  split
  · exact (State.cageTo_writes ..).after (State.cageEvt_writes ..).widen
  · exact (State.cageTo_writes ..).after (State.cageEvt_writes ..).widen
  · exact (State.cageTo_writes ..).after (State.cageEvt_writes ..).widen
  · exact (State.cageTo_writes ..).after (State.cageEvt_writes ..).widen
  · exact (State.cageEvt_writes ..).widen

theorem State.cageButton_writes (s : State) (c : Nat) (p : Bool) : s.Writes (linkParts ++ [.cages, .buses])
    (s.cageButton c p) := by
  unfold State.cageButton
  exact .orElse (State.cagePress_writes ..).widen (State.setCage_writes ..).widen

theorem State.cageIn_writes (s : State) (c : Nat) : s.Writes (linkParts ++ [.cages, .buses]) (s.cageIn c) := by
  unfold State.cageIn
  exact (State.cageTo_writes ..).after ((State.cageEvt_writes ..).after (State.setCage_writes ..).widen)

theorem State.cagePresence_writes (s : State) (c : Nat) (p : Bool) : s.Writes (linkParts ++ [.cages, .buses])
    (s.cagePresence c p) := by
  unfold State.cagePresence
  exact .ite (.orElse (State.cageTo_writes ..).widen (State.setCage_writes ..).widen) (.ite (.ite
    ((State.cageIn_writes ..).after (State.setCage_writes ..).widen) ((State.cageTo_writes ..).after
    (State.setCage_writes ..).widen)) (.orElse ((State.cageTo_writes ..).after ((State.cageEvt_writes ..).after
    (State.setCage_writes ..).widen)) (State.setCage_writes ..).widen))

theorem State.cageInput_writes (s : State) (c b : Nat) : s.Writes (linkParts ++ [.cages, .buses]) (s.cageInput c b) :=
    by
  unfold State.cageInput
  exact (State.queueWrite_writes ..).after ((State.cageButton_writes ..).after ((State.cagePresence_writes ..).after
    ((State.setCage_writes ..).after (.ite (State.cageEvt_writes ..).widen (.refl _)))))

theorem State.cageWritten_writes (s : State) (c : Nat) : s.Writes (linkParts ++ [.cages, .buses]) (s.cageWritten c) :=
    by
  unfold State.cageWritten
  exact .orElse (State.cageTo_writes ..).widen (State.setCage_writes ..).widen

theorem State.calibrate_writes (s : State) (c cmd : Nat) (ok : Bool) : s.Writes Part.all (s.calibrate c cmd ok) := by
  unfold State.calibrate
  refine .orThen (State.raise_writes ..).widen ((State.dlogAll_writes ..).after (State.setDch_writes _ _ _ ?_).widen)
  split
  · rfl
  · rfl

theorem State.cfgWrite_writes (s : State) (h off : Nat) (v : Word) : s.Writes hostParts (s.cfgWrite h off v) := by
  unfold State.cfgWrite
  exact .ite ((State.loseHost_writes ..).after (State.setHst_writes ..).widen) (.ite ((State.loseHost_writes ..).after
    (State.setHst_writes ..).widen) (.ite ((State.loseHost_writes ..).after (State.setHst_writes ..).widen) (.orElse
    (State.sendLtr_writes ..).widen (State.setHst_writes ..).widen)))

theorem State.chainForward_writes (s : State) (words : List Word) : s.Writes [.chain, .out] (s.chainForward words) :=
    by
  unfold State.chainForward
  exact State.forwardAll_writes ..

theorem State.passOn_writes (s : State) (w : Word) : s.Writes [.chain, .out] (s.passOn w) := by
  unfold State.passOn
  exact (State.chainPop_writes ..).after (State.emit_writes ..).widen

theorem State.chainFreeze_writes (s : State) : s.Writes [.held, .clusters, .threads, .hosts, .dma, .dram, .image,
    .chain, .frz, .free, .out] s.chainFreeze := by
  unfold State.chainFreeze
  exact .ite ((State.freezeLatch_writes ..).after (State.passOn_writes ..).widen) (.ite ((State.freezeLatch_writes
    ..).after (State.answer_writes ..).widen) (State.answer_writes ..).widen)

theorem State.chainPeek_writes (s : State) (a : Nat) : s.Writes (wakeParts ++ [.wide, .rxAt, .latch, .flt, .free])
    (s.chainPeek a).2 := by
  unfold State.chainPeek
  dsimp only
  split
  · split
    · split
      · exact .refl _
      · exact .refl _
    · split
      · exact .refl _
      · exact .refl _
  · split
    · exact .refl _
    · split
      · exact (State.reach_writes ..).widen
      · split
        · exact (State.reach_writes ..).widen
        · split
          · exact (State.reach_writes ..).widen
          · split
            · exact (State.reach_writes ..).widen
            · exact (State.reach_writes ..).widen

theorem State.chainReset_writes (s : State) : s.Writes Part.all s.chainReset := by
  unfold State.chainReset
  exact .ite (.ite ((State.chipReset_writes ..).after (State.passOn_writes ..).widen) (State.passOn_writes ..).widen)
    (.ite ((State.chipReset_writes ..).after (State.answer_writes ..).widen) (State.answer_writes ..).widen)

theorem State.chainRx_writes (s : State) (words : List Word) : s.Writes Part.all (s.chainRx words) := by
  unfold State.chainRx
  split
  · exact (State.chainForward_writes ..).after ((State.raise_writes ..).after (State.bump_writes ..).widen)
  · exact .ite (.ite (State.chainSend_writes ..).widen (.ite (State.reply_writes ..).widen (State.chainQueue_writes
      ..).widen)) (State.chainForward_writes ..).widen

theorem State.chainStore_writes (s : State) (a : Nat) (ws : List Word) : s.Writes (wakeParts ++ [.chain, .out])
    (s.chainStore a ws) := by
  unfold State.chainStore
  exact .ite ((State.dramWrite_writes ..).after ((State.answer_writes ..).after (State.reach_writes ..).widen))
    (State.answer_writes ..).widen

theorem State.portLedger_writes (s : State) (fails : List (Bool × Nat × Bool)) (stamp : BitVec 64) (lp : Nat) :
    s.Writes [.held, .tel, .hosts, .rings, .dram, .out] (s.portLedger fails stamp lp) := by
  unfold State.portLedger
  exact State.routed_writes _ 1 256 ..

theorem State.portReasons_writes (s : State) (stamp : BitVec 64) (lp : Nat) : s.Writes [.held, .tel, .hosts, .rings,
    .dram, .out] (s.portReasons stamp lp) := by
  unfold State.portReasons
  exact State.routed_writes _ 2 416 ..

theorem State.groupLedger_writes (s : State) (fails : List (Bool × Nat × Bool)) (stamp : BitVec 64) (n : Nat) :
    s.Writes [.held, .tel, .hosts, .rings, .dram, .out] (s.groupLedger fails stamp n) := by
  unfold State.groupLedger
  exact State.routed_writes _ 3 1760 ..

theorem State.countersRec_writes (s : State) (stamp : BitVec 64) : s.Writes [.held, .tel, .hosts, .rings, .dram, .out]
    (s.countersRec stamp) := by
  unfold State.countersRec
  exact State.routed_writes _ 5 8224 ..

theorem State.checkLedger_writes (s : State) : s.Writes Part.all s.checkLedger := by
  unfold State.checkLedger
  exact (State.countersRec_writes ..).after (.foldl (fun _ _ => (.ite (State.groupLedger_writes ..).widen (.refl _)))
    (.foldl (fun _ _ => (State.portReasons_writes ..).widen) (.foldl (fun _ _ => (State.portLedger_writes ..).widen)
    (.orThen (State.raise_writes ..).widen (.foldl (fun _ _ => (State.acctFail_writes ..).widen) (State.withLed_writes
    ..).widen)))))

theorem State.closeReached_writes (s : State) : s.Writes [.groups, .clusters, .led, .tel] s.closeReached := by
  unfold State.closeReached
  exact .ite (State.closePoints_writes ..).widen (.refl _)

theorem State.cmdOut_writes (s : State) (c : TCmd) (ws : List Word) : s.Writes [.held, .hosts, .out] (s.cmdOut c ws)
    := by
  unfold State.cmdOut
  split
  · exact .foldl (fun _ _ => (State.setRg_writes ..).widen) (.refl _)
  · exact .ite (State.toHost_writes ..).widen (.refl _)

theorem State.commitEnd_writes (s : State) : s.Writes [.held, .cu, .epc, .buf, .hosts, .rings, .free, .out]
    s.commitEnd := by
  unfold State.commitEnd
  dsimp only
  refine (State.cuTidy_writes ..).after ?_
  split
  · exact (State.complete_writes ..).after ((State.startDone_writes ..).after (State.withEpc_writes ..).widen)
  · exact (State.startDone_writes ..).after (State.withEpc_writes ..).widen

theorem State.sendFlip_writes (s : State) : s.Writes [.groups] s.sendFlip := by
  unfold State.sendFlip
  exact .foldl (fun _ _ => (.ite (State.setGrp_writes ..).widen (.refl _))) (.refl _)

theorem State.commitRun_writes (s : State) (c : TCmd) : s.Writes [.held, .groups, .tbl, .cu, .epc, .hosts, .rings,
    .free, .out] (s.commitRun c) := by
  unfold State.commitRun
  dsimp only
  split
  · exact (State.complete_writes ..).widen
  · exact .ite (State.complete_writes ..).widen ((State.sendFlip_writes ..).after (State.withTblEpc_writes ..).widen)

theorem State.sentEntry_writes (s : State) (digest sent : Word) (kind : Nat) (x : Sample) (c : Nat) : s.Writes [.held,
    .tel, .hosts, .rings, .dram, .out] (s.sentEntry digest sent kind x c) := by
  unfold State.sentEntry
  exact .ite (State.digestEntry_writes ..).widen (.refl _)

theorem State.compareDigest_writes (s : State) (c i : Nat) (x : Sample) : s.Writes [.held, .wide, .clusters, .threads,
    .tel, .hosts, .rings, .dram, .out] (s.compareDigest c i x) := by
  unfold State.compareDigest
  refine .ite ((State.bump_writes ..).after ((State.endReruns_writes ..).after (State.setSample_writes ..).widen)) ?_
  split
  · exact .ite ((State.setSample_writes ..).after (State.sentEntry_writes ..).widen) ((State.setSample_writes
      ..).after ((State.pmcCluster_writes ..).after (State.sentEntry_writes ..).widen))
  · exact .refl _

theorem State.moveOut_writes (s : State) (h dst : Nat) (b : List Byte) (bad : List (Nat × Nat)) : s.Writes [.hosts,
    .out] (s.moveOut h dst b bad) := by
  unfold State.moveOut
  exact .ite (.refl _) (.ite (State.toHost_writes ..).widen ((State.emit_writes ..).after (State.tlp_writes
    ..).widen))

theorem Moving.word_writes (m : Moving) (n : Nat) (got : Bool) (srcSp dstSp src dst : Nat) (data : List Byte) (k :
    Nat) : m.s.Writes Part.all (Moving.word m n got srcSp dstSp src dst data k).s := by
  unfold Moving.word
  extract_lets r v
  have hread : m.s.Writes Part.all v.2 := .ite_snd (.refl _) (State.intRead_writes ..).widen
  clear_value v
  split
  · exact .refl _
  split
  · exact .refl _
  split
  · exact hread
  split
  · exact hread
  · exact hread.trans (State.intWrite_writes ..)

theorem State.copy_writes (s : State) (n srcSp dstSp src dst len : Nat) (data : Option (List Byte)) (bad : List (Nat ×
    Nat)) (fail : Nat) : s.Writes Part.all (s.copy n srcSp dstSp src dst len data bad fail).s := by
  have hword (l : List Nat) (got : Bool) (b : List Byte) (m : Moving) :
      m.s.Writes Part.all (l.foldl (fun m k => m.word n got srcSp dstSp src dst b k) m).s := by
    induction l generalizing m with
    | nil => exact .refl _
    | cons k l ih => exact (Moving.word_writes ..).trans (ih _)
  unfold State.copy
  extract_lets got m h top t t' _ m'
  have hm : s.Writes Part.all m.s := by
    unfold m
    split
    · exact .refl _
    · exact hword _ _ _ { s := s }
  have hm' : s.Writes Part.all m'.s := by
    unfold m'
    split
    · exact hm
    · exact (State.setChan_writes ..).after ((State.moveOut_writes ..).after ((State.moveOut_writes ..).after hm))
  split
  · exact hm'
  · exact hm'

theorem State.copyChunk_writes (s : State) (c x y : Nat) (bad : Bool) : s.Writes [.held, .dram, .image] (s.copyChunk c
    x y bad) := by
  unfold State.copyChunk
  exact .ite ((State.setDch_writes _ _ _ (by simp [State.dch])).after ((State.bump_writes ..).after
    (State.dramStore_writes ..).widen))
    (State.dramStore_writes ..).widen

theorem State.count_writes (s : State) : s.Writes [.time] s.count := by
  unfold State.count
  exact .ite (State.withTime_writes ..).widen (State.withTime_writes ..).widen

theorem State.profile_writes (s : State) (k skid : Nat) : s.Writes [.held, .tel, .hosts, .rings, .dram, .out]
    (s.profile k skid) := by
  unfold State.profile
  exact .ite (.refl _) (.ite (State.telLost_writes ..).widen ((State.routed_writes _ 8 64 ..).after
    (State.withTel_writes ..).widen))

theorem State.countIssue_writes (s : State) (k pc : Nat) : s.Writes [.held, .wide, .clusters, .threads, .tel, .hosts,
    .rings, .dram, .free, .out] (s.countIssue k pc) := by
  unfold State.countIssue
  extract_lets c x n s1 s2 s3 cfg hit
  have hpmc : s.Writes [.held, .wide, .clusters, .threads, .tel, .hosts, .rings, .dram, .free, .out] s3 :=
    have h : s.Writes [.held, .wide, .clusters, .threads, .tel, .hosts, .rings, .dram, .free, .out] s2 :=
        (State.pmcCluster_writes ..).after (State.setClu_writes ..).widen
    .ite ((State.pmcCluster_writes ..).after h) h
  split
  next w u e =>
  refine .foldl (fun _ _ => (State.profile_writes ..).widen) ((State.setThr_writes ..).after (.of_snd e ?_))
  exact .ite_snd ((State.fresh_writes ..).after hpmc) hpmc

theorem State.countReturn_writes (s : State) (k : Nat) : s.Writes [.threads] (s.countReturn k) := by
  unfold State.countReturn
  dsimp only
  split
  · exact (State.putThr_writes ..).widen
  · exact .refl _

/-- The command at the head of the command unit writes what its operation does, and its completion. -/
theorem State.cuRun_writes (s : State) {f : State → TCmd → State} {l : List Part} (hf : ∀ (s : State) c, s.Writes l (f
    s c))
    (hl : [.held, .cu, .hosts, .rings, .free, .out] ⊆ l := by decide +kernel) : s.Writes l (s.cuRun f) := by
  unfold State.cuRun
  split
  · exact (((State.cuPop_writes ..).widen : s.Writes [.held, .cu, .hosts, .rings, .free, .out] s.cuPop).widen
      hl).trans
      ((hf ..).trans ((State.cuTidy_writes ..).widen hl))
  · exact .refl _

theorem State.takeCount_writes (s : State) (h t : Nat) (c : Word) : s.Writes [.held, .rings] (s.takeCount h t c) := by
  unfold State.takeCount
  exact .ite (.refl _) (.ite (.ite (State.ringErr_writes ..).widen (.refl _)) (State.setRing_writes ..).widen)

theorem State.dbDone_writes (s : State) (h : Nat) (words : Option (List Word)) : s.Writes [.held, .hosts, .rings,
    .out] (s.dbDone h words) := by
  unfold State.dbDone
  dsimp only
  refine .ite ?_ ?_
  · refine (State.dbStart_writes ..).after ?_
    split
    · exact (State.orRg_writes ..).after ((State.tlp_writes ..).after (State.setHst_writes ..).widen)
    · exact .foldl (fun _ _ => (State.takeCount_writes ..).widen) ((State.tlp_writes ..).after (State.setHst_writes
        ..).widen)
  · split
    · exact (State.orRg_writes ..).after ((State.tlp_writes ..).after (State.setHst_writes ..).widen)
    · exact .foldl (fun _ _ => (State.takeCount_writes ..).widen) ((State.tlp_writes ..).after (State.setHst_writes
        ..).widen)

theorem State.nbrLook_writes (s : State) (k : Nat) (pr : List Word) : s.Writes [.pkts] (s.nbrLook k pr) := by
  unfold State.nbrLook
  dsimp only
  split
  · exact (State.setPkt_writes ..).widen
  · exact (State.setPkt_writes ..).widen

theorem State.lookHit_writes (s : State) (k : Nat) (source : Bool) (key : Nat) : s.Writes [.pkts, .tbl] (s.lookHit k
    source key) := by
  unfold State.lookHit
  exact .orElse (State.withTbl_writes ..).widen (State.setPkt_writes ..).widen

theorem State.lookup_writes (s : State) (k : Nat) (source : Bool) (mac : Nat) : s.Writes [.held, .groups, .pkts, .tbl]
    (s.lookup k source mac) := by
  unfold State.lookup
  dsimp only
  refine .ite (.refl _) ?_
  split
  · exact (State.lookHit_writes ..).widen
  · exact .ite (.refl _) (.ite ((State.bump_writes ..).after (State.setPkt_writes ..).widen) ((State.setPkt_writes
      ..).after (State.setGrp_writes ..).widen))

theorem State.lookups_writes (s : State) (k : Nat) (pr : List Word) (nbr : Bool) : s.Writes (packetParts ++ [.tbl,
    .cu]) (s.lookups k pr nbr) := by
  unfold State.lookups
  exact (State.afterLookups_writes ..).after ((State.lookup_writes ..).after ((State.lookup_writes ..).after (.orElse
    (State.nbrLook_writes ..).widen (State.setPkt_writes ..).widen)))

theorem State.l2Default_writes (s : State) (k : Nat) (pr : List Word) : s.Writes (packetParts ++ [.tbl, .cu])
    (s.l2Default k pr) := by
  unfold State.l2Default
  exact .ite ((State.lookups_writes ..).after (State.setPkt_writes ..).widen) ((State.forward_writes ..).after
    (.orElse (State.nbrLook_writes ..).widen (State.setPkt_writes ..).widen))

theorem State.parse_writes (s : State) (k : Nat) : s.Writes (packetParts ++ [.tbl, .cu]) (s.parse k) := by
  unfold State.parse
  dsimp only
  refine .ite ((State.lookups_writes ..).after ((State.setPkt_writes ..).after (State.setPkt_writes ..).widen)) ?_
  split
  · exact (State.endPkt_writes ..).after (State.setPkt_writes ..).widen
  · exact (State.l2Default_writes ..).after (State.setPkt_writes ..).widen
  · exact (State.seqPut_writes ..).after ((State.setPkt_writes ..).after (State.setPkt_writes ..).widen)

theorem State.deal_writes (s : State) (lp : Nat) (bytes : List Byte) (time : Nat) (slots : BitVec 6) (inject : Bool) :
    s.Writes (packetParts ++ [.ports, .nextPkt, .tbl, .cu]) (s.deal lp bytes time slots inject) := by
  unfold State.deal
  dsimp only
  split
  · exact (State.drop_writes ..).after (State.book_writes ..).widen
  · exact (State.parse_writes ..).after ((State.book_writes ..).after (State.accept_writes ..).widen)

theorem State.deliver_writes (s : State) (k : Nat) (v : List Word) (src : PuntSrc) : s.Writes (packetParts ++
    [.clusters, .threads]) (s.deliver k v src) := by
  unfold State.deliver
  dsimp only
  split
  · exact (State.handOff_writes ..).after ((State.setThr_writes ..).after ((State.samplePrimary_writes ..).after
      (State.countHold_writes ..).widen))
  · exact (State.setThr_writes ..).after ((State.sampleSentinel_writes ..).after (.ite (State.pmcCluster_writes
      ..).widen (.refl _)))

theorem State.moveOwed_writes (s : State) (h t : Nat) (f : Nat → Nat) : s.Writes [.rings] (s.moveOwed h t f) := by
  unfold State.moveOwed
  exact State.setRing_writes ..

theorem State.takeCmds_writes (s : State) (h t : Nat) (ds : List (List Word)) : s.Writes (wakeParts ++ [.cu, .hosts,
    .rings, .free, .out]) (s.takeCmds h t ds) := by
  unfold State.takeCmds
  exact (State.cuTidy_writes ..).after ((State.withCu_writes ..).after ((State.wake_writes ..).after
    (State.setRing_writes ..).widen))

theorem State.takePosted_writes (s : State) (h t : Nat) (ds : List (List Word)) : s.Writes [.held, .rings]
    (s.takePosted h t ds) := by
  unfold State.takePosted
  exact .orThen (State.ringErr_writes ..).widen (State.setRing_writes ..).widen

theorem State.takeInj_writes (s : State) (h t : Nat) (ds : List (List Word)) : s.Writes [.rings] (s.takeInj h t ds) :=
    by
  unfold State.takeInj
  exact State.setRing_writes ..

theorem State.descDone_writes (s : State) (h t : Nat) (descs : Option (List (List Word))) : s.Writes (wakeParts ++
    [.cu, .hosts, .rings, .free, .out]) (s.descDone h t descs) := by
  unfold State.descDone
  dsimp only
  split
  · exact (State.ringErr_writes ..).after ((State.setRing_writes ..).after (.orElse (State.moveOwed_writes ..).widen
      (State.tlp_writes ..).widen))
  · exact .ite ((State.takeCmds_writes ..).after (State.tlp_writes ..).widen) (.ite ((State.takePosted_writes
      ..).after (State.tlp_writes ..).widen) ((State.takeInj_writes ..).after (State.tlp_writes ..).widen))

theorem State.descStart_writes (s : State) (h t : Nat) : s.Writes [.hosts, .rings, .out] (s.descStart h t) := by
  unfold State.descStart
  exact .ite (.refl _) ((State.readHost_writes ..).after ((State.setHst_writes ..).after ((State.setRing_writes
    ..).after (.ite (State.moveOwed_writes ..).widen (.refl _)))))

theorem State.pickCluster_writes (s : State) (l : List Nat) (cls : Nat) : s.Writes [.clusters] (s.pickCluster l cls).2
    := by
  unfold State.pickCluster
  dsimp only
  split
  · exact .refl _
  · exact (State.setClu_writes ..).after (.foldl (fun _ _ => (State.setClu_writes ..).widen) (.refl _))

theorem State.takeSample_writes (s : State) (c e t : Nat) (p : Pkt) : s.Writes [.held, .clusters, .threads]
    (s.takeSample c e t p) := by
  unfold State.takeSample
  dsimp only
  refine .ite (.refl _) ?_
  split
  · exact (State.bump_writes ..).widen
  · exact .ite (State.bump_writes ..).widen ((State.setThr_writes ..).after ((State.nextOrder_writes ..).after
      (State.setSample_writes ..).widen))

theorem State.place_writes (s : State) (k c : Nat) (e t : Nat) : s.Writes [.held, .wide, .pkts, .clusters, .threads,
    .tel] (s.place k c e t) := by
  unfold State.place
  exact .orElse (State.takeSample_writes ..).widen ((State.pmcCluster_writes ..).after ((State.setClu_writes ..).after
    ((State.setThr_writes ..).after ((State.setPkt_writes ..).after ((State.digSample_writes ..).after
    (State.nextOrder_writes ..).widen)))))

theorem State.popClass_writes (s : State) (n cls : Nat) : s.Writes [.groups] (s.popClass n cls) := by
  unfold State.popClass
  exact State.setGrp_writes ..

theorem State.tryClass_writes {s : State} {n cls : Nat} {t : State} (h : s.tryClass n cls = some t) :
    s.Writes (packetParts ++ [.clusters, .threads]) t := by
  unfold State.tryClass at h
  split at h
  · cases h
  · dsimp only at h
    split at h
    · cases h
      exact (State.handDrop_writes ..).after (State.popClass_writes ..).widen
    · split at h
      · next u e =>
        cases h
        have hpick : s.Writes (packetParts ++ [.clusters, .threads]) u :=
          .of_snd e (State.pickCluster_writes ..).widen
        exact (State.place_writes ..).after ((State.popClass_writes ..).after hpick)
      · cases h

theorem State.dispatch_writes (s : State) (n : Nat) : s.Writes (packetParts ++ [.clusters, .threads]) (s.dispatch n)
    := by
  unfold State.dispatch
  cases h : (List.range 4).findSome? fun d => s.tryClass n (((s.grp n).rr + d) % 4) with
  | none => exact .refl _
  | some t =>
    obtain ⟨d, -, hd⟩ := List.exists_of_findSome?_eq_some h
    exact State.tryClass_writes hd

theorem State.dlog_writes (s : State) (c cmd rank : Nat) : s.Writes [.dram, .free] (s.dlog c cmd rank) := by
  unfold State.dlog
  exact State.dlogs_writes ..

theorem State.drain_writes (s : State) (k : Nat) (ecc : Bool) : s.Writes Part.all (s.drain k ecc) := by
  unfold State.drain
  dsimp only
  split
  · exact .refl _
  · refine .ite (.refl _) ?_
    refine .ite ((State.addFails_writes ..).after (State.putThr_writes ..).widen) ?_
    split
    · exact .orElse (State.askLock_writes ..).widen ((State.passLine_writes ..).after ((State.putThr_writes ..).after
        (State.setClu_writes ..).widen))
    · exact (State.passLine_writes ..).after ((State.putThr_writes ..).after (State.setClu_writes ..).widen)

theorem State.dramBlank_writes (s : State) (c : Nat) : s.Writes [.dram, .image] (s.dramBlank c) := s.withBlank_writes
    c _

theorem State.dramLay_writes (s : State) (a : Nat) (b : List Byte) : s.Writes [.dram, .image] (s.dramLay a b) := by
  unfold State.dramLay
  split
  · exact (State.dramStore_writes ..).widen
  · exact .refl _

theorem State.dropLate_writes (s : State) (k reason : Nat) : s.Writes [.held, .wide, .groups, .pkts, .led, .tel,
    .dram] (s.dropLate k reason) := by
  unfold State.dropLate
  exact (State.dropPkt_writes ..).after ((State.freeHold_writes ..).after (State.drop_writes ..).widen)

theorem State.dropOldSamples_writes (s : State) : s.Writes [.held, .clusters, .threads] s.dropOldSamples := by
  unfold State.dropOldSamples
  exact .foldl (fun _ _ => (State.dropSamples_writes ..).widen) (.refl _)

theorem State.noteCe_writes (s : State) (c rank : Nat) : s.Writes [.dram] (s.noteCe c rank) := by
  unfold State.noteCe
  exact .orElse (State.startMigration_writes ..).widen (State.setDch_writes ..).widen

theorem State.recordUe_writes (s : State) (c : Nat) (who : DramUser) (a rank : Nat) : s.Writes [.held, .dram, .free]
    (s.recordUe c who a rank) := by
  unfold State.recordUe
  exact (State.setDch_writes ..).after ((State.bump_writes ..).after (State.fresh_writes ..).widen)

theorem State.eccOutcome_writes (s : State) (c : Nat) (who : DramUser) (a : Nat) (ecc : EccResult) (trigger : Bool) :
    s.Writes Part.all (s.eccOutcome c who a ecc trigger) := by
  unfold State.eccOutcome
  dsimp only
  split
  · exact .refl _
  · exact (State.noteCe_writes ..).after ((State.raise_writes ..).after (State.bump_writes ..).widen)
  · exact (State.raise_writes ..).after (.orElse (State.afterUe_writes ..).widen (State.recordUe_writes ..).widen)

theorem State.endHold_writes (s : State) (lp : Nat) : s.Writes linkParts (s.endHold lp) := by
  unfold State.endHold
  exact .ite (State.setLink_writes ..).widen (State.toDown_writes ..).widen

theorem State.sigInt_writes (s : State) (n : Nat) (int : Bool) : s.Writes [.dma] (s.sigInt n int) := by
  unfold State.sigInt
  exact State.setChan_writes ..

theorem State.endIns_writes (s : State) (n : Nat) : s.Writes [.dma] (s.endIns n) := by
  unfold State.endIns
  exact (State.sigInt_writes ..).after (State.setChan_writes ..).widen

theorem State.histRecord_writes (s : State) (q : Nat) : s.Writes [.held, .tel, .hosts, .rings, .dram, .out]
    (s.histRecord q) := by
  unfold State.histRecord
  exact State.routed_writes _ 4 160 ..

theorem State.endPeriod_writes (s : State) : s.Writes [.held, .tel, .hosts, .rings, .dram, .out] s.endPeriod := by
  unfold State.endPeriod
  exact (State.withTel_writes ..).after (.foldl (fun _ _ => (State.histRecord_writes ..).widen) (.refl _))

theorem State.setPicked_writes (s : State) (lp : Nat) (l : List Picked) : s.Writes [.sched] (s.setPicked lp l) := by
  unfold State.setPicked
  exact (State.withSched_writes ..).widen

theorem State.telBin_writes (s : State) (q sojourn : Nat) : s.Writes [.tel] (s.telBin q sojourn) := by
  unfold State.telBin
  exact State.telCount_writes ..

theorem State.leave_writes (s : State) (d q tout : Nat) : s.Writes [.held, .wide, .groups, .buf, .led, .tel] (s.leave
    d q tout) := by
  unfold State.leave
  exact (State.relDesc_writes ..).after ((State.telBin_writes ..).after (State.book_writes ..).widen)

theorem State.endTx_writes (s : State) (lp : Nat) : s.Writes [.held, .wide, .groups, .buf, .sched, .led, .tel, .dram,
    .out] (s.endTx lp) := by
  unfold State.endTx
  dsimp only
  split
  · exact .refl _
  · split
    · exact .refl _
    · exact .ite ((State.dropDesc_writes ..).after ((State.emit_writes ..).after ((State.bump_writes ..).after
        (State.setPicked_writes ..).widen))) ((State.leave_writes ..).after ((State.emit_writes ..).after
        ((State.addLine_writes ..).after ((State.addCtr_writes ..).after (State.setPicked_writes ..).widen))))

theorem State.endWindow_writes (s : State) : s.Writes [.tel] s.endWindow := by
  unfold State.endWindow
  exact (State.withTel_writes ..).widen

theorem State.unkeep_writes (s : State) (n : Nat) : s.Writes [.reload] (s.unkeep n) := by
  unfold State.unkeep
  exact .ite (State.withReload_writes ..).widen (.refl _)

theorem State.enterShade_writes (s : State) (k : Nat) (x : Shade) : s.Writes resetParts (s.enterShade k x) := by
  unfold State.enterShade
  exact .orElse ((State.loseDom_writes ..).after (State.setDmn_writes ..).widen) (.orElse (.orElse
    (State.withClustersThreads_writes ..).widen (.orElse (State.unkeep_writes ..).widen (State.setGrp_writes
    ..).widen)) (.orElse (.foldl (fun _ _ => (State.dramStop_writes ..).widen) (.refl _)) (.ite (State.sxDown_writes
    ..).widen (.refl _))))

theorem State.enumUnit_writes (s : State) : s.Writes [.chain, .out] s.enumUnit := by
  unfold State.enumUnit
  exact .ite ((State.passOn_writes ..).after (State.withChain_writes ..).widen) ((State.passOn_writes ..).after
    (State.withChain_writes ..).widen)

theorem State.unlockLine_writes (s : State) (k l : Nat) : s.Writes [.clusters] (s.unlockLine k l) := by
  unfold State.unlockLine
  exact .ite ((State.passLine_writes ..).after (State.setLine_writes ..).widen) (.refl _)

theorem State.execMicro_writes (s : State) (k : Nat) (c : Ctx) (m : Micro) : s.Writes (packetParts ++ [.clusters,
    .threads, .free]) (s.execMicro k c m) := by
  unfold State.execMicro
  extract_lets t0 pc torn t1 t2 t3 t4 t5 t6 t7 t8 t9 s1 s2 s3 _ s4 s5 s6
  have hset : s.Writes (packetParts ++ [.clusters, .threads, .free]) s1 := (State.setThr_writes ..).widen
  have hmem : s.Writes (packetParts ++ [.clusters, .threads, .free]) s2 := .orElse (State.pmcCluster_writes ..).widen
      hset
  have hlock : s.Writes (packetParts ++ [.clusters, .threads, .free]) s3 := .orElse (State.unlockLine_writes ..).widen
      hmem
  have hbg : s.Writes (packetParts ++ [.clusters, .threads, .free]) s4 := .orElse (State.setClu_writes ..).widen hlock
  have hissue : s.Writes (packetParts ++ [.clusters, .threads, .free]) s6 := (State.countIssue_writes ..).after
      ((State.withFree_writes ..).after hbg)
  refine .ite ((State.deliver_writes ..).after hissue) (.ite ((State.setThr_writes ..).after hissue) ?_)
  split
  next e =>
  exact (State.putThr_writes ..).after (.of_snd e (.ite_snd ((State.nextOrder_writes ..).after hissue) hissue))

theorem State.expAnswer_writes (s : State) (n k : Nat) : s.Writes [.buses] (s.expAnswer n k) := by
  unfold State.expAnswer
  exact State.setBus_writes ..

theorem State.expFail_writes (s : State) (n k : Nat) : s.Writes Part.all (s.expFail n k) := by
  unfold State.expFail
  exact .ite (State.setBus_writes ..).widen ((State.raise_writes ..).after (State.setBus_writes ..).widen)

theorem State.expWrite_writes (s : State) (n : Nat) (e : BusEnd) : s.Writes Part.all (s.expWrite n e) := by
  unfold State.expWrite
  dsimp only
  split
  · exact .refl _
  · exact .ite ((State.cageWritten_writes ..).after ((State.cageWritten_writes ..).after ((State.setBus_writes
      ..).after (State.expPut_writes ..).widen))) ((State.expFail_writes ..).after ((State.busFail_writes ..).after
      (State.expPut_writes ..).widen))

theorem State.fanDone_writes (n : Nat) (s : State) : s.Writes [.held, .cu, .hosts, .rings, .free, .out] (State.fanDone
    n s) := by
  induction n generalizing s with
  | zero => exact .refl _
  | succ n ih =>
    unfold State.fanDone
    split
    · exact .refl _
    · refine .ite ?_ (.refl _)
      dsimp only
      split
      · exact ((State.complete_writes ..).after (State.withCu_writes ..).widen).trans (ih _)
      · exact (State.withCu_writes ..).widen.trans (ih _)

theorem State.finish_writes (c : TCmd) (r : CmdRes) (ok : Bool) : r.st.Writes [.held, .cu, .hosts, .rings, .free,
    .out] (State.finish c r ok) := by
  unfold State.finish
  dsimp only
  split
  · exact .ite ((State.complete_writes ..).after (State.cmdOut_writes ..).widen) (State.complete_writes ..).widen
  · split
    · exact (State.complete_writes ..).widen
    · exact (State.withCu_writes ..).widen

theorem State.flushRun_writes (s : State) (c : TCmd) : s.Writes wakeParts (s.flushRun c).st := by
  unfold State.flushRun
  dsimp only
  split
  · exact (failWith_writes ..).widen
  · exact .foldl (fun _ _ => (State.staRemove_writes ..).widen) (.refl _)

theorem State.flushSome_writes (s : State) (qs : List Nat) (reason n : Nat) : s.Writes [.held, .wide, .groups, .buf,
    .sched, .led, .tel, .dram] (s.flushSome qs reason n) := by
  induction n generalizing s with
  | zero => exact .refl _
  | succ n ih =>
    unfold State.flushSome
    split
    · exact (State.discardHead_writes ..).trans (ih _)
    · exact .refl _

theorem State.stalePkt_writes (s : State) (k : Nat) : s.Writes [.held, .wide, .groups, .pkts, .reseq, .clusters,
    .threads, .led, .tel, .dram] (s.stalePkt k) := by
  unfold State.stalePkt
  dsimp only
  refine .ite ((State.dropLate_writes ..).after ((State.withReseq_writes ..).after (State.bump_writes ..).widen)) ?_
  refine .ite ((State.dropLate_writes ..).after ((State.setGrp_writes ..).after (State.bump_writes ..).widen)) ?_
  refine (State.endPkt_writes ..).after ?_
  split
  · exact (State.setThr_writes ..).after ((State.samplePrimary_writes ..).after ((State.dropLock_writes ..).after
      ((State.setGrp_writes ..).after (State.bump_writes ..).widen)))
  · exact (State.setGrp_writes ..).after (State.bump_writes ..).widen

theorem State.staleDesc_writes (s : State) (d : Nat) : s.Writes [.held, .wide, .groups, .buf, .sched, .led, .tel,
    .dram] (s.staleDesc d) := by
  unfold State.staleDesc
  dsimp only
  split
  · exact (State.dropDesc_writes ..).after ((State.queueEmptied_writes ..).after ((State.moveUsed_writes ..).after
      ((State.setQueue_writes ..).after (State.bump_writes ..).widen)))
  · refine (State.dropDesc_writes ..).after ?_
    split
    · exact (State.moveUsed_writes ..).after ((State.withBuf_writes ..).after (State.bump_writes ..).widen)
    · exact (State.withBuf_writes ..).after (State.bump_writes ..).widen

theorem State.flushStale_writes (s : State) (n : Nat) : s.Writes [.held, .wide, .groups, .pkts, .reseq, .clusters,
    .threads, .buf, .sched, .led, .tel, .dram] (s.flushStale n) := by
  unfold State.flushStale
  exact .orElse (.foldl (fun _ _ => (State.staleDesc_writes ..).widen) (.refl _)) (.foldl (fun _ _ =>
    (State.stalePkt_writes ..).widen) (.refl _))

theorem State.flushUnit_writes (s : State) (u : FlushUnit) (n : Nat) : s.Writes [.held, .wide, .groups, .buf, .sched,
    .led, .tel, .dram] (s.flushUnit u n) := by
  unfold State.flushUnit
  exact State.flushSome_writes ..

theorem State.formed_writes {f : State → TCmd → State} (s : State) (c : TCmd) {l : List Part} (hf : s.Writes l (f s
    c))
    (hl : [.held, .cu, .hosts, .rings, .free, .out] ⊆ l := by decide +kernel) : s.Writes l (State.formed f s c) := by
  unfold State.formed
  split
  · exact ((State.complete_writes ..).widen : s.Writes [.held, .cu, .hosts, .rings, .free, .out] _).widen hl
  · exact hf

theorem State.grant_writes (s : State) (c l : Nat) : s.Writes [.clusters, .threads] (s.grant c l) := by
  unfold State.grant
  dsimp only
  split
  · exact (State.putThr_writes ..).after (State.setLine_writes ..).widen
  · exact .refl _

theorem State.histFail_writes (s : State) (idx : Nat) : s.Writes Part.all (s.histFail idx) := by
  unfold State.histFail
  exact .ite (.refl _) ((State.raise_writes ..).after ((State.withFlt_writes ..).after ((State.bump_writes ..).after
    (State.orRg_writes ..).widen)))

theorem State.hitSet_writes (s : State) (key : Nat) : s.Writes wakeParts (s.hitSet key) := by
  unfold State.hitSet
  exact State.onReplicas_writes ..

theorem State.hostPickRun_writes (s : State) (h : Nat) : s.Writes [.wide, .buf, .sched] (s.hostPickRun h) := by
  unfold State.hostPickRun
  dsimp only
  split
  · exact .refl _
  · split
    · exact .refl _
    · exact (State.withSched_writes ..).after ((State.pmcQueue_writes ..).after ((State.pmcQueue_writes ..).after
        (State.popQueue_writes ..).widen))

theorem State.hostWordOut_writes (s : State) (h : Nat) (v : Word) : s.Writes [.hosts, .out] (s.hostWordOut h v) := by
  unfold State.hostWordOut
  exact State.cplPut_writes ..

theorem State.identCmd_writes (s : State) : s.Writes [.chain, .out] s.identCmd := by
  unfold State.identCmd
  exact .ite (State.answer_writes ..).widen (State.answer_writes ..).widen

theorem State.imageCmd_writes (s : State) : s.Writes [.chain, .out] s.imageCmd := by
  unfold State.imageCmd
  exact .ite (State.answer_writes ..).widen (.ite (State.answer_writes ..).widen (.ite (State.answer_writes ..).widen
    (.ite (State.answer_writes ..).widen (State.withChain_writes ..).widen)))

theorem State.imageSec_writes (s : State) (mask : Word) (sec len a : Nat) : s.Writes [.dram, .image] (s.imageSec mask
    sec len a) := by
  unfold State.imageSec
  exact .foldl (fun _ _ => (.foldl (fun _ _ => (State.dramLay_writes ..).widen) (.refl _))) (.refl _)

theorem State.imageCopy_writes (s : State) (mask : Word) : s.Writes [.dram, .image, .free] (s.imageCopy mask) := by
  have hsecs (l : List (Nat × Nat)) (p : State × Nat) : p.1.Writes [.dram, .image, .free]
      (l.foldl (fun (st : State × Nat) p => (st.1.imageSec mask p.1 p.2 st.2, st.2 + 4096 * p.2)) p).1 := by
    induction l generalizing p with
    | nil => exact .refl _
    | cons x l ih =>
      have hsec : p.1.Writes [.dram, .image, .free] (p.1.imageSec mask x.1 x.2 p.2) := (State.imageSec_writes
          ..).widen
      exact hsec.trans (ih (p.1.imageSec mask x.1 x.2 p.2, p.2 + 4096 * x.2))
  unfold State.imageCopy
  dsimp only
  split
  · exact .refl _
  · next a _ => exact (State.withFree_writes ..).after (hsecs _ (s, a))

theorem State.imageDone_writes (s : State) : s.Writes [.dram, .image, .chain, .free, .out] s.imageDone := by
  unfold State.imageDone
  dsimp only
  split
  · exact (State.ownPop_writes ..).after ((State.reply_writes ..).after ((State.imageCopy_writes ..).after
      (State.withChain_writes ..).widen))
  · exact .refl _

theorem State.imgFill_writes (s : State) : s.Writes [.clusters, .cstore, .img] s.imgFill := by
  unfold State.imgFill
  exact (State.imgFinish_writes ..).after ((State.setImg_writes ..).after (State.withCstore_writes ..).widen)

theorem State.injAdmit_writes (s : State) (x : InjDesc) (f : List Byte) (choice : Nat) : s.Writes Part.all (s.injAdmit
    x f choice) := by
  unfold State.injAdmit
  dsimp only
  split
  · exact (State.dropAt_writes ..).after ((State.book_writes ..).after ((State.setPkt_writes ..).after
      (State.withNextPkt_writes ..).widen))
  · exact (State.admitSingle_writes ..).after ((State.book_writes ..).after ((State.setPkt_writes ..).after
      (State.withNextPkt_writes ..).widen))

theorem State.injFinish_writes (s : State) (h t status : Nat) : s.Writes [.hosts, .rings, .out] (s.injFinish h t
    status) := by
  unfold State.injFinish
  exact (State.setRing_writes ..).after (State.toHost_writes ..).widen

theorem State.injRefuse_writes (s : State) (h t : Nat) (status reason : Nat) (x : InjDesc) : s.Writes [.held, .wide,
    .led, .tel, .hosts, .rings, .dram, .out] (s.injRefuse h t status reason x) := by
  unfold State.injRefuse
  exact (State.injFinish_writes ..).after ((State.drop_writes ..).after (State.book_writes ..).widen)

theorem State.injDirect_writes (s : State) (h t choice : Nat) : s.Writes Part.all (s.injDirect h t choice) := by
  unfold State.injDirect
  split
  · exact .refl _
  · refine .ite (.refl _) ?_
    split
    · exact (State.injRefuse_writes ..).widen
    · exact .ite ((State.injFinish_writes ..).after (State.injAdmit_writes ..).widen) (.refl _)
    · exact .refl _

theorem State.injLate_writes (s : State) (lp : Nat) (bytes : List Byte) (slots : BitVec 6) : s.Writes [.held, .wide,
    .ports, .groups, .pkts, .nextPkt, .reseq, .led, .tel, .dram] (s.injLate lp bytes slots) := by
  unfold State.injLate
  dsimp only
  split
  · exact (State.drop_writes ..).after (State.book_writes ..).widen
  · exact (State.endPkt_writes ..).after ((State.book_writes ..).after (State.accept_writes ..).widen)

theorem State.injPipe_writes (s : State) (h t : Nat) (slots : BitVec 6) (macWaiting late : Bool) : s.Writes
    (packetParts ++ [.ports, .nextPkt, .tbl, .cu]) (s.injPipe h t slots macWaiting late) := by
  unfold State.injPipe
  split
  · exact .refl _
  · refine .ite (.refl _) ?_
    split
    · exact (State.injRefuse_writes ..).widen
    · exact .ite (.refl _) (.ite ((State.injFinish_writes ..).after (State.injLate_writes ..).widen)
        ((State.injFinish_writes ..).after (State.deal_writes ..).widen))
    · exact .refl _

theorem State.injRead_writes (s : State) (h t : Nat) (data : Option (List Byte)) : s.Writes [.hosts, .rings, .out]
    (s.injRead h t data) := by
  unfold State.injRead
  dsimp only
  split
  · exact .refl _
  · exact (State.readHost_writes ..).after (State.setRing_writes ..).widen

theorem State.intSweep_writes (s : State) : s.Writes [.hosts, .out] s.intSweep := by
  unfold State.intSweep
  exact (State.withHostsOut_writes ..).widen

theorem State.overrun_writes (s : State) (k : Nat) : s.Writes (packetParts ++ [.clusters, .threads]) (s.overrun k) :=
    by
  unfold State.overrun
  exact .ite ((State.setThr_writes ..).after (.orThen ((State.pmcCluster_writes ..).after (State.bump_writes
    ..).widen) (State.dropLock_writes ..).widen)) (.ite ((State.deliver_writes ..).after (.orThen
    ((State.pmcCluster_writes ..).after (State.bump_writes ..).widen) (State.dropLock_writes ..).widen))
    ((State.deliver_writes ..).after (.orThen ((State.pmcCluster_writes ..).after (State.bump_writes ..).widen)
    (State.dropLock_writes ..).widen)))

theorem State.tryIssue_writes (s : State) (k : Nat) (c : Ctx) (m : Micro) : s.Writes (packetParts ++ [.clusters,
    .threads, .free]) (s.tryIssue k c m) := by
  unfold State.tryIssue
  exact .orThen (.ite (State.putThr_writes ..).widen (State.execMicro_writes ..).widen) (.ite (State.askLock_writes
    ..).widen (.refl _))

theorem State.issue_writes (s : State) (k : Nat) (upset : BitVec 144) : s.Writes Part.all (s.issue k upset) := by
  unfold State.issue
  dsimp only
  refine .ite (State.overrun_writes ..).widen ?_
  refine .ite (State.machineCheck_writes ..).widen ?_
  refine .ite (State.overrun_writes ..).widen ?_
  split
  · exact (State.machineCheck_writes ..).widen
  · exact (State.tryIssue_writes ..).widen

theorem State.lateGroup_writes (s : State) (n : Nat) : s.Writes Part.all (s.lateGroup n) := by
  unfold State.lateGroup
  exact .ite (.refl _) (.foldl (fun _ _ => (State.raise_writes ..).widen) ((State.withEpc_writes ..).after
    (State.setGrp_writes ..).widen))

theorem State.learnFail_writes (s : State) (x : Notice) : s.Writes [.held, .groups] (s.learnFail x) := by
  unfold State.learnFail
  exact (State.lrnMove_writes ..).after ((State.bump_writes ..).after (State.setGrp_writes ..).widen)

theorem State.learnNew_writes (s : State) (x : Notice) (life : Nat) : s.Writes wakeParts (s.learnNew x life) := by
  unfold State.learnNew
  dsimp only
  split
  · exact (State.learnFail_writes ..).widen
  · exact .ite (State.lrnMove_writes ..).widen ((State.setTag_writes ..).after ((State.withTbl_writes ..).after
      ((State.hitSet_writes ..).after (State.staPut_writes ..).widen)))

theorem State.tryUp_writes (s : State) (lp : Nat) : s.Writes linkParts (s.tryUp lp) := by
  unfold State.tryUp
  dsimp only
  split
  · exact .ite (State.setLink_writes ..).widen (.refl _)
  · exact .refl _

theorem State.linkConds_writes (s : State) (lp : Nat) (am lf : Bool) (rf hs : Bool) : s.Writes linkParts (s.linkConds
    lp am lf rf hs) := by
  unfold State.linkConds
  exact .ite ((State.setLink_writes ..).after (State.setPort_writes ..).widen) ((State.tryUp_writes ..).after
    (State.setPort_writes ..).widen)

theorem State.loadReturn_writes (s : State) (k : Nat) (ecc : Bool) : s.Writes Part.all (s.loadReturn k ecc) := by
  unfold State.loadReturn
  dsimp only
  split
  · exact .refl _
  · exact .ite ((State.readFails_writes ..).after (State.setThr_writes ..).widen) ((State.putThr_writes ..).after
      (State.setThr_writes ..).widen)

theorem State.loop_writes (s : State) (n : Nat) : s.Writes [.hosts, .dma, .out] (s.loop n) := by
  unfold State.loop
  exact .ite ((State.goIns_writes ..).after (State.setChan_writes ..).widen) ((State.goIns_writes ..).after
    (State.setChan_writes ..).widen)

theorem State.markBuf_writes (s : State) (q idx : Nat) : s.Writes [.buf] (s.markBuf q idx) := by
  unfold State.markBuf
  dsimp only
  split
  · exact (State.setBuf_writes ..).widen
  · exact .refl _

theorem State.markHold_writes (s : State) (n idx : Nat) : s.Writes [.pkts] (s.markHold n idx) := by
  unfold State.markHold
  dsimp only
  split
  · exact (State.setPkt_writes ..).widen
  · exact .refl _

theorem State.measureAge_writes (s : State) (m : Nat) (drift : BitVec 16) : s.Writes Part.all (s.measureAge m drift)
    := by
  unfold State.measureAge
  exact .orElse (State.raise_writes ..).widen (.orElse (State.raise_writes ..).widen (State.withFlt_writes ..).widen)

theorem State.meetEntry_writes (s : State) (x : Notice) (key : Nat) : s.Writes wakeParts (s.meetEntry x key) := by
  unfold State.meetEntry
  exact .ite ((State.setTag_writes ..).after ((State.withTbl_writes ..).after ((State.staPut_writes ..).after
    (State.lrnDrop_writes ..).widen))) (State.lrnMove_writes ..).widen

theorem State.migTo_writes (s : State) (c ptr : Nat) : s.Writes [.held, .dram] (s.migTo c ptr) := by
  unfold State.migTo
  exact .ite ((State.setDramSt_writes ..).after ((State.setDch_writes ..).after (State.setRg_writes ..).widen))
    (State.setDch_writes ..).widen

theorem State.migChunk_writes (s : State) (c : Nat) (eccs : List EccResult) : s.Writes Part.all (s.migChunk c eccs) :=
    by
  unfold State.migChunk
  exact .orElse (State.migTo_writes ..).widen (.foldl (fun _ _ => (State.eccOutcome_writes ..).widen)
    ((State.copyChunk_writes ..).after ((State.dlogs_writes ..).after ((State.dlogAcc_writes ..).after
    ((State.dlogs_writes ..).after (State.dlogAcc_writes ..).widen)))))

theorem State.moveRead_writes (s : State) (n : Nat) (a : MoveArgs) : s.Writes (wakeParts ++ [.hosts, .dma, .out])
    (s.moveRead n a) := by
  unfold State.moveRead
  exact .foldl (fun _ _ => (State.dramRead1_writes ..).widen) (.orThen (State.reach_writes ..).widen (.foldl (fun _ _
    => (State.reach_writes ..).widen) (State.setChan_writes ..).widen))

theorem State.move_writes (s : State) (n : Nat) (data : List Byte) (ok : Bool) : s.Writes Part.all (s.move n data ok)
    := by
  unfold State.move
  refine .ite (.ite ?_ (.refl _)) (.ite (State.moveRead_writes ..).widen (.ite ?_ (.ite ?_ ?_)))
  · exact (Moving.done_writes ..).after ((State.copy_writes ..).after (State.setChan_writes ..).widen)
  · exact (State.insDone_writes ..).after (State.setChan_writes ..).widen
  · exact (Moving.done_writes ..).after ((State.copy_writes ..).after ((State.readHost48_writes ..).after
      (State.setChan_writes ..).widen))
  · exact (Moving.done_writes ..).after ((State.copy_writes ..).after (State.setChan_writes ..).widen)

theorem State.nextBurst_writes (s : State) : s.Writes [.chain, .free, .out] s.nextBurst := by
  unfold State.nextBurst
  dsimp only
  split
  · exact (State.withChainFree_writes ..).after (State.chainSend_writes ..).widen
  · exact (State.withChain_writes ..).widen

theorem State.noteIdle_writes (s : State) (c : Nat) : s.Writes [.dram] (s.noteIdle c) := by
  unfold State.noteIdle
  exact .ite (State.setDch_writes ..).widen (.refl _)

theorem State.paleBack_writes (s : State) (k : Nat) : s.Writes resetParts (s.paleBack k) := by
  unfold State.paleBack
  exact .ite (State.refuseStep_writes ..).widen (.ite (.refl _) ((State.quadStep_writes ..).after
    ((State.setDmn_writes ..).after (State.enterShade_writes ..).widen)))

theorem State.patrol_writes (s : State) (c : Nat) (ecc : EccResult) : s.Writes Part.all (s.patrol c ecc) := by
  unfold State.patrol
  exact (State.eccOutcome_writes ..).after (.orElse (State.dlogs_writes ..).widen ((State.dlogAcc_writes ..).after
    (State.setDch_writes ..).widen))

theorem State.peekAll_writes (s : State) (a n : Nat) : s.Writes (wakeParts ++ [.wide, .rxAt, .latch, .flt, .free])
    (s.peekAll a n).2 := by
  unfold State.peekAll
  exact .foldl_snd (fun _ _ => (State.chainPeek_writes ..).widen) (.refl _)

theorem State.peekAnswer_writes (s : State) (a n : Nat) : s.Writes (wakeParts ++ [.wide, .rxAt, .latch, .flt, .chain,
    .free, .out]) (s.peekAnswer a n) := by
  unfold State.peekAnswer
  dsimp only
  split
  · exact (State.answer_writes ..).after (State.peekAll_writes ..).widen
  · exact (State.answer_writes ..).after (State.peekAll_writes ..).widen

theorem State.peekCmd_writes (s : State) : s.Writes (wakeParts ++ [.wide, .rxAt, .latch, .flt, .chain, .free, .out])
    s.peekCmd := by
  unfold State.peekCmd
  exact .ite (State.answer_writes ..).widen (.ite (State.answer_writes ..).widen (.ite (State.answer_writes ..).widen
    (State.peekAnswer_writes ..).widen))

theorem State.pendStep_writes (s : State) (i n : Nat) : s.Writes [.wide, .buf, .tel] (s.pendStep i n) := by
  induction n generalizing s with
  | zero => exact .refl _
  | succ n ih =>
    unfold State.pendStep
    split
    · exact .refl _
    · exact ((State.enqueue_writes ..).after (State.withBuf_writes ..).widen).trans (ih _)

theorem State.turn_writes {s : State} {lp lvl q : Nat} {t : State} (h : s.turn lp lvl = some (q, t)) :
    s.Writes [.sched] t := by
  unfold State.turn at h
  dsimp only at h
  split at h
  · cases h
    exact .refl _
  · obtain ⟨x, -, hx⟩ := Option.map_eq_some_iff.mp h
    obtain ⟨-, rfl⟩ := Prod.mk.inj hx
    exact (State.setDeficit_writes ..).after ((State.withSched_writes ..).after (State.setGrant_writes ..))

theorem State.serve_writes {lp lvl n : Nat} {s : State} {q : Nat} {t : State} (h : State.serve lp lvl n s = some (q,
    t)) :
    s.Writes [.sched] t := by
  induction n generalizing s with
  | zero => cases h
  | succ n ih =>
    unfold State.serve at h
    split at h
    · cases h
    · next e =>
      have hturn := State.turn_writes e
      dsimp only at h
      split at h
      · cases h
        exact .ite ((State.setGrant_writes ..).after ((State.setDeficit_writes ..).after hturn))
          ((State.setDeficit_writes ..).after hturn)
      · exact ((State.setGrant_writes ..).after hturn).trans (ih h)

theorem State.shpDebit_writes (s : State) (i bytes : Nat) : s.Writes [.sched] (s.shpDebit i bytes) := by
  unfold State.shpDebit
  exact State.setShp_writes ..

theorem State.takeGrants_writes (s : State) (lp : Nat) : s.Writes [.sched] (s.takeGrants lp) := by
  unfold State.takeGrants
  exact .foldl (fun _ _ => (.ite (State.setGrant_writes ..).widen (.refl _))) (.refl _)

theorem State.pick_writes (s : State) (lp : Nat) : s.Writes [.wide, .buf, .sched] (s.pick lp) := by
  unfold State.pick
  split
  · exact .refl _
  · split
    · exact .refl _
    · next e =>
      have hserve : s.Writes [.wide, .buf, .sched] _ := (State.serve_writes e).after (State.takeGrants_writes
          ..).widen
      split
      · exact hserve
      · exact (State.withSched_writes ..).after ((State.pmcQueue_writes ..).after ((State.pmcQueue_writes ..).after
          ((State.shpDebit_writes ..).after ((State.shpDebit_writes ..).after ((State.popQueue_writes ..).after
              hserve)))))

theorem State.pipeWrite_writes (s : State) (pipe : Nat) : s.Writes [.held, .reload, .tbl, .cu, .hosts, .rings, .free,
    .out] (s.pipeWrite pipe) := by
  unfold State.pipeWrite
  dsimp only
  split
  · exact .refl _
  · exact (State.cuTidy_writes ..).after ((State.fanDone_writes ..).after ((State.withCu_writes ..).after (.ite
      (State.ascTake_writes ..).widen (State.setStale_writes ..).widen)))

theorem State.pllLost_writes (s : State) (k : Nat) : s.Writes Part.all (s.pllLost k) := by
  unfold State.pllLost
  exact (State.raise_writes ..).after (State.withClk_writes ..).widen

theorem State.polDebit_writes (s : State) (l : List (Nat × Nat)) (len : Nat) : s.Writes [.sched] (s.polDebit l len) :=
    by
  unfold State.polDebit
  exact .foldl (fun _ _ => (State.setPol_writes ..).widen) (.refl _)

theorem State.polLoad_writes (s : State) (n ops : Nat) : s.Writes [.groups] (s.polLoad n ops) := by
  unfold State.polLoad
  exact State.setGrp_writes ..

theorem State.policed_writes (s : State) (k : Nat) : s.Writes (wakeParts ++ [.wide, .pkts]) (s.policed k).2 := by
  unfold State.policed
  extract_lets p lp home homed s1 s2 s3 s4 l
  have hhome : s.Writes (wakeParts ++ [.wide, .pkts]) s2 := .orElse (State.wake_writes ..).widen (.ite (.refl _)
      (State.bump_writes ..).widen)
  have hload : s.Writes (wakeParts ++ [.wide, .pkts]) s4 := .orElse (State.polLoad_writes ..).widen (.orElse
      (State.polLoad_writes ..).widen hhome)
  refine .ite_snd ((State.dropAt_writes ..).after ((State.bump_writes ..).after hhome)) ?_
  split
  · exact (State.dropAt_writes ..).after ((State.setPol_writes ..).after hload)
  · exact (State.polDebit_writes ..).after hload

theorem State.police_writes (s : State) (n : Nat) (holdEcc : Bool) (choice : Nat) : s.Writes Part.all (s.police n
    holdEcc choice) := by
  unfold State.police
  dsimp only
  split
  · exact .refl _
  · split
    · next u e =>
      have hpol : s.Writes Part.all u := .of_snd e ((State.policed_writes ..).after (State.setGrp_writes ..).widen)
      exact (State.admitFrame_writes ..).after hpol
    · next u e => exact .of_snd e ((State.policed_writes ..).after (State.setGrp_writes ..).widen)

theorem State.pollExp_writes (s : State) (n k : Nat) (input : ExpRead) : s.Writes Part.all (s.pollExp n k input) := by
  unfold State.pollExp
  dsimp only
  split
  · exact (State.expFail_writes ..).after ((State.busFail_writes ..).after (State.emit_writes ..).widen)
  · exact (State.cageInput_writes ..).after ((State.cageInput_writes ..).after ((State.expAnswer_writes ..).after
      (State.emit_writes ..).widen))

theorem State.poll_writes (s : State) (n : Nat) (inputs : List ExpRead) : s.Writes Part.all (s.poll n inputs) := by
  unfold State.poll
  exact .foldl (fun _ _ => (State.pollExp_writes ..).widen) (State.setBus_writes ..).widen

theorem State.polled_writes (s : State) (n : Nat) (w : List Word) (got : Option Word) : s.Writes [.held, .hosts, .dma,
    .out] (s.polled n w got) := by
  unfold State.polled
  split
  · exact (State.insDone_writes ..).widen
  · exact .ite (State.insDone_writes ..).widen (.refl _)

theorem State.pollIns_writes (s : State) (n : Nat) : s.Writes [.held, .hosts, .dma, .out] (s.pollIns n) := by
  unfold State.pollIns
  exact (State.polled_writes ..).after (State.setChan_writes ..).widen

theorem State.powerOn_writes (s : State) (straps : Straps) (senseFault : Bool) : s.Writes Part.all (s.powerOn straps
    senseFault) := by
  have hon : s.Writes Part.all (s.poweredOn straps) := .all fun _ => rfl
  rw [State.powerOn_eq]
  exact (State.raise_writes ..).orElse hon

theorem State.ppsAccept_writes (s : State) : s.Writes [.time, .wide, .groups, .clusters, .led, .tel] s.ppsAccept := by
  unfold State.ppsAccept
  dsimp only
  refine (State.withTime_writes ..).after ?_
  split
  · exact (State.withTime_writes ..).after ((State.timeStep_writes ..).after (State.withTime_writes ..).widen)
  · exact .ite ((State.withTime_writes ..).after (State.withTime_writes ..).widen) ((State.timeStep_writes ..).after
      (State.withTime_writes ..).widen)

theorem State.progDone_writes (s : State) (n : Nat) (prog : Option (List (List Word))) : s.Writes [.hosts, .dma, .out]
    (s.progDone n prog) := by
  unfold State.progDone
  dsimp only
  split
  · exact (State.stopChan_writes ..).after (State.tlp_writes ..).widen
  · exact (State.nextIns_writes ..).after ((State.setChan_writes ..).after (State.tlp_writes ..).widen)

theorem State.puntOne_writes (s : State) (h t : Nat) (w3 : List Word) (par first last : Bool) (w : List Word) (bytes :
    List Byte) : s.Writes [.hosts, .rings, .out] (s.puntOne h t w3 par first last w bytes) := by
  unfold State.puntOne
  exact (State.setRing_writes ..).after ((State.toHost_writes ..).after (State.toHost_writes ..).widen)

theorem State.puntAll_writes (h t : Nat) (w3 : List Word) (par first : Bool) (l : List (List Word × List Byte)) (s :
    State) : s.Writes [.hosts, .rings, .out] (State.puntAll h t w3 par first l s) := by
  induction l generalizing first s with
  | nil => exact .refl _
  | cons x l ih => exact (State.puntOne_writes ..).trans (ih ..)

theorem State.puntRun_writes (s : State) (h : Nat) : s.Writes Part.all (s.puntRun h) := by
  unfold State.puntRun
  dsimp only
  split
  · exact .refl _
  · exact .ite ((State.dropDesc_writes ..).after ((State.bufBad_writes ..).after (State.withSched_writes ..).widen))
      ((State.leave_writes ..).after ((State.puntAll_writes ..).after (State.withSched_writes ..).widen))

theorem State.railLost_writes (s : State) (l : RailLoss) (detail : Word) : s.Writes Part.all (s.railLost l detail) :=
    by
  unfold State.railLost
  dsimp only
  split
  · exact (State.raise_writes ..).widen
  · exact .foldl (fun _ _ => (State.dramBlank_writes ..).widen) (State.raise_writes ..).widen
  · exact (State.dramBlank_writes ..).widen
  · exact (State.powerOn_writes ..).widen

theorem State.readWords_writes (s : State) (a n : Nat) : s.Writes (wakeParts ++ [.wide, .rxAt, .latch, .flt, .free])
    (s.readWords a n).2 := by
  unfold State.readWords
  exact .foldl_snd (fun _ _ => (State.accRead_writes ..).widen) (.refl _)

theorem State.readCmd_writes (s : State) : s.Writes (wakeParts ++ [.wide, .rxAt, .latch, .flt, .chain, .free, .out])
    s.readCmd := by
  unfold State.readCmd
  exact .ite (State.answer_writes ..).widen (.ite (State.answer_writes ..).widen (.ite (State.peekAnswer_writes
    ..).widen (.ite (State.answer_writes ..).widen ((State.answer_writes ..).after (State.readWords_writes
    ..).widen))))

theorem State.readPath_writes (s : State) (p : Path) : s.Writes Part.all (s.readPath p) := by
  unfold State.readPath
  dsimp only
  split
  · exact State.bar_writes _ _ _ fun _ => (State.hostWordOut_writes ..).after (State.bar0Read_writes ..)
  · exact (State.hostWordOut_writes ..).after (State.tlp_writes ..).widen
  · refine .ite ((State.emit_writes ..).after (State.accRead_writes ..).widen) ?_
    split
    · exact (State.emit_writes ..).after (State.hostAccess_writes ..).widen
    · exact (State.emit_writes ..).after (State.hostAccess_writes ..).widen
    · exact .refl _
  · exact State.bar_writes _ _ _ fun _ => (State.hostWordOut_writes ..).after (State.bar2Read_writes ..).widen
  · exact (State.emit_writes ..).widen

theorem State.readRank_writes (s : State) (c : Nat) (r : DReq) (ecc : EccResult) : s.Writes Part.all (s.readRank c r
    ecc) := by
  unfold State.readRank
  exact (State.eccOutcome_writes ..).after ((State.noteIdle_writes ..).after ((State.dramAnswer_writes ..).after
    ((State.withFree_writes ..).after (State.dlogAcc_writes ..).widen)))

theorem State.readRun_writes (s : State) (c : TCmd) (ws : List Word) : s.Writes [] (s.readRun c ws).st := by
  unfold State.readRun
  dsimp only
  split
  · split
    · exact .refl _
    · exact (failWith_writes ..).widen
  · split
    · exact (failWith_writes ..).widen
    · split
      · exact .refl _
      · exact (failWith_writes ..).widen
  · split
    · exact (failWith_writes ..).widen
    · split
      · exact (failWith_writes ..).widen
      · exact .refl _
  · split
    · exact (failWith_writes ..).widen
    · exact .refl _
  · split
    · exact (failWith_writes ..).widen
    · split
      · exact .refl _
      · exact (failWith_writes ..).widen
  · split
    · exact (failWith_writes ..).widen
    · split
      · exact (failWith_writes ..).widen
      · exact .refl _

theorem State.readStart_writes (s : State) (lp delay : Nat) (ecc : Bool) : s.Writes Part.all (s.readStart lp delay
    ecc) := by
  unfold State.readStart
  dsimp only
  split
  · exact .refl _
  · exact (State.setPicked_writes ..).after (.ite (State.bufBad_writes ..).widen (.refl _))

theorem State.readoutCmd_writes (s : State) : s.Writes [.chain, .out] s.readoutCmd := by
  unfold State.readoutCmd
  exact .ite (State.answer_writes ..).widen (.ite (State.answer_writes ..).widen (.ite (State.answer_writes ..).widen
    (.ite ((State.answer_writes ..).after (State.withChain_writes ..).widen) ((State.chainPop_writes ..).after
    (State.withChain_writes ..).widen))))

theorem State.receive_writes (s : State) (lp : Nat) (bytes : List Byte) (aligned : Bool) (sof : Nat) (slots : BitVec
    6) : s.Writes (packetParts ++ [.ports, .nextPkt, .tbl, .cu]) (s.receive lp bytes aligned sof slots) := by
  unfold State.receive
  split
  · exact (State.bump_writes ..).widen
  · exact (State.deal_writes ..).after ((State.addLine_writes ..).after (State.addCtr_writes ..).widen)

theorem State.reexec_writes (s : State) (c e : Nat) (t i : Nat) (x : Sample) : s.Writes [.clusters, .threads]
    (s.reexec c e t i x) := by
  unfold State.reexec
  exact (State.setThr_writes ..).after (State.nextOrder_writes ..).widen

theorem State.recheckStart_writes (s : State) (c i : Nat) (x : Sample) : s.Writes [.clusters, .threads]
    (s.recheckStart c i x) := by
  unfold State.recheckStart
  dsimp only
  split
  · exact .ite ((State.reexec_writes ..).after ((State.reexec_writes ..).after (State.setSample_writes ..).widen))
      (.refl _)
  · exact .refl _

theorem State.recheckDigest_writes (s : State) (c i : Nat) (x : Sample) (p2 s2 : Word) : s.Writes Part.all
    (s.recheckDigest c i x p2 s2) := by
  unfold State.recheckDigest
  exact .ite ((State.raise_writes ..).after ((State.setSample_writes ..).after (State.sentEntry_writes ..).widen))
    (.ite ((State.retire_writes ..).after ((State.setSample_writes ..).after (State.sentEntry_writes ..).widen))
    ((State.checkerFault_writes ..).after ((State.setSample_writes ..).after (State.sentEntry_writes ..).widen)))

theorem State.recheck_writes (s : State) (c i : Nat) (x : Sample) : s.Writes Part.all (s.recheck c i x) := by
  unfold State.recheck
  refine .ite (State.recheckStart_writes ..).widen ?_
  refine .ite ((State.bump_writes ..).after ((State.endReruns_writes ..).after (State.setSample_writes ..).widen)) ?_
  split
  · exact (State.recheckDigest_writes ..).widen
  · exact .refl _

theorem State.refreshRank_writes (s : State) (c r : Nat) (postpone : Bool) : s.Writes [.dram, .free] (s.refreshRank c
    r postpone) := by
  unfold State.refreshRank
  exact .ite (State.setDch_writes ..).widen ((State.dlogs_writes ..).after (State.setDch_writes ..).widen)

theorem State.release26_writes (s : State) (lp : Nat) : s.Writes [.ports, .groups, .reseq] (s.release26 lp) := by
  unfold State.release26
  dsimp only
  split
  · exact .refl _
  · split
    · exact (State.withReseq_writes ..).after (State.setPort_writes ..).widen
    · exact (State.setGrp_writes ..).after ((State.withReseq_writes ..).after (State.setPort_writes ..).widen)

theorem State.reloadGroup_writes (s : State) (n : Nat) : s.Writes [.reload, .tbl] (s.reloadGroup n) := by
  unfold State.reloadGroup
  exact (State.withReloadTbl_writes ..).widen

theorem State.resetQueueState_writes (s : State) (n idx : Nat) : s.Writes [.sched] (s.resetQueueState n idx) := by
  unfold State.resetQueueState
  exact .ite (.foldl (fun _ _ => (.ite (State.setGrant_writes ..).widen (.refl _))) (State.setDeficit_writes
    ..).widen) (.ite (State.withSched_writes ..).widen (.ite (State.withSched_writes ..).widen (.refl _)))

theorem State.riseNext_writes (s : State) : s.Writes [.dom] s.riseNext := by
  unfold State.riseNext
  exact .foldl (fun _ _ => (.ite (State.stepBegin_writes ..).widen (.refl _))) (.refl _)

theorem State.sramBad_writes (s : State) (m : Sram) (idx : Nat) : s.Writes Part.all (s.sramBad m idx) := by
  unfold State.sramBad
  dsimp only
  split
  · exact (State.raise_writes ..).after (State.markBuf_writes ..).widen
  · exact (State.raise_writes ..).after (State.markHold_writes ..).widen
  · exact (State.raise_writes ..).widen
  · exact (State.raise_writes ..).after (State.withTbl_writes ..).widen
  · exact (State.raise_writes ..).after (State.withTbl_writes ..).widen
  · exact (State.raise_writes ..).after (State.withTbl_writes ..).widen
  · exact (State.raise_writes ..).after (State.withTbl_writes ..).widen
  · exact (State.raise_writes ..).widen
  · exact .ite (State.raise_writes ..).widen (State.raise_writes ..).widen
  · exact (State.raise_writes ..).after (State.setClu_writes ..).widen
  · exact (State.raise_writes ..).after (State.resetQueueState_writes ..).widen
  · exact (State.histFail_writes ..).widen
  · exact (State.raise_writes ..).widen
  · exact (State.raise_writes ..).widen
  · exact (State.raise_writes ..).widen
  · exact (State.raise_writes ..).widen

theorem State.scrub_writes (s : State) (m : Sram) (idx : Nat) (ecc : EccResult) : s.Writes Part.all (s.scrub m idx
    ecc) := by
  unfold State.scrub
  split
  · exact .refl _
  · split
    · exact .refl _
    · exact (State.raise_writes ..).widen
  · exact (State.sramBad_writes ..).widen

theorem State.search_writes (s : State) (n : Nat) : s.Writes (packetParts ++ [.tbl, .cu]) (s.search n) := by
  unfold State.search
  dsimp only
  split
  · exact .refl _
  · refine (State.afterLookups_writes ..).after ?_
    split
    · exact (State.lookHit_writes ..).after ((State.setPkt_writes ..).after (State.setGrp_writes ..).widen)
    · exact (State.setPkt_writes ..).after (State.setGrp_writes ..).widen

theorem State.searchRun_writes (s : State) (c : TCmd) (ws : List Word) : s.Writes [] (s.searchRun c ws).st := by
  unfold State.searchRun
  dsimp only
  split
  · split
    · exact .refl _
    · exact (failWith_writes ..).widen
  · split
    · exact (failWith_writes ..).widen
    · split
      · exact .refl _
      · exact (failWith_writes ..).widen

theorem State.segPut_writes (s : State) (n k : Nat) : s.Writes [.out] (s.segPut n k) := by
  unfold State.segPut
  exact (State.emit_writes ..).after (.ite ((State.emit_writes ..).after (State.emit_writes ..).widen)
    ((State.emit_writes ..).after (State.emit_writes ..).widen))

theorem State.xferPut_writes (s : State) (n off : Nat) (data : List Byte) : s.Writes [.held] (s.xferPut n off data) :=
    by
  unfold State.xferPut
  exact .foldl (fun _ _ => (State.setRg_writes ..).widen) (.refl _)

theorem State.segment_writes (s : State) (n : Nat) (e : BusEnd) (data : List Byte) : s.Writes [.held, .buses, .out]
    (s.segment n e data) := by
  unfold State.segment
  exact .ite ((State.busFail_writes ..).after ((State.setBus_writes ..).after (State.segPut_writes ..).widen))
    ((State.setBus_writes ..).after (.orThen (State.xferPut_writes ..).widen (State.segPut_writes ..).widen))

theorem State.serveNotice_writes (s : State) (x : Notice) : s.Writes wakeParts (s.serveNotice x) := by
  unfold State.serveNotice
  dsimp only
  split
  · exact (State.meetEntry_writes ..).widen
  · exact (State.learnNew_writes ..).widen

theorem State.serveRead_writes (s : State) (c pick : Nat) (r : DReq) (ecc : EccResult) : s.Writes Part.all
    (s.serveRead c pick r ecc) := by
  unfold State.serveRead
  exact .ite ((State.noteIdle_writes ..).after ((State.dramAnswer_writes ..).after (State.setDch_writes ..).widen))
    ((State.readRank_writes ..).after (State.setDch_writes ..).widen)

theorem State.serveWrite_writes (s : State) (c pick : Nat) (r : DReq) : s.Writes [.dram, .image, .free] (s.serveWrite
    c pick r) := by
  unfold State.serveWrite
  exact (State.noteIdle_writes ..).after ((State.issueWrite_writes ..).after (State.setDch_writes ..).widen)

theorem State.setSubsys_writes (s : State) (h : Nat) (v : Word) : s.Writes [.hosts] (s.setSubsys h v) := by
  unfold State.setSubsys
  exact .ite (State.setHst_writes ..).widen (.refl _)

theorem State.settleDone_writes (s : State) : s.Writes [.held, .cu, .epc, .hosts, .rings, .free, .out] s.settleDone :=
    by
  unfold State.settleDone
  exact (State.cuTidy_writes ..).after (.foldl (fun _ _ => (State.complete_writes ..).widen) (State.withCuEpc_writes
    ..).widen)

theorem State.settleEnd_writes (s : State) (c : Nat) : s.Writes (linkParts ++ [.cages, .buses]) (s.settleEnd c) := by
  unfold State.settleEnd
  dsimp only
  split
  · exact (State.cageTo_writes ..).after (State.setCage_writes ..).widen
  · exact (State.queueWrite_writes ..).after ((State.setCage_writes ..).after (State.setCage_writes ..).widen)
  · exact (State.queueWrite_writes ..).after ((State.setCage_writes ..).after (State.setCage_writes ..).widen)

theorem State.settleWait_writes (s : State) (c : TCmd) : s.Writes [.held, .cu, .hosts, .rings, .free, .out]
    (s.settleWait c) := by
  unfold State.settleWait
  dsimp only
  split
  · exact (State.complete_writes ..).widen
  · exact (State.complete_writes ..).widen
  · exact (State.complete_writes ..).widen
  · exact (State.withCu_writes ..).widen

theorem State.stepEnd_writes (s : State) (k : Nat) (x : Shade) : s.Writes resetParts (s.stepEnd k x) := by
  unfold State.stepEnd
  exact (State.riseNext_writes ..).after ((State.stepBegin_writes ..).after (.ite ((State.quadStep_writes ..).after
    ((State.setDmn_writes ..).after (State.enterShade_writes ..).widen)) (.orElse ((State.quadStep_writes ..).after
    (State.becomeActive_writes ..).widen) (State.setDmn_writes ..).widen)))

theorem State.shadeStep_writes (s : State) (k : Nat) : s.Writes resetParts (s.shadeStep k) := by
  unfold State.shadeStep
  dsimp only
  split
  · exact (State.stepBegin_writes ..).widen
  · exact .orThen (State.stepEnd_writes ..).widen (State.stepBegin_writes ..).widen

theorem State.signal_writes (s : State) (n : Nat) : s.Writes Part.all (s.signal n) := by
  unfold State.signal
  exact .ite ((State.insDone_writes ..).after (State.sigInt_writes ..).widen) (.ite ((State.insDone_writes ..).after
    (State.sigInt_writes ..).widen) (.ite ((State.insDone_writes ..).after (State.sigInt_writes ..).widen) (.ite
    ((State.insWait_writes ..).after ((State.setChan_writes ..).after ((State.sigInt_writes ..).after
    (State.toHost48_writes ..).widen))) (.orThen ((State.insWait_writes ..).after ((State.setChan_writes ..).after
    (State.sigInt_writes ..).widen)) (State.intWrite_writes ..).widen))))

theorem State.upNow_writes (s : State) (c : Nat) (cal : Bool) : s.Writes [.dram] (s.upNow c cal) := by
  unfold State.upNow
  exact State.setDch_writes ..

theorem State.srExit_writes (s : State) (c : Nat) : s.Writes [.dram, .free] (s.srExit c) := by
  unfold State.srExit
  exact (State.dlogAll_writes ..).after ((State.setDramSt_writes ..).after (State.upNow_writes ..).widen)

theorem State.stopClocks_writes (s : State) : s.Writes [.hosts, .frz] s.stopClocks := by
  unfold State.stopClocks
  exact (State.setHst_writes ..).after ((State.setHst_writes ..).after (State.withFrz_writes ..).widen)

theorem State.addFan_writes (x : Fan × State) : x.2.Writes [.cu] (State.addFan x) := by
  unfold State.addFan
  exact .ite (.refl _) (State.withCu_writes ..)

theorem State.sweepAsc_writes (s : State) (w : Sweep) (k : Nat) : s.Writes (wakeParts ++ [.cu]) (s.sweepAsc w k).2 :=
    by
  unfold State.sweepAsc
  dsimp only
  split
  · exact .refl _
  · exact (State.addFan_writes ..).after (State.ascPut_writes ..).widen
  · exact (State.setTag_writes ..).after ((State.addFan_writes ..).after (State.ascPut_writes ..).widen)
  · exact (State.setTag_writes ..).after ((State.addFan_writes ..).after (State.ascPut_writes ..).widen)
  · exact (State.addFan_writes ..).after (State.ascPut_writes ..).widen

theorem State.sweepCp_writes (s : State) (w : Sweep) (table idx : Nat) : s.Writes wakeParts (s.sweepCp w table idx).2
    := by
  unfold State.sweepCp
  exact (State.setDirty_writes ..).after (State.cpPut_writes ..).widen

theorem State.sweepEnd_writes (s : State) (w : Sweep) : s.Writes [.held, .cu, .epc, .hosts, .rings, .free, .out]
    (s.sweepEnd w) := by
  unfold State.sweepEnd
  exact .ite (.ite (State.settleDone_writes ..).widen (State.abortEnd_writes ..).widen) (.refl _)

theorem State.sweepNbr_writes (s : State) (w : Sweep) (k : Nat) : s.Writes wakeParts (s.sweepNbr w k).2 := by
  unfold State.sweepNbr
  dsimp only
  split
  · exact (State.nbrPut_writes ..).widen
  · exact (State.setTag_writes ..).after (State.nbrPut_writes ..).widen
  · exact (State.setTag_writes ..).after (State.nbrPut_writes ..).widen
  · exact (State.nbrPut_writes ..).widen
  · exact .refl _

theorem State.sweepNode_writes (s : State) (w : Sweep) (i : Nat) : s.Writes wakeParts (s.sweepNode w i).2 := by
  unfold State.sweepNode
  split
  · exact (State.setTag_writes ..).after ((State.setNode_writes ..).after (State.treePut_writes ..).widen)
  · exact (State.setTag_writes ..).after ((State.setNode_writes ..).after (State.treePut_writes ..).widen)
  · exact (State.setNode_writes ..).widen
  · exact .refl _

theorem State.sweepRep_writes (s : State) (w : Sweep) (k : Nat) : s.Writes [.tbl] (s.sweepRep w k).2 := by
  unfold State.sweepRep
  dsimp only
  split
  · exact .refl _
  · split
    · exact (State.repPut_writes ..).widen
    · exact (State.setTag_writes ..).after (State.repPut_writes ..).widen
    · exact (State.setTag_writes ..).after (State.repPut_writes ..).widen
    · exact (State.repPut_writes ..).widen
    · exact .refl _

theorem State.sweepSta_writes (s : State) (w : Sweep) (k : Nat) : s.Writes wakeParts (s.sweepSta w k).2 := by
  unfold State.sweepSta
  dsimp only
  split
  · exact (State.hitSet_writes ..).after (State.staPut_writes ..).widen
  · exact (State.setTag_writes ..).after (State.staRemove_writes ..).widen
  · exact (State.setTag_writes ..).after (State.staRemove_writes ..).widen
  · exact (State.staPut_writes ..).widen
  · exact .refl _

theorem visitAll_writes {f : State → Nat → Bool × State} {l : List Part} (hf : ∀ (s : State) k, s.Writes l (f s k).2)
    (ks : List Nat) (s : State) : s.Writes l (visitAll f ks s).2 := by
  induction ks generalizing s with
  | nil => exact .refl _
  | cons k ks ih => exact (hf ..).trans (ih _)

theorem State.sweepTable_writes (s : State) (w : Sweep) (table pos n : Nat) : s.Writes (wakeParts ++ [.cu])
    (s.sweepTable w table pos n).2.2 := by
  unfold State.sweepTable
  dsimp only
  split
  · exact visitAll_writes (f := fun s k => s.sweepSta w k) (fun _ _ => (State.sweepSta_writes ..).widen) ..
  · exact visitAll_writes (f := fun s k => s.sweepNbr w k) (fun _ _ => (State.sweepNbr_writes ..).widen) ..
  · exact visitAll_writes (f := fun s k => s.sweepRep w k) (fun _ _ => (State.sweepRep_writes ..).widen) ..
  · exact visitAll_writes (f := fun s k => s.sweepAsc w k) (fun _ _ => (State.sweepAsc_writes ..).widen) ..
  · exact visitAll_writes (f := fun s k => s.sweepNode w k) (fun _ _ => (State.sweepNode_writes ..).widen) ..
  · exact visitAll_writes (f := fun s k => s.sweepCp w table k) (fun _ _ => (State.sweepCp_writes ..).widen) ..

theorem State.sweepRun_writes (s : State) (w : Sweep) (n : Nat) : s.Writes (wakeParts ++ [.cu, .epc, .hosts, .rings,
    .free, .out]) (s.sweepRun w n) := by
  unfold State.sweepRun
  split
  · exact (State.sweepEnd_writes ..).widen
  · exact (State.sweepEnd_writes ..).after ((State.withEpc_writes ..).after (State.sweepTable_writes ..).widen)

theorem State.takeFlip_writes (s : State) (pipe : Nat) : s.Writes [.groups] (s.takeFlip pipe) := by
  unfold State.takeFlip
  exact State.setGrp_writes ..

theorem State.takeSpare_writes (s : State) (c : Nat) : s.Writes Part.all (s.takeSpare c) := by
  unfold State.takeSpare
  exact (State.raise_writes ..).after ((State.setClu_writes ..).after (State.dropSamples_writes ..).widen)

theorem State.testEnd_writes (s : State) (failed : Bool) (engines : BitVec 17) (checker : Bool) : s.Writes Part.all
    (s.testEnd failed engines checker) := by
  unfold State.testEnd
  exact .orThen (.ite (.orElse (State.checkerFault_writes ..).widen (.foldl (fun _ _ => (.ite (State.retire_writes
    ..).widen (.refl _))) (State.raise_writes ..).widen)) (.orElse ((State.isoUnit_writes ..).after
    (State.isoUnit_writes ..).widen) (State.raise_writes ..).widen)) (State.withFlt_writes ..).widen

theorem State.thermal_writes (s : State) (t : Int) : s.Writes Part.all (s.thermal t) := by
  unfold State.thermal
  exact .orElse (State.raise_writes ..).widen (.orElse (State.raise_writes ..).widen (State.withFlt_writes ..).widen)

theorem State.tick_writes (s : State) : s.Writes [.time, .groups, .clusters, .led, .tel] s.tick := by
  unfold State.tick
  exact .ite (.refl _) ((State.closeReached_writes ..).after (State.count_writes ..).widen)

theorem State.toSweep_writes (s : State) : s.Writes [.held, .clusters, .threads, .cu, .epc, .hosts, .rings, .free,
    .out] s.toSweep := by
  unfold State.toSweep
  exact (State.sweepEnd_writes ..).after ((State.withEpc_writes ..).after (State.dropOldSamples_writes ..).widen)

theorem State.trainLog_writes (s : State) (c : Nat) : s.Writes [.dram, .free] (s.trainLog c) := by
  unfold State.trainLog
  exact (State.setDch_writes ..).after (State.withFree_writes ..).widen

theorem State.trainEnd_writes (s : State) (c : Nat) (ok : Bool) : s.Writes Part.all (s.trainEnd c ok) := by
  unfold State.trainEnd
  have hblank : s.Writes Part.all (if bit (s.rg .drcCfg) 30 then s.trainLog c else
      let u := (s.trainLog c).setDch c { (s.trainLog c).dch c with
        undef := ((s.trainLog c).dch c).undef + 1, poison := [], scrubPtr := 0, scrubFrom := none }
      { u with dram := { u.dram with mem := tdrop (fun x => x / 2 ^ 38 == c) u.dram.mem } }) :=
    .ite (State.trainLog_writes ..).widen ((State.withBlank_writes ..).after (State.trainLog_writes ..).widen)
  exact .ite ((State.setDramSt_writes ..).after ((State.upNow_writes ..).after hblank))
    ((State.raise_writes ..).after ((State.setDramSt_writes ..).after hblank))

theorem State.treeReturn_writes (s : State) (k : Nat) (ecc : Bool) : s.Writes Part.all (s.treeReturn k ecc) := by
  unfold State.treeReturn
  dsimp only
  split
  · exact .refl _
  · exact .ite ((State.readFails_writes ..).after (State.setThr_writes ..).widen) ((State.putThr_writes ..).after
      (State.setThr_writes ..).widen)

theorem State.waitEnd_writes (s : State) (n : Nat) : s.Writes [.held, .hosts, .dma, .out] (s.waitEnd n) := by
  unfold State.waitEnd
  exact .ite (State.insDone_writes ..).widen (State.insDone_writes ..).widen

theorem State.waitIns_writes (s : State) (n : Nat) : s.Writes [.held, .hosts, .dma, .out] (s.waitIns n) := by
  unfold State.waitIns
  exact .ite (State.insDone_writes ..).widen (State.setChan_writes ..).widen

theorem State.wbRun_writes (s : State) (h t : Nat) : s.Writes [.hosts, .rings, .out] (s.wbRun h t) := by
  unfold State.wbRun
  exact (State.emit_writes ..).after ((State.emit_writes ..).after ((State.tlp_writes ..).after (State.setRing_writes
    ..).widen))

theorem State.widthRun_writes (s : State) (c : TCmd) : s.Writes (wakeParts ++ [.cu]) (s.widthRun c).st := by
  unfold State.widthRun
  extract_lets bank w _ u
  have hu : s.Writes (wakeParts ++ [.cu]) u := (State.withTbl_writes ..).widen
  split
  · exact .refl _
  split
  · exact .refl _
  · exact hu.trans (u.ascLaunch_writes (512 * bank) [] (some w)).widen

theorem State.writeCmd_writes (s : State) : s.Writes Part.all s.writeCmd := by
  unfold State.writeCmd
  exact .ite (State.answer_writes ..).widen (.ite (State.answer_writes ..).widen (.ite (State.answer_writes ..).widen
    (.ite (State.chainStore_writes ..).widen (.ite (State.answer_writes ..).widen (.ite (State.answer_writes ..).widen
    (.foldl (fun _ _ => (State.accWrite_writes ..).widen) (State.answer_writes ..).widen))))))

theorem State.writePath_writes (s : State) (p : Path) (v : Word) : s.Writes Part.all (s.writePath p v) := by
  unfold State.writePath
  split
  · exact State.bar_writes _ _ _ fun _ => State.bar0Write_writes ..
  · exact (State.cfgWrite_writes ..).after (State.tlp_writes ..).widen
  · refine .ite (State.accWrite_writes ..) ?_
    split
    · exact (State.hostAccess_writes ..).widen
    · exact (State.hostAccess_writes ..).widen
    · exact .refl _
  · exact State.bar_writes _ _ _ fun _ => .ite (.refl _) (State.hostAccess_writes ..).widen
  · exact (State.setSubsys_writes ..).widen

/-- A command writes what its operation does, and the messages of the interrupts. -/
theorem act_writes {c : Bool} {f : State → State} {s t : State} {l : List Part} (h : s.Writes l (f s))
    (e : act c f s = .next t) (hl : [.hosts, .out] ⊆ l := by decide +kernel) : s.Writes l t := by
  injection e with e
  rw [← e]
  exact .ite (h.trans ((State.intSweep_writes _).widen hl)) (.refl _)

end Sys2Proof.Machine
end

section
namespace Sys2Proof.Machine

open Sys2Proof

set_option Elab.async false

/-! ### Every step keeps the contents of DRAM in canonical form (R320) -/

/-- A table command that runs on the requester's data writes what its operation does, and its completion. -/
theorem State.tableCmd_writes (s : State) (d : Option (List Word)) (ok : Bool)
    {run : State → TCmd → List Word → CmdRes} {l : List Part} (h : ∀ (s : State) c ws, s.Writes l (run s c ws).st)
    (hl : [.held, .cu, .hosts, .rings, .free, .out] ⊆ l := by decide +kernel) :
    s.Writes l (s.cuRun fun s c => State.finish c (s.cmdRun c d fun ws => run s c ws) ok) :=
  State.cuRun_writes _ (fun s c => (s.cmdRun_writes c d (h s c)).trans ((State.finish_writes ..).widen hl)) hl

/-- A blow writes the fuses and the chain unit, and no DRAM. -/
theorem State.blowDone_writes (s : State) : s.Writes [.fuses, .chain, .out] s.blowDone := by
  unfold State.blowDone
  split
  · next f _ =>
    extract_lets one z fuses
    have hblown : s.Writes [.fuses, .chain, .out]
        { s with fuses := fuses, chain := { s.chain with blowing := none } } :=
      .of_same
    exact (State.ownPop_writes ..).after ((State.reply_writes ..).after hblown)
  · exact .refl _

/-- An operation writes some part or other. -/
theorem State.Writes.any {s t : State} {k : List Part} (h : s.Writes k t) : s.Writes Part.all t :=
  h.widen fun p _ => p.mem_all

theorem State.Writes.next {s t u : State} {k : List Part} (g : t.Writes k u) (h : s.Writes Part.all t) :
    s.Writes Part.all u :=
  h.trans g.any

/-- R320: a command keeps the contents of DRAM in canonical form, whatever it writes. -/
theorem exec_writes {i : Instr} {s t : State} (e : exec i s = .next t) : s.Writes Part.all t := by
  cases i <;> dsimp only [exec, execStretchTimeout, execSubPortAutoResume, execPwrSettleExpiry, execReleaseTimeout,
    execKnownAnswerSelfTest, execSentinelRotation, execPaleReturn, execRefresh, execDramRead, execDramWrite,
    execWriteDrain, execSelfRefreshExit, execFaultWindowEnd, execHaltMaxExpiry] at e
  case stretchTimeout =>
    split at e
    · exact act_writes ((State.emit_writes ..).next (State.setBus_writes ..).any) e
    · exact act_writes ((State.emit_writes ..).next (State.expFail_writes ..).any) e
  all_goals refine act_writes (l := Part.all) ?_ e fun p _ => p.mem_all
  -- frames
  case receiveFrame => exact (State.receive_writes ..).any
  case overflowSearch => exact (State.search_writes ..).any
  case dispatch => exact (State.dispatch_writes ..).any
  case resequence => exact (State.release26_writes ..).any
  case police => exact (State.police_writes ..).any
  case replicaEnqueue => exact (State.pendStep_writes ..).any
  case bufferWriteEnd => exact (State.bufWritten_writes ..).any
  case schedulerPick => exact (State.pick_writes ..).any
  case egressReadStart => exact (State.readStart_writes ..).any
  case transmitEnd => exact (State.endTx_writes ..).any
  case hostQueuePick => exact (State.hostPickRun_writes ..).any
  case puntWrite => exact (State.puntRun_writes ..).any
  case portDownFlush => exact (State.flushUnit_writes ..).any
  case ageCheck => exact (State.ageHeads_writes ..).any
  -- engines
  case microwordIssue => exact (State.issue_writes ..).any
  case treeReadReturn => exact (State.treeReturn_writes ..).any
  case scratchLoadReturn => exact (State.loadReturn_writes ..).any
  case counterAddReturn => exact (State.countReturn_writes ..).any
  case storeBufferDrain => exact (State.drain_writes ..).any
  case lockGrant => exact (State.grant_writes ..).any
  case backgroundStart => exact (State.background_writes ..).any
  -- sub-ports
  case portCfgWrite => exact State.access_writes _ _ _ fun _ => (State.writePortCfg_writes ..).any
  case subPortEnable | subPortDisable => exact State.access_writes _ _ _ fun _ => (State.writeMacCtl_writes ..).any
  case trainingComplete => exact (State.toAligning_writes ..).any
  case upHoldExpiry => exact (State.tryUp_writes ..).any
  case linkFault | alignmentMarkerLock => exact (State.linkConds_writes ..).any
  case downHoldExpiry => exact (State.endHold_writes ..).any
  case subPortAutoResume => exact (State.enableLp_writes ..).any
  -- cages
  case expanderInit => exact State.access_writes _ _ _ fun _ => (State.writeBusCfg_writes ..).any
  case cagePoll => exact (State.poll_writes ..).any
  case expanderOutputWrite => exact (State.expWrite_writes ..).any
  case moduleTransfer => exact State.access_writes _ _ _ fun _ => (State.writeXfer_writes ..).any
  case transferSegment => exact (State.segment_writes ..).any
  case pwrSettleExpiry => exact (State.settleEnd_writes ..).any
  case releaseTimeout => exact (State.cageTo_writes ..).any
  case powerOn | highPower | lowPower | release | resetPulse | cancel =>
    exact State.access_writes _ _ _ fun _ => (State.cageCmd_writes ..).any
  -- associative copies, learning, ageing
  case ascCopyWrite => exact (State.pipeWrite_writes ..).any
  case ascCompare => exact (State.ascScan_writes ..).any
  case ascRepair => exact (State.ascFix_writes ..).any
  case learnInsert => split; exacts [.refl _, (State.serveNotice_writes ..).next (State.withCu_writes ..).any]
  case ageingVisit => exact (State.ageStep_writes ..).any
  -- table commands
  case read => exact State.tableCmd_writes _ _ _ fun _ _ _ => (State.readRun_writes ..).any
  case writeIndex => exact State.tableCmd_writes _ _ _ fun _ _ _ => (State.writeRun_writes ..).any
  case insert => exact State.tableCmd_writes _ _ _ fun _ _ _ => (State.insertRun_writes ..).any
  case delete => exact State.tableCmd_writes _ _ _ fun _ _ _ => (State.deleteRun_writes ..).any
  case search => exact State.tableCmd_writes _ _ _ fun _ _ _ => (State.searchRun_writes ..).any
  case treeWrite => exact State.tableCmd_writes _ _ _ fun _ _ _ => (State.treeWriteRun_writes ..).any
  case treeRetire => exact State.tableCmd_writes _ _ _ fun _ _ _ => (State.treeRetireRun_writes ..).any
  case setRoot => exact State.tableCmd_writes _ _ _ fun _ _ _ => (State.setRootRun_writes ..).any
  case flushLearned => exact State.tableCmd_writes _ _ _ fun _ _ _ => (State.flushRun_writes ..).any
  case ageNow => exact State.tableCmd_writes _ _ _ fun _ _ _ => (State.ageRun_writes ..).any
  case setWidth => exact State.tableCmd_writes _ _ _ fun _ _ _ => (State.widthRun_writes ..).any
  case bulkStage => exact State.cuRun_writes _ fun _ _ => (State.finish_writes ..).next (State.bulk_writes ..).any
  case tblCmdGo => exact State.access_writes _ _ _ fun _ => (State.submit_writes ..).any
  -- epochs
  case beginStage => exact State.cuRun_writes _ fun _ _ => State.formed_writes _ _ (State.begin__writes ..).any
  case waitingBeginStage => exact (State.beginNext_writes ..).any
  case commit => exact State.cuRun_writes _ fun _ _ => State.formed_writes _ _ (State.commitRun_writes ..).any
  case pipeFlip => exact (State.takeFlip_writes ..).any
  case commitComplete => exact (State.commitEnd_writes ..).any
  case flipTimeout => exact .foldl (fun _ _ => (State.lateGroup_writes ..).any) (.refl _)
  case drainComplete => exact (State.toSweep_writes ..).any
  case drainTimeout =>
    exact .ite ((State.toSweep_writes ..).next (State.withEpc_writes ..).any) (State.withEpc_writes ..).any
  case epochFlush =>
    exact .ite ((State.toSweep_writes ..).next (State.flushStale_writes ..).any) (State.flushStale_writes ..).any
  case settleSweep | abortSweep => exact (State.sweepRun_writes ..).any
  case abortStage => exact State.cuRun_writes _ fun _ _ => State.formed_writes _ _ (State.abortRun_writes ..).any
  case forceAbort => exact State.access_writes _ _ _ fun _ => (State.writeEpcCfg_writes ..).any
  case settleWait => exact State.cuRun_writes _ fun _ _ => State.formed_writes _ _ (State.settleWait_writes ..).any
  -- clusters, images, sentinels
  case clusterReset | slotInvalidate | activeSlot | admitWrite =>
    exact State.access_writes _ _ _ fun _ => (State.writeNecCtl_writes ..).any
  case clusterResetComplete | slotTableSwitch => exact (State.setClu_writes ..).any
  case imageLoadStart | imageLoadAbort => exact State.access_writes _ _ _ fun _ => (State.writeImgCtl_writes ..).any
  case imageData => exact State.access_writes _ _ _ fun _ => .ite (State.imgData_writes ..).any (.refl _)
  case imageFillComplete => exact (State.imgFill_writes ..).any
  case controlStoreScrub => exact (State.csRepair_writes ..).next (State.setCword_writes ..).any
  case digestCompare => split; exacts [(State.compareDigest_writes ..).any, .refl _]
  case digestRecheck => split; exacts [(State.recheck_writes ..).any, .refl _]
  case spareTaken => exact (State.takeSpare_writes ..).any
  case knownAnswerSelfTest => exact (State.selfTest_writes ..).any
  case rearm => exact State.access_writes _ _ _ fun _ => (State.writeSentCfg_writes ..).any
  case sentinelRotation => split; exacts [(State.setClu_writes ..).any, .refl _]
  case rotationComplete => split; exacts [(State.setClu_writes ..).any, .refl _]
  case retireWrite => exact (State.writeRetire_writes ..).any
  -- ledger and telemetry
  case intervalClose => exact (State.closeInterval_writes ..).any
  case ledgerCheck => exact (State.checkLedger_writes ..).any
  case histogramPeriodEnd => exact (State.endPeriod_writes ..).any
  case digestBatchEmit => exact (State.digestEmit_writes ..).any
  case bandwidthWindowEnd => exact (State.endWindow_writes ..).any
  case peakClearPort | peakClearAll => exact State.access_writes _ _ _ fun _ => (State.bwClr_writes ..).any
  case counterGroupClear => exact State.access_writes _ _ _ fun _ => (State.pmcClr_writes ..).any
  case imbalancePop =>
    exact .ite (State.access_writes _ _ _ fun _ => (State.imbPop_writes ..).next (State.emit_writes ..).any)
      (State.emit_writes ..).any
  case mcLogPop =>
    exact .ite (State.access_writes _ _ _ fun _ => (State.mcPop_writes ..).next (State.emit_writes ..).any)
      (State.emit_writes ..).any
  case historyPop =>
    exact .ite (State.emit_writes ..).any
      (.ite ((State.emit_writes ..).next ((State.histFail_writes ..).next ((State.fresh_writes _).next
        (State.fresh_writes _).any)))
        ((State.histPop_writes ..).next (State.emit_writes ..).any))
  -- register accesses
  case chipCommit => exact (State.commitReg_writes ..).any
  case counterReadClear | lowWordLatch => exact (State.readPath_writes ..).any
  case registerWrite => exact (State.writePath_writes ..).any
  case misalignedAccess =>
    exact State.bar_writes _ _ _ fun _ =>
      .ite (State.hostAccess_writes ..).any ((State.hostWordOut_writes ..).next (State.hostAccess_writes ..).any)
  case unsupportedRequest => exact (State.unclaimed_writes ..).next (State.tlp_writes ..).any
  case bar4Access => exact State.bar_writes _ _ _ fun _ => (State.bar4_writes ..).any
  -- hosts and their links
  case vectorUnmask => exact (State.setHst_writes ..).next (State.tlp_writes ..).any
  case l0sEntry | l1Entry => exact (State.setHst_writes ..).any
  case linkUp => exact (State.sendLtr_writes ..).next (State.setHst_writes ..).any
  case linkDown | hotReset | functionLevelReset | busMasterDisable => exact (State.loseHost_writes ..).any
  case perstAssert => exact (State.setHst_writes ..).next (State.loseHost_writes ..).any
  case leave | present => exact (State.writeHostCtl_writes ..).any
  case coalescingTimeExpiry => exact .refl _
  -- rings
  case rngNudge => exact (State.nudge_writes ..).any
  case doorbellPoll => exact (State.dbStart_writes ..).any
  case doorbellFetchComplete => exact (State.dbDone_writes ..).any
  case descriptorFetch => exact (State.descStart_writes ..).any
  case descriptorFetchComplete => exact (State.descDone_writes ..).any
  case writeBack => exact (State.wbRun_writes ..).any
  case ringEnable | ringDisable => exact (State.writeRngCfg_writes ..).any
  case injectPipelineEntry => exact (State.injPipe_writes ..).any
  case injectDirectEntry => exact (State.injDirect_writes ..).any
  case injectDataRead => exact (State.injRead_writes ..).any
  -- DMA
  case dmaGo | dmaAbort => exact (State.writeDmaCtl_writes ..).any
  case programFetch => exact (State.progDone_writes ..).any
  case move => exact (State.move_writes ..).any
  case loop => exact (State.loop_writes ..).any
  case wait => exact (State.waitIns_writes ..).any
  case waitPoll => exact (State.pollIns_writes ..).any
  case waitExpiry => exact (State.waitEnd_writes ..).any
  case signal => exact (State.signal_writes ..).any
  case fence => exact (State.insWait_writes ..).any
  case nop => exact (State.goIns_writes ..).any
  case dmaEnd => exact (State.endIns_writes ..).any
  case writeAcknowledge => exact (State.ackWrite_writes ..).any
  -- DRAM
  case train => exact State.access_writes _ _ _ fun _ => (State.writeDrcCfg_writes ..).any
  case offline | dramResume | migrate => exact State.access_writes _ _ _ fun _ => (State.writeDrcCh_writes ..).any
  case trainingDone => exact (State.trainEnd_writes ..).any
  case refresh => exact (State.refreshRank_writes ..).any
  case temperatureRead => exact (State.dlogAll_writes ..).next (State.setDch_writes ..).any
  case zqCalibration | dqsOscillatorCheck => exact (State.calibrate_writes ..).any
  case dramRequest => split; exacts [(State.dramWrite_writes ..).any, (State.dramRead_writes ..).any]
  case dramRead => split; exacts [(State.serveRead_writes ..).any, .refl _]
  case dramWrite => split; exacts [(State.serveWrite_writes ..).any, .refl _]
  case writeDrain => exact (State.setDch_writes ..).any
  case selfRefreshEntry => exact (State.setDramSt_writes ..).next (State.enterSr_writes ..).any
  case selfRefreshExit => exact (State.srExit_writes ..).any
  case patrolScrub => exact (State.patrol_writes ..).any
  case migrationChunk => exact (State.migChunk_writes ..).any
  -- faults and their tests
  case faultWindowEnd => exact .all_of_image ⟨rfl, rfl⟩
  case historyLost => exact (State.writeStatus3_writes ..).any
  case sramScrub => exact (State.scrub_writes ..).any
  case ageingMeasure => exact (State.measureAge_writes ..).any
  case onlineTestStart => exact (State.writeTest_writes ..).any
  case onlineTestEnd => exact (State.testEnd_writes ..).any
  case quadrantOffline => exact (State.writeQuad_writes ..).any
  case thermalEvent => exact (State.thermal_writes ..).any
  case bridgeLane ev _ => cases ev <;> exact (State.raise_writes ..).any
  -- power, clocks, resets
  case shadeRequest | domainReset => exact (State.writeDom_writes ..).any
  case shadeStep => exact (State.shadeStep_writes ..).any
  case paleReturn => exact (State.paleBack_writes ..).any
  case reloadStart => exact (State.writeReload_writes ..).any
  case reloadComplete => exact (State.reloadGroup_writes ..).any
  case ppsEdge => exact (State.ppsAccept_writes ..).any
  case ppsFault => exact (State.raise_writes ..).next (State.withTime_writes ..).any
  case timeSetSec => exact (State.setSec_writes ..).any
  case powerOnReset => exact (State.powerOn_writes ..).any
  case chipReset | fwdEn => exact (State.writeChipCtl_writes ..).any
  case pllLock => exact (State.pllLost_writes ..).any
  case rail => exact (State.railLost_writes ..).any
  case serdesCal =>
    exact .foldl (fun _ _ => (State.sxDown_writes ..).any) (.foldl (fun _ _ => (State.raise_writes ..).any)
      (State.withClk_writes ..).any)
  -- chain, freeze, debug
  case chainFrame => exact (State.chainRx_writes ..).any
  case enum => exact (State.enumUnit_writes ..).any
  case ident => exact (State.identCmd_writes ..).any
  case peek => exact (State.peekCmd_writes ..).any
  case chainRead => exact (State.readCmd_writes ..).any
  case chainWrite => exact (State.writeCmd_writes ..).any
  case freeze => exact (State.chainFreeze_writes ..).any
  case chainReset => exact (State.chainReset_writes ..).any
  case readout => exact (State.readoutCmd_writes ..).any
  case readoutBurst => exact (State.nextBurst_writes ..).any
  case image => exact (State.imageCmd_writes ..).any
  case imageCopyDone => exact (State.imageDone_writes ..).any
  case blow => exact (State.blowCmd_writes ..).any
  case assert => exact (State.writeFrzCtl_writes ..).any
  case freezeNLow => exact (State.freezeLatch_writes ..).any
  case freezeNHigh => exact (State.withFrz_writes ..).any
  case clockStop => exact (State.stopClocks_writes ..).any
  case halt | forceHalt | resume | step | abortPkt => exact (State.writeDbg_writes ..).any
  case haltMaxExpiry => exact (State.abortThread_writes ..).any
  case fuseBlown => exact (State.blowDone_writes ..).any

/-- Settles O5: a tick leaves DRAM as it is, and a command keeps its form. -/
theorem dramStaysCanonical : Obligations.DramStaysCanonical := by
  intro s t hs e
  unfold step at e
  split at e
  · injection e with e
    subst e
    exact s.tick_writes.canon hs
  · exact (exec_writes e).canon hs

end Sys2Proof.Machine
end

section
namespace Sys2Proof.Machine

open Sys2Proof

set_option Elab.async false

/-! ### A frame of a command, from what it writes -/

/-- Two states with the same fields are one. -/
theorem State.eq_of_same {s t : State} (h : ∀ p : Part, p ≠ .image → p.Same s t) : t = s := by
  cases s
  cases t
  rw [State.mk.injEq]
  exact ⟨h .pending (by decide), h .ident (by decide), h .straps (by decide), h .fuses (by decide),
    h .time (by decide), h .held (by decide), h .wide (by decide), h .rxAt (by decide), h .priv (by decide),
    h .latch (by decide), h .dom (by decide), h .reload (by decide), h .clk (by decide), h .ports (by decide),
    h .cages (by decide), h .buses (by decide), h .groups (by decide), h .pkts (by decide), h .nextPkt (by decide),
    h .reseq (by decide), h .clusters (by decide), h .threads (by decide), h .cstore (by decide), h .img (by decide),
    h .tbl (by decide), h .cu (by decide), h .epc (by decide), h .buf (by decide), h .sched (by decide),
    h .led (by decide), h .tel (by decide), h .hosts (by decide), h .rings (by decide), h .dma (by decide),
    h .dram (by decide), h .flt (by decide), h .chain (by decide), h .frz (by decide), h .dbg (by decide),
    h .free (by decide), h .out (by decide)⟩

/-- What a ring command may write. -/
def ringParts : List Part := [.held, .hosts, .rings, .out]

/-- What the descriptors of a ring may write. -/
def descParts : List Part := hostParts ++ [.clusters, .dom, .reload, .tbl, .free]

variable {s t : State}

theorem State.Writes.besideRings (h : s.Writes ringParts t) : t.besideRings = s.besideRings :=
  State.eq_of_same fun p hp => by
    by_cases hw : p ∈ ringParts
    · cases p <;> first | exact rfl | exact absurd hw (by decide)
    · have g := h.same p hw
      cases p <;> first | exact absurd rfl hp | exact g | exact rfl

theorem State.Writes.besideHost (h : s.Writes hostParts t) : t.besideHost = s.besideHost :=
  State.eq_of_same fun p hp => by
    by_cases hw : p ∈ hostParts
    · cases p <;> first | exact rfl | exact absurd hw (by decide)
    · have g := h.same p hw
      cases p <;> first | exact absurd rfl hp | exact g | exact rfl

theorem State.Writes.besideHostTables (h : s.Writes descParts t) :
    t.besideHost.besideTables = s.besideHost.besideTables :=
  State.eq_of_same fun p hp => by
    by_cases hw : p ∈ descParts
    · cases p <;> first | exact rfl | exact absurd hw (by decide)
    · have g := h.same p hw
      cases p <;> first | exact absurd rfl hp | exact g | exact rfl

/-- A command keeps what is beside the parts that its operation may write. -/
theorem keeps_of_writes {α : Type} {g : State → α} {l : List Part}
    (hg : ∀ {s t : State}, s.Writes l t → g t = g s) {i : Instr} {c : State → Bool} {f : State → State}
    (h : ∀ s, exec i s = act (c s) f s) (hf : ∀ s : State, s.Writes l (f s))
    (hl : [.hosts, .out] ⊆ l := by decide +kernel) : Keeps i g :=
  fun s _ e => hg (act_writes (hf s) ((h s).symm.trans e) hl)

/-- Settles O57: each command's operation writes only what the words let it. -/
theorem hostFrames : Obligations.HostFrames := by
  refine ⟨fun h w g => ?linkUp, fun h => ?l0s, fun h => ?l1, fun h v => ?unmask, fun h k => ?unsupported,
    fun h t => ?expiry, fun r h v => ?nudge, fun h => ?poll, fun h d => ?polled, fun h t => ?fetch,
    fun h t d => ?fetched, fun h t => ?writeBack, fun h j d => ?inject, fun r h t v c => ?enable,
    fun r h t v => ?disable, fun h => ?master, fun h => ?function, fun h => ?hot, fun r h v => ?leave, fun h => ?down,
    fun h => ?perst, fun r h v => ?present⟩
  case linkUp =>
    exact keeps_of_writes (·.besideRings) (fun _ => rfl) fun _ => (State.sendLtr_writes ..).after
      (State.setHst_writes ..).widen
  case l0s => exact keeps_of_writes (·.besideRings) (fun _ => rfl) fun _ => (State.setHst_writes ..).widen
  case l1 => exact keeps_of_writes (·.besideRings) (fun _ => rfl) fun _ => (State.setHst_writes ..).widen
  case unmask =>
    exact keeps_of_writes (·.besideRings) (fun _ => rfl) fun _ => (State.setHst_writes ..).after
      (State.tlp_writes ..).widen
  case unsupported =>
    exact keeps_of_writes (·.besideRings) (fun _ => rfl) fun _ => (State.unclaimed_writes ..).after
      (State.tlp_writes ..).widen
  case expiry => exact keeps_of_writes (·.besideRings) (fun _ => rfl) fun _ => .refl _
  case nudge => exact keeps_of_writes (·.besideRings) (fun _ => rfl) fun _ => (State.nudge_writes ..).widen
  case poll => exact keeps_of_writes (·.besideRings) (fun _ => rfl) fun _ => (State.dbStart_writes ..).widen
  case polled => exact keeps_of_writes (·.besideRings) (fun _ => rfl) fun _ => (State.dbDone_writes ..).widen
  case fetch => exact keeps_of_writes (·.besideRings) (fun _ => rfl) fun _ => (State.descStart_writes ..).widen
  case fetched => exact keeps_of_writes (·.besideHostTables) (fun _ => rfl) fun _ => (State.descDone_writes ..).widen
  case writeBack => exact keeps_of_writes (·.besideRings) (fun _ => rfl) fun _ => (State.wbRun_writes ..).widen
  case inject => exact keeps_of_writes (·.besideRings) (fun _ => rfl) fun _ => (State.injRead_writes ..).widen
  case enable => exact keeps_of_writes (·.besideRings) (fun _ => rfl) fun _ => State.writeRngCfg_writes ..
  case disable => exact keeps_of_writes (·.besideRings) (fun _ => rfl) fun _ => State.writeRngCfg_writes ..
  case master => exact keeps_of_writes (·.besideHost) (fun _ => rfl) fun _ => State.loseHost_writes ..
  case function => exact keeps_of_writes (·.besideHost) (fun _ => rfl) fun _ => State.loseHost_writes ..
  case hot => exact keeps_of_writes (·.besideHost) (fun _ => rfl) fun _ => State.loseHost_writes ..
  case leave => exact keeps_of_writes (·.besideHost) (fun _ => rfl) fun _ => State.writeHostCtl_writes ..
  case down => exact keeps_of_writes (·.besideHost) (fun _ => rfl) fun _ => State.loseHost_writes ..
  case perst =>
    exact keeps_of_writes (·.besideHost) (fun _ => rfl) fun _ => (State.setHst_writes ..).after
      (State.loseHost_writes ..)
  case present => exact keeps_of_writes (·.besideHost) (fun _ => rfl) fun _ => State.writeHostCtl_writes ..

end Sys2Proof.Machine
end

section
/-! PROOFS of the family 13_faults_and_reliability: the record of a fault event. -/

namespace Sys2Proof.Machine

open Sys2Proof

set_option Elab.async false

/-! ### Every event's record joins the history (R343, R349, R350) -/

/-- R343, R349, R350: a reaction leaves of the collector what the event's record makes of it. -/
theorem State.raiseCore_flt (s : State) (e : FaultEv) :
    ∃ n < 32, ∃ int, (s.raiseCore e).flt = ((s.logStatus e int).logHist (mkHist s.now e n)).flt := by
  unfold State.raiseCore
  extract_lets r int iso frz rstd0 rstc rstd done s1 s2 s3 s4 s5
  refine ⟨done, ?_, int, ?_⟩
  · have h1 := b2n_le_one int
    have h2 := b2n_le_one iso
    have h3 := b2n_le_one rstd
    have h4 := b2n_le_one frz
    have h5 := b2n_le_one rstc
    omega
  · have hage : s2.flt = s1.flt := ite_same State.flt _ _ _ s1 (State.orRg_flt ..) rfl
    have hiso : s3.flt = s2.flt := ite_same State.flt _ _ _ s2 ((State.isoUnit_writes ..).same .flt (by decide)) rfl
    have hrstd : s4.flt = s3.flt :=
      ite_same State.flt _ _ _ s3 ((State.rstdUnit_writes ..).same .flt (by decide)) rfl
    have hfrz : s5.flt = s4.flt :=
      ite_same State.flt _ _ _ s4 ((State.freezeLatch_writes ..).same .flt (by decide)) rfl
    have hchip : s5.chipReset.flt = s5.flt := s5.chipReset_aon.2.1
    have hend : (if rstc then
        (if e.cls = .crimson then s5.chipReset.orRg .bufAgeCtl 0 0 (flag 30 true) else s5.chipReset) else s5).flt =
          s5.flt := by
      refine ite_same State.flt _ _ _ s5 ?_ rfl
      exact (ite_same State.flt _ _ _ s5.chipReset (State.orRg_flt ..) rfl).trans hchip
    exact hend.trans (hfrz.trans (hrstd.trans (hiso.trans hage)))

/-- Settles O31: the record is written before the reactions, and none of them alters the collector. -/
theorem faultIsRecorded : Obligations.FaultIsRecorded := by
  intro s e hl hh
  obtain ⟨n, hn, int, hflt⟩ := s.raiseCore_flt e
  refine ⟨n, hn, ?_⟩
  rw [hflt, State.logHist_room, State.logStatus_flt]
  · rwa [State.logStatus_flt]
  · rwa [State.logStatus_flt]

end Sys2Proof.Machine
end

section
/-! PROOFS of the family 14_power_clocks_reset: the reload of a group. -/

namespace Sys2Proof.Machine

open Sys2Proof

set_option Elab.async false

/-! ### A stretch of a table replaced by another table -/

section
variable {α : Type} {d : Nat → α} {a b t : Tab α} {k : Nat}

/-- An entry that the first part of a table does not list. -/
theorem tget_append_right (h : ∀ e ∈ a, e.1 ≠ k) : tget d (a ++ b) k = tget d b k := by
  induction a with
  | nil => rfl
  | cons e a ih =>
    rw [List.cons_append, tget, if_neg (h e (List.mem_cons_self ..)).symm]
    exact ih fun e he => h e (List.mem_cons_of_mem _ he)

/-- An entry that the second part of a table does not list. -/
theorem tget_append_left (h : ∀ e ∈ b, e.1 ≠ k) : tget d (a ++ b) k = tget d a k := by
  induction a with
  | nil => simpa [tget] using tget_append_right (a := b) (b := []) h
  | cons e a ih => rw [List.cons_append, tget, tget, ih]

theorem tget_filter (p : Nat → Bool) : tget d (t.filter fun e => p e.1) k = if p k then tget d t k else d k := by
  have h := tget_tdrop d (fun k => ! p k) t k
  simp only [tdrop, Bool.not_not] at h
  rw [h]
  cases p k <;> rfl

theorem tget_shiftTab {off i : Nat} (h : d (off + i) = d i) : tget d (shiftTab off t) (off + i) = tget d t i := by
  induction t with
  | nil => exact h
  | cons e t ih =>
    have hkey : off + i = e.1 + off ↔ i = e.1 := by omega
    rw [shiftTab, List.map_cons, tget, tget]
    exact if_congr hkey rfl ih

variable {lo hi : Nat}

/-- Within the stretch, the new table. -/
theorem tget_replaceRange_in (hlo : lo ≤ k) (hhi : k < hi) : tget d (replaceRange lo hi t b) k = tget d b k := by
  unfold replaceRange
  rw [tget_append_left, tget_append_right]
  · intro e he
    have := of_decide_eq_true (List.mem_filter.mp he).2
    omega
  · intro e he
    have := of_decide_eq_true (List.mem_filter.mp he).2
    omega

/-- Outside the stretch, the table as it was, where the new table keeps to the stretch. -/
theorem tget_replaceRange_out (hb : ∀ e ∈ b, lo ≤ e.1 ∧ e.1 < hi) (hk : k < lo ∨ hi ≤ k) (hle : lo ≤ hi) :
    tget d (replaceRange lo hi t b) k = tget d t k := by
  have hnew : ∀ e ∈ b, e.1 ≠ k := fun e he => by
    have := hb e he
    omega
  unfold replaceRange
  rcases hk with hk | hk
  · rw [tget_append_left, tget_append_left hnew, tget_filter (fun x => decide (x < lo)), if_pos (decide_eq_true hk)]
    intro e he
    have := of_decide_eq_true (List.mem_filter.mp he).2
    omega
  · rw [List.append_assoc, tget_append_right, tget_append_right hnew, tget_filter (fun x => decide (hi ≤ x)),
      if_pos (decide_eq_true hk)]
    intro e he
    have := of_decide_eq_true (List.mem_filter.mp he).2
    omega

end

/-! ### The reload of a group (R375, R376) -/

/-- R376: a reloaded group's trees are those of the masters. -/
theorem State.reloadGroup_tree (s : State) (n : Nat) {i : Nat} (hi : i < 65536) :
    tget (fun _ => []) (s.reloadGroup n).tbl.treeG (n * 65536 + i) = tget (fun _ => []) s.tbl.tree i :=
  (tget_replaceRange_in (by omega) (by omega)).trans (tget_shiftTab rfl)

/-- R376: the trees of another group are as they were. -/
theorem State.reloadGroup_other (s : State) {n j : Nat} (htree : ∀ e ∈ s.tbl.tree, e.1 < 65536) (hj : j / 65536 ≠ n) :
    tget (fun _ => []) (s.reloadGroup n).tbl.treeG j = tget (fun _ => []) s.tbl.treeG j := by
  refine tget_replaceRange_out (fun e he => ?_) (by omega) (by omega)
  obtain ⟨x, hx, rfl⟩ := List.mem_map.mp he
  have := htree x hx
  dsimp only
  omega

/-- R375: the reload of every Active group named that has no admitted cluster is under way. -/
theorem State.writeReload_go (s : State) (v : Word) {n : Nat} (hn : n < s.nGroups) (hv : bit v n = true)
    (hact : s.isActive (domPg n) = true) (hadm : (groupClusters n).all (fun c => ! s.admits c) = true) :
    n ∈ (s.writeReload v).reload.go := by
  refine List.mem_append.mpr ?_
  by_cases hgo : n ∈ s.reload.go
  · exact .inl hgo
  · exact .inr (List.mem_filter.mpr ⟨List.mem_range.mpr hn, by simp [hv, hact, hadm, hgo]⟩)

/-- Settles O35: a reload replaces the group's stretch of each of its tables by the masters. -/
theorem reloading : Obligations.Reloading := by
  refine ⟨fun s r v hon => ?start, fun s n hon hgo => ?done⟩
  case start =>
    have hb : Becomes (.reloadStart r v) s (s.writeReload v) := becomes_of_act (f := fun s => s.writeReload v) rfl hon
    refine hb.completes ⟨by rw [State.intSweep_tbl]; rfl, fun n hn hv hact hadm => ?_⟩
    rw [State.intSweep_reload]
    exact s.writeReload_go v hn hv hact hadm
  case done =>
    have hb : Becomes (.reloadComplete n) s (s.reloadGroup n) :=
      becomes_of_act (f := fun s => s.reloadGroup n) rfl (by rw [hon, hgo]; rfl)
    refine hb.completes ?_
    rw [State.intSweep_tbl, State.intSweep_reload]
    exact ⟨fun h => by simpa using (List.mem_filter.mp h).2, fun h => by simpa using (List.mem_filter.mp h).2, rfl,
      fun i hi => s.reloadGroup_tree n hi, fun htree j hj => s.reloadGroup_other htree hj⟩

end Sys2Proof.Machine
end

section
/-! PROOFS of the family 16_register_map: the addresses that name no register. -/

namespace Sys2Proof.Machine

open Sys2Proof

set_option Elab.async false

/-- What does not write the registers' words leaves each as it was. -/
theorem State.Writes.rg {s t : State} {l : List Part} (h : s.Writes l t) (n : RegName) (k j i : Nat)
    (hl : .held ∉ l := by decide) : t.rg n k j i = s.rg n k j i := by
  have hheld : t.held = s.held := h.same .held hl
  unfold State.rg
  rw [hheld]

theorem State.rg_orRg_of_ne {n m : RegName} {k j k' j' : Nat} (h : regAddr m k' 0 j' ≠ regAddr n k 0 j) (s : State)
    (v : Word) : (s.orRg n k j v).rg m k' j' = s.rg m k' j' := by
  unfold State.orRg
  exact State.rg_setRg_of_ne h _ _

/-! ### An address that names no register (R412) -/

/-- R273: the accesses outside a window are counted apart from the states of the pools and from the accesses to
sleeping domains. -/
theorem regAddr_pciUnmapped (h : Fin 2) : (∀ k : Fin 4, regAddr .pciUnmapped h 0 0 ≠ regAddr .bufPoolStat 0 0 k) ∧
    ∀ k : Fin 2, regAddr .pciUnmapped h 0 0 ≠ regAddr .pciSleepAcc k 0 0 := by
  revert h
  decide

variable {s : State} {a : Nat}

theorem State.poolSteps_pciUnmapped (s : State) (h : Fin 2) : s.poolSteps.rg .pciUnmapped h = s.rg .pciUnmapped h := by
  have hstep (s : State) (k : Nat) (hk : k < 4) : (s.poolStep k).rg .pciUnmapped h = s.rg .pciUnmapped h := by
    have hbuf (x : Buffer) : ({ s with buf := x } : State).rg .pciUnmapped h = s.rg .pciUnmapped h :=
      (s.withBuf_writes x).rg ..
    unfold State.poolStep
    refine ite_same (State.rg · .pciUnmapped h) _ _ _ s ?_ (hbuf _)
    refine ite_same (State.rg · .pciUnmapped h) _ _ _ s ?_ (hbuf _)
    exact (State.rg_orRg_of_ne ((regAddr_pciUnmapped h).1 ⟨k, hk⟩) _ _).trans (hbuf _)
  exact List.foldlRecOn (List.range 4) State.poolStep (motive := fun u => u.rg .pciUnmapped h = s.rg .pciUnmapped h)
    rfl fun u hu k hk => (hstep u k (List.mem_range.mp hk)).trans hu

theorem State.sleepAcc_pciUnmapped (s : State) (r : Req) (h : Fin 2) :
    (s.sleepAcc r).rg .pciUnmapped h = s.rg .pciUnmapped h := by
  cases r with
  | host0 => exact State.rg_setRg_of_ne ((regAddr_pciUnmapped h).2 0) ..
  | host1 => exact State.rg_setRg_of_ne ((regAddr_pciUnmapped h).2 1) ..
  | chain => rfl

/-- Waking a domain writes of the registers the states of the pools alone. -/
theorem State.wake_pciUnmapped (s : State) (k : Nat) (h : Fin 2) :
    (s.wake k).rg .pciUnmapped h = s.rg .pciUnmapped h := by
  have hact (u : State) : (u.becomeActive k).rg .pciUnmapped h = u.rg .pciUnmapped h :=
    (u.becomeActive_writes k).rg ..
  have hquad (u : State) : (u.quadStep k).rg .pciUnmapped h = u.rg .pciUnmapped h :=
    ite_same (State.rg · .pciUnmapped h) _ _ _ u (u.poolSteps_pciUnmapped h) rfl
  unfold State.wake
  have hdom (x : Domain) : (s.setDmn k x).rg .pciUnmapped h = s.rg .pciUnmapped h := (s.setDmn_writes k x).rg ..
  refine ite_same (State.rg · .pciUnmapped h) _ _ _ s ((hquad _).trans ((hact _).trans (hdom _))) ?_
  exact ite_same (State.rg · .pciUnmapped h) _ _ _ s (hdom _) rfl

theorem State.reach_pciUnmapped (s : State) (r : Req) (k : Nat) (peek : Bool) (h : Fin 2) :
    (s.reach r k peek).2.rg .pciUnmapped h = s.rg .pciUnmapped h := by
  unfold State.reach
  extract_lets u
  have hu : u.rg .pciUnmapped h = s.rg .pciUnmapped h :=
    ite_same (State.rg · .pciUnmapped h) _ _ _ s rfl (s.wake_pciUnmapped k h)
  split
  · exact s.sleepAcc_pciUnmapped r h
  · split
    · exact hu
    · exact (u.sleepAcc_pciUnmapped r h).trans hu

theorem State.reachUnnamed_pciUnmapped (s : State) (r : Req) (a : Nat) (peek : Bool) (h : Fin 2) :
    (s.reachUnnamed r a peek).rg .pciUnmapped h = s.rg .pciUnmapped h := by
  unfold State.reachUnnamed
  split
  · exact s.reach_pciUnmapped ..
  · rfl

/-- The domain that holds an address, if any, is open. -/
def State.OpenAt (s : State) (a : Nat) : Prop :=
  s.intDom .chain a = none ∨ ∃ k, s.intDom .chain a = some k ∧ s.Open k

/-- R412: an access to an open domain leaves the device as it was. -/
theorem State.OpenAt.reachUnnamed (ho : s.OpenAt a) (ha : a < 2 ^ 32) (hx : regAt a = none) (r : Req) (peek : Bool) :
    s.reachUnnamed r a peek = s := by
  rcases ho with hd | ⟨k, hd, ho⟩
  · simp only [State.intDom, if_pos ha, hx] at hd
    simp [State.reachUnnamed, hd]
  · have hd' : s.intDom r a = some k := by simpa only [State.intDom, if_pos ha, hx] using hd
    rw [State.reachUnnamed_intDom peek ha hx hd', ho.reach]

/-- R412: a peek of an address that names no register. -/
theorem State.chainPeek_nameless (ha : a < 2 ^ 32) (hm : msixAt a = none) (hx : regAt a = none) :
    (s.chainPeek a).1.getD 0 = 0 ∧ (s.live = false ∨ s.OpenAt a → s.chainPeek a = (some 0, s)) := by
  unfold State.chainPeek
  simp only [if_pos ha]
  cases hl : s.live with
  | false => simp [hm, hx]
  | true =>
    cases hd : s.intDom .chain a with
    | none =>
      have ho : s.reachUnnamed .chain a true = s := State.OpenAt.reachUnnamed (.inl hd) ha hx ..
      simp [State.accRead_nameless, hm, hx, ho]
    | some k =>
      refine ⟨?_, fun ho => ?_⟩
      · cases hr : (s.reach .chain k true).1 <;> simp [hr, State.accRead_nameless, hm, hx]
      · obtain ⟨j, hj, ho⟩ := (ho.resolve_left nofun).resolve_left (by rw [hd]; nofun)
        obtain rfl : k = j := by simpa [hd] using hj
        have hu : s.reachUnnamed .chain a true = s := State.OpenAt.reachUnnamed (.inr ⟨k, hd, ho⟩) ha hx ..
        simp [ho.reach, State.accRead_nameless, hm, hx, hu]

/-- R412: what a window answers to a read of an address that names no register. -/
theorem State.hostWordOut_zero (s : State) (h : Fin 2) (hc : (s.hst h).cpls = []) :
    ((s.tlp h).hostWordOut h 0).out = .barData h 0 false :: s.out := by
  have hc' : ((s.tlp h).hst h).cpls = [] := by rw [State.hst_tlp]; exact hc
  unfold State.hostWordOut State.cplPut
  rw [hc']
  rfl

/-- Settles O43: such an access reaches at most the domain that holds the address, and an open one is left alone. -/
theorem namelessAddresses : Obligations.NamelessAddresses := by
  intro s a ha h4 hm hx
  obtain ⟨hpeek, hopen⟩ := State.chainPeek_nameless (s := s) ha hm hx
  refine ⟨hpeek, hopen, fun r v hon => ⟨s.reachUnnamed r a false, fun ho => State.OpenAt.reachUnnamed ho ha hx r false,
    (State.reachUnnamed_writes ..).same .flt (by decide), fun h => s.reachUnnamed_pciUnmapped r a false h,
    becomes_nameless r v hon ha h4 hm hx⟩, fun h off peek v hv he hoff hoff4 hb hw ho => ?_⟩
  have hp := State.pathOk_bar0 hv hoff
  have hw' : (s.tlp h).window h off = some (a, peek) := hw
  have ho' : (s.tlp h).OpenAt a := ho
  have hread : s.readPath (.bar0 h off) = (s.tlp h).hostWordOut h 0 := by
    simp [State.readPath, State.bar_claimed _ _ he, State.bar0Read, hb, hw', h4, State.accRead_nameless _ hm hx,
      ho'.reachUnnamed ha hx]
  have hwrite : s.writePath (.bar0 h off) v = s.tlp h := by
    simp [State.writePath, State.bar_claimed _ _ he, State.bar0Write, hb, hw', h4, State.accWrite_nameless _ hm hx,
      ho'.reachUnnamed ha hx]
  exact ⟨hwrite ▸ becomes_registerWrite v hp, hread ▸ becomes_counterReadClear hp, hread ▸ becomes_lowWordLatch hp,
    s.hostWordOut_zero h⟩

end Sys2Proof.Machine
end

section
/-! PROOFS of the family 15_chain_freeze_debug: operations on one thread. -/

namespace Sys2Proof.Machine

open Sys2Proof

set_option Elab.async false

/-! ### A field set in a word -/

/-- A field takes its value, and the bits beside it stay. -/
theorem bit_setFld (w : Word) {hi lo v i : Nat} (hi' : i < 32) :
    bit (setFld w hi lo v) i = if lo ≤ i ∧ i ≤ hi then v.testBit (i - lo) else bit w i := by
  have hnot (x : Word) : bit (~~~ x) i = ! bit x i := by simp [bit, hi']
  have hand (a b : Word) : bit (a &&& b) i = (bit a i && bit b i) := BitVec.getLsbD_and
  have hones : (2 ^ (hi + 1 - lo) - 1).testBit (i - lo) = decide (i - lo < hi + 1 - lo) :=
    Nat.testBit_two_pow_sub_one ..
  rw [setFld, bit_or, hand, hnot, bit_put, bit_put, hones]
  by_cases h : lo ≤ i ∧ i ≤ hi
  · have hin : i - lo < hi + 1 - lo := by omega
    simp [h, hi', hin]
  · rw [if_neg h]
    have hout : ¬ (lo ≤ i ∧ i - lo < hi + 1 - lo) := by omega
    by_cases hlo : lo ≤ i
    · have hfar : ¬ i - lo < hi + 1 - lo := fun x => hout ⟨hlo, x⟩
      simp [hfar]
    · simp [hlo]

/-- A field below the one set. -/
theorem fld_setFld_below (w : Word) {hi lo v hi' lo' : Nat} (hlo : lo < 32) (h : hi' < lo) :
    fld (setFld w hi lo v) hi' lo' = fld w hi' lo' :=
  fld_eq_of_bits (fld_lt w hi' lo') fun i hi => by
    rw [bit_setFld w (by omega), if_neg (by omega), testBit_fld hi]

/-! ### The word that starts an operation (R397) -/

section
variable (v : Word) {op : Nat}

theorem bit_dbgWord (h : op < 5) : bit (dbgWord op v) 31 = true := by
  rw [dbgWord, bit_setFld v (by decide), if_pos (by decide)]
  interval_cases op <;> rfl

theorem fld_dbgWord_op (h : op < 5) : fld (dbgWord op v) 30 28 = op :=
  fld_eq_of_bits (h.trans (by decide)) fun i hi => by
    rw [dbgWord, bit_setFld v (by omega), if_pos (by omega), Nat.add_sub_cancel_left]
    interval_cases op <;> interval_cases i <;> rfl

theorem fld_dbgWord (op : Nat) {hi lo : Nat} (h : hi < 28) : fld (dbgWord op v) hi lo = fld v hi lo :=
  fld_setFld_below v (by decide) h

/-- R397: the thread that the word names. -/
def dbgKey : Nat := thrKey (fld v 25 20) (fld v 19 15) (fld v 14 12)

theorem dbgTargets_dbgWord (op : Nat) (h : fld v 27 26 = 0) : dbgTargets (dbgWord op v) = [dbgKey v] := by
  simp [dbgTargets, fld_dbgWord, h, dbgKey]

theorem dbgTargetOk_dbgWord (s : State) (op : Nat) : s.dbgTargetOk (dbgWord op v) = s.dbgTargetOk v := by
  simp [State.dbgTargetOk, fld_dbgWord]

end

/-! ### A write of DBG_CMD that names one thread (R397, R398) -/

section
variable {s : State} {r : Req} {v : Word} {op : Nat}

theorem State.dbgOp_setDbgOp (s : State) (r : Req) (x : DbgOp) : (s.setDbgOp r x).dbgOp r = x := by
  simp [State.dbgOp, State.setDbgOp]

theorem State.dbgOp_dbgAct (s : State) (op no : Nat) (ks : List Nat) (r : Req) :
    (s.dbgAct op no ks).dbgOp r = s.dbgOp r := by
  have hdbg : (s.dbgAct op no ks).dbg = s.dbg := (State.dbgAct_writes ..).same .dbg (by decide)
  rw [State.dbgOp, hdbg, State.dbgOp]

/-- R397: an operation that nothing refuses runs on the thread, and its result is good. -/
theorem State.writeDbg_runs (hf : s.fuses.debug = false) (hb : s.dbgBusy r = false) (hz : s.frz.frozen = false)
    (hsc : fld v 27 26 = 0) (ht : s.dbgTargetOk v = true) (hop : op < 5)
    (hh : 2 ≤ op → (s.thr (dbgKey v)).st = .halted) :
    ∃ (u : State) (no : Nat), u.threads = s.threads ∧
      ((s.writeDbg r (dbgWord op v)).thr (dbgKey v) = (u.dbgAct op no [dbgKey v]).thr (dbgKey v)) ∧
      ((s.writeDbg r (dbgWord op v)).dbgOp r).result = 0 := by
  have hres (x : DbgOp) : (s.setDbgOp r x).dbgResult (dbgWord op v) = 0 := by
    have hz' : (s.setDbgOp r x).frz.frozen = false := hz
    have ht' : (s.setDbgOp r x).dbgTargetOk v = true := ht
    have hthr : (s.setDbgOp r x).thr = s.thr := rfl
    have hnot : ¬ (2 ≤ op ∧ (s.thr (dbgKey v)).st ≠ .halted) := fun h => h.2 (hh h.1)
    simp [State.dbgResult, hz', fld_dbgWord_op v hop, fld_dbgWord, hsc, dbgTargetOk_dbgWord, ht', hthr,
      dbgTargets_dbgWord v op hsc, Nat.not_lt.mpr (Nat.le_of_lt_succ hop)]
    exact hh
  unfold State.writeDbg
  rw [if_neg (by simp [hf])]
  extract_lets busy _ s1 res no _ s2 s3
  have hbusy : busy = false := by simp [busy, hb]
  have hres0 : res = 0 := hres _
  have hgo : (decide (res = 0) || decide (res = 2)) = true := by rw [hres0]; rfl
  rw [hbusy, bit_dbgWord v hop, if_neg (by decide), if_pos hgo]
  refine ⟨s2, no, rfl, ?_, ?_⟩
  · show s3.thr _ = _
    simp only [s3, fld_dbgWord_op v hop, dbgTargets_dbgWord v op hsc]
  · rw [State.dbgOp_setDbgOp]
    show (s3.dbgOp r).result = 0
    simp only [s3]
    rw [State.dbgOp_dbgAct]
    simp only [s2]
    rw [State.dbgOp_setDbgOp]
    exact hres0

end

/-! ### What an operation makes of the thread (R398) -/

section
variable {s : State} {k no : Nat}

theorem State.thr_of_threads {s t : State} (h : t.threads = s.threads) (k : Nat) : t.thr k = s.thr k := by
  rw [State.thr, h, State.thr]

/-- R398: HALT of a thread that holds no lock line. -/
theorem State.haltThread_st (h : (s.thr k).lock = none) : ((s.haltThread k no).thr k).st = .halted := by
  unfold State.haltThread
  dsimp only
  split
  · assumption
  · rw [if_neg (by simp [h]), State.thr_setThr, if_pos rfl]

/-- R132: a thread whose lock line is broken holds none. -/
theorem State.breakLock_lock (s : State) (k : Nat) : ((s.breakLock k).thr k).lock = none := by
  unfold State.breakLock
  dsimp only
  split
  · assumption
  · rw [State.thr_setThr, if_pos rfl]

/-- R398: RESUME of a thread that awaits nothing. -/
theorem State.resumeThread_thr (hp : (s.thr k).prior ≠ .idle) (ha : (s.thr k).await = 0) (hw : (s.thr k).want = none)
    (hf : (s.thr k).full = false) (hr : (s.thr k).haltReq = false) (hs : (s.thr k).stepping = 0) :
    ((s.resumeThread k).thr k).st = .run ∧ ((s.resumeThread k).thr k).pc = (s.thr k).pc := by
  unfold State.resumeThread State.putThr
  rw [State.thr_setThr, if_pos rfl]
  simp [Thread.settle, hp, ha, hw, hf, hr, hs]

/-- R398: STEP of a thread that awaits nothing. -/
theorem State.stepThread_thr (hp : (s.thr k).prior ≠ .idle) (ha : (s.thr k).await = 0) (hw : (s.thr k).want = none)
    (hf : (s.thr k).full = false) (hr : (s.thr k).haltReq = false) :
    ((s.stepThread k no).thr k).st = .run ∧ ((s.stepThread k no).thr k).stepping = 1 ∧
      ((s.stepThread k no).thr k).pc = (s.thr k).pc := by
  unfold State.stepThread State.putThr
  dsimp only
  rw [if_neg hp, State.thr_setThr, if_pos rfl]
  simp [Thread.settle, ha, hw, hf, hr]

/-- R398: ABORT_PKT, which the loss of the packet leaves as it was. -/
theorem State.abortThread_thr (s : State) (k : Nat) :
    ((s.abortThread k).thr k).st = .idle ∧ ((s.abortThread k).thr k).pkt = none := by
  have hset (u : State) (t : Thread) :
      ((u.setThr k t.idle).thr k).st = .idle ∧ ((u.setThr k t.idle).thr k).pkt = none := by
    rw [State.thr_setThr, if_pos rfl]
    exact ⟨rfl, rfl⟩
  unfold State.abortThread
  dsimp only
  split
  · rw [State.thr_of_threads ((State.handDrop_writes ..).same .threads (by decide))]
    exact hset ..
  · exact hset ..

end

/-- Settles O56: a write of DBG_CMD runs its operation on the thread that it names, and HALT_MAX aborts it. -/
theorem debugging : Obligations.Debugging := by
  refine ⟨fun s r v hon hd hb hz hsc ht => ?_, fun s c e th hon hst hp hm ht => ?_⟩
  · have hrun {i : Instr} {op : Nat} (hi : exec i s = act s.regOn (fun s => s.writeDbg r (dbgWord op v)) s)
        (hop : op < 5) (hh : 2 ≤ op → (s.thr (dbgKey v)).st = .halted) :
        ∃ (u : State) (no : Nat), u.thr (dbgKey v) = s.thr (dbgKey v) ∧ Completes i s fun t =>
          t.thr (dbgKey v) = (u.dbgAct op no [dbgKey v]).thr (dbgKey v) ∧ (t.dbgOp r).result = 0 := by
      obtain ⟨u, no, hu, hthr, hres⟩ := State.writeDbg_runs hd hb hz hsc ht hop hh
      refine ⟨u, no, State.thr_of_threads hu _, (becomes_of_act hi hon).completes ⟨?_, ?_⟩⟩
      · rw [State.thr_intSweep, hthr]
      · rwa [State.dbgOp, State.intSweep_dbg]
    refine ⟨fun hl => ?halt, ?force, fun hst hprior ha hw hfull hr hs => ⟨?resume, ?step⟩, fun hst => ?abort⟩
    case halt =>
      obtain ⟨u, no, hu, t, ht, hthr, hres⟩ := hrun (i := .halt r v) (op := 0) rfl (by decide) nofun
      exact ⟨t, ht, (congrArg Thread.st hthr).trans (State.haltThread_st (hu ▸ hl)), hres⟩
    case force =>
      obtain ⟨u, no, -, t, ht, hthr, hres⟩ := hrun (i := .forceHalt r v) (op := 1) rfl (by decide) (by omega)
      exact ⟨t, ht, (congrArg Thread.st hthr).trans (State.haltThread_st (State.breakLock_lock ..)), hres⟩
    case resume =>
      obtain ⟨u, no, hu, t, ht, hthr, -⟩ := hrun (i := .resume r v) (op := 2) rfl (by decide) fun _ => hst
      have hhalted : (u.thr (dbgKey v)).st = .halted := hu ▸ hst
      have hact : u.dbgAct 2 no [dbgKey v] = u.resumeThread (dbgKey v) := by simp [State.dbgAct, hhalted]
      obtain ⟨hrun, hpc⟩ := State.resumeThread_thr (s := u) (k := dbgKey v) (hu ▸ hprior) (hu ▸ ha) (hu ▸ hw)
        (hu ▸ hfull) (hu ▸ hr) (hu ▸ hs)
      rw [hact] at hthr
      exact ⟨t, ht, (congrArg Thread.st hthr).trans hrun, (congrArg Thread.pc hthr).trans (hpc.trans (congrArg _ hu))⟩
    case step =>
      obtain ⟨u, no, hu, t, ht, hthr, -⟩ := hrun (i := .step r v) (op := 3) rfl (by decide) fun _ => hst
      have hhalted : (u.thr (dbgKey v)).st = .halted := hu ▸ hst
      have hact : u.dbgAct 3 no [dbgKey v] = u.stepThread (dbgKey v) no := by simp [State.dbgAct, hhalted]
      obtain ⟨hrun, hone, hpc⟩ := State.stepThread_thr (s := u) (k := dbgKey v) (no := no) (hu ▸ hprior) (hu ▸ ha)
        (hu ▸ hw) (hu ▸ hfull) (hu ▸ hr)
      rw [hact] at hthr
      exact ⟨t, ht, (congrArg Thread.st hthr).trans hrun, (congrArg Thread.stepping hthr).trans hone,
        (congrArg Thread.pc hthr).trans (hpc.trans (congrArg _ hu))⟩
    case abort =>
      obtain ⟨u, no, hu, t, ht, hthr, -⟩ := hrun (i := .abortPkt r v) (op := 4) rfl (by decide) fun _ => hst
      have hhalted : (u.thr (dbgKey v)).st = .halted := hu ▸ hst
      have hact : u.dbgAct 4 no [dbgKey v] = u.abortThread (dbgKey v) := by simp [State.dbgAct, hhalted]
      rw [hact] at hthr
      obtain ⟨hidle, hpkt⟩ := u.abortThread_thr (dbgKey v)
      exact ⟨t, ht, (congrArg Thread.st hthr).trans hidle, (congrArg Thread.pkt hthr).trans hpkt⟩
  · refine (becomes_of_act (i := .haltMaxExpiry c e th)
      (f := fun s => s.abortThread (thrKey c e th)) rfl ?_).completes ?_
    · simpa [hon, hst, ht, Option.isSome_iff_ne_none.mpr hp] using hm
    · rw [State.thr_intSweep]
      exact s.abortThread_thr _

end Sys2Proof.Machine
end

section
/-! PROOFS of the family 15_chain_freeze_debug: the freeze, its clock stop, the read-out, the image and the blow. -/

namespace Sys2Proof.Machine

open Sys2Proof

set_option Elab.async false

/-! ### The jobs of the chain unit (R407-R409) -/

/-- What the chain unit is about: a read-out, a copy of the image, a blow. -/
structure Chain.Jobs where
  readout : Option (Nat × Nat × List (Nat × Nat))
  imaging : Option (List Word)
  blowing : Option (List Word)

def State.chainJobs (s : State) : Chain.Jobs := ⟨s.chain.readout, s.chain.imaging, s.chain.blowing⟩

theorem State.chainFlush_chainJobs (s : State) : s.chainFlush.chainJobs = s.chainJobs := by
  unfold State.chainFlush
  exact ite_same State.chainJobs _ _ _ s
    (foldl_same State.chainJobs (fun st f => st.emit (.chain f)) (fun _ _ => rfl) _ _) rfl

theorem State.reply_chainJobs (s : State) (f : List Word) (st : Nat) (d : List Word) :
    (s.reply f st d).chainJobs = s.chainJobs :=
  State.chainFlush_chainJobs _

theorem State.chainQueue_chainJobs (s : State) (q : List (List Word)) : (s.chainQueue q).chainJobs = s.chainJobs := by
  induction q generalizing s with
  | nil => rfl
  | cons f q ih =>
    unfold State.chainQueue
    split
    · exact (ih _).trans (s.reply_chainJobs ..)
    · rfl

theorem State.ownPop_chainJobs (s : State) : s.ownPop.chainJobs = s.chainJobs := s.chainQueue_chainJobs _

theorem State.forwardAll_chainJobs (s : State) (q : List (List Word)) : (s.forwardAll q).chainJobs = s.chainJobs := by
  induction q generalizing s with
  | nil => exact State.chainFlush_chainJobs _
  | cons f q ih =>
    unfold State.forwardAll
    exact ite_same State.chainJobs _ _ _ s rfl (ih _)

theorem State.chainPop_chainJobs (s : State) : s.chainPop.chainJobs = s.chainJobs :=
  ite_same State.chainJobs _ _ _ s s.ownPop_chainJobs (s.forwardAll_chainJobs _)

/-! ### A freeze (R402-R405) -/

/-- R402, R403: what a device shows that has just frozen. -/
structure State.Froze (s t : State) (origin : Nat) (drives : Bool) : Prop where
  frozen : t.frz.frozen = true
  running : t.frz.stopped = false
  origin : t.frz.origin = origin
  time : t.frz.time = BitVec.ofNat 64 s.now
  drives : t.frz.drives = drives
  tbl : t.tbl = s.tbl

theorem State.bump_emit_frz (s : State) (n : RegName) (k j c : Nat) (o : Out) : ((s.bump n k j c).emit o).frz = s.frz :=
  (State.bump_writes s n k j c).same .frz (by decide)

/-- R403: what a live device latches as it freezes; breaking off frames and locked sequences leaves it as it is. -/
theorem State.freezeLatch_frz {s : State} (hl : s.live = true) (origin source event : Nat) (drives : Bool) :
    ∃ ok, (s.freezeLatch origin source event drives).frz = { s.frz with
      frozen := true, stopped := false, origin := origin, source := source, event := event,
      time := BitVec.ofNat 64 s.now, at_ := s.mono, drives := drives,
      frzEn := s.frzArea.isSome, frzOk := ok } := by
  unfold State.freezeLatch
  rw [if_neg (by simpa [State.live] using hl)]
  extract_lets area ok
  refine ⟨ok, ?_⟩
  refine (foldl_same State.frz _ (fun _ _ => (State.dramFreeze_writes ..).same .frz (by decide)) _ _).trans ?_
  refine (foldl_same State.frz _ (fun _ _ => (State.breakLock_writes ..).same .frz (by decide)) _ _).trans ?_
  refine (foldl_same State.frz _ (fun _ (e : Nat × List Picked) => foldl_same State.frz _ (fun u _ => ?_) e.2 _)
    _ _).trans rfl
  split
  · exact ite_same State.frz _ _ _ _ (State.bump_emit_frz ..) rfl
  · rfl

/-- R402, R403: a live device latches the freeze. -/
theorem State.freezeLatch_froze {s : State} (hl : s.live = true) (origin source event : Nat) (drives : Bool) :
    s.Froze (s.freezeLatch origin source event drives) origin drives := by
  obtain ⟨ok, hf⟩ := State.freezeLatch_frz hl origin source event drives
  exact ⟨by rw [hf], by rw [hf], by rw [hf], by rw [hf], by rw [hf],
    (State.freezeLatch_writes ..).same .tbl (by decide)⟩

/-- R402: so it is where the chain unit has only answered or passed on a command. -/
theorem State.Froze.after {s u t : State} {n : Nat} {d : Bool} (h : u.Froze t n d) (htime : u.time = s.time)
    (htbl : u.tbl = s.tbl) : s.Froze t n d := by
  obtain ⟨hf, hr, ho, ht, hd, hx⟩ := h
  exact ⟨hf, hr, ho, by rw [ht, State.now, htime, State.now], hd, hx.trans htbl⟩

theorem State.Froze.completes {i : Instr} {s t : State} {n : Nat} {d : Bool} (h : s.Froze t n d) (hb : Becomes i s t) :
    Completes i s fun t => t.frz.frozen = true ∧ t.frz.stopped = false ∧ t.frz.origin = n ∧
      t.frz.time = BitVec.ofNat 64 s.now ∧ t.frz.drives = d ∧ t.tbl = s.tbl := by
  obtain ⟨hf, hr, ho, ht, hd, hx⟩ := h
  refine hb.completes ?_
  rw [State.intSweep_frz, State.intSweep_tbl]
  exact ⟨hf, hr, ho, ht, hd, hx⟩

/-- R402: FREEZE from the chain, to every unit or to this one. -/
theorem State.chainFreeze_froze {s : State} (hl : s.live = true) (hd : frmDest s.chainReq = 0 ∨ frmLen s.chainReq = 0) :
    s.Froze s.chainFreeze 2 true := by
  unfold State.chainFreeze
  have hstep {u : State} (h : s.Writes [.chain, .out] u) : s.Froze (u.freezeLatch 2 0 0 true) 2 true :=
    have hlu : u.live = true := by rw [State.live, h.same .frz (by decide)]; exact hl
    (State.freezeLatch_froze hlu 2 0 0 true).after (h.same .time (by decide)) (h.same .tbl (by decide))
  by_cases hall : frmDest s.chainReq = 0
  · rw [if_pos hall]
    exact hstep (State.passOn_writes ..)
  · have hbare : frmBare s.chainReq = true := by simpa [frmBare] using hd.resolve_left hall
    rw [if_neg hall, if_pos hbare]
    exact hstep (State.answer_writes ..)

/-- R404: a write of CHN_FRZ_CTL with ASSERT 1 and its KEY. -/
theorem State.assert_froze {s : State} (hl : s.live = true) (v : Word) :
    s.Froze (s.writeFrzCtl (setFld (v ||| flag 31 true) 7 0 0xF2)) 3 true := by
  have hgo : bit (setFld (v ||| flag 31 true) 7 0 0xF2) 31 = true := by
    rw [bit_setFld _ (by decide), if_neg (by decide), bit_or_flag v (by decide)]
  have hkey : fld (setFld (v ||| flag 31 true) 7 0 0xF2) 7 0 = 0xF2 :=
    fld_eq_of_bits (by decide) fun i hi => by
      rw [bit_setFld _ (by omega), if_pos (by omega), Nat.add_sub_cancel_left]
  unfold State.writeFrzCtl
  simp only [hgo, hkey]
  have hs : s.Writes [.held] (s.setRg .chnFrzCtl 0 0 (setFld (v ||| flag 31 true) 7 0 0xF2 &&& 0x40000000)) :=
    State.setRg_writes ..
  exact (State.freezeLatch_froze (by exact hl) 3 0 0 true).after (hs.same .time (by decide)) (hs.same .tbl (by decide))

/-! ### The clock stop, the read-out, the image and the blow (R405, R407-R409) -/

theorem State.stopClocks_frz (s : State) :
    s.stopClocks.frz = { s.frz with stopped := true, freeAt := s.free } := rfl

/-- R409: a blow sets the bit its command names, and no other. -/
theorem State.blowDone_fuses {s : State} {g : List Word} (h : s.chain.blowing = some g) :
    s.blowDone.fuses =
      if fld (frmData g 0) 1 0 = 1 then { s.fuses with payload := true } else { s.fuses with debug := true } := by
  unfold State.blowDone
  rw [h]
  exact Eq.trans ((State.ownPop_writes ..).same .fuses (by decide)) ((State.reply_writes ..).same .fuses (by decide))

theorem State.blowDone_blowing {s : State} {g : List Word} (h : s.chain.blowing = some g) :
    s.blowDone.chain.blowing = none := by
  unfold State.blowDone
  rw [h]
  exact congrArg Chain.Jobs.blowing ((State.ownPop_chainJobs _).trans (State.reply_chainJobs ..))

theorem State.imageDone_imaging {s : State} {g : List Word} (h : s.chain.imaging = some g) :
    s.imageDone.chain.imaging = none := by
  unfold State.imageDone
  rw [h]
  have hjobs := congrArg Chain.Jobs.imaging ((State.ownPop_chainJobs _).trans (State.reply_chainJobs
    (({ s with chain := { s.chain with imaging := none } } : State).imageCopy (frmData g 0)) g 0 []))
  refine hjobs.trans ?_
  exact congrArg Chain.imaging ((State.imageCopy_writes ..).same .chain (by decide))

/-- R407: a mask of sections begins the read-out, with the marker section before them. -/
theorem State.readoutCmd_readout {s : State} (hd : s.fuses.debug = false) (hlen : frmLen s.chainReq = 1)
    (hl : s.live = false) (hm : frmData s.chainReq 0 ≠ 0) :
    s.readoutCmd.chain.readout =
      some ((wAt s.chainReq 0).toNat + (frmData s.chainReq 0).toNat * 2 ^ 32, 0,
        (0, 1) :: s.sections (frmData s.chainReq 0)) := by
  unfold State.readoutCmd
  simp only [hd, hlen, hl, if_neg hm, Bool.false_eq_true, if_false, ne_eq, not_true]
  exact congrArg Chain.Jobs.readout (State.chainPop_chainJobs _)

/-- R407: a burst of a section that has more leaves the rest of it to read. -/
theorem State.nextBurst_readout {s : State} {key n sec len : Nat} {l : List (Nat × Nat)}
    (h : s.chain.readout = some (key, n, (sec, len) :: l)) (hn : n + 1 < len) :
    s.nextBurst.chain.readout = some (key, n + 1, (sec, len) :: l) := by
  unfold State.nextBurst
  rw [h]
  exact if_pos hn

theorem State.imageCmd_of_enabled {s : State} (hd : s.fuses.debug = false) (hlen : frmLen s.chainReq = 1)
    (hl : s.live = false) (he : s.frz.frzEn = true) (ho : s.frz.frzOk = true) :
    s.imageCmd = { s with chain := { s.chain with imaging := some s.chainReq } } := by
  unfold State.imageCmd
  simp only [hd, hlen, hl, he, ho, Bool.false_eq_true, if_false, ne_eq, not_true, Bool.not_true, Bool.or_self]

theorem State.blowCmd_of_key {s : State} (hlen : frmLen s.chainReq = 1)
    (hkey : fld (frmData s.chainReq 0) 31 24 = 0xB7)
    (hfuse : fld (frmData s.chainReq 0) 1 0 = 1 ∨ fld (frmData s.chainReq 0) 1 0 = 2) :
    s.blowCmd = { s with chain := { s.chain with blowing := some s.chainReq } } := by
  unfold State.blowCmd
  exact if_pos (by simpa [hlen, hkey] using hfuse)

/-- Settles O55. -/
theorem frozenDevice : Obligations.FrozenDevice := by
  unfold Obligations.FrozenDevice
  refine ⟨fun s hl => ⟨fun hh hd => ?_, fun r v hr => ?_, fun hh hb => ?_⟩, fun s hf hs ht => ?_, fun s hd => ?_,
    fun s => ⟨fun hh hn hd hlen hl hw => ?_, fun key n sec len l h hn => ?_, fun hh hn hd hlen hl he ho => ?_,
      fun g h => ?_, fun hh hn hlen hkey hfuse => ?_, fun g h => ?_⟩⟩
  · exact (State.chainFreeze_froze hl hd).completes
      (becomes_of_act (i := .freeze) (f := fun s => s.chainFreeze) rfl hh)
  · exact (State.assert_froze hl v).completes (becomes_of_act (i := .assert r v)
      (f := fun s => s.writeFrzCtl (setFld (v ||| flag 31 true) 7 0 0xF2)) rfl hr)
  · exact (State.freezeLatch_froze hl 4 0 0 false).completes
      (becomes_of_act (i := .freezeNLow) (f := fun s => s.freezeLatch 4 0 0 false) rfl (by simp [hl, hh, hb]))
  · refine (becomes_of_act (i := .clockStop) (f := fun s => s.stopClocks) rfl (by simp [hf, hs, ht])).completes ?_
    rw [State.intSweep_frz, State.intSweep_held, State.intSweep_tbl]
    exact ⟨s.stopClocks_frz, (State.stopClocks_writes ..).same .held (by decide),
      (State.stopClocks_writes ..).same .tbl (by decide)⟩
  · exact becomes_of_act (i := .freezeNHigh) (f := fun s => { s with frz := { s.frz with honour := true } }) rfl
      (by simp [hd])
  · refine (becomes_of_act (i := .readout) (f := fun s => s.readoutCmd) rfl (by simp [hh, hn])).completes ?_
    rw [State.intSweep_chain, State.intSweep_frz]
    exact ⟨State.readoutCmd_readout hd hlen hl hw, (State.readoutCmd_writes ..).same .frz (by decide)⟩
  · refine (becomes_of_act (i := .readoutBurst) (f := fun s => s.nextBurst) rfl (by simp [h])).completes ?_
    rw [State.intSweep_chain, State.intSweep_frz, State.intSweep_tbl]
    exact ⟨State.nextBurst_readout h hn, (State.nextBurst_writes ..).same .frz (by decide),
      (State.nextBurst_writes ..).same .tbl (by decide)⟩
  · refine (becomes_of_act (i := .image) (f := fun s => s.imageCmd) rfl (by simp [hh, hn])).completes ?_
    rw [State.intSweep_chain, State.intSweep_dram, State.imageCmd_of_enabled hd hlen hl he ho]
    exact ⟨rfl, rfl⟩
  · refine (becomes_of_act (i := .imageCopyDone) (f := fun s => s.imageDone) rfl (by simp [h])).completes ?_
    rw [State.intSweep_chain, State.intSweep_frz, State.intSweep_tbl]
    exact ⟨State.imageDone_imaging h, (State.imageDone_writes ..).same .frz (by decide),
      (State.imageDone_writes ..).same .tbl (by decide)⟩
  · refine (becomes_of_act (i := .blow) (f := fun s => s.blowCmd) rfl (by simp [hh, hn])).completes ?_
    rw [State.intSweep_chain, State.intSweep_fuses, State.blowCmd_of_key hlen hkey hfuse]
    exact ⟨rfl, rfl⟩
  · refine (becomes_of_act (i := .fuseBlown) (f := fun s => s.blowDone) rfl (by simp [h])).completes ?_
    rw [State.intSweep_chain, State.intSweep_fuses]
    exact ⟨State.blowDone_blowing h, State.blowDone_fuses h⟩

end Sys2Proof.Machine
end

section
/-! PROOFS of the family 14_power_clocks_reset: the shades of the power domains, their steps and their resets. -/

namespace Sys2Proof.Machine

open Sys2Proof

set_option Elab.async false

/-! ### The next shade on the way (R370, R371) -/

theorem Shade.code_le (x : Shade) : x.code ≤ 4 := by cases x <;> decide

theorem Shade.code_of_ofCode {n : Nat} {x : Shade} (h : Shade.ofCode n = some x) : x.code = n := by
  unfold Shade.ofCode at h
  split at h <;> cases h <;> rfl

/-- R370: on the way up, or at its goal, a domain takes no step down. -/
theorem nextShade_code_lt {k a b : Nat} {x : Shade} (h : nextShade k a b = some x) (hba : b ≤ a) : x.code < a := by
  unfold nextShade at h
  rw [if_neg (by omega)] at h
  split at h
  · obtain ⟨i, -, hi⟩ := List.exists_of_findSome?_eq_some h
    split at hi
    next hlt =>
      obtain ⟨hia, -⟩ : i < a ∧ b ≤ i := by simpa using hlt
      exact (Shade.code_of_ofCode (Option.filter_eq_some_iff.mp hi).1).trans_lt hia
    next => cases hi
  · cases h

/-! ### The beginning of a step (R371-R373) -/

/-- R373: the domain of a step that is refused. -/
def Domain.refuse (d : Domain) : Domain :=
  { d with target := d.shade, refused := true, moving := false, step := none, woken := none }

theorem Domain.settleMove_shade (d : Domain) : d.settleMove.shade = d.shade := by
  unfold Domain.settleMove
  split <;> rfl

theorem Domain.settleMove_target (d : Domain) : d.settleMove.target = d.target := by
  unfold Domain.settleMove
  split <;> rfl

theorem Domain.settleMove_refused (d : Domain) : d.settleMove.refused = d.refused := by
  unfold Domain.settleMove
  split <;> rfl

theorem Domain.settleMove_moving {d : Domain} (h : d.resetting = false) :
    d.settleMove.moving = decide (d.shade ≠ d.target) := by
  unfold Domain.settleMove Domain.goal
  split <;> simp [h]

/-- R371-R373: what the beginning of a step makes of its domain: nothing, the end of the move, a refusal where the
domain may not leave, or a step. -/
inductive State.Begun (s : State) (k : Nat) : Domain → Prop
  | stays : s.Begun k (s.dmn k)
  | settles (hs : (s.dmn k).step = none) : s.Begun k (s.dmn k).settleMove
  | refuses (x : Shade) (hn : nextShade k (s.dmn k).shade.code (s.dmn k).goal.code = some x)
      (hd : (s.dmn k).shade.code < x.code) (hl : s.mayLeave k = false) (hm : (s.dmn k).moving = true) :
      s.Begun k (s.dmn k).refuse
  | begins (x : Shade) : s.Begun k { s.dmn k with step := some x }

theorem State.stepBegin_begun (s : State) (k : Nat) : s.Begun k ((s.stepBegin k).dmn k) := by
  unfold State.stepBegin
  dsimp only
  split
  · exact .stays
  next hm =>
    obtain ⟨hmove, hstep⟩ : (s.dmn k).moving = true ∧ (s.dmn k).step = none := by simpa using hm
    split
    · rw [State.dmn_setDmn, if_pos rfl]
      exact .settles hstep
    next x hn =>
      split
      next hd =>
        split
        next hl =>
          rw [State.refuseStep, State.dmn_setDmn, if_pos rfl]
          exact .refuses x hn hd (by simpa using hl) hmove
        next =>
          split
          · exact .stays
          · rw [State.dmn_setDmn, if_pos rfl]
            exact .begins x
      next =>
        split
        · exact .stays
        · rw [State.dmn_setDmn, if_pos rfl]
          exact .begins x

theorem State.stepBegin_dmn_of_ne (s : State) {k j : Nat} (h : j ≠ k) : (s.stepBegin k).dmn j = s.dmn j := by
  have hset (d : Domain) : (s.setDmn k d).dmn j = s.dmn j := by rw [State.dmn_setDmn, if_neg h]
  unfold State.stepBegin
  refine ite_same (State.dmn · j) _ _ _ _ rfl ?_
  split
  · exact hset _
  · exact ite_same (State.dmn · j) _ _ _ _ (ite_same (State.dmn · j) _ _ _ _ (hset _)
      (ite_same (State.dmn · j) _ _ _ _ rfl (hset _))) (ite_same (State.dmn · j) _ _ _ _ rfl (hset _))

theorem State.Begun.shade_eq {s : State} {k : Nat} {e : Domain} (h : s.Begun k e) : e.shade = (s.dmn k).shade := by
  cases h with
  | settles _ => exact (s.dmn k).settleMove_shade
  | stays | refuses | begins => rfl

theorem State.Begun.target_eq {s : State} {k : Nat} {e : Domain} (h : s.Begun k e)
    (hl : (s.dmn k).moving = true → ∀ x, nextShade k (s.dmn k).shade.code (s.dmn k).goal.code = some x →
      (s.dmn k).shade.code < x.code → s.mayLeave k = true) : e.target = (s.dmn k).target := by
  cases h with
  | settles _ => exact (s.dmn k).settleMove_target
  | refuses x hn hd hno hm => exact absurd (hl hm x hn hd) (by simp [hno])
  | stays | begins => rfl

theorem State.Begun.refused {s : State} {k : Nat} {e : Domain} (h : s.Begun k e) (hr : (s.dmn k).refused = true) :
    e.refused = true := by
  cases h with
  | settles _ => exact (s.dmn k).settleMove_refused.trans hr
  | refuses => rfl
  | stays | begins => exact hr

/-- R373: MOVING, where it says whether the domain is elsewhere than its target, goes on to say so. -/
theorem State.Begun.moving_eq {s : State} {k : Nat} {e : Domain} (h : s.Begun k e) (hr : (s.dmn k).resetting = false)
    (hm : (s.dmn k).moving = ((s.dmn k).step.isSome || decide ((s.dmn k).shade ≠ (s.dmn k).target)))
    (hl : ∀ x, nextShade k (s.dmn k).shade.code (s.dmn k).goal.code = some x → (s.dmn k).shade.code < x.code →
      s.mayLeave k = true) : e.moving = (s.dmn k).moving := by
  cases h with
  | settles hs =>
    rw [Domain.settleMove_moving hr, hm, hs]
    exact (Bool.false_or _).symm
  | refuses x hn hd hno _ => exact absurd (hl x hn hd) (by simp [hno])
  | stays | begins => rfl

theorem State.stepBegin_shade (s : State) (k j : Nat) : ((s.stepBegin k).dmn j).shade = (s.dmn j).shade := by
  by_cases h : j = k
  · subst h
    exact (s.stepBegin_begun j).shade_eq
  · rw [s.stepBegin_dmn_of_ne h]

/-- R371: a domain in Black is refused no step. -/
theorem State.stepBegin_target_of_black {s : State} {k : Nat} (hk : (s.dmn k).shade = .black) (j : Nat) :
    ((s.stepBegin k).dmn j).target = (s.dmn j).target := by
  by_cases h : j = k
  · subst h
    refine (s.stepBegin_begun j).target_eq fun _ x _ hd => ?_
    rw [hk] at hd
    exact absurd x.code_le (by simpa [Shade.code] using hd)
  · rw [s.stepBegin_dmn_of_ne h]

theorem State.riseNext_shade (s : State) (j : Nat) : (s.riseNext.dmn j).shade = (s.dmn j).shade :=
  foldl_same (fun s : State => (s.dmn j).shade) (fun st k => if (st.dmn k).shade = .black then st.stepBegin k else st)
    (fun st k => ite_same (fun s : State => (s.dmn j).shade) _ _ _ st (st.stepBegin_shade k j) rfl) _ _

theorem State.riseNext_target (s : State) (j : Nat) : (s.riseNext.dmn j).target = (s.dmn j).target := by
  refine foldl_same (fun s : State => (s.dmn j).target)
    (fun st k => if (st.dmn k).shade = .black then st.stepBegin k else st) (fun st k => ?_) _ _
  by_cases h : (st.dmn k).shade = .black
  · simp only [if_pos h, State.stepBegin_target_of_black h]
  · simp only [if_neg h]

/-! ### The end of a step (R370-R373) -/

theorem State.Writes.dmn {s t : State} {l : List Part} (h : s.Writes l t) (j : Nat)
    (hl : .dom ∉ l := by decide) : t.dmn j = s.dmn j := by
  unfold State.dmn
  rw [h.same .dom hl]

theorem State.dmn_intSweep (s : State) (j : Nat) : s.intSweep.dmn j = s.dmn j := by
  rw [State.dmn, State.intSweep_dom, State.dmn]

theorem State.quadStep_dmn (s : State) (k j : Nat) : (s.quadStep k).dmn j = s.dmn j := (State.quadStep_writes ..).dmn j

theorem State.becomeActive_dmn (s : State) (k j : Nat) : (s.becomeActive k).dmn j = s.dmn j :=
  (State.becomeActive_writes ..).dmn j

theorem State.stepEnd_shade (s : State) (k : Nat) (x : Shade) : ((s.stepEnd k x).dmn k).shade = x := by
  unfold State.stepEnd
  rw [State.riseNext_shade, State.stepBegin_shade]
  split
  · rw [State.quadStep_dmn, State.dmn_setDmn, if_pos rfl, Domain.settleMove_shade]
  · refine (congrArg Domain.shade (ite_same (State.dmn · k) _ _ _ _ ?_ rfl)).trans ?_
    · exact (State.quadStep_dmn ..).trans (State.becomeActive_dmn ..)
    · rw [State.dmn_setDmn, if_pos rfl, Domain.settleMove_shade]

/-- R371: the end of a step up of one domain leaves the others in their shade, with their targets. -/
theorem State.stepEnd_up_of_ne {s : State} {k j : Nat} {x : Shade} (hx : x.code < (s.dmn k).shade.code) (h : j ≠ k) :
    ((s.stepEnd k x).dmn j).shade = (s.dmn j).shade ∧ ((s.stepEnd k x).dmn j).target = (s.dmn j).target := by
  unfold State.stepEnd
  simp only [if_neg (Nat.lt_asymm hx), State.riseNext_shade, State.riseNext_target, State.stepBegin_dmn_of_ne _ h]
  have hset (d : Domain) : (if x = .active then ((s.setDmn k d).becomeActive k).quadStep k else s.setDmn k d).dmn j =
      s.dmn j :=
    (ite_same (State.dmn · j) _ _ _ _ ((State.quadStep_dmn ..).trans (State.becomeActive_dmn ..)) rfl).trans
      ((State.dmn_setDmn ..).trans (if_neg h))
  rw [hset]
  exact ⟨rfl, rfl⟩

/-- R371-R373: a step under way to a shade that the domain need not wait for ends. -/
theorem State.shadeStep_of_step {s : State} {k : Nat} {x : Shade} (h : (s.dmn k).step = some x)
    (hw : (s.dmn k).shade.code < x.code → s.stepWait k x = true) : s.shadeStep k = s.stepEnd k x := by
  have hb : s.stepBegin k = s := by
    unfold State.stepBegin
    exact if_pos (by simp [h])
  unfold State.shadeStep
  simp only [hb, h]
  exact if_neg (by simpa using hw)

theorem State.stepWait_setDmn (s : State) (k j : Nat) (d : Domain) (x : Shade) :
    (s.setDmn k d).stepWait j x = s.stepWait j x := rfl

/-- R371-R373: one that has not begun begins first. -/
theorem State.shadeStep_of_next {s : State} {k : Nat} {x : Shade} (h : (s.dmn k).step = none)
    (hm : (s.dmn k).moving = true) (hn : nextShade k (s.dmn k).shade.code (s.dmn k).goal.code = some x)
    (hdown : (s.dmn k).shade.code < x.code → s.mayLeave k = true ∧ s.stepWait k x = true)
    (hup : ¬ (s.dmn k).shade.code < x.code → (s.dmn k).shade = .black → s.mayRise k = true) :
    s.shadeStep k = (s.setDmn k { s.dmn k with step := some x }).stepEnd k x := by
  have hb : s.stepBegin k = s.setDmn k { s.dmn k with step := some x } := by
    unfold State.stepBegin
    simp only [hm, h, hn]
    by_cases hd : (s.dmn k).shade.code < x.code
    · obtain ⟨hl, hw⟩ := hdown hd
      simp [hd, hl, hw]
    · rw [if_neg (by simp), if_neg hd, if_neg (by simpa using hup hd)]
  have hd : (s.setDmn k { s.dmn k with step := some x }).dmn k = { s.dmn k with step := some x } := by
    rw [State.dmn_setDmn, if_pos rfl]
  unfold State.shadeStep
  simp only [hb, hd]
  exact if_neg (by
    intro hc
    obtain ⟨hlt, hno⟩ : (s.dmn k).shade.code < x.code ∧ s.stepWait k x = false := by
      rw [State.stepWait_setDmn] at hc
      simpa using hc
    exact absurd (hdown hlt).2 (by simp [hno]))

/-- R373: a step down that the domain may not take is refused. -/
theorem State.shadeStep_of_refused {s : State} {k : Nat} {x : Shade} (h : (s.dmn k).step = none)
    (hm : (s.dmn k).moving = true) (hn : nextShade k (s.dmn k).shade.code (s.dmn k).goal.code = some x)
    (hd : (s.dmn k).shade.code < x.code) (hl : s.mayLeave k = false) : s.shadeStep k = s.refuseStep k := by
  have hb : s.stepBegin k = s.refuseStep k := by
    unfold State.stepBegin
    simp [hm, h, hn, hd, hl]
  unfold State.shadeStep
  rw [hb, State.refuseStep]
  simp only [State.dmn_setDmn, if_pos]

/-! ### A write of PWR_DOMk (R373, R382) -/

/-- R373: what a domain is asked: its target, where it accepts it, else to refuse. -/
def State.ask (s : State) (k : Nat) (x : Shade) (d : Domain) : Domain :=
  if accepts k x && (x = .active || s.mayLeave k) then
    { d with
      target := x, woken := none,
      moving := d.step.isSome || decide (d.shade ≠ ({ d with target := x } : Domain).goal) }
  else { d with refused := true }

theorem State.writeDom_of_shade {s : State} {k : Nat} {v : Word} {x : Shade} (hf : s.fusedDom k = false)
    (hr : bit v 23 = false) (hx : Shade.ofCode (fld v 31 29) = some x) :
    s.writeDom k v = (s.setDmn k (s.ask k x
      (if bit v 24 then { s.dmn k with refused := false } else s.dmn k))).stepBegin k := by
  unfold State.writeDom
  simp only [hf, hr, hx, Bool.false_eq_true, if_false]
  rfl

theorem State.loseDom_dmn (s : State) (k j : Nat) : (s.loseDom k).dmn j = s.dmn j := by
  unfold State.loseDom
  exact ite_same (State.dmn · j) _ _ _ _ ((State.loseDram_writes ..).dmn j)
    (ite_same (State.dmn · j) _ _ _ _ ((State.loseTbl_writes ..).dmn j)
      (ite_same (State.dmn · j) _ _ _ _ ((State.loseTel_writes ..).dmn j)
        (ite_same (State.dmn · j) _ _ _ _ ((State.losePg_writes ..).dmn j)
          (ite_same (State.dmn · j) _ _ _ _ ((State.loseQuad_writes ..).dmn j) rfl))))

/-- R382: a domain that is reset is in Black, and moves. -/
structure Domain.IsReset (d : Domain) : Prop where
  shade : d.shade = .black
  moving : d.moving = true
  resetting : d.resetting = true

/-- R382: a domain reset is of one domain. -/
theorem State.domReset_dmn (s : State) {k : Nat} (hf : s.fusedDom k = false) (h3 : 3 ≤ k) :
    ((s.domReset k).dmn k).IsReset ∧ ∀ j, j ≠ k → (s.domReset k).dmn j = s.dmn j := by
  unfold State.domReset
  rw [if_neg (by simp [hf]; omega)]
  extract_lets s1 s2 _ s3 _ s4 s5 _ s6
  have h1 (j : Nat) : s1.dmn j = s.dmn j := ite_same (State.dmn · j) _ _ _ _ ((State.sxDown_writes ..).dmn j) rfl
  have h2 (j : Nat) : s2.dmn j = s1.dmn j := ite_same (State.dmn · j) _ _ _ _
    (foldl_same (State.dmn · j) State.dramStop (fun _ _ => (State.dramStop_writes ..).dmn j) _ _) rfl
  have hend (j : Nat) : (if 22 ≤ k then s6.poolSteps else s6).dmn j = s6.dmn j :=
    ite_same (State.dmn · j) _ _ _ _ ((State.poolSteps_writes ..).dmn j) rfl
  refine ⟨?_, fun j hj => ?_⟩
  · have hlost : s5.dmn k =
        { s3.dmn k with shade := .black, moving := true, resetting := true, step := none, woken := none } :=
      (s4.loseDom_dmn k k).trans ((State.dmn_setDmn ..).trans (if_pos rfl))
    rw [hend, State.dmn_setDmn, if_pos rfl]
    exact ⟨congrArg Domain.shade hlost, congrArg Domain.moving hlost, congrArg Domain.resetting hlost⟩
  · rw [hend, State.dmn_setDmn, if_neg hj]
    exact (s4.loseDom_dmn k j).trans (((State.dmn_setDmn ..).trans (if_neg hj)).trans ((h2 j).trans (h1 j)))

/-- R373: what a write of PWR_DOMk does before a RESET in it: it begins a step of a domain with another target. -/
theorem State.writeDom_of_reset {s : State} {k : Nat} {v : Word} (hf : s.fusedDom k = false) (hr : bit v 23 = true) :
    ∃ d, s.writeDom k v = ((s.setDmn k d).stepBegin k).domReset k := by
  unfold State.writeDom
  simp only [hf, hr, Bool.false_eq_true, if_false, if_true]
  exact ⟨_, rfl⟩

theorem State.mayLeave_setDmn (s : State) (k j : Nat) (d : Domain) : (s.setDmn k d).mayLeave j = s.mayLeave j := rfl

/-- R369, R373: a domain that accepts its target, and may leave where that is below Active, is refused no step. -/
theorem State.mayLeave_of_accepts {s : State} {k a : Nat} {x y : Shade} (h : x = .active ∨ s.mayLeave k = true)
    (hn : nextShade k a x.code = some y) (hd : a < y.code) : s.mayLeave k = true := by
  rcases h with rfl | h
  · exact absurd (nextShade_code_lt hn (Nat.zero_le a)) (Nat.lt_asymm hd)
  · exact h

/-- What a request of a shade shows of the domain. -/
def State.ShownAfter (s : State) (k : Nat) (x : Shade) (e : Domain) : Prop :=
  if accepts k x && (x = .active || s.mayLeave k) then
    e.target = x ∧ e.moving = ((s.dmn k).step.isSome || decide ((s.dmn k).shade ≠ x))
  else e.refused = true ∧ ((s.dmn k).moving = false → e.target = (s.dmn k).target)

/-- R373: the domain asked, when what begins next has begun. -/
theorem State.ask_begun {s : State} {k : Nat} {x : Shade} {d e : Domain} (hd : ∃ b, d = { s.dmn k with refused := b })
    (hr : (s.dmn k).resetting = false) (h : (s.setDmn k (s.ask k x d)).Begun k e) : s.ShownAfter k x e := by
  obtain ⟨b, rfl⟩ := hd
  have hk : (s.setDmn k (s.ask k x { s.dmn k with refused := b })).dmn k = s.ask k x { s.dmn k with refused := b } := by
    rw [State.dmn_setDmn, if_pos rfl]
  unfold State.ShownAfter
  split
  next ha =>
    have hask : s.ask k x { s.dmn k with refused := b } = { s.dmn k with
        refused := b, target := x, woken := none,
        moving := (s.dmn k).step.isSome || decide ((s.dmn k).shade ≠ x) } := by
      rw [State.ask, if_pos ha]
      simp [Domain.goal, hr]
    have hl : ∀ y, nextShade k (s.dmn k).shade.code x.code = some y → (s.dmn k).shade.code < y.code →
        s.mayLeave k = true := fun y => State.mayLeave_of_accepts (by simpa using (Bool.and_eq_true_iff.mp ha).2)
    have htarget := h.target_eq
    have hmoving := h.moving_eq
    rw [hk, hask] at htarget hmoving
    simp only [Domain.goal, hr, State.mayLeave_setDmn, Bool.false_eq_true, if_false] at htarget hmoving
    exact ⟨htarget fun _ => hl, hmoving trivial trivial hl⟩
  next ha =>
    have hask : s.ask k x { s.dmn k with refused := b } = { s.dmn k with refused := true } := by
      rw [State.ask, if_neg ha]
    have htarget := h.target_eq
    have hrefused := h.refused
    rw [hk, hask] at htarget hrefused
    exact ⟨hrefused rfl, fun hm => htarget fun hm' => absurd (hm.symm.trans hm') (by decide)⟩

theorem State.writeDom_shown {s : State} {k : Nat} {v : Word} {x : Shade} (hf : s.fusedDom k = false)
    (hv : bit v 23 = false) (hx : Shade.ofCode (fld v 31 29) = some x) (hr : (s.dmn k).resetting = false) :
    ((s.writeDom k v).dmn k).shade = (s.dmn k).shade ∧ (∀ j, j ≠ k → (s.writeDom k v).dmn j = s.dmn j) ∧
      s.ShownAfter k x ((s.writeDom k v).dmn k) := by
  have hd : ∃ b, (if bit v 24 then { s.dmn k with refused := false } else s.dmn k) = { s.dmn k with refused := b } := by
    cases bit v 24
    · exact ⟨(s.dmn k).refused, rfl⟩
    · exact ⟨false, rfl⟩
  rw [State.writeDom_of_shade hf hv hx]
  refine ⟨?_, fun j hj => ?_, State.ask_begun hd hr (State.stepBegin_begun ..)⟩
  · obtain ⟨b, hb⟩ := hd
    rw [State.stepBegin_shade, State.dmn_setDmn, if_pos rfl, hb]
    exact apply_ite Domain.shade _ _ _ |>.trans (ite_self _)
  · rw [State.stepBegin_dmn_of_ne _ hj, State.dmn_setDmn, if_neg hj]

/-- R372-R374: a woken domain that may and need not wait returns to Pale. -/
theorem State.paleBack_dmn {s : State} {k : Nat} (hl : s.mayLeave k = true) (hw : s.stepWait k .pale = true) :
    ((s.paleBack k).dmn k).shade = .pale ∧ ((s.paleBack k).dmn k).woken = none := by
  unfold State.paleBack
  simp only [hl, hw, Bool.not_true, Bool.false_eq_true, if_false, State.quadStep_dmn, State.dmn_setDmn, if_true]
  exact ⟨trivial, trivial⟩

/-- Settles O34. -/
theorem powerShades : Obligations.PowerShades := by
  unfold Obligations.PowerShades
  refine ⟨fun s r k v x hon hf hv hx hr => ?_, fun s k x hl hstep => ⟨fun hup hrise => ?_, fun hdown hleave hwait => ?_,
    fun hdown hnone hleave => ?_⟩, fun s k t0 hl hw ht hact hleave hwait => ?_, fun s r k v hon hf h3 => ?_⟩
  · refine (becomes_of_act (i := .shadeRequest r k v) (f := fun s => s.writeDom k v) rfl hon).completes ?_
    simp only [State.dmn_intSweep]
    exact State.writeDom_shown hf hv hx hr
  · refine (becomes_of_act (i := .shadeStep k) (f := fun s => s.shadeStep k) rfl hl).completes ?_
    simp only [State.dmn_intSweep]
    rcases hstep with h | ⟨h, hm, hn⟩
    · rw [State.shadeStep_of_step h fun hd => absurd hup (Nat.lt_asymm hd)]
      exact ⟨State.stepEnd_shade .., fun j hj => State.stepEnd_up_of_ne hup hj⟩
    · rw [State.shadeStep_of_next h hm hn (fun hd => absurd hup (Nat.lt_asymm hd)) fun _ => hrise h]
      refine ⟨State.stepEnd_shade .., fun j hj => ?_⟩
      have hset (e : Domain) : (s.setDmn k e).dmn j = s.dmn j := (State.dmn_setDmn ..).trans (if_neg hj)
      obtain ⟨hs, ht⟩ := State.stepEnd_up_of_ne (s := s.setDmn k { s.dmn k with step := some x }) (x := x)
        (by rw [State.dmn_setDmn, if_pos rfl]; exact hup) hj
      rw [hset] at hs ht
      exact ⟨hs, ht⟩
  · refine (becomes_of_act (i := .shadeStep k) (f := fun s => s.shadeStep k) rfl hl).completes ?_
    simp only [State.dmn_intSweep]
    rcases hstep with h | ⟨h, hm, hn⟩
    · rw [State.shadeStep_of_step h fun _ => hwait]
      exact State.stepEnd_shade ..
    · rw [State.shadeStep_of_next h hm hn (fun _ => ⟨hleave h, hwait⟩) fun hd => absurd hdown hd]
      exact State.stepEnd_shade ..
  · obtain ⟨-, hm, hn⟩ := hstep.resolve_left (by simp [hnone])
    refine (becomes_of_act (i := .shadeStep k) (f := fun s => s.shadeStep k) rfl hl).completes ?_
    simp only [State.dmn_intSweep, State.intSweep_held, State.intSweep_tbl]
    rw [State.shadeStep_of_refused hnone hm hn hdown hleave]
    refine ⟨?_, rfl, rfl⟩
    refine (State.dmn_setDmn s k k _).trans ((if_pos rfl).trans ?_)
    rw [← hnone]
  · refine (becomes_of_act (i := .paleReturn k) (f := fun s => s.paleBack k) rfl
      (by simp [hl, hw, ht, hact])).completes ?_
    simp only [State.dmn_intSweep]
    exact State.paleBack_dmn hleave hwait
  · obtain ⟨d, hd⟩ := State.writeDom_of_reset (s := s) (v := v ||| flag 23 true) hf (bit_or_flag v (by decide))
    refine (becomes_of_act (i := .domainReset r k v)
      (f := fun s => s.writeDom k (v ||| flag 23 true)) rfl hon).completes ?_
    simp only [State.dmn_intSweep]
    rw [hd]
    have hf' : ((s.setDmn k d).stepBegin k).fusedDom k = false := by
      unfold State.fusedDom
      rw [(State.stepBegin_writes ..).same .ident (by decide)]
      exact hf
    obtain ⟨⟨hs, hm, hr⟩, hne⟩ := State.domReset_dmn _ hf' h3
    refine ⟨hs, hm, hr, fun j hj => (hne j hj).trans ?_⟩
    rw [State.stepBegin_dmn_of_ne _ hj, State.dmn_setDmn, if_neg hj]

end Sys2Proof.Machine
end

section
/-! PROOFS of the family 13_faults_and_reliability: the scrub of the history memory of a device whose clocks stand. -/

namespace Sys2Proof.Machine

open Sys2Proof

set_option Elab.async false

/-- R353, R405: the always-on domain is Active, the device's clocks stand still, and no freeze is latched. -/
def State.clocksStand : State :=
  { State.reset with dom := [(0, { target := .active, shade := .active })], frz := { stopped := true } }

/-- Refutes O33: the history memory is scrubbed where registers are served, which is not said by the absence of a
freeze alone: while the clocks stand its scrub does nothing, so a corrected word of it raises no event. -/
theorem not_scrubbing : ¬ Obligations.Scrubbing := by
  intro h
  unfold Obligations.Scrubbing at h
  obtain ⟨hgood, -⟩ := h
  have hcorrected : Becomes (.sramScrub .history 0 .corrected) State.clocksStand (State.clocksStand.raise
      { src := sramSource .history, cls := .blue, code := 1, info := sramInfo .history 0 }) :=
    (hgood State.clocksStand .history 0 (by decide +kernel) (by decide +kernel)).2 fun _ => nofun
  have hstill : exec (.sramScrub .history 0 .corrected) State.clocksStand = .next State.clocksStand := rfl
  have hhist := congrArg (·.flt.hist.length) (Host.Outcome.next.inj (hstill.symm.trans hcorrected))
  exact absurd hhist (by decide +kernel)

end Sys2Proof.Machine
end

section
/-! PROOFS of the family 12_dram: a DRAM read whose interrupts leave before its data. -/

namespace Sys2Proof.Machine

open Sys2Proof

set_option Elab.async false

/-- R330: a read of telemetry whose one byte the writes queued before it hold. -/
def coveredRead : DReq := { who := .telemetry, full := true, addr := dramBase, len := 1, data := [7] }

/-- R284, R300, R329: channel 0 has that read queued; and a completion ring of host 0, mapped to a vector, has an
entry whose coalescing time has just passed, unnoticed so far. -/
def State.readAmidInterrupt : State :=
  { State.reset with
    dom := [(domDram, { target := .active, shade := .active })]
    held := [(regAddr .intMap 0 0 0, 0x80000000)]
    time := { now := 5000 }
    hosts := [(0, { linkUp := true })]
    rings := [(8, { used := true, dev := 1, stamps := [0], coalUs := 1, coalLog := 4 })]
    dram := { ch := [(0, { st := .service, rq := [coveredRead] })] } }

/-- Refutes O51: after the data of a read the interrupts are looked at, as after every command, so that one which time
has made due leaves with it; the data is then not the last that the device has put out. -/
theorem not_dramService : ¬ Obligations.DramService := by
  intro h
  unfold Obligations.DramService at h
  obtain ⟨-, hread, -⟩ := h
  obtain ⟨t, he, -, -, -, -, hout⟩ := hread State.readAmidInterrupt 0 0
    coveredRead (by decide +kernel) (by decide +kernel) (by decide +kernel) (by decide) (by decide +kernel)
    (.inl rfl)
  have ht := Host.Outcome.next.inj he
  rw [← ht] at hout
  exact absurd (hout (.inl rfl)) (by decide +kernel)

end Sys2Proof.Machine
end

section
/-! PROOFS of the family 13_faults_and_reliability: the sentinels, their samples and the retirement of engines. -/

namespace Sys2Proof.Machine

open Sys2Proof

set_option Elab.async false

/-! ### The delay-register sets of a cluster (R355) -/

theorem find?_tdel {α : Type} (t : Tab α) (i j : Nat) :
    (tdel t i).find? (fun e => e.1 == j) = if j = i then none else t.find? fun e => e.1 == j := by
  induction t with
  | nil => exact (ite_self _).symm
  | cons e t ih =>
    obtain ⟨a, v⟩ := e
    by_cases hj : j = i
    · subst hj
      by_cases ha : j = a
      · simpa [tdel, ha] using ih
      · simpa [tdel, ha, Ne.symm ha] using ih
    · by_cases ha : i = a
      · subst ha
        simpa [tdel, hj, Ne.symm hj] using ih
      · simp only [tdel, if_neg ha, List.find?_cons, ih, if_neg hj]

theorem find?_tins {α : Type} (t : Tab α) (i j : Nat) (x : α) :
    (tins t i x).find? (fun e => e.1 == j) = if j = i then some (i, x) else t.find? fun e => e.1 == j := by
  induction t with
  | nil =>
    by_cases h : j = i
    · simp [tins, h]
    · simp [tins, h, Ne.symm h]
  | cons e t ih =>
    obtain ⟨a, v⟩ := e
    rcases lt_trichotomy i a with ha | rfl | ha
    · by_cases hj : j = i
      · simp [tins, ha, hj]
      · simp [tins, ha, hj, Ne.symm hj]
    · by_cases hj : j = i
      · simp [tins, hj]
      · simp [tins, hj, Ne.symm hj]
    · have hstep : tins ((a, v) :: t) i x = (a, v) :: tins t i x := by
        simp [tins, Nat.lt_asymm ha, Nat.ne_of_gt ha]
      rw [hstep]
      by_cases haj : a = j
      · subst haj
        rw [List.find?_cons_of_pos (by simp), List.find?_cons_of_pos (by simp), if_neg (Nat.ne_of_lt ha)]
      · rw [List.find?_cons_of_neg (by simpa using haj), List.find?_cons_of_neg (by simpa using haj), ih]

/-- R355: a set that is written, or freed, holds what was written; the others of its cluster hold what they held. -/
theorem State.sample_setSample (s : State) (c i j : Nat) (x : Option Sample) :
    (s.setSample c i x).sample c j = if j = i then x else s.sample c j := by
  unfold State.sample State.setSample
  rw [State.clu_setClu, if_pos rfl]
  cases x with
  | none =>
    simp only [find?_tdel]
    split <;> rfl
  | some v =>
    simp only [find?_tins, find?_tdel]
    split <;> rfl

/-- R355: what does not write the clusters leaves each set as it was. -/
theorem State.Writes.clu {s t : State} {l : List Part} (h : s.Writes l t) (c : Nat) (hl : .clusters ∉ l := by decide) :
    t.clu c = s.clu c := by
  unfold State.clu
  rw [h.same .clusters hl]

theorem State.Writes.sample {s t : State} {l : List Part} (h : s.Writes l t) (c i : Nat)
    (hl : .clusters ∉ l := by decide) : t.sample c i = s.sample c i := by
  unfold State.sample
  rw [h.clu c hl]

/-- R356: equal digests free the set, others let it wait for its recheck, and the tables and the buffer are left. -/
theorem State.compareDigest_of_both {s : State} {c i : Nat} {x : Sample} {p d : Word} (hv : x.void = false)
    (hp : x.p1 = some p) (hd : x.s1 = some d) :
    ((s.compareDigest c i x).sample c i = if p = d then none else some { x with recheck := true }) ∧
      ∀ j, j ≠ i → (s.compareDigest c i x).sample c j = s.sample c j := by
  unfold State.compareDigest
  simp only [hv, hp, hd, Bool.false_eq_true, if_false]
  split
  · refine ⟨by rw [State.sample_setSample, if_pos rfl], fun j hj => ?_⟩
    rw [State.sample_setSample, if_neg hj]
    exact (State.sentEntry_writes ..).sample c j
  · refine ⟨by rw [State.sample_setSample, if_pos rfl], fun j hj => ?_⟩
    rw [State.sample_setSample, if_neg hj]
    exact ((State.pmcCluster_writes ..).sample c j).trans ((State.sentEntry_writes ..).sample c j)

/-! ### The recheck of a sample (R357) -/

/-- R357: the recheck begins with the lowest-numbered free thread of the primary engine (log entry 36). -/
theorem State.recheck_of_first {s : State} {c i th : Nat} {x : Sample} (ha : x.again = false)
    (hf : (List.range 8).find? (fun t => decide ((s.thr (thrKey c x.engine t)).st = .idle) &&
      ! (x.engine == (s.clu c).sentinel && t == i)) = some th)
    (hs : (s.thr (thrKey c (s.clu c).sentinel i)).st = .idle) :
    s.recheck c i x = ((s.setSample c i (some { x with again := true, prim := some (thrKey c x.engine th) })).reexec c
      x.engine th i x).reexec c (s.clu c).sentinel i i x := by
  unfold State.recheck State.recheckStart
  simp only [ha, Bool.not_false, if_true, hf, if_pos hs]

/-- R357: the recheck ends with the two digests of the re-execution. -/
theorem State.recheck_of_digests {s : State} {c i : Nat} {x : Sample} {p d : Word} (ha : x.again = true)
    (hv : x.void = false) (hp : x.p2 = some p) (hd : x.s2 = some d) : s.recheck c i x = s.recheckDigest c i x p d := by
  unfold State.recheck
  simp only [ha, hv, hp, hd, Bool.not_true, Bool.false_eq_true, if_false]

theorem State.recheckDigest_eq (s : State) (c i : Nat) (x : Sample) (p d : Word) : s.recheckDigest c i x p d =
    let u := (s.sentEntry p d 3 x c).setSample c i none
    if p = d then u.raise
      { src := 64 + c / 8, cls := .blue, code := 7, info := infoCET c x.engine 0 (b2n (decide (x.p1 ≠ some p))) }
    else if (s.clu c).selfTest then u.retire c x.engine 1
    else u.checkerFault c 0 := by
  have hself : (((s.sentEntry p d 3 x c).setSample c i none).clu c).selfTest = (s.clu c).selfTest := by
    unfold State.setSample
    rw [State.clu_setClu, if_pos rfl]
    have hclu : (s.sentEntry p d 3 x c).clu c = s.clu c := (State.sentEntry_writes ..).clu c
    change ((s.sentEntry p d 3 x c).clu c).selfTest = _
    rw [hclu]
  unfold State.recheckDigest
  simp only [hself]

/-! ### Self-test and spare (R358, R359) -/

/-- R359: a self-test that passes ends a checker fault that was to be rearmed, and records that it passed. -/
theorem State.selfTest_pass (s : State) (c : Nat) {resume : Bool} (h : resume = true ∨ (s.clu c).checker = false) :
    (s.selfTest c none resume).clu c = { s.clu c with selfTest := true, checker := false, rearm := false } := by
  unfold State.selfTest
  simp only [State.clu_setClu, if_true]
  rcases h with h | h <;> simp [h]

theorem State.selfTest_pass_threads (s : State) (c : Nat) (resume : Bool) :
    (s.selfTest c none resume).threads = s.threads := rfl

/-- R358: the spare takes the place of an engine, and the event names the sentinel there was. -/
theorem State.takeSpare_eq (s : State) (c : Nat) : s.takeSpare c =
    let u := s.dropSamples c
    (u.setClu c { u.clu c with sentinel := 31, spareUsed := true, spareDue := none, rotating := none }).raise
      { src := 56 + c / 8, cls := .orange, code := 9, info := infoCET c (s.clu c).sentinel 0 0 } := by
  have hsent : ((s.dropSamples c).clu c).sentinel = (s.clu c).sentinel := by
    rw [State.clu_dropSamples, if_pos rfl]
  unfold State.takeSpare
  simp only [hsent]

/-- R359, R400: REARM of a cluster with a sentinel: the self-test runs, or waits for a halted spare. -/
theorem State.writeSentCfg_rearm {s : State} {c : Nat} {v : Word} (hv : bit v 30 = true)
    (hc : (s.clu c).sentinel < 17) :
    (s.writeSentCfg c v none).clu c = (if s.spareHalted c then { s.clu c with rearm := true }
      else { s.clu c with selfTest := true, checker := false, rearm := false }) ∧
    (s.writeSentCfg c v none).rg .necSentCfg c = v &&& 0x800F001F ∧ (s.writeSentCfg c v none).threads = s.threads := by
  have hclu : (s.setRg .necSentCfg c 0 (v &&& 0x800F001F)).clu c = s.clu c := rfl
  have hhalt : (s.setRg .necSentCfg c 0 (v &&& 0x800F001F)).spareHalted c = s.spareHalted c := rfl
  unfold State.writeSentCfg
  rw [if_neg (by rw [hclu]; simpa [hv] using hc), hhalt]
  split
  · exact ⟨by rw [State.clu_setClu, if_pos rfl, hclu], State.rg_setRg .., rfl⟩
  · exact ⟨(State.selfTest_pass _ c (.inl rfl)).trans (by rw [hclu]), State.rg_setRg .., rfl⟩

/-- R363: a write of FLT_RETIREc retires the engines of its bits, in their order. -/
theorem State.writeRetire_eq (s : State) (c : Nat) (v : Word) :
    s.writeRetire c v = ((List.range 17).filter (bit v)).foldl (fun u e => u.retire c e 4) s := by
  rw [List.foldl_filter]
  rfl

theorem becomes_digestRecheck {s : State} {c : Fin 64} {i : Fin 8} {x : Sample} (hon : s.cluOn c = true)
    (hx : s.sample c i = some x) (hr : x.recheck = true) : Becomes (.digestRecheck c i) s (s.recheck c i x) := by
  change execDigestRecheck c i s = _
  rw [execDigestRecheck, act_next, if_pos (by simp [hon, hx, hr])]
  simp only [hx]

theorem becomes_selfTest {s : State} {c : Fin 64} {fail : Option (Fin 16)} (hon : s.cluOn c = true)
    (hc : (s.clu c).sentinel < 17)
    (hdue : (s.clu c).rearm = true ∨ (s.sentEn c = true ∧ (s.clu c).checker = false))
    (hh : s.spareHalted c = false) :
    Becomes (.knownAnswerSelfTest c fail) s (s.selfTest c (fail.map Fin.val) (s.clu c).rearm) :=
  becomes_of_act (f := fun s => s.selfTest c (fail.map Fin.val) (s.clu c).rearm) rfl (by simp [hon, hc, hdue, hh])

/-- Settles O30. -/
theorem sentinels : Obligations.Sentinels := by
  unfold Obligations.Sentinels
  refine ⟨fun s c i x p d hon hx hr hv hp hd => ?_, fun s c i x hon hx hr => ⟨fun th ha hf hs => ?_,
    fun p d ha hv hp hd => ?_⟩, fun s c hon hc hdue hh => ⟨?_, fun k => ?_⟩, fun s c e hon hc he hb => ?_,
    fun s r c v ho hv hc => ?_, fun s c e hon hc hu hd hk hr ht he => ?_, fun s c e hon hc hr hb => ?_,
    fun s r c v hon hc => ?_, fun s c e h => if_pos h⟩
  · have hdo : exec (.digestCompare c i) s = .next (s.compareDigest c i x).intSweep := by
      change execDigestCompare c i s = _
      rw [execDigestCompare, act_next, if_pos (by simp [hon, hx, hr, hp, hd])]
      simp only [hx]
    obtain ⟨hself, hother⟩ := State.compareDigest_of_both (s := s) (c := c) (i := i) hv hp hd
    refine ⟨_, hdo, ?_⟩
    simp only [State.sample, State.clu, State.intSweep_clusters, State.intSweep_tbl, State.intSweep_buf]
    exact ⟨hself, hother, (State.compareDigest_writes ..).same .tbl (by decide),
      (State.compareDigest_writes ..).same .buf (by decide)⟩
  · rw [← State.recheck_of_first ha hf hs]
    exact becomes_digestRecheck hon hx hr
  · have hdo := becomes_digestRecheck hon hx hr
    rw [State.recheck_of_digests ha hv hp hd, State.recheckDigest_eq] at hdo
    refine ⟨fun h => ?_, fun h ht => ?_, fun h ht => ?_⟩
    · rwa [if_pos h] at hdo
    · rwa [if_neg h, if_pos ht] at hdo
    · rwa [if_neg h, if_neg (by simp [ht])] at hdo
  · refine (becomes_selfTest (fail := none) hon hc hdue hh).completes ?_
    simp only [State.clu, State.intSweep_clusters, State.intSweep_threads]
    exact ⟨State.selfTest_pass s c (hdue.imp id And.right), State.selfTest_pass_threads ..⟩
  · exact becomes_selfTest (fail := some k) hon hc hdue hh
  · have hdo : Becomes (.spareTaken c) s (s.takeSpare c) :=
      becomes_of_act (f := fun s => s.takeSpare c) rfl (by simp [hon, hc, he, hb])
    rwa [State.takeSpare_eq] at hdo
  · refine (becomes_of_access (i := .rearm r c v none) (f := fun s => s.writeSentCfg c v none) rfl ho).completes ?_
    simp only [State.clu, State.intSweep_clusters, State.intSweep_threads]
    exact State.writeSentCfg_rearm hv hc
  · change execSentinelRotation c s = _
    simp only [execSentinelRotation, act_next]
    rw [if_pos (by simp [hon, hc, hu, hd, hk, hr, ht]), he]
  · change execRotationComplete c s = _
    rw [execRotationComplete, act_next, if_pos (by simp [hon, hc, hr, hb]), hr]
  · rw [← State.writeRetire_eq]
    exact becomes_of_act (f := fun s => s.writeRetire c v) rfl (by simp [hon, hc])

end Sys2Proof.Machine
end

section
/-! PROOFS of the family 15_chain_freeze_debug: the frames of the chain and its requests. -/

namespace Sys2Proof.Machine

open Sys2Proof

set_option Elab.async false

/-! ### Frames to be forwarded, and the unit's own (R387-R389) -/

theorem becomes_chainFrame (s : State) (f : List Word) : Becomes (.chainFrame f) s (s.chainRx f) :=
  becomes_of_act (f := fun s => s.chainRx f) rfl rfl

/-- R388, R389: a frame that opens is forwarded, or, where it names this unit, a request. -/
theorem State.chainRx_of_open {s : State} {f b : List Word} (h : openFrame f = some b) : s.chainRx f =
    if frmDest b ≠ 0 ∧ frmDest b = s.chain.addr then
      if frmVer b ≠ 1 ∧ frmVer b ≠ 2 then s.chainSend (wAt b 0) 2 (frmAddr b) 7 []
      else if 4 ≤ s.chain.q.length then s.reply b 4 []
      else s.chainQueue (s.chain.q ++ [b])
    else s.chainForward f := by
  unfold State.chainRx
  rw [h]
  simp only [Bool.and_eq_true, decide_eq_true_eq]

theorem State.reply_q (s : State) (f : List Word) (st : Nat) (d : List Word) :
    (s.reply f st d).chain.q = s.chain.q := by
  unfold State.reply State.chainSend State.chainFlush
  exact ite_same (·.chain.q) _ _ _ _ (foldl_same (·.chain.q) (fun st f => st.emit (.chain f)) (fun _ _ => rfl) _ _) rfl

/-! What is set to what it is. -/

theorem State.withQ_self {s : State} {q : List (List Word)} (h : s.chain.q = q) :
    ({ s with chain := { s.chain with q := q } } : State) = s := by
  subst h
  rfl

theorem State.withFwd_self {s : State} {q : List (List Word)} (h : s.chain.fwd = q) :
    ({ s with chain := { s.chain with fwd := q } } : State) = s := by
  subst h
  rfl

theorem State.withOwn_self {s : State} {q : List (List Word)} (h : s.chain.own = q) :
    ({ s with chain := { s.chain with own := q } } : State) = s := by
  subst h
  rfl

/-- R389: with no request before it, one that is refused whatever the state is answered at once. -/
theorem State.chainQueue_refused {s : State} (hq : s.chain.q = []) {b : List Word} {st : Nat}
    (hr : frmRefusal b = some st) : s.chainQueue [b] = s.reply b st [] := by
  unfold State.chainQueue
  rw [hr]
  exact State.withQ_self ((s.reply_q b st []).trans hq)

/-- R389: another waits. -/
theorem State.chainQueue_waits {s : State} {b : List Word} (hr : frmRefusal b = none) :
    s.chainQueue [b] = { s with chain := { s.chain with q := [b] } } := by
  unfold State.chainQueue
  rw [hr]

/-- R388: a frame that waits behind no other is forwarded at once, unless it is a broadcast command. -/
theorem State.chainForward_alone {s : State} (hf : s.chain.fwd = []) (f : List Word) : s.chainForward f =
    if isBroadcast f then { s with chain := { s.chain with fwd := [f] } } else (s.emit (.chain f)).chainFlush := by
  unfold State.chainForward
  rw [hf]
  simp only [List.nil_append, State.forwardAll]
  rw [State.withFwd_self (s := s.emit (.chain f)) hf]

/-- R388: it joins those that wait behind a broadcast command. -/
theorem State.chainForward_behind {s : State} {g f : List Word} {l : List (List Word)} (hf : s.chain.fwd = g :: l)
    (hg : isBroadcast g = true) : s.chainForward f = { s with chain := { s.chain with fwd := g :: l ++ [f] } } := by
  unfold State.chainForward
  rw [hf]
  exact if_pos hg

/-- R387, R389: the frame that the unit sends. -/
def State.ownFrame (s : State) (w : Word) (ver addr status : Nat) (data : List Word) : List Word :=
  sealFrame ([put 31 28 ver ||| put 23 18 63 ||| put 17 12 s.chain.addr ||| (w &&& 0xFFF), wd addr,
    put 31 24 (addr / 2 ^ 32) ||| put 23 16 status ||| put 15 0 data.length] ++ data)

/-- R388: a frame of the unit's own leaves at once where none waits. -/
theorem State.chainSend_alone {s : State} (hf : s.chain.fwd = []) (ho : s.chain.own = []) (w : Word)
    (ver addr status : Nat) (data : List Word) :
    s.chainSend w ver addr status data = s.emit (.chain (s.ownFrame w ver addr status data)) := by
  unfold State.chainSend State.chainFlush
  refine (if_pos (by simp [hf])).trans ?_
  simp only [ho, List.nil_append, List.foldl_cons, List.foldl_nil]
  exact congrArg (State.emit · _) (State.withOwn_self ho)

/-- R388: it waits for those that are to be forwarded. -/
theorem State.chainSend_behind {s : State} (hf : s.chain.fwd ≠ []) (w : Word) (ver addr status : Nat)
    (data : List Word) :
    s.chainSend w ver addr status data =
      { s with chain := { s.chain with own := s.chain.own ++ [s.ownFrame w ver addr status data] } } := by
  unfold State.chainSend State.chainFlush
  exact if_neg (by simpa using hf)

/-! ### The chain's requests (R390-R396) -/

/-- What ENUM sets of a unit. -/
def State.enumerated (s : State) : Nat × Bool := (s.chain.addr, s.chain.overflow)

theorem State.chainFlush_enumerated (s : State) : s.chainFlush.enumerated = s.enumerated := by
  unfold State.chainFlush
  exact ite_same State.enumerated _ _ _ s
    (foldl_same State.enumerated (fun st f => st.emit (.chain f)) (fun _ _ => rfl) _ _) rfl

theorem State.chainQueue_enumerated (s : State) (q : List (List Word)) :
    (s.chainQueue q).enumerated = s.enumerated := by
  induction q generalizing s with
  | nil => rfl
  | cons f q ih =>
    unfold State.chainQueue
    split
    · exact (ih _).trans (State.chainFlush_enumerated _)
    · rfl

theorem State.forwardAll_enumerated (s : State) (q : List (List Word)) :
    (s.forwardAll q).enumerated = s.enumerated := by
  induction q generalizing s with
  | nil => exact State.chainFlush_enumerated _
  | cons f q ih =>
    unfold State.forwardAll
    exact ite_same State.enumerated _ _ _ s rfl (ih _)

theorem State.passOn_enumerated (s : State) (w : Word) : (s.passOn w).enumerated = s.enumerated :=
  ite_same State.enumerated _ _ _ s (State.chainQueue_enumerated ..) (State.forwardAll_enumerated ..)

/-- R393: ENUM gives a unit the next address, where there is one. -/
theorem State.enumUnit_enumerated {s : State} (h : fld (frmData s.chainReq 0) 5 0 < 62) :
    s.enumUnit.enumerated = (fld (frmData s.chainReq 0) 5 0 + 1, false) := by
  unfold State.enumUnit
  simp only [if_pos h]
  exact State.passOn_enumerated ..

theorem State.peekCmd_in_range {s : State} (hc : chainCount s.chainReq = true)
    (hs : chainSpan (frmAddr s.chainReq) (frmData s.chainReq 0).toNat mapEnd = true)
    (hd : (s.fuses.debug && decide (2 ^ 32 < frmAddr s.chainReq + 4 * (frmData s.chainReq 0).toNat)) = false) :
    s.peekCmd = s.peekAnswer (frmAddr s.chainReq) (frmData s.chainReq 0).toNat := by
  unfold State.peekCmd
  simp only [hc, hs, hd, Bool.not_true, Bool.false_eq_true, if_false]

theorem State.readCmd_in_range {s : State} (hc : chainCount s.chainReq = true)
    (hs : chainSpan (frmAddr s.chainReq) (frmData s.chainReq 0).toNat (2 ^ 32) = true) (hl : s.live = true)
    (ha : s.anyAsleep (frmAddr s.chainReq) (frmData s.chainReq 0).toNat = false) :
    s.readCmd = (s.readWords (frmAddr s.chainReq) (frmData s.chainReq 0).toNat).2.answer 0
      (s.readWords (frmAddr s.chainReq) (frmData s.chainReq 0).toNat).1 := by
  unfold State.readCmd
  simp only [hc, hs, hl, ha, Bool.not_true, Bool.false_eq_true, if_false]

/-- R391: words below 2^32 lie outside DRAM space. -/
theorem not_dramBase_le_of_chainSpan {a n : Nat} (h : chainSpan a n (2 ^ 32) = true) : ¬ dramBase ≤ a := by
  obtain ⟨-, hle⟩ : a % 4 = 0 ∧ a + 4 * n ≤ 4294967296 := by simpa [chainSpan] using h
  have hbase : dramBase = 274877906944 := rfl
  omega

theorem State.writeCmd_registers {s : State} (hd : s.fuses.debug = false) (hl : s.live = true)
    (hn : frmLen s.chainReq ≠ 0) (hs : chainSpan (frmAddr s.chainReq) (frmLen s.chainReq) (2 ^ 32) = true)
    (ha : s.anyAsleep (frmAddr s.chainReq) (frmLen s.chainReq) = false) :
    s.writeCmd = (List.range (frmLen s.chainReq)).foldl
      (fun st i => st.accWrite .chain (frmAddr s.chainReq + 4 * i) (frmData s.chainReq i)) (s.answer 0 []) := by
  unfold State.writeCmd
  simp only [hd, hl, hn, hs, ha, not_dramBase_le_of_chainSpan hs, Bool.not_true, Bool.false_eq_true, if_false,
    decide_false, Bool.false_and]

theorem State.writeCmd_dram {s : State} (hd : s.fuses.debug = false) (hl : s.live = true)
    (hn : frmLen s.chainReq ≠ 0) (hb : dramBase ≤ frmAddr s.chainReq)
    (hs : chainSpan (frmAddr s.chainReq) (frmLen s.chainReq) mapEnd = true) (ho : s.Open domDram)
    (hw : s.dramSpan (frmAddr s.chainReq) ((s.chainReq.drop 3).take (frmLen s.chainReq)).length = true) :
    s.writeCmd = (s.answer 0 []).dramWrite .chain (frmAddr s.chainReq)
      (wordBytes ((s.chainReq.drop 3).take (frmLen s.chainReq))) := by
  unfold State.writeCmd State.chainStore
  simp only [hd, hl, hn, hs, hb, ho.reach, hw, Bool.not_true, Bool.false_eq_true, if_false, if_true, decide_true,
    Bool.and_self]

theorem State.chainReset_of_key {s : State} (hd : frmDest s.chainReq ≠ 0) (hn : frmLen s.chainReq = 1)
    (hk : fld (frmData s.chainReq 0) 15 8 = 0xC4) : s.chainReset = (s.answer 0 []).chipReset := by
  unfold State.chainReset
  simp only [if_neg hd, hn, hk, decide_true, Bool.and_self, if_true]

/-- Settles O54. -/
theorem chainRequests : Obligations.ChainRequests := by
  unfold Obligations.ChainRequests
  refine ⟨fun s f => ⟨fun hn => ?_, fun b hb => ⟨fun hd => ?_, fun h0 hd => ⟨fun h1 h2 => ?_, fun hv =>
    ⟨fun hq => ?_, fun st hr hq => ?_, fun hr hq => ?_⟩⟩⟩, fun hf hb => ?_, fun hf hb => ?_,
    fun g l hf hg => State.chainForward_behind hf hg⟩, fun s w ver addr status data =>
    ⟨fun hf ho => State.chainSend_alone hf ho .., fun hf => State.chainSend_behind hf ..⟩, fun s =>
    ⟨fun hh hn => ?_, fun hh => ⟨fun hn => ?_, fun hn => ?_⟩, fun hh hc hs hd => ?_, fun hh hc hs hl ha => ?_,
      fun hh hd hl hn hs ha => ?_, fun hh hd hl hn hb hs ho hw => ?_, fun hh hd hn hk => ?_⟩⟩
  · have hrx := becomes_chainFrame s f
    unfold State.chainRx at hrx
    rwa [hn] at hrx
  · have hrx := becomes_chainFrame s f
    rwa [State.chainRx_of_open hb, if_neg fun h => hd.elim h.1 (absurd h.2)] at hrx
  · have hrx := becomes_chainFrame s f
    rwa [State.chainRx_of_open hb, if_pos ⟨h0, hd⟩, if_pos ⟨h1, h2⟩] at hrx
  · have hrx := becomes_chainFrame s f
    rwa [State.chainRx_of_open hb, if_pos ⟨h0, hd⟩, if_neg (by omega), if_pos hq] at hrx
  · have hrx := becomes_chainFrame s f
    rw [State.chainRx_of_open hb, if_pos ⟨h0, hd⟩, if_neg (by omega), if_neg (by simp [hq]), hq, List.nil_append,
      State.chainQueue_refused hq hr] at hrx
    exact hrx
  · have hrx := becomes_chainFrame s f
    rw [State.chainRx_of_open hb, if_pos ⟨h0, hd⟩, if_neg (by omega), if_neg (by simp [hq]), hq, List.nil_append,
      State.chainQueue_waits hr] at hrx
    exact hrx
  · rw [State.chainForward_alone hf, if_neg (by simp [hb])]
  · rw [State.chainForward_alone hf, if_pos hb]
  · refine (becomes_of_act (i := .enum) (f := fun s => s.enumUnit) rfl hh).completes ?_
    have he := State.enumUnit_enumerated hn
    rw [State.intSweep_chain, State.intSweep_held]
    exact ⟨congrArg Prod.fst he, congrArg Prod.snd he, (State.enumUnit_writes ..).same .held (by decide)⟩
  · have hid := becomes_of_act (i := .ident) (f := fun s => s.identCmd) rfl hh
    simp only [State.identCmd] at hid
    rwa [if_pos (by simpa [frmBare] using hn)] at hid
  · have hid := becomes_of_act (i := .ident) (f := fun s => s.identCmd) rfl hh
    simp only [State.identCmd] at hid
    rwa [if_neg (by simpa [frmBare] using hn)] at hid
  · rw [← State.peekCmd_in_range hc hs hd]
    exact becomes_of_act (i := .peek) (f := fun s => s.peekCmd) rfl hh
  · rw [← State.readCmd_in_range hc hs hl ha]
    exact becomes_of_act (i := .chainRead) (f := fun s => s.readCmd) rfl hh
  · rw [← State.writeCmd_registers hd hl hn hs ha]
    exact becomes_of_act (i := .chainWrite) (f := fun s => s.writeCmd) rfl hh
  · rw [← State.writeCmd_dram hd hl hn hb hs ho hw]
    exact becomes_of_act (i := .chainWrite) (f := fun s => s.writeCmd) rfl hh
  · rw [← State.chainReset_of_key hd hn hk]
    exact becomes_of_act (i := .chainReset) (f := fun s => s.chainReset) rfl hh

end Sys2Proof.Machine
end

section
/-! PROOFS of the family 12_dram: what the DRAM controller's operations do to a channel and to the memory; training,
OFFLINE, RESUME and MIGRATE. -/

namespace Sys2Proof.Machine

open Sys2Proof

set_option Elab.async false

/-! ### The memory, by the channels (R326) -/

theorem State.Writes.dch {s t : State} {l : List Part} (h : s.Writes l t) (c : Nat) (hl : .dram ∉ l := by decide) :
    t.dch c = s.dch c := by
  unfold State.dch
  rw [h.same .dram hl]

/-- R326: the bytes of DRAM follow from what is stored, and from how often each channel has lost its contents. -/
theorem State.dramGet_congr {s t : State} (hm : t.dram.mem = s.dram.mem) (x : Nat)
    (hu : (t.dch (x / 2 ^ 38)).undef = (s.dch (x / 2 ^ 38)).undef) : t.dramGet x = s.dramGet x := by
  unfold State.dramGet
  rw [hm]
  refine tget_congr _ ?_
  unfold State.dramDflt
  rw [hu]

/-! ### The command log (R341) -/

/-- R341: commands have entered a channel's log, and nothing else of DRAM or the registers has changed. -/
structure State.Logged (s : State) (c : Nat) (t : State) : Prop where
  mem : t.dram.mem = s.dram.mem
  held : t.held = s.held
  others : ∀ d, d ≠ c → t.dch d = s.dch d
  own : ∃ l, t.dch c = { s.dch c with cmdlog := l }

theorem State.Logged.refl (s : State) (c : Nat) : s.Logged c s := ⟨rfl, rfl, fun _ _ => rfl, (s.dch c).cmdlog, rfl⟩

theorem State.Logged.trans {s t u : State} {c : Nat} (h : s.Logged c t) (h' : t.Logged c u) : s.Logged c u := by
  obtain ⟨hm, hh, ho, l, hl⟩ := h
  obtain ⟨hm', hh', ho', l', hl'⟩ := h'
  exact ⟨hm'.trans hm, hh'.trans hh, fun d hd => (ho' d hd).trans (ho d hd), l', by rw [hl', hl]⟩

theorem State.Logged.dramGet {s t : State} {c : Nat} (h : s.Logged c t) (x : Nat) : t.dramGet x = s.dramGet x := by
  obtain ⟨hm, -, ho, l, hl⟩ := h
  refine State.dramGet_congr hm x ?_
  by_cases hx : x / 2 ^ 38 = c
  · rw [hx, hl]
  · rw [ho _ hx]

/-- What does not speak of the log is as it was. -/
theorem State.Logged.dch_eq {s t : State} {c : Nat} (h : s.Logged c t) {β : Type} (g : DCh → β)
    (hg : ∀ d l, g { d with cmdlog := l } = g d) (e : Nat) : g (t.dch e) = g (s.dch e) := by
  obtain ⟨-, -, ho, l, hl⟩ := h
  by_cases he : e = c
  · rw [he, hl, hg]
  · rw [ho e he]

theorem State.setLog_logged (s : State) (c n : Nat) (l : List (Word × Word)) :
    s.Logged c (({ s with free := n } : State).setDch c { s.dch c with cmdlog := l }) :=
  ⟨rfl, rfl, fun _ hd => (State.dch_setDch ..).trans (if_neg hd), l, (State.dch_setDch ..).trans (if_pos rfl)⟩

theorem State.dlogs_logged (s : State) (c rank : Nat) (cmds : List Nat) : s.Logged c (s.dlogs c rank cmds) := by
  unfold State.dlogs
  dsimp only
  split
  · exact .refl s c
  · exact s.setLog_logged c ..

theorem State.dlogAcc_logged (s : State) (c cmd rank : Nat) : s.Logged c (s.dlogAcc c cmd rank) := by
  unfold State.dlogAcc
  dsimp only
  split
  · exact .refl s c
  · exact s.setLog_logged c ..

theorem State.Logged.foldl {c : Nat} {α : Type} {f : State → α → State}
    (hf : ∀ (s : State) a, s.Logged c (f s a)) (l : List α)
    (s : State) : s.Logged c (l.foldl f s) := by
  induction l generalizing s with
  | nil => exact .refl s c
  | cons a l ih => exact (hf s a).trans (ih _)

theorem State.dlogAll_logged (s : State) (c : Nat) (cmds : List Nat) : s.Logged c (s.dlogAll c cmds) :=
  .foldl (fun _ _ => State.dlogs_logged ..) _ s

theorem State.trainLog_logged (s : State) (c : Nat) : s.Logged c (s.trainLog c) := s.setLog_logged c ..

theorem State.dlogSre_logged (s : State) (c : Nat) : s.Logged c (s.dlogSre c) := by
  refine .foldl (fun s r => ?_) _ s
  have hfree : s.Logged c { s with free := s.free + 1 } := ⟨rfl, rfl, fun _ _ => rfl, (s.dch c).cmdlog, rfl⟩
  exact hfree.trans (State.dlogs_logged ..)

/-! ### The state of a channel (R325) -/

/-- R325: a channel in another state. -/
def DCh.enter (d : DCh) (st : DramState) : DCh := if d.st = st then d else { d with st := st, stateEvt := true }

theorem State.dch_setDramSt (s : State) (c e : Nat) (st : DramState) :
    (s.setDramSt c st).dch e = if e = c then (s.dch c).enter st else s.dch e := by
  unfold State.setDramSt DCh.enter
  by_cases h : (s.dch c).st = st
  · simp only [if_pos h]
    split
    next he => rw [he]
    next => rfl
  · simp only [if_neg h]
    exact State.dch_setDch ..

theorem DCh.enter_eq (d : DCh) (st : DramState) : ∃ b, d.enter st = { d with st := st, stateEvt := b } := by
  unfold DCh.enter
  split
  next h => exact ⟨d.stateEvt, by rw [← h]⟩
  next => exact ⟨true, rfl⟩

theorem DCh.enter_st (d : DCh) (st : DramState) : (d.enter st).st = st := by
  obtain ⟨b, hb⟩ := d.enter_eq st
  rw [hb]

/-- What does not speak of the state is as it was. -/
theorem DCh.enter_same {β : Type} (g : DCh → β) (hg : ∀ d st b, g { d with st := st, stateEvt := b } = g d) (d : DCh)
    (st : DramState) : g (d.enter st) = g d := by
  obtain ⟨b, hb⟩ := d.enter_eq st
  rw [hb, hg]

theorem State.setDramSt_mem (s : State) (c : Nat) (st : DramState) : (s.setDramSt c st).dram.mem = s.dram.mem := by
  unfold State.setDramSt
  exact ite_same (·.dram.mem) _ _ _ s rfl rfl

theorem State.dramGet_setDch {s : State} {c : Nat} {d : DCh} (hu : d.undef = (s.dch c).undef) (x : Nat) :
    (s.setDch c d).dramGet x = s.dramGet x := by
  refine State.dramGet_congr (s := s) (t := s.setDch c d) rfl x ?_
  rw [State.dch_setDch]
  split
  next h => rw [hu, h]
  next => rfl

theorem State.dramGet_setDramSt (s : State) (c : Nat) (st : DramState) (x : Nat) :
    (s.setDramSt c st).dramGet x = s.dramGet x := by
  refine State.dramGet_congr (s.setDramSt_mem c st) x ?_
  rw [State.dch_setDramSt]
  split
  next h => rw [DCh.enter_same (·.undef) (fun _ _ _ => rfl), h]
  next => rfl

/-! ### Operations on one channel after another -/

/-- An operation on a channel: it leaves the registers, the memory and the other channels, and follows from the
registers and its channel. -/
structure ChannelOp (f : State → Nat → State) : Prop where
  held : ∀ s c, (f s c).held = s.held
  mem : ∀ s c, (f s c).dram.mem = s.dram.mem
  others : ∀ s c d, d ≠ c → (f s c).dch d = s.dch d
  congr : ∀ s t c, t.held = s.held → t.dch c = s.dch c → (f t c).dch c = (f s c).dch c

theorem ChannelOp.foldl_held {f : State → Nat → State} (h : ChannelOp f) (l : List Nat) (s : State) :
    (l.foldl f s).held = s.held := foldl_same State.held f h.held l s

theorem ChannelOp.foldl_mem {f : State → Nat → State} (h : ChannelOp f) (l : List Nat) (s : State) :
    (l.foldl f s).dram.mem = s.dram.mem := foldl_same (·.dram.mem) f h.mem l s

/-- Of distinct channels each one undergoes it as if it were the first. -/
theorem ChannelOp.foldl_dch {f : State → Nat → State} (h : ChannelOp f) {l : List Nat} (hl : l.Nodup) (s : State)
    (d : Nat) : (l.foldl f s).dch d = if d ∈ l then (f s d).dch d else s.dch d := by
  induction l generalizing s with
  | nil => rfl
  | cons c l ih =>
    obtain ⟨hc, hl⟩ := List.nodup_cons.mp hl
    rw [List.foldl_cons, ih hl]
    by_cases hd : d = c
    · subst hd
      rw [if_neg hc, if_pos (List.mem_cons_self ..)]
    · rw [h.others s c d hd]
      refine if_congr (by simp [hd]) ?_ rfl
      exact h.congr _ _ d (h.held s c) (h.others s c d hd)

theorem rg_of_held {s t : State} (h : t.held = s.held) (n : RegName) (k j i : Nat) : t.rg n k j i = s.rg n k j i := by
  unfold State.rg
  rw [h]

theorem State.setDramSt_held (s : State) (c : Nat) (st : DramState) : (s.setDramSt c st).held = s.held := by
  unfold State.setDramSt
  exact ite_same State.held _ _ _ s rfl rfl

/-! ### Bring-up (R323, R326) -/

theorem State.dch_unuse (s : State) (c e : Nat) : (s.unuse c).dch e =
    if e = c ∧ bit (s.rg .drcCfg) (24 + c) = false then (s.dch c).enter .unused else s.dch e := by
  unfold State.unuse
  split
  next h => rw [if_neg (by simp [h])]
  next h => rw [State.dch_setDramSt]; exact if_congr (by simpa using fun _ => h) rfl rfl

theorem State.unuse_op : ChannelOp State.unuse where
  held s c := ite_same State.held _ _ _ s rfl (s.setDramSt_held ..)
  mem s c := ite_same (·.dram.mem) _ _ _ s rfl (s.setDramSt_mem ..)
  others s c d hd := by rw [State.dch_unuse, if_neg fun h => hd h.1]
  congr s t c hh hd := by rw [State.dch_unuse, State.dch_unuse, rg_of_held hh, hd]

/-- R323, R326: a channel that training begins with. -/
def State.begun (s : State) (c : Nat) : DCh :=
  let ctl := s.rg .drcChCtl 0 c
  let used := s.hasSpare c && bit ctl 6
  { s.dch c with
    cfgErr := false, spareUsed := used, retired := if used then fld ctl 5 4 else 0, migPtr := 0, rq := [], wq := []
    drain := false, exitDue := false }

theorem State.dch_trainChannel (s : State) (c e : Nat) : (s.trainChannel c).dch e =
    if e = c ∧ (s.dch c).st.idle = true then (s.begun c).enter .training else s.dch e := by
  unfold State.trainChannel
  dsimp only
  split
  next h =>
    rw [State.dch_setDramSt, State.dch_setDch, State.dch_setDch]
    by_cases he : e = c
    · rw [if_pos he, if_pos rfl, if_pos (And.intro he h)]
      rfl
    · rw [if_neg he, if_neg he, if_neg (fun h : _ ∧ _ => he h.1)]
  next h => rw [if_neg (fun h' : _ ∧ _ => h h'.2)]

theorem State.hasSpare_of_held {s t : State} (h : t.held = s.held) (c : Nat) : t.hasSpare c = s.hasSpare c := by
  unfold State.hasSpare
  rw [rg_of_held h, rg_of_held h]

theorem State.begun_congr {s t : State} {c : Nat} (hh : t.held = s.held) (hd : t.dch c = s.dch c) :
    t.begun c = s.begun c := by
  unfold State.begun
  rw [rg_of_held hh, State.hasSpare_of_held hh, hd]

theorem State.trainChannel_op : ChannelOp State.trainChannel where
  held s c := ite_same State.held _ _ _ s (State.setDramSt_held ..) rfl
  mem s c := ite_same (·.dram.mem) _ _ _ s (State.setDramSt_mem ..) rfl
  others s c d hd := by rw [State.dch_trainChannel, if_neg fun h => hd h.1]
  congr s t c hh hd := by rw [State.dch_trainChannel, State.dch_trainChannel, State.begun_congr hh hd, hd]

/-- R323: a write of DRC_CFG while no channel is in use, with TRAIN 1 and a configuration that is supported. -/
theorem State.writeDrcCfg_train {s : State} {v : Word} (hv : bit v 31 = true)
    (hi : ∀ c < 4, (s.dch c).st.idle = true) (hok : drcOk (v &&& 0x4F0F0F07) = true) :
    s.writeDrcCfg v = ((List.range 4).filter fun c => bit (v &&& 0x4F0F0F07) (24 + c)).foldl State.trainChannel
      ((List.range 4).foldl State.unuse (s.setRg .drcCfg 0 0 (v &&& 0x4F0F0F07))) := by
  have hfree : ((List.range 4).all fun c => (s.dch c).st.idle) = true := by simpa using hi
  have hcfg : ((List.range 4).foldl State.unuse (s.setRg .drcCfg 0 0 (v &&& 0x4F0F0F07))).rg .drcCfg =
      v &&& 0x4F0F0F07 := (rg_of_held (State.unuse_op.foldl_held ..) ..).trans (State.rg_setRg ..)
  unfold State.writeDrcCfg
  simp only [hfree, if_true, hcfg, hv, hok]

/-- The bits of CH_EN and of the rank count are kept as they are written. -/
theorem bit_drcCfg (v : Word) {c : Nat} (hc : c < 4) : bit (v &&& 0x4F0F0F07) (24 + c) = bit v (24 + c) := by
  have hmask : bit 0x4F0F0F07 (24 + c) = true := by interval_cases c <;> decide
  unfold bit at *
  rw [BitVec.getLsbD_and, hmask, Bool.and_true]

theorem rankCount_drcCfg (v : Word) : rankCount (v &&& 0x4F0F0F07) = rankCount v := by
  have hfld : fld (v &&& 0x4F0F0F07) 17 16 = fld v 17 16 := by
    unfold fld
    rw [BitVec.toNat_and, Nat.shiftRight_and_distrib, Nat.and_mod_two_pow]
    change v.toNat >>> 16 % 2 ^ 2 &&& (2 ^ 2 - 1) = _
    rw [Nat.and_two_pow_sub_one_eq_mod, Nat.mod_mod]
  unfold rankCount drcRanks
  rw [hfld]

theorem drcChCtl_ne_drcCfg (c : Nat) : regAddr .drcChCtl 0 0 c ≠ regAddr .drcCfg 0 0 0 := by
  change 0x14000000 + 0 * 0 + 0x1000 + 0 * 0 + c * 0x100 ≠ 0x14000000 + 0 * 0 + 0 + 0 * 0 + 0 * 0
  omega

/-- R326: the spare is in use from the bring-up on where REPL_VALID says so. -/
theorem State.begun_spareUsed (s : State) (v : Word) (c : Nat) :
    ((s.setRg .drcCfg 0 0 (v &&& 0x4F0F0F07)).begun c).spareUsed =
      (bit (s.rg .drcChCtl 0 c) 3 && decide (rankCount v = 4) && bit (s.rg .drcChCtl 0 c) 6) := by
  unfold State.begun State.hasSpare
  rw [State.rg_setRg, State.rg_setRg_of_ne (drcChCtl_ne_drcCfg c), rankCount_drcCfg]

/-- R323, R325: a channel that is to be trained, or left unused, as the write of DRC_CFG leaves it. -/
theorem State.writeDrcCfg_train_dch {s : State} {v : Word} (hv : bit v 31 = true)
    (hi : ∀ c < 4, (s.dch c).st.idle = true) (hok : drcOk (v &&& 0x4F0F0F07) = true) {c : Nat} (hc : c < 4) :
    (s.writeDrcCfg v).dch c = if bit v (24 + c) then
      ((s.setRg .drcCfg 0 0 (v &&& 0x4F0F0F07)).begun c).enter .training else (s.dch c).enter .unused := by
  have hnodup : ((List.range 4).filter fun c => bit (v &&& 0x4F0F0F07) (24 + c)).Nodup := List.nodup_range.filter _
  have hmem : c ∈ List.range 4 := List.mem_range.mpr hc
  have hused : ((List.range 4).foldl State.unuse (s.setRg .drcCfg 0 0 (v &&& 0x4F0F0F07))).dch c =
      if bit v (24 + c) = false then (s.dch c).enter .unused else s.dch c := by
    rw [State.unuse_op.foldl_dch List.nodup_range, if_pos hmem, State.dch_unuse, State.rg_setRg, bit_drcCfg v hc]
    exact if_congr (by simp) rfl rfl
  rw [State.writeDrcCfg_train hv hi hok, State.trainChannel_op.foldl_dch hnodup]
  by_cases hb : bit v (24 + c) = true
  · rw [if_neg (by simp [hb])] at hused
    rw [if_pos (List.mem_filter.mpr ⟨hmem, (bit_drcCfg v hc).trans hb⟩), if_pos hb, State.dch_trainChannel, hused,
      if_pos (And.intro rfl (hi c hc))]
    exact congrArg (DCh.enter · _) (State.begun_congr (State.unuse_op.foldl_held ..) hused)
  · rw [if_pos (by simpa using hb)] at hused
    have hout : c ∉ (List.range 4).filter fun c => bit (v &&& 0x4F0F0F07) (24 + c) := fun h =>
      hb ((bit_drcCfg v hc).symm.trans (List.mem_filter.mp h).2)
    rw [if_neg hout, if_neg hb, hused]

/-- R326: a channel whose contents a bring-up has left undefined. -/
def State.undefine (s : State) (c : Nat) : State :=
  let s := s.setDch c { s.dch c with undef := (s.dch c).undef + 1, poison := [], scrubPtr := 0, scrubFrom := none }
  { s with dram := { s.dram with mem := tdrop (fun x => x / 2 ^ 38 == c) s.dram.mem } }

theorem State.dch_undefine (s : State) (c e : Nat) : (s.undefine c).dch e = if e = c then
    { s.dch c with undef := (s.dch c).undef + 1, poison := [], scrubPtr := 0, scrubFrom := none } else s.dch e :=
  State.dch_setDch ..

theorem State.dramGet_undefine_of_ne (s : State) {c x : Nat} (hx : x / 2 ^ 38 ≠ c) :
    (s.undefine c).dramGet x = s.dramGet x := by
  have hmem : (s.undefine c).dram.mem = tdrop (fun x => x / 2 ^ 38 == c) s.dram.mem := rfl
  rw [State.dramGet, hmem, tget_tdrop, if_neg (by simpa using hx)]
  refine tget_congr _ ?_
  unfold State.dramDflt
  rw [State.dch_undefine, if_neg hx]

/-- R326: training that succeeds puts the channel into service, with its contents where RETAIN is 1. -/
theorem State.trainEnd_ok_eq (s : State) (c : Nat) : s.trainEnd c true =
    (State.upNow (if bit (s.rg .drcCfg) 30 then s.trainLog c else (s.trainLog c).undefine c) c true).setDramSt c
      .service := rfl

theorem State.upNow_undef (s : State) (c : Nat) (cal : Bool) : ((s.upNow c cal).dch c).undef = (s.dch c).undef := by
  unfold State.upNow
  rw [State.dch_setDch, if_pos rfl]

theorem State.dramGet_upNow (s : State) (c : Nat) (cal : Bool) (x : Nat) : (s.upNow c cal).dramGet x = s.dramGet x := by
  unfold State.upNow
  refine State.dramGet_setDch ?_ x
  rfl

theorem State.trainEnd_undef {s : State} {c : Nat} (hk : bit (s.rg .drcCfg) 30 = false) :
    ((s.trainEnd c true).dch c).undef = (s.dch c).undef + 1 := by
  rw [State.trainEnd_ok_eq, if_neg (by simp [hk]), State.dch_setDramSt, if_pos rfl,
    DCh.enter_same (·.undef) (fun _ _ _ => rfl), State.upNow_undef, State.dch_undefine, if_pos rfl]
  exact congrArg (· + 1) (s.trainLog_logged c |>.dch_eq (·.undef) (fun _ _ => rfl) c)

theorem State.dramGet_trainEnd {s : State} {c x : Nat} (h : bit (s.rg .drcCfg) 30 = true ∨ x / 2 ^ 38 ≠ c) :
    (s.trainEnd c true).dramGet x = s.dramGet x := by
  rw [State.trainEnd_ok_eq, State.dramGet_setDramSt, State.dramGet_upNow]
  split
  next => exact (s.trainLog_logged c).dramGet x
  next hk => exact ((s.trainLog c).dramGet_undefine_of_ne (h.resolve_left hk)).trans ((s.trainLog_logged c).dramGet x)

/-! ### OFFLINE, RESUME and MIGRATE (R335-R339) -/

theorem DramState.not_idle_of_serves {x : DramState} (h : x.serves = true) : x.idle = false := by
  cases x <;> cases h <;> rfl

/-- The queues of a channel. -/
def DCh.queues (d : DCh) : List DReq × List DReq := (d.rq, d.wq)

theorem State.dramFlush_wq (s : State) (c : Nat) : ((s.dramFlush c).dch c).wq = [] := by
  unfold State.dramFlush
  rw [State.dch_setDch, if_pos rfl]

theorem DCh.empty_of_queues {d : DCh} (h : d.queues = ([], [])) : d.rq = [] ∧ d.wq = [] := Prod.mk.inj h

theorem DCh.enter_queues (d : DCh) (st : DramState) : (d.enter st).queues = d.queues :=
  d.enter_same DCh.queues (fun _ _ _ => rfl) st

/-- R338: reads that are discarded bring no request back. -/
theorem State.dropReads_queues (s : State) (c : Nat) : ((s.dropReads c).dch c).queues = ([], (s.dch c).wq) := by
  have hset : ((s.setDch c { s.dch c with rq := [] }).dch c).queues = ([], (s.dch c).wq) := by
    rw [State.dch_setDch, if_pos rfl]
    rfl
  unfold State.dropReads
  exact (ite_same (fun u : State => (u.dch c).queues) _ _ _ _ (foldl_same (fun u : State => (u.dch c).queues) _
    (fun _ _ => congrArg DCh.queues ((State.dropRead_writes ..).dch c)) _ _) rfl).trans hset

theorem State.enterSr_queues (s : State) (c : Nat) : ((s.enterSr c).dch c).queues = (s.dch c).queues := by
  unfold State.enterSr
  rw [State.dch_setDch, if_pos rfl]
  exact (s.dlogSre_logged c).dch_eq DCh.queues (fun _ _ => rfl) c

theorem State.enterSr_mem (s : State) (c : Nat) : (s.enterSr c).dram.mem = s.dram.mem := (s.dlogSre_logged c).mem

/-- R338: a channel that serves goes offline with its queues empty. -/
theorem State.dramOffline_of_serves {s : State} {c : Nat} (h : (s.dch c).st.serves = true) :
    ((s.dramOffline c).dch c).st = .offline ∧ ((s.dramOffline c).dch c).rq = [] ∧
      ((s.dramOffline c).dch c).wq = [] := by
  unfold State.dramOffline
  rw [if_pos h]
  extract_lets stays s1 s2
  have hempty : (s2.dch c).queues = ([], []) := by
    rw [State.dropReads_queues, State.dramFlush_wq]
  have hsr : ((if stays then s2 else s2.enterSr c).dch c).queues = ([], []) :=
    (ite_same (fun u : State => (u.dch c).queues) _ _ _ s2 rfl (s2.enterSr_queues c)).trans hempty
  have hmoved (u : State) : (u.moveRegions c).dch c = u.dch c := (State.moveRegions_writes ..).dch c
  have hqueues : ((((if stays then s2 else s2.enterSr c).moveRegions c).setDramSt c .offline).dch c).queues =
      ([], []) := by
    rw [State.dch_setDramSt, if_pos rfl, DCh.enter_queues, hmoved]
    exact hsr
  exact ⟨by rw [State.dch_setDramSt, if_pos rfl, DCh.enter_st], DCh.empty_of_queues hqueues⟩

/-- R338: a frozen channel goes offline as it is. -/
theorem State.dramOffline_of_frozen {s : State} {c : Nat} (h : (s.dch c).st = .frozen) :
    ((s.dramOffline c).dch c).st = .offline ∧ (s.dramOffline c).dram.mem = s.dram.mem := by
  unfold State.dramOffline
  rw [if_neg (by simp [h, DramState.serves]), if_pos h]
  refine ⟨by rw [State.dch_setDramSt, if_pos rfl, DCh.enter_st], ?_⟩
  rw [State.setDramSt_mem, (State.moveRegions_writes ..).same .dram (by decide), State.enterSr_mem]

/-! R339: a write of DRC_CHn_CTL to a channel in use acts on it and writes no more. -/

theorem State.writeDrcCh_offline {s : State} {c : Nat} {v : Word} (h : (s.dch c).st.idle = false)
    (hf : fld v 31 29 = 1) : s.writeDrcCh c v = s.dramOffline c := by
  unfold State.writeDrcCh
  simp only [h, hf, Bool.false_eq_true, if_false]

theorem State.writeDrcCh_resume {s : State} {c : Nat} {v : Word} (h : (s.dch c).st = .frozen)
    (hf : fld v 31 29 = 2) :
    s.writeDrcCh c v = (s.setDch c { s.dch c with idleSince := s.mono, migPtr := 0 }).setDramSt c .service := by
  unfold State.writeDrcCh
  simp only [h, hf, DramState.idle, Bool.false_eq_true, if_false, if_true]

theorem State.writeDrcCh_migrate {s : State} {c : Nat} {v : Word} (h : (s.dch c).st = .service)
    (hs : s.spareFree c = true) (hr : fld v 1 0 ≠ fld (s.rg .drcChCtl 0 c) 1 0) (hf : fld v 31 29 = 3) :
    s.writeDrcCh c v = s.startMigration c (fld v 1 0) := by
  unfold State.writeDrcCh
  simp [h, hf, hs, hr, DramState.idle]

/-- R336, R337: a migration that starts leaves the memory. -/
theorem State.startMigration_dch (s : State) (c r : Nat) :
    ((s.startMigration c r).dch c).st = .migrating ∧ ((s.startMigration c r).dch c).migRank = r ∧
      ((s.startMigration c r).dch c).migPtr = 0 ∧ (s.startMigration c r).dram.mem = s.dram.mem := by
  unfold State.startMigration
  have hd : (s.setDch c { s.dch c with migRank := r, migPtr := 0 }).dch c =
      { s.dch c with migRank := r, migPtr := 0 } := by
    rw [State.dch_setDch, if_pos rfl]
  refine ⟨?_, ?_, ?_, State.setDramSt_mem ..⟩
  · rw [State.dch_setDramSt, if_pos rfl, DCh.enter_st]
  · rw [State.dch_setDramSt, if_pos rfl, DCh.enter_same (·.migRank) (fun _ _ _ => rfl), hd]
  · rw [State.dch_setDramSt, if_pos rfl, DCh.enter_same (·.migPtr) (fun _ _ _ => rfl), hd]

/-- Settles O52. -/
theorem dramStates : Obligations.DramStates := by
  unfold Obligations.DramStates
  refine ⟨fun s r v ho hv hi hok => ?_, fun s c hon ht => ?_, fun s r c v ho => ⟨fun hf => ⟨fun hs => ?_, fun hs => ?_⟩,
    fun hf hs => ?_, fun hf hs hfree hr => ?_⟩⟩
  · have hw : Becomes (.train r v) s (s.writeDrcCfg v) := becomes_of_access (f := fun s => s.writeDrcCfg v) rfl ho
    refine hw.completes ?_
    simp only [State.rg, State.intSweep_held, State.intSweep_dram, State.dch_intSweep]
    refine ⟨?_, ?_, fun c hc => ?_⟩
    · rw [State.writeDrcCfg_train hv hi hok, State.trainChannel_op.foldl_held, State.unuse_op.foldl_held]
      exact State.rg_setRg ..
    · rw [State.writeDrcCfg_train hv hi hok, State.trainChannel_op.foldl_mem, State.unuse_op.foldl_mem]
      rfl
    · rw [State.writeDrcCfg_train_dch hv hi hok hc]
      split
      · obtain ⟨b, hb⟩ := ((s.setRg .drcCfg 0 0 (v &&& 0x4F0F0F07)).begun c).enter_eq .training
        rw [hb]
        exact ⟨rfl, rfl, rfl, rfl, State.begun_spareUsed ..⟩
      · exact DCh.enter_st ..
  · have hw : Becomes (.trainingDone c true) s (s.trainEnd c true) :=
      becomes_of_act (f := fun s => s.trainEnd c true) rfl (by simp [hon, ht])
    refine hw.completes ?_
    simp only [State.dch_intSweep, State.dramGet_intSweep]
    refine ⟨?_, fun hk x => State.dramGet_trainEnd (.inl hk), fun hk => State.trainEnd_undef hk,
      fun x hx => State.dramGet_trainEnd (.inr hx)⟩
    rw [State.trainEnd_ok_eq, State.dch_setDramSt, if_pos rfl, DCh.enter_st]
  · have hw : Becomes (.offline r c v) s (s.writeDrcCh c v) := becomes_of_access (f := fun s => s.writeDrcCh c v) rfl ho
    rw [State.writeDrcCh_offline (DramState.not_idle_of_serves hs) hf] at hw
    refine hw.completes ?_
    rw [State.dch_intSweep]
    exact State.dramOffline_of_serves hs
  · have hw : Becomes (.offline r c v) s (s.writeDrcCh c v) := becomes_of_access (f := fun s => s.writeDrcCh c v) rfl ho
    rw [State.writeDrcCh_offline (by rw [hs]; rfl) hf] at hw
    refine hw.completes ?_
    rw [State.dch_intSweep, State.intSweep_dram]
    exact State.dramOffline_of_frozen hs
  · have hw : Becomes (.dramResume r c v) s (s.writeDrcCh c v) :=
      becomes_of_access (f := fun s => s.writeDrcCh c v) rfl ho
    rw [State.writeDrcCh_resume hs hf] at hw
    refine hw.completes ?_
    rw [State.dch_intSweep, State.intSweep_dram]
    exact ⟨by rw [State.dch_setDramSt, if_pos rfl, DCh.enter_st], State.setDramSt_mem ..⟩
  · have hw : Becomes (.migrate r c v) s (s.writeDrcCh c v) := becomes_of_access (f := fun s => s.writeDrcCh c v) rfl ho
    rw [State.writeDrcCh_migrate hs hfree hr hf] at hw
    refine hw.completes ?_
    rw [State.dch_intSweep, State.intSweep_dram]
    exact State.startMigration_dch ..

end Sys2Proof.Machine
end

section
/-! PROOFS of the family 12_dram: the periodic work of a channel, and the migration of a rank to the spare. -/

namespace Sys2Proof.Machine

open Sys2Proof

set_option Elab.async false

/-! ### Refresh (R328) -/

theorem rankCount_le (cfg : Word) : rankCount cfg ≤ 4 := by
  unfold rankCount drcRanks
  split <;> simp

theorem DCh.refi_ge (d : DCh) : 1950 ≤ d.refi := by
  unfold DCh.refi
  split <;> omega

/-- R328: the next multiple of a span after an offset. -/
def nextDue (first span last : Nat) : Nat := if last < first then first else first + ((last - first) / span + 1) * span

/-- R328: what is due next once it has been done is due a span later. -/
theorem nextDue_nextDue {span : Nat} (hs : 0 < span) (first last : Nat) :
    nextDue first span (nextDue first span last) = nextDue first span last + span := by
  unfold nextDue
  split
  · simp
  · rw [if_neg (by omega), Nat.add_sub_cancel_left, Nat.mul_div_cancel _ hs]
    ring

/-- R328: the refreshes of a rank follow one another a tREFI apart. -/
theorem DCh.nextRef_refreshed (d : DCh) (n r : Nat) :
    ({ d with refAt := tset (fun _ => d.upSince) d.refAt r (d.nextRef n r) } : DCh).nextRef n r =
      d.nextRef n r + d.refi := by
  have hlast : ({ d with refAt := tset (fun _ => d.upSince) d.refAt r (d.nextRef n r) } : DCh).lastRef r =
      d.nextRef n r := (tget_tset ..).trans (if_pos rfl)
  have hspan : 0 < d.refi := Nat.lt_of_lt_of_le (by decide) d.refi_ge
  have hdue (e : DCh) : e.nextRef n r = nextDue (e.upSince + e.refi * (r + 1) / max 1 n) e.refi (e.lastRef r) := rfl
  rw [hdue, hlast, hdue d]
  exact nextDue_nextDue hspan ..

/-- R328: the first refresh of a rank. -/
theorem DCh.nextRef_first {d : DCh} (h : d.refAt = []) {n : Nat} (hn : n ≤ 4) (r : Nat) :
    d.nextRef n r = d.upSince + d.refi * (r + 1) / max 1 n := by
  have hspan := d.refi_ge
  have hmul : d.refi * 1 ≤ d.refi * (r + 1) := Nat.mul_le_mul_left _ (by omega)
  have hpos : 0 < d.refi * (r + 1) / max 1 n := Nat.div_pos (by omega) (by omega)
  have hlast : d.lastRef r = d.upSince := by
    unfold DCh.lastRef
    rw [h]
    rfl
  unfold DCh.nextRef
  exact if_pos (by omega)

/-- R328: the refreshes of a rank that are owed, and when its next one is due. -/
def DCh.refreshes (n r : Nat) (d : DCh) : Nat × Nat := (tget (fun _ => 0) d.postponed r, d.nextRef n r)

/-- R328: a refresh that has fallen due, with what is owed from then on. -/
theorem State.refreshed (s : State) (c r k : Nat) (d : DCh)
    (hd : d = { s.dch c with
      refAt := tset (fun _ => (s.dch c).upSince) (s.dch c).refAt r (s.refNext c r)
      postponed := tset (fun _ => 0) (s.dch c).postponed r k }) :
    d.refreshes (rankCount (s.rg .drcCfg)) r = (k, s.refNext c r + (s.dch c).refi) := by
  subst hd
  unfold DCh.refreshes
  rw [tget_tset, if_pos rfl]
  exact congrArg (Prod.mk k) (DCh.nextRef_refreshed ..)

/-- R328: a refresh that is issued, with those owed, owes none. -/
theorem State.refreshRank_issued (s : State) (c r : Nat) :
    ((s.refreshRank c r false).dch c).refreshes (rankCount (s.rg .drcCfg)) r = (0, s.refNext c r + (s.dch c).refi) ∧
      (s.refreshRank c r false).held = s.held ∧ (s.refreshRank c r false).dram.mem = s.dram.mem := by
  unfold State.refreshRank
  simp only [Bool.false_and, Bool.false_eq_true, if_false]
  refine ⟨?_, (State.dlogs_logged ..).held, (State.dlogs_logged ..).mem⟩
  rw [(State.dlogs_logged ..).dch_eq (DCh.refreshes _ r) (fun _ _ => rfl) c, State.dch_setDch, if_pos rfl]
  exact s.refreshed c r 0 _ rfl

/-- R328: one that waits for reads is owed. -/
theorem State.refreshRank_postponed {s : State} {c r : Nat} (hq : (s.dch c).rq ≠ [])
    (hn : tget (fun _ => 0) (s.dch c).postponed r < 4) :
    ((s.refreshRank c r true).dch c).refreshes (rankCount (s.rg .drcCfg)) r =
        (tget (fun _ => 0) (s.dch c).postponed r + 1, s.refNext c r + (s.dch c).refi) ∧
      (s.refreshRank c r true).held = s.held ∧ (s.refreshRank c r true).dram.mem = s.dram.mem := by
  unfold State.refreshRank
  dsimp only
  rw [if_pos (by simp [hq, hn])]
  refine ⟨?_, rfl, rfl⟩
  rw [State.dch_setDch, if_pos rfl]
  exact s.refreshed c r _ _ rfl

/-! ### Patrol scrub (R334) -/

/-- R336: what decides which rank serves an offset of a channel. -/
def DCh.route (d : DCh) : Bool × Nat × DramState × Nat × Nat := (d.spareUsed, d.retired, d.st, d.migRank, d.migPtr)

theorem DCh.of_route {d e : DCh} (h : d.route = e.route) : d.spareUsed = e.spareUsed ∧ d.retired = e.retired ∧
    d.st = e.st ∧ d.migRank = e.migRank ∧ d.migPtr = e.migPtr := by
  simpa [DCh.route] using h

theorem State.rankServing_congr {s t : State} {c : Nat} (hh : t.held = s.held)
    (hd : (t.dch c).route = (s.dch c).route) (off : Nat) : t.rankServing c off = s.rankServing c off := by
  obtain ⟨hu, hr, hs, hm, hp⟩ := DCh.of_route hd
  unfold State.rankServing State.rankOf State.ranksUsed
  simp only [hu, hr, hs, hm, hp, rg_of_held hh, State.hasSpare_of_held hh]

theorem State.poisoned_congr {s t : State} {c : Nat} (hh : t.held = s.held) (hd : (t.dch c).route = (s.dch c).route)
    (hp : (t.dch c).poison = (s.dch c).poison) (off : Nat) : t.poisoned c off = s.poisoned c off := by
  unfold State.poisoned State.poisonedAt State.dramPlace
  rw [State.rankServing_congr hh hd, rg_of_held hh, hp]

theorem State.eccOutcome_good (s : State) (c : Nat) (who : DramUser) (a : Nat) (trigger : Bool) :
    s.eccOutcome c who a .good trigger = s := rfl

theorem State.poisoned_setScrub (s : State) (c p : Nat) (f : Option Nat) (off : Nat) :
    (s.setDch c { s.dch c with scrubPtr := p, scrubFrom := f }).poisoned c off = s.poisoned c off := by
  have hown : (s.setDch c { s.dch c with scrubPtr := p, scrubFrom := f }).dch c =
      { s.dch c with scrubPtr := p, scrubFrom := f } := (State.dch_setDch ..).trans (if_pos rfl)
  have hheld : (s.setDch c { s.dch c with scrubPtr := p, scrubFrom := f }).held = s.held := rfl
  exact State.poisoned_congr hheld ((congrArg DCh.route hown).trans rfl) ((congrArg DCh.poison hown).trans rfl) off

/-- R334: the patrol scrub of a good word goes on to the next address, and the read enters the log. -/
theorem State.patrol_good {s : State} {c : Nat} (hp : s.poisoned c (s.dch c).scrubPtr = false) : s.patrol c .good =
    (s.setDch c { s.dch c with
      scrubPtr := ((s.dch c).scrubPtr + 64) % max 64 (s.usable c),
      scrubFrom := if (s.dch c).scrubPtr = 0 then some s.mono else (s.dch c).scrubFrom }).dlogAcc c 2
        (s.rankServing c (s.dch c).scrubPtr) := by
  unfold State.patrol
  simp only [State.poisoned_setScrub, hp, Bool.false_eq_true, if_false, reduceCtorEq, State.eccOutcome_good]

/-! ### The bytes that are written (R320) -/

theorem State.dch_dramPut (s : State) (x : Nat) (l : List Byte) (c : Nat) : (s.dramPut x l).dch c = s.dch c := by
  induction l generalizing s x with
  | nil => rfl
  | cons b l ih => exact ih ..

theorem State.dramGet_dramStore (s : State) (c x z : Nat) (b : List Byte) :
    (s.dramStore c x b).dramGet z = if x ≤ z ∧ z < x + b.length then (b[z - x]?).getD 0 else s.dramGet z := by
  unfold State.dramStore
  rw [State.dramGet_dramPut]
  refine if_congr Iff.rfl rfl (State.dramGet_setDch ?_ z)
  rfl

theorem State.dch_dramStore_same {β : Type} (g : DCh → β) (hg : ∀ d p, g { d with poison := p } = g d) (s : State)
    (c x : Nat) (b : List Byte) : g ((s.dramStore c x b).dch c) = g (s.dch c) := by
  refine (congrArg g ((State.dch_dramPut ..).trans ((State.dch_setDch ..).trans (if_pos rfl)))).trans ?_
  exact hg ..

/-! ### Migration (R336) -/

theorem State.copyChunk_good (s : State) (c x y : Nat) :
    s.copyChunk c x y false = s.dramStore c y ((List.range 256).map fun i => s.dramGet (x + i)) := by
  unfold State.copyChunk
  simp only [Bool.false_eq_true, if_false]

/-- R336: the bytes of a chunk as they are copied. -/
theorem getD_map_range (f : Nat → Byte) {n k : Nat} (hk : k < n) : (((List.range n).map f)[k]?).getD 0 = f k := by
  rw [List.getElem?_map, List.getElem?_range hk]
  rfl

theorem State.dramGet_copyChunk (s : State) (c x y z : Nat) : (s.copyChunk c x y false).dramGet z =
    if y ≤ z ∧ z < y + 256 then s.dramGet (x + (z - y)) else s.dramGet z := by
  rw [State.copyChunk_good, State.dramGet_dramStore, List.length_map, List.length_range]
  split
  next h => exact getD_map_range _ (by omega)
  next => rfl

/-- R336: a chunk without the poison pattern whose reads succeed is good. -/
theorem State.chunkEcc_good {s : State} {c x : Nat} (h : ∀ i < 4, s.poisonedAt c (x + 64 * i) = false) :
    s.chunkEcc c x [] = [.good, .good, .good, .good] := by
  refine (List.map_congr_left (g := fun _ => EccResult.good) fun i hi => ?_).trans rfl
  rw [h i (List.mem_range.mp hi)]
  rfl

/-- R336: a good chunk has been read and written: the log holds the commands, and the spare the bytes. -/
def State.chunkCopied (s : State) (c : Nat) : State :=
  let d := s.dch c
  let spare := fld (s.rg .drcChCtl 0 c) 1 0
  let u := (((s.dlogAcc c 2 d.migRank).dlogs c d.migRank [2, 2, 2]).dlogAcc c 3 spare).dlogs c spare [3, 3, 3]
  u.copyChunk c (rankPlace c d.migRank + d.migPtr) (rankPlace c spare + d.migPtr) false

theorem DCh.of_queues {d e : DCh} (h : d.queues = e.queues) : d.rq = e.rq ∧ d.wq = e.wq := Prod.mk.inj h

/-- What a copied chunk leaves of its channel. -/
structure State.Copied (s : State) (c : Nat) (t : State) : Prop where
  bytes : ∀ z, t.dramGet z = if rankPlace c (fld (s.rg .drcChCtl 0 c) 1 0) + (s.dch c).migPtr ≤ z ∧
      z < rankPlace c (fld (s.rg .drcChCtl 0 c) 1 0) + (s.dch c).migPtr + 256 then
    s.dramGet (rankPlace c (s.dch c).migRank + (s.dch c).migPtr +
      (z - (rankPlace c (fld (s.rg .drcChCtl 0 c) 1 0) + (s.dch c).migPtr))) else s.dramGet z
  held : t.held = s.held
  route : (t.dch c).route = (s.dch c).route
  queues : (t.dch c).queues = (s.dch c).queues

theorem State.Logged.copied {s u : State} {c : Nat} (h : s.Logged c u) :
    s.Copied c (u.copyChunk c (rankPlace c (s.dch c).migRank + (s.dch c).migPtr)
      (rankPlace c (fld (s.rg .drcChCtl 0 c) 1 0) + (s.dch c).migPtr) false) := by
  have hheld (x : Nat) (b : List Byte) : (u.dramStore c x b).held = u.held :=
    (State.dramStore_writes ..).same .held (by decide)
  refine ⟨fun z => ?_, by rw [State.copyChunk_good, hheld, h.held], ?_, ?_⟩
  · rw [State.dramGet_copyChunk, h.dramGet, h.dramGet]
  · rw [State.copyChunk_good, State.dch_dramStore_same DCh.route (fun _ _ => rfl)]
    exact h.dch_eq DCh.route (fun _ _ => rfl) c
  · rw [State.copyChunk_good, State.dch_dramStore_same DCh.queues (fun _ _ => rfl)]
    exact h.dch_eq DCh.queues (fun _ _ => rfl) c

theorem State.chunkCopied_copied (s : State) (c : Nat) : s.Copied c (s.chunkCopied c) := by
  have hlog (m p : Nat) : s.Logged c ((((s.dlogAcc c 2 m).dlogs c m [2, 2, 2]).dlogAcc c 3 p).dlogs c p [3, 3, 3]) :=
    (s.dlogAcc_logged ..).trans ((State.dlogs_logged ..).trans ((State.dlogAcc_logged ..).trans
      (State.dlogs_logged ..)))
  unfold State.chunkCopied
  dsimp only
  exact (hlog ..).copied

/-- R336: a good chunk is copied, and the copy goes on. -/
theorem State.migChunk_good {s : State} {c : Nat} (hst : (s.dch c).st = .migrating)
    (h : ∀ i < 4, s.poisonedAt c (rankPlace c (s.dch c).migRank + (s.dch c).migPtr + 64 * i) = false) :
    s.migChunk c [] = (s.chunkCopied c).migTo c ((s.dch c).migPtr + 256) := by
  have hgood (u : State) (a : Nat) : (List.range 4).foldl (fun st i => st.eccOutcome c .migration (a + 64 * i)
      (([EccResult.good, .good, .good, .good][i]?).getD .good) false) u = u := rfl
  obtain ⟨-, -, hs, -, -⟩ := DCh.of_route (s.chunkCopied_copied c).route
  have hend : ((s.chunkCopied c).dch c).st = .migrating := hs.trans hst
  unfold State.migChunk
  simp only [State.chunkEcc_good h, hgood]
  exact if_pos hend

/-- The field that is set. -/
theorem fld_setFld (w : Word) {hi lo : Nat} (h : hi < 32) (v : Nat) :
    fld (setFld w hi lo v) hi lo = v % 2 ^ (hi + 1 - lo) := by
  refine fld_eq_of_bits (Nat.mod_lt _ (Nat.two_pow_pos _)) fun i hi' => ?_
  rw [bit_setFld _ (by omega), if_pos (by omega), Nat.add_sub_cancel_left, Nat.testBit_mod_two_pow]
  simp [hi']

/-- R336: what the last chunk of a migration sets. -/
def DCh.migrated (d : DCh) : DramState × Bool × Nat × Bool := (d.st, d.spareUsed, d.retired, d.migDone)

theorem DCh.of_migrated {d : DCh} {st : DramState} {u m : Bool} {r : Nat} (h : d.migrated = (st, u, r, m)) :
    d.st = st ∧ d.spareUsed = u ∧ d.retired = r ∧ d.migDone = m := by
  simpa [DCh.migrated] using h

/-- R336: the copy has come to the rank's end: the spare takes the rank's place. -/
theorem State.migTo_end {s : State} {c p : Nat} (h : rankSize (s.rg .drcCfg) ≤ p) :
    ((s.migTo c p).dch c).migrated = (.service, true, (s.dch c).migRank, true) ∧
      fld ((s.migTo c p).rg .drcChCtl 0 c) 6 4 = (4 + (s.dch c).migRank) % 8 ∧
      ∀ z, (s.migTo c p).dramGet z = s.dramGet z := by
  unfold State.migTo
  rw [if_pos h]
  refine ⟨?_, ?_, fun z => ?_⟩
  · rw [State.dch_setDramSt, if_pos rfl, State.dch_setDch, if_pos rfl]
    obtain ⟨b, hb⟩ := DCh.enter_eq { s.dch c with
      spareUsed := true, retired := (s.dch c).migRank, migDone := true, migPtr := 0 } .service
    exact (congrArg DCh.migrated hb).trans rfl
  · rw [rg_of_held (State.setDramSt_held ..)]
    refine (congrArg (fld · 6 4) (State.rg_setRg ..)).trans ?_
    exact fld_setFld _ (by decide) _
  · rw [State.dramGet_setDramSt]
    refine (State.dramGet_setDch ?_ z).trans ?_ <;> rfl

/-- R336: it goes on. -/
theorem State.migTo_on {s : State} {c p : Nat} (h : ¬ rankSize (s.rg .drcCfg) ≤ p) :
    (s.migTo c p).dch c = { s.dch c with migPtr := p } ∧ ∀ z, (s.migTo c p).dramGet z = s.dramGet z := by
  unfold State.migTo
  rw [if_neg h]
  exact ⟨(State.dch_setDch ..).trans (if_pos rfl), State.dramGet_setDch rfl⟩

/-- Settles O53. -/
theorem dramUpkeep : Obligations.DramUpkeep := by
  unfold Obligations.DramUpkeep
  refine ⟨fun s c rk hon ha hrk hret hdue => ⟨?_, fun hq hn => ?_⟩, fun s c rk h => ?_, fun s c hot hon hst ht => ?_,
    fun s c hon hst => ⟨fun hz => ⟨?_, ?_⟩, fun hz => ⟨?_, ?_⟩, fun hp hpo => ?_⟩, fun s c hon hst hgood => ?_⟩
  · refine (becomes_of_act (i := .refresh c rk false) (f := fun s => s.refreshRank c rk false) rfl
      (by simp [hon, ha, hrk, hret, hdue])).completes ?_
    obtain ⟨hr, hh, hm⟩ := s.refreshRank_issued c rk
    simp only [State.refNext, State.rg, State.dch_intSweep, State.intSweep_held, State.intSweep_dram]
    refine ⟨congrArg Prod.fst hr, ?_, hm⟩
    rw [hh]
    exact congrArg Prod.snd hr
  · refine (becomes_of_act (i := .refresh c rk true) (f := fun s => s.refreshRank c rk true) rfl
      (by simp [hon, ha, hrk, hret, hdue])).completes ?_
    obtain ⟨hr, hh, hm⟩ := State.refreshRank_postponed hq hn
    simp only [State.refNext, State.rg, State.dch_intSweep, State.intSweep_held, State.intSweep_dram]
    refine ⟨congrArg Prod.fst hr, ?_, hm⟩
    rw [hh]
    exact congrArg Prod.snd hr
  · exact DCh.nextRef_first h (rankCount_le _) rk
  · refine (becomes_of_act (i := .temperatureRead c hot)
      (f := fun s => (s.setDch c { s.dch c with hot := hot, tempAt := s.mono }).dlogAll c [9]) rfl
      (by simp [hon, hst, ht])).completes ?_
    rw [State.dch_intSweep, State.intSweep_dram]
    refine ⟨?_, (State.dlogAll_logged ..).mem⟩
    rw [(State.dlogAll_logged ..).dch_eq (·.hot) (fun _ _ => rfl) c, State.dch_setDch, if_pos rfl]
  · exact becomes_of_act (i := .zqCalibration c true) (f := fun s => s.calibrate c 8 true) rfl (by simp [hon, hst, hz])
  · exact becomes_of_act (i := .zqCalibration c false) (f := fun s => s.calibrate c 8 false) rfl
      (by simp [hon, hst, hz])
  · exact becomes_of_act (i := .dqsOscillatorCheck c true) (f := fun s => s.calibrate c 9 true) rfl
      (by simp [hon, hst, hz])
  · exact becomes_of_act (i := .dqsOscillatorCheck c false) (f := fun s => s.calibrate c 9 false) rfl
      (by simp [hon, hst, hz])
  · rw [← State.patrol_good hpo]
    exact becomes_of_act (i := .patrolScrub c .good) (f := fun s => s.patrol c .good) rfl (by simp [hon, hst, hp])
  · refine (becomes_of_act (i := .migrationChunk c []) (f := fun s => s.migChunk c []) rfl
      (by simp [hon, hst])).completes ?_
    rw [State.migChunk_good hst hgood]
    obtain ⟨hbytes, hheld, hroute, hqueues⟩ := s.chunkCopied_copied c
    obtain ⟨-, -, hs, hrank, -⟩ := DCh.of_route hroute
    obtain ⟨hrq, hwq⟩ := DCh.of_queues hqueues
    have hsize : (s.chunkCopied c).rg .drcCfg = s.rg .drcCfg := rg_of_held hheld ..
    simp only [State.dramGet_intSweep, State.dch_intSweep, rg_of_held (State.intSweep_held _)]
    by_cases h : rankSize (s.rg .drcCfg) ≤ (s.dch c).migPtr + 256
    · obtain ⟨hd, hf, hm⟩ := State.migTo_end (s := s.chunkCopied c) (c := c)
        (p := (s.dch c).migPtr + 256) (by rwa [hsize])
      rw [hrank] at hd hf
      refine ⟨fun z => (hm z).trans (hbytes z), ?_⟩
      rw [if_pos h]
      obtain ⟨hst', hused, hret, hdone⟩ := DCh.of_migrated hd
      exact ⟨hst', hused, hret, hdone, hf⟩
    · obtain ⟨hd, hm⟩ := State.migTo_on (s := s.chunkCopied c) (c := c)
        (p := (s.dch c).migPtr + 256) (by rwa [hsize])
      refine ⟨fun z => (hm z).trans (hbytes z), ?_⟩
      rw [if_neg h, hd]
      dsimp only
      exact ⟨hs.trans hst, rfl, hrank, hrq, hwq⟩

end Sys2Proof.Machine
end
